-- ==== Sys2Proof/Word.lean ====
section
/-! DEFINITION. The words the model is written in: register fields, register table rows, Ridgeline
timestamps (R51) and the plainest arithmetic on them. -/

namespace Sys2Proof

/-- A 32-bit register or memory word, as a host reads and writes it. -/
abbrev Word := BitVec 32

/-- A register field: its key (32 times the byte address of its register plus its lowest bit) and width. -/
structure Fld where
  key : Nat
  w : Nat
  deriving DecidableEq, Repr

/-- The IRQ_STAT bit beside a STICKY bit: the same bit of the register two words below (R450). -/
def Fld.irq (f : Fld) : Fld := ⟨f.key - 256, f.w⟩

/-- The IRQ_EN bit beside a STICKY bit. -/
def Fld.irqEn (f : Fld) : Fld := ⟨f.key - 128, f.w⟩

/-- The access types of R10. -/
inductive Access where
  | ro | rw | rws | w1c | wo
  deriving DecidableEq, Repr

/-- Where a page's registers stand (R516). -/
inductive Die where
  | main | power | both
  deriving DecidableEq, Repr

/-- One field of a register table: offset in its page, two repeats with their strides, lowest bit, width,
access type, reset value. -/
structure Row where
  off : Nat
  n1 : Nat
  s1 : Nat
  n2 : Nat
  s2 : Nat
  lo : Nat
  w : Nat
  acc : Access
  rst : Nat
  deriving DecidableEq, Repr

/-- Whether the row has an instance at page offset `o`. -/
def Row.covers (r : Row) (o : Nat) : Bool :=
  let d := o - r.off
  r.off ≤ o && d / r.s1 < r.n1 && d % r.s1 / r.s2 < r.n2 && d % r.s1 % r.s2 == 0

/-- One page of R516. -/
structure PageInfo where
  base : Nat
  type : Nat
  inst : Nat
  die : Die
  irq : Nat
  deriving DecidableEq, Repr

/-- A Ridgeline time: TAI seconds, nanoseconds, fraction in 2^-16 ns (R51, R52). -/
structure Stamp where
  sec : Nat
  ns : Nat
  frac : Nat
  deriving DecidableEq, Repr

/-- The signed value of the low `w` bits of a number. -/
def signedOf (w n : Nat) : Int :=
  if n % 2 ^ w < 2 ^ (w - 1) then (n % 2 ^ w : Int) else (n % 2 ^ w : Int) - (2 ^ w : Int)

/-- The low `w` bits of an integer, as a field holds them. -/
def unsignedOf (w : Nat) (i : Int) : Nat := (i % (2 ^ w : Int)).toNat

/-- Bit `b` of a number. -/
def bitOf (n b : Nat) : Bool := n.testBit b

/-- A Bool as the bit a register shows. -/
def bit (b : Bool) : Nat := if b then 1 else 0

/-- A number with bit `b` set. -/
def withBit (n b : Nat) : Nat := n ||| 2 ^ b

/-- A number with bit `b` cleared. -/
def clearBit (n b : Nat) : Nat := if n.testBit b then n - 2 ^ b else n

/-- Write entry `n` of a list of like things; entries beyond its end read `d`. -/
def setAt {α : Type} (l : List α) (n : Nat) (v d : α) : List α :=
  (l ++ List.replicate (n + 1 - l.length) d).set n v

/-- Change entry `n` of a list of like things. -/
def modAt {α : Type} (l : List α) (n : Nat) (g : α → α) (d : α) : List α := setAt l n (g (l.getD n d)) d

/-- The word bits of `n` that `m` does not name. -/
def clearMask (n m : Nat) : Nat := n - (n &&& m)

/-- Total order of Ridgeline times, as 2^-16 ns counts. -/
def Stamp.ticks (t : Stamp) : Nat := (t.sec * 1000000000 + t.ns) * 65536 + t.frac

/-- The Ridgeline time that is `n` counts of 2^-16 ns. -/
def Stamp.ofTicks (n : Nat) : Stamp :=
  ⟨n / 65536 / 1000000000, n / 65536 % 1000000000, n % 65536⟩

/-- A time moved by a signed number of 2^-16 ns counts; it does not go below zero. -/
def Stamp.shift (t : Stamp) (d : Int) : Stamp := Stamp.ofTicks ((t.ticks : Int) + d).toNat

end Sys2Proof
end

