-- ==== Sys2Proof/Machine/Blocks.lean ====
section
/-! DEFINITION. What the blocks hold beside their registers: plain data, one structure per block. A value that
the spec shows in a register field is kept in that field alone and not here. -/

namespace Sys2Proof.Machine

/-- A Ridgeline frame (R69): header, data blocks, the CRC-32 its END block carries, whether it ends in END_ABORT
(R70), and how many control blocks of a type without a meaning came with it (R67, log entry 17); its LEN is the number of
its data blocks. -/
structure Frame where
  cls : Nat := 0
  dest : Nat := 0
  src : Nat := 0
  hops : Nat := 0
  type : Nat := 0
  seq : Nat := 0
  wrap : Bool := false
  data : List Nat := []
  crc : Nat := 0
  abort : Bool := false
  stray : Nat := 0
  deriving DecidableEq, Repr, Inhabited

/-- A control block that is not part of a frame (R67). -/
structure Keepalive where
  addr : Nat := 0
  lane : Nat := 0
  upIsYou : Bool := false
  gmHops : Nat := 0xFF
  valid : Bool := false
  deriving DecidableEq, Repr, Inhabited

/-- What waits to leave on a lane: a frame, a keep-alive or an echo probe. -/
inductive TxItem where
  | frame (f : Frame)
  | keepalive (k : Keepalive)
  | echo (probe : Nat)
  deriving DecidableEq, Repr

/-- What the transmit pins of a lane carry in a cycle: electrical idle, a control block with its type and payload, a
data block (R67), a raw word (R100), generator bits (R114), or received data sent again (R112). -/
inductive LineOut where
  | idle
  | control (type payload : Nat)
  | data (w : Nat)
  | raw (w : Nat)
  | prbs (w : Nat)
  | looped
  deriving DecidableEq, Repr, Inhabited

/-- SYS: reset and start-up (R485 to R498). -/
structure Sys where
  /-- The main die is held in reset. -/
  inReset : Bool := false
  /-- The reset is held by a boundary-scan instruction (R483). -/
  jtagHold : Bool := false
  /-- The power-die logic is held in reset (R486). -/
  pwrReset : Bool := true
  /-- CLK_FAB cycle of the last main-die release. -/
  releaseAt : Nat := 0
  /-- The CLK_FAB cycle of the last record of a guarantee transition, SYS_GUAR before that cycle's changes, and whether a
  bit of [3:0] has cleared in it (R29). -/
  guarAt : Option (Nat × Nat × Bool) := none
  /-- CLK_FAB cycle of the last power-die release. -/
  pwrReleaseAt : Option Nat := none
  /-- CONFIG has ended (R491). -/
  cfgEnded : Bool := false
  /-- SYS_CMD.PERMIT written since the release (R493). -/
  hostPermit : Bool := false
  /-- CLK_FAB cycle at which WAIT began; SYS_START.TMO_MS has passed since (R493). -/
  waitAt : Nat := 0
  waitTmo : Bool := false
  /-- CLK_FAB cycle at which the main die last entered reset (R487). -/
  resetAt : Nat := 0
  /-- Stage reached before the last main-die reset (R499). -/
  stageBefore : Nat := 0
  /-- The DRV_EN pin is high (R492, R494, R384). -/
  drvEn : Bool := false
  deriving DecidableEq, Repr, Inhabited

/-- The states of Plumb. -/
inductive PlumbMode where
  | off | search | locked | holdover | relock
  deriving DecidableEq, Repr, Inhabited

/-- Plumb: the delay-locked line (R31 to R49, R522). -/
structure Plumb where
  mode : PlumbMode := .off
  /-- The reference being searched or relocked: 0 = A, 1 = B. -/
  searchRef : Nat := 0
  /-- The attempt runs from the stored code. -/
  hop : Bool := false
  /-- Cause of a full search: 0 = reset, 1 = hop miss, 2 = RELOCK_FULL (R60). -/
  cause : Nat := 0
  /-- CLK_FAB cycle at which the search began. -/
  searchAt : Nat := 0
  /-- CLK_FAB cycle at which holdover began. -/
  holdAt : Nat := 0
  /-- The reference lost at holdover entry. -/
  lostRef : Nat := 0
  /-- Holdover has lasted 100 ms (R49). -/
  holdLong : Bool := false
  /-- A first lock has followed the reset (R37, R523). -/
  everLocked : Bool := false
  /-- The offset the movement aims at, and the fine steps left of the movement: above 0 later, below 0 earlier
  (R35, R37, R38). -/
  target : Nat := 0
  left : Int := 0
  /-- CLK_FAB cycle at which a qualification began the running attempt (the tie of R33). -/
  qualAt : Option Nat := none
  /-- LOCK_FILT stands at or above 0.6 V, as far as the comparator's events tell: it rose above 0.9 V, or stood between
  the thresholds at a reset, and has not fallen below 0.6 V since (R44). -/
  filtHigh : Bool := false
  /-- The detector has sourced current since LOCK_FILT last stood below 0.6 V (R43, R44). -/
  filtRise : Bool := false
  /-- Stored-code updates that wait for Bedrock to start them: the reference and the code (R41, R410). -/
  codes : List (Nat × Nat) := []
  deriving DecidableEq, Repr, Inhabited

/-- What the detector drives on LOCK_FILT (R43): it sources 20 µA, sinks 20 µA clamped at 0 V, or is high-impedance. -/
inductive FiltDrive where
  | source | sink | hiZ
  deriving DecidableEq, Repr

/-- The local timebase (R50 to R59). -/
structure Tim where
  /-- Ridgeline time in units of 1/327680 ns (a fifth of 2^-16 ns; one CLK_FAB cycle is 2^21 units). -/
  t : Nat := 0
  /-- How far the start of the running cycle lies before time 0, when an edge inside it became nanosecond 0 of second 0
  (R54). -/
  lag : Nat := 0
  /-- The timebase counts (R523). -/
  counting : Bool := false
  /-- The armed seconds value (R54). -/
  armed : Option Nat := none
  /-- Consecutive PPS_IN edges more than 20 ns off (R56). -/
  ppsBad : Nat := 0
  /-- Time of day was applied with LOCK clear; VALID sets at the next edge accepted while LOCK is set (R54). -/
  validNext : Bool := false
  /-- The PPS_OUT pin is high; the times at which the pulse rose and at which it falls, in units of the timebase (R58). -/
  ppsOut : Bool := false
  ppsRise : Int := 0
  /-- The second boundary whose offset has not passed yet (R58). -/
  ppsDue : Option Nat := none
  ppsFall : Int := 0
  deriving DecidableEq, Repr, Inhabited

/-- A Ledger record before it is written (R416). -/
structure LedgerRec where
  code : Nat := 0
  inst : Nat := 0
  /-- Byte 3: severity and the state flags [7:3]. -/
  sev : Nat := 0
  opsec : Nat := 0
  pwrcyc : Nat := 0
  p0 : Nat := 0
  p1 : Nat := 0
  p2 : Nat := 0
  p3 : Nat := 0
  deriving DecidableEq, Repr, Inhabited

/-- The source states of Bedrock (R405). -/
inductive BedSrc where
  | main | harv | bat | off
  deriving DecidableEq, Repr, Inhabited

/-- A counter checkpoint (R410, R415). -/
structure Checkpoint where
  opsec : Nat := 0
  pwrcyc : Nat := 0
  wraps : Nat := 0
  lost : Nat := 0
  roNext : Nat := 0
  deriving DecidableEq, Repr, Inhabited

/-- Bedrock (R401 to R415). -/
structure Bed where
  src : BedSrc := .off
  /-- Operating seconds, 40 bits (R414). -/
  opsec : Nat := 0
  /-- Operating seconds at the loss of VDD_PWR, none when Bedrock has been in OFF since. -/
  absentAt : Option Nat := none
  /-- A cold start has run since the last OFF (R408). -/
  coldRan : Bool := false
  /-- The two checkpoint copies, newest first. -/
  cps : List Checkpoint := []
  /-- What the scan compares with: operating seconds of the checkpoint restored (R415). -/
  cpOpsec : Nat := 0
  /-- A time anchor is due at the next tick; operating seconds of the last anchor (R425). -/
  anchorDue : Bool := false
  anchorAt : Nat := 0
  /-- The previous anchor: Ridgeline time, operating seconds, power cycle, VALID. -/
  anchorPrev : Option (Nat × Nat × Nat × Bool) := none
  /-- A checkpoint or a metrology save of a loss of VDD_PWR waits, and goes before the records (R411). -/
  cpDue : Bool := false
  savDue : Bool := false
  /-- Operating seconds of the last checkpoint and of the last metrology save, of which each is due every 60 s (R410). -/
  cpAt : Nat := 0
  savAt : Nat := 0
  /-- Operating seconds of the last open-circuit sample, and whether no probe has followed it (R406, R409). -/
  vocAt : Option Nat := none
  vocNew : Bool := false
  /-- CLK_FAB cycle at which the crystal failed, or Bedrock started; the cycle at which VDD_PWR was lost. -/
  xtalAt : Nat := 0
  lossAt : Nat := 0
  /-- VBAT, V_STORE and HARV_IN in mV, as the last command that measured each told it (R404, R405, R408). -/
  vbat : Nat := 0
  vstore : Nat := 0
  harvIn : Nat := 0
  /-- The domain has started from OFF since MAIN was last entered (R407). -/
  offStart : Bool := false
  deriving DecidableEq, Repr, Inhabited

/-- The Ledger's buffers (R418 to R424). -/
structure Ldg where
  /-- The 16-entry Bedrock buffer, oldest first. -/
  buf : List LedgerRec := []
  /-- How many of them, the last ones, came from the main die in this CLK_FAB cycle (R419). -/
  now : Nat := 0
  /-- Records held on the main die while the die-to-die path is failed (at most 64). -/
  hold : List LedgerRec := []
  /-- Records beyond the 64 held. -/
  holdLost : Nat := 0
  /-- Code and operating seconds of the first and last deferred record. -/
  defFirst : Option (Nat × Nat) := none
  defLast : Option (Nat × Nat) := none
  /-- An erase runs (R422), and the count of records it erases. -/
  erasing : Bool := false
  eraseN : Nat := 0
  deriving DecidableEq, Repr, Inhabited

/-- A queue record that waits for its signature (R477): queue, type and words after the header. -/
structure SignJob where
  q : Nat := 0
  type : Nat := 0
  words : List Nat := []
  deriving DecidableEq, Repr, Inhabited

/-- The security block (R476 to R482). The fuses and the locks stand here: the page's status follows them. -/
structure Sec where
  /-- Queue records of the signer, oldest first: the one it works on, unless it works on the challenge, and at most 8 that
  wait (R477). -/
  jobs : List SignJob := []
  /-- The words of the challenge that waits behind them (R478). -/
  chal : Option (List Nat) := none
  /-- The signer works on the challenge (R477, R478). -/
  chalNow : Bool := false
  /-- The running fuse operation: its command's bit and the key words written (R480). -/
  fuse : Option (Nat × List Nat) := none
  /-- CLK_FAB cycle at which it began. -/
  fuseAt : Nat := 0
  /-- The fused integrator key, once fused. -/
  ikey : Option (List Nat) := none
  enforce : Bool := false
  metPerm : Bool := false
  /-- The volatile metrology lock on the power die (R481). -/
  metLock : Bool := false
  deriving DecidableEq, Repr, Inhabited

/-- A request on the host link (R437): TYPE, TAG, COUNT, ADDR, data words, requester. -/
structure LinkReq where
  type : Nat := 0
  tag : Nat := 0
  count : Nat := 0
  addr : Nat := 0
  data : List Nat := []
  src : Nat := 0
  deriving DecidableEq, Repr, Inhabited

/-- The host interface (R428 to R439). -/
structure Hst where
  /-- Write words waiting in the write buffer: start address of the transaction, address and value, oldest first. -/
  wbuf : List (Nat × Nat × Nat) := []
  /-- What the last QSPI transaction returned: its token, then its words. -/
  token : Nat := 0
  out : List Nat := []
  /-- Host-link requests waiting, oldest first (at most 8). -/
  link : List LinkReq := []
  deriving DecidableEq, Repr, Inhabited

/-- Which configuration copies a running verify still has to check (R464). -/
structure Cfg where
  verA : Bool := false
  verB : Bool := false
  /-- The copy chosen for application at CONFIG, and whether the other is valid. -/
  chosen : Option Nat := none
  other : Bool := false
  deriving DecidableEq, Repr, Inhabited

/-- Cairn (R465 to R470). -/
structure Crn where
  /-- Triggers waiting for their snapshot cycles, one entry a cycle: the cycle, cause bits and fault-event bits (R466). -/
  due : List (Nat × Nat × Nat) := []
  /-- CLK_FAB cycle of the last CRN_CMD.RELEASE (R468). -/
  releasedAt : Option Nat := none
  /-- CLK_FAB cycle of the previous snapshot (R467). -/
  lastAt : Option Nat := none
  /-- The CAIRN output is high (R469). -/
  pin : Bool := false
  deriving DecidableEq, Repr, Inhabited

/-- Health monitoring: conditions with hysteresis (R472). -/
structure Mon where
  /-- Sensors above HI, and below LO, one bit each. -/
  hot : Nat := 0
  cold : Nat := 0
  /-- Drift records wait for both dies (R475). -/
  driftDue : Bool := false
  deriving DecidableEq, Repr, Inhabited

/-- The boundary-scan instructions (R483). -/
inductive JtagInstr where
  | bypass | idcode | sample | extest | highz
  deriving DecidableEq, Repr, Inhabited

/-- The test access port: the current instruction, its data register, and the boundary cells. -/
structure Jtag where
  instr : JtagInstr := .idcode
  dr : Nat := 0
  /-- The pins captured, and what the cells drive (none: high-impedance). -/
  pins : List Bool := []
  cells : List (Option Bool) := []
  deriving DecidableEq, Repr, Inhabited

/-- The shadowed groups (R452): those whose committed sets wait for an update point. -/
inductive Group where
  | clkPhase | ke0Timing | ke1Entry | fpm | grdProfile | grdSettings | mptScan | mptIsland
  | trp | aux | cmp (c : Nat) | gdpProfile | gdpBrake | fad | fac
  | metMeasure | metPulse | metFreeze | mtc | phs | twv | pmp | par | but | que | mon
  deriving DecidableEq, Repr

/-- What a lane holds beside its page (R98 to R116) and its Ridgeline link (R77 to R90). -/
structure Lane where
  /-- What waits to leave on the lane, in the order it leaves (R72). -/
  tx : List TxItem := []
  /-- The frame of a lower class and the S frame that are being sent, with the blocks that have left (R72). -/
  cur : Option (Frame × Nat) := none
  curS : Option (Frame × Nat) := none
  /-- What the lane sends in this cycle. -/
  out : LineOut := .idle
  /-- Held in electrical idle: by a role conflict (R101), or by a wrong rate (R62). -/
  idle : Bool := false
  clash : Bool := false
  rateBad : Bool := false
  /-- RETRY_LIM was reached: the lane waits in stage 1 for RETRAIN (R109). -/
  exhausted : Bool := false
  /-- CLK_FAB cycle at which the lane last left stage 1, and at which it entered the stage it stands in (R104). -/
  bringAt : Nat := 0
  stageAt : Nat := 0
  /-- Bits of the line time that have passed since the last block or raw word began to leave (R98). -/
  txBits : Nat := 0
  /-- The partner's TRAIN blocks have reported STAGE at least 6 since stage 2 (R104); the STAGE and ADDR that its last
  TRAIN block carried. -/
  partner : Bool := false
  pStage : Nat := 0
  pAddr : Nat := 0xFFF
  /-- Delay measurement (R107): this end has sent CORR; this end has stored CORR; the result sent. -/
  sentCorr : Bool := false
  gotCorr : Bool := false
  corrOut : Option Nat := none
  /-- The own turn: LOOP_REQ is sent; blocks left of the loop; the exchanges run, those completed, and t1 of the one in
  progress. -/
  loopReq : Bool := false
  loopLeft : Nat := 0
  exRun : Bool := false
  exN : Nat := 0
  exAt : Option Nat := none
  /-- The round trips of its exchanges, summed, in 2^-16 ns. -/
  exSum : Int := 0
  /-- Receive word boundary, in bits past its first position (R111). -/
  slip : Nat := 0
  /-- The shift registers of the PRBS generator and of its checker (R114). -/
  genReg : Nat := 0
  chkReg : Nat := 0
  /-- The live PRBS counters, and generator bits still to be inverted (R115). -/
  bits : Nat := 0
  errs : Nat := 0
  inject : Nat := 0
  /-- The CLK_FAB cycle of the last PRBS_CNT_CLR (R115); bits and errors of the 64-bit word that the checker compares, and
  how many words in a row have held more than 16 errors (R114). -/
  clrAt : Option Nat := none
  wordBits : Nat := 0
  wordErrs : Nat := 0
  badWords : Nat := 0
  /-- The last keep-alive received; none = none since the neighbour was lost. -/
  advert : Option Keepalive := none
  /-- Forwarding stopped by a keep-alive with the node's own address (R63). -/
  noForward : Bool := false
  /-- The link is UP (R90). -/
  up : Bool := false
  /-- A wrap at this lane is in progress (R25, R87). -/
  turning : Bool := false
  /-- Calibrated loop round trip in 6.25 ps steps; the probes of the check that are out, and the echoes summed since it
  began (R85). -/
  loopRt : Nat := 0
  echoOut : List Nat := []
  echoN : Nat := 0
  echoSum : Nat := 0
  /-- In-band recalibration is running: its probes that are out and its echoes. -/
  recal : Bool := false
  recalOut : List Nat := []
  recalN : Nat := 0
  recalSum : Nat := 0
  deriving DecidableEq, Repr, Inhabited

/-- An outstanding mailbox or bulk request (R93, R96). -/
structure Request where
  tag : Nat := 0
  write : Bool := false
  /-- A broadcast write: done when its frame has left (R94). -/
  bcast : Bool := false
  /-- Bulk: queue, words still expected, error so far. -/
  queue : Nat := 0
  left : Nat := 0
  err : Nat := 0
  deriving DecidableEq, Repr, Inhabited

/-- A bulk read that this node serves (R96). -/
structure BulkJob where
  src : Nat := 0
  tag : Nat := 0
  addr : Nat := 0
  left : Nat := 0
  frag : Nat := 0
  deriving DecidableEq, Repr, Inhabited

/-- The ring (R61 to R96). -/
structure Rdg where
  /-- The next SEQ and the next request TAG. -/
  seq : Nat := 0
  tag : Nat := 0
  /-- SRC and SEQ of S frames forwarded and delivered, with the CLK_FAB cycle (R73). -/
  fwdSeen : List (Nat × Nat × Nat) := []
  rxSeen : List (Nat × Nat × Nat) := []
  /-- SRC and SEQ of S frames that this node placed on the ring and has taken back, with the cycle (R65, R73). -/
  backSeen : List (Nat × Nat × Nat) := []
  /-- The upstream choice met 128 hops or more (R79). -/
  exceed : Bool := false
  /-- t1 of the exchange in progress and its lane (R80). -/
  t1 : Option (Nat × Nat) := none
  /-- Integral rate of the servo in 2^-16 ns (R82), consecutive exchanges below 20 ns (R83). -/
  rate : Int := 0
  conv : Nat := 0
  /-- What the slew of the last exchange has still to add, in units of the timebase (R82). -/
  slew : Int := 0
  mailbox : Option Request := none
  bulk : Option Request := none
  serving : List BulkJob := []
  /-- The next echo probe identifier. -/
  probe : Nat := 0
  deriving DecidableEq, Repr, Inhabited

/-- A gate profile sequence on a SLEW pin (R269, R270): 0 = none, 1 = strong T1, 2 = weak T2, 3 = soft turn-off;
`t2` is the weak phase to come. -/
structure Slew where
  phase : Nat := 0
  t2 : Nat := 0
  /-- The instant in 100 ps, counted as the CLK_FAB cycles are, at which the running phase ends. -/
  till : Nat := 0
  deriving DecidableEq, Repr, Inhabited

/-- A gate edge of a pump pre-driver: its instant in 100 ps, the time for which the drive stays strong and the time for
which it is then weak (R272). -/
structure PumpEdge where
  at' : Nat := 0
  strong : Nat := 0
  weak : Nat := 0
  deriving DecidableEq, Repr, Inhabited

/-- A PWM pair (R230 to R253). -/
structure Pair where
  /-- Its counter runs. -/
  run : Bool := false
  /-- The pending values not yet adopted: bits 0 to 4 for CFG, PER, CMPA, CMPB, DT (R239). -/
  pend : Nat := 0
  /-- The intervals [lo, hi) in 100 ps of the period in which H and L (independent) are commanded on. -/
  hLo : Nat := 0
  hHi : Nat := 0
  lLo : Nat := 0
  lHi : Nat := 0
  /-- A period has started. -/
  started : Bool := false
  /-- The interlock acts: both outputs are commanded on at its rank (R244). -/
  blocked : Bool := false
  /-- The outputs that the compare values command. -/
  geoH : Bool := false
  geoL : Bool := false
  /-- The commanded outputs, and the outputs after dead time. -/
  cmdH : Bool := false
  cmdL : Bool := false
  drvH : Bool := false
  drvL : Bool := false
  /-- A dead time runs before an output turns on (R243). -/
  deadH : Bool := false
  deadL : Bool := false
  /-- The start of the running period, or the first boundary while none has started, in 100 ps counted as the CLK_FAB
  cycles are; the start of the most recent period (R230, R232, R264). -/
  start : Nat := 0
  last : Option Nat := none
  /-- The CLK_FAB cycle in which each of the five registers was committed (R239). -/
  commitAt : List Nat := []
  /-- The instants in 100 ps at which the dead times of H and L end. -/
  deadAtH : Nat := 0
  deadAtL : Nat := 0
  /-- The outputs wait for the next period boundary (R245, R253). -/
  hold : Bool := true
  /-- The cycle latch, the safe state of the latched trip, the CLK_FAB cycle of the hard latch (R249). -/
  cyc : Bool := false
  safe : Nat := 0
  latchAt : Nat := 0
  /-- The pins stand high-impedance (R18 rank 1). -/
  hiZ : Bool := true
  slewH : Slew := {}
  slewL : Slew := {}
  deriving DecidableEq, Repr, Inhabited

/-- The trip matrix and the PWM pages beside their registers. -/
structure Pwm where
  /-- The pages PWM0 to PWM2 and PWX whose counters start at the next sample instant (R232). -/
  startDue : List Nat := []
  /-- Groups asserted by sources outside 112 to 127 (R254). -/
  localGroups : Nat := 0
  /-- The sources asserted for this coarse tick alone (R248), and whether an interlock with SB_TRIP asks for source 107
  (R244). -/
  pulses : List Nat := []
  shoot : Bool := false
  /-- The hardware brake request (R273), whether MIN_ON or MIN_OFF is running and the CLK_FAB cycle in which it ends,
  the cycle in which the request last set, and whether its length has been recorded (R275). -/
  brkReq : Bool := false
  brkHeld : Bool := false
  brkTill : Nat := 0
  brkAt : Nat := 0
  brkTold : Bool := false
  /-- The position of the event being handled in its CLK_FAB cycle, in 100 ps (R231). -/
  fine : Nat := 0
  /-- The AUX channels run (R232); the instants in 100 ps at which their windows end (R252). -/
  auxRun : Bool := false
  auxTill : List Nat := []
  deriving DecidableEq, Repr, Inhabited

/-- A window comparator (R258 to R268). -/
structure Cmp where
  /-- The voltage at CIN, in units of 1/16 µV: one threshold code is 28,125 of them (R258). -/
  volt : Nat := 0
  /-- The decisions at its input; they stand apart from the shown ones while a test holds those (R266). -/
  high : Bool := false
  low : Bool := false
  /-- Counted window starts since the last test (R265). -/
  count : Nat := 0
  /-- A test is due, and a test runs. -/
  due : Bool := false
  testing : Bool := false
  /-- Its tie test runs the lower half. -/
  below : Bool := false
  /-- The instant in 100 ps at which the due or running test begins (R265); the CLK_FAB cycle of its last sample
  (R262). -/
  testAt : Nat := 0
  sampleAt : Option Nat := none
  deriving DecidableEq, Repr, Inhabited

/-- A scan of the maximum-power sequencer (R215 to R218). -/
structure Scan where
  /-- The input being scanned, the point, the periods of the point done, the sums of its last AVG periods. -/
  input : Fin 12 := 0
  point : Nat := 0
  dwell : Nat := 0
  sumV : Rat := 0
  sumI : Rat := 0
  /-- The last point has been taken. -/
  finished : Bool := false
  /-- CFG and PER of the pair in force before the scan, as words (R216, R246). -/
  cfg : Nat := 0
  per : Nat := 0
  deriving DecidableEq, Repr, Inhabited

/-- MPT beside its registers (R213 to R227). -/
structure Mpt where
  scan : Option Scan := none
  /-- Inputs of the round still to be scanned. -/
  todo : List (Fin 12) := []
  /-- An ended scan, whose pair returns to KE0's values and its CFG and PER at the next W (R216 step 6). -/
  giveBack : Option Scan := none
  /-- Points stored by the running scan: V and I slot words. -/
  curve : List (Nat × Nat) := []
  /-- Counts of N of the angle, frequency and ROCOF methods. -/
  nAng : Nat := 0
  nFreq : Nat := 0
  nRocof : Nat := 0
  /-- The methods that indicate an island now, by bit of MPT_ISL_SRC. -/
  indicating : Nat := 0
  /-- CLK_FAB cycle at which the decision latched. -/
  latchedAt : Nat := 0
  /-- The drift at the last frame in 2^-24 π rad, and the baseline B in 2^-64 π rad (log entry 43). -/
  drift : Int := 0
  base : Int := 0
  baseSet : Bool := false
  /-- Frames of the set, and references, that wait for each other: timestamp in ns, angle and frequency words (R220). -/
  frames : List (Nat × Nat × Nat) := []
  refs : List (Nat × Nat × Nat) := []
  /-- The drift bias requested in OSLOT 0xAE. -/
  bias : Nat := 0
  /-- A pulse of active injection runs. -/
  pulse : Bool := false
  /-- An abort has written ISLOT 0x9C in this CLK_FAB cycle, and the monitor has not compared it yet (R171, R218). -/
  slotDue : Bool := false
  /-- Coarse ticks of control periods: since the last round began, for which the conditions of PC_VALID have held, since the
  last pulse began, for which f_sel has been beyond ACTF.F; half coarse ticks since the W at which the last scan ended
  (R215, R216, R219, R221, R222). -/
  roundT : Option Nat := none
  gapT : Option Int := none
  pcT : Option Nat := none
  pulseT : Option Nat := none
  actfT : Option Nat := none
  deriving DecidableEq, Repr, Inhabited

/-- A sample of a converter: its input, the CLK_FAB cycle of its sample instant, its kind (0 = scan or continuous,
1 = urgent, 2 = the repeat of an aborted conversion, 3 = a moved position, 4 = the extra one of an overlap), whether it is a
position of the scan, the urgent line it serves, the physical converter, and whether FCS and FCk both take it in an overlap
(R279, R285, R287, R288). -/
structure Sample where
  input : Nat := 0
  at' : Nat := 0
  kind : Nat := 0
  scan : Bool := false
  line : Option Nat := none
  phys : Nat := 0
  pair : Bool := false
  deriving DecidableEq, Repr, Inhabited

/-- The result is LATE: an urgent one, a repeat, a moved position (R285). -/
def Sample.late (q : Sample) : Bool := q.kind != 0 && q.kind != 4

/-- An urgent request that waits: its line, the cycle in which it was raised, the cycle tu at which it takes effect, whether
its sample has been placed in a slot, and whether it has been counted (R284, R286). -/
structure Urgent where
  line : Nat := 0
  raised : Nat := 0
  due : Nat := 0
  placed : Bool := false
  counted : Bool := false
  deriving DecidableEq, Repr, Inhabited

/-- The traffic of a converter FC00 to FC15 (R279 to R286). -/
structure Conv where
  /-- What is still to sample, in order: input, kind, and whether it is a position of the scan. -/
  todo : List (Nat × Nat × Bool) := []
  /-- The CLK_FAB cycle of the next slot; a trigger has started a scan. -/
  next : Nat := 0
  live : Bool := false
  /-- The last sample, in progress for the 16 cycles of its slot. -/
  cur : Option Sample := none
  /-- Samples whose results are still to come, oldest first. -/
  pipe : List Sample := []
  urg : Option Urgent := none
  deriving DecidableEq, Repr, Inhabited

/-- The fast converters: their traffic, and the CLK_FAB cycle of the last trigger (R279 to R286). -/
structure Fad where
  convs : List Conv := List.replicate 16 {}
  trigAt : Option Nat := none
  deriving DecidableEq, Repr, Inhabited

/-- A table with few entries: the value of a key, a default for a key that is not listed. -/
def tget {α : Type} (d : α) : List (Nat × α) → Nat → α
  | [], _ => d
  | (a, v) :: l, k => if a = k then v else tget d l k

/-- The table with a key's value. -/
def tput {α : Type} : List (Nat × α) → Nat → α → List (Nat × α)
  | [], k, v => [(k, v)]
  | (a, w) :: l, k, v => if a = k then (k, v) :: l else (a, w) :: tput l k v

/-- The stages, accumulators and predicates of an engine (R118 to R124). -/
structure Core where
  /-- Declared lengths, declared exponents and current exponents of the stages, by stage number. -/
  len : List (Nat × Nat) := []
  dexp : List (Nat × Int) := []
  exp : List (Nat × Int) := []
  /-- Mantissas of the elements, by 64 × stage + element. -/
  elem : List (Nat × Int) := []
  /-- Accumulators by position: mantissa (56 bits) and exponent, value = m × 2^(e - 46). -/
  acc : List (Nat × Int × Int) := []
  /-- Predicate registers PR0 to PR7. -/
  pr : List Nat := List.replicate 8 0
  deriving DecidableEq, Repr, Inhabited

/-- A running program check (R132): start word, next word to read, whether a word it reads was written. -/
structure CheckJob where
  start : Nat := 0
  dirty : Option Nat := none
  deriving DecidableEq, Repr, Inhabited

/-- Perturb and observe of one DC input (R211): the operating voltage and its direction, the sum of v·i over the runs of
the current decision and their number, and the mean at the previous decision. What is not known is none. -/
structure PerturbObserve where
  vop : Option Rat := none
  up : Option Bool := none
  sum : Rat := 0
  n : Nat := 0
  prev : Option Rat := none
  deriving DecidableEq, Repr, Inhabited

/-- Values that a ROM program keeps in its stages from run to run, by a key. A value that is not listed is 0 after the
stages have been cleared, and not known otherwise; so is one that is listed as none (R124, log entry 37). -/
structure Kept where
  zero : Bool := false
  val : List (Nat × Option Rat) := []
  deriving DecidableEq, Repr, Inhabited

/-- A value that is kept, `free` where it is not known. -/
def Kept.at (k : Kept) (free : Rat) (i : Nat) : Rat := (tget (if k.zero then some 0 else none) k.val i).getD free

/-- A value that is kept from now on. -/
def Kept.put (k : Kept) (i : Nat) (x : Option Rat) : Kept := { k with val := tput k.val i x }

/-- What the ROM programs of KE0 keep (R182, R188 to R192). -/
structure Rom0 where
  /-- Of bridge `b`: at 16b + 0 to 3 the integrators of u_d+, u_q+, u_d−, u_q−; at 16b + 4 to 6 the estimates of its phase
  currents; at 16b + 7 the integrator of PI_0; at 16b + 8 and 9 those of the voltage loop; at 16b + 10 to 12 the phase
  references of the last run. Of DC input `j`: at 64 + 2j its integrator, at 65 + 2j its estimate. At 96 the estimate of
  the DC-link voltage. -/
  kept : Kept := {}
  /-- Whether the inner pair of a bridge phase has S2 on, and the state that it is due to have; a phase that is not listed
  is not known (R191). -/
  inner : List (Nat × Bool) := []
  due : List (Nat × Bool) := []
  deriving DecidableEq, Repr, Inhabited

/-- What the ROM programs of KE1 keep in their stages from run to run (R211, R212, R342, R354, R473). What is not known is
none. -/
structure RomState where
  po : List (Nat × PerturbObserve) := []
  /-- f_vsm at key 0, θ_vsm in π rad at key 1; the integrator of the voltage loop of input `j` at key 16 + j. -/
  kept : Kept := {}
  /-- The completion code last seen in ISLOT 0x9D. -/
  code : Option Nat := none
  /-- PUMP_SPD: the reference in rpm, the integrator, and the pump time of the last run. -/
  pump : Option (Rat × Rat × Nat) := none
  /-- THERM_DERATE: the filtered temperature, and the pump time of the last run. -/
  therm : Option (Rat × Nat) := none
  /-- ISLAND_ACT: |v−| and the injection of the last run in the pulse that is in progress, the last impedance word,
  consecutive pulses above the threshold. -/
  pulse : Option (Rat × Rat) := none
  zWord : Option Nat := none
  zRun : Nat := 0
  /-- TW_LOCATE: the pair count last seen. -/
  pairs : Option Nat := none
  deriving DecidableEq, Repr, Inhabited

/-- KE0 beside its registers (R118 to R137, R158 to R180). -/
structure Ke0 where
  core : Core := {}
  rom : Rom0 := {}
  /-- Control periods since the sample instant that opened the slot whose set-points stand in ISLOT 0x40 to 0x42 (R190). -/
  age : Nat := 0
  /-- The control-period timer runs (R130, R166). -/
  timer : Bool := false
  /-- A held enable (R385, R492). -/
  held : Bool := false
  /-- KE0 has been in OFF since its last RUN (R124). -/
  fromOff : Bool := true
  /-- A class-0 run is between its start and its END; the word of the store that it runs next (R130). -/
  running : Bool := false
  next : Nat := 0
  /-- Stages that saturated in the current run, and in the most recent one. -/
  satRun : Nat := 0
  satLast : Nat := 0
  /-- Start words of checked programs with their last words and lengths in cycles. -/
  checked : List (Nat × Nat × Nat) := []
  check : Option CheckJob := none
  /-- A committed swap of the parameter banks waits; CLK_FAB cycle of the last swap (R135). -/
  swap : Bool := false
  copyAt : Nat := 0
  /-- Converted outputs 0x00 to 0x61 that wait for W (R128). -/
  conv : List Nat := List.replicate 98 0
  /-- OSLOT 0x00 to 0x7F as the last shadow write had them (R176). -/
  prev : List Nat := List.replicate 128 0
  /-- OSLOT 0x70 to 0x7F as completed at the last W (R126). -/
  feed : List Nat := List.replicate 16 0
  deriving DecidableEq, Repr, Inhabited

/-- What a run of KE1 has latched and written (R126, R127, R162). -/
structure Ke1Run where
  /-- The copy of ISLOT, and of OSLOT 0x70 to 0x7F, that the run reads. -/
  copy : List Nat := List.replicate 256 0
  feed : List Nat := List.replicate 16 0
  /-- OSLOT 0x80 to 0xAF and set-points written in the run. -/
  out : List (Nat × Nat) := []
  set : List (Nat × Nat) := []
  /-- The word of the store that the run executes next (R130); the CLK_FAB cycle in which the run latched (R209). -/
  next : Nat := 0
  cyc : Nat := 0
  deriving DecidableEq, Repr, Inhabited

/-- Set-points of a completed run that KE0 has not seen (R16): the CLK_FAB cycle of its END, the control periods since its
slot opened, and the input slots with their values. -/
structure SetRun where
  at' : Nat := 0
  age : Nat := 0
  words : List (Nat × Nat) := []
  deriving DecidableEq, Repr, Inhabited

/-- KE1 beside its registers. -/
structure Ke1 where
  core : Core := {}
  rom : RomState := {}
  fromOff : Bool := true
  /-- Accumulators and predicates of the suspended class 2 (R159). -/
  saved : Option (List (Nat × Int × Int) × List Nat) := none
  checked : List (Nat × Nat × Nat) := []
  check : Option CheckJob := none
  swap : Bool := false
  copyAt : Nat := 0
  /-- Committed entries that wait for the start of their next run, by bit. -/
  entPend : Nat := 0
  /-- The class whose run is in progress: 0 = none, 1, 2. -/
  cls : Nat := 0
  run1 : Ke1Run := {}
  run2 : Ke1Run := {}
  /-- Set-points of completed runs that KE0 sees from the next sample instant, and the values KE1 reads back
  (R16, R162). -/
  setNew : List SetRun := []
  /-- Control periods since the class-1 slot opened last. -/
  slotAge : Nat := 0
  setOwn : List Nat := List.replicate 64 0
  /-- CLK_ENG cycles of the running class-2 round, and the entry that ran when it passed the limit (R164). -/
  round : Nat := 0
  late : Option Nat := none
  deriving DecidableEq, Repr, Inhabited

/-- One channel of the plausibility monitor (R171 to R179). -/
structure FpmCh where
  /-- The prediction written in the current run, and the one that waits for its comparison. -/
  fresh : Option Nat := none
  waits : Option Nat := none
  /-- A source write without prediction is not flagged before the first one after activation (R173). -/
  seen : Bool := false
  /-- An event has been raised since COUNT was 0. -/
  raised : Bool := false
  /-- Actions in force: the ranges of held OSLOTs (first, count), the trip lines, the takeover request. -/
  hold : List (Nat × Nat) := []
  trips : List Nat := []
  take : Bool := false
  deriving DecidableEq, Repr, Inhabited

/-- The plausibility monitor. -/
structure Fpm where
  ch : List FpmCh := List.replicate 64 {}
  /-- The saturation action in force (R180): trip lines, takeover request. -/
  satLines : List Nat := []
  satTake : Bool := false
  /-- Stages that have acted since their SATFLAGS bit was last clear. -/
  satDone : Nat := 0
  deriving DecidableEq, Repr, Inhabited

/-- The pump drive beside its registers (R344 to R362). -/
structure Pmp where
  /-- The CLK_FAB cycle in which the running PWM period began, the legs whose opposite gate then stood above 1.5 V, and
  the 100 ps of the period after which the current limit ended the on-time (R347, R352, R360). -/
  periodAt : Option Nat := none
  crossed : Nat := 0
  /-- The CLK_FAB cycle from which no gate that the end of the PWM turned off stands above 1.5 V (R360). -/
  crossTill : Nat := 0
  /-- Start attempts since the count was cleared; PMP_ATTEMPTS shows them (R351). -/
  tries : Nat := 0
  limitAt : Nat := 0
  /-- Steps taken since RAMP began (R350). -/
  rampN : Nat := 0
  /-- CLK_FAB cycles: the last one with an output on or a state other than OFF, the entries into ALIGN, RUN and BRAKE, and
  the last delivery of OSLOT 0x80 in RUN (R350, R351, R353, R361). -/
  lowAt : Nat := 0
  alignAt : Nat := 0
  runAt : Nat := 0
  brakeAt : Nat := 0
  feedAt : Nat := 0
  /-- The cycles in which the bootstrap holds of A, B and C began, and in which over-voltage, under-voltage and DIE_LINK
  ended (R357, R362). -/
  holdAt : List Nat := []
  endAt : List Nat := []
  /-- VM_PUMP in mV as last measured (R355, R358). -/
  vm : Option Nat := none
  /-- The gate edges of HA, LA, HB, LB, HC and LC with the profile each follows (R272). -/
  edges : List PumpEdge := []
  /-- The duty command, as a fraction of the period. -/
  duty : Rat := 0
  /-- The on-time of the running PWM period in 100 ps; full-on operation; a refresh runs in it (R347, R356). -/
  onTime : Nat := 0
  full : Bool := false
  refresh : Bool := false
  /-- Periods since the last refresh. -/
  refreshN : Nat := 0
  /-- The current limit has ended the on-time of the period (R352). -/
  limited : Bool := false
  /-- CLK_FAB cycles of the start of RAMP, the last commutation and the last valid crossing. -/
  rampAt : Nat := 0
  commAt : Nat := 0
  zcAt : Option Nat := none
  /-- Consecutive samples of the expected sign and the cycle of the first (R348). -/
  zcN : Nat := 0
  zcFirst : Nat := 0
  /-- The step has held its valid crossing; consecutive RAMP steps that held one. -/
  seen : Bool := false
  steps : Nat := 0
  /-- An over-current fault is latched (R359). -/
  oc : Bool := false
  /-- Enabled comparators that do not act: bit 0 limit, bit 1 over-current (R359). -/
  unprot : Nat := 0
  /-- Sum and count of the current source over the running step, and its mean over the last step (R355). -/
  isum : Int := 0
  iN : Nat := 0
  iMean : Nat := 0
  /-- The commands of the three legs, high and low side, outside a refresh (R360). -/
  legs : List (Bool × Bool) := [(false, false), (false, false), (false, false)]
  deriving DecidableEq, Repr, Inhabited

/-- A complete mirror set (R395): its run count, its words, and the receiver's periods since the run. -/
structure MirrorSet where
  count : Nat := 0
  words : List Nat := []
  age : Nat := 0
  deriving DecidableEq, Repr, Inhabited

/-- A mirror set being received: its run count, its length in frames, the frames so far (index, words). -/
structure MirrorAsm where
  count : Nat := 0
  frames : Nat := 0
  got : List (Nat × List Nat) := []
  deriving DecidableEq, Repr, Inhabited

/-- What an arbiter knows of a device (R389): the CLK_FAB cycle of the last edge while it is alive, and its code. -/
structure ArbPeer where
  edgeAt : Option Nat := none
  code : Nat := 0
  deriving DecidableEq, Repr, Inhabited

/-- Buttress beside its registers (R384 to R398). -/
structure But where
  /-- A grant accepted while ready waits for its takeover instant, and the CLK_FAB cycle of its acceptance (R397). -/
  takeoverDue : Bool := false
  grantAt : Nat := 0
  /-- REQUEST is shown: by command, and since which cycle; automatically (R388, R396). -/
  reqCmd : Bool := false
  reqAt : Nat := 0
  reqAuto : Bool := false
  /-- CLK_FAB cycle since which the device has been ready (R396). -/
  readyAt : Nat := 0
  /-- CLK_FAB cycle at which ACTIVE was entered. -/
  activeAt : Nat := 0
  /-- The partner's state and the cycle of its last status frame. -/
  pState : Nat := 0
  heardAt : Option Nat := none
  /-- Sets of class 0, class 1 and the hardware set in reception, and the newest complete ones. -/
  asms : List (Option MirrorAsm) := [none, none, none]
  sets : List (Option MirrorSet) := [none, none, none]
  /-- Run count of the set last applied, by class. -/
  applied : List (Option Nat) := [none, none, none]
  /-- Classes of which a complete set has come since L4 became ready. -/
  got : Nat := 0
  /-- Periods since the last complete class-0 set. -/
  missed : Nat := 0
  /-- Mirror frames waiting to be sent, the one that waits for its acknowledge, the cycle at which its END left, its
  retries. -/
  txq : List Frame := []
  out : Option Frame := none
  endAt : Option Nat := none
  retry : Nat := 0
  /-- NOT_READY is shown until a complete class-0 set has been acknowledged (R391). -/
  notReady : Bool := false
  /-- Period count and class-1 run count of the sets sent (R391). -/
  periods : Nat := 0
  runs1 : Nat := 0
  /-- Class 1 applies the takeover rule at its next slot (R397). -/
  take1 : Bool := false
  /-- The arbiter's view of the primary and the secondary (R389). -/
  arbP : ArbPeer := {}
  arbS : ArbPeer := {}
  /-- CLK_FAB cycle of the last withdrawal of a grant (R389). -/
  withdrawnAt : Nat := 0
  /-- The SEQ of the next mirror frame, and the [31:0] of the last sample instant in ns. -/
  seq : Nat := 0
  sampleNs : Nat := 0
  /-- The [31:0] in ns of the sample instant at which the last class-1 slot opened (R395). -/
  slotNs : Nat := 0
  deriving DecidableEq, Repr, Inhabited

/-- A phasor channel in single precision: real and imaginary part, magnitude, angle in rad (R322, R327). -/
structure PhasorCh where
  re : Nat := 0
  im : Nat := 0
  mag : Nat := 0
  ang : Nat := 0
  deriving DecidableEq, Repr, Inhabited

/-- The estimates of a set for one frame instant (R322, R323): its four channels, the slot words of |X+|, its
angle, |X−|, |X0|, f and ROCOF, f and ROCOF in single precision, and whether its window held too long an interval
or a clipped or suspect result (R321, R328). -/
structure PhasorEst where
  set : Fin 4 := 0
  chans : List PhasorCh := []
  mag : Nat := 0
  ang : Nat := 0
  neg : Nat := 0
  zero : Nat := 0
  f : Nat := 0
  rocof : Nat := 0
  fWord : Nat := 0
  rocofWord : Nat := 0
  slow : Bool := false
  fault : Bool := false
  deriving DecidableEq, Repr, Inhabited

/-- The reference phasor (R331, R332): words 0 to 2, t_F in timebase units, and its slot words. -/
structure PhasorRef where
  words : List Nat := []
  t : Nat := 0
  mag : Nat := 0
  ang : Nat := 0
  f : Nat := 0
  rocof : Nat := 0
  deriving DecidableEq, Repr, Inhabited

/-- The PHS group until a second boundary, in timebase units: its values, in the order of its fields, and the streams of its
set channels. Frames of instants before the boundary are computed from it (R325). -/
structure PhsOld where
  till : Nat := 0
  vals : List Nat := []
  buf : List (List (Int × Rat × Bool)) := []
  deriving DecidableEq, Repr, Inhabited

/-- The phasor sets (R320 to R334). -/
structure Phs where
  ref : Option PhasorRef := none
  /-- CLK_FAB cycle at which REF_OK last cleared. -/
  lostAt : Option Nat := none
  /-- The newest estimates of each set with their t_F. -/
  sets : List (Option (Nat × PhasorEst)) := [none, none, none, none]
  /-- Results of phase `x` of set `k` at place 3k + x, newest first: sample instant less the channel delay in timebase units,
  value, clipped or of a suspect converter (R320, R321, R328). -/
  buf : List (List (Int × Rat × Bool)) := List.replicate 12 []
  /-- CLK_FAB cycle at which TIME_INVALID last set (R328). -/
  invAt : Nat := 0
  /-- The group that the last second boundary replaced. -/
  old : Option PhsOld := none
  /-- Frame instants since the epoch, and the changes of the reporting sets at one, newest first: its time and the sets until
  then (R326). -/
  frameNo : Nat := 0
  runWas : List (Nat × Nat) := []
  deriving DecidableEq, Repr, Inhabited

/-- What the grid estimator gives for a control period beside the phase RMS (R196): |v+| and |v−| in pu with e = 1, v_d−
and v_q− in pu with e = 1, the angle of v+ in 2^-24 π rad. -/
structure GridEst where
  vpos : Nat := 0
  vneg : Nat := 0
  vdn : Nat := 0
  vqn : Nat := 0
  ang : Int := 0
  deriving DecidableEq, Repr, Inhabited

/-- The ride-through supervisor (R193 to R205). Angles are in 2^-24 π rad. -/
structure Grd where
  /-- The three voltages and the angle of v+ minus θ_sel of the last periods, newest first. -/
  hist : List (Nat × Nat × Nat × Int) := []
  /-- Periods since ENABLE was set. -/
  filled : Nat := 0
  /-- Active entries: bits 0 to 31 voltage, 32 to 63 frequency; their timers in coarse ticks, none for an entry that is not
  active (R198). -/
  active : Nat := 0
  timers : List (Nat × Nat) := []
  /-- The length of the running control period, and the time since the last cessation entry was active, in coarse ticks
  (R200); none while one is. -/
  ticks : Nat := 0
  calm : Option Nat := none
  est : GridEst := {}
  /-- The PLL of the newest class-1 run (R187) and the sample instants since its slot opened. -/
  pllAng : Nat := 0
  pllF : Nat := 0
  pllAge : Nat := 0
  theta : Int := 0
  /-- What is left of the move between sources (R195). -/
  slew : Int := 0
  /-- OFS in 2^-24 π rad; the sum of the differences of the sources from the first one, its first value and count, and the
  CLK_FAB cycle at which its conditions began to hold; OFS has been learned (R194). -/
  ofs : Int := 0
  learnRef : Int := 0
  learnSum : Int := 0
  learnN : Nat := 0
  learnAt : Nat := 0
  learned : Bool := false
  /-- Coarse ticks since RECOVERY was entered. -/
  recT : Nat := 0
  /-- CLK_FAB cycle of the last cessation and of the excursion; its most severe entry; no cessation entry since. -/
  cessAt : Nat := 0
  excAt : Nat := 0
  worst : Nat := 0
  /-- Consecutive periods of a phase-jump candidate, and the angle before it (R203). -/
  pjN : Nat := 0
  pjRef : Int := 0
  deriving DecidableEq, Repr, Inhabited

/-- A travelling-wave arrival kept for pairing: segment, time in 2^-16 ns, VALID, GM hops (R341). -/
structure Arrival where
  seg : Fin 8 := 0
  t : Nat := 0
  valid : Bool := false
  hops : Nat := 0
  deriving DecidableEq, Repr, Inhabited

/-- A trigger of a detector in progress: samples since it, the capture's number, whether a capture is stored, whether its
arrival record has been produced (R337 to R340). -/
structure TwTrigger where
  after : Nat := 0
  num : Nat := 0
  stored : Bool := true
  told : Bool := false
  deriving DecidableEq, Repr, Inhabited

/-- The travelling-wave detectors (R335 to R341). -/
structure Twv where
  /-- The stream of each detector, newest first: code, sample instant, whether the sample is LATE or one before it is
  missing; the detectors that have missed a sample since. -/
  hist : List (List (Int × Nat × Bool)) := List.replicate 8 []
  miss : Nat := 0
  /-- The triggers in progress of each detector, oldest first. -/
  trig : List (List TwTrigger) := List.replicate 8 []
  /-- What ISLOT 0xA6 and 0xA7 hold of the last pair (R334). -/
  pairSlots : Nat × Nat := (0, 0)
  /-- CLK_FAB cycle of each detector's last trigger. -/
  trigAt : List (Option Nat) := List.replicate 8 none
  mine : List Arrival := []
  theirs : List Arrival := []
  /-- Pairs that wait for the next sample instant: segment, t_A − t_B in 2^-16 ns, HOPQ. -/
  due : List (Fin 8 × Int × Bool) := []
  count : Nat := 0
  deriving DecidableEq, Repr, Inhabited

/-- The rotation of the fast converters (R287 to R293). -/
structure Fac where
  /-- The converter last visited; 16 or none starts anew. -/
  last : Option Nat := none
  /-- The mapping change due at the next sample instant: 1 takeover, 2 hand-back with the new coefficients,
  3 takeover into a park, 4 hand-back with the previous ones; and its converter. -/
  due : Nat := 0
  dueK : Nat := 0
  /-- Converter of the last OVL1 mismatch since a visit was completed. -/
  mismatch : Option Nat := none
  /-- Offset, gain and skew found by the calibration. -/
  new : Int × Int × Int := (0, 0, 0)
  /-- What FCS recorded for GND and CAL_P at its last self-calibration: the nominal codes at first (log entry 2). -/
  gnd : Int := -32768
  calP : Int := 29127
  /-- CLK_FAB cycle at which the park began. -/
  parkAt : Nat := 0
  /-- CLK_FAB cycles: the start of the previous visit, and the start of the running phase; none while the phase waits for
  a sample instant (R287). -/
  visitAt : Option Nat := none
  phaseAt : Option Nat := none
  /-- Of the overlap that runs, or ran last: its valid pairs, how many of the last ones in a row mismatch, the largest
  difference and the last (R288). -/
  pairs : Nat := 0
  row : Nat := 0
  worst : Nat := 0
  diff : Nat := 0
  deriving DecidableEq, Repr, Inhabited

/-- What metrology keeps in the Bedrock domain (R312): accumulators as 72-bit numbers, remainders below one unit,
the freeze bank, pulse residues. -/
structure MetKeep where
  acc : List Nat := List.replicate 32 0
  rem : List Rat := List.replicate 32 0
  frz : List Nat := List.replicate 32 0
  res : List Nat := [0, 0, 0, 0]
  deriving DecidableEq, Repr, Inhabited

/-- A copy of the metrology state in FRAM (R312): operating seconds, what is kept, pending pulse counts, the
watch totals. -/
structure MetSaved where
  opsec : Nat := 0
  keep : MetKeep := {}
  pend : List Nat := []
  watch : List Nat := []
  deriving DecidableEq, Repr, Inhabited

/-- Metrology (R295 to R318). -/
structure Met where
  /-- Corrected samples of the eight channels, newest first. -/
  hist : List (List Rat) := List.replicate 8 []
  /-- Their samples before the shift in time, newest first: the streams that the interpolator shifts (R299). -/
  stream : List (List Rat) := List.replicate 8 []
  /-- What the power-die sensor read last, in 1/16 °C (R300). -/
  tdie : Int := 0
  /-- The cycle length in seconds, once tracked. -/
  t : Option Rat := none
  /-- MCLK runs; the CLK_FAB cycle in which it was last lost (R296). -/
  mclk : Bool := true
  mclkAt : Nat := 0
  /-- Sub-intervals of the running cycle (R297); a park of MCX that ends at the next cycle boundary (R307); the CLK_FAB cycle
  of the last write of MTC_TEXT (R300). -/
  subs : Nat := 0
  unpark : Bool := false
  textAt : Nat := 0
  keep : MetKeep := {}
  /-- The two copies in FRAM, newest first (R312, R415). -/
  saved : List MetSaved := []
  /-- A freeze has been made in this sub-interval; the presets that wait, in order: accumulator and 72-bit value. -/
  frozen : Bool := false
  presets : List (Nat × Nat) := []
  /-- Values of the last cycle that wait for their sample instant, and whether a sub-interval has passed. -/
  vals : Option (List Nat) := none
  subPassed : Bool := false
  /-- Cycles in reverse sequence, with the missing-neutral condition, with the neutral-current condition. -/
  seqRun : Nat := 0
  mnRun : Nat := 0
  inRun : Nat := 0
  /-- The check converter: channel visited, cycles of the visit, mismatches in a row; its samples replace the
  channel's. -/
  mcx : Nat := 0
  mcxN : Nat := 0
  mcxRun : Nat := 0
  subst : Bool := false
  /-- Pulse outputs: CLK_FAB cycle of the last addition to PEND, τ once there have been two, level, high time of the pulse,
  CLK_FAB cycle of the last edge. -/
  addAt : List (Option Nat) := [none, none, none, none]
  tau : List (Option Nat) := [none, none, none, none]
  edgeAt : List Nat := [0, 0, 0, 0]
  out : List Bool := [false, false, false, false]
  high : List Nat := [0, 0, 0, 0]
  /-- The supply-loss watch: running; tenths of A·s and parts of Wh not yet shown; seconds above THR; the tenths of
  A·s of an event. -/
  watch : Bool := false
  /-- THR, T_S and V_ASSUMED as they stood when it started. -/
  watchCfg : List Nat := []
  asRem : List Nat := [0, 0, 0]
  whRem : Rat := 0
  exceed : List Nat := [0, 0, 0]
  event : List (Option Nat) := [none, none, none]
  overSum : List Nat := [0, 0, 0]
  deriving DecidableEq, Repr, Inhabited

/-- The pulse outputs are driven low in a CLK_FAB cycle (R316). -/
def Met.low (m : Met) (cyc : Nat) : Met :=
  { m with out := [false, false, false, false]
           edgeAt := (List.range 4).map fun p => if m.out.getD p false then cyc else m.edgeAt.getD p 0 }

/-- Parapet beside its page (R364 to R382). The two channels decide together; what channel 2 holds apart while the
other die is in reset stands here. -/
structure Par where
  /-- The filtered pins of channel 1 and of channel 2: SINxA in [7:0], SINxB in [15:8]. -/
  filt1 : Nat := 0
  filt2 : Nat := 0
  /-- The pins as each channel reads them, before its filter. -/
  raw1 : Nat := 0
  raw2 : Nat := 0
  /-- The cycle at which the discrepancy timer of input x in channel c + 1 started, at place 8c + x (R364, R371). -/
  discAt : List (Option Nat) := List.replicate 16 none
  /-- The configuration that channel 2 holds; none named: the values in force on the page (R380). -/
  cfg2 : List Nat := []
  /-- The state of channel 2 and its causes as PAR_FAULT would show them. -/
  st2 : Nat := 0
  fault2 : Nat := 0
  /-- Both channels run INIT together after an accepted reset with SELFTEST. -/
  joint : Bool := false
  /-- Items that differed in the last frame and in the one before it; matching frames in a row, at most 3. -/
  diff1 : Nat := 0
  diff2 : Nat := 0
  good : Nat := 0
  /-- Frames each input's pins have agreed, at most 40 (log entry 32). -/
  agree : List Nat := List.replicate 8 0
  /-- Per pin p of channel c + 1, at place 16c + p: the number of the last test-pulse frame judged, and how many gaps in a row up
  to it were missed and seen, at most 2 (R364, R372). -/
  tpsAt : List (Option Nat) := List.replicate 32 none
  missed : List Nat := List.replicate 32 0
  seen : List Nat := List.replicate 32 0
  /-- The cycle at which a cross-comparison frame last came (R365). -/
  frameAt : Nat := 0
  /-- Last readback result of outputs A and B, by channel 1 and by channel 2: none, 0 normal, 1 load open, 2 fault, 3 no row of
  the table (R364, R374). -/
  readback : List (Option Nat) := [none, none, none, none]
  /-- VSAFE lies in its window; since when, a cycle. -/
  vsafeOk : Bool := true
  vsafeAt : Nat := 0
  /-- The switch under a dark test, and the next one; the cycles at which the series of tests fell due, the last test began
  and the last test ended (R375). -/
  dark : Option Nat := none
  darkNext : Nat := 0
  seriesAt : Nat := 0
  darkAt : Nat := 0
  darkEndAt : Option Nat := none
  /-- An accepted reset waits for its frame boundary: pulse in ms, state at the edge. -/
  accepted : Option (Nat × Nat) := none
  /-- Every demand since the last accepted reset came from inputs with RESTART, and no fault; a demand has left
  RUN; the inputs of that demand; the inputs that permitted at the last evaluation. -/
  autoOk : Bool := false
  autoStop : Bool := false
  autoIn : Nat := 0
  permit : Nat := 0
  deriving DecidableEq, Repr, Inhabited


/-- What a commit has been written for: a bit of a page's COMMIT register, or the registers in a mask of a pair. -/
inductive CommitOf where
  | page (base bit : Nat)
  | pair (p mask : Nat)
  deriving DecidableEq, Repr, Inhabited

/-- What stood before a commit of the running CLK_FAB cycle, so that a shadow write of the same cycle is judged with it
(R452): the fields that the commit has set (key, width, value before, value set), the pending values and values in force of the
ranges it took, the groups that waited, the entry pending bits of KE1, the pending registers of the pair with their commits,
and the records that it wrote (code and instance). -/
structure CommitWas where
  of : CommitOf := .page 0 0
  fields : List (Nat × Nat × Nat × Nat) := []
  pnd : List (Nat × Nat × List (Nat × Nat)) := []
  act : List (Nat × Nat × List (Nat × Nat)) := []
  waiting : List Group := []
  ent : Nat := 0
  pair : Nat × List Nat := (0, [])
  leds : List (Nat × Nat) := []
  deriving DecidableEq, Repr, Inhabited

/-- Everything the blocks hold beside their registers. -/
structure Blocks where
  /-- The model's own counter of free values taken (log entry 3). -/
  freeCtr : Nat := 0
  /-- CLK_FAB cycles since power-on, counted by the idle step (log entry 1). -/
  cyc : Nat := 0
  /-- The keys of the STICKY and IRQ_STAT bits that hardware has set in the running CLK_FAB cycle (R12). -/
  setNow : List Nat := []
  /-- The groups committed in the running CLK_FAB cycle (R452), and what stood before each commit of the cycle. -/
  commitNow : List Group := []
  commitWas : List CommitWas := []
  /-- The keys of the bits that a scheduled action has set or cleared in the running CLK_FAB cycle (R92). -/
  schedNow : List (Nat × Bool) := []
  /-- The registers written in the running CLK_FAB cycle: byte address, rank of the source, the word before (R436). -/
  wroteNow : List (Nat × Nat × Nat) := []
  /-- The groups whose pending sets have not been adopted yet. -/
  waiting : List Group := []
  sys : Sys := {}
  plumb : Plumb := {}
  tim : Tim := {}
  bed : Bed := {}
  ldg : Ldg := {}
  sec : Sec := {}
  hst : Hst := {}
  /-- Records appended to each queue, modulo 128 (R441). -/
  queSeq : List Nat := List.replicate 32 0
  /-- The records appended in the running CLK_FAB cycle: queue, TYPE, SIGNED and words (R446). -/
  queNow : List (Nat × Nat × Bool × List Nat) := []
  cfg : Cfg := {}
  crn : Crn := {}
  mon : Mon := {}
  jtag : Jtag := {}
  lanes : List Lane := List.replicate 8 {}
  rdg : Rdg := {}
  pairs : List Pair := List.replicate 49 {}
  pwm : Pwm := {}
  cmps : List Cmp := List.replicate 64 {}
  mpt : Mpt := {}
  fad : Fad := {}
  ke0 : Ke0 := {}
  ke1 : Ke1 := {}
  fpm : Fpm := {}
  pmp : Pmp := {}
  but : But := {}
  phs : Phs := {}
  grd : Grd := {}
  twv : Twv := {}
  fac : Fac := {}
  met : Met := {}
  par : Par := {}
  deriving DecidableEq, Repr, Inhabited

end Sys2Proof.Machine
end

