-- ==== Sys2Proof/Syntax.lean ====
section
/-! DEFINITION. The commands of the block: one constructor per row of the command table, with the row's operands. What a
measurement or an estimate of an analogue part gives comes with the command that reports it (log entry 7). The rows with
operands stand first, each group in the order of the table. -/

namespace Sys2Proof

open Machine

/-- The commands. -/
inductive Instr where
  /-- SOFT_RESET (R487): SYS_CMD.SOFT_RESET with KEY 0x5253 holds the main die in reset for 1 µs; any other key is refused with SOFT_REJECT. -/
  | softReset (key : BitVec 16)
  /-- REF_QUALIFIED (R32): A reference meets its frequency window continuously for 100 µs and becomes qualified. -/
  | refQualified (r : Fin 2)
  /-- REF_LOSS (R33): The active reference becomes unqualified and Plumb enters holdover within 16 ns, relocking when it is allowed to. -/
  | refLoss (r : Fin 2)
  /-- LINE_LOCK (R42): The line locks on the searched reference, LOCK_RAW sets, the stored code is overwritten and phase re-application begins. -/
  | lineLock (code : Fin 4096) (phase : Fin 256)
  /-- PPS_IN_EDGE (R53): An accepted PPS_IN edge is timestamped on 16 phases, sets PPS_IN_PRESENT and applies time-of-day and alignment. -/
  | ppsInEdge (phase : Fin 64) (settled : Bool)
  /-- TIM_CTRL_WRITE (R55): A write to TIM_CTRL that changes GM discards any armed value and clears VALID, and clearing PPS_OUT_EN ends a running pulse. -/
  | timCtrlWrite (v : Word)
  /-- RDG_CTRL_WRITE (R63): A write to RDG_CTRL enables or withdraws the ring roles, and setting ENABLE is ignored while ADDR is 0xFFF. -/
  | rdgCtrlWrite (v : Word)
  /-- KEEPALIVE (R78): A received keep-alive makes the node re-evaluate its upstream choice and its advertisement. -/
  | keepalive (n : Fin 8) (k : Keepalive)
  /-- FRAME_FORWARD (R64): A received frame that is not addressed to this node alone is forwarded by the address rules. -/
  | frameForward (lane : Fin 8) (f : Frame)
  /-- INTERTRIP (R76): A received intertrip passes its enabled groups to the TRP matrix as Ridgeline trip sources. -/
  | intertrip (n : Fin 8) (f : Frame)
  /-- IT_CMD (R75): A write of RDG_IT_CMD sends an intertrip for the groups written. -/
  | itCmd (groups : BitVec 16)
  /-- NODE_LOST (R88): A received NODE_LOST frame sets NODE_LOST_RX and writes a record. -/
  | nodeLost (n : Fin 8) (f : Frame)
  /-- EXCHANGE_START (R80): Every 125 µs the downstream node sends DELAY_REQ on its upstream lane. -/
  | exchangeStart (phase : Fin 1024)
  /-- DELAY_REQ (R80): The upstream node timestamps a received DELAY_REQ and answers with DELAY_RESP. -/
  | delayReq (n : Fin 8) (f : Frame) (phase : Fin 1024) (turn : Nat)
  /-- DELAY_RESP (R81): The downstream node computes θ and the path delay, then steps or slews its time and may set VALID. -/
  | delayResp (n : Fin 8) (f : Frame) (phase : Fin 1024)
  /-- ECHO (R85): An ECHO probe is returned from the retiming point, or its return is received and timed. -/
  | echo (n : Fin 8) (probe : BitVec 56) (own : Bool) (rt : Nat)
  /-- RECAL_DONE (R85): In-band recalibration from 64 echoes completes and FAIL clears when it passes. -/
  | recalDone (n : Fin 8) (passed : Bool) (corr : BitVec 16)
  /-- NEIGHBOUR_LOST (R86): Loss of signal, block lock or keep-alive persists for 1 µs and the neighbour is declared lost. -/
  | neighbourLost (n : Fin 8)
  /-- UNWRAP (R90): After the returning lane is ready and keep-alives have arrived for 1 ms, the node unwraps at a frame boundary. -/
  | unwrap (n : Fin 8)
  /-- SCHED_COMMIT (R91): RDG_COMMIT bit n arms, disarms or refuses schedule slot n. -/
  | schedCommit (mask : BitVec 8)
  /-- RACC_CMD (R93): A write of RDG_RACC_CMD sends one C-class remote read or write request and sets BUSY. -/
  | raccCmd (write : Bool) (count : Fin 16)
  /-- REMOTE_READ_REQUEST (R94): A target serves a received remote read request in hardware and answers to its SRC. -/
  | remoteReadRequest (n : Fin 8) (f : Frame)
  /-- REMOTE_WRITE_REQUEST (R94): A target applies a received remote write under its locks and answers, except for a broadcast. -/
  | remoteWriteRequest (n : Fin 8) (f : Frame)
  /-- READ_RESPONSE (R95): A matching read response writes its words to RDG_RACC_DATA and completes the mailbox. -/
  | readResponse (n : Fin 8) (f : Frame)
  /-- WRITE_RESPONSE (R95): A matching write response completes the mailbox with its ERR. -/
  | writeResponse (n : Fin 8) (f : Frame)
  /-- BULK_CMD (R96): A write of RDG_BULK_CMD sends one bulk read request and sets BUSY. -/
  | bulkCmd (queue : Fin 32) (count : Fin 2048)
  /-- BULK_READ_REQUEST (R96): A target accepts a bulk read request and starts reading the words in address order. -/
  | bulkReadRequest (n : Fin 8) (f : Frame)
  /-- BULK_FRAGMENT (R96): A received fragment is appended to its queue as a TYPE 0x07 record, and the last one completes the command. -/
  | bulkFragment (n : Fin 8) (f : Frame)
  /-- LNK_CTRL_WRITE (R110): A change of rate, mode, bond or polarity, or clearing ENABLE, returns the lane to stage 1. -/
  | lnkCtrlWrite (n : Fin 8) (v : Word)
  /-- SIGNAL_DETECT (R104): The input stays above the signal-detect threshold for 1 µs and stage 2 completes. -/
  | signalDetect (n : Fin 8)
  /-- BIT_LOCK (R104): The recovered phase holds within ±2 steps over 1,024 bits and stage 3 completes. -/
  | bitLock (n : Fin 8) (phase : BitVec 8) (freq : BitVec 16)
  /-- BLOCK_LOCK (R104): 64 consecutive valid sync headers arrive and stage 4 completes. -/
  | blockLock (n : Fin 8)
  /-- POLARITY (R105): Stage 5 completes on 64 control headers, or inverts the receive data on 64 inverted headers. -/
  | polarity (n : Fin 8) (inverted : Bool)
  /-- LANE_REVERSAL (R106): Stage 6 resolves the group positions, swaps the mapping if needed and removes the skew. -/
  | laneReversal (n : Fin 8) (swapped : Bool) (partnerLane : Fin 8) (skew : Nat)
  /-- DELAY_MEASUREMENT (R107): A delay-measurement turn completes with CORR sent, or the partner stores RXCORR and sets DONE. -/
  | delayMeasurement (n : Fin 8) (measured : Bool) (corr : BitVec 16) (rt : Nat)
  /-- LANE_READY (R104): The partner reports stage 6 or higher and the lane enters stage 8. -/
  | laneReady (n : Fin 8)
  /-- TRAIN (R103): A received TRAIN block updates LNK_TRAIN_RX and drives loop requests and stage progress. -/
  | train (n : Fin 8) (w : BitVec 56)
  /-- STAGE_TMO (R109): A stage exceeds its limit, so RETRIES increments and the lane returns to stage 2. -/
  | stageTmo (n : Fin 8)
  /-- LINK_DOWN (R108): A ready lane loses signal, headers, partner stage or bit lock and returns to stage 2. -/
  | linkDown (n : Fin 8) (cause : Fin 4)
  /-- CDR_RANGE (R99): The frequency or phase leaves the recovery range and bit lock is lost. -/
  | cdrRange (n : Fin 8)
  /-- BITSLIP (R111): LNK_CMD.BITSLIP shifts the receive word boundary one bit later, or is ignored in auto-align mode. -/
  | bitslip (n : Fin 8)
  /-- RETRAIN (R109): LNK_CMD.RETRAIN clears RETRIES and restarts bring-up from stage 1. -/
  | retrain (n : Fin 8)
  /-- PRBS_ERR_INJECT (R115): LNK_CMD.PRBS_ERR_INJECT inverts one transmitted generator bit. -/
  | prbsErrInject (n : Fin 8)
  /-- PRBS_CNT_CLR (R115): LNK_CMD.PRBS_CNT_CLR clears both PRBS counters. -/
  | prbsCntClr (n : Fin 8)
  /-- LNK_LOOP_WRITE (R113): A write of LNK_LOOP sets a test loop, and is refused while the lane serves a role. -/
  | lnkLoopWrite (n : Fin 8) (v : Word)
  /-- LNK_PRBS_CTRL_WRITE (R113): A write of LNK_PRBS_CTRL starts or stops the generator and checker, and is refused while the lane serves a role. -/
  | lnkPrbsCtrlWrite (n : Fin 8) (v : Word)
  /-- PRBS_LOCK (R114): The checker locks after 128 consecutive matching bits. -/
  | prbsLock (n : Fin 8)
  /-- PRBS_RESYNC (R114): Four consecutive bad words make the checker drop lock and reseed. -/
  | prbsResync (n : Fin 8)
  /-- PRBS_SAT (R115): A PRBS counter reaches its maximum and both counters stop. -/
  | prbsSat (n : Fin 8) (errors : Bool)
  /-- PRBS_BITS_READ (R115): A read of LNK_PRBS_BITS_LO latches BITS_HI and ERR. -/
  | prbsBitsRead (n : Fin 8)
  /-- RAW_RX_READ (R100): A read of LNK_RAW_RX_LO latches LNK_RAW_RX_HI. -/
  | rawRxRead (n : Fin 8) (w : BitVec 64)
  /-- SAMPLE_INSTANT (R130): The control-period timer reaches a sample instant, triggers the converters, swaps set-points and runs the per-period supervisor updates.
  VM_PUMP measures `volts` V and `mv` mV at it (R355). -/
  | sampleInstant (volts : Fin 128) (mv : Fin 1000)
  /-- NOP (R146): Occupies N cycles. -/
  | nop (eng : Fin 2) (w : BitVec 64)
  /-- END (R130): Ends a program run; KE0 stalls, while KE1 delivers its OSLOTs and resumes class 2. -/
  | endRun (eng : Fin 2)
  /-- FLAG (R153): Raises the urgent, trip or event line named in DST. -/
  | flag (eng : Fin 2) (w : BitVec 64)
  /-- LDS (R147): Loads slot or parameter words into a stage. -/
  | lds (eng : Fin 2) (w : BitVec 64)
  /-- STS (R147): Stores stage elements exactly into slots, all visible together. -/
  | sts (eng : Fin 2) (w : BitVec 64)
  /-- MAC (R148): Adds A × B to the accumulators, with optional write-back. -/
  | mac (eng : Fin 2) (w : BitVec 64)
  /-- MUL (R148): Replaces the accumulators with A × B and writes back. -/
  | mul (eng : Fin 2) (w : BitVec 64)
  /-- ADD (R146): Writes A + B to the destination stage. -/
  | add (eng : Fin 2) (w : BitVec 64)
  /-- SUB (R146): Writes A − B to the destination stage. -/
  | sub (eng : Fin 2) (w : BitVec 64)
  /-- NEG (R146): Writes −A to the destination stage. -/
  | neg (eng : Fin 2) (w : BitVec 64)
  /-- ABS (R146): Writes |A| to the destination stage. -/
  | abs (eng : Fin 2) (w : BitVec 64)
  /-- SAT (R149): Limits A to ±(1 − 2^−23) × 2^k without setting a flag. -/
  | sat (eng : Fin 2) (w : BitVec 64)
  /-- CLAMP (R149): Limits A between lo and hi without setting a flag. -/
  | clamp (eng : Fin 2) (w : BitVec 64)
  /-- INTEG (R122): Integrates A × g into D between its limits, and sets the clamp flags. -/
  | integ (eng : Fin 2) (w : BitVec 64)
  /-- NORM (R121): Lowers a KE1 stage exponent to normalise it. -/
  | norm (eng : Fin 2) (w : BitVec 64)
  /-- SHE (R123): Sets a stage exponent at run time on KE1, and has no effect at run time on KE0. -/
  | she (eng : Fin 2) (w : BitVec 64)
  /-- TRIG (R151): Writes the sine or cosine of πA. -/
  | trig (eng : Fin 2) (w : BitVec 64)
  /-- CLK3 (R151): Applies the Clarke transform to triples. -/
  | clk3 (eng : Fin 2) (w : BitVec 64)
  /-- PARK (R151): Applies the Park transform to pairs. -/
  | park (eng : Fin 2) (w : BitVec 64)
  /-- IPARK (R151): Applies the inverse Park transform to pairs. -/
  | ipark (eng : Fin 2) (w : BitVec 64)
  /-- CMP (R150): Writes predicate bits from exact comparisons. -/
  | cmp (eng : Fin 2) (w : BitVec 64)
  /-- SEL (R150): Selects A or B by a predicate bit. -/
  | sel (eng : Fin 2) (w : BitVec 64)
  /-- RCP (R152): Writes the reciprocal of A. -/
  | rcp (eng : Fin 2) (w : BitVec 64)
  /-- RSQ (R152): Writes the reciprocal square root of A. -/
  | rsq (eng : Fin 2) (w : BitVec 64)
  /-- EXPECT (R153): Writes pending FPM predictions for a range of channels. -/
  | expect (eng : Fin 2) (w : BitVec 64)
  /-- KE0_CTRL_WRITE (R492): A write of KE0_CTRL enables KE0, holds the enable or withdraws a held one, and sets the commit selections. -/
  | ke0CtrlWrite (v : Word)
  /-- KE1_CTRL_WRITE (R137): A write of KE1_CTRL.ENABLE moves KE1 between OFF and ARMED and leaves FAULT. -/
  | ke1CtrlWrite (v : Word)
  /-- CHECK (R132): KEn_CMD.CHECK starts the check of the program at CHK_ADDR. -/
  | check (eng : Fin 2)
  /-- CHECK_DONE (R132): The program check completes, setting VALID, LEN and the checked marks or reporting the error. -/
  | checkDone (eng : Fin 2) (ecc : Option (BitVec 12))
  /-- PROGRAM_WRITE (R131): A program-store write is refused inside the program in force, and otherwise clears checked marks. -/
  | programWrite (eng : Fin 2) (k : BitVec 12) (hi : Bool) (v : Word)
  /-- PARAMETER_WRITE (R135): A parameter-window write goes to the inactive bank, and is refused during a bank copy. -/
  | parameterWrite (eng : Fin 2) (i : BitVec 12) (v : Word)
  /-- PARAM_COPY_DONE (R135): The copy of the new active bank into the inactive bank completes and PCOPY clears. -/
  | paramCopyDone (eng : Fin 2)
  /-- ENGINE_FAULT (R137): An uncorrectable memory error puts the engine in FAULT with its safe values applied. -/
  | engineFault (eng : Fin 2) (mem : Fin 4) (addr : BitVec 16)
  /-- FPM_RELEASE (R179): A write of FPM_REL releases the hold, trip line and takeover of channels whose COUNT is 0. -/
  | fpmRelease (k : Fin 2) (mask : Word)
  /-- GRD_ENTRY_TIMER (R198): An active entry's timer reaches T_LIM and GRD trips. -/
  | grdEntryTimer (k : Fin 64)
  /-- GRD_CTRL_WRITE (R199): A write of GRD_CTRL enables the supervisor, and is refused at 50 Hz with a preset in force. -/
  | grdCtrlWrite (v : Word)
  /-- GRD_NOMINAL_WRITE (R197): A write of GRD_VNOM, GRD_FNOM or GRD_VSRC is refused while ENABLE is set. -/
  | grdNominalWrite (k : Fin 3) (v : Word)
  /-- MPT_CTRL_WRITE (R218): A write of MPT_CTRL enables the page, and clearing ENABLE aborts any scan. -/
  | mptCtrlWrite (v : Word)
  /-- INJECTION_PULSE (R222): The active injection pulse starts at each REP_MS and ends after ON_MS. -/
  | injectionPulse (start : Bool)
  /-- PWM_CTRL_WRITE (R232): A write of PWMn_CTRL.ENABLE starts the counters at the next sample instant, and clearing it stops them. -/
  | pwmCtrlWrite (n : Fin 4) (v : Word)
  /-- PAIR_PERIOD_BOUNDARY (R237): A pair's counter completes its period; pending values are adopted and cycle latches release. -/
  | pairPeriodBoundary (p : Fin 49)
  /-- PAIR_MID_PERIOD (R237): At mid-period with UPD set, pending compare values are adopted. -/
  | pairMidPeriod (p : Fin 49)
  /-- PAIR_EDGE (R233): A compare position is reached and the commanded state of the pair changes. -/
  | pairEdge (p : Fin 49) (t : BitVec 22)
  /-- DEAD_TIME_END (R243): The dead time expires and the delayed output turns on. -/
  | deadTimeEnd (p : Fin 49) (isH : Bool)
  /-- CFT_MAX_ON (R233): A CFT period ends at B + A without termination, setting MAX_ON. -/
  | cftMaxOn (p : Fin 49)
  /-- PWM_COMMIT (R239): PWMn_COMMIT copies the page shadows into the pending set, refusing per pair. -/
  | pwmCommit (n : Fin 3)
  /-- AUTO_COMMIT_WRITE (R240): In auto-commit mode each pair RWS write commits that register alone. -/
  | autoCommitWrite (p : Fin 48) (r : Fin 5) (v : Word)
  /-- TRIP_SOURCE_ASSERT (R249): An acting source asserts its groups and latches a trip on each obeying pair. -/
  | tripSourceAssert (n : Fin 128)
  /-- AUX_WINDOW_END (R252): A blanking window ends, and sources still asserted act. -/
  | auxWindowEnd (k : Fin 8)
  /-- TRIP_CLEAR (R253): A write of TRP_CLR clears hard latches, or is refused while a latching source is asserted. -/
  | tripClear (k : Fin 2) (mask : Word)
  /-- BRK_SRC_WRITE (R247): A write of PWX_BRK_SRC selects the brake command source; 3 is refused. -/
  | brkSrcWrite (v : Word)
  /-- PWX_GEN_WRITE (R245): A write of PWX_GEN enables or disables the outputs of a PWM group. -/
  | pwxGenWrite (v : Word)
  /-- COMPARATOR_CROSSING (R258): A continuous comparator's HIGH or LOW decision changes.
  CIN moves to `v` in 1/16 µV, `phase` x 100 ps into the cycle. -/
  | comparatorCrossing (c : Fin 64) (v : BitVec 25) (phase : Fin 64)
  /-- COMPARATOR_SAMPLE (R262): A sampled comparator takes one decision every INTERVAL ticks.
  CIN stands at `v` in 1/16 µV; the decision takes effect `phase` x 100 ps into the cycle. -/
  | comparatorSample (c : Fin 64) (v : BitVec 25) (phase : Fin 64)
  /-- CMP_COMMIT (R260): CMPn_COMMIT commits the comparator group, refusing per comparator. -/
  | cmpCommit (n : Fin 4)
  /-- CMP_CNT_CLR (R265): CMPn_CMD.CNT_CLR clears CMPn_CNT_SKIP. -/
  | cmpCntClr (n : Fin 4)
  /-- SELF_TEST (R267): 16 ns after a counted window start, a tie or swap test begins and the comparator outputs are held. -/
  | selfTest (c : Fin 64)
  /-- SELF_TEST_END (R268): The test ends and FAILCNT is updated, declaring a failure at FAIL_N. -/
  | selfTestEnd (c : Fin 64) (high : Bool) (low : Bool)
  /-- STFAIL_CLEAR (R268): A write of 1 to a CMPn_STFAIL bit ends a declared failure and its forced trip source. -/
  | stfailClear (n : Fin 4) (mask : Word)
  /-- SLEW_PHASE_END (R269): A T1 or T2 phase of a gate profile expires and SLEW changes. -/
  | slewPhaseEnd (p : Fin 48) (isH : Bool)
  /-- SOFT_OFF_END (R270): T_SOFT expires after a trip turn-off and SLEW goes low. -/
  | softOffEnd (p : Fin 48) (isH : Bool)
  /-- FAD_RESULT (R279): A conversion result is corrected, scaled and written to its ISLOT and raw register.
  The sample of FCk named by its input and kind, taken `ago` cycles before, gave `nv` nanovolts, and `other` on the converter
  that it is paired with. `k` = 16 is FCS's own conversion of an internal input. -/
  | fadResult (k : Fin 17) (input : Fin 8) (kind : Fin 5) (nv : Int) (other : Int) (ago : Nat)
  /-- URGENT_REQUEST (R283): A FLAG or trip source raises an urgent conversion request on line u. -/
  | urgentRequest (u : Fin 32)
  /-- URGENT_START (R284): At tu the urgent channel is sampled, aborting or moving scan conversions. -/
  | urgentStart (k : Fin 16)
  /-- FCS_CHECK_DONE (R290): The FCS check of GND and CAL_P completes, passing or marking FCS suspect. -/
  | fcsCheckDone (gnd : Int) (calP : Int)
  /-- CAL_DONE (R289): The 29 ms calibration of the converter completes, passing or failing. -/
  | calDone (ofs : Int) (dev : Int) (dac : Int) (skew : Int) (gnd : Int) (calP : Int)
  /-- FAC_ENABLE_WRITE (R291): A write of FAC_CTRL.ENABLE starts the rotation, or stops it with hand-back. -/
  | facEnableWrite (v : Word)
  /-- METROLOGY_SUBINTERVAL (R308): A sub-interval ends and its energy increments are added to the accumulators. -/
  | metrologySubinterval (nv : List Int)
  /-- METROLOGY_CYCLE_END (R302): A mains cycle ends and the per-cycle quantities and detections are computed.
  The tracker has seen the zero crossings that begin and end the cycle at `first` and `last`, in ns. -/
  | metrologyCycleEnd (first : Nat) (last : Nat)
  /-- MCLK_GAP (R296): MCLK returns and one record gives the length of the gap.
  The gap is `ms` milliseconds, rounded down or up. -/
  | mclkGap (ms : BitVec 32)
  /-- PRESET (R313): MET_CMD.PRESET loads an accumulator at the next sub-interval, and is refused under the lock. -/
  | preset (a : Fin 32)
  /-- ACC_READ (R310): A read of MET_ACCa_LO latches HI and WRAP. -/
  | accRead (a : Fin 32)
  /-- FRZ_READ (R310): A read of MET_FRZa_LO latches its HI and WRAP. -/
  | frzRead (a : Fin 32)
  /-- METROLOGY_SAVE (R312): The metrology state is saved to FRAM every 60 s or at loss of VDD_PWR. -/
  | metrologySave (mv : BitVec 16)
  /-- PULSE_START (R316): With PEND at least 1 and the output low for h, a pulse starts and PEND falls. -/
  | pulseStart (p : Fin 4)
  /-- PULSE_END (R316): The pulse high time h expires. -/
  | pulseEnd (p : Fin 4)
  /-- WATCH_TICK (R317): Each second of the supply-loss watch adds current-seconds and the energy estimate. -/
  | watchTick (a : BitVec 24) (b : BitVec 24) (c : BitVec 24)
  /-- PHASOR_FRAME (R327): The estimates of a frame instant become available, and the payload is assembled, queued and sent.
  The frame instant is frame `frame` of second `sec`; `sets` are the sets that have been estimated. -/
  | phasorFrame (sec : BitVec 48) (frame : Fin 256) (sets : BitVec 4)
  /-- REF_PHASOR (R332): A reference phasor frame from PHS_REF.SRC is taken when it is newer. -/
  | refPhasor (n : Fin 8) (f : Frame)
  /-- PHS_CTRL_WRITE (R326): A write of PHS_CTRL enables estimation, and a change of F60 is refused while enabled. -/
  | phsCtrlWrite (v : Word)
  /-- TW_ARRIVAL (R337): The peak of a trigger is known, and the arrival time is computed, recorded and sent.
  `ago` samples after its trigger the detector has found a peak, its polarity and whether its samples have a gap. -/
  | twArrival (det : Fin 8) (peak : BitVec 16) (neg : Bool) (ago : Nat) (gap : Bool)
  /-- TW_CAPTURE_DONE (R340): The 1,024-sample capture completes and its descriptor is queued.
  It completes `ago` samples after its trigger with `gaps` samples that follow a gap; `codes` are the codes of its first
  samples where the detector's stream does not reach back to them. -/
  | twCaptureDone (det : Fin 8) (codes : List (BitVec 16)) (gaps : Nat) (ago : Nat)
  /-- TW_ARRIVAL_RECORD (R341): A received partner arrival record is accepted for its segment and paired. -/
  | twArrivalRecord (n : Fin 8) (f : Frame)
  /-- PMP_CTRL_WRITE (R350): A write of PMP_CTRL requests or stops the pump, and clearing RUN stops it or brakes. -/
  | pmpCtrlWrite (v : Word)
  /-- PUMP_PWM_PERIOD (R347): A pump PWM period starts, the back-EMF is sampled and refresh pulses are inserted. -/
  | pumpPwmPeriod (above : Bool) (crossed : BitVec 3)
  /-- VM_PUMP_OV (R358): VM_PUMP above OV_HI applies OV_ACT within 2 µs, and releases below OV_LO. -/
  | vmPumpOv (mv : BitVec 17)
  /-- BOOT_UV (R357): A bootstrap below 7.0 V holds its high side off until 7.5 V. -/
  | bootUv (ph : Fin 3) (under : Bool)
  /-- BOOT_HOLD_TIMEOUT (R357): A bootstrap hold lasting 1 ms puts the pump in FAULT with cause BOOT. -/
  | bootHoldTimeout (ph : Fin 3)
  /-- XCMP_FRAME (R365): A 1 ms cross-comparison frame is exchanged, and differences or bad lengths are judged. -/
  | xcmpFrame (wire : BitVec 19) (len1 : BitVec 16) (len2 : BitVec 16) (khz : BitVec 16)
  /-- SAFETY_INPUT_CHANGE (R370): A filtered change of a safety input pin takes effect.
  A channel reads the pin at a level that has persisted for a number of microseconds. -/
  | safetyInputChange (ch : Fin 2) (pin : Fin 16) (level : Bool × BitVec 16)
  /-- DISC_TIMEOUT (R371): The input pins disagree for longer than DISC and Parapet enters FAULT with cause DISC. -/
  | discTimeout (x : Fin 8)
  /-- TPS_SAMPLE (R372): A pin is sampled inside its test-pulse gap and a missing gap is judged. -/
  | tpsSample (ch : Fin 2) (pin : Fin 16) (before : Bool) (inside : Bool) (after : Bool)
  /-- SWITCH_OVERLOAD (R373): A safe switch over 0.7 A for 1 ms or at its limit causes FAULT with cause OVERLOAD. -/
  | switchOverload (sw : Fin 4)
  /-- VSAFE_OUT (R373): VSAFE outside 19.2–30.0 V for 10 ms causes FAULT with cause SUPPLY. -/
  | vsafeOut (mv : BitVec 16)
  /-- READBACK_CHECK (R374): A readback result persists for 2 ms, causing FAULT with cause READBACK or reporting an open load. -/
  | readbackCheck (ch : Fin 2) (out : Fin 2) (hs : BitVec 16) (ls : BitVec 16) (vsafe : BitVec 16)
  /-- DARK_TEST_END (R375): DARK_W expires and the tested pin is judged. -/
  | darkTestEnd (level : BitVec 16) (vsafe : BitVec 16)
  /-- RESET_SAFE_EDGE (R376): A falling edge of RESET_SAFE ends a pulse that is accepted or refused as a reset. -/
  | resetSafeEdge (us1 : Nat) (us2 : Nat)
  /-- PARAPET_INIT_DONE (R490): The INIT self-test ends and Parapet enters STOPPED or FAULT. -/
  | parapetInitDone (passed : Bool)
  /-- BUT_CTRL_WRITE (R384): A write of BUT_CTRL.ENABLE moves Buttress between OFF and SYNC. -/
  | butCtrlWrite (v : Word)
  /-- ARB_GRANT_ACCEPT (R384): ARB_GRANT holds a new level for 100 ns and is accepted. -/
  | arbGrantAccept (level : Bool)
  /-- CLASS0_SET (R395): A received class-0 mirror set frame is stored and acknowledged. -/
  | class0Set (f : Frame)
  /-- CLASS1_SET (R395): A received class-1 mirror set frame is stored and acknowledged. -/
  | class1Set (f : Frame)
  /-- HARDWARE_SET (R395): A received hardware mirror set frame is stored and acknowledged. -/
  | hardwareSet (f : Frame)
  /-- ACKNOWLEDGE (R391): A received acknowledge lets the sender send its next mirror frame. -/
  | acknowledge (f : Frame)
  /-- STATUS_FRAME (R387): A received status frame updates the partner's state and BUT_PCRC. -/
  | statusFrame (f : Frame)
  /-- ARB_HEALTH_EDGE (R389): An arbiter reads a HEALTH code from its high time and applies its grant rules. -/
  | arbHealthEdge (d : Fin 2) (ns : Nat) (inhPin : Bool)
  /-- ARB_HEALTH_TIMEOUT (R389): 4 µs without a HEALTH edge makes a device not alive, and its grant is withdrawn. -/
  | arbHealthTimeout (d : Fin 2)
  /-- VDD_PWR_PRESENT (R404): VDD_PWR stands in its window for 1 ms; Bedrock enters MAIN and the power-cycle count rises.
  V_STORE measures `mv` mV; VDD_PWR has stood in its window for `us` microseconds. -/
  | vddPwrPresent (mv : BitVec 16) (us : BitVec 16)
  /-- VDD_PWR_LOSS (R404): VDD_PWR leaves its window for 10 µs; Bedrock changes source and runs its saves first. -/
  | vddPwrLoss (mv : BitVec 16)
  /-- VBAT_LOW (R404): VBAT falls below 2.6 V and one record is written. -/
  | vbatLow (mv : BitVec 16)
  /-- STORE_THRESHOLD (R405): V_STORE crosses a threshold of the source table and Bedrock changes state. -/
  | storeThreshold (mv : BitVec 16) (harv : BitVec 16)
  /-- HARVEST_PROBE (R406): Every 16 s in BAT the harvest source is probed by turning VBAT off. -/
  | harvestProbe (mv : BitVec 16)
  /-- HARVEST_SAMPLE (R409): Every 16 s the open-circuit harvest voltage is measured for 4 ms. -/
  | harvestSample (voc : BitVec 16)
  /-- COLD_START (R408): The cold start brings V_STORE to 2.00 V and the main converter takes over. -/
  | coldStart (secs : BitVec 32) (mv : BitVec 16)
  /-- LEDGER_RECORD_WRITE (R418): The record at the head of the buffer is written to FRAM once its reservation is met. -/
  | ledgerRecordWrite (mv : BitVec 16)
  /-- DEFER_SUMMARY (R420): E_avail reaches twice WRITE + KEEP and the summary record is written. -/
  | deferSummary (mv : BitVec 16)
  /-- COUNTER_CHECKPOINT (R411): The counters are checkpointed to FRAM every 60 s or at loss of VDD_PWR. -/
  | counterCheckpoint (mv : BitVec 16)
  /-- RO_DRIFT (R475): BED_OPSEC passes a yearly multiple and the ring-oscillator drift records are written. -/
  | roDrift (counts : List Word)
  /-- RO_RECORD (R475): MON_CMD.RO_RECORD writes the drift records now. -/
  | roRecord (counts : List Word)
  /-- BEDROCK_START (R415): Bedrock starts from OFF, restores its copies and scans the Ledger. -/
  | bedrockStart (mv : BitVec 16) (vbat : BitVec 16) (badCp : Fin 3) (badMet : Fin 3)
  /-- OPSEC_READ (R414): A read of BED_OPSEC_LO latches OPSEC_HI and SUBSEC. -/
  | opsecRead (n : BitVec 15)
  /-- BED_CONFIG_WRITE (R412): A write of BED_HARV, BED_STORE or BED_RES outside its range is ignored and flagged. -/
  | bedConfigWrite (k : Fin 3) (v : Word)
  /-- SEVQ_LOOKUP (R416): A write of LDG_SEVQ.CODE returns the severity of that code. -/
  | sevqLookup (code : BitVec 16)
  /-- READ (R429): QSPI READ in single width returns a token and data words. -/
  | read (a : BitVec 24) (n : Nat) (cut : Bool)
  /-- READ4 (R429): QSPI READ4 in quad width returns a token and data words. -/
  | read4 (a : BitVec 24) (n : Nat) (cut : Bool)
  /-- WRITE (R429): QSPI WRITE in single width buffers data words for writing. -/
  | write (a : BitVec 24) (first : Nat) (words : List Word) (cut : Bool)
  /-- WRITE4 (R429): QSPI WRITE4 in quad width buffers data words for writing. -/
  | write4 (a : BitVec 24) (first : Nat) (words : List Word) (cut : Bool)
  /-- UNKNOWN_COMMAND (R429): Any other command byte ends the transaction and sets ALIGN. -/
  | unknownCommand (code : BitVec 8)
  /-- RD_TMO (R430): 32 µs pass without the first read word, so token 0xE1 is sent and the read is discarded. -/
  | rdTmo (a : BitVec 24)
  /-- HOST_LINK_READ_REQUEST (R438): A host-link read request is served in order and answered. -/
  | hostLinkReadRequest (f : Option Frame)
  /-- HOST_LINK_WRITE_REQUEST (R438): A host-link write request is served in order and answered. -/
  | hostLinkWriteRequest (f : Option Frame)
  /-- HOST_LINK_BULK_REQUEST (R438): A host-link bulk read request is answered with fragments of 120 words. -/
  | hostLinkBulkRequest (f : Option Frame)
  /-- QUE_POP (R444): A read of QUE_POPn returns the word at CONS and advances CONS. -/
  | quePop (q : Fin 32)
  /-- QUE_CONS_WRITE (R443): A write of QUE_Qn_CONS advances CONS, or is refused. -/
  | queConsWrite (q : Fin 32) (c : Word)
  /-- MAIL_TX (R448): A write of QUE_MAIL_TX sends a mail frame, or is refused. -/
  | mailTx (dest : BitVec 12) (count : BitVec 6)
  /-- MAIL_RECEIVE (R448): A received mail frame is appended to its queue, or discarded when malformed. -/
  | mailReceive (n : Fin 8) (f : Frame)
  /-- FUSE_IKEY (R480): SEC_CMD.FUSE_IKEY with the key fuses the integrator key. -/
  | fuseIkey (key : BitVec 16)
  /-- FUSE_ENFORCE (R480): SEC_CMD.FUSE_ENFORCE with the key permanently enforces image signing. -/
  | fuseEnforce (key : BitVec 16)
  /-- FUSE_MET_LOCK (R480): SEC_CMD.FUSE_MET_LOCK with the key permanently sets the metrology lock. -/
  | fuseMetLock (key : BitVec 16)
  /-- LOCK_KEY_LOCK (R454): A LOCK write with key 0x4C4B locks the page, optionally permanently. -/
  | lockKeyLock (n : Fin 44) (perm : Bool)
  /-- LOCK_KEY_UNLOCK (R454): A LOCK write with key 0x554C unlocks the page unless PERM is set. -/
  | lockKeyUnlock (n : Fin 44)
  /-- KEY_BAD (R454): A LOCK write with any other key is ignored, flagged and recorded. -/
  | keyBad (n : Fin 44) (key : BitVec 16)
  /-- IMAGE_WINDOW_WRITE (R464): A write to an image window is accepted or refused, and clears VALID when accepted. -/
  | imageWindowWrite (copy : Fin 2) (k : BitVec 14) (v : Word)
  /-- COMMIT_ADOPT (R452): A pending committed group is adopted at its update point. -/
  | commitAdopt (g : Group)
  /-- TEMP_SAMPLE (R472): A 1 ms temperature sample updates MON_TEMP and ISLOT and judges its thresholds. -/
  | tempSample (n : Fin 6) (t : BitVec 16)
  /-- RAIL_WINDOW_CHANGE (R474): A rail leaves or returns to its window after filtering, and RAIL_OUT changes. -/
  | railWindowChange (n : Fin 6) (mv : BitVec 16) (ns : BitVec 16)
  /-- SAMPLE_PRELOAD (R483): The SAMPLE/PRELOAD instruction captures and preloads the boundary cells. -/
  | samplePreload (pins : List Bool) (guarded : List (Option Bool)) (free : List (Option Bool))
  /-- REGISTER_WRITE (R10): A write to any register without a row of its own acts by its access type, under locks and page rules. -/
  | registerWrite (addr : BitVec 22) (v : Word)
  /-- FAC_PARK (R292): FAC_CMD.PARK with K = 0–15 makes FCS take over converter K at the next sample instant and enters PARKED, or is refused with CMD_REJECT. -/
  | facPark (k : Fin 32)
  /-- TRIP_PIN_RELEASE (R248): A TRIP pin returns to its inactive level, so its source is no longer asserted, which changes TRP_ACT and TRP_GRP_ACT and decides later clear acceptance and cycle-latch release. -/
  | tripPinRelease (n : Fin 16)
  /-- VSAFE_RETURN (R376): VSAFE comes back within 19.2–30.0 V, starting the 10 ms after which cause SUPPLY counts as absent for a reset. -/
  | vsafeReturn (mv : BitVec 16)
  /-- VBAT_PRESENT_CHANGE (R405): VBAT crosses 2.0 V, so it becomes present or not present, which moves Bedrock from BAT to HARV or starts it from OFF into BAT. -/
  | vbatPresentChange (mv : BitVec 16)
  /-- POWER_ON_RESET (R485): The main die is held in power-on reset until every main-die rail has stood within its window for 1 ms. -/
  | powerOnReset
  /-- BROWNOUT (R485): A main-die rail falls below 90 % of its lower window limit for 1 µs; the main die re-enters reset with cause BROWNOUT. -/
  | brownout
  /-- RST_N_RESET (R487): RST_N is held low for at least 1 µs; the main die is reset for as long as the pin stays low. -/
  | rstNReset
  /-- POWER_DIE_RESET (R486): VDD_PWR stops being present, so the power-die logic is held in reset and its configuration is cleared under R488. -/
  | powerDieReset
  /-- MAIN_RESET_RELEASE (R491): The main die leaves reset and enters stage CLOCK of start-up. -/
  | mainResetRelease
  /-- CONFIG_LOAD (R460): CONFIG begins at the end of CLOCK once VDD_PWR is present, and both image copies are checked within 30 ms. -/
  | configLoad
  /-- CONFIG_APPLY_DONE (R461): The loader finishes applying the image records, CONFIG ends and READY rises. -/
  | configApplyDone
  /-- PERMISSION_GRANT (R493): Once LOCK, the end of CONFIG, Parapet leaving INIT and the WAIT conditions all hold, permission is granted and DRV_EN rises. -/
  | permissionGrant
  /-- START_WAIT_TIMEOUT (R493): SYS_START.TMO_MS expires in WAIT and releases the conditions of WAIT bits [2:0]. -/
  | startWaitTimeout
  /-- SYS_PERMIT (R493): A write of SYS_CMD.PERMIT satisfies the host condition of WAIT bit [3]. -/
  | sysPermit
  /-- HELD_ENABLE_RELEASE (R492): A held KE0 enable takes effect at the first CLK_CONV edge after permission, or at the aligned instant of R385, and starts the control-period timer. -/
  | heldEnableRelease
  /-- DIE_LINK_FAIL (R14): The die-to-die path fails its check for 16 consecutive transfers; DIE_LINK is set and the power-die pages read 0. -/
  | dieLinkFail
  /-- DIE_LINK_RESTORE (R14): 256 consecutive transfers pass their check; DIE_LINK clears and the power-die state is shown again. -/
  | dieLinkRestore
  /-- LOCK_RAW_LOST (R42): The phase error exceeds ±25 ps for 16 consecutive reference periods and LOCK_RAW clears. -/
  | lockRawLost
  /-- HOP_MISS (R41): A hop from the stored code does not lock within 20 µs, so STORED_MISS is set and a full search runs. -/
  | hopMiss
  /-- PHASE_MOVE_STEP (R35): The interpolator moves one 6.25 ps step toward its target every 16 CLK_SER cycles, and the timebase fraction follows. -/
  | phaseMoveStep
  /-- LOCK_DECLARE (R44): LOCK_FILT rises above 0.9 V and CLK_STATUS.LOCK sets. -/
  | lockDeclare
  /-- LOCK_CLEAR (R44): LOCK_FILT falls below 0.6 V and CLK_STATUS.LOCK clears. -/
  | lockClear
  /-- LOCK_FILT_FAULT (R45): LOCK and LOCK_RAW disagree for 10 ms, so LOCK_FILT_FAULT is set and a record is written. -/
  | lockFiltFault
  /-- HO_TRAINED (R46): After 1 s of lock the holdover oscillator is trained and HO_TRAINED is set. -/
  | hoTrained
  /-- HOLDOVER_LONG (R49): Holdover reaches 100 ms, so HOLDOVER_LONG is set and a record is written. -/
  | holdoverLong
  /-- CLK_PHASE_COMMIT (R38): CLK_COMMIT bit 0 commits CLK_PHASE_OFS and retargets or defers the phase movement. -/
  | clkPhaseCommit
  /-- CLEAR_STORED (R41): CLK_CMD.CLEAR_STORED invalidates both stored coarse codes. -/
  | clearStored
  /-- SWITCH (R34): CLK_CMD.SWITCH moves to the other reference when it is qualified, and is ignored otherwise. -/
  | switch
  /-- RELOCK_FULL (R40): CLK_CMD.RELOCK_FULL runs a full search and divider synchronisation; it is ignored once PWM is permitted. -/
  | relockFull
  /-- PPS_MISSING (R53): 1.1 s passes without a PPS_IN edge, so PPS_IN_PRESENT clears and PPS_MISSING is set. -/
  | ppsMissing
  /-- LOCAL_SECOND_BOUNDARY (R58): At a local second boundary PPS_OUT rises at its offset, PPS_EDGE sets and interval freezes fall due. -/
  | localSecondBoundary
  /-- PPS_OUT_END (R58): The PPS_OUT width expires and the pulse ends. -/
  | ppsOutEnd
  /-- TOD_COMMIT (R54): TIM_COMMIT bit 0 arms the time-of-day on the grandmaster, or is refused with TOD_REJECT on any other node. -/
  | todCommit
  /-- INVALIDATE (R57): TIM_CMD.INVALIDATE clears VALID and sets VALID_LOST. -/
  | invalidate
  /-- LEAP_SET (R52): TIM_CMD.LEAP_SET sets LEAP_PENDING. -/
  | leapSet
  /-- LEAP_CLR (R52): TIM_CMD.LEAP_CLR clears LEAP_PENDING, and wins when written together with LEAP_SET. -/
  | leapClr
  /-- TIM_NOW_READ (R59): A read of TIM_NOW_W0 latches W1, W2 and FRAC in the same cycle. -/
  | timNowRead
  /-- KEEPALIVE_SEND (R68): A KEEPALIVE is sent on every ring and branch lane at least once in every 32 blocks. -/
  | keepaliveSend
  /-- EXCHANGE_TIMEOUT (R83): No exchange completes for 100 ms, so VALID clears on a non-grandmaster node. -/
  | exchangeTimeout
  /-- ECHO_CHECK (R85): Every 10 s, 16 ECHO probes are sent on each ring and branch lane. -/
  | echoCheck
  /-- RECAL (R85): RDG_CMD.RECAL starts in-band recalibration of every ring and branch lane. -/
  | recal
  /-- RDG_CNT_CLR (R66): RDG_CMD.CNT_CLR clears the hop-drop, unreachable and CRC counters. -/
  | rdgCntClr
  /-- SCHED_DONE (R92): An armed slot acts in the first CLK_FAB cycle at or after its time, then disarms and is recorded. -/
  | schedDone
  /-- RACC_TIMEOUT (R93): RDG_RACC_TMO expires without a response, and the mailbox completes with ERR 1. -/
  | raccTimeout
  /-- BULK_FRAGMENT_SEND (R96): A target sends a fragment of up to 120 words once its words have been read. -/
  | bulkFragmentSend
  /-- BULK_TIMEOUT (R96): No fragment arrives within RDG_RACC_TMO, and the bulk read completes with an error. -/
  | bulkTimeout
  /-- KE0_START (R130): At CLK_ENG cycle 160 KE0 clears its accumulators and starts its program. -/
  | ke0Start
  /-- OUTPUT_CONVERSION (R128): At cycle W − 32 OSLOT 0x00–0x61 are converted to integer compare values. -/
  | outputConversion
  /-- SHADOW_WRITE (R128): At cycle W the compare values are written to the PWM shadows and the selected groups are committed. -/
  | shadowWrite
  /-- KE0_TIMING_COMMIT (R133): KE0_COMMIT bit 0 commits or refuses the timing group. -/
  | ke0TimingCommit
  /-- KE0_PARAM_SWAP (R135): KE0_COMMIT bit 1 swaps the parameter banks at the next sample instant. -/
  | ke0ParamSwap
  /-- KE1_ENTRY_COMMIT (R133): KE1_COMMIT bit 0 commits or refuses the entry group and the divider. -/
  | ke1EntryCommit
  /-- KE1_PARAM_SWAP (R135): KE1_COMMIT bit 1 swaps the KE1 parameter banks at the next run. -/
  | ke1ParamSwap
  /-- RMAX_CLR (R164): KE1_CMD.RMAX_CLR clears KE1_C2_RMAX. -/
  | rmaxClr
  /-- SAT_REL (R180): FPM_CMD.SAT_REL releases the saturation action unless a masked flag remains set. -/
  | satRel
  /-- FPM_COMMIT (R181): FPM_COMMIT bit 0 commits or refuses the channel group. -/
  | fpmCommit
  /-- CESSATION_RESUME (R200): After RESUME_MS with no cessation entry active, GRD enters RECOVERY. -/
  | cessationResume
  /-- GRD_CLEAR (R200): GRD_CMD.CLEAR leaves TRIPPED, or is refused while an entry is active. -/
  | grdClear
  /-- RELEARN (R194): GRD_CMD.RELEARN returns to the PLL source and relearns OFS. -/
  | relearn
  /-- GRD_PROFILE_COMMIT (R199): GRD_COMMIT bit 0 commits or refuses the profile group. -/
  | grdProfileCommit
  /-- GRD_SETTINGS_COMMIT (R195): GRD_COMMIT bit 1 commits or refuses the settings group. -/
  | grdSettingsCommit
  /-- TIMED_SOURCE_RETURN (R194): After every condition has held for 1 s, GRD returns to the timed angle source with OFS learned. -/
  | timedSourceReturn
  /-- SCAN_ROUND_START (R215): INTERVAL_S of control periods passes and a scan round begins. -/
  | scanRoundStart
  /-- SCAN_NOW (R215): MPT_CMD.SCAN_NOW starts a round unless one is in progress. -/
  | scanNow
  /-- SCAN_START (R216): The next input's scan starts at a sample instant after GAP_MS, while GRD is NORMAL. -/
  | scanStart
  /-- SCAN_POINT (R216): A point's dwell ends, and its averaged V and I are stored with the next period written. -/
  | scanPoint
  /-- SCAN_DONE (R216): The scan completes, V_gmp is published and the pair returns to KE0. -/
  | scanDone
  /-- MPT_ABORT (R218): MPT_CMD.ABORT aborts the scan in progress, or ends the round. -/
  | mptAbort
  /-- ISL_CLEAR (R226): MPT_CMD.ISL_CLEAR releases the islanding latch unless a method still indicates an island. -/
  | islClear
  /-- MPT_SCAN_COMMIT (R214): MPT_COMMIT bit 0 commits or refuses the scan group. -/
  | mptScanCommit
  /-- MPT_ISLAND_COMMIT (R227): MPT_COMMIT bit 1 commits or refuses the island group. -/
  | mptIslandCommit
  /-- PC_VALID (R221): The conditions hold for LEARN seconds and phasor comparison becomes valid. -/
  | pcValid
  /-- ACTIVE_FREQUENCY_TIMER (R219): f_sel stays beyond ACTF.F for ACTF.T_MS and the active-frequency method indicates an island. -/
  | activeFrequencyTimer
  /-- TRP_COMMIT (R256): TRP_COMMIT bit 0 commits or refuses the matrix group. -/
  | trpCommit
  /-- BRK_COMMIT (R247): PWX_COMMIT bit 0 commits the BRK values. -/
  | brkCommit
  /-- AUX_COMMIT (R252): PWX_COMMIT bit 1 commits AUX0–AUX7. -/
  | auxCommit
  /-- GDP_PROFILE_COMMIT (R271): GDP_COMMIT bit 0 commits the profile group. -/
  | gdpProfileCommit
  /-- GDP_BRAKE_COMMIT (R275): GDP_COMMIT bit 1 commits or refuses the brake group. -/
  | gdpBrakeCommit
  /-- BRAKE_MIN_TIMER (R273): MIN_ON or MIN_OFF expires and the brake request may change. -/
  | brakeMinTimer
  /-- BRK_LONG (R275): The brake request lasts LONG_MS, so BRK_LONG is set and a record is written. -/
  | brkLong
  /-- FAD_COMMIT (R282): FAD_COMMIT bit 0 commits the scan, scaling and urgent group. -/
  | fadCommit
  /-- FAD_CNT_CLR (R286): FAD_CMD.CNT_CLR clears the three FAD counters. -/
  | fadCntClr
  /-- FAC_VISIT_START (R287): A visit to the next enabled converter starts at a sample instant after VISIT_MS. -/
  | facVisitStart
  /-- OVL_DONE (R288): An overlap reaches 1,024 valid pairs without failing. -/
  | ovlDone
  /-- OVL_MISMATCH (R290): Eight consecutive mismatching pairs fail the overlap. -/
  | ovlMismatch
  /-- FAC_RESUME (R292): FAC_CMD.RESUME restarts a stopped rotation. -/
  | facResume
  /-- FAC_UNPARK (R292): FAC_CMD.UNPARK ends a park. -/
  | facUnpark
  /-- CLR_FCS (R292): FAC_CMD.CLR_FCS clears the FCS suspect bit. -/
  | clrFcs
  /-- FAC_COMMIT (R293): FAC_COMMIT bit 0 commits or refuses the rotation group. -/
  | facCommit
  /-- MCLK_LOSS (R296): MCLK is absent for 2 µs and the converters stop. -/
  | mclkLoss
  /-- FREEZE (R311): MET_CMD.FREEZE copies the accumulators into the freeze bank. -/
  | freeze
  /-- MCX_UNPARK (R307): MET_CMD.UNPARK ends the check-converter park. -/
  | mcxUnpark
  /-- MET_MEASUREMENT_COMMIT (R297): MET_COMMIT bit 0 commits the measurement group at a cycle boundary. -/
  | metMeasurementCommit
  /-- MET_PULSE_COMMIT (R315): MET_COMMIT bit 1 commits or refuses the pulse group. -/
  | metPulseCommit
  /-- MET_FREEZE_COMMIT (R311): MET_COMMIT bit 2 commits MET_FRZ and the watch settings. -/
  | metFreezeCommit
  /-- MTC_COMMIT (R301): MTC_COMMIT bit 0 commits or refuses the calibration group at a cycle boundary. -/
  | mtcCommit
  /-- TEXT_STALE (R300): MTC_TEXT has not been written for 10 s, so channels fall back to the die sensor. -/
  | textStale
  /-- REF_LOST (R332): The reference age reaches 100 ms and REF_OK clears. -/
  | refLost
  /-- PHS_COMMIT (R325): PHS_COMMIT bit 0 commits or refuses the PHS group at the next second boundary. -/
  | phsCommit
  /-- TWV_COMMIT (R335): TWV_COMMIT bit 0 commits or refuses the detector and segment registers. -/
  | twvCommit
  /-- TWV_CNT_CLR (R336): TWV_CMD.CNT_CLR clears the three TWV counters. -/
  | twvCntClr
  /-- PUMP_START (R350): After COAST_MS the sequencer starts ALIGN. -/
  | pumpStart
  /-- ALIGN_END (R350): ALIGN_MS expires and RAMP begins. -/
  | alignEnd
  /-- RAMP_STEP (R350): An open-loop commutation step is taken, with handover or a failed attempt at FMAX. -/
  | rampStep
  /-- PUMP_COMMUTATION (R349): In RUN the sequencer commutates at a valid crossing plus ADV and writes the speed. -/
  | pumpCommutation
  /-- STALL (R361): No valid crossing for STALL_MS puts the pump in FAULT. -/
  | stall
  /-- WDOG (R361): No delivery of OSLOT 0x80 for WDOG_MS puts the pump in FAULT. -/
  | wdog
  /-- VM_PUMP_UV (R358): VM_PUMP below 10.0 V turns all pump outputs off. -/
  | vmPumpUv
  /-- FAULT_AUTO_CLEAR (R362): An automatic fault cause absent for 10 ms returns the pump to OFF. -/
  | faultAutoClear
  /-- PMP_CLEAR (R362): PMP_CMD.CLEAR leaves FAULT, or is refused. -/
  | pmpClear
  /-- PMP_COMMIT (R350): PMP_COMMIT bit 0 commits or refuses the pump configuration group. -/
  | pmpCommit
  /-- PUMP_BRAKE_END (R353): BRAKE_MS expires and the pump goes to OFF. -/
  | pumpBrakeEnd
  /-- ATTEMPT_RESET (R351): 10 s in RUN clears the start attempt count. -/
  | attemptReset
  /-- XCMP_TIMEOUT (R365): No frame arrives for 1.5 ms and both channels enter FAULT with cause XCMP. -/
  | xcmpTimeout
  /-- DARK_TEST (R375): In RUN, the next switch is turned off for a dark test. -/
  | darkTest
  /-- RESET_STUCK (R377): RESET_SAFE stays high for more than 3 s. -/
  | resetStuck
  /-- PAR_COMMIT (R380): PAR_COMMIT bit 0 commits or refuses the Parapet configuration at a frame boundary. -/
  | parCommit
  /-- BUT_READY (R387): Readiness is met and the device enters STANDBY. -/
  | butReady
  /-- BUT_TAKEOVER (R397): At the first sample instant at least 1 µs after the grant, the device applies its sets and enters ACTIVE. -/
  | butTakeover
  /-- ARB_GRANT_REMOVE (R398): The grant is removed, and the pins are released within 200 ns before STANDBY. -/
  | arbGrantRemove
  /-- BUT_REQUEST (R388): BUT_CMD.REQUEST shows REQUEST for 100 ms, and is refused outside STANDBY. -/
  | butRequest
  /-- REQUEST_EXPIRE (R388): The 100 ms of a commanded REQUEST expire. -/
  | requestExpire
  /-- REVERT_HOLD (R396): A primary ready for BUT_HOLD.S seconds starts to show REQUEST. -/
  | revertHold
  /-- MIRROR_RETRY (R391): No acknowledge 120 ns after END resends the frame, with a link fault after 3 retries. -/
  | mirrorRetry
  /-- MIRROR_LOST (R392): No complete class-0 set arrives for 64 periods. -/
  | mirrorLost
  /-- BUT_COMMIT (R394): BUT_COMMIT bit 0 commits or refuses the mirror group. -/
  | butCommit
  /-- ARB_GRANT_ISSUE (R389): After BBM with no grant, the arbiter grants the eligible device. -/
  | arbGrantIssue
  /-- XTAL_FAIL (R414): No crystal edge for 2 ms switches to the RC oscillator. -/
  | xtalFail
  /-- XTAL_RESTORE (R414): After 1 s of valid crystal edges the counters return to the crystal. -/
  | xtalRestore
  /-- OPSEC_TICK (R414): The operating-seconds counter advances by one second. -/
  | opsecTick
  /-- LEDGER_SCAN_DONE (R424): The recovery scan ends and the write index and count are set. -/
  | ledgerScanDone
  /-- ERASE (R422): LDG_CMD.ERASE starts erasing the Ledger, or is refused. -/
  | erase
  /-- ERASE_DONE (R422): The erase completes and an ERASED record is written in slot 0. -/
  | eraseDone
  /-- STATUS (R429): QSPI STATUS returns WRBUF_FREE and HST_STICKY[7:0]. -/
  | status
  /-- HOST_WRITE_PERFORM (R433): A buffered write word leaves the buffer and is performed. -/
  | hostWritePerform
  /-- QUE_COMMIT (R445): QUE_COMMIT bit 0 commits or refuses the queue group. -/
  | queCommit
  /-- SIGNATURE_DONE (R477): A signature completes and its record is appended or the attestation is published. -/
  | signatureDone
  /-- CHALLENGE (R478): SEC_CMD.CHALLENGE queues the signing of DEVID and the challenge. -/
  | challenge
  /-- FUSE_DONE (R480): A 10 ms fuse operation completes. -/
  | fuseDone
  /-- MET_LOCK (R481): SEC_CMD.MET_LOCK sets the volatile metrology lock. -/
  | metLock
  /-- VERIFY_A (R464): CFG_CMD.VERIFY_A starts the check of copy A. -/
  | verifyA
  /-- VERIFY_B (R464): CFG_CMD.VERIFY_B starts the check of copy B. -/
  | verifyB
  /-- VERIFY_DONE (R464): A verify completes and sets or clears the copy's VALID bit. -/
  | verifyDone
  /-- CRN_TRIGGER (R466): CRN_TRIGGER.TRIG triggers a snapshot in the next cycle. -/
  | crnTrigger
  /-- CAIRN_PIN_EDGE (R466): A qualified rising edge on CAIRN triggers a snapshot. -/
  | cairnPinEdge
  /-- CAIRN_SNAPSHOT (R465): Every page latches its snapshot registers in one cycle, and a metrology freeze follows. -/
  | cairnSnapshot
  /-- CRN_RELEASE (R468): CRN_CMD.RELEASE clears HELD. -/
  | crnRelease
  /-- CAIRN_PULSE_END (R469): The 1 µs CAIRN output pulse ends. -/
  | cairnPulseEnd
  /-- MON_COMMIT (R472): MON_COMMIT bit 0 commits or refuses MON_TTHR. -/
  | monCommit
  /-- BYPASS (R483): The boundary-scan BYPASS instruction is loaded. -/
  | bypass
  /-- IDCODE (R483): The IDCODE instruction returns 0x0481_20D3 with the revision. -/
  | idcode
  /-- EXTEST (R483): The EXTEST instruction holds the main die in reset and drives the boundary cells. -/
  | extest
  /-- HIGHZ (R483): The HIGHZ instruction holds the main die in reset with its outputs released. -/
  | highz
  /-- FULL_SEARCH_FAIL (R41): A full coarse search across the band ends without LOCK_RAW, and during RELOCK the line returns to HOLDOVER with STORED_MISS set. -/
  | fullSearchFail
  /-- VM_PUMP_RETURN (R358): VM_PUMP rises above 10.5 V, so the under-voltage hold on the pump outputs ends and the 10 ms absence of cause VM_UV begins. -/
  | vmPumpReturn
  deriving DecidableEq, Repr

end Sys2Proof
end

