-- ==== Sys2Proof/Decode.lean ====
section
/-! DEFINITION. The command that a word spells by the bits of the command table. No row of this table gives bits, so
no word spells a command (log entry 13). -/

namespace Sys2Proof

/-- The rows of the table that give bits: none. -/
def decodeTableWord (_nbits _w : Nat) : Option Instr := none

end Sys2Proof
end

