-- ==== Sys2Proof/Machine/RegMapA.lean ====
section
/-! DEFINITION. The register fields of the manual (system, clocks, ring, lanes, engines): one name per field, taken from the
register tables of spec/. A field's key is 32 times its byte address plus its lowest bit. -/

namespace Sys2Proof.F

/-- SYS_GUAR.KE0_STOPPED, 0x000200 bits [17:17], RO, reset 0: KE0 in OFF, ARMED or FAULT (R520) -/
abbrev SYS_GUAR_KE0_STOPPED : Fld := ⟨16401, 1⟩
/-- SYS_GUAR.DIE_LINK, 0x000200 bits [16:16], RO, reset 0: Die-to-die data path failed its integrity check; clears when 256 consecutive transfers pass -/
abbrev SYS_GUAR_DIE_LINK : Fld := ⟨16400, 1⟩
/-- SYS_GUAR.TJ_OUT, 0x000200 bits [15:15], RO, reset 0: A temperature sensor reads outside −40 °C to +125 °C -/
abbrev SYS_GUAR_TJ_OUT : Fld := ⟨16399, 1⟩
/-- SYS_GUAR.RAIL_OUT, 0x000200 bits [14:14], RO, reset 0: A rail is outside its monitor window -/
abbrev SYS_GUAR_RAIL_OUT : Fld := ⟨16398, 1⟩
/-- SYS_GUAR.CFG_DEFAULT, 0x000200 bits [13:13], RO, reset 0: ROM factory defaults in force -/
abbrev SYS_GUAR_CFG_DEFAULT : Fld := ⟨16397, 1⟩
/-- SYS_GUAR.TIME_INVALID, 0x000200 bits [12:12], RO, reset 0: TIM not VALID, or holdover ≥ 100 ms -/
abbrev SYS_GUAR_TIME_INVALID : Fld := ⟨16396, 1⟩
/-- SYS_GUAR.PATH_DOWN, 0x000200 bits [11:11], RO, reset 0: A lane toward the grandmaster is not ready, a wrap is in progress, or asymmetry calibration is incomplete or failed -/
abbrev SYS_GUAR_PATH_DOWN : Fld := ⟨16395, 1⟩
/-- SYS_GUAR.KE0_IDLE, 0x000200 bits [10:10], RO, reset 0: Class-0 program length is 0 -/
abbrev SYS_GUAR_KE0_IDLE : Fld := ⟨16394, 1⟩
/-- SYS_GUAR.G4_OK, 0x000200 bits [3:3], RO, reset 0: All G4 conditions met -/
abbrev SYS_GUAR_G4_OK : Fld := ⟨16387, 1⟩
/-- SYS_GUAR.G3_OK, 0x000200 bits [2:2], RO, reset 0: All G3 conditions met -/
abbrev SYS_GUAR_G3_OK : Fld := ⟨16386, 1⟩
/-- SYS_GUAR.G2_OK, 0x000200 bits [1:1], RO, reset 0: All G2 conditions met -/
abbrev SYS_GUAR_G2_OK : Fld := ⟨16385, 1⟩
/-- SYS_GUAR.G1_OK, 0x000200 bits [0:0], RO, reset 0: All G1 conditions met -/
abbrev SYS_GUAR_G1_OK : Fld := ⟨16384, 1⟩
/-- CLK_CTRL.HOP_EN, 0x001008 bits [4:4], RW, reset 1: Use the stored coarse code for locking (R41) -/
abbrev CLK_CTRL_HOP_EN : Fld := ⟨131332, 1⟩
/-- CLK_CTRL.REVERT, 0x001008 bits [3:3], RW, reset 0: Return to the preferred reference when it requalifies (R34) -/
abbrev CLK_CTRL_REVERT : Fld := ⟨131331, 1⟩
/-- CLK_CTRL.AUTO_SW, 0x001008 bits [2:2], RW, reset 1: Switch to the other reference on loss (R33) -/
abbrev CLK_CTRL_AUTO_SW : Fld := ⟨131330, 1⟩
/-- CLK_CTRL.REF_PREF, 0x001008 bits [1:1], RW, reset 0: Preferred reference: 0 = REFCLK_A, 1 = REFCLK_B -/
abbrev CLK_CTRL_REF_PREF : Fld := ⟨131329, 1⟩
/-- CLK_CTRL.ENABLE, 0x001008 bits [0:0], RW, reset 1: Reads 1; a write of 0 is ignored, because the main domain cannot run without Plumb -/
abbrev CLK_CTRL_ENABLE : Fld := ⟨131328, 1⟩
/-- CLK_STATUS.LOCK_RAW, 0x00100C bits [7:7], RO, reset 0: Line phase error within ±25 ps (R42) -/
abbrev CLK_STATUS_LOCK_RAW : Fld := ⟨131463, 1⟩
/-- CLK_STATUS.HO_TRAINED, 0x00100C bits [6:6], RO, reset 0: Holdover oscillator trained -/
abbrev CLK_STATUS_HO_TRAINED : Fld := ⟨131462, 1⟩
/-- CLK_STATUS.SEARCHING, 0x00100C bits [5:5], RO, reset 0: Full search or hop in progress -/
abbrev CLK_STATUS_SEARCHING : Fld := ⟨131461, 1⟩
/-- CLK_STATUS.REFB_QUAL, 0x00100C bits [4:4], RO, reset 0: REFCLK_B qualified (R32) -/
abbrev CLK_STATUS_REFB_QUAL : Fld := ⟨131460, 1⟩
/-- CLK_STATUS.REFA_QUAL, 0x00100C bits [3:3], RO, reset 0: REFCLK_A qualified (R32) -/
abbrev CLK_STATUS_REFA_QUAL : Fld := ⟨131459, 1⟩
/-- CLK_STATUS.ACTIVE_REF, 0x00100C bits [2:2], RO, reset 0: 0 = REFCLK_A, 1 = REFCLK_B; last active reference while in holdover -/
abbrev CLK_STATUS_ACTIVE_REF : Fld := ⟨131458, 1⟩
/-- CLK_STATUS.HOLDOVER, 0x00100C bits [1:1], RO, reset 0: Line input on the LC oscillator -/
abbrev CLK_STATUS_HOLDOVER : Fld := ⟨131457, 1⟩
/-- CLK_STATUS.LOCK, 0x00100C bits [0:0], RO, reset 0: LOCK_FILT comparator output (R44) -/
abbrev CLK_STATUS_LOCK : Fld := ⟨131456, 1⟩
/-- CLK_STICKY.DIV_UNSYNC, 0x001018 bits [8:8], W1C, reset 0: Permission granted before divider synchronisation (R39) -/
abbrev CLK_STICKY_DIV_UNSYNC : Fld := ⟨131848, 1⟩
/-- CLK_STICKY.HOLDOVER_UNTRAINED, 0x001018 bits [7:7], W1C, reset 0: Holdover began untrained (R48) -/
abbrev CLK_STICKY_HOLDOVER_UNTRAINED : Fld := ⟨131847, 1⟩
/-- CLK_STICKY.LOCK_FILT_FAULT, 0x001018 bits [6:6], W1C, reset 0: LOCK and LOCK_RAW disagree for 10 ms (R45) -/
abbrev CLK_STICKY_LOCK_FILT_FAULT : Fld := ⟨131846, 1⟩
/-- CLK_STICKY.HOLDOVER_LONG, 0x001018 bits [5:5], W1C, reset 0: Holdover reached 100 ms (R49) -/
abbrev CLK_STICKY_HOLDOVER_LONG : Fld := ⟨131845, 1⟩
/-- CLK_STICKY.STORED_MISS, 0x001018 bits [4:4], W1C, reset 0: Hop from stored code failed (R41) -/
abbrev CLK_STICKY_STORED_MISS : Fld := ⟨131844, 1⟩
/-- CLK_STICKY.SWITCHOVER, 0x001018 bits [3:3], W1C, reset 0: Active reference changed -/
abbrev CLK_STICKY_SWITCHOVER : Fld := ⟨131843, 1⟩
/-- CLK_STICKY.LOCK_LOST, 0x001018 bits [2:2], W1C, reset 0: LOCK_RAW cleared outside holdover -/
abbrev CLK_STICKY_LOCK_LOST : Fld := ⟨131842, 1⟩
/-- CLK_STICKY.LOSS_REFB, 0x001018 bits [1:1], W1C, reset 0: REFCLK_B became unqualified -/
abbrev CLK_STICKY_LOSS_REFB : Fld := ⟨131841, 1⟩
/-- CLK_STICKY.LOSS_REFA, 0x001018 bits [0:0], W1C, reset 0: REFCLK_A became unqualified -/
abbrev CLK_STICKY_LOSS_REFA : Fld := ⟨131840, 1⟩
/-- CLK_PHASE_OFS.OFS, 0x001040 bits [7:0], RWS, reset 0x00: Tap-0 offset, 6.25 ps per step, 0–1.59375 ns later than the locked position -/
abbrev CLK_PHASE_OFS_OFS : Fld := ⟨133120, 8⟩
/-- CLK_PHASE_NOW.PHASE, 0x001044 bits [7:0], RO, reset 0x00: Offset currently applied; differs from OFS during a movement -/
abbrev CLK_PHASE_NOW_PHASE : Fld := ⟨133248, 8⟩
/-- CLK_SEARCH.VALID_B, 0x001048 bits [25:25], RO, reset from Bedrock: Stored code for REFCLK_B valid -/
abbrev CLK_SEARCH_VALID_B : Fld := ⟨133401, 1⟩
/-- CLK_SEARCH.VALID_A, 0x001048 bits [24:24], RO, reset from Bedrock: Stored code for REFCLK_A valid -/
abbrev CLK_SEARCH_VALID_A : Fld := ⟨133400, 1⟩
/-- CLK_SEARCH.CODE_B, 0x001048 bits [23:12], RO, reset from Bedrock: Stored coarse code, REFCLK_B -/
abbrev CLK_SEARCH_CODE_B : Fld := ⟨133388, 12⟩
/-- CLK_SEARCH.CODE_A, 0x001048 bits [11:0], RO, reset from Bedrock: Stored coarse code, REFCLK_A -/
abbrev CLK_SEARCH_CODE_A : Fld := ⟨133376, 12⟩
/-- CLK_CMD.CLEAR_STORED, 0x00104C bits [2:2], WO, reset 0: Invalidate both stored codes -/
abbrev CLK_CMD_CLEAR_STORED : Fld := ⟨133506, 1⟩
/-- CLK_CMD.SWITCH, 0x00104C bits [1:1], WO, reset 0: Switch to the other reference when it is qualified; otherwise ignored -/
abbrev CLK_CMD_SWITCH : Fld := ⟨133505, 1⟩
/-- CLK_CMD.RELOCK_FULL, 0x00104C bits [0:0], WO, reset 0: Full search and divider synchronisation; ignored while PWM is permitted -/
abbrev CLK_CMD_RELOCK_FULL : Fld := ⟨133504, 1⟩
/-- CLK_HO_TIME.US, 0x001050 bits [31:0], RO, reset 0: Length of the current or last holdover in µs; saturates at 0xFFFF_FFFF -/
abbrev CLK_HO_TIME_US : Fld := ⟨133632, 32⟩
/-- TIM_CTRL.PPS_W, 0x002008 bits [9:8], RW, reset 0b01: PPS_OUT width: 0b00 = 1 ms, 0b01 = 100 ms, 0b10 = 200 ms, 0b11 = 500 ms -/
abbrev TIM_CTRL_PPS_W : Fld := ⟨262408, 2⟩
/-- TIM_CTRL.PPS_OUT_GATE, 0x002008 bits [4:4], RW, reset 1: Hold PPS_OUT low while VALID is clear -/
abbrev TIM_CTRL_PPS_OUT_GATE : Fld := ⟨262404, 1⟩
/-- TIM_CTRL.PPS_OUT_EN, 0x002008 bits [3:3], RW, reset 0: Enable PPS_OUT -/
abbrev TIM_CTRL_PPS_OUT_EN : Fld := ⟨262403, 1⟩
/-- TIM_CTRL.PPS_IN_POL, 0x002008 bits [2:2], RW, reset 0: Active PPS_IN edge: 0 = rising, 1 = falling -/
abbrev TIM_CTRL_PPS_IN_POL : Fld := ⟨262402, 1⟩
/-- TIM_CTRL.GM, 0x002008 bits [1:1], RW, reset 0: Grandmaster role -/
abbrev TIM_CTRL_GM : Fld := ⟨262401, 1⟩
/-- TIM_CTRL.ENABLE, 0x002008 bits [0:0], RW, reset 1: Reads 1; a write of 0 is ignored -/
abbrev TIM_CTRL_ENABLE : Fld := ⟨262400, 1⟩
/-- TIM_STATUS.PPS_IN_PRESENT, 0x00200C bits [5:5], RO, reset 0: PPS_IN edge seen within 1.1 s -/
abbrev TIM_STATUS_PPS_IN_PRESENT : Fld := ⟨262533, 1⟩
/-- TIM_STATUS.TOD_ARMED, 0x00200C bits [4:4], RO, reset 0: Time-of-day armed, awaiting its edge -/
abbrev TIM_STATUS_TOD_ARMED : Fld := ⟨262532, 1⟩
/-- TIM_STATUS.LEAP_PENDING, 0x00200C bits [3:3], RO, reset 0: Leap second announced -/
abbrev TIM_STATUS_LEAP_PENDING : Fld := ⟨262531, 1⟩
/-- TIM_STATUS.GM, 0x00200C bits [2:2], RO, reset 0: Grandmaster role in force -/
abbrev TIM_STATUS_GM : Fld := ⟨262530, 1⟩
/-- TIM_STATUS.HOLDOVER, 0x00200C bits [1:1], RO, reset 0: Copy of CLK_STATUS.HOLDOVER -/
abbrev TIM_STATUS_HOLDOVER : Fld := ⟨262529, 1⟩
/-- TIM_STATUS.VALID, 0x00200C bits [0:0], RO, reset 0: Time valid -/
abbrev TIM_STATUS_VALID : Fld := ⟨262528, 1⟩
/-- TIM_STICKY.TOD_REJECT, 0x002018 bits [3:3], W1C, reset 0: Time-of-day commit refused (R55) -/
abbrev TIM_STICKY_TOD_REJECT : Fld := ⟨262915, 1⟩
/-- TIM_STICKY.PPS_STEP, 0x002018 bits [2:2], W1C, reset 0: Timebase re-aligned to PPS_IN (R56) -/
abbrev TIM_STICKY_PPS_STEP : Fld := ⟨262914, 1⟩
/-- TIM_STICKY.PPS_MISSING, 0x002018 bits [1:1], W1C, reset 0: No PPS_IN edge for 1.1 s (R53) -/
abbrev TIM_STICKY_PPS_MISSING : Fld := ⟨262913, 1⟩
/-- TIM_STICKY.VALID_LOST, 0x002018 bits [0:0], W1C, reset 0: VALID cleared (R57) -/
abbrev TIM_STICKY_VALID_LOST : Fld := ⟨262912, 1⟩
/-- TIM_NOW_W0.SEC_LO, 0x002040 bits [31:0], RO, reset 0: Word 0; read latches W1, W2 and FRAC (R59) -/
abbrev TIM_NOW_W0_SEC_LO : Fld := ⟨264192, 32⟩
/-- TIM_NOW_W1.W1, 0x002044 bits [31:0], RO, reset 0: Word 1, flags and seconds [47:32] -/
abbrev TIM_NOW_W1_W1 : Fld := ⟨264320, 32⟩
/-- TIM_NOW_W2.W2, 0x002048 bits [31:0], RO, reset 0: Word 2, nanoseconds -/
abbrev TIM_NOW_W2_W2 : Fld := ⟨264448, 32⟩
/-- TIM_NOW_FRAC.FRAC, 0x00204C bits [15:0], RO, reset 0: Fraction, 2^−16 ns -/
abbrev TIM_NOW_FRAC_FRAC : Fld := ⟨264576, 16⟩
/-- TIM_TOD_LO.SEC, 0x002050 bits [31:0], RWS, reset 0: Seconds [31:0] for the next PPS_IN edge -/
abbrev TIM_TOD_LO_SEC : Fld := ⟨264704, 32⟩
/-- TIM_TOD_HI.SEC, 0x002054 bits [15:0], RWS, reset 0: Seconds [47:32] -/
abbrev TIM_TOD_HI_SEC : Fld := ⟨264832, 16⟩
/-- TIM_CMD.LEAP_CLR, 0x002058 bits [2:2], WO, reset 0: Clear LEAP_PENDING -/
abbrev TIM_CMD_LEAP_CLR : Fld := ⟨264962, 1⟩
/-- TIM_CMD.LEAP_SET, 0x002058 bits [1:1], WO, reset 0: Set LEAP_PENDING; when written with LEAP_CLR, LEAP_CLR wins -/
abbrev TIM_CMD_LEAP_SET : Fld := ⟨264961, 1⟩
/-- TIM_CMD.INVALIDATE, 0x002058 bits [0:0], WO, reset 0: Clear VALID -/
abbrev TIM_CMD_INVALIDATE : Fld := ⟨264960, 1⟩
/-- TIM_UTC_OFS.TAI_UTC, 0x00205C bits [15:0], RW, reset 0: TAI − UTC in seconds, for consumers -/
abbrev TIM_UTC_OFS_TAI_UTC : Fld := ⟨265088, 16⟩
/-- TIM_PPS_OUT_OFS.OFS, 0x002060 bits [15:0], RW, reset 0: PPS_OUT offset, signed, 100 ps units, −3.2768 µs to +3.2767 µs -/
abbrev TIM_PPS_OUT_OFS_OFS : Fld := ⟨265216, 16⟩
/-- TIM_PPS_ERR.ERR, 0x002064 bits [31:0], RO, reset 0: Last PPS_IN edge minus local second boundary, signed, 100 ps units -/
abbrev TIM_PPS_ERR_ERR : Fld := ⟨265344, 32⟩
/-- RDG_CTRL.IT_PARAPET, 0x010008 bits [3:3], RW, reset 1: Send intertrip on Parapet trip (R75) -/
abbrev RDG_CTRL_IT_PARAPET : Fld := ⟨2097411, 1⟩
/-- RDG_CTRL.REMOTE_WR_EN, 0x010008 bits [2:2], RW, reset 0: Serve remote writes (R94) -/
abbrev RDG_CTRL_REMOTE_WR_EN : Fld := ⟨2097410, 1⟩
/-- RDG_CTRL.REMOTE_RD_EN, 0x010008 bits [1:1], RW, reset 1: Serve remote reads (R94) -/
abbrev RDG_CTRL_REMOTE_RD_EN : Fld := ⟨2097409, 1⟩
/-- RDG_CTRL.ENABLE, 0x010008 bits [0:0], RW, reset 0: Join the ring; refused while ADDR = 0xFFF (R63) -/
abbrev RDG_CTRL_ENABLE : Fld := ⟨2097408, 1⟩
/-- RDG_STATUS.GM_HOPS, 0x01000C bits [31:24], RO, reset 0xFF: Advertised GM hop count -/
abbrev RDG_STATUS_GM_HOPS : Fld := ⟨2097560, 8⟩
/-- RDG_STATUS.UP_LANE, 0x01000C bits [22:20], RO, reset 0: Upstream lane -/
abbrev RDG_STATUS_UP_LANE : Fld := ⟨2097556, 3⟩
/-- RDG_STATUS.UP_VALID, 0x01000C bits [19:19], RO, reset 0: Upstream chosen -/
abbrev RDG_STATUS_UP_VALID : Fld := ⟨2097555, 1⟩
/-- RDG_STATUS.WRAP_W, 0x01000C bits [3:3], RO, reset 0: West side wrapped -/
abbrev RDG_STATUS_WRAP_W : Fld := ⟨2097539, 1⟩
/-- RDG_STATUS.WRAP_E, 0x01000C bits [2:2], RO, reset 0: East side wrapped -/
abbrev RDG_STATUS_WRAP_E : Fld := ⟨2097538, 1⟩
/-- RDG_STATUS.TIME_CONV, 0x01000C bits [1:1], RO, reset 0: Servo converged (R83) -/
abbrev RDG_STATUS_TIME_CONV : Fld := ⟨2097537, 1⟩
/-- RDG_STATUS.JOINED, 0x01000C bits [0:0], RO, reset 0: At least one ring or branch lane UP -/
abbrev RDG_STATUS_JOINED : Fld := ⟨2097536, 1⟩
/-- RDG_STICKY.IT_RX, 0x010018 bits [14:14], W1C, reset 0: Intertrip acted on (R76) -/
abbrev RDG_STICKY_IT_RX : Fld := ⟨2097934, 1⟩
/-- RDG_STICKY.RACC_ERR, 0x010018 bits [13:13], W1C, reset 0: Mailbox error (R93) -/
abbrev RDG_STICKY_RACC_ERR : Fld := ⟨2097933, 1⟩
/-- RDG_STICKY.SCHED_LATE, 0x010018 bits [12:12], W1C, reset 0: Slot commit refused (R91) -/
abbrev RDG_STICKY_SCHED_LATE : Fld := ⟨2097932, 1⟩
/-- RDG_STICKY.SCHED_CANCEL, 0x010018 bits [11:11], W1C, reset 0: Armed slot cancelled (R20) -/
abbrev RDG_STICKY_SCHED_CANCEL : Fld := ⟨2097931, 1⟩
/-- RDG_STICKY.ADDR_CONFLICT, 0x010018 bits [10:10], W1C, reset 0: Address or role conflict (R62, R63) -/
abbrev RDG_STICKY_ADDR_CONFLICT : Fld := ⟨2097930, 1⟩
/-- RDG_STICKY.HOP_EXCEED, 0x010018 bits [9:9], W1C, reset 0: Upstream 128 hops or more (R79) -/
abbrev RDG_STICKY_HOP_EXCEED : Fld := ⟨2097929, 1⟩
/-- RDG_STICKY.UPSTREAM_CHANGE, 0x010018 bits [8:8], W1C, reset 0: Upstream lane changed (R78) -/
abbrev RDG_STICKY_UPSTREAM_CHANGE : Fld := ⟨2097928, 1⟩
/-- RDG_STICKY.TIME_STEP, 0x010018 bits [7:7], W1C, reset 0: Timebase stepped (R81) -/
abbrev RDG_STICKY_TIME_STEP : Fld := ⟨2097927, 1⟩
/-- RDG_STICKY.CAL_FAIL, 0x010018 bits [6:6], W1C, reset 0: Asymmetry re-check failed (R85) -/
abbrev RDG_STICKY_CAL_FAIL : Fld := ⟨2097926, 1⟩
/-- RDG_STICKY.CRC_ERR, 0x010018 bits [5:5], W1C, reset 0: Frame check failed (R70) -/
abbrev RDG_STICKY_CRC_ERR : Fld := ⟨2097925, 1⟩
/-- RDG_STICKY.UNREACH_DROP, 0x010018 bits [4:4], W1C, reset 0: Frame dropped as unreachable (R87) -/
abbrev RDG_STICKY_UNREACH_DROP : Fld := ⟨2097924, 1⟩
/-- RDG_STICKY.HOP_DROP, 0x010018 bits [3:3], W1C, reset 0: Frame dropped at hop limit 0 (R66) -/
abbrev RDG_STICKY_HOP_DROP : Fld := ⟨2097923, 1⟩
/-- RDG_STICKY.NODE_LOST_RX, 0x010018 bits [2:2], W1C, reset 0: NODE_LOST received (R88) -/
abbrev RDG_STICKY_NODE_LOST_RX : Fld := ⟨2097922, 1⟩
/-- RDG_STICKY.WRAP, 0x010018 bits [1:1], W1C, reset 0: This node wrapped -/
abbrev RDG_STICKY_WRAP : Fld := ⟨2097921, 1⟩
/-- RDG_STICKY.NEIGHBOUR_LOST, 0x010018 bits [0:0], W1C, reset 0: A neighbour lost (R86) -/
abbrev RDG_STICKY_NEIGHBOUR_LOST : Fld := ⟨2097920, 1⟩
/-- RDG_ADDR.ADDR, 0x010040 bits [11:0], RW, reset 0xFFF: Node address; writes ignored while ENABLE is set -/
abbrev RDG_ADDR_ADDR : Fld := ⟨2099200, 12⟩
/-- RDG_SUBTREE.LIMIT, 0x010044 bits [27:16], RW, reset 0xFFE: Highest address in this ring's subtree -/
abbrev RDG_SUBTREE_LIMIT : Fld := ⟨2099344, 12⟩
/-- RDG_SUBTREE.BASE, 0x010044 bits [11:0], RW, reset 0x000: Lowest address in this ring's subtree -/
abbrev RDG_SUBTREE_BASE : Fld := ⟨2099328, 12⟩
/-- RDG_PORTS.UP_EN, 0x010048 bits [11:11], RW, reset 0: Branch-up lane enabled -/
abbrev RDG_PORTS_UP_EN : Fld := ⟨2099467, 1⟩
/-- RDG_PORTS.UP, 0x010048 bits [10:8], RW, reset 2: Branch-up lane -/
abbrev RDG_PORTS_UP : Fld := ⟨2099464, 3⟩
/-- RDG_PORTS.WEST, 0x010048 bits [6:4], RW, reset 1: West lane -/
abbrev RDG_PORTS_WEST : Fld := ⟨2099460, 3⟩
/-- RDG_PORTS.EAST, 0x010048 bits [2:0], RW, reset 0: East lane -/
abbrev RDG_PORTS_EAST : Fld := ⟨2099456, 3⟩
/-- RDG_DOWNn.EN, 0x01004C + … bits [31:31], RW, reset 0: Branch-down n enabled (n = 0–3) -/
abbrev RDG_DOWN_EN (n : Nat) : Fld := ⟨(0x1004c + 4 * n) * 32 + 31, 1⟩
/-- RDG_DOWNn.LANE, 0x01004C + … bits [26:24], RW, reset 3: Lane -/
abbrev RDG_DOWN_LANE (n : Nat) : Fld := ⟨(0x1004c + 4 * n) * 32 + 24, 3⟩
/-- RDG_DOWNn.LIMIT, 0x01004C + … bits [23:12], RW, reset 0: Highest address below -/
abbrev RDG_DOWN_LIMIT (n : Nat) : Fld := ⟨(0x1004c + 4 * n) * 32 + 12, 12⟩
/-- RDG_DOWNn.BASE, 0x01004C + … bits [11:0], RW, reset 0: Lowest address below -/
abbrev RDG_DOWN_BASE (n : Nat) : Fld := ⟨(0x1004c + 4 * n) * 32, 12⟩
/-- RDG_HOPLIM.HOPS, 0x01005C bits [7:0], RW, reset 128: Hop limit written into originated frames -/
abbrev RDG_HOPLIM_HOPS : Fld := ⟨2100096, 8⟩
/-- RDG_SERVO.KI, 0x010060 bits [19:16], RW, reset 6: Integral shift (R82) -/
abbrev RDG_SERVO_KI : Fld := ⟨2100240, 4⟩
/-- RDG_SERVO.KP, 0x010060 bits [11:8], RW, reset 2: Proportional shift (R82) -/
abbrev RDG_SERVO_KP : Fld := ⟨2100232, 4⟩
/-- RDG_SERVO.STEP_THR, 0x010060 bits [7:0], RW, reset 1: Step threshold in µs; 0 = never step -/
abbrev RDG_SERVO_STEP_THR : Fld := ⟨2100224, 8⟩
/-- RDG_OFFSET.THETA, 0x010064 bits [31:0], RO, reset 0: Last θ, signed, 2^−16 ns -/
abbrev RDG_OFFSET_THETA : Fld := ⟨2100352, 32⟩
/-- RDG_PATHDLY.DLY, 0x010068 bits [31:0], RO, reset 0: Last d_DU, 2^−16 ns -/
abbrev RDG_PATHDLY_DLY : Fld := ⟨2100480, 32⟩
/-- RDG_IT_TX.GROUPS, 0x01006C bits [15:0], RW, reset 0: Groups sent on trip (R75) -/
abbrev RDG_IT_TX_GROUPS : Fld := ⟨2100608, 16⟩
/-- RDG_IT_RX_EN.GROUPS, 0x010070 bits [15:0], RW, reset 0: Groups acted on (R76) -/
abbrev RDG_IT_RX_EN_GROUPS : Fld := ⟨2100736, 16⟩
/-- RDG_IT_DEST.ADDR, 0x010074 bits [11:0], RW, reset 0xFFF: Intertrip destination -/
abbrev RDG_IT_DEST_ADDR : Fld := ⟨2100864, 12⟩
/-- RDG_CMD.RECAL, 0x010078 bits [1:1], WO, reset 0: In-band recalibration of every ring and branch lane -/
abbrev RDG_CMD_RECAL : Fld := ⟨2100993, 1⟩
/-- RDG_CMD.CNT_CLR, 0x010078 bits [0:0], WO, reset 0: Clear RDG_CNT_HOPDROP, RDG_CNT_UNREACH and RDG_CNT_CRC -/
abbrev RDG_CMD_CNT_CLR : Fld := ⟨2100992, 1⟩
/-- RDG_IT_CMD.GROUPS, 0x01007C bits [15:0], WO, reset 0: Send an intertrip for these groups -/
abbrev RDG_IT_CMD_GROUPS : Fld := ⟨2101120, 16⟩
/-- RDG_RACC_DEST.ADDR, 0x010080 bits [11:0], RW, reset 0: Target node -/
abbrev RDG_RACC_DEST_ADDR : Fld := ⟨2101248, 12⟩
/-- RDG_RACC_ADDR.ADDR, 0x010084 bits [23:0], RW, reset 0: Target address; bits [1:0] must be 0 -/
abbrev RDG_RACC_ADDR_ADDR : Fld := ⟨2101376, 24⟩
/-- RDG_RACC_CMD.WRITE, 0x010088 bits [8:8], WO, reset 0: 1 = write, 0 = read -/
abbrev RDG_RACC_CMD_WRITE : Fld := ⟨2101512, 1⟩
/-- RDG_RACC_CMD.COUNT, 0x010088 bits [3:0], WO, reset 0: Words, 0–8 (R93) -/
abbrev RDG_RACC_CMD_COUNT : Fld := ⟨2101504, 4⟩
/-- RDG_RACC_STATUS.ERR, 0x01008C bits [7:4], RO, reset 0: Result code -/
abbrev RDG_RACC_STATUS_ERR : Fld := ⟨2101636, 4⟩
/-- RDG_RACC_STATUS.DONE, 0x01008C bits [1:1], RO, reset 0: Completed; clears at the next command -/
abbrev RDG_RACC_STATUS_DONE : Fld := ⟨2101633, 1⟩
/-- RDG_RACC_STATUS.BUSY, 0x01008C bits [0:0], RO, reset 0: Request outstanding -/
abbrev RDG_RACC_STATUS_BUSY : Fld := ⟨2101632, 1⟩
/-- RDG_RACC_DATAk.DATA, 0x010090 + … bits [31:0], RW, reset 0: Data word k (k = 0–7) -/
abbrev RDG_RACC_DATA_DATA (n : Nat) : Fld := ⟨(0x10090 + 4 * n) * 32, 32⟩
/-- RDG_RACC_TMO.US, 0x0100B0 bits [15:0], RW, reset 1,000: Timeout in µs; 0 disables the mailbox -/
abbrev RDG_RACC_TMO_US : Fld := ⟨2102784, 16⟩
/-- RDG_SCHED_STAT.DONE, 0x0100B4 bits [15:8], RO, reset 0: Slot acted; clears at the slot's next accepted commit (R91) -/
abbrev RDG_SCHED_STAT_DONE : Fld := ⟨2102920, 8⟩
/-- RDG_SCHED_STAT.ARMED, 0x0100B4 bits [7:0], RO, reset 0: Slot armed -/
abbrev RDG_SCHED_STAT_ARMED : Fld := ⟨2102912, 8⟩
/-- RDG_CNT_HOPDROP.N, 0x0100B8 bits [31:0], RO, reset 0: Hop-limit drops; saturates -/
abbrev RDG_CNT_HOPDROP_N : Fld := ⟨2103040, 32⟩
/-- RDG_CNT_UNREACH.N, 0x0100BC bits [31:0], RO, reset 0: Unreachable drops; saturates -/
abbrev RDG_CNT_UNREACH_N : Fld := ⟨2103168, 32⟩
/-- RDG_CNT_CRC.N, 0x0100C0 bits [31:0], RO, reset 0: Check failures and malformed blocks; saturates -/
abbrev RDG_CNT_CRC_N : Fld := ⟨2103296, 32⟩
/-- RDG_BULK_CMD.QUEUE, 0x0100C4 bits [26:22], WO, reset 0: Queue Q00–Q31 for fragment records (R96) -/
abbrev RDG_BULK_CMD_QUEUE : Fld := ⟨2103446, 5⟩
/-- RDG_BULK_CMD.COUNT, 0x0100C4 bits [10:0], WO, reset 0: Words, 0–1,024; 0 = none (R96) -/
abbrev RDG_BULK_CMD_COUNT : Fld := ⟨2103424, 11⟩
/-- RDG_BULK_STATUS.ERR, 0x0100C8 bits [7:4], RO, reset 0: Result code -/
abbrev RDG_BULK_STATUS_ERR : Fld := ⟨2103556, 4⟩
/-- RDG_BULK_STATUS.DONE, 0x0100C8 bits [1:1], RO, reset 0: Completed; clears at the next command -/
abbrev RDG_BULK_STATUS_DONE : Fld := ⟨2103553, 1⟩
/-- RDG_BULK_STATUS.BUSY, 0x0100C8 bits [0:0], RO, reset 0: Bulk read outstanding -/
abbrev RDG_BULK_STATUS_BUSY : Fld := ⟨2103552, 1⟩
/-- RDG_LANE_ASYMn.MED, 0x010200 + … bits [15:0], RW, reset 0: Medium asymmetry, lane n, signed, 6.25 ps (R84) -/
abbrev RDG_LANE_ASYM_MED (n : Nat) : Fld := ⟨(0x10200 + 4 * n) * 32, 16⟩
/-- RDG_LANE_CALn.DONE, 0x010220 + … bits [31:31], RO, reset 0: Calibration complete -/
abbrev RDG_LANE_CAL_DONE (n : Nat) : Fld := ⟨(0x10220 + 4 * n) * 32 + 31, 1⟩
/-- RDG_LANE_CALn.FAIL, 0x010220 + … bits [30:30], RO, reset 0: Re-check failed (R85) -/
abbrev RDG_LANE_CAL_FAIL (n : Nat) : Fld := ⟨(0x10220 + 4 * n) * 32 + 30, 1⟩
/-- RDG_LANE_CALn.RXCORR, 0x010220 + … bits [15:0], RO, reset 0: Receive correction, signed, 6.25 ps -/
abbrev RDG_LANE_CAL_RXCORR (n : Nat) : Fld := ⟨(0x10220 + 4 * n) * 32, 16⟩
/-- RDG_SCHEDn_SEC_LO.SEC, 0x010300 + … bits [31:0], RWS, reset 0: Slot n seconds [31:0] -/
abbrev RDG_SCHED_SEC_LO_SEC (n : Nat) : Fld := ⟨(0x10300 + 0x10 * n) * 32, 32⟩
/-- RDG_SCHEDn_SEC_HI.SEC, 0x010304 + … bits [15:0], RWS, reset 0: Slot n seconds [47:32] -/
abbrev RDG_SCHED_SEC_HI_SEC (n : Nat) : Fld := ⟨(0x10304 + 0x10 * n) * 32, 16⟩
/-- RDG_SCHEDn_NS.NS, 0x010308 + … bits [29:0], RWS, reset 0: Slot n nanoseconds -/
abbrev RDG_SCHED_NS_NS (n : Nat) : Fld := ⟨(0x10308 + 0x10 * n) * 32, 30⟩
/-- RDG_SCHEDn_ACT.PARAM, 0x01030C + … bits [23:8], RWS, reset 0: Action parameter -/
abbrev RDG_SCHED_ACT_PARAM (n : Nat) : Fld := ⟨(0x1030c + 0x10 * n) * 32 + 8, 16⟩
/-- RDG_SCHEDn_ACT.ACTION, 0x01030C + … bits [3:0], RWS, reset 0: Action code -/
abbrev RDG_SCHED_ACT_ACTION (n : Nat) : Fld := ⟨(0x1030c + 0x10 * n) * 32, 4⟩
/-- LNK_CTRL.RETRY_LIM, 0x008008 + … bits [15:12], RW, reset 8: Automatic retries (R109); 0 = none -/
abbrev LNK_CTRL_RETRY_LIM (n : Nat) : Fld := ⟨(0x8008 + 0x1000 * n) * 32 + 12, 4⟩
/-- LNK_CTRL.RX_INV, 0x008008 + … bits [8:8], RW, reset 0: Receive polarity inverted (R105) -/
abbrev LNK_CTRL_RX_INV (n : Nat) : Fld := ⟨(0x8008 + 0x1000 * n) * 32 + 8, 1⟩
/-- LNK_CTRL.TX_INV, 0x008008 + … bits [7:7], RW, reset 0: Transmit polarity inverted -/
abbrev LNK_CTRL_TX_INV (n : Nat) : Fld := ⟨(0x8008 + 0x1000 * n) * 32 + 7, 1⟩
/-- LNK_CTRL.POL_AUTO, 0x008008 + … bits [6:6], RW, reset 1: Automatic receive polarity correction -/
abbrev LNK_CTRL_POL_AUTO (n : Nat) : Fld := ⟨(0x8008 + 0x1000 * n) * 32 + 6, 1⟩
/-- LNK_CTRL.BOND, 0x008008 + … bits [5:5], RW, reset 0: ×2 group; L2 and L6 only (R102) -/
abbrev LNK_CTRL_BOND (n : Nat) : Fld := ⟨(0x8008 + 0x1000 * n) * 32 + 5, 1⟩
/-- LNK_CTRL.AUTO_ALIGN, 0x008008 + … bits [4:4], RW, reset 1: Hardware block alignment (R111) -/
abbrev LNK_CTRL_AUTO_ALIGN (n : Nat) : Fld := ⟨(0x8008 + 0x1000 * n) * 32 + 4, 1⟩
/-- LNK_CTRL.MODE, 0x008008 + … bits [3:3], RW, reset 0: 0 = block, 1 = raw (R100) -/
abbrev LNK_CTRL_MODE (n : Nat) : Fld := ⟨(0x8008 + 0x1000 * n) * 32 + 3, 1⟩
/-- LNK_CTRL.RATE, 0x008008 + … bits [2:1], RW, reset 0b00: 0b00 = 10.0, 0b01 = 5.0, 0b10 = 2.5, 0b11 = 1.25 Gb/s -/
abbrev LNK_CTRL_RATE (n : Nat) : Fld := ⟨(0x8008 + 0x1000 * n) * 32 + 1, 2⟩
/-- LNK_CTRL.ENABLE, 0x008008 + … bits [0:0], RW, reset 0: Start bring-up -/
abbrev LNK_CTRL_ENABLE (n : Nat) : Fld := ⟨(0x8008 + 0x1000 * n) * 32, 1⟩
/-- LNK_STATUS.LOOP_REMOTE, 0x00800C + … bits [24:24], RO, reset 0: In far-end loop at the partner's request -/
abbrev LNK_STATUS_LOOP_REMOTE (n : Nat) : Fld := ⟨(0x800c + 0x1000 * n) * 32 + 24, 1⟩
/-- LNK_STATUS.RETRIES, 0x00800C + … bits [23:16], RO, reset 0: Retries since the last ready or RETRAIN -/
abbrev LNK_STATUS_RETRIES (n : Nat) : Fld := ⟨(0x800c + 0x1000 * n) * 32 + 16, 8⟩
/-- LNK_STATUS.BONDED, 0x00800C + … bits [15:15], RO, reset 0: Member of a ×2 group -/
abbrev LNK_STATUS_BONDED (n : Nat) : Fld := ⟨(0x800c + 0x1000 * n) * 32 + 15, 1⟩
/-- LNK_STATUS.ROLE, 0x00800C + … bits [14:12], RO, reset 0: 0 = none, 1 = ring east, 2 = ring west, 3 = branch up, 4 = branch down, 5 = mirror, 6 = host link -/
abbrev LNK_STATUS_ROLE (n : Nat) : Fld := ⟨(0x800c + 0x1000 * n) * 32 + 12, 3⟩
/-- LNK_STATUS.READY, 0x00800C + … bits [9:9], RO, reset 0: Stage 8 -/
abbrev LNK_STATUS_READY (n : Nat) : Fld := ⟨(0x800c + 0x1000 * n) * 32 + 9, 1⟩
/-- LNK_STATUS.REVERSED, 0x00800C + … bits [8:8], RO, reset 0: Group mapping swapped (R106) -/
abbrev LNK_STATUS_REVERSED (n : Nat) : Fld := ⟨(0x800c + 0x1000 * n) * 32 + 8, 1⟩
/-- LNK_STATUS.POL_INV, 0x00800C + … bits [7:7], RO, reset 0: Automatic inversion applied (R105) -/
abbrev LNK_STATUS_POL_INV (n : Nat) : Fld := ⟨(0x800c + 0x1000 * n) * 32 + 7, 1⟩
/-- LNK_STATUS.BLOCK_LOCK, 0x00800C + … bits [6:6], RO, reset 0: Block lock held -/
abbrev LNK_STATUS_BLOCK_LOCK (n : Nat) : Fld := ⟨(0x800c + 0x1000 * n) * 32 + 6, 1⟩
/-- LNK_STATUS.BIT_LOCK, 0x00800C + … bits [5:5], RO, reset 0: Bit lock held -/
abbrev LNK_STATUS_BIT_LOCK (n : Nat) : Fld := ⟨(0x800c + 0x1000 * n) * 32 + 5, 1⟩
/-- LNK_STATUS.SIG_DET, 0x00800C + … bits [4:4], RO, reset 0: Signal detected -/
abbrev LNK_STATUS_SIG_DET (n : Nat) : Fld := ⟨(0x800c + 0x1000 * n) * 32 + 4, 1⟩
/-- LNK_STATUS.STAGE, 0x00800C + … bits [3:0], RO, reset 1: Current stage, 1–8 -/
abbrev LNK_STATUS_STAGE (n : Nat) : Fld := ⟨(0x800c + 0x1000 * n) * 32, 4⟩
/-- LNK_STICKY.PRBS_SAT, 0x008018 + … bits [11:11], W1C, reset 0: Counters saturated (R115) -/
abbrev LNK_STICKY_PRBS_SAT (n : Nat) : Fld := ⟨(0x8018 + 0x1000 * n) * 32 + 11, 1⟩
/-- LNK_STICKY.PRBS_RESYNC, 0x008018 + … bits [10:10], W1C, reset 0: Checker reseeded (R114) -/
abbrev LNK_STICKY_PRBS_RESYNC (n : Nat) : Fld := ⟨(0x8018 + 0x1000 * n) * 32 + 10, 1⟩
/-- LNK_STICKY.SLIP_IGNORED, 0x008018 + … bits [9:9], W1C, reset 0: Bit-slip ignored (R111) -/
abbrev LNK_STICKY_SLIP_IGNORED (n : Nat) : Fld := ⟨(0x8018 + 0x1000 * n) * 32 + 9, 1⟩
/-- LNK_STICKY.TEST_REJECT, 0x008018 + … bits [8:8], W1C, reset 0: Test setting refused (R113) -/
abbrev LNK_STICKY_TEST_REJECT (n : Nat) : Fld := ⟨(0x8018 + 0x1000 * n) * 32 + 8, 1⟩
/-- LNK_STICKY.ROLE_CONFLICT, 0x008018 + … bits [7:7], W1C, reset 0: Two roles on one lane (R101) -/
abbrev LNK_STICKY_ROLE_CONFLICT (n : Nat) : Fld := ⟨(0x8018 + 0x1000 * n) * 32 + 7, 1⟩
/-- LNK_STICKY.DESKEW_FAIL, 0x008018 + … bits [6:6], W1C, reset 0: Group skew beyond 16 blocks (R106) -/
abbrev LNK_STICKY_DESKEW_FAIL (n : Nat) : Fld := ⟨(0x8018 + 0x1000 * n) * 32 + 6, 1⟩
/-- LNK_STICKY.REVERSAL_CORRECTED, 0x008018 + … bits [5:5], W1C, reset 0: Group mapping swapped (R106) -/
abbrev LNK_STICKY_REVERSAL_CORRECTED (n : Nat) : Fld := ⟨(0x8018 + 0x1000 * n) * 32 + 5, 1⟩
/-- LNK_STICKY.POL_CORRECTED, 0x008018 + … bits [4:4], W1C, reset 0: Polarity inverted (R105) -/
abbrev LNK_STICKY_POL_CORRECTED (n : Nat) : Fld := ⟨(0x8018 + 0x1000 * n) * 32 + 4, 1⟩
/-- LNK_STICKY.RETRY_EXHAUSTED, 0x008018 + … bits [3:3], W1C, reset 0: Retry limit reached (R109) -/
abbrev LNK_STICKY_RETRY_EXHAUSTED (n : Nat) : Fld := ⟨(0x8018 + 0x1000 * n) * 32 + 3, 1⟩
/-- LNK_STICKY.STAGE_TMO, 0x008018 + … bits [2:2], W1C, reset 0: Stage limit exceeded (R109) -/
abbrev LNK_STICKY_STAGE_TMO (n : Nat) : Fld := ⟨(0x8018 + 0x1000 * n) * 32 + 2, 1⟩
/-- LNK_STICKY.LINK_DOWN, 0x008018 + … bits [1:1], W1C, reset 0: Lane left ready (R108) -/
abbrev LNK_STICKY_LINK_DOWN (n : Nat) : Fld := ⟨(0x8018 + 0x1000 * n) * 32 + 1, 1⟩
/-- LNK_STICKY.CDR_RANGE, 0x008018 + … bits [0:0], W1C, reset 0: Recovery out of range (R99) -/
abbrev LNK_STICKY_CDR_RANGE (n : Nat) : Fld := ⟨(0x8018 + 0x1000 * n) * 32, 1⟩
/-- LNK_TX.DEEMPH, 0x008040 + … bits [7:4], RW, reset 5: De-emphasis, 0.4 dB steps -/
abbrev LNK_TX_DEEMPH (n : Nat) : Fld := ⟨(0x8040 + 0x1000 * n) * 32 + 4, 4⟩
/-- LNK_TX.AMP, 0x008040 + … bits [3:0], RW, reset 10: Swing, 400 mVppd + 40 mVppd × AMP -/
abbrev LNK_TX_AMP (n : Nat) : Fld := ⟨(0x8040 + 0x1000 * n) * 32, 4⟩
/-- LNK_RX.EQ_AUTO, 0x008044 + … bits [4:4], RW, reset 1: Automatic equaliser -/
abbrev LNK_RX_EQ_AUTO (n : Nat) : Fld := ⟨(0x8044 + 0x1000 * n) * 32 + 4, 1⟩
/-- LNK_RX.EQ, 0x008044 + … bits [3:0], RW, reset 6: Equaliser boost, 1 dB steps; RO result while EQ_AUTO -/
abbrev LNK_RX_EQ (n : Nat) : Fld := ⟨(0x8044 + 0x1000 * n) * 32, 4⟩
/-- LNK_CMD.PRBS_ERR_INJECT, 0x008048 + … bits [3:3], WO, reset 0: Invert one generator bit -/
abbrev LNK_CMD_PRBS_ERR_INJECT (n : Nat) : Fld := ⟨(0x8048 + 0x1000 * n) * 32 + 3, 1⟩
/-- LNK_CMD.PRBS_CNT_CLR, 0x008048 + … bits [2:2], WO, reset 0: Clear PRBS counters -/
abbrev LNK_CMD_PRBS_CNT_CLR (n : Nat) : Fld := ⟨(0x8048 + 0x1000 * n) * 32 + 2, 1⟩
/-- LNK_CMD.BITSLIP, 0x008048 + … bits [1:1], WO, reset 0: Slip one bit (R111) -/
abbrev LNK_CMD_BITSLIP (n : Nat) : Fld := ⟨(0x8048 + 0x1000 * n) * 32 + 1, 1⟩
/-- LNK_CMD.RETRAIN, 0x008048 + … bits [0:0], WO, reset 0: Clear RETRIES; restart from stage 1 -/
abbrev LNK_CMD_RETRAIN (n : Nat) : Fld := ⟨(0x8048 + 0x1000 * n) * 32, 1⟩
/-- LNK_LOOP.TX_QUIET, 0x00804C + … bits [2:2], RW, reset 0: Idle transmit pins in near-end loops -/
abbrev LNK_LOOP_TX_QUIET (n : Nat) : Fld := ⟨(0x804c + 0x1000 * n) * 32 + 2, 1⟩
/-- LNK_LOOP.MODE, 0x00804C + … bits [1:0], RW, reset 0: 0 = none, 1 = near parallel, 2 = near serial, 3 = far-end -/
abbrev LNK_LOOP_MODE (n : Nat) : Fld := ⟨(0x804c + 0x1000 * n) * 32, 2⟩
/-- LNK_PRBS_CTRL.CHK, 0x008050 + … bits [5:4], RW, reset 0: Checker: 0 = off, 1 = PRBS7, 2 = PRBS15, 3 = PRBS31 -/
abbrev LNK_PRBS_CTRL_CHK (n : Nat) : Fld := ⟨(0x8050 + 0x1000 * n) * 32 + 4, 2⟩
/-- LNK_PRBS_CTRL.GEN, 0x008050 + … bits [1:0], RW, reset 0: Generator, coded as CHK -/
abbrev LNK_PRBS_CTRL_GEN (n : Nat) : Fld := ⟨(0x8050 + 0x1000 * n) * 32, 2⟩
/-- LNK_PRBS_STATUS.SAT, 0x008054 + … bits [1:1], RO, reset 0: Counters stopped -/
abbrev LNK_PRBS_STATUS_SAT (n : Nat) : Fld := ⟨(0x8054 + 0x1000 * n) * 32 + 1, 1⟩
/-- LNK_PRBS_STATUS.LOCK, 0x008054 + … bits [0:0], RO, reset 0: Checker locked -/
abbrev LNK_PRBS_STATUS_LOCK (n : Nat) : Fld := ⟨(0x8054 + 0x1000 * n) * 32, 1⟩
/-- LNK_PRBS_BITS_LO.N, 0x008058 + … bits [31:0], RO, reset 0: Bits [31:0]; read latches BITS_HI and ERR -/
abbrev LNK_PRBS_BITS_LO_N (n : Nat) : Fld := ⟨(0x8058 + 0x1000 * n) * 32, 32⟩
/-- LNK_PRBS_BITS_HI.N, 0x00805C + … bits [15:0], RO, reset 0: Bits [47:32] -/
abbrev LNK_PRBS_BITS_HI_N (n : Nat) : Fld := ⟨(0x805c + 0x1000 * n) * 32, 16⟩
/-- LNK_PRBS_ERR.N, 0x008060 + … bits [31:0], RO, reset 0: Bit errors -/
abbrev LNK_PRBS_ERR_N (n : Nat) : Fld := ⟨(0x8060 + 0x1000 * n) * 32, 32⟩
/-- LNK_CDR.FREQ, 0x008064 + … bits [31:16], RO, reset 0: Far minus local frequency, signed, 0.1 ppm -/
abbrev LNK_CDR_FREQ (n : Nat) : Fld := ⟨(0x8064 + 0x1000 * n) * 32 + 16, 16⟩
/-- LNK_CDR.PHASE, 0x008064 + … bits [7:0], RO, reset 0: Tap × 16 + interpolator step -/
abbrev LNK_CDR_PHASE (n : Nat) : Fld := ⟨(0x8064 + 0x1000 * n) * 32, 8⟩
/-- LNK_SKEW.BITS, 0x008068 + … bits [10:0], RO, reset 0: Group skew removed, bit times -/
abbrev LNK_SKEW_BITS (n : Nat) : Fld := ⟨(0x8068 + 0x1000 * n) * 32, 11⟩
/-- LNK_TRAIN_RX.W, 0x00806C + … bits [31:0], RO, reset 0: Last TRAIN payload bits [55:24] -/
abbrev LNK_TRAIN_RX_W (n : Nat) : Fld := ⟨(0x806c + 0x1000 * n) * 32, 32⟩
/-- LNK_CNT_RETRAIN.N, 0x008070 + … bits [31:0], RO, reset 0: Returns to stage 2; saturates -/
abbrev LNK_CNT_RETRAIN_N (n : Nat) : Fld := ⟨(0x8070 + 0x1000 * n) * 32, 32⟩
/-- LNK_CNT_HDR_ERR.N, 0x008074 + … bits [31:0], RO, reset 0: Invalid headers while ready; saturates -/
abbrev LNK_CNT_HDR_ERR_N (n : Nat) : Fld := ⟨(0x8074 + 0x1000 * n) * 32, 32⟩
/-- LNK_RAW_TX_LO.PAT, 0x008078 + … bits [31:0], RW, reset 0: Raw pattern [31:0] -/
abbrev LNK_RAW_TX_LO_PAT (n : Nat) : Fld := ⟨(0x8078 + 0x1000 * n) * 32, 32⟩
/-- LNK_RAW_TX_HI.PAT, 0x00807C + … bits [31:0], RW, reset 0: Raw pattern [63:32] -/
abbrev LNK_RAW_TX_HI_PAT (n : Nat) : Fld := ⟨(0x807c + 0x1000 * n) * 32, 32⟩
/-- LNK_RAW_RX_LO.W, 0x008080 + … bits [31:0], RO, reset 0: Received word [31:0]; read latches RAW_RX_HI -/
abbrev LNK_RAW_RX_LO_W (n : Nat) : Fld := ⟨(0x8080 + 0x1000 * n) * 32, 32⟩
/-- LNK_RAW_RX_HI.W, 0x008084 + … bits [31:0], RO, reset 0: Received word [63:32] -/
abbrev LNK_RAW_RX_HI_W (n : Nat) : Fld := ⟨(0x8084 + 0x1000 * n) * 32, 32⟩
/-- KE0_CTRL.COMMIT_BRK, 0x020008 bits [5:5], RW, reset 0: Commit the BRK group at W (R128) -/
abbrev KE0_CTRL_COMMIT_BRK : Fld := ⟨4194565, 1⟩
/-- KE0_CTRL.COMMIT_PWM, 0x020008 bits [4:2], RW, reset 0b000: Commit groups PWM0–PWM2 at W -/
abbrev KE0_CTRL_COMMIT_PWM : Fld := ⟨4194562, 3⟩
/-- KE0_CTRL.ENABLE, 0x020008 bits [0:0], RW, reset 0: Engine enabled -/
abbrev KE0_CTRL_ENABLE : Fld := ⟨4194560, 1⟩
/-- KE0_STATUS.LEN, 0x02000C bits [31:16], RO, reset 0: Length in force, cycles -/
abbrev KE0_STATUS_LEN : Fld := ⟨4194704, 16⟩
/-- KE0_STATUS.PBANK, 0x02000C bits [7:7], RO, reset 0: Active parameter bank -/
abbrev KE0_STATUS_PBANK : Fld := ⟨4194695, 1⟩
/-- KE0_STATUS.PCOPY, 0x02000C bits [6:6], RO, reset 0: Bank copy running (R135) -/
abbrev KE0_STATUS_PCOPY : Fld := ⟨4194694, 1⟩
/-- KE0_STATUS.CHK_BUSY, 0x02000C bits [5:5], RO, reset 0: Check running -/
abbrev KE0_STATUS_CHK_BUSY : Fld := ⟨4194693, 1⟩
/-- KE0_STATUS.EN_HELD, 0x02000C bits [3:3], RO, reset 0: A write of 1 to KE0_CTRL.ENABLE is held (R385, R492) -/
abbrev KE0_STATUS_EN_HELD : Fld := ⟨4194691, 1⟩
/-- KE0_STATUS.STATE, 0x02000C bits [2:0], RO, reset 0: 0 = OFF, 1 = ARMED, 2 = RUN, 3 = IDLE, 4 = FAULT -/
abbrev KE0_STATUS_STATE : Fld := ⟨4194688, 3⟩
/-- KE0_STICKY.CHECK_FAIL, 0x020018 bits [8:8], W1C, reset 0: Check failed (R132) -/
abbrev KE0_STICKY_CHECK_FAIL : Fld := ⟨4195080, 1⟩
/-- KE0_STICKY.SAT, 0x020018 bits [7:7], W1C, reset 0: A stage saturated (R120) -/
abbrev KE0_STICKY_SAT : Fld := ⟨4195079, 1⟩
/-- KE0_STICKY.ECC_CORR, 0x020018 bits [6:6], W1C, reset 0: Single-bit error corrected -/
abbrev KE0_STICKY_ECC_CORR : Fld := ⟨4195078, 1⟩
/-- KE0_STICKY.FAULT, 0x020018 bits [5:5], W1C, reset 0: Uncorrectable error (R137) -/
abbrev KE0_STICKY_FAULT : Fld := ⟨4195077, 1⟩
/-- KE0_STICKY.OUT_RANGE, 0x020018 bits [4:4], W1C, reset 0: Output clamped (R128) -/
abbrev KE0_STICKY_OUT_RANGE : Fld := ⟨4195076, 1⟩
/-- KE0_STICKY.PARAM_REJECT, 0x020018 bits [3:3], W1C, reset 0: Parameter write or swap refused (R135) -/
abbrev KE0_STICKY_PARAM_REJECT : Fld := ⟨4195075, 1⟩
/-- KE0_STICKY.PROG_WR_REJECT, 0x020018 bits [2:2], W1C, reset 0: Program write refused (R131) -/
abbrev KE0_STICKY_PROG_WR_REJECT : Fld := ⟨4195074, 1⟩
/-- KE0_STICKY.PROG_REJECT, 0x020018 bits [1:1], W1C, reset 0: Unchecked program named (R133) -/
abbrev KE0_STICKY_PROG_REJECT : Fld := ⟨4195073, 1⟩
/-- KE0_STICKY.TIMING_REJECT, 0x020018 bits [0:0], W1C, reset 0: Timing commit refused (R15, R133) -/
abbrev KE0_STICKY_TIMING_REJECT : Fld := ⟨4195072, 1⟩
/-- KE0_PERIOD.TICKS, 0x020040 bits [15:0], RWS, reset 8,000: Control period, coarse ticks, 800–32,768 (32,768 written as 0x8000); any other value, 0 included, is refused at commit (R133) -/
abbrev KE0_PERIOD_TICKS : Fld := ⟨4196352, 16⟩
/-- KE0_WPHASE.W, 0x020044 bits [12:0], RWS, reset 1,280: Write phase, CLK_ENG cycles, 256–8,000 -/
abbrev KE0_WPHASE_W : Fld := ⟨4196480, 13⟩
/-- KE0_PROG.SRC, 0x020048 bits [31:31], RWS, reset 0: 0 = program store, 1 = ROM -/
abbrev KE0_PROG_SRC : Fld := ⟨4196639, 1⟩
/-- KE0_PROG.ROM_ID, 0x020048 bits [23:16], RWS, reset 0x00: ROM program -/
abbrev KE0_PROG_ROM_ID : Fld := ⟨4196624, 8⟩
/-- KE0_PROG.START, 0x020048 bits [10:0], RWS, reset 0: Start word in the store -/
abbrev KE0_PROG_START : Fld := ⟨4196608, 11⟩
/-- KE0_CMD.CHECK, 0x02004C bits [0:0], WO, reset 0: Check the program at CHK_ADDR (R132) -/
abbrev KE0_CMD_CHECK : Fld := ⟨4196736, 1⟩
/-- KE0_CHK_ADDR.ADDR, 0x020050 bits [10:0], RW, reset 0: Start word to check -/
abbrev KE0_CHK_ADDR_ADDR : Fld := ⟨4196864, 11⟩
/-- KE0_PSTAT.VALID, 0x020054 bits [31:31], RO, reset 0: Last check passed -/
abbrev KE0_PSTAT_VALID : Fld := ⟨4197023, 1⟩
/-- KE0_PSTAT.ERR, 0x020054 bits [30:27], RO, reset 0: Check error code -/
abbrev KE0_PSTAT_ERR : Fld := ⟨4197019, 4⟩
/-- KE0_PSTAT.ERR_ADDR, 0x020054 bits [26:16], RO, reset 0: Word in error -/
abbrev KE0_PSTAT_ERR_ADDR : Fld := ⟨4197008, 11⟩
/-- KE0_PSTAT.LEN, 0x020054 bits [15:0], RO, reset 0: Checked length, cycles -/
abbrev KE0_PSTAT_LEN : Fld := ⟨4196992, 16⟩
/-- KE0_SATFLAGS0.STAGE, 0x020058 bits [31:0], W1C, reset 0: Stages 0–31 saturated -/
abbrev KE0_SATFLAGS0_STAGE : Fld := ⟨4197120, 32⟩
/-- KE0_SATFLAGS1.STAGE, 0x02005C bits [31:0], W1C, reset 0: Stages 32–63 saturated -/
abbrev KE0_SATFLAGS1_STAGE : Fld := ⟨4197248, 32⟩
/-- KE0_ECC_CNT.N, 0x020060 bits [15:0], RO, reset 0: Corrected errors; saturates -/
abbrev KE0_ECC_CNT_N : Fld := ⟨4197376, 16⟩
/-- KE0_FAULT_INFO.MEM, 0x020064 bits [31:28], RO, reset 0: 0 = program, 1 = parameter, 2 = stage, 3 = slot -/
abbrev KE0_FAULT_INFO_MEM : Fld := ⟨4197532, 4⟩
/-- KE0_FAULT_INFO.ADDR, 0x020064 bits [15:0], RO, reset 0: Word address -/
abbrev KE0_FAULT_INFO_ADDR : Fld := ⟨4197504, 16⟩
/-- KE0_OSAFEn.VAL, 0x020400 + … bits [31:0], RW, reset 0: Safe value, OSLOT n (n = 0–127) -/
abbrev KE0_OSAFE_VAL (n : Nat) : Fld := ⟨(0x20400 + 4 * n) * 32, 32⟩
/-- KE0_ISLOTn.VAL, 0x020800 + … bits [31:0], RO, reset 0: ISLOT n (n = 0–255) -/
abbrev KE0_ISLOT_VAL (n : Nat) : Fld := ⟨(0x20800 + 4 * n) * 32, 32⟩
/-- KE0_OSLOTn.VAL, 0x020C00 + … bits [31:0], RO, reset 0: OSLOT n (n = 0–127) -/
abbrev KE0_OSLOT_VAL (n : Nat) : Fld := ⟨(0x20c00 + 4 * n) * 32, 32⟩
/-- KE1_STICKY.CHECK_FAIL, 0x030018 bits [8:8], W1C, reset 0: Check failed (R132) -/
abbrev KE1_STICKY_CHECK_FAIL : Fld := ⟨6292232, 1⟩
/-- KE1_STICKY.EXP_OVF, 0x030018 bits [7:7], W1C, reset 0: Exponent beyond +127 (R121, R123) -/
abbrev KE1_STICKY_EXP_OVF : Fld := ⟨6292231, 1⟩
/-- KE1_STICKY.ECC_CORR, 0x030018 bits [6:6], W1C, reset 0: Single-bit error corrected -/
abbrev KE1_STICKY_ECC_CORR : Fld := ⟨6292230, 1⟩
/-- KE1_STICKY.FAULT, 0x030018 bits [5:5], W1C, reset 0: Uncorrectable error (R137) -/
abbrev KE1_STICKY_FAULT : Fld := ⟨6292229, 1⟩
/-- KE1_STICKY.CLAMP, 0x030018 bits [4:4], W1C, reset 0: An integrator reached a limit (R122) -/
abbrev KE1_STICKY_CLAMP : Fld := ⟨6292228, 1⟩
/-- KE1_STICKY.PARAM_REJECT, 0x030018 bits [3:3], W1C, reset 0: Parameter write or swap refused (R135) -/
abbrev KE1_STICKY_PARAM_REJECT : Fld := ⟨6292227, 1⟩
/-- KE1_STICKY.PROG_WR_REJECT, 0x030018 bits [2:2], W1C, reset 0: Program write refused (R131) -/
abbrev KE1_STICKY_PROG_WR_REJECT : Fld := ⟨6292226, 1⟩
/-- KE1_STICKY.PROG_REJECT, 0x030018 bits [1:1], W1C, reset 0: Entry commit refused (R133) -/
abbrev KE1_STICKY_PROG_REJECT : Fld := ⟨6292225, 1⟩
/-- KE1_ENTRYk.EN, 0x030040 + … bits [31:31], RWS, reset 0: Entry enabled; k = 0 is class 1, k = 1–8 are class 2 -/
abbrev KE1_ENTRY_EN (n : Nat) : Fld := ⟨(0x30040 + 4 * n) * 32 + 31, 1⟩
/-- KE1_ENTRYk.SRC, 0x030040 + … bits [30:30], RWS, reset 0: 0 = program store, 1 = ROM -/
abbrev KE1_ENTRY_SRC (n : Nat) : Fld := ⟨(0x30040 + 4 * n) * 32 + 30, 1⟩
/-- KE1_ENTRYk.ROM_ID, 0x030040 + … bits [23:16], RWS, reset 0x00: ROM program -/
abbrev KE1_ENTRY_ROM_ID (n : Nat) : Fld := ⟨(0x30040 + 4 * n) * 32 + 16, 8⟩
/-- KE1_ENTRYk.START, 0x030040 + … bits [11:0], RWS, reset 0: Start word -/
abbrev KE1_ENTRY_START (n : Nat) : Fld := ⟨(0x30040 + 4 * n) * 32, 12⟩
/-- KE1_CMD.RMAX_CLR, 0x030064 bits [1:1], WO, reset 0: Clear KE1_C2_RMAX -/
abbrev KE1_CMD_RMAX_CLR : Fld := ⟨6294657, 1⟩
/-- KE1_CMD.CHECK, 0x030064 bits [0:0], WO, reset 0: Check the program at CHK_ADDR -/
abbrev KE1_CMD_CHECK : Fld := ⟨6294656, 1⟩
/-- KE1_CHK_ADDR.ADDR, 0x030068 bits [11:0], RW, reset 0: Start word to check -/
abbrev KE1_CHK_ADDR_ADDR : Fld := ⟨6294784, 12⟩
/-- KE1_PSTAT.VALID, 0x03006C bits [31:31], RO, reset 0: Last check passed -/
abbrev KE1_PSTAT_VALID : Fld := ⟨6294943, 1⟩
/-- KE1_PSTAT.ERR, 0x03006C bits [30:27], RO, reset 0: Check error code -/
abbrev KE1_PSTAT_ERR : Fld := ⟨6294939, 4⟩
/-- KE1_PSTAT.ERR_ADDR, 0x03006C bits [11:0], RO, reset 0: Word in error -/
abbrev KE1_PSTAT_ERR_ADDR : Fld := ⟨6294912, 12⟩
/-- KE1_CLAMPFLAGSj.STAGE, 0x030070 + … bits [31:0], W1C, reset 0: Stages 32j to 32j + 31 clamped (j = 0–3) -/
abbrev KE1_CLAMPFLAGS_STAGE (n : Nat) : Fld := ⟨(0x30070 + 4 * n) * 32, 32⟩
/-- KE1_ECC_CNT.N, 0x0300A0 bits [15:0], RO, reset 0: Corrected errors; saturates -/
abbrev KE1_ECC_CNT_N : Fld := ⟨6296576, 16⟩
/-- KE1_FAULT_INFO.MEM, 0x0300A4 bits [31:28], RO, reset 0: As KE0 -/
abbrev KE1_FAULT_INFO_MEM : Fld := ⟨6296732, 4⟩
/-- KE1_FAULT_INFO.ADDR, 0x0300A4 bits [15:0], RO, reset 0: Word address -/
abbrev KE1_FAULT_INFO_ADDR : Fld := ⟨6296704, 16⟩
/-- KE1_EXP_STAGE.STAGE, 0x0300A8 bits [6:0], RO, reset 0: Last stage with EXP_OVF -/
abbrev KE1_EXP_STAGE_STAGE : Fld := ⟨6296832, 7⟩
/-- KE1_PLEN.LEN, 0x0300AC bits [19:0], RO, reset 0: Checked length, cycles -/
abbrev KE1_PLEN_LEN : Fld := ⟨6296960, 20⟩
/-- KE1_SAFEn.VAL, 0x030400 + … bits [31:0], RW, reset 0: Safe value: n = 0–127 for OSLOT 0x80 + n, n = 128–191 for ISLOT 0x40 + (n − 128) -/
abbrev KE1_SAFE_VAL (n : Nat) : Fld := ⟨(0x30400 + 4 * n) * 32, 32⟩
/-- KE1_OSLOTn.VAL, 0x030C00 + … bits [31:0], RO, reset 0: OSLOT 0x80 + n (n = 0–127) -/
abbrev KE1_OSLOT_VAL (n : Nat) : Fld := ⟨(0x30c00 + 4 * n) * 32, 32⟩
/-- KE1_STATUS.PBANK, 0x03000C bits [7:7], RO, reset 0: Active parameter bank -/
abbrev KE1_STATUS_PBANK : Fld := ⟨6291847, 1⟩
/-- KE1_STATUS.PCOPY, 0x03000C bits [6:6], RO, reset 0: Bank copy running (R135) -/
abbrev KE1_STATUS_PCOPY : Fld := ⟨6291846, 1⟩
/-- KE1_STATUS.CHK_BUSY, 0x03000C bits [5:5], RO, reset 0: Check running -/
abbrev KE1_STATUS_CHK_BUSY : Fld := ⟨6291845, 1⟩
/-- KE1_STATUS.STATE, 0x03000C bits [2:0], RO, reset 0: 0 = OFF, 1 = ARMED, 2 = RUN, 3 = IDLE, 4 = FAULT -/
abbrev KE1_STATUS_STATE : Fld := ⟨6291840, 3⟩
/-- KE1_CTRL.ENABLE, 0x030008 bits [0:0], RW, reset 0: Enable -/
abbrev KE1_CTRL_ENABLE : Fld := ⟨6291712, 1⟩
/-- KE1_SCHED.M, 0x030080 bits [6:0], RWS, reset 1: Class-1 divider, 0–64; 0 = no slot (R158); entry group, COMMIT bit 0; above 64 refused -/
abbrev KE1_SCHED_M : Fld := ⟨6295552, 7⟩
/-- KE1_SCHED_STAT.SLOT, 0x030084 bits [31:16], RO, reset 19: Slot length, cycles (R160) -/
abbrev KE1_SCHED_STAT_SLOT : Fld := ⟨6295696, 16⟩
/-- KE1_SCHED_STAT.C2_ENTRY, 0x030084 bits [15:12], RO, reset 0: Class-2 entry running or suspended -/
abbrev KE1_SCHED_STAT_C2_ENTRY : Fld := ⟨6295692, 4⟩
/-- KE1_SCHED_STAT.C2_SUSP, 0x030084 bits [11:11], RO, reset 0: Class 2 suspended -/
abbrev KE1_SCHED_STAT_C2_SUSP : Fld := ⟨6295691, 1⟩
/-- KE1_SCHED_STAT.C2_RUN, 0x030084 bits [10:10], RO, reset 0: Class 2 running -/
abbrev KE1_SCHED_STAT_C2_RUN : Fld := ⟨6295690, 1⟩
/-- KE1_SCHED_STAT.C1_RUN, 0x030084 bits [9:9], RO, reset 0: Class 1 running -/
abbrev KE1_SCHED_STAT_C1_RUN : Fld := ⟨6295689, 1⟩
/-- KE1_SCHED_STAT.PHASE, 0x030084 bits [6:0], RO, reset 0: Period count modulo M -/
abbrev KE1_SCHED_STAT_PHASE : Fld := ⟨6295680, 7⟩
/-- KE1_C2_ROUND.N, 0x030088 bits [31:0], RO, reset 0: Last round, cycles; saturates -/
abbrev KE1_C2_ROUND_N : Fld := ⟨6295808, 32⟩
/-- KE1_C2_RMAX.N, 0x03008C bits [31:0], RO, reset 0: Longest round, cycles; saturates; cleared by KE1_CMD.RMAX_CLR -/
abbrev KE1_C2_RMAX_N : Fld := ⟨6295936, 32⟩
/-- KE1_C2_LIMIT.US, 0x030090 bits [15:0], RW, reset 0: Round limit, µs; 0 = no round check (R164) -/
abbrev KE1_C2_LIMIT_US : Fld := ⟨6296064, 16⟩
/-- KE1_SCHED_STICKY.C2_LATE, 0x030094 bits [0:0], W1C, reset 0: Round exceeded the limit (R164) -/
abbrev KE1_SCHED_STICKY_C2_LATE : Fld := ⟨6296192, 1⟩
/-- KE1_EVT.FLAG, 0x030098 bits [15:0], W1C, reset 0: Bit f set by FLAG 48 + f on KE1 -/
abbrev KE1_EVT_FLAG : Fld := ⟨6296320, 16⟩
/-- KE1_EVT_EN.FLAG, 0x03009C bits [15:0], RW, reset 0: An enabled KE1_EVT bit raises the KE1 page interrupt -/
abbrev KE1_EVT_EN_FLAG : Fld := ⟨6296448, 16⟩
/-- FPM_CTRL.ENABLE, 0x021008 bits [0:0], RW, reset 0: Monitor enabled -/
abbrev FPM_CTRL_ENABLE : Fld := ⟨4325632, 1⟩
/-- FPM_STATUS.IN_EVENT, 0x02100C bits [31:24], RO, reset 0: Channels whose COUNT has reached N -/
abbrev FPM_STATUS_IN_EVENT : Fld := ⟨4325784, 8⟩
/-- FPM_STATUS.TAKEOVER_REQ, 0x02100C bits [3:3], RO, reset 0: Takeover request presented -/
abbrev FPM_STATUS_TAKEOVER_REQ : Fld := ⟨4325763, 1⟩
/-- FPM_STATUS.TRIP_ASSERTED, 0x02100C bits [2:2], RO, reset 0: An FPM trip line asserted -/
abbrev FPM_STATUS_TRIP_ASSERTED : Fld := ⟨4325762, 1⟩
/-- FPM_STATUS.HOLD_ACTIVE, 0x02100C bits [1:1], RO, reset 0: A hold in force -/
abbrev FPM_STATUS_HOLD_ACTIVE : Fld := ⟨4325761, 1⟩
/-- FPM_STATUS.ACTIVE, 0x02100C bits [0:0], RO, reset 0: ENABLE set and KE0 in RUN -/
abbrev FPM_STATUS_ACTIVE : Fld := ⟨4325760, 1⟩
/-- FPM_STICKY.CFG_REJECT, 0x021018 bits [6:6], W1C, reset 0: Channel commit refused (R181) -/
abbrev FPM_STICKY_CFG_REJECT : Fld := ⟨4326150, 1⟩
/-- FPM_STICKY.LATE_SKIP, 0x021018 bits [5:5], W1C, reset 0: LATE result skipped (R174) -/
abbrev FPM_STICKY_LATE_SKIP : Fld := ⟨4326149, 1⟩
/-- FPM_STICKY.TAKEOVER_NA, 0x021018 bits [4:4], W1C, reset 0: Takeover acted as trip (R178) -/
abbrev FPM_STICKY_TAKEOVER_NA : Fld := ⟨4326148, 1⟩
/-- FPM_STICKY.SAT_EVENT, 0x021018 bits [3:3], W1C, reset 0: Masked stage saturated (R180) -/
abbrev FPM_STICKY_SAT_EVENT : Fld := ⟨4326147, 1⟩
/-- FPM_STICKY.REL_REJECT, 0x021018 bits [2:2], W1C, reset 0: Release refused (R179, R180) -/
abbrev FPM_STICKY_REL_REJECT : Fld := ⟨4326146, 1⟩
/-- FPM_STICKY.NO_PRED, 0x021018 bits [1:1], W1C, reset 0: Source written without prediction (R173) -/
abbrev FPM_STICKY_NO_PRED : Fld := ⟨4326145, 1⟩
/-- FPM_STICKY.EVENT, 0x021018 bits [0:0], W1C, reset 0: Channel event (R176) -/
abbrev FPM_STICKY_EVENT : Fld := ⟨4326144, 1⟩
/-- FPM_EVT0.CH, 0x021040 bits [31:0], W1C, reset 0: Channels 0–31 raised an event -/
abbrev FPM_EVT0_CH : Fld := ⟨4327424, 32⟩
/-- FPM_EVT1.CH, 0x021044 bits [31:0], W1C, reset 0: Channels 32–63 raised an event -/
abbrev FPM_EVT1_CH : Fld := ⟨4327552, 32⟩
/-- FPM_REL0.CH, 0x021048 bits [31:0], WO, reset 0: Release channels 0–31 (R179) -/
abbrev FPM_REL0_CH : Fld := ⟨4327680, 32⟩
/-- FPM_REL1.CH, 0x02104C bits [31:0], WO, reset 0: Release channels 32–63 -/
abbrev FPM_REL1_CH : Fld := ⟨4327808, 32⟩
/-- FPM_SAT_MASK0.STAGE, 0x021050 bits [31:0], RW, reset 0: KE0 stages 0–31 supervised (R180) -/
abbrev FPM_SAT_MASK0_STAGE : Fld := ⟨4327936, 32⟩
/-- FPM_SAT_MASK1.STAGE, 0x021054 bits [31:0], RW, reset 0: KE0 stages 32–63 supervised -/
abbrev FPM_SAT_MASK1_STAGE : Fld := ⟨4328064, 32⟩
/-- FPM_SAT_ACT.TRIP, 0x021058 bits [6:4], RW, reset 0: Trip line for saturation events -/
abbrev FPM_SAT_ACT_TRIP : Fld := ⟨4328196, 3⟩
/-- FPM_SAT_ACT.ACT, 0x021058 bits [2:0], RW, reset 0: 0 = none, 1 = flag, 2 acts as 1, 3 = trip, 4 = takeover; 5–7 act as 0 -/
abbrev FPM_SAT_ACT_ACT : Fld := ⟨4328192, 3⟩
/-- FPM_KE0_EVT.FLAG, 0x02105C bits [15:0], W1C, reset 0: Bit f set by FLAG 48 + f on KE0 -/
abbrev FPM_KE0_EVT_FLAG : Fld := ⟨4328320, 16⟩
/-- FPM_KE0_EVT_EN.FLAG, 0x021060 bits [15:0], RW, reset 0: An enabled FPM_KE0_EVT bit raises the FPM page interrupt -/
abbrev FPM_KE0_EVT_EN_FLAG : Fld := ⟨4328448, 16⟩
/-- FPM_CNT_SKIP.N, 0x021064 bits [31:0], RO, reset 0: LATE skips; saturates -/
abbrev FPM_CNT_SKIP_N : Fld := ⟨4328576, 32⟩
/-- FPM_CMD.SAT_REL, 0x021068 bits [0:0], WO, reset 0: Release the saturation action (R180) -/
abbrev FPM_CMD_SAT_REL : Fld := ⟨4328704, 1⟩
/-- FPM_CHn_CFG.N, 0x021200 + … bits [31:24], RWS, reset 0: Consecutive count for an event, 1–255; 0 = channel off -/
abbrev FPM_CH_CFG_N (n : Nat) : Fld := ⟨(0x21200 + 0x10 * n) * 32 + 24, 8⟩
/-- FPM_CHn_CFG.SRC, 0x021200 + … bits [23:16], RWS, reset 0: Source ISLOT -/
abbrev FPM_CH_CFG_SRC (n : Nat) : Fld := ⟨(0x21200 + 0x10 * n) * 32 + 16, 8⟩
/-- FPM_CHn_CFG.ACT, 0x021200 + … bits [14:12], RWS, reset 0: Action (R176) -/
abbrev FPM_CH_CFG_ACT (n : Nat) : Fld := ⟨(0x21200 + 0x10 * n) * 32 + 12, 3⟩
/-- FPM_CHn_CFG.TRIP, 0x021200 + … bits [10:8], RWS, reset 0: FPM trip line, 0–7 -/
abbrev FPM_CH_CFG_TRIP (n : Nat) : Fld := ⟨(0x21200 + 0x10 * n) * 32 + 8, 3⟩
/-- FPM_CHn_THR.THR, 0x021204 + … bits [31:0], RWS, reset 0: Residual threshold, slot-word format -/
abbrev FPM_CH_THR_THR (n : Nat) : Fld := ⟨(0x21204 + 0x10 * n) * 32, 32⟩
/-- FPM_CHn_HOLD.COUNT, 0x021208 + … bits [31:24], RO, reset 0: Consecutive count (R172) -/
abbrev FPM_CH_HOLD_COUNT (n : Nat) : Fld := ⟨(0x21208 + 0x10 * n) * 32 + 24, 8⟩
/-- FPM_CHn_HOLD.HOLD_CNT, 0x021208 + … bits [15:8], RWS, reset 0: OSLOTs held; 0 = none -/
abbrev FPM_CH_HOLD_HOLD_CNT (n : Nat) : Fld := ⟨(0x21208 + 0x10 * n) * 32 + 8, 8⟩
/-- FPM_CHn_HOLD.HOLD_BASE, 0x021208 + … bits [7:0], RWS, reset 0: First OSLOT held -/
abbrev FPM_CH_HOLD_HOLD_BASE (n : Nat) : Fld := ⟨(0x21208 + 0x10 * n) * 32, 8⟩
/-- FPM_CHn_RES.RES, 0x02120C + … bits [31:0], RO, reset 0: Last residual, slot-word format -/
abbrev FPM_CH_RES_RES (n : Nat) : Fld := ⟨(0x2120c + 0x10 * n) * 32, 32⟩

end Sys2Proof.F
end

