-- ==== Sys2Proof/Machine/RegMapB.lean ====
section
/-! DEFINITION. The register fields of the manual (grid supervision, PWM, comparators, fast conversion): one name per field, taken from the
register tables of spec/. A field's key is 32 times its byte address plus its lowest bit. -/

namespace Sys2Proof.F

/-- GRD_CTRL.BRK_RT, 0x072008 bits [5:5], RW, reset 1: Ride-through brake thresholds outside NORMAL (R205) -/
abbrev GRD_CTRL_BRK_RT : Fld := ⟨14942469, 1⟩
/-- GRD_CTRL.NEG_EN, 0x072008 bits [4:4], RW, reset 0: Negative-sequence references (R202) -/
abbrev GRD_CTRL_NEG_EN : Fld := ⟨14942468, 1⟩
/-- GRD_CTRL.RCI_EN, 0x072008 bits [3:3], RW, reset 0: Reactive current injection (R201) -/
abbrev GRD_CTRL_RCI_EN : Fld := ⟨14942467, 1⟩
/-- GRD_CTRL.Q_PRIO, 0x072008 bits [2:2], RW, reset 1: Reactive priority (R188) -/
abbrev GRD_CTRL_Q_PRIO : Fld := ⟨14942466, 1⟩
/-- GRD_CTRL.ENABLE, 0x072008 bits [0:0], RW, reset 0: Supervisor and estimator enabled; a set refused at 50 Hz with a preset in force (R199) -/
abbrev GRD_CTRL_ENABLE : Fld := ⟨14942464, 1⟩
/-- GRD_STATUS.ENTRY, 0x07200C bits [13:8], RO, reset 0: Most severe active entry: [13] = 1 for the frequency table, [12:8] entry index 0–31 -/
abbrev GRD_STATUS_ENTRY : Fld := ⟨14942600, 6⟩
/-- GRD_STATUS.PLL_LOCK, 0x07200C bits [7:7], RO, reset 0: OSLOT 0x92 shows lock -/
abbrev GRD_STATUS_PLL_LOCK : Fld := ⟨14942599, 1⟩
/-- GRD_STATUS.MEAS_VALID, 0x07200C bits [6:6], RO, reset 0: Estimator filled (R196) -/
abbrev GRD_STATUS_MEAS_VALID : Fld := ⟨14942598, 1⟩
/-- GRD_STATUS.SLEWING, 0x07200C bits [5:5], RO, reset 0: Angle moving between sources (R195) -/
abbrev GRD_STATUS_SLEWING : Fld := ⟨14942597, 1⟩
/-- GRD_STATUS.SRC_TIMED, 0x07200C bits [4:4], RO, reset 0: Timed source in use (R194) -/
abbrev GRD_STATUS_SRC_TIMED : Fld := ⟨14942596, 1⟩
/-- GRD_STATUS.STATE, 0x07200C bits [2:0], RO, reset 0: 0 = NORMAL, 1 = RIDE_THROUGH, 2 = CESSATION, 3 = RECOVERY, 4 = TRIPPED -/
abbrev GRD_STATUS_STATE : Fld := ⟨14942592, 3⟩
/-- GRD_STICKY.CLEAR_REJECT, 0x072018 bits [6:6], W1C, reset 0: CLEAR refused (R200) -/
abbrev GRD_STICKY_CLEAR_REJECT : Fld := ⟨14942982, 1⟩
/-- GRD_STICKY.CFG_REJECT, 0x072018 bits [5:5], W1C, reset 0: Write or commit refused (R195, R197, R199) -/
abbrev GRD_STICKY_CFG_REJECT : Fld := ⟨14942981, 1⟩
/-- GRD_STICKY.SRC_CHANGE, 0x072018 bits [4:4], W1C, reset 0: Angle source changed (R195) -/
abbrev GRD_STICKY_SRC_CHANGE : Fld := ⟨14942980, 1⟩
/-- GRD_STICKY.PHASE_JUMP, 0x072018 bits [3:3], W1C, reset 0: Phase jump recorded (R203) -/
abbrev GRD_STICKY_PHASE_JUMP : Fld := ⟨14942979, 1⟩
/-- GRD_STICKY.TRIP, 0x072018 bits [2:2], W1C, reset 0: TRIPPED entered -/
abbrev GRD_STICKY_TRIP : Fld := ⟨14942978, 1⟩
/-- GRD_STICKY.CESSATION, 0x072018 bits [1:1], W1C, reset 0: CESSATION entered -/
abbrev GRD_STICKY_CESSATION : Fld := ⟨14942977, 1⟩
/-- GRD_STICKY.RT_ENTER, 0x072018 bits [0:0], W1C, reset 0: RIDE_THROUGH entered -/
abbrev GRD_STICKY_RT_ENTER : Fld := ⟨14942976, 1⟩
/-- GRD_PROF.CAT, 0x072040 bits [1:0], RWS, reset 3: 0 = user, 1–3 = Category I–III preset -/
abbrev GRD_PROF_CAT : Fld := ⟨14944256, 2⟩
/-- GRD_VNOM.V, 0x072044 bits [31:0], RW, reset 0: V_nom, phase RMS, slot-word format (R197) -/
abbrev GRD_VNOM_V : Fld := ⟨14944384, 32⟩
/-- GRD_FNOM.F60, 0x072048 bits [0:0], RW, reset 1: 0 = 50 Hz, 1 = 60 Hz (R197) -/
abbrev GRD_FNOM_F60 : Fld := ⟨14944512, 1⟩
/-- GRD_VSRC.SLOTS, 0x07204C bits [23:0], RW, reset 0x38_3430: ISLOTs of phases C, B, A in [23:16], [15:8], [7:0] -/
abbrev GRD_VSRC_SLOTS : Fld := ⟨14944640, 24⟩
/-- GRD_RCI.K, 0x072050 bits [31:16], RWS, reset 512: K, 1/256 units -/
abbrev GRD_RCI_K : Fld := ⟨14944784, 16⟩
/-- GRD_RCI.DB, 0x072050 bits [15:0], RWS, reset 410: Deadband, 1/4096 pu -/
abbrev GRD_RCI_DB : Fld := ⟨14944768, 16⟩
/-- GRD_NEG.K2, 0x072054 bits [15:0], RWS, reset 512: K2, 1/256 units -/
abbrev GRD_NEG_K2 : Fld := ⟨14944896, 16⟩
/-- GRD_HYST.F, 0x072058 bits [27:16], RWS, reset 26: Frequency hysteresis, 1/1024 Hz -/
abbrev GRD_HYST_F : Fld := ⟨14945040, 12⟩
/-- GRD_HYST.V, 0x072058 bits [11:0], RWS, reset 41: Voltage hysteresis, 1/4096 pu -/
abbrev GRD_HYST_V : Fld := ⟨14945024, 12⟩
/-- GRD_MC.RAMP_MS, 0x07205C bits [31:16], RWS, reset 100: Recovery ramp, ms -/
abbrev GRD_MC_RAMP_MS : Fld := ⟨14945168, 16⟩
/-- GRD_MC.RESUME_MS, 0x07205C bits [15:0], RWS, reset 0: Delay before RECOVERY, ms -/
abbrev GRD_MC_RESUME_MS : Fld := ⟨14945152, 16⟩
/-- GRD_PJ.N, 0x072060 bits [31:24], RWS, reset 8: Consecutive periods -/
abbrev GRD_PJ_N : Fld := ⟨14945304, 8⟩
/-- GRD_PJ.TRIP_DEG, 0x072060 bits [23:12], RWS, reset 0: Trip threshold, 0.1°; 0 = no trip -/
abbrev GRD_PJ_TRIP_DEG : Fld := ⟨14945292, 12⟩
/-- GRD_PJ.THR, 0x072060 bits [11:0], RWS, reset 50: Record threshold, 0.1° -/
abbrev GRD_PJ_THR : Fld := ⟨14945280, 12⟩
/-- GRD_SYNC.TIMED_EN, 0x072064 bits [31:31], RWS, reset 0: Permit the timed source -/
abbrev GRD_SYNC_TIMED_EN : Fld := ⟨14945439, 1⟩
/-- GRD_SYNC.TRIM, 0x072064 bits [30:24], RWS, reset 0: Offset trim rate; 0 = off -/
abbrev GRD_SYNC_TRIM : Fld := ⟨14945432, 7⟩
/-- GRD_SYNC.REF_AGE, 0x072064 bits [23:16], RWS, reset 50: Reference phasor age limit, ms; must exceed the reference's availability time (R332) -/
abbrev GRD_SYNC_REF_AGE : Fld := ⟨14945424, 8⟩
/-- GRD_SYNC.SLEW, 0x072064 bits [15:0], RWS, reset 932: Angle slew, 2^−24 π rad per period; 0xFFFF = one step; 0 refused (R195) -/
abbrev GRD_SYNC_SLEW : Fld := ⟨14945408, 16⟩
/-- GRD_SYNC_OFS.OFS, 0x072068 bits [31:0], RO, reset 0: Learned OFS, π rad, slot-word format -/
abbrev GRD_SYNC_OFS_OFS : Fld := ⟨14945536, 32⟩
/-- GRD_CMD.RELEARN, 0x07206C bits [1:1], WO, reset 0: Return to the PLL source and relearn OFS under R194 -/
abbrev GRD_CMD_RELEARN : Fld := ⟨14945665, 1⟩
/-- GRD_CMD.CLEAR, 0x07206C bits [0:0], WO, reset 0: Leave TRIPPED (R200) -/
abbrev GRD_CMD_CLEAR : Fld := ⟨14945664, 1⟩
/-- GRD_VMIN.V, 0x072070 bits [31:0], RO, reset 0: Lowest phase RMS, pu, slot-word format -/
abbrev GRD_VMIN_V : Fld := ⟨14945792, 32⟩
/-- GRD_VMAX.V, 0x072074 bits [31:0], RO, reset 0: Highest phase RMS, pu -/
abbrev GRD_VMAX_V : Fld := ⟨14945920, 32⟩
/-- GRD_VPOS.V, 0x072078 bits [31:0], RO, reset 0: |v+|, pu -/
abbrev GRD_VPOS_V : Fld := ⟨14946048, 32⟩
/-- GRD_VNEG.V, 0x07207C bits [31:0], RO, reset 0: |v−|, pu -/
abbrev GRD_VNEG_V : Fld := ⟨14946176, 32⟩
/-- GRD_FREQ.F, 0x072080 bits [31:0], RO, reset 0: Selected frequency, Hz -/
abbrev GRD_FREQ_F : Fld := ⟨14946304, 32⟩
/-- GRD_PJ_LAST.ANG, 0x072084 bits [31:0], RO, reset 0: Last phase jump, π rad -/
abbrev GRD_PJ_LAST_ANG : Fld := ⟨14946432, 32⟩
/-- GRD_UVTk.ENTRY, 0x072400 + … bits [31:0], RWS, reset 0: User voltage entry k (k = 0–31) -/
abbrev GRD_UVT_ENTRY (n : Nat) : Fld := ⟨(0x72400 + 4 * n) * 32, 32⟩
/-- GRD_UFTk.ENTRY, 0x072480 + … bits [31:0], RWS, reset 0: User frequency entry k -/
abbrev GRD_UFT_ENTRY (n : Nat) : Fld := ⟨(0x72480 + 4 * n) * 32, 32⟩
/-- MPT_CTRL.ENABLE, 0x073008 bits [0:0], RW, reset 0: Slots, scan sequencer and islanding decision enabled -/
abbrev MPT_CTRL_ENABLE : Fld := ⟨15073536, 1⟩
/-- MPT_STATUS.ISLAND, 0x07300C bits [10:10], RO, reset 0: Decision latched (R219) -/
abbrev MPT_STATUS_ISLAND : Fld := ⟨15073674, 1⟩
/-- MPT_STATUS.ACT_ON, 0x07300C bits [9:9], RO, reset 0: Active injection on (R222) -/
abbrev MPT_STATUS_ACT_ON : Fld := ⟨15073673, 1⟩
/-- MPT_STATUS.PC_VALID, 0x07300C bits [8:8], RO, reset 0: Phasor comparison valid (R221) -/
abbrev MPT_STATUS_PC_VALID : Fld := ⟨15073672, 1⟩
/-- MPT_STATUS.ROUND, 0x07300C bits [5:5], RO, reset 0: Round in progress -/
abbrev MPT_STATUS_ROUND : Fld := ⟨15073669, 1⟩
/-- MPT_STATUS.SCANNING, 0x07300C bits [4:4], RO, reset 0: Scan in progress -/
abbrev MPT_STATUS_SCANNING : Fld := ⟨15073668, 1⟩
/-- MPT_STATUS.SCAN_IN, 0x07300C bits [3:0], RO, reset 0xF: Input being scanned; 0xF = none -/
abbrev MPT_STATUS_SCAN_IN : Fld := ⟨15073664, 4⟩
/-- MPT_STICKY.ISL_CLR_REJECT, 0x073018 bits [6:6], W1C, reset 0: ISL_CLEAR refused (R226) -/
abbrev MPT_STICKY_ISL_CLR_REJECT : Fld := ⟨15074054, 1⟩
/-- MPT_STICKY.CFG_REJECT, 0x073018 bits [5:5], W1C, reset 0: Commit refused (R214, R227) -/
abbrev MPT_STICKY_CFG_REJECT : Fld := ⟨15074053, 1⟩
/-- MPT_STICKY.PC_LOST, 0x073018 bits [4:4], W1C, reset 0: PC_VALID cleared (R221) -/
abbrev MPT_STICKY_PC_LOST : Fld := ⟨15074052, 1⟩
/-- MPT_STICKY.ISLAND, 0x073018 bits [3:3], W1C, reset 0: Island declared (R219) -/
abbrev MPT_STICKY_ISLAND : Fld := ⟨15074051, 1⟩
/-- MPT_STICKY.SCAN_END_EARLY, 0x073018 bits [2:2], W1C, reset 0: Scan ended at a limit (R217) -/
abbrev MPT_STICKY_SCAN_END_EARLY : Fld := ⟨15074050, 1⟩
/-- MPT_STICKY.SCAN_ABORT, 0x073018 bits [1:1], W1C, reset 0: Scan aborted (R218) -/
abbrev MPT_STICKY_SCAN_ABORT : Fld := ⟨15074049, 1⟩
/-- MPT_STICKY.SCAN_DONE, 0x073018 bits [0:0], W1C, reset 0: Scan completed -/
abbrev MPT_STICKY_SCAN_DONE : Fld := ⟨15074048, 1⟩
/-- MPT_SCAN_EN.IN, 0x073040 bits [11:0], RW, reset 0: Inputs included in rounds -/
abbrev MPT_SCAN_EN_IN : Fld := ⟨15075328, 12⟩
/-- MPT_SCAN_CFG.AVG, 0x073044 bits [23:16], RWS, reset 4: Periods averaged per point -/
abbrev MPT_SCAN_CFG_AVG : Fld := ⟨15075472, 8⟩
/-- MPT_SCAN_CFG.DWELL, 0x073044 bits [15:8], RWS, reset 12: Periods per point -/
abbrev MPT_SCAN_CFG_DWELL : Fld := ⟨15075464, 8⟩
/-- MPT_SCAN_CFG.POINTS, 0x073044 bits [7:0], RWS, reset 64: Points; 0 = no scanning -/
abbrev MPT_SCAN_CFG_POINTS : Fld := ⟨15075456, 8⟩
/-- MPT_SCAN_ROUND.GAP_MS, 0x073048 bits [31:16], RW, reset 100: Gap between scans, ms -/
abbrev MPT_SCAN_ROUND_GAP_MS : Fld := ⟨15075600, 16⟩
/-- MPT_SCAN_ROUND.INTERVAL_S, 0x073048 bits [15:0], RW, reset 0: Round interval, s; 0 = none -/
abbrev MPT_SCAN_ROUND_INTERVAL_S : Fld := ⟨15075584, 16⟩
/-- MPT_SCAN_TON.TICKS, 0x07304C bits [15:0], RWS, reset 320: On-time, coarse ticks -/
abbrev MPT_SCAN_TON_TICKS : Fld := ⟨15075712, 16⟩
/-- MPT_SCAN_PER.PEND, 0x073050 bits [31:16], RWS, reset 1,563: Last period, coarse ticks -/
abbrev MPT_SCAN_PER_PEND : Fld := ⟨15075856, 16⟩
/-- MPT_SCAN_PER.PSTART, 0x073050 bits [15:0], RWS, reset 15,625: First period, coarse ticks -/
abbrev MPT_SCAN_PER_PSTART : Fld := ⟨15075840, 16⟩
/-- MPT_SCAN_LIM.IMAX, 0x073054 bits [27:16], RWS, reset 300: Current end limit, A -/
abbrev MPT_SCAN_LIM_IMAX : Fld := ⟨15075984, 12⟩
/-- MPT_SCAN_LIM.VMIN, 0x073054 bits [11:0], RWS, reset 200: Voltage end limit, V -/
abbrev MPT_SCAN_LIM_VMIN : Fld := ⟨15075968, 12⟩
/-- MPT_CMD.ISL_CLEAR, 0x073058 bits [2:2], WO, reset 0: Release the decision (R226) -/
abbrev MPT_CMD_ISL_CLEAR : Fld := ⟨15076098, 1⟩
/-- MPT_CMD.ABORT, 0x073058 bits [1:1], WO, reset 0: Abort the scan, or end the round (R218) -/
abbrev MPT_CMD_ABORT : Fld := ⟨15076097, 1⟩
/-- MPT_CMD.SCAN_NOW, 0x073058 bits [0:0], WO, reset 0: Start a round (R215) -/
abbrev MPT_CMD_SCAN_NOW : Fld := ⟨15076096, 1⟩
/-- MPT_ISL_CTRL.SET, 0x07305C bits [10:8], RWS, reset 0: Phasor set, 0–3 -/
abbrev MPT_ISL_CTRL_SET : Fld := ⟨15076232, 3⟩
/-- MPT_ISL_CTRL.ACT_MODE, 0x07305C bits [7:6], RWS, reset 1: 0 = off, 1 = fallback, 2 = always -/
abbrev MPT_ISL_CTRL_ACT_MODE : Fld := ⟨15076230, 2⟩
/-- MPT_ISL_CTRL.TRIP_EN, 0x07305C bits [5:5], RWS, reset 1: Assert the islanding trip source -/
abbrev MPT_ISL_CTRL_TRIP_EN : Fld := ⟨15076229, 1⟩
/-- MPT_ISL_CTRL.ACT_EN, 0x07305C bits [4:4], RWS, reset 1: Active impedance and frequency methods -/
abbrev MPT_ISL_CTRL_ACT_EN : Fld := ⟨15076228, 1⟩
/-- MPT_ISL_CTRL.VS_EN, 0x07305C bits [3:3], RWS, reset 0: Vector-shift method -/
abbrev MPT_ISL_CTRL_VS_EN : Fld := ⟨15076227, 1⟩
/-- MPT_ISL_CTRL.ROCOF_EN, 0x07305C bits [2:2], RWS, reset 0: ROCOF method -/
abbrev MPT_ISL_CTRL_ROCOF_EN : Fld := ⟨15076226, 1⟩
/-- MPT_ISL_CTRL.PCF_EN, 0x07305C bits [1:1], RWS, reset 1: Phasor frequency method -/
abbrev MPT_ISL_CTRL_PCF_EN : Fld := ⟨15076225, 1⟩
/-- MPT_ISL_CTRL.PC_EN, 0x07305C bits [0:0], RWS, reset 1: Phasor angle method -/
abbrev MPT_ISL_CTRL_PC_EN : Fld := ⟨15076224, 1⟩
/-- MPT_ISL_PC.N, 0x073060 bits [31:28], RWS, reset 2: Consecutive frames -/
abbrev MPT_ISL_PC_N : Fld := ⟨15076380, 4⟩
/-- MPT_ISL_PC.F_THR, 0x073060 bits [27:16], RWS, reset 102: Frequency difference, 1/1024 Hz -/
abbrev MPT_ISL_PC_F_THR : Fld := ⟨15076368, 12⟩
/-- MPT_ISL_PC.ANG_THR, 0x073060 bits [11:0], RWS, reset 80: Angle drift, 0.1° -/
abbrev MPT_ISL_PC_ANG_THR : Fld := ⟨15076352, 12⟩
/-- MPT_ISL_PC2.REF_AGE, 0x073064 bits [31:24], RWS, reset 50: Reference age limit, ms; must exceed the reference's availability time (R332) -/
abbrev MPT_ISL_PC2_REF_AGE : Fld := ⟨15076504, 8⟩
/-- MPT_ISL_PC2.LEARN, 0x073064 bits [23:16], RWS, reset 10: Learning time, s -/
abbrev MPT_ISL_PC2_LEARN : Fld := ⟨15076496, 8⟩
/-- MPT_ISL_PC2.TAU, 0x073064 bits [15:0], RWS, reset 60: Baseline time constant, s -/
abbrev MPT_ISL_PC2_TAU : Fld := ⟨15076480, 16⟩
/-- MPT_ISL_ROCOF.N, 0x073068 bits [31:28], RWS, reset 3: Consecutive frames -/
abbrev MPT_ISL_ROCOF_N : Fld := ⟨15076636, 4⟩
/-- MPT_ISL_ROCOF.THR, 0x073068 bits [15:0], RWS, reset 512: Threshold, 1/256 Hz/s -/
abbrev MPT_ISL_ROCOF_THR : Fld := ⟨15076608, 16⟩
/-- MPT_ISL_VS.THR, 0x07306C bits [11:0], RWS, reset 100: Vector-shift threshold, 0.1° -/
abbrev MPT_ISL_VS_THR : Fld := ⟨15076736, 12⟩
/-- MPT_ISL_ACTF.T_MS, 0x073070 bits [31:16], RWS, reset 200: Persistence, ms -/
abbrev MPT_ISL_ACTF_T_MS : Fld := ⟨15076880, 16⟩
/-- MPT_ISL_ACTF.F, 0x073070 bits [11:0], RWS, reset 512: Deviation, 1/1024 Hz -/
abbrev MPT_ISL_ACTF_F : Fld := ⟨15076864, 12⟩
/-- MPT_ISL_INJ.REP_MS, 0x073074 bits [31:16], RWS, reset 1,000: Pulse repetition, ms; 0 = none -/
abbrev MPT_ISL_INJ_REP_MS : Fld := ⟨15077008, 16⟩
/-- MPT_ISL_INJ.ON_MS, 0x073074 bits [7:0], RWS, reset 100: Pulse length, ms -/
abbrev MPT_ISL_INJ_ON_MS : Fld := ⟨15076992, 8⟩
/-- MPT_ISL_AMP.I, 0x073078 bits [15:0], RWS, reset 82: Injection amplitude, 1/4096 pu; 0 = none -/
abbrev MPT_ISL_AMP_I : Fld := ⟨15077120, 16⟩
/-- MPT_ISL_SRC.M, 0x07307C bits [5:0], W1C, reset 0: [0] angle, [1] phasor frequency, [2] ROCOF, [3] vector shift, [4] active impedance, [5] active frequency -/
abbrev MPT_ISL_SRC_M : Fld := ⟨15077248, 6⟩
/-- MPT_ISL_BASE.B, 0x073080 bits [31:0], RO, reset 0: Baseline B, π rad, slot-word format -/
abbrev MPT_ISL_BASE_B : Fld := ⟨15077376, 32⟩
/-- MPT_ISL_DRIFT.D, 0x073084 bits [31:0], RO, reset 0: Last drift D, π rad -/
abbrev MPT_ISL_DRIFT_D : Fld := ⟨15077504, 32⟩
/-- MPT_ISL_Z.Z, 0x073088 bits [31:0], RO, reset 0: Z− from OSLOT 0xAD, pu -/
abbrev MPT_ISL_Z_Z : Fld := ⟨15077632, 32⟩
/-- MPT_CURVE_IN.IN, 0x07308C bits [3:0], RO, reset 0xF: Input of MPT_CURVE; 0xF = none -/
abbrev MPT_CURVE_IN_IN : Fld := ⟨15077760, 4⟩
/-- MPT_SCAN_CNT.N, 0x073090 bits [31:0], RO, reset 0: Completed scans; wraps -/
abbrev MPT_SCAN_CNT_N : Fld := ⟨15077888, 32⟩
/-- MPT_VGMPj.V, 0x073200 + … bits [31:0], RO, reset 0: V_gmp of DCj, slot-word format -/
abbrev MPT_VGMP_V (n : Nat) : Fld := ⟨(0x73200 + 4 * n) * 32, 32⟩
/-- MPT_PGMPj.P, 0x073240 + … bits [31:0], RO, reset 0: Power at V_gmp, W -/
abbrev MPT_PGMP_P (n : Nat) : Fld := ⟨(0x73240 + 4 * n) * 32, 32⟩
/-- MPT_VOPj.V, 0x073280 + … bits [31:0], RO, reset 0: V_op of DCj from OSLOT 0xA0 + j -/
abbrev MPT_VOP_V (n : Nat) : Fld := ⟨(0x73280 + 4 * n) * 32, 32⟩
/-- MPT_CURVEk_V.V, 0x073400 + … bits [31:0], RO, reset 0: Point k voltage of the last completed scan (k = 0–63) -/
abbrev MPT_CURVE_V_V (n : Nat) : Fld := ⟨(0x73400 + 8 * n) * 32, 32⟩
/-- MPT_CURVEk_I.I, 0x073404 + … bits [31:0], RO, reset 0: Point k current; 0 beyond an early end -/
abbrev MPT_CURVE_I_I (n : Nat) : Fld := ⟨(0x73404 + 8 * n) * 32, 32⟩
/-- PWMn_CTRL.AUTO, 0x040008 + … bits [1:1], RW, reset 0: Auto-commit (R240) -/
abbrev PWM_CTRL_AUTO (n : Nat) : Fld := ⟨(0x40008 + 0x1000 * n) * 32 + 1, 1⟩
/-- PWMn_CTRL.ENABLE, 0x040008 + … bits [0:0], RW, reset 0: Counters run (R232) -/
abbrev PWM_CTRL_ENABLE (n : Nat) : Fld := ⟨(0x40008 + 0x1000 * n) * 32, 1⟩
/-- PWMn_STATUS.ACTIVE, 0x04000C + … bits [15:0], RO, reset 0: Pair i producing edges (rank 6 of R18) -/
abbrev PWM_STATUS_ACTIVE (n : Nat) : Fld := ⟨(0x4000c + 0x1000 * n) * 32, 16⟩
/-- PWM_STICKY.MAX_ON, 0x040018 + … bits [4:4], W1C, reset 0: CFT period ended at maximum on-time (R233) -/
abbrev PWM_STICKY_MAX_ON (n : Nat) : Fld := ⟨(0x40018 + 0x1000 * n) * 32 + 4, 1⟩
/-- PWM_STICKY.OWN_REJECT, 0x040018 + … bits [3:3], W1C, reset 0: Write to an MPT-owned pair refused (R246) -/
abbrev PWM_STICKY_OWN_REJECT (n : Nat) : Fld := ⟨(0x40018 + 0x1000 * n) * 32 + 3, 1⟩
/-- PWM_STICKY.CFG_REJECT, 0x040018 + … bits [2:2], W1C, reset 0: Pair commit refused (R241) -/
abbrev PWM_STICKY_CFG_REJECT (n : Nat) : Fld := ⟨(0x40018 + 0x1000 * n) * 32 + 2, 1⟩
/-- PWM_STICKY.SHOOT_BLOCK, 0x040018 + … bits [1:1], W1C, reset 0: Interlock acted (R244) -/
abbrev PWM_STICKY_SHOOT_BLOCK (n : Nat) : Fld := ⟨(0x40018 + 0x1000 * n) * 32 + 1, 1⟩
/-- PWM_STICKY.DUTY_CLAMP, 0x040018 + … bits [0:0], W1C, reset 0: Compare value clamped (R236) -/
abbrev PWM_STICKY_DUTY_CLAMP (n : Nat) : Fld := ⟨(0x40018 + 0x1000 * n) * 32, 1⟩
/-- PWMn_SB.PAIR, 0x040040 + … bits [15:0], W1C, reset 0: Interlock acted on pair i -/
abbrev PWM_SB_PAIR (n : Nat) : Fld := ⟨(0x40040 + 0x1000 * n) * 32, 16⟩
/-- PWMn_CLAMP.PAIR, 0x040044 + … bits [15:0], W1C, reset 0: Clamp on pair i -/
abbrev PWM_CLAMP_PAIR (n : Nat) : Fld := ⟨(0x40044 + 0x1000 * n) * 32, 16⟩
/-- PWMn_MAXON.PAIR, 0x040048 + … bits [15:0], W1C, reset 0: Maximum on-time reached on pair i -/
abbrev PWM_MAXON_PAIR (n : Nat) : Fld := ⟨(0x40048 + 0x1000 * n) * 32, 16⟩
/-- PWMn_CFGREJ.PAIR, 0x04004C + … bits [15:0], W1C, reset 0: Commit refused for pair i -/
abbrev PWM_CFGREJ_PAIR (n : Nat) : Fld := ⟨(0x4004c + 0x1000 * n) * 32, 16⟩
/-- PAIRi_CFG.EN, 0x040200 + … bits [31:31], RW, reset 0: Pair enable (R245) -/
abbrev PAIR_CFG_EN (n : Nat) : Fld := ⟨(0x40200 + 0x1000 * (n / 16) + 0x20 * (n % 16)) * 32 + 31, 1⟩
/-- PAIRi_CFG.SB_TRIP, 0x040200 + … bits [30:30], RW, reset 0: Interlock asserts source 107 -/
abbrev PAIR_CFG_SB_TRIP (n : Nat) : Fld := ⟨(0x40200 + 0x1000 * (n / 16) + 0x20 * (n % 16)) * 32 + 30, 1⟩
/-- PAIRi_CFG.TERM_CMP, 0x040200 + … bits [21:16], RWS, reset 0: Termination comparator C00–C63 -/
abbrev PAIR_CFG_TERM_CMP (n : Nat) : Fld := ⟨(0x40200 + 0x1000 * (n / 16) + 0x20 * (n % 16)) * 32 + 16, 6⟩
/-- PAIRi_CFG.TERM_TYPE, 0x040200 + … bits [13:12], RWS, reset 0: 0 = none, 1 = peak, 2 = valley, 3 = zero current -/
abbrev PAIR_CFG_TERM_TYPE (n : Nat) : Fld := ⟨(0x40200 + 0x1000 * (n / 16) + 0x20 * (n % 16)) * 32 + 12, 2⟩
/-- PAIRi_CFG.UPD, 0x040200 + … bits [8:8], RWS, reset 0: 0 = boundary, 1 = boundary and mid-period -/
abbrev PAIR_CFG_UPD (n : Nat) : Fld := ⟨(0x40200 + 0x1000 * (n / 16) + 0x20 * (n % 16)) * 32 + 8, 1⟩
/-- PAIRi_CFG.OUT, 0x040200 + … bits [4:4], RWS, reset 0: 0 = complementary, 1 = independent -/
abbrev PAIR_CFG_OUT (n : Nat) : Fld := ⟨(0x40200 + 0x1000 * (n / 16) + 0x20 * (n % 16)) * 32 + 4, 1⟩
/-- PAIRi_CFG.MODE, 0x040200 + … bits [1:0], RWS, reset 0: 0 = centre, 1 = edge, 2 = COT, 3 = CFT -/
abbrev PAIR_CFG_MODE (n : Nat) : Fld := ⟨(0x40200 + 0x1000 * (n / 16) + 0x20 * (n % 16)) * 32, 2⟩
/-- PAIRi_PER.TICKS, 0x040204 + … bits [15:0], RWS, reset 0: Period, coarse ticks; 0 = idle; 1–7 refused -/
abbrev PAIR_PER_TICKS (n : Nat) : Fld := ⟨(0x40204 + 0x1000 * (n / 16) + 0x20 * (n % 16)) * 32, 16⟩
/-- PAIRi_CMPA.C, 0x040208 + … bits [21:0], RWS, reset 0: Compare A, 100 ps -/
abbrev PAIR_CMPA_C (n : Nat) : Fld := ⟨(0x40208 + 0x1000 * (n / 16) + 0x20 * (n % 16)) * 32, 22⟩
/-- PAIRi_CMPB.C, 0x04020C + … bits [21:0], RWS, reset 0: Compare B, 100 ps -/
abbrev PAIR_CMPB_C (n : Nat) : Fld := ⟨(0x4020c + 0x1000 * (n / 16) + 0x20 * (n % 16)) * 32, 22⟩
/-- PAIRi_DT.DTR, 0x040210 + … bits [29:16], RWS, reset 0: Rising dead time, 100 ps, 0–16,000 -/
abbrev PAIR_DT_DTR (n : Nat) : Fld := ⟨(0x40210 + 0x1000 * (n / 16) + 0x20 * (n % 16)) * 32 + 16, 14⟩
/-- PAIRi_DT.DTF, 0x040210 + … bits [13:0], RWS, reset 0: Falling dead time, 100 ps, 0–16,000 -/
abbrev PAIR_DT_DTF (n : Nat) : Fld := ⟨(0x40210 + 0x1000 * (n / 16) + 0x20 * (n % 16)) * 32, 14⟩
/-- PAIRi_PHASE.TICKS, 0x040214 + … bits [15:0], RW, reset 0: First boundary after start (R232) -/
abbrev PAIR_PHASE_TICKS (n : Nat) : Fld := ⟨(0x40214 + 0x1000 * (n / 16) + 0x20 * (n % 16)) * 32, 16⟩
/-- PAIRi_STAT.CNT, 0x040218 + … bits [31:16], RO, reset 0: Counter -/
abbrev PAIR_STAT_CNT (n : Nat) : Fld := ⟨(0x40218 + 0x1000 * (n / 16) + 0x20 * (n % 16)) * 32 + 16, 16⟩
/-- PAIRi_STAT.MPT_OWN, 0x040218 + … bits [3:3], RO, reset 0: Owned by MPT (R246) -/
abbrev PAIR_STAT_MPT_OWN (n : Nat) : Fld := ⟨(0x40218 + 0x1000 * (n / 16) + 0x20 * (n % 16)) * 32 + 3, 1⟩
/-- PAIRi_STAT.PEND, 0x040218 + … bits [2:2], RO, reset 0: Pending values not yet adopted -/
abbrev PAIR_STAT_PEND (n : Nat) : Fld := ⟨(0x40218 + 0x1000 * (n / 16) + 0x20 * (n % 16)) * 32 + 2, 1⟩
/-- PAIRi_STAT.L, 0x040218 + … bits [1:1], RO, reset 0: L output at the pin -/
abbrev PAIR_STAT_L (n : Nat) : Fld := ⟨(0x40218 + 0x1000 * (n / 16) + 0x20 * (n % 16)) * 32 + 1, 1⟩
/-- PAIRi_STAT.H, 0x040218 + … bits [0:0], RO, reset 0: H output at the pin -/
abbrev PAIR_STAT_H (n : Nat) : Fld := ⟨(0x40218 + 0x1000 * (n / 16) + 0x20 * (n % 16)) * 32, 1⟩
/-- PWX_CTRL.ENABLE, 0x043008 bits [0:0], RW, reset 0: BRK counter and AUX channels run -/
abbrev PWX_CTRL_ENABLE : Fld := ⟨8782080, 1⟩
/-- PWX_STATUS.AUX_RUN, 0x04300C bits [15:8], RO, reset 0: AUXk window running -/
abbrev PWX_STATUS_AUX_RUN : Fld := ⟨8782216, 8⟩
/-- PWX_STATUS.BRK_HW, 0x04300C bits [2:2], RO, reset 0: Hardware brake request -/
abbrev PWX_STATUS_BRK_HW : Fld := ⟨8782210, 1⟩
/-- PWX_STATUS.CESSATION, 0x04300C bits [1:1], RO, reset 0: GRD cessation line asserted (R204) -/
abbrev PWX_STATUS_CESSATION : Fld := ⟨8782209, 1⟩
/-- PWX_STATUS.INHIBIT, 0x04300C bits [0:0], RO, reset 0: Parapet global inhibit asserted -/
abbrev PWX_STATUS_INHIBIT : Fld := ⟨8782208, 1⟩
/-- PWX_STICKY.CESSATION, 0x043018 bits [4:4], W1C, reset 0: Cessation line asserted -/
abbrev PWX_STICKY_CESSATION : Fld := ⟨8782596, 1⟩
/-- PWX_STICKY.INHIBIT, 0x043018 bits [3:3], W1C, reset 0: Inhibit asserted -/
abbrev PWX_STICKY_INHIBIT : Fld := ⟨8782595, 1⟩
/-- PWX_STICKY.CFG_REJECT, 0x043018 bits [2:2], W1C, reset 0: BRK commit or BRK_SRC refused -/
abbrev PWX_STICKY_CFG_REJECT : Fld := ⟨8782594, 1⟩
/-- PWX_STICKY.BRK_SB, 0x043018 bits [1:1], W1C, reset 0: Interlock on BRK -/
abbrev PWX_STICKY_BRK_SB : Fld := ⟨8782593, 1⟩
/-- PWX_STICKY.BRK_CLAMP, 0x043018 bits [0:0], W1C, reset 0: Clamp on BRK -/
abbrev PWX_STICKY_BRK_CLAMP : Fld := ⟨8782592, 1⟩
/-- PWX_GEN.GRP, 0x043040 bits [3:0], RW, reset 0: [0]–[2] PWM0–PWM2, [3] BRK (R245, R92) -/
abbrev PWX_GEN_GRP : Fld := ⟨8783872, 4⟩
/-- PWX_BRK_SRC.SRC, 0x043044 bits [1:0], RW, reset 0: 0 = hardware, 1 = compare, 2 = either (R247) -/
abbrev PWX_BRK_SRC_SRC : Fld := ⟨8784000, 2⟩
/-- AUXk_CFG.PAIR, 0x043300 + … bits [29:24], RWS, reset 0: Pair index 0–48; 49–63 start no window -/
abbrev AUX_CFG_PAIR (n : Nat) : Fld := ⟨(0x43300 + 8 * n) * 32 + 24, 6⟩
/-- AUXk_CFG.EDGE, 0x043300 + … bits [19:16], RWS, reset 0: [16] H rise, [17] H fall, [18] L rise, [19] L fall -/
abbrev AUX_CFG_EDGE (n : Nat) : Fld := ⟨(0x43300 + 8 * n) * 32 + 16, 4⟩
/-- AUXk_CFG.LEN, 0x043300 + … bits [15:0], RWS, reset 0: Window, 100 ps; 0 = none -/
abbrev AUX_CFG_LEN (n : Nat) : Fld := ⟨(0x43300 + 8 * n) * 32, 16⟩
/-- AUXk_STAT.RUN, 0x043304 + … bits [31:31], RO, reset 0: Window running -/
abbrev AUX_STAT_RUN (n : Nat) : Fld := ⟨(0x43304 + 8 * n) * 32 + 31, 1⟩
/-- AUXk_STAT.REMAIN, 0x043304 + … bits [15:0], RO, reset 0: Remaining, 100 ps -/
abbrev AUX_STAT_REMAIN (n : Nat) : Fld := ⟨(0x43304 + 8 * n) * 32, 16⟩
/-- TRP_CTRL.ENABLE, 0x044008 bits [0:0], RW, reset 1: Reads 1; a write of 0 is ignored -/
abbrev TRP_CTRL_ENABLE : Fld := ⟨8913152, 1⟩
/-- TRP_STATUS.LATCHED, 0x04400C bits [21:16], RO, reset 0: Pairs with a latch, 0–49 -/
abbrev TRP_STATUS_LATCHED : Fld := ⟨8913296, 6⟩
/-- TRP_STATUS.CYCLE, 0x04400C bits [1:1], RO, reset 0: A cycle latch in force -/
abbrev TRP_STATUS_CYCLE : Fld := ⟨8913281, 1⟩
/-- TRP_STATUS.ANY, 0x04400C bits [0:0], RO, reset 0: A hard latch in force -/
abbrev TRP_STATUS_ANY : Fld := ⟨8913280, 1⟩
/-- TRP_STICKY.CFG_REJECT, 0x044018 bits [3:3], W1C, reset 0: Matrix commit refused (R256) -/
abbrev TRP_STICKY_CFG_REJECT : Fld := ⟨8913667, 1⟩
/-- TRP_STICKY.IT_REQ, 0x044018 bits [2:2], W1C, reset 0: Intertrip requested (R254) -/
abbrev TRP_STICKY_IT_REQ : Fld := ⟨8913666, 1⟩
/-- TRP_STICKY.TRIP_CLR_REJECT, 0x044018 bits [1:1], W1C, reset 0: Clear refused (R253) -/
abbrev TRP_STICKY_TRIP_CLR_REJECT : Fld := ⟨8913665, 1⟩
/-- TRP_STICKY.TRIP, 0x044018 bits [0:0], W1C, reset 0: A hard latch set -/
abbrev TRP_STICKY_TRIP : Fld := ⟨8913664, 1⟩
/-- TRP_LATCH0.PAIR, 0x044040 bits [31:0], RO, reset 0: Hard latch, pairs 0–31 -/
abbrev TRP_LATCH0_PAIR : Fld := ⟨8914944, 32⟩
/-- TRP_LATCH1.PAIR, 0x044044 bits [16:0], RO, reset 0: Hard latch, pairs 32–48 -/
abbrev TRP_LATCH1_PAIR : Fld := ⟨8915072, 17⟩
/-- TRP_CLR0.PAIR, 0x044048 bits [31:0], WO, reset 0: Clear pairs 0–31 (R253) -/
abbrev TRP_CLR0_PAIR : Fld := ⟨8915200, 32⟩
/-- TRP_CLR1.PAIR, 0x04404C bits [16:0], WO, reset 0: Clear pairs 32–48 -/
abbrev TRP_CLR1_PAIR : Fld := ⟨8915328, 17⟩
/-- TRP_ACTk.SRC, 0x044050 + … bits [31:0], RO, reset 0: Sources 32k to 32k + 31 asserted (k = 0–3) -/
abbrev TRP_ACT_SRC (n : Nat) : Fld := ⟨(0x44050 + 4 * n) * 32, 32⟩
/-- TRP_SEENk.SRC, 0x044060 + … bits [31:0], W1C, reset 0: Sources that set a latch -/
abbrev TRP_SEEN_SRC (n : Nat) : Fld := ⟨(0x44060 + 4 * n) * 32, 32⟩
/-- TRP_FIRST.VALID, 0x044070 bits [31:31], RO, reset 0: Record valid (R255) -/
abbrev TRP_FIRST_VALID : Fld := ⟨8916511, 1⟩
/-- TRP_FIRST.SRC, 0x044070 bits [22:16], RO, reset 0: First source -/
abbrev TRP_FIRST_SRC : Fld := ⟨8916496, 7⟩
/-- TRP_FIRST.PAIR, 0x044070 bits [5:0], RO, reset 0: First pair -/
abbrev TRP_FIRST_PAIR : Fld := ⟨8916480, 6⟩
/-- TRP_GRP_ACT.GRP, 0x044074 bits [15:0], RO, reset 0: Trip groups asserted -/
abbrev TRP_GRP_ACT_GRP : Fld := ⟨8916608, 16⟩
/-- TRP_IT_REQ.GRP, 0x044078 bits [15:0], RWS, reset 0: Groups that request intertrip (R254) -/
abbrev TRP_IT_REQ_GRP : Fld := ⟨8916736, 16⟩
/-- TRP_SRCs.EN, 0x044200 + … bits [31:31], RWS, reset 0; 1 for s = 104: Source acts -/
abbrev TRP_SRC_EN (n : Nat) : Fld := ⟨(0x44200 + 4 * n) * 32 + 31, 1⟩
/-- TRP_SRCs.LATCH, 0x044200 + … bits [30:30], RWS, reset 1: 1 = hard latch, 0 = cycle latch -/
abbrev TRP_SRC_LATCH (n : Nat) : Fld := ⟨(0x44200 + 4 * n) * 32 + 30, 1⟩
/-- TRP_SRCs.POL, 0x044200 + … bits [29:29], RWS, reset 0: Pins only: 1 = active low -/
abbrev TRP_SRC_POL (n : Nat) : Fld := ⟨(0x44200 + 4 * n) * 32 + 29, 1⟩
/-- TRP_SRCs.BLANK_EN, 0x044200 + … bits [28:28], RWS, reset 0: Blanking applies (R252) -/
abbrev TRP_SRC_BLANK_EN (n : Nat) : Fld := ⟨(0x44200 + 4 * n) * 32 + 28, 1⟩
/-- TRP_SRCs.AUX, 0x044200 + … bits [26:24], RWS, reset 0: Blanking channel AUX0–AUX7 -/
abbrev TRP_SRC_AUX (n : Nat) : Fld := ⟨(0x44200 + 4 * n) * 32 + 24, 3⟩
/-- TRP_SRCs.GROUPS, 0x044200 + … bits [15:0], RWS, reset 0; 0xFFFF for s = 104: Groups asserted; 0 = none -/
abbrev TRP_SRC_GROUPS (n : Nat) : Fld := ⟨(0x44200 + 4 * n) * 32, 16⟩
/-- TRP_PMASKp.SAFE, 0x044400 + … bits [17:16], RWS, reset 0: Safe state (R249); 3 refused -/
abbrev TRP_PMASK_SAFE (n : Nat) : Fld := ⟨(0x44400 + 4 * n) * 32 + 16, 2⟩
/-- TRP_PMASKp.GROUPS, 0x044400 + … bits [15:0], RWS, reset 0xFFFF: Groups obeyed by pair p (p = 0–48) -/
abbrev TRP_PMASK_GROUPS (n : Nat) : Fld := ⟨(0x44400 + 4 * n) * 32, 16⟩
/-- CMPn_CTRL.ENABLE, 0x050008 + … bits [0:0], RW, reset 0: Page comparators may run (R258) -/
abbrev CMP_CTRL_ENABLE (n : Nat) : Fld := ⟨(0x50008 + 0x1000 * n) * 32, 1⟩
/-- CMPn_STATUS.LOW, 0x05000C + … bits [31:16], RO, reset 0: LOW of window i -/
abbrev CMP_STATUS_LOW (n : Nat) : Fld := ⟨(0x5000c + 0x1000 * n) * 32 + 16, 16⟩
/-- CMPn_STATUS.HIGH, 0x05000C + … bits [15:0], RO, reset 0: HIGH of window i -/
abbrev CMP_STATUS_HIGH (n : Nat) : Fld := ⟨(0x5000c + 0x1000 * n) * 32, 16⟩
/-- CMP_STICKY.TEST_SKIP, 0x050018 + … bits [4:4], W1C, reset 0: Test skipped, window too short (R265) -/
abbrev CMP_STICKY_TEST_SKIP (n : Nat) : Fld := ⟨(0x50018 + 0x1000 * n) * 32 + 4, 1⟩
/-- CMP_STICKY.MODE_CONFLICT, 0x050018 + … bits [3:3], W1C, reset 0: Sampled comparator named by a fast user (R263) -/
abbrev CMP_STICKY_MODE_CONFLICT (n : Nat) : Fld := ⟨(0x50018 + 0x1000 * n) * 32 + 3, 1⟩
/-- CMP_STICKY.CFG_REJECT, 0x050018 + … bits [2:2], W1C, reset 0: Commit refused for a window (R260) -/
abbrev CMP_STICKY_CFG_REJECT (n : Nat) : Fld := ⟨(0x50018 + 0x1000 * n) * 32 + 2, 1⟩
/-- CMP_STICKY.SELFTEST_FAIL, 0x050018 + … bits [1:1], W1C, reset 0: Self-test failure declared (R268) -/
abbrev CMP_STICKY_SELFTEST_FAIL (n : Nat) : Fld := ⟨(0x50018 + 0x1000 * n) * 32 + 1, 1⟩
/-- CMP_STICKY.EVENT, 0x050018 + … bits [0:0], W1C, reset 0: A CMPn_EVT bit set (R261) -/
abbrev CMP_STICKY_EVENT (n : Nat) : Fld := ⟨(0x50018 + 0x1000 * n) * 32, 1⟩
/-- CMPn_STFAIL.WIN, 0x050040 + … bits [15:0], W1C, reset 0: Failure declared on window i -/
abbrev CMP_STFAIL_WIN (n : Nat) : Fld := ⟨(0x50040 + 0x1000 * n) * 32, 16⟩
/-- CMPn_EVT.WIN, 0x050044 + … bits [15:0], W1C, reset 0: Event on window i -/
abbrev CMP_EVT_WIN (n : Nat) : Fld := ⟨(0x50044 + 0x1000 * n) * 32, 16⟩
/-- CMPn_CNT_SKIP.N, 0x050048 + … bits [31:0], RO, reset 0: Skipped tests; saturates -/
abbrev CMP_CNT_SKIP_N (n : Nat) : Fld := ⟨(0x50048 + 0x1000 * n) * 32, 32⟩
/-- CMPn_CMD.CNT_CLR, 0x05004C + … bits [0:0], WO, reset 0: Clear CMPn_CNT_SKIP -/
abbrev CMP_CMD_CNT_CLR (n : Nat) : Fld := ⟨(0x5004c + 0x1000 * n) * 32, 1⟩
/-- WINi_CFG.EN, 0x050200 + … bits [31:31], RWS, reset 0: Comparator enabled -/
abbrev WIN_CFG_EN (n : Nat) : Fld := ⟨(0x50200 + 0x1000 * (n / 16) + 0x20 * (n % 16)) * 32 + 31, 1⟩
/-- WINi_CFG.MODE, 0x050200 + … bits [30:30], RWS, reset 0: 0 = continuous, 1 = sampled -/
abbrev WIN_CFG_MODE (n : Nat) : Fld := ⟨(0x50200 + 0x1000 * (n / 16) + 0x20 * (n % 16)) * 32 + 30, 1⟩
/-- WINi_CFG.INTERVAL, 0x050200 + … bits [22:16], RWS, reset 0: Sample interval, coarse ticks, 2–125; 0 = no samples -/
abbrev WIN_CFG_INTERVAL (n : Nat) : Fld := ⟨(0x50200 + 0x1000 * (n / 16) + 0x20 * (n % 16)) * 32 + 16, 7⟩
/-- WINi_CFG.HYS, 0x050200 + … bits [13:12], RWS, reset 0: Hysteresis: 0 = none, 1 = 5 mV, 2 = 10 mV, 3 = 20 mV -/
abbrev WIN_CFG_HYS (n : Nat) : Fld := ⟨(0x50200 + 0x1000 * (n / 16) + 0x20 * (n % 16)) * 32 + 12, 2⟩
/-- WINi_CFG.TSEL, 0x050200 + … bits [9:8], RWS, reset 0: Trip condition: 0 = HIGH, 1 = LOW, 2 = either; 3 refused -/
abbrev WIN_CFG_TSEL (n : Nat) : Fld := ⟨(0x50200 + 0x1000 * (n / 16) + 0x20 * (n % 16)) * 32 + 8, 2⟩
/-- WINi_CFG.EVSEL, 0x050200 + … bits [5:4], RWS, reset 0: Event: 0 = none, 1 = HIGH, 2 = LOW, 3 = either -/
abbrev WIN_CFG_EVSEL (n : Nat) : Fld := ⟨(0x50200 + 0x1000 * (n / 16) + 0x20 * (n % 16)) * 32 + 4, 2⟩
/-- WINi_THR.HI, 0x050204 + … bits [25:16], RWS, reset 1,023: High threshold, 1.7578 mV codes -/
abbrev WIN_THR_HI (n : Nat) : Fld := ⟨(0x50204 + 0x1000 * (n / 16) + 0x20 * (n % 16)) * 32 + 16, 10⟩
/-- WINi_THR.LO, 0x050204 + … bits [9:0], RWS, reset 0: Low threshold -/
abbrev WIN_THR_LO (n : Nat) : Fld := ⟨(0x50204 + 0x1000 * (n / 16) + 0x20 * (n % 16)) * 32, 10⟩
/-- WINi_RAMP.PAIR, 0x050208 + … bits [31:26], RWS, reset 63: Ramp reset pair 0–48; 49–63 = no ramp -/
abbrev WIN_RAMP_PAIR (n : Nat) : Fld := ⟨(0x50208 + 0x1000 * (n / 16) + 0x20 * (n % 16)) * 32 + 26, 6⟩
/-- WINi_RAMP.SLOPE, 0x050208 + … bits [19:0], RWS, reset 0: Slope, 4.191 µV/µs units; 0 = none (R264) -/
abbrev WIN_RAMP_SLOPE (n : Nat) : Fld := ⟨(0x50208 + 0x1000 * (n / 16) + 0x20 * (n % 16)) * 32, 20⟩
/-- WINi_TEST.MODE, 0x05020C + … bits [31:30], RWS, reset 0: 0 = none, 1 = tie, 2 = swap; 3 refused -/
abbrev WIN_TEST_MODE (n : Nat) : Fld := ⟨(0x5020c + 0x1000 * (n / 16) + 0x20 * (n % 16)) * 32 + 30, 2⟩
/-- WINi_TEST.AUX, 0x05020C + … bits [26:24], RWS, reset 0: Window channel AUX0–AUX7 -/
abbrev WIN_TEST_AUX (n : Nat) : Fld := ⟨(0x5020c + 0x1000 * (n / 16) + 0x20 * (n % 16)) * 32 + 24, 3⟩
/-- WINi_TEST.EVERY, 0x05020C + … bits [23:16], RWS, reset 0: Test every n-th window; 0 = none -/
abbrev WIN_TEST_EVERY (n : Nat) : Fld := ⟨(0x5020c + 0x1000 * (n / 16) + 0x20 * (n % 16)) * 32 + 16, 8⟩
/-- WINi_TEST.FAIL_N, 0x05020C + … bits [15:12], RWS, reset 0: Consecutive failures to declare; 0 = never -/
abbrev WIN_TEST_FAIL_N (n : Nat) : Fld := ⟨(0x5020c + 0x1000 * (n / 16) + 0x20 * (n % 16)) * 32 + 12, 4⟩
/-- WINi_TEST.FAIL_TRIP, 0x05020C + … bits [8:8], RWS, reset 0: Declared failure asserts the trip source -/
abbrev WIN_TEST_FAIL_TRIP (n : Nat) : Fld := ⟨(0x5020c + 0x1000 * (n / 16) + 0x20 * (n % 16)) * 32 + 8, 1⟩
/-- WINi_STAT.FAILCNT, 0x050210 + … bits [31:28], RO, reset 0: Consecutive failed tests -/
abbrev WIN_STAT_FAILCNT (n : Nat) : Fld := ⟨(0x50210 + 0x1000 * (n / 16) + 0x20 * (n % 16)) * 32 + 28, 4⟩
/-- WINi_STAT.HEFF, 0x050210 + … bits [25:16], RO, reset 0: Effective high threshold code -/
abbrev WIN_STAT_HEFF (n : Nat) : Fld := ⟨(0x50210 + 0x1000 * (n / 16) + 0x20 * (n % 16)) * 32 + 16, 10⟩
/-- WINi_STAT.HALF, 0x050210 + … bits [2:2], RO, reset 0: Next tie half: 0 = above, 1 = below -/
abbrev WIN_STAT_HALF (n : Nat) : Fld := ⟨(0x50210 + 0x1000 * (n / 16) + 0x20 * (n % 16)) * 32 + 2, 1⟩
/-- WINi_STAT.LOW, 0x050210 + … bits [1:1], RO, reset 0: LOW decision -/
abbrev WIN_STAT_LOW (n : Nat) : Fld := ⟨(0x50210 + 0x1000 * (n / 16) + 0x20 * (n % 16)) * 32 + 1, 1⟩
/-- WINi_STAT.HIGH, 0x050210 + … bits [0:0], RO, reset 0: HIGH decision -/
abbrev WIN_STAT_HIGH (n : Nat) : Fld := ⟨(0x50210 + 0x1000 * (n / 16) + 0x20 * (n % 16)) * 32, 1⟩
/-- GDP_CTRL.ENABLE, 0x045008 bits [0:0], RW, reset 0: Gate profiles applied (R269) -/
abbrev GDP_CTRL_ENABLE : Fld := ⟨9044224, 1⟩
/-- GDP_STATUS.RT_SET, 0x04500C bits [1:1], RO, reset 0: Ride-through brake thresholds in force (R274) -/
abbrev GDP_STATUS_RT_SET : Fld := ⟨9044353, 1⟩
/-- GDP_STATUS.BRK_REQ, 0x04500C bits [0:0], RO, reset 0: Hardware brake request (R273) -/
abbrev GDP_STATUS_BRK_REQ : Fld := ⟨9044352, 1⟩
/-- GDP_STICKY.BRK_LONG, 0x045018 bits [2:2], W1C, reset 0: Request held for LONG_MS (R275) -/
abbrev GDP_STICKY_BRK_LONG : Fld := ⟨9044738, 1⟩
/-- GDP_STICKY.SOFT_OFF, 0x045018 bits [1:1], W1C, reset 0: Soft turn-off made (R270) -/
abbrev GDP_STICKY_SOFT_OFF : Fld := ⟨9044737, 1⟩
/-- GDP_STICKY.CFG_REJECT, 0x045018 bits [0:0], W1C, reset 0: Brake commit refused (R275) -/
abbrev GDP_STICKY_CFG_REJECT : Fld := ⟨9044736, 1⟩
/-- GDP_PSELm.PROF, 0x045040 + … bits [2:0], RWS, reset 0: Profile of pair P(8m + j) -/
abbrev GDP_PSEL_PROF (n : Nat) (j : Nat) : Fld := ⟨(0x45040 + 4 * n) * 32 + 4 * j, 3⟩
/-- GDP_PMP_PSEL.PROF, 0x045058 bits [2:0], RWS, reset 0: Profile of the pump pre-drivers (R272) -/
abbrev GDP_PMP_PSEL_PROF : Fld := ⟨9046784, 3⟩
/-- GDP_BRK_CFG.EN, 0x04505C bits [31:31], RWS, reset 0: Hardware brake request enabled -/
abbrev GDP_BRK_CFG_EN : Fld := ⟨9046943, 1⟩
/-- GDP_BRK_CFG.CMP, 0x04505C bits [29:24], RWS, reset 0: Brake comparator C00–C63 -/
abbrev GDP_BRK_CFG_CMP : Fld := ⟨9046936, 6⟩
/-- GDP_BRK_CFG.LONG_MS, 0x04505C bits [15:0], RWS, reset 0: Long-request limit, ms; 0 = none -/
abbrev GDP_BRK_CFG_LONG_MS : Fld := ⟨9046912, 16⟩
/-- GDP_BRK_MIN.MIN_OFF, 0x045060 bits [31:16], RWS, reset 0: Minimum off-time, µs; 0 = none -/
abbrev GDP_BRK_MIN_MIN_OFF : Fld := ⟨9047056, 16⟩
/-- GDP_BRK_MIN.MIN_ON, 0x045060 bits [15:0], RWS, reset 0: Minimum on-time, µs; 0 = none -/
abbrev GDP_BRK_MIN_MIN_ON : Fld := ⟨9047040, 16⟩
/-- GDP_BRK_RT.HI, 0x045064 bits [25:16], RWS, reset 1,023: Ride-through high threshold code -/
abbrev GDP_BRK_RT_HI : Fld := ⟨9047184, 10⟩
/-- GDP_BRK_RT.LO, 0x045064 bits [9:0], RWS, reset 0: Ride-through low threshold code -/
abbrev GDP_BRK_RT_LO : Fld := ⟨9047168, 10⟩
/-- GDP_BRK_ON_TIME.US, 0x045068 bits [31:0], RO, reset 0: Current or last continuous request, µs; saturates -/
abbrev GDP_BRK_ON_TIME_US : Fld := ⟨9047296, 32⟩
/-- GDP_PROFg_ON.T2, 0x045200 + … bits [27:16], RWS, reset 0: Weak phase at turn-on, 100 ps -/
abbrev GDP_PROF_ON_T2 (n : Nat) : Fld := ⟨(0x45200 + 0x10 * n) * 32 + 16, 12⟩
/-- GDP_PROFg_ON.T1, 0x045200 + … bits [11:0], RWS, reset 0: Strong pre-charge, 100 ps -/
abbrev GDP_PROF_ON_T1 (n : Nat) : Fld := ⟨(0x45200 + 0x10 * n) * 32, 12⟩
/-- GDP_PROFg_OFF.T2, 0x045204 + … bits [27:16], RWS, reset 0: Weak phase at turn-off, 100 ps -/
abbrev GDP_PROF_OFF_T2 (n : Nat) : Fld := ⟨(0x45204 + 0x10 * n) * 32 + 16, 12⟩
/-- GDP_PROFg_OFF.T1, 0x045204 + … bits [11:0], RWS, reset 0: Strong discharge, 100 ps -/
abbrev GDP_PROF_OFF_T1 (n : Nat) : Fld := ⟨(0x45204 + 0x10 * n) * 32, 12⟩
/-- GDP_PROFg_SOFT.T_SOFT, 0x045208 + … bits [11:0], RWS, reset 0: Soft trip turn-off, 100 ps; 0 = none -/
abbrev GDP_PROF_SOFT_T_SOFT (n : Nat) : Fld := ⟨(0x45208 + 0x10 * n) * 32, 12⟩
/-- FAD_CTRL.ENABLE, 0x054008 bits [0:0], RW, reset 0: Conversions run (R279) -/
abbrev FAD_CTRL_ENABLE : Fld := ⟨11010304, 1⟩
/-- FAD_STATUS.TIMER, 0x05400C bits [31:31], RO, reset 0: Control-period timer running -/
abbrev FAD_STATUS_TIMER : Fld := ⟨11010463, 1⟩
/-- FAD_STATUS.URG_BUSY, 0x05400C bits [16:0], RO, reset 0: Converter k (bit 16 = FCS) holds an urgent request (R286) -/
abbrev FAD_STATUS_URG_BUSY : Fld := ⟨11010432, 17⟩
/-- FAD_STICKY.CLIP, 0x054018 bits [3:3], W1C, reset 0: A code clipped (R277) -/
abbrev FAD_STICKY_CLIP : Fld := ⟨11010819, 1⟩
/-- FAD_STICKY.SCAN_DROP, 0x054018 bits [2:2], W1C, reset 0: Conversion abandoned or position dropped (R280, R281) -/
abbrev FAD_STICKY_SCAN_DROP : Fld := ⟨11010818, 1⟩
/-- FAD_STICKY.URG_DROP, 0x054018 bits [1:1], W1C, reset 0: Urgent request dropped (R286) -/
abbrev FAD_STICKY_URG_DROP : Fld := ⟨11010817, 1⟩
/-- FAD_STICKY.LATE, 0x054018 bits [0:0], W1C, reset 0: LATE result written (R285) -/
abbrev FAD_STICKY_LATE : Fld := ⟨11010816, 1⟩
/-- FAD_LATE0.CH, 0x054040 bits [31:0], RO, reset 0: Last result of ISLOT 0x00–0x1F was LATE -/
abbrev FAD_LATE0_CH : Fld := ⟨11012096, 32⟩
/-- FAD_LATE1.CH, 0x054044 bits [31:0], RO, reset 0: Same, ISLOT 0x20–0x3F -/
abbrev FAD_LATE1_CH : Fld := ⟨11012224, 32⟩
/-- FAD_CLIP0.CH, 0x054048 bits [31:0], W1C, reset 0: Channels 0–31 clipped -/
abbrev FAD_CLIP0_CH : Fld := ⟨11012352, 32⟩
/-- FAD_CLIP1.CH, 0x05404C bits [31:0], W1C, reset 0: Channels 32–63 clipped -/
abbrev FAD_CLIP1_CH : Fld := ⟨11012480, 32⟩
/-- FAD_CNT_URG.N, 0x054050 bits [31:0], RO, reset 0: Urgent requests served; saturates -/
abbrev FAD_CNT_URG_N : Fld := ⟨11012608, 32⟩
/-- FAD_CNT_URG_DROP.N, 0x054054 bits [31:0], RO, reset 0: Urgent requests dropped; saturates -/
abbrev FAD_CNT_URG_DROP_N : Fld := ⟨11012736, 32⟩
/-- FAD_CNT_DROP.N, 0x054058 bits [31:0], RO, reset 0: Conversions abandoned or dropped; saturates -/
abbrev FAD_CNT_DROP_N : Fld := ⟨11012864, 32⟩
/-- FAD_CMD.CNT_CLR, 0x05405C bits [0:0], WO, reset 0: Clear the three counters -/
abbrev FAD_CMD_CNT_CLR : Fld := ⟨11012992, 1⟩
/-- FAD_LATE_CH.CAUSE, 0x054060 bits [25:24], RO, reset 0: 0 = urgent, 1 = repeat of an aborted conversion, 2 = moved -/
abbrev FAD_LATE_CH_CAUSE : Fld := ⟨11013144, 2⟩
/-- FAD_LATE_CH.INT, 0x054060 bits [6:6], RO, reset 0: Internal input; CH = 4k + c (R285) -/
abbrev FAD_LATE_CH_INT : Fld := ⟨11013126, 1⟩
/-- FAD_LATE_CH.CH, 0x054060 bits [5:0], RO, reset 0: Channel -/
abbrev FAD_LATE_CH_CH : Fld := ⟨11013120, 6⟩
/-- FAD_LATE_TS_Ww.W, 0x054064 + … bits [31:0], RO, reset 0: Word w (0–2) of the last LATE sample instant -/
abbrev FAD_LATE_TS_W_W (n : Nat) : Fld := ⟨(0x54064 + 4 * n) * 32, 32⟩
/-- FAD_URGu_CFG.EN, 0x054200 + … bits [31:31], RWS, reset 0: Line u enabled (u = 0–31) -/
abbrev FAD_URG_CFG_EN (n : Nat) : Fld := ⟨(0x54200 + 4 * n) * 32 + 31, 1⟩
/-- FAD_URGu_CFG.TO_SLOT, 0x054200 + … bits [30:30], RWS, reset 0: Also write the ISLOT (R285) -/
abbrev FAD_URG_CFG_TO_SLOT (n : Nat) : Fld := ⟨(0x54200 + 4 * n) * 32 + 30, 1⟩
/-- FAD_URGu_CFG.FLAG_EN, 0x054200 + … bits [29:29], RWS, reset 0: FLAG u requests -/
abbrev FAD_URG_CFG_FLAG_EN (n : Nat) : Fld := ⟨(0x54200 + 4 * n) * 32 + 29, 1⟩
/-- FAD_URGu_CFG.TRIP_EN, 0x054200 + … bits [28:28], RWS, reset 0: Trip source TSRC requests -/
abbrev FAD_URG_CFG_TRIP_EN (n : Nat) : Fld := ⟨(0x54200 + 4 * n) * 32 + 28, 1⟩
/-- FAD_URGu_CFG.TSRC, 0x054200 + … bits [26:20], RWS, reset 0: Trip source 0–127 -/
abbrev FAD_URG_CFG_TSRC (n : Nat) : Fld := ⟨(0x54200 + 4 * n) * 32 + 20, 7⟩
/-- FAD_URGu_CFG.FC, 0x054200 + … bits [15:12], RWS, reset 0: Converter FC00–FC15 -/
abbrev FAD_URG_CFG_FC (n : Nat) : Fld := ⟨(0x54200 + 4 * n) * 32 + 12, 4⟩
/-- FAD_URGu_CFG.INPUT, 0x054200 + … bits [10:8], RWS, reset 0: Input 0–7 (4–7 internal) -/
abbrev FAD_URG_CFG_INPUT (n : Nat) : Fld := ⟨(0x54200 + 4 * n) * 32 + 8, 3⟩
/-- FAD_URGu_RES.CODE, 0x054280 + … bits [15:0], RO, reset 0: Last urgent result, corrected code -/
abbrev FAD_URG_RES_CODE (n : Nat) : Fld := ⟨(0x54280 + 4 * n) * 32, 16⟩
/-- FAD_FCk_SCAN.CONT, 0x054300 + … bits [31:31], RWS, reset 0: Continuous (R280) (k = 0–15) -/
abbrev FAD_FC_SCAN_CONT (n : Nat) : Fld := ⟨(0x54300 + 4 * n) * 32 + 31, 1⟩
/-- FAD_FCk_SCAN.MASK, 0x054300 + … bits [7:0], RWS, reset 0: [3:0] external, [7:4] CAL_P, CAL_N, GND, TEMP; 0 = idle -/
abbrev FAD_FC_SCAN_MASK (n : Nat) : Fld := ⟨(0x54300 + 4 * n) * 32, 8⟩
/-- FAD_CHn_FS.FS, 0x054400 + … bits [31:0], RWS, reset 0: Full scale, slot-word format; 0 = results 0 (R278) -/
abbrev FAD_CH_FS_FS (n : Nat) : Fld := ⟨(0x54400 + 4 * n) * 32, 32⟩
/-- FAD_CHn_OFS.OFS, 0x054500 + … bits [15:0], RWS, reset 0: Sensor offset, signed codes -/
abbrev FAD_CH_OFS_OFS (n : Nat) : Fld := ⟨(0x54500 + 4 * n) * 32, 16⟩
/-- FAD_FCk_INTc.CODE, 0x054600 + … bits [15:0], RO, reset 0: Internal input c (0 = CAL_P … 3 = TEMP), k = 0–16 -/
abbrev FAD_FC_INT_CODE (n : Nat) (k : Nat) : Fld := ⟨(0x54600 + 0x10 * n + 4 * k) * 32, 16⟩
/-- FAD_RAWn.LATE, 0x054800 + … bits [31:31], RO, reset 0: Last result LATE -/
abbrev FAD_RAW_LATE (n : Nat) : Fld := ⟨(0x54800 + 4 * n) * 32 + 31, 1⟩
/-- FAD_RAWn.CLIP, 0x054800 + … bits [30:30], RO, reset 0: Last result clipped -/
abbrev FAD_RAW_CLIP (n : Nat) : Fld := ⟨(0x54800 + 4 * n) * 32 + 30, 1⟩
/-- FAD_RAWn.CODE, 0x054800 + … bits [15:0], RO, reset 0: Last corrected code of channel n, urgent results included (R285) -/
abbrev FAD_RAW_CODE (n : Nat) : Fld := ⟨(0x54800 + 4 * n) * 32, 16⟩
/-- FAC_CTRL.SELF_CAL, 0x055008 bits [2:2], RW, reset 1: FCS step after FC15 -/
abbrev FAC_CTRL_SELF_CAL : Fld := ⟨11141378, 1⟩
/-- FAC_CTRL.AUTO_PARK, 0x055008 bits [1:1], RW, reset 0: Park on an OVL1 mismatch (R290) -/
abbrev FAC_CTRL_AUTO_PARK : Fld := ⟨11141377, 1⟩
/-- FAC_CTRL.ENABLE, 0x055008 bits [0:0], RW, reset 0: Rotation enabled -/
abbrev FAC_CTRL_ENABLE : Fld := ⟨11141376, 1⟩
/-- FAC_STATUS.STATE, 0x05500C bits [31:29], RO, reset 0: State code -/
abbrev FAC_STATUS_STATE : Fld := ⟨11141533, 3⟩
/-- FAC_STATUS.VISIT, 0x05500C bits [28:24], RO, reset 31: Converter visited, 0–15, 16 = FCS; 31 = none -/
abbrev FAC_STATUS_VISIT : Fld := ⟨11141528, 5⟩
/-- FAC_STATUS.CARRY, 0x05500C bits [16:16], RO, reset 0: FCS carrying a converter's traffic -/
abbrev FAC_STATUS_CARRY : Fld := ⟨11141520, 1⟩
/-- FAC_STATUS.CARRY_K, 0x05500C bits [4:0], RO, reset 0: Converter carried -/
abbrev FAC_STATUS_CARRY_K : Fld := ⟨11141504, 5⟩
/-- FAC_STICKY.CFG_REJECT, 0x055018 bits [6:6], W1C, reset 0: Commit refused (R293) -/
abbrev FAC_STICKY_CFG_REJECT : Fld := ⟨11141894, 1⟩
/-- FAC_STICKY.CMD_REJECT, 0x055018 bits [5:5], W1C, reset 0: Command refused (R292) -/
abbrev FAC_STICKY_CMD_REJECT : Fld := ⟨11141893, 1⟩
/-- FAC_STICKY.ROT_DONE, 0x055018 bits [4:4], W1C, reset 0: Rotation completed -/
abbrev FAC_STICKY_ROT_DONE : Fld := ⟨11141892, 1⟩
/-- FAC_STICKY.FCS_SUSPECT, 0x055018 bits [3:3], W1C, reset 0: FCS marked suspect -/
abbrev FAC_STICKY_FCS_SUSPECT : Fld := ⟨11141891, 1⟩
/-- FAC_STICKY.PARK, 0x055018 bits [2:2], W1C, reset 0: PARKED entered -/
abbrev FAC_STICKY_PARK : Fld := ⟨11141890, 1⟩
/-- FAC_STICKY.CAL_FAIL, 0x055018 bits [1:1], W1C, reset 0: Calibration out of limits (R289) -/
abbrev FAC_STICKY_CAL_FAIL : Fld := ⟨11141889, 1⟩
/-- FAC_STICKY.OVL_MISMATCH, 0x055018 bits [0:0], W1C, reset 0: Overlap failed (R288) -/
abbrev FAC_STICKY_OVL_MISMATCH : Fld := ⟨11141888, 1⟩
/-- FAC_ROT_EN.FC, 0x055040 bits [15:0], RWS, reset 0xFFFF: Converters visited; 0 = none -/
abbrev FAC_ROT_EN_FC : Fld := ⟨11143168, 16⟩
/-- FAC_CFG.VISIT_MS, 0x055044 bits [31:24], RWS, reset 30: Visit interval, ms; 0 = none; 1–29 refused -/
abbrev FAC_CFG_VISIT_MS : Fld := ⟨11143320, 8⟩
/-- FAC_CFG.OVL_THR, 0x055044 bits [15:0], RWS, reset 48: Mismatch threshold, codes; 0 refused -/
abbrev FAC_CFG_OVL_THR : Fld := ⟨11143296, 16⟩
/-- FAC_FCS_LIM.CODES, 0x055048 bits [15:0], RWS, reset 256: CHECK limit, codes; 0 refused -/
abbrev FAC_FCS_LIM_CODES : Fld := ⟨11143424, 16⟩
/-- FAC_SUSPECT.FC, 0x05504C bits [16:0], RO, reset 0: Converter k suspect; bit 16 = FCS -/
abbrev FAC_SUSPECT_FC : Fld := ⟨11143552, 17⟩
/-- FAC_CMD.K, 0x055050 bits [12:8], WO, reset 0: Converter for PARK -/
abbrev FAC_CMD_K : Fld := ⟨11143688, 5⟩
/-- FAC_CMD.CLR_FCS, 0x055050 bits [3:3], WO, reset 0: Clear FCS suspect -/
abbrev FAC_CMD_CLR_FCS : Fld := ⟨11143683, 1⟩
/-- FAC_CMD.PARK, 0x055050 bits [2:2], WO, reset 0: Park FCS on K -/
abbrev FAC_CMD_PARK : Fld := ⟨11143682, 1⟩
/-- FAC_CMD.UNPARK, 0x055050 bits [1:1], WO, reset 0: End the park -/
abbrev FAC_CMD_UNPARK : Fld := ⟨11143681, 1⟩
/-- FAC_CMD.RESUME, 0x055050 bits [0:0], WO, reset 0: Restart the rotation -/
abbrev FAC_CMD_RESUME : Fld := ⟨11143680, 1⟩
/-- FAC_ROT_CNT.N, 0x055054 bits [31:0], RO, reset 0: Completed rotations; wraps -/
abbrev FAC_ROT_CNT_N : Fld := ⟨11143808, 32⟩
/-- FAC_OVL_LAST.PAIRS, 0x055058 bits [31:16], RO, reset 0: Valid pairs in the last overlap -/
abbrev FAC_OVL_LAST_PAIRS : Fld := ⟨11143952, 16⟩
/-- FAC_OVL_LAST.MAXDIFF, 0x055058 bits [15:0], RO, reset 0: Largest difference, codes -/
abbrev FAC_OVL_LAST_MAXDIFF : Fld := ⟨11143936, 16⟩
/-- FAC_CALk_OFS.OFS, 0x055200 + … bits [15:0], RO, reset from test: Offset, signed, 1/16 code -/
abbrev FAC_CAL_OFS_OFS (n : Nat) : Fld := ⟨(0x55200 + 0x10 * n) * 32, 16⟩
/-- FAC_CALk_GAIN.DEV, 0x055204 + … bits [23:0], RO, reset from test: Gain deviation, signed, 2^−24 -/
abbrev FAC_CAL_GAIN_DEV (n : Nat) : Fld := ⟨(0x55204 + 0x10 * n) * 32, 24⟩
/-- FAC_CALk_SKEW.SKEW, 0x055208 + … bits [15:0], RO, reset from test: Skew trim, signed, 6.25 ps -/
abbrev FAC_CAL_SKEW_SKEW (n : Nat) : Fld := ⟨(0x55208 + 0x10 * n) * 32, 16⟩
/-- FAC_CALk_AGE.ROT, 0x05520C + … bits [31:0], RO, reset 0: FAC_ROT_CNT at the last calibration -/
abbrev FAC_CAL_AGE_ROT (n : Nat) : Fld := ⟨(0x5520c + 0x10 * n) * 32, 32⟩

end Sys2Proof.F
end

