-- ==== Sys2Proof/Machine/RegMapC.lean ====
section
/-! DEFINITION. The register fields of the manual (metrology, phasors, pump, Parapet, Buttress): one name per field, taken from the
register tables of spec/. A field's key is 32 times its byte address plus its lowest bit. -/

namespace Sys2Proof.F

/-- MET_CTRL.WATCH_EN, 0x060008 bits [3:3], RW, reset 0: Supply-loss watch (R317) -/
abbrev MET_CTRL_WATCH_EN : Fld := ⟨12583171, 1⟩
/-- MET_CTRL.WIRES4, 0x060008 bits [2:2], RW, reset 1: 1 = four-wire, 0 = three-wire (R305) -/
abbrev MET_CTRL_WIRES4 : Fld := ⟨12583170, 1⟩
/-- MET_CTRL.F60, 0x060008 bits [1:1], RW, reset 1: Held frequency after reset: 0 = 50 Hz, 1 = 60 Hz -/
abbrev MET_CTRL_F60 : Fld := ⟨12583169, 1⟩
/-- MET_CTRL.ENABLE, 0x060008 bits [0:0], RW, reset 0: Converters and accumulation run -/
abbrev MET_CTRL_ENABLE : Fld := ⟨12583168, 1⟩
/-- MET_STATUS.CYCLE, 0x06000C bits [31:24], RO, reset 0: Cycle count modulo 256 -/
abbrev MET_STATUS_CYCLE : Fld := ⟨12583320, 8⟩
/-- MET_STATUS.SUSPECT, 0x06000C bits [22:16], RO, reset 0: Channel c suspect (R307) -/
abbrev MET_STATUS_SUSPECT : Fld := ⟨12583312, 7⟩
/-- MET_STATUS.WATCH, 0x06000C bits [9:9], RO, reset 0: Watch running -/
abbrev MET_STATUS_WATCH : Fld := ⟨12583305, 1⟩
/-- MET_STATUS.CHK_PARKED, 0x06000C bits [8:8], RO, reset 0: MCX parked -/
abbrev MET_STATUS_CHK_PARKED : Fld := ⟨12583304, 1⟩
/-- MET_STATUS.SEQ, 0x06000C bits [7:6], RO, reset 0: 0 = undetermined, 1 = L1–L2–L3, 2 = reverse (R304) -/
abbrev MET_STATUS_SEQ : Fld := ⟨12583302, 2⟩
/-- MET_STATUS.MISSING_N, 0x06000C bits [5:5], RO, reset 0: Missing neutral (R305) -/
abbrev MET_STATUS_MISSING_N : Fld := ⟨12583301, 1⟩
/-- MET_STATUS.NEUT_MISMATCH, 0x06000C bits [4:4], RO, reset 0: Neutral current mismatch (R305) -/
abbrev MET_STATUS_NEUT_MISMATCH : Fld := ⟨12583300, 1⟩
/-- MET_STATUS.F_HOLD, 0x06000C bits [3:3], RO, reset 0: Tracker holding (R298) -/
abbrev MET_STATUS_F_HOLD : Fld := ⟨12583299, 1⟩
/-- MET_STATUS.F_RANGE, 0x06000C bits [2:2], RO, reset 0: Tracker at a range limit -/
abbrev MET_STATUS_F_RANGE : Fld := ⟨12583298, 1⟩
/-- MET_STATUS.RUN, 0x06000C bits [0:0], RO, reset 0: Converters running with MCLK -/
abbrev MET_STATUS_RUN : Fld := ⟨12583296, 1⟩
/-- MET_STICKY.PULSE_BACKLOG, 0x060018 bits [11:11], W1C, reset 0: PEND exceeded 1 (R316) -/
abbrev MET_STICKY_PULSE_BACKLOG : Fld := ⟨12583691, 1⟩
/-- MET_STICKY.PRESET, 0x060018 bits [10:10], W1C, reset 0: Preset applied (R313) -/
abbrev MET_STICKY_PRESET : Fld := ⟨12583690, 1⟩
/-- MET_STICKY.RESTORED, 0x060018 bits [9:9], W1C, reset 0: Restored from FRAM copy (R312) -/
abbrev MET_STICKY_RESTORED : Fld := ⟨12583689, 1⟩
/-- MET_STICKY.WATCH_EVENT, 0x060018 bits [8:8], W1C, reset 0: Watch threshold reached (R318) -/
abbrev MET_STICKY_WATCH_EVENT : Fld := ⟨12583688, 1⟩
/-- MET_STICKY.CHK_MISMATCH, 0x060018 bits [7:7], W1C, reset 0: Check mismatch (R307) -/
abbrev MET_STICKY_CHK_MISMATCH : Fld := ⟨12583687, 1⟩
/-- MET_STICKY.REV_SEQ, 0x060018 bits [6:6], W1C, reset 0: Reverse sequence (R304) -/
abbrev MET_STICKY_REV_SEQ : Fld := ⟨12583686, 1⟩
/-- MET_STICKY.MISSING_N, 0x060018 bits [5:5], W1C, reset 0: Missing neutral -/
abbrev MET_STICKY_MISSING_N : Fld := ⟨12583685, 1⟩
/-- MET_STICKY.NEUT_MISMATCH, 0x060018 bits [4:4], W1C, reset 0: Neutral mismatch -/
abbrev MET_STICKY_NEUT_MISMATCH : Fld := ⟨12583684, 1⟩
/-- MET_STICKY.F_RANGE, 0x060018 bits [3:3], W1C, reset 0: Frequency out of range -/
abbrev MET_STICKY_F_RANGE : Fld := ⟨12583683, 1⟩
/-- MET_STICKY.CLIP, 0x060018 bits [2:2], W1C, reset 0: Code clipped (R295) -/
abbrev MET_STICKY_CLIP : Fld := ⟨12583682, 1⟩
/-- MET_STICKY.CFG_REJECT, 0x060018 bits [1:1], W1C, reset 0: Commit refused (R315) -/
abbrev MET_STICKY_CFG_REJECT : Fld := ⟨12583681, 1⟩
/-- MET_STICKY.WRAP, 0x060018 bits [0:0], W1C, reset 0: An accumulator wrapped (R310) -/
abbrev MET_STICKY_WRAP : Fld := ⟨12583680, 1⟩
/-- MET_CFG.FREF, 0x060040 bits [17:16], RWS, reset 0: 0 = automatic, 1–3 = MV1–MV3 (R297) -/
abbrev MET_CFG_FREF : Fld := ⟨12584976, 2⟩
/-- MET_CFG.VMIN, 0x060040 bits [7:0], RWS, reset 26: Tracking minimum, 1/256 pu -/
abbrev MET_CFG_VMIN : Fld := ⟨12584960, 8⟩
/-- MET_VNOM.V, 0x060044 bits [31:0], RWS, reset 0: V_nom, phase RMS, slot-word format; 0 = detections off -/
abbrev MET_VNOM_V : Fld := ⟨12585088, 32⟩
/-- MET_CHK.N, 0x060048 bits [31:24], RWS, reset 8: Consecutive mismatches; 0 = never -/
abbrev MET_CHK_N : Fld := ⟨12585240, 8⟩
/-- MET_CHK.VISIT, 0x060048 bits [23:16], RWS, reset 60: Cycles per visit; 0 = MCX idle -/
abbrev MET_CHK_VISIT : Fld := ⟨12585232, 8⟩
/-- MET_CHK.SUBST, 0x060048 bits [15:15], RWS, reset 0: Substitute MCX when parked -/
abbrev MET_CHK_SUBST : Fld := ⟨12585231, 1⟩
/-- MET_CHK.THR, 0x060048 bits [14:0], RWS, reset 500: Mismatch threshold, ppm -/
abbrev MET_CHK_THR : Fld := ⟨12585216, 15⟩
/-- MET_DET.MN_THR, 0x06004C bits [31:24], RWS, reset 26: Zero-sequence threshold, 1/256 pu -/
abbrev MET_DET_MN_THR : Fld := ⟨12585368, 8⟩
/-- MET_DET.N, 0x06004C bits [23:16], RWS, reset 5: Persistence, cycles -/
abbrev MET_DET_N : Fld := ⟨12585360, 8⟩
/-- MET_DET.IN_THR, 0x06004C bits [15:0], RWS, reset 500: Neutral mismatch, 0.1 A -/
abbrev MET_DET_IN_THR : Fld := ⟨12585344, 16⟩
/-- MET_FRZ.INT_S, 0x060050 bits [15:0], RWS, reset 900: Freeze interval, s; 0 = none -/
abbrev MET_FRZ_INT_S : Fld := ⟨12585472, 16⟩
/-- MET_WATCH_CFG.V_ASSUMED, 0x060054 bits [31:16], RWS, reset 230: Assumed phase voltage, V -/
abbrev MET_WATCH_CFG_V_ASSUMED : Fld := ⟨12585616, 16⟩
/-- MET_WATCH_CFG.THR, 0x060054 bits [15:0], RWS, reset 0: Event threshold, 0.1 A; 0 = none -/
abbrev MET_WATCH_CFG_THR : Fld := ⟨12585600, 16⟩
/-- MET_WATCH_T.T_S, 0x060058 bits [7:0], RWS, reset 5: Event persistence, s -/
abbrev MET_WATCH_T_T_S : Fld := ⟨12585728, 8⟩
/-- MET_CMD.PRESET_IDX, 0x06005C bits [12:8], WO, reset 0: Accumulator for PRESET -/
abbrev MET_CMD_PRESET_IDX : Fld := ⟨12585864, 5⟩
/-- MET_CMD.PRESET, 0x06005C bits [2:2], WO, reset 0: Load accumulator (R313) -/
abbrev MET_CMD_PRESET : Fld := ⟨12585858, 1⟩
/-- MET_CMD.FREEZE, 0x06005C bits [1:1], WO, reset 0: Freeze (R311) -/
abbrev MET_CMD_FREEZE : Fld := ⟨12585857, 1⟩
/-- MET_CMD.UNPARK, 0x06005C bits [0:0], WO, reset 0: End the MCX park (R307) -/
abbrev MET_CMD_UNPARK : Fld := ⟨12585856, 1⟩
/-- MET_PRESET_LO.A, 0x060060 bits [31:0], RW, reset 0: Preset [31:0] -/
abbrev MET_PRESET_LO_A : Fld := ⟨12585984, 32⟩
/-- MET_PRESET_HI.A, 0x060064 bits [31:0], RW, reset 0: Preset [63:32] -/
abbrev MET_PRESET_HI_A : Fld := ⟨12586112, 32⟩
/-- MET_PRESET_W.W, 0x060068 bits [7:0], RW, reset 0: Preset wrap count -/
abbrev MET_PRESET_W_W : Fld := ⟨12586240, 8⟩
/-- MET_CLIP.CH, 0x06006C bits [7:0], W1C, reset 0: Channel c clipped -/
abbrev MET_CLIP_CH : Fld := ⟨12586368, 8⟩
/-- MET_FRZ_TS_Ww.W, 0x060070 + … bits [31:0], RO, reset 0: Word w (0–2) of the last freeze instant -/
abbrev MET_FRZ_TS_W_W (n : Nat) : Fld := ⟨(0x60070 + 4 * n) * 32, 32⟩
/-- MET_FRZ_CNT.N, 0x06007C bits [31:0], RO, reset 0: Freezes; wraps -/
abbrev MET_FRZ_CNT_N : Fld := ⟨12586880, 32⟩
/-- MET_PULSEp_CFG.EN, 0x060080 + … bits [31:31], RWS, reset 0: PULSEp enabled (p = 0–3) -/
abbrev MET_PULSE_CFG_EN (n : Nat) : Fld := ⟨(0x60080 + 4 * n) * 32 + 31, 1⟩
/-- MET_PULSEp_CFG.IDX, 0x060080 + … bits [12:8], RWS, reset 0: Accumulator; kind 7 refused -/
abbrev MET_PULSE_CFG_IDX (n : Nat) : Fld := ⟨(0x60080 + 4 * n) * 32 + 8, 5⟩
/-- MET_PULSEp_CFG.WIDTH, 0x060080 + … bits [6:0], RWS, reset 40: Pulse width, ms, 10–80 -/
abbrev MET_PULSE_CFG_WIDTH (n : Nat) : Fld := ⟨(0x60080 + 4 * n) * 32, 7⟩
/-- MET_PULSEp_THR.THR, 0x060090 + … bits [31:0], RWS, reset 0: Meter constant; 0 = no pulses -/
abbrev MET_PULSE_THR_THR (n : Nat) : Fld := ⟨(0x60090 + 4 * n) * 32, 32⟩
/-- MET_PULSEp_PEND.N, 0x0600A0 + … bits [31:0], RO, reset 0: Pending pulses -/
abbrev MET_PULSE_PEND_N (n : Nat) : Fld := ⟨(0x600a0 + 4 * n) * 32, 32⟩
/-- MET_WATCH_ASx.AS, 0x0600B0 + … bits [31:0], RO, reset 0: Phase x + 1 current-seconds, A·s; wraps (x = 0–2) -/
abbrev MET_WATCH_AS_AS (n : Nat) : Fld := ⟨(0x600b0 + 4 * n) * 32, 32⟩
/-- MET_WATCH_WH.WH, 0x0600BC bits [31:0], RO, reset 0: Watch energy estimate, Wh; wraps -/
abbrev MET_WATCH_WH_WH : Fld := ⟨12588928, 32⟩
/-- MET_WATCH_SEC.S, 0x0600C0 bits [31:0], RO, reset 0: Running time of the last watch, s -/
abbrev MET_WATCH_SEC_S : Fld := ⟨12589056, 32⟩
/-- MET_VALv.VAL, 0x060200 + … bits [31:0], RO, reset 0: Per-cycle value v, as ISLOT 0xC0 + v (R303) -/
abbrev MET_VAL_VAL (n : Nat) : Fld := ⟨(0x60200 + 4 * n) * 32, 32⟩
/-- MET_ACCa_LO.A, 0x060400 + … bits [31:0], RO, reset 0: Accumulator a [31:0]; read latches HI and WRAP -/
abbrev MET_ACC_LO_A (n : Nat) : Fld := ⟨(0x60400 + 0x10 * n) * 32, 32⟩
/-- MET_ACCa_HI.A, 0x060404 + … bits [31:0], RO, reset 0: Accumulator a [63:32] -/
abbrev MET_ACC_HI_A (n : Nat) : Fld := ⟨(0x60404 + 0x10 * n) * 32, 32⟩
/-- MET_ACCa_WRAP.W, 0x060408 + … bits [7:0], RO, reset 0: Wrap counter -/
abbrev MET_ACC_WRAP_W (n : Nat) : Fld := ⟨(0x60408 + 0x10 * n) * 32, 8⟩
/-- MET_FRZa_LO.A, 0x060600 + … bits [31:0], RO, reset 0: Frozen [31:0]; read latches HI and WRAP -/
abbrev MET_FRZ_LO_A (n : Nat) : Fld := ⟨(0x60600 + 0x10 * n) * 32, 32⟩
/-- MET_FRZa_HI.A, 0x060604 + … bits [31:0], RO, reset 0: Frozen [63:32] -/
abbrev MET_FRZ_HI_A (n : Nat) : Fld := ⟨(0x60604 + 0x10 * n) * 32, 32⟩
/-- MET_FRZa_WRAP.W, 0x060608 + … bits [7:0], RO, reset 0: Frozen wrap counter -/
abbrev MET_FRZ_WRAP_W (n : Nat) : Fld := ⟨(0x60608 + 0x10 * n) * 32, 8⟩
/-- MTC_CTRL.ENABLE, 0x061008 bits [0:0], RW, reset 0: Temperature compensation applied; clear gives g_T = φ_T = 0 -/
abbrev MTC_CTRL_ENABLE : Fld := ⟨12714240, 1⟩
/-- MTC_STATUS.TDIE, 0x06100C bits [31:24], RO, reset 0: Power-die temperature, °C, signed -/
abbrev MTC_STATUS_TDIE : Fld := ⟨12714392, 8⟩
/-- MTC_STATUS.TEXT_STALE, 0x06100C bits [1:1], RO, reset 0: MTC_TEXT older than 10 s (R300) -/
abbrev MTC_STATUS_TEXT_STALE : Fld := ⟨12714369, 1⟩
/-- MTC_STATUS.LOCKED, 0x06100C bits [0:0], RO, reset 0: Calibration lock in force -/
abbrev MTC_STATUS_LOCKED : Fld := ⟨12714368, 1⟩
/-- MTC_STICKY.TEXT_STALE, 0x061018 bits [2:2], W1C, reset 0: Fallback to the die sensor -/
abbrev MTC_STICKY_TEXT_STALE : Fld := ⟨12714754, 1⟩
/-- MTC_STICKY.LOCK_REJECT, 0x061018 bits [1:1], W1C, reset 0: Write refused by the lock (R301) -/
abbrev MTC_STICKY_LOCK_REJECT : Fld := ⟨12714753, 1⟩
/-- MTC_STICKY.CFG_REJECT, 0x061018 bits [0:0], W1C, reset 0: Commit refused (R301) -/
abbrev MTC_STICKY_CFG_REJECT : Fld := ⟨12714752, 1⟩
/-- MTC_TEXT.T, 0x061040 bits [15:0], RW, reset 0: External temperature, signed, 1/16 °C -/
abbrev MTC_TEXT_T : Fld := ⟨12716032, 16⟩
/-- MTC_CALc_FS.FS, 0x061200 + … bits [31:0], RWS, reset 0: Value at code 2^23, slot-word format; unused for c = 7 (c = 0–7) -/
abbrev MTC_CAL_FS_FS (n : Nat) : Fld := ⟨(0x61200 + 0x10 * n) * 32, 32⟩
/-- MTC_CALc_GAIN.DEV, 0x061204 + … bits [23:0], RWS, reset 0: Gain deviation, signed, 2^−24 -/
abbrev MTC_CAL_GAIN_DEV (n : Nat) : Fld := ⟨(0x61204 + 0x10 * n) * 32, 24⟩
/-- MTC_CALc_PHO.OFS, 0x061208 + … bits [31:16], RWS, reset 0: Offset, signed codes -/
abbrev MTC_CAL_PHO_OFS (n : Nat) : Fld := ⟨(0x61208 + 0x10 * n) * 32 + 16, 16⟩
/-- MTC_CALc_PHO.PHASE, 0x061208 + … bits [15:0], RWS, reset 0: Phase, signed, 0.001°; positive advances -/
abbrev MTC_CAL_PHO_PHASE (n : Nat) : Fld := ⟨(0x61208 + 0x10 * n) * 32, 16⟩
/-- MTC_CALc_TC.TSRC, 0x06120C + … bits [8:8], RWS, reset 0: 0 = die sensor, 1 = MTC_TEXT -/
abbrev MTC_CAL_TC_TSRC (n : Nat) : Fld := ⟨(0x6120c + 0x10 * n) * 32 + 8, 1⟩
/-- MTC_CALc_TC.N, 0x06120C + … bits [5:0], RWS, reset 0: Table entries used, 0–32; 0 = none -/
abbrev MTC_CAL_TC_N (n : Nat) : Fld := ⟨(0x6120c + 0x10 * n) * 32, 6⟩
/-- MTC_TCc_k.T, 0x061400 + … bits [31:24], RWS, reset 0: Entry temperature, °C, signed (k = 0–31) -/
abbrev MTC_TC_T (n : Nat) (k : Nat) : Fld := ⟨(0x61400 + 0x80 * n + 4 * k) * 32 + 24, 8⟩
/-- MTC_TCc_k.GAIN, 0x061400 + … bits [23:12], RWS, reset 0: g_T, signed, 2 ppm -/
abbrev MTC_TC_GAIN (n : Nat) (k : Nat) : Fld := ⟨(0x61400 + 0x80 * n + 4 * k) * 32 + 12, 12⟩
/-- MTC_TCc_k.PHASE, 0x061400 + … bits [11:0], RWS, reset 0: φ_T, signed, 0.001° -/
abbrev MTC_TC_PHASE (n : Nat) (k : Nat) : Fld := ⟨(0x61400 + 0x80 * n + 4 * k) * 32, 12⟩
/-- PHS_CTRL.SIGN, 0x070008 bits [4:4], RW, reset 0: Sign queue records (R329) -/
abbrev PHS_CTRL_SIGN : Fld := ⟨14680324, 1⟩
/-- PHS_CTRL.TEST, 0x070008 bits [3:3], RW, reset 0: STAT test mode (R328) -/
abbrev PHS_CTRL_TEST : Fld := ⟨14680323, 1⟩
/-- PHS_CTRL.REF_TX, 0x070008 bits [2:2], RW, reset 0: Send the reference (R331) -/
abbrev PHS_CTRL_REF_TX : Fld := ⟨14680322, 1⟩
/-- PHS_CTRL.F60, 0x070008 bits [1:1], RW, reset 1: 0 = 50 Hz, 1 = 60 Hz (R326) -/
abbrev PHS_CTRL_F60 : Fld := ⟨14680321, 1⟩
/-- PHS_CTRL.ENABLE, 0x070008 bits [0:0], RW, reset 0: Estimation enabled -/
abbrev PHS_CTRL_ENABLE : Fld := ⟨14680320, 1⟩
/-- PHS_STATUS.TIMED_OK, 0x07000C bits [9:9], RO, reset 0: ISLOT 0xA5 is 1.0 -/
abbrev PHS_STATUS_TIMED_OK : Fld := ⟨14680457, 1⟩
/-- PHS_STATUS.REF_OK, 0x07000C bits [8:8], RO, reset 0: Reference younger than 100 ms (R332) -/
abbrev PHS_STATUS_REF_OK : Fld := ⟨14680456, 1⟩
/-- PHS_STATUS.RUN, 0x07000C bits [7:4], RO, reset 0: Sets reporting -/
abbrev PHS_STATUS_RUN : Fld := ⟨14680452, 4⟩
/-- PHS_STATUS.ACTIVE, 0x07000C bits [3:0], RO, reset 0: Sets computing estimates -/
abbrev PHS_STATUS_ACTIVE : Fld := ⟨14680448, 4⟩
/-- PHS_STICKY.INPUT_FAULT, 0x070018 bits [4:4], W1C, reset 0: Frame in error from clip or suspect converter -/
abbrev PHS_STICKY_INPUT_FAULT : Fld := ⟨14680836, 1⟩
/-- PHS_STICKY.INPUT_RATE, 0x070018 bits [3:3], W1C, reset 0: Result interval above 50 µs (R321) -/
abbrev PHS_STICKY_INPUT_RATE : Fld := ⟨14680835, 1⟩
/-- PHS_STICKY.REF_LOST, 0x070018 bits [2:2], W1C, reset 0: REF_OK cleared (R332) -/
abbrev PHS_STICKY_REF_LOST : Fld := ⟨14680834, 1⟩
/-- PHS_STICKY.TX_DROP, 0x070018 bits [1:1], W1C, reset 0: M-class frame dropped (R330) -/
abbrev PHS_STICKY_TX_DROP : Fld := ⟨14680833, 1⟩
/-- PHS_STICKY.CFG_REJECT, 0x070018 bits [0:0], W1C, reset 0: Commit or write refused (R325, R326) -/
abbrev PHS_STICKY_CFG_REJECT : Fld := ⟨14680832, 1⟩
/-- PHS_RATE.FS, 0x070040 bits [7:0], RWS, reset 60: Frames per second (R325) -/
abbrev PHS_RATE_FS : Fld := ⟨14682112, 8⟩
/-- PHS_RUN.SET, 0x070044 bits [3:0], RW, reset 0: Set k reports (R326) -/
abbrev PHS_RUN_SET : Fld := ⟨14682240, 4⟩
/-- PHS_Q.EN, 0x070048 bits [31:31], RW, reset 0: Queue records -/
abbrev PHS_Q_EN : Fld := ⟨14682399, 1⟩
/-- PHS_Q.QUEUE, 0x070048 bits [4:0], RW, reset 0: Queue Q00–Q31 -/
abbrev PHS_Q_QUEUE : Fld := ⟨14682368, 5⟩
/-- PHS_TX.EN, 0x07004C bits [31:31], RW, reset 0: Send M-class frames (R330) -/
abbrev PHS_TX_EN : Fld := ⟨14682527, 1⟩
/-- PHS_TX.DEST, 0x07004C bits [11:0], RW, reset 0xFFF: Destination -/
abbrev PHS_TX_DEST : Fld := ⟨14682496, 12⟩
/-- PHS_REF.SRC, 0x070050 bits [27:16], RWS, reset 0: Reference node address (R332) -/
abbrev PHS_REF_SRC : Fld := ⟨14682640, 12⟩
/-- PHS_REF.SET, 0x070050 bits [1:0], RWS, reset 0: Set sent as reference -/
abbrev PHS_REF_SET : Fld := ⟨14682624, 2⟩
/-- PHS_TQ.HOLD, 0x070054 bits [3:0], RW, reset 0x3: Quality code in holdover (R327) -/
abbrev PHS_TQ_HOLD : Fld := ⟨14682752, 4⟩
/-- PHS_REF_Ww.W, 0x070058 + … bits [31:0], RO, reset 0: Word w (0–2) of the reference t_F -/
abbrev PHS_REF_W_W (n : Nat) : Fld := ⟨(0x70058 + 4 * n) * 32, 32⟩
/-- PHS_REF_AGE.US, 0x070064 bits [31:0], RO, reset 0xFFFF_FFFF: Reference age, µs; saturates -/
abbrev PHS_REF_AGE_US : Fld := ⟨14683264, 32⟩
/-- PHS_FRAME_CNT.N, 0x070068 bits [31:0], RO, reset 0: Frames reported; wraps -/
abbrev PHS_FRAME_CNT_N : Fld := ⟨14683392, 32⟩
/-- PHS_SETk_CFG.EN, 0x070200 + … bits [31:31], RWS, reset 0: Set k enabled (k = 0–3) -/
abbrev PHS_SET_CFG_EN (n : Nat) : Fld := ⟨(0x70200 + 0x20 * n) * 32 + 31, 1⟩
/-- PHS_SETk_CFG.CLASS, 0x070200 + … bits [30:30], RWS, reset 0: 0 = P, 1 = M -/
abbrev PHS_SET_CFG_CLASS (n : Nat) : Fld := ⟨(0x70200 + 0x20 * n) * 32 + 30, 1⟩
/-- PHS_SETk_CFG.FORMAT, 0x070200 + … bits [29:29], RWS, reset 0: 0 = rectangular, 1 = polar -/
abbrev PHS_SET_CFG_FORMAT (n : Nat) : Fld := ⟨(0x70200 + 0x20 * n) * 32 + 29, 1⟩
/-- PHS_SETk_CFG.MASK, 0x070200 + … bits [27:24], RWS, reset 0xF: Payload channels A, B, C, X+; 0 = none -/
abbrev PHS_SET_CFG_MASK (n : Nat) : Fld := ⟨(0x70200 + 0x20 * n) * 32 + 24, 4⟩
/-- PHS_SETk_CFG.CHC, 0x070200 + … bits [17:12], RWS, reset 0: ISLOT of phase C -/
abbrev PHS_SET_CFG_CHC (n : Nat) : Fld := ⟨(0x70200 + 0x20 * n) * 32 + 12, 6⟩
/-- PHS_SETk_CFG.CHB, 0x070200 + … bits [11:6], RWS, reset 0: ISLOT of phase B -/
abbrev PHS_SET_CFG_CHB (n : Nat) : Fld := ⟨(0x70200 + 0x20 * n) * 32 + 6, 6⟩
/-- PHS_SETk_CFG.CHA, 0x070200 + … bits [5:0], RWS, reset 0: ISLOT of phase A -/
abbrev PHS_SET_CFG_CHA (n : Nat) : Fld := ⟨(0x70200 + 0x20 * n) * 32, 6⟩
/-- PHS_SETk_DLYx.DLY, 0x070204 + … bits [15:0], RWS, reset 0: Channel delay, phase x (0–2), signed, 0.1 ns (R320) -/
abbrev PHS_SET_DLY_DLY (n : Nat) (k : Nat) : Fld := ⟨(0x70204 + 0x20 * n + 4 * k) * 32, 16⟩
/-- PHS_SETk_POSM.M, 0x070210 + … bits [31:0], RO, reset 0: |X+|, slot-word format -/
abbrev PHS_SET_POSM_M (n : Nat) : Fld := ⟨(0x70210 + 0x20 * n) * 32, 32⟩
/-- PHS_SETk_POSA.A, 0x070214 + … bits [31:0], RO, reset 0: Angle of X+, π rad -/
abbrev PHS_SET_POSA_A (n : Nat) : Fld := ⟨(0x70214 + 0x20 * n) * 32, 32⟩
/-- PHS_SETk_F.F, 0x070218 + … bits [31:0], RO, reset 0: Frequency, Hz -/
abbrev PHS_SET_F_F (n : Nat) : Fld := ⟨(0x70218 + 0x20 * n) * 32, 32⟩
/-- PHS_SETk_ROCOF.R, 0x07021C + … bits [31:0], RO, reset 0: ROCOF, Hz/s -/
abbrev PHS_SET_ROCOF_R (n : Nat) : Fld := ⟨(0x7021c + 0x20 * n) * 32, 32⟩
/-- TWV_CTRL.TX_EN, 0x071008 bits [2:2], RW, reset 0: Send arrival records (R338) -/
abbrev TWV_CTRL_TX_EN : Fld := ⟨14811394, 1⟩
/-- TWV_CTRL.STOP_FULL, 0x071008 bits [1:1], RW, reset 0: Keep old captures when full (R340) -/
abbrev TWV_CTRL_STOP_FULL : Fld := ⟨14811393, 1⟩
/-- TWV_CTRL.ENABLE, 0x071008 bits [0:0], RW, reset 0: Detectors run -/
abbrev TWV_CTRL_ENABLE : Fld := ⟨14811392, 1⟩
/-- TWV_STATUS.CAPTURING, 0x07100C bits [23:16], RO, reset 0: Capture in progress, detector k -/
abbrev TWV_STATUS_CAPTURING : Fld := ⟨14811536, 8⟩
/-- TWV_STATUS.SUSPENDED, 0x07100C bits [15:8], RO, reset 0: Detector suspended (R335) -/
abbrev TWV_STATUS_SUSPENDED : Fld := ⟨14811528, 8⟩
/-- TWV_STATUS.ACTIVE, 0x07100C bits [7:0], RO, reset 0: Detector acting -/
abbrev TWV_STATUS_ACTIVE : Fld := ⟨14811520, 8⟩
/-- TWV_STICKY.PAIR_SKIP, 0x071018 bits [6:6], W1C, reset 0: Pair refused for time validity (R341) -/
abbrev TWV_STICKY_PAIR_SKIP : Fld := ⟨14811910, 1⟩
/-- TWV_STICKY.PAIR, 0x071018 bits [5:5], W1C, reset 0: Pair formed -/
abbrev TWV_STICKY_PAIR : Fld := ⟨14811909, 1⟩
/-- TWV_STICKY.CAP_DROP, 0x071018 bits [4:4], W1C, reset 0: Capture not stored (R340) -/
abbrev TWV_STICKY_CAP_DROP : Fld := ⟨14811908, 1⟩
/-- TWV_STICKY.GAP, 0x071018 bits [3:3], W1C, reset 0: Gap in a stream (R336) -/
abbrev TWV_STICKY_GAP : Fld := ⟨14811907, 1⟩
/-- TWV_STICKY.STREAM_LOST, 0x071018 bits [2:2], W1C, reset 0: Detector suspended (R335) -/
abbrev TWV_STICKY_STREAM_LOST : Fld := ⟨14811906, 1⟩
/-- TWV_STICKY.CFG_REJECT, 0x071018 bits [1:1], W1C, reset 0: Commit refused (R335) -/
abbrev TWV_STICKY_CFG_REJECT : Fld := ⟨14811905, 1⟩
/-- TWV_STICKY.ARRIVAL, 0x071018 bits [0:0], W1C, reset 0: Detector triggered -/
abbrev TWV_STICKY_ARRIVAL : Fld := ⟨14811904, 1⟩
/-- TWV_TX.DEST, 0x071040 bits [11:0], RW, reset 0xFFF: Arrival record destination -/
abbrev TWV_TX_DEST : Fld := ⟨14813184, 12⟩
/-- TWV_Q.ARR_EN, 0x071044 bits [31:31], RW, reset 0: Queue arrival records -/
abbrev TWV_Q_ARR_EN : Fld := ⟨14813343, 1⟩
/-- TWV_Q.ARR_Q, 0x071044 bits [28:24], RW, reset 0: Arrival queue -/
abbrev TWV_Q_ARR_Q : Fld := ⟨14813336, 5⟩
/-- TWV_Q.CAP_EN, 0x071044 bits [15:15], RW, reset 0: Queue capture descriptors -/
abbrev TWV_Q_CAP_EN : Fld := ⟨14813327, 1⟩
/-- TWV_Q.CAP_Q, 0x071044 bits [12:8], RW, reset 0: Descriptor queue -/
abbrev TWV_Q_CAP_Q : Fld := ⟨14813320, 5⟩
/-- TWV_CAP_WR.N, 0x071048 bits [7:0], RO, reset 0: Captures stored, modulo 256 -/
abbrev TWV_CAP_WR_N : Fld := ⟨14813440, 8⟩
/-- TWV_CAP_RD.N, 0x07104C bits [7:0], RW, reset 0: Captures read, modulo 256 (R339) -/
abbrev TWV_CAP_RD_N : Fld := ⟨14813568, 8⟩
/-- TWV_CNT_GAP.N, 0x071050 bits [31:0], RO, reset 0: Gaps; saturates -/
abbrev TWV_CNT_GAP_N : Fld := ⟨14813696, 32⟩
/-- TWV_CNT_CAPDROP.N, 0x071054 bits [31:0], RO, reset 0: Captures not stored; saturates -/
abbrev TWV_CNT_CAPDROP_N : Fld := ⟨14813824, 32⟩
/-- TWV_CNT_PAIRSKIP.N, 0x071058 bits [31:0], RO, reset 0: Pairs refused; saturates -/
abbrev TWV_CNT_PAIRSKIP_N : Fld := ⟨14813952, 32⟩
/-- TWV_CMD.CNT_CLR, 0x07105C bits [0:0], WO, reset 0: Clear the three counters -/
abbrev TWV_CMD_CNT_CLR : Fld := ⟨14814080, 1⟩
/-- TWV_DETk_CFG.EN, 0x071200 + … bits [31:31], RWS, reset 0: Detector k enabled (k = 0–7) -/
abbrev TWV_DET_CFG_EN (n : Nat) : Fld := ⟨(0x71200 + 0x10 * n) * 32 + 31, 1⟩
/-- TWV_DETk_CFG.CH, 0x071200 + … bits [29:24], RWS, reset 0: Channel, ISLOT 0x00–0x3F -/
abbrev TWV_DET_CFG_CH (n : Nat) : Fld := ⟨(0x71200 + 0x10 * n) * 32 + 24, 6⟩
/-- TWV_DETk_CFG.D, 0x071200 + … bits [19:16], RWS, reset 2: Difference span, samples, 1–8 -/
abbrev TWV_DET_CFG_D (n : Nat) : Fld := ⟨(0x71200 + 0x10 * n) * 32 + 16, 4⟩
/-- TWV_DETk_CFG.THR, 0x071200 + … bits [15:0], RWS, reset 0: Threshold, codes; 0 refused -/
abbrev TWV_DET_CFG_THR (n : Nat) : Fld := ⟨(0x71200 + 0x10 * n) * 32, 16⟩
/-- TWV_DETk_HOLD.US, 0x071204 + … bits [15:0], RWS, reset 0: Hold-off, µs; 0 = none -/
abbrev TWV_DET_HOLD_US (n : Nat) : Fld := ⟨(0x71204 + 0x10 * n) * 32, 16⟩
/-- TWV_DETk_DLY.DLY, 0x071208 + … bits [15:0], RWS, reset 0: Sensor delay, signed, 0.1 ns -/
abbrev TWV_DET_DLY_DLY (n : Nat) : Fld := ⟨(0x71208 + 0x10 * n) * 32, 16⟩
/-- TWV_DETk_LAST.POL, 0x07120C + … bits [31:31], RO, reset 0: Last polarity -/
abbrev TWV_DET_LAST_POL (n : Nat) : Fld := ⟨(0x7120c + 0x10 * n) * 32 + 31, 1⟩
/-- TWV_DETk_LAST.PEAK, 0x07120C + … bits [15:0], RO, reset 0: Last P, codes -/
abbrev TWV_DET_LAST_PEAK (n : Nat) : Fld := ⟨(0x7120c + 0x10 * n) * 32, 16⟩
/-- TWV_SEGs_CFG.EN, 0x071300 + … bits [31:31], RWS, reset 0: Segment s enabled (s = 0–7) -/
abbrev TWV_SEG_CFG_EN (n : Nat) : Fld := ⟨(0x71300 + 0x10 * n) * 32 + 31, 1⟩
/-- TWV_SEGs_CFG.END, 0x071300 + … bits [30:30], RWS, reset 0: This node is 0 = end A, 1 = end B -/
abbrev TWV_SEG_CFG_END (n : Nat) : Fld := ⟨(0x71300 + 0x10 * n) * 32 + 30, 1⟩
/-- TWV_SEGs_CFG.DET, 0x071300 + … bits [26:24], RWS, reset 0: Local detector -/
abbrev TWV_SEG_CFG_DET (n : Nat) : Fld := ⟨(0x71300 + 0x10 * n) * 32 + 24, 3⟩
/-- TWV_SEGs_CFG.SEG_ID, 0x071300 + … bits [15:0], RWS, reset 0: Plant-wide segment identity -/
abbrev TWV_SEG_CFG_SEG_ID (n : Nat) : Fld := ⟨(0x71300 + 0x10 * n) * 32, 16⟩
/-- TWV_SEGs_PART.ADDR, 0x071304 + … bits [11:0], RWS, reset 0: Partner node -/
abbrev TWV_SEG_PART_ADDR (n : Nat) : Fld := ⟨(0x71304 + 0x10 * n) * 32, 12⟩
/-- TWV_SEGs_WIN.NS, 0x071308 + … bits [23:0], RWS, reset 0: Pairing window, ns; 0 refused -/
abbrev TWV_SEG_WIN_NS (n : Nat) : Fld := ⟨(0x71308 + 0x10 * n) * 32, 24⟩
/-- TWV_SEGs_DT.DT, 0x07130C + … bits [31:0], RO, reset 0: Last Δt, ns, slot-word format -/
abbrev TWV_SEG_DT_DT (n : Nat) : Fld := ⟨(0x7130c + 0x10 * n) * 32, 32⟩
/-- PMP_CTRL.STOP_BRAKE, 0x080008 bits [3:3], RW, reset 0: Brake low sides on stop (R353) -/
abbrev PMP_CTRL_STOP_BRAKE : Fld := ⟨16777475, 1⟩
/-- PMP_CTRL.AUTO_RESTART, 0x080008 bits [2:2], RW, reset 0: Leave STALL faults automatically (R362) -/
abbrev PMP_CTRL_AUTO_RESTART : Fld := ⟨16777474, 1⟩
/-- PMP_CTRL.RUN, 0x080008 bits [1:1], RW, reset 0: Run request -/
abbrev PMP_CTRL_RUN : Fld := ⟨16777473, 1⟩
/-- PMP_CTRL.ENABLE, 0x080008 bits [0:0], RW, reset 0: Pump drive enabled -/
abbrev PMP_CTRL_ENABLE : Fld := ⟨16777472, 1⟩
/-- PMP_STATUS.UNAVAIL, 0x08000C bits [31:31], RO, reset 0: Die-to-die path failed (R361) -/
abbrev PMP_STATUS_UNAVAIL : Fld := ⟨16777631, 1⟩
/-- PMP_STATUS.OC_UNPROT, 0x08000C bits [30:30], RO, reset 0: Limit or OC comparator not acting (R359) -/
abbrev PMP_STATUS_OC_UNPROT : Fld := ⟨16777630, 1⟩
/-- PMP_STATUS.VM_OV, 0x08000C bits [29:29], RO, reset 0: Over-voltage action in force -/
abbrev PMP_STATUS_VM_OV : Fld := ⟨16777629, 1⟩
/-- PMP_STATUS.VM_UV, 0x08000C bits [28:28], RO, reset 0: VM_PUMP below 10.0 V -/
abbrev PMP_STATUS_VM_UV : Fld := ⟨16777628, 1⟩
/-- PMP_STATUS.BOOT_HOLD, 0x08000C bits [27:25], RO, reset 0: High side C, B, A held (R357) -/
abbrev PMP_STATUS_BOOT_HOLD : Fld := ⟨16777625, 3⟩
/-- PMP_STATUS.CAUSE, 0x08000C bits [11:8], RO, reset 0: 0 = none, 1 = OC, 2 = OV, 3 = START_FAIL, 4 = STALL, 5 = BOOT, 6 = WDOG, 7 = DIE_LINK, 8 = VM_UV -/
abbrev PMP_STATUS_CAUSE : Fld := ⟨16777608, 4⟩
/-- PMP_STATUS.STEP, 0x08000C bits [6:4], RO, reset 0: Commutation step 0–5 -/
abbrev PMP_STATUS_STEP : Fld := ⟨16777604, 3⟩
/-- PMP_STATUS.STATE, 0x08000C bits [2:0], RO, reset 0: 0 = OFF, 1 = ALIGN, 2 = RAMP, 3 = RUN, 4 = BRAKE, 5 = FAULT -/
abbrev PMP_STATUS_STATE : Fld := ⟨16777600, 3⟩
/-- PMP_STICKY.CFG_REJECT, 0x080018 bits [8:8], W1C, reset 0: Commit refused -/
abbrev PMP_STICKY_CFG_REJECT : Fld := ⟨16777992, 1⟩
/-- PMP_STICKY.CLR_REJECT, 0x080018 bits [7:7], W1C, reset 0: CLEAR refused (R362) -/
abbrev PMP_STICKY_CLR_REJECT : Fld := ⟨16777991, 1⟩
/-- PMP_STICKY.WDOG, 0x080018 bits [6:6], W1C, reset 0: Command watchdog expired -/
abbrev PMP_STICKY_WDOG : Fld := ⟨16777990, 1⟩
/-- PMP_STICKY.STALL, 0x080018 bits [5:5], W1C, reset 0: Stall detected -/
abbrev PMP_STICKY_STALL : Fld := ⟨16777989, 1⟩
/-- PMP_STICKY.START_FAIL, 0x080018 bits [4:4], W1C, reset 0: Start attempts exhausted (R351) -/
abbrev PMP_STICKY_START_FAIL : Fld := ⟨16777988, 1⟩
/-- PMP_STICKY.OV, 0x080018 bits [3:3], W1C, reset 0: VM_PUMP over-voltage -/
abbrev PMP_STICKY_OV : Fld := ⟨16777987, 1⟩
/-- PMP_STICKY.OC, 0x080018 bits [2:2], W1C, reset 0: Over-current (R359) -/
abbrev PMP_STICKY_OC : Fld := ⟨16777986, 1⟩
/-- PMP_STICKY.SHOOT_BLOCK, 0x080018 bits [1:1], W1C, reset 0: Interlock acted (R360) -/
abbrev PMP_STICKY_SHOOT_BLOCK : Fld := ⟨16777985, 1⟩
/-- PMP_STICKY.BOOT_UV, 0x080018 bits [0:0], W1C, reset 0: Bootstrap hold (R357) -/
abbrev PMP_STICKY_BOOT_UV : Fld := ⟨16777984, 1⟩
/-- PMP_PWM.PER, 0x080040 bits [31:16], RWS, reset 7,813: Period, coarse ticks; 0 = no PWM -/
abbrev PMP_PWM_PER : Fld := ⟨16779280, 16⟩
/-- PMP_PWM.DMAX, 0x080040 bits [15:8], RWS, reset 250: Full-on threshold, 1/256 -/
abbrev PMP_PWM_DMAX : Fld := ⟨16779272, 8⟩
/-- PMP_PWM.SYNC, 0x080040 bits [0:0], RWS, reset 1: Synchronous low side in the off-time -/
abbrev PMP_PWM_SYNC : Fld := ⟨16779264, 1⟩
/-- PMP_DT.DT, 0x080044 bits [13:0], RWS, reset 5,000: Dead time, 100 ps, 0–16,000 -/
abbrev PMP_DT_DT : Fld := ⟨16779392, 14⟩
/-- PMP_BOOT.REFRESH_N, 0x080048 bits [31:24], RWS, reset 16: Periods per refresh; 0 = none -/
abbrev PMP_BOOT_REFRESH_N : Fld := ⟨16779544, 8⟩
/-- PMP_BOOT.REF_W, 0x080048 bits [15:0], RWS, reset 4,000: Refresh pulse, 100 ps -/
abbrev PMP_BOOT_REF_W : Fld := ⟨16779520, 16⟩
/-- PMP_MOTOR.PP, 0x08004C bits [27:24], RWS, reset 4: Pole pairs; 0 refused -/
abbrev PMP_MOTOR_PP : Fld := ⟨16779672, 4⟩
/-- PMP_MOTOR.ZC_FILT, 0x08004C bits [19:16], RWS, reset 2: Samples per crossing; 0 refused -/
abbrev PMP_MOTOR_ZC_FILT : Fld := ⟨16779664, 4⟩
/-- PMP_MOTOR.ADV, 0x08004C bits [15:8], RWS, reset 128: Commutation delay, 1/256 of T60 -/
abbrev PMP_MOTOR_ADV : Fld := ⟨16779656, 8⟩
/-- PMP_MOTOR.ZC_BLANK, 0x08004C bits [7:0], RWS, reset 64: Blanking, 1/256 of T60 -/
abbrev PMP_MOTOR_ZC_BLANK : Fld := ⟨16779648, 8⟩
/-- PMP_ALIGN.MS, 0x080050 bits [31:16], RWS, reset 200: Align time, ms; 0 = none -/
abbrev PMP_ALIGN_MS : Fld := ⟨16779792, 16⟩
/-- PMP_ALIGN.DUTY, 0x080050 bits [7:0], RWS, reset 26: Align duty, 1/256 -/
abbrev PMP_ALIGN_DUTY : Fld := ⟨16779776, 8⟩
/-- PMP_RAMP.ACC, 0x080054 bits [31:16], RWS, reset 200: Acceleration, electrical Hz/s -/
abbrev PMP_RAMP_ACC : Fld := ⟨16779920, 16⟩
/-- PMP_RAMP.F0, 0x080054 bits [15:8], RWS, reset 5: Start frequency, Hz -/
abbrev PMP_RAMP_F0 : Fld := ⟨16779912, 8⟩
/-- PMP_RAMP.KVF, 0x080054 bits [7:0], RWS, reset 8: Duty slope, 1/4096 per Hz -/
abbrev PMP_RAMP_KVF : Fld := ⟨16779904, 8⟩
/-- PMP_HAND.FMAX, 0x080058 bits [31:16], RWS, reset 80: Failed-start frequency, Hz -/
abbrev PMP_HAND_FMAX : Fld := ⟨16780048, 16⟩
/-- PMP_HAND.F_HAND, 0x080058 bits [15:0], RWS, reset 40: Handover frequency, Hz -/
abbrev PMP_HAND_F_HAND : Fld := ⟨16780032, 16⟩
/-- PMP_LIMIT.ILIM_EN, 0x08005C bits [31:31], RWS, reset 0: Cycle-by-cycle limit (R352) -/
abbrev PMP_LIMIT_ILIM_EN : Fld := ⟨16780191, 1⟩
/-- PMP_LIMIT.ILIM_RUN, 0x08005C bits [30:30], RWS, reset 0: Limit also in RUN -/
abbrev PMP_LIMIT_ILIM_RUN : Fld := ⟨16780190, 1⟩
/-- PMP_LIMIT.ILIM_CMP, 0x08005C bits [29:24], RWS, reset 0: Limit comparator C00–C63 -/
abbrev PMP_LIMIT_ILIM_CMP : Fld := ⟨16780184, 6⟩
/-- PMP_LIMIT.OC_EN, 0x08005C bits [23:23], RWS, reset 0: Over-current fault (R359) -/
abbrev PMP_LIMIT_OC_EN : Fld := ⟨16780183, 1⟩
/-- PMP_LIMIT.OC_CMP, 0x08005C bits [21:16], RWS, reset 0: Over-current comparator -/
abbrev PMP_LIMIT_OC_CMP : Fld := ⟨16780176, 6⟩
/-- PMP_LIMIT.RETRIES, 0x08005C bits [15:8], RWS, reset 3: Start retries; 0 = none -/
abbrev PMP_LIMIT_RETRIES : Fld := ⟨16780168, 8⟩
/-- PMP_TIMEOUT.STALL_MS, 0x080060 bits [31:16], RWS, reset 100: Stall time, ms; 0 = none -/
abbrev PMP_TIMEOUT_STALL_MS : Fld := ⟨16780304, 16⟩
/-- PMP_TIMEOUT.WDOG_MS, 0x080060 bits [15:0], RWS, reset 500: Command watchdog, ms; 0 = none -/
abbrev PMP_TIMEOUT_WDOG_MS : Fld := ⟨16780288, 16⟩
/-- PMP_COAST.COAST_MS, 0x080064 bits [31:16], RWS, reset 1,000: Coast before a start, ms -/
abbrev PMP_COAST_COAST_MS : Fld := ⟨16780432, 16⟩
/-- PMP_COAST.BRAKE_MS, 0x080064 bits [15:0], RWS, reset 500: Stop brake, ms -/
abbrev PMP_COAST_BRAKE_MS : Fld := ⟨16780416, 16⟩
/-- PMP_VM.OV_HI, 0x080068 bits [31:24], RWS, reset 240: Over-voltage, 0.25 V (60.0 V) -/
abbrev PMP_VM_OV_HI : Fld := ⟨16780568, 8⟩
/-- PMP_VM.OV_LO, 0x080068 bits [23:16], RWS, reset 224: Release, 0.25 V (56.0 V) -/
abbrev PMP_VM_OV_LO : Fld := ⟨16780560, 8⟩
/-- PMP_VM.OV_ACT, 0x080068 bits [8:8], RWS, reset 1: 0 = all off, 1 = low sides on -/
abbrev PMP_VM_OV_ACT : Fld := ⟨16780552, 1⟩
/-- PMP_CMD.CLEAR, 0x08006C bits [0:0], WO, reset 0: Leave FAULT (R362) -/
abbrev PMP_CMD_CLEAR : Fld := ⟨16780672, 1⟩
/-- PMP_ISRC.EN, 0x080070 bits [31:31], RWS, reset 0: Current source slot enabled -/
abbrev PMP_ISRC_EN : Fld := ⟨16780831, 1⟩
/-- PMP_ISRC.SLOT, 0x080070 bits [5:0], RWS, reset 0: ISLOT 0x00–0x3F -/
abbrev PMP_ISRC_SLOT : Fld := ⟨16780800, 6⟩
/-- PMP_SPEED.RPM, 0x080074 bits [15:0], RO, reset 0: Mechanical speed, rpm -/
abbrev PMP_SPEED_RPM : Fld := ⟨16780928, 16⟩
/-- PMP_T60.TICKS, 0x080078 bits [31:0], RO, reset 0: Last T60, coarse ticks -/
abbrev PMP_T60_TICKS : Fld := ⟨16781056, 32⟩
/-- PMP_ATTEMPTS.N, 0x08007C bits [7:0], RO, reset 0: Start attempts since the last 10 s in RUN -/
abbrev PMP_ATTEMPTS_N : Fld := ⟨16781184, 8⟩
/-- PMP_CNT_BOOT.N, 0x080080 bits [31:0], RO, reset 0: Bootstrap holds; saturates -/
abbrev PMP_CNT_BOOT_N : Fld := ⟨16781312, 32⟩
/-- PAR_CTRL.ENABLE, 0x090008 bits [0:0], RW, reset 1: Reads 1; a write of 0 is ignored -/
abbrev PAR_CTRL_ENABLE : Fld := ⟨18874624, 1⟩
/-- PAR_STATUS.PERMIT, 0x09000C bits [31:24], RO, reset 0: Input x permits (R370) -/
abbrev PAR_STATUS_PERMIT : Fld := ⟨18874776, 8⟩
/-- PAR_STATUS.DISC, 0x09000C bits [23:16], RO, reset 0: Discrepancy timer running, input x -/
abbrev PAR_STATUS_DISC : Fld := ⟨18874768, 8⟩
/-- PAR_STATUS.CH2_UNAVAIL, 0x09000C bits [11:11], RO, reset 0: Channel 2 fields unavailable (R366) -/
abbrev PAR_STATUS_CH2_UNAVAIL : Fld := ⟨18874763, 1⟩
/-- PAR_STATUS.RESET_HIGH, 0x09000C bits [10:10], RO, reset 0: RESET_SAFE high -/
abbrev PAR_STATUS_RESET_HIGH : Fld := ⟨18874762, 1⟩
/-- PAR_STATUS.INH, 0x09000C bits [9:9], RO, reset 1: Global inhibit asserted -/
abbrev PAR_STATUS_INH : Fld := ⟨18874761, 1⟩
/-- PAR_STATUS.OUT_ON, 0x09000C bits [8:8], RO, reset 0: Both safe outputs on -/
abbrev PAR_STATUS_OUT_ON : Fld := ⟨18874760, 1⟩
/-- PAR_STATUS.STATE, 0x09000C bits [2:0], RO, reset 0: 0 = INIT, 1 = STOPPED, 2 = RUN, 3 = FAULT -/
abbrev PAR_STATUS_STATE : Fld := ⟨18874752, 3⟩
/-- PAR_STICKY.OPEN_LOAD, 0x090018 bits [7:7], W1C, reset 0: Load open while off (R374) -/
abbrev PAR_STICKY_OPEN_LOAD : Fld := ⟨18875143, 1⟩
/-- PAR_STICKY.CH2_UNAVAIL, 0x090018 bits [6:6], W1C, reset 0: DIE_LINK seen (R366) -/
abbrev PAR_STICKY_CH2_UNAVAIL : Fld := ⟨18875142, 1⟩
/-- PAR_STICKY.RESET_DONE, 0x090018 bits [5:5], W1C, reset 0: Reset accepted (R376) -/
abbrev PAR_STICKY_RESET_DONE : Fld := ⟨18875141, 1⟩
/-- PAR_STICKY.CFG_REJECT, 0x090018 bits [4:4], W1C, reset 0: Commit refused (R380) -/
abbrev PAR_STICKY_CFG_REJECT : Fld := ⟨18875140, 1⟩
/-- PAR_STICKY.RESET_REJECT, 0x090018 bits [3:3], W1C, reset 0: Reset pulse refused -/
abbrev PAR_STICKY_RESET_REJECT : Fld := ⟨18875139, 1⟩
/-- PAR_STICKY.RESET_STUCK, 0x090018 bits [2:2], W1C, reset 0: RESET_SAFE high over 3 s (R377) -/
abbrev PAR_STICKY_RESET_STUCK : Fld := ⟨18875138, 1⟩
/-- PAR_STICKY.FAULT, 0x090018 bits [1:1], W1C, reset 0: FAULT entered -/
abbrev PAR_STICKY_FAULT : Fld := ⟨18875137, 1⟩
/-- PAR_STICKY.DEMAND, 0x090018 bits [0:0], W1C, reset 0: Demand in RUN -/
abbrev PAR_STICKY_DEMAND : Fld := ⟨18875136, 1⟩
/-- PAR_FAULT.SW, 0x090040 bits [31:28], RO, reset 0: Switch: [31] B_LS, [30] B_HS, [29] A_LS, [28] A_HS -/
abbrev PAR_FAULT_SW : Fld := ⟨18876444, 4⟩
/-- PAR_FAULT.IN, 0x090040 bits [23:16], RO, reset 0: Input x in DISC or TPS -/
abbrev PAR_FAULT_IN : Fld := ⟨18876432, 8⟩
/-- PAR_FAULT.CAUSE, 0x090040 bits [9:0], RO, reset 0: [9] OVERLOAD, [8] SELFTEST, [7] SUPPLY, [6] CFG_CRC, [5] CLOCK, [4] XCMP, [3] DARK, [2] READBACK, [1] TPS, [0] DISC -/
abbrev PAR_FAULT_CAUSE : Fld := ⟨18876416, 10⟩
/-- PAR_CFG.DARK_S, 0x090044 bits [23:16], RWS, reset 30: Dark-test interval, s; 0 = none -/
abbrev PAR_CFG_DARK_S : Fld := ⟨18876560, 8⟩
/-- PAR_CFG.DARK_W, 0x090044 bits [15:8], RWS, reset 20: Dark-test width, 10 µs, 5–50 -/
abbrev PAR_CFG_DARK_W : Fld := ⟨18876552, 8⟩
/-- PAR_CFG.COMPAT, 0x090044 bits [0:0], RWS, reset 0: VG1206 compatibility mode (R379) -/
abbrev PAR_CFG_COMPAT : Fld := ⟨18876544, 1⟩
/-- PAR_TPS_CTRL.EN, 0x090048 bits [3:0], RWS, reset 0: TPSn driven; ch2 -/
abbrev PAR_TPS_CTRL_EN : Fld := ⟨18876672, 4⟩
/-- PAR_RESP_TIME.US, 0x09004C bits [31:0], RO, reset 0: Input-to-output time, µs (R378, R379) -/
abbrev PAR_RESP_TIME_US : Fld := ⟨18876800, 32⟩
/-- PAR_RESP_INH.US, 0x090050 bits [31:0], RO, reset 0: Input-to-inhibit time, µs -/
abbrev PAR_RESP_INH_US : Fld := ⟨18876928, 32⟩
/-- PAR_RESP_IN.COMPAT, 0x090054 bits [4:4], RO, reset 0: Time from the compatibility table -/
abbrev PAR_RESP_IN_COMPAT : Fld := ⟨18877060, 1⟩
/-- PAR_RESP_IN.VALID, 0x090054 bits [3:3], RO, reset 0: At least one input enabled -/
abbrev PAR_RESP_IN_VALID : Fld := ⟨18877059, 1⟩
/-- PAR_RESP_IN.IN, 0x090054 bits [2:0], RO, reset 0: Input that sets the time -/
abbrev PAR_RESP_IN_IN : Fld := ⟨18877056, 3⟩
/-- PAR_CRC1.CRC, 0x090058 bits [31:0], RO, reset 0: Configuration CRC-32, channel 1 -/
abbrev PAR_CRC1_CRC : Fld := ⟨18877184, 32⟩
/-- PAR_CRC2.CRC, 0x09005C bits [31:0], RO, reset 0: Configuration CRC-32; ch2 -/
abbrev PAR_CRC2_CRC : Fld := ⟨18877312, 32⟩
/-- PAR_CNT_XCMP.N, 0x090060 bits [31:0], RO, reset 0: Single-frame differences; saturates -/
abbrev PAR_CNT_XCMP_N : Fld := ⟨18877440, 32⟩
/-- PAR_CLK2.KHZ, 0x090064 bits [15:0], RO, reset 0: Channel 2 clock measured by channel 1, kHz -/
abbrev PAR_CLK2_KHZ : Fld := ⟨18877568, 16⟩
/-- PAR_PINS.RAW, 0x090068 bits [31:0], RO, reset 0: SINxA and SINxB in [7:0] and [15:8] (channel 1); [23:16] and [31:24] (ch2) -/
abbrev PAR_PINS_RAW : Fld := ⟨18877696, 32⟩
/-- PAR_VSAFE.V, 0x09006C bits [9:0], RO, reset 0: VSAFE, 0.1 V; ch2 -/
abbrev PAR_VSAFE_V : Fld := ⟨18877824, 10⟩
/-- PAR_RESET_LAST.MS, 0x090070 bits [15:0], RO, reset 0: Last reset pulse, ms; saturates -/
abbrev PAR_RESET_LAST_MS : Fld := ⟨18877952, 16⟩
/-- PAR_SINx_CFG.EN, 0x090200 + … bits [31:31], RWS, reset 0: Input x enabled (x = 0–7) -/
abbrev PAR_SIN_CFG_EN (n : Nat) : Fld := ⟨(0x90200 + 4 * n) * 32 + 31, 1⟩
/-- PAR_SINx_CFG.MODE, 0x090200 + … bits [30:30], RWS, reset 0: 0 = equivalent, 1 = antivalent -/
abbrev PAR_SIN_CFG_MODE (n : Nat) : Fld := ⟨(0x90200 + 4 * n) * 32 + 30, 1⟩
/-- PAR_SINx_CFG.RESTART, 0x090200 + … bits [29:29], RWS, reset 0: Automatic restart (R368) -/
abbrev PAR_SIN_CFG_RESTART (n : Nat) : Fld := ⟨(0x90200 + 4 * n) * 32 + 29, 1⟩
/-- PAR_SINx_CFG.TPSB_EN, 0x090200 + … bits [23:23], RWS, reset 0: SINxB fed from TPS_B -/
abbrev PAR_SIN_CFG_TPSB_EN (n : Nat) : Fld := ⟨(0x90200 + 4 * n) * 32 + 23, 1⟩
/-- PAR_SINx_CFG.TPS_B, 0x090200 + … bits [21:20], RWS, reset 0: TPS0–TPS3 -/
abbrev PAR_SIN_CFG_TPS_B (n : Nat) : Fld := ⟨(0x90200 + 4 * n) * 32 + 20, 2⟩
/-- PAR_SINx_CFG.TPSA_EN, 0x090200 + … bits [19:19], RWS, reset 0: SINxA fed from TPS_A -/
abbrev PAR_SIN_CFG_TPSA_EN (n : Nat) : Fld := ⟨(0x90200 + 4 * n) * 32 + 19, 1⟩
/-- PAR_SINx_CFG.TPS_A, 0x090200 + … bits [17:16], RWS, reset 0: TPS0–TPS3 -/
abbrev PAR_SIN_CFG_TPS_A (n : Nat) : Fld := ⟨(0x90200 + 4 * n) * 32 + 16, 2⟩
/-- PAR_SINx_CFG.DISC, 0x090200 + … bits [15:8], RWS, reset 0: Discrepancy time, ms; 0 refused when enabled -/
abbrev PAR_SIN_CFG_DISC (n : Nat) : Fld := ⟨(0x90200 + 4 * n) * 32 + 8, 8⟩
/-- PAR_SINx_CFG.FILT, 0x090200 + … bits [7:0], RWS, reset 0: Filter, 0.1 ms; 0 = none -/
abbrev PAR_SIN_CFG_FILT (n : Nat) : Fld := ⟨(0x90200 + 4 * n) * 32, 8⟩
/-- BUT_CTRL.AUTO_REVERT, 0x011008 bits [2:2], RW, reset 1: Primary requests after the hold time (R396) -/
abbrev BUT_CTRL_AUTO_REVERT : Fld := ⟨2228482, 1⟩
/-- BUT_CTRL.ROLE, 0x011008 bits [1:1], RW, reset 0: 0 = primary, 1 = secondary -/
abbrev BUT_CTRL_ROLE : Fld := ⟨2228481, 1⟩
/-- BUT_CTRL.ENABLE, 0x011008 bits [0:0], RW, reset 0: Buttress enabled -/
abbrev BUT_CTRL_ENABLE : Fld := ⟨2228480, 1⟩
/-- BUT_STATUS.AGE, 0x01100C bits [23:16], RO, reset 0: Age of the newest class-0 set, periods; saturates -/
abbrev BUT_STATUS_AGE : Fld := ⟨2228624, 8⟩
/-- BUT_STATUS.CODE, 0x01100C bits [9:8], RO, reset 0: HEALTH: 0 = stopped, 1 = REQUEST, 2 = OK, 3 = NOT_READY -/
abbrev BUT_STATUS_CODE : Fld := ⟨2228616, 2⟩
/-- BUT_STATUS.MIRROR_LOST, 0x01100C bits [7:7], RO, reset 0: R392 -/
abbrev BUT_STATUS_MIRROR_LOST : Fld := ⟨2228615, 1⟩
/-- BUT_STATUS.LINK_FAULT, 0x01100C bits [6:6], RO, reset 0: Mirroring stopped (R391) -/
abbrev BUT_STATUS_LINK_FAULT : Fld := ⟨2228614, 1⟩
/-- BUT_STATUS.DRV_EN, 0x01100C bits [5:5], RO, reset 0: DRV_EN pin -/
abbrev BUT_STATUS_DRV_EN : Fld := ⟨2228613, 1⟩
/-- BUT_STATUS.GRANT, 0x01100C bits [4:4], RO, reset 0: ARB_GRANT accepted -/
abbrev BUT_STATUS_GRANT : Fld := ⟨2228612, 1⟩
/-- BUT_STATUS.READY, 0x01100C bits [3:3], RO, reset 0: R387 -/
abbrev BUT_STATUS_READY : Fld := ⟨2228611, 1⟩
/-- BUT_STATUS.STATE, 0x01100C bits [2:0], RO, reset 0: State code -/
abbrev BUT_STATUS_STATE : Fld := ⟨2228608, 3⟩
/-- BUT_STICKY.PARTNER_LOST, 0x011018 bits [9:9], W1C, reset 0: L4 lost after readiness (R387) -/
abbrev BUT_STICKY_PARTNER_LOST : Fld := ⟨2229001, 1⟩
/-- BUT_STICKY.MIRROR_LOST, 0x011018 bits [8:8], W1C, reset 0: R392 -/
abbrev BUT_STICKY_MIRROR_LOST : Fld := ⟨2229000, 1⟩
/-- BUT_STICKY.CMD_REJECT, 0x011018 bits [7:7], W1C, reset 0: REQUEST refused (R388) -/
abbrev BUT_STICKY_CMD_REJECT : Fld := ⟨2228999, 1⟩
/-- BUT_STICKY.CFG_REJECT, 0x011018 bits [6:6], W1C, reset 0: Mirror commit refused (R394) -/
abbrev BUT_STICKY_CFG_REJECT : Fld := ⟨2228998, 1⟩
/-- BUT_STICKY.GRANT_NOT_READY, 0x011018 bits [5:5], W1C, reset 0: Grant while not ready -/
abbrev BUT_STICKY_GRANT_NOT_READY : Fld := ⟨2228997, 1⟩
/-- BUT_STICKY.STALE, 0x011018 bits [4:4], W1C, reset 0: Takeover at age 3 or more (R397) -/
abbrev BUT_STICKY_STALE : Fld := ⟨2228996, 1⟩
/-- BUT_STICKY.LINK_FAULT, 0x011018 bits [3:3], W1C, reset 0: Retries exhausted (R391) -/
abbrev BUT_STICKY_LINK_FAULT : Fld := ⟨2228995, 1⟩
/-- BUT_STICKY.FAILED, 0x011018 bits [2:2], W1C, reset 0: FAILED entered (R386) -/
abbrev BUT_STICKY_FAILED : Fld := ⟨2228994, 1⟩
/-- BUT_STICKY.RELEASE, 0x011018 bits [1:1], W1C, reset 0: Grant released (R398) -/
abbrev BUT_STICKY_RELEASE : Fld := ⟨2228993, 1⟩
/-- BUT_STICKY.TAKEOVER, 0x011018 bits [0:0], W1C, reset 0: ACTIVE entered (R397) -/
abbrev BUT_STICKY_TAKEOVER : Fld := ⟨2228992, 1⟩
/-- BUT_HOLD.S, 0x011040 bits [15:0], RW, reset 10: Hold time before reversion, s; 0 = request as soon as ready -/
abbrev BUT_HOLD_S : Fld := ⟨2230272, 16⟩
/-- BUT_FAULT.CAUSE, 0x011044 bits [6:0], RO, reset 0: Internal fault causes (R386) -/
abbrev BUT_FAULT_CAUSE : Fld := ⟨2230400, 7⟩
/-- BUT_CMD.REQUEST, 0x011048 bits [0:0], WO, reset 0: Show REQUEST for 100 ms (R388) -/
abbrev BUT_CMD_REQUEST : Fld := ⟨2230528, 1⟩
/-- BUT_CRC.CRC, 0x01104C bits [31:0], RO, reset 0: Own pair check word -/
abbrev BUT_CRC_CRC : Fld := ⟨2230656, 32⟩
/-- BUT_PCRC.CRC, 0x011050 bits [31:0], RO, reset 0: Partner's pair check word -/
abbrev BUT_PCRC_CRC : Fld := ⟨2230784, 32⟩
/-- BUT_ALIGN.NS, 0x011054 bits [31:0], RO, reset 0: Partner's sample instant minus own, signed, ns -/
abbrev BUT_ALIGN_NS : Fld := ⟨2230912, 32⟩
/-- BUT_CNT_RETRY.N, 0x011058 bits [31:0], RO, reset 0: Mirror retries; saturates -/
abbrev BUT_CNT_RETRY_N : Fld := ⟨2231040, 32⟩
/-- BUT_CNT_TAKEOVER.N, 0x01105C bits [31:0], RO, reset 0: Takeovers; saturates -/
abbrev BUT_CNT_TAKEOVER_N : Fld := ⟨2231168, 32⟩
/-- BUT_ARB_CTRL.INH, 0x011080 bits [1:1], RW, reset 1: Reversion inhibit, ORed with TRIP13 -/
abbrev BUT_ARB_CTRL_INH : Fld := ⟨2232321, 1⟩
/-- BUT_ARB_CTRL.EN, 0x011080 bits [0:0], RW, reset 0: Arbiter function (R390) -/
abbrev BUT_ARB_CTRL_EN : Fld := ⟨2232320, 1⟩
/-- BUT_ARB_STATUS.CODE_S, 0x011084 bits [7:6], RO, reset 0: Secondary code, as CODE -/
abbrev BUT_ARB_STATUS_CODE_S : Fld := ⟨2232454, 2⟩
/-- BUT_ARB_STATUS.CODE_P, 0x011084 bits [5:4], RO, reset 0: Primary code -/
abbrev BUT_ARB_STATUS_CODE_P : Fld := ⟨2232452, 2⟩
/-- BUT_ARB_STATUS.GRANT, 0x011084 bits [1:0], RO, reset 0: 0 = none, 1 = primary, 2 = secondary -/
abbrev BUT_ARB_STATUS_GRANT : Fld := ⟨2232448, 2⟩
/-- BUT_ARB_BBM.US, 0x011088 bits [7:0], RW, reset 1: Gap before a grant, µs; a write of 0 is ignored -/
abbrev BUT_ARB_BBM_US : Fld := ⟨2232576, 8⟩
/-- BUT_MIRe.EN, 0x011200 + … bits [31:31], RWS, reset 0: Entry e mirrored (e = 0–31) -/
abbrev BUT_MIR_EN (n : Nat) : Fld := ⟨(0x11200 + 4 * n) * 32 + 31, 1⟩
/-- BUT_MIRe.ENG, 0x011200 + … bits [30:30], RWS, reset 0: 0 = KE0 (class-0 set), 1 = KE1 (class-1 set) -/
abbrev BUT_MIR_ENG (n : Nat) : Fld := ⟨(0x11200 + 4 * n) * 32 + 30, 1⟩
/-- BUT_MIRe.RATE_EN, 0x011200 + … bits [29:29], RWS, reset 0: Rate stage carried -/
abbrev BUT_MIR_RATE_EN (n : Nat) : Fld := ⟨(0x11200 + 4 * n) * 32 + 29, 1⟩
/-- BUT_MIRe.STAGE, 0x011200 + … bits [28:22], RWS, reset 0: State stage -/
abbrev BUT_MIR_STAGE (n : Nat) : Fld := ⟨(0x11200 + 4 * n) * 32 + 22, 7⟩
/-- BUT_MIRe.RATE, 0x011200 + … bits [21:15], RWS, reset 0: Rate stage -/
abbrev BUT_MIR_RATE (n : Nat) : Fld := ⟨(0x11200 + 4 * n) * 32 + 15, 7⟩

end Sys2Proof.F
end

