-- ==== Sys2Proof/Machine/RegMapD.lean ====
section
/-! DEFINITION. The register fields of the manual (Bedrock, host, configuration, monitors, start-up): one name per field, taken from the
register tables of spec/. A field's key is 32 times its byte address plus its lowest bit. -/

namespace Sys2Proof.F

/-- BED_CTRL.VBAT_EN, 0x0A0008 bits [2:2], RW, reset 1: VBAT path permitted (R405) -/
abbrev BED_CTRL_VBAT_EN : Fld := ⟨20971778, 1⟩
/-- BED_CTRL.HARV_EN, 0x0A0008 bits [1:1], RW, reset 1: Harvest permitted (R408) -/
abbrev BED_CTRL_HARV_EN : Fld := ⟨20971777, 1⟩
/-- BED_CTRL.ENABLE, 0x0A0008 bits [0:0], RW, reset 1: Reads 1; a write of 0 is ignored -/
abbrev BED_CTRL_ENABLE : Fld := ⟨20971776, 1⟩
/-- BED_STATUS.COLD, 0x0A000C bits [10:10], RO, reset 0: Cold-start oscillator running -/
abbrev BED_STATUS_COLD : Fld := ⟨20971914, 1⟩
/-- BED_STATUS.HARV_RUN, 0x0A000C bits [9:9], RO, reset 0: Main harvest converter running -/
abbrev BED_STATUS_HARV_RUN : Fld := ⟨20971913, 1⟩
/-- BED_STATUS.XTAL_OK, 0x0A000C bits [8:8], RO, reset 0: Crystal in use (R414) -/
abbrev BED_STATUS_XTAL_OK : Fld := ⟨20971912, 1⟩
/-- BED_STATUS.VBAT_LOW, 0x0A000C bits [7:7], RO, reset 0: VBAT below 2.6 V -/
abbrev BED_STATUS_VBAT_LOW : Fld := ⟨20971911, 1⟩
/-- BED_STATUS.VBAT_PRESENT, 0x0A000C bits [6:6], RO, reset 0: VBAT at 2.0 V or above -/
abbrev BED_STATUS_VBAT_PRESENT : Fld := ⟨20971910, 1⟩
/-- BED_STATUS.VDD_PRESENT, 0x0A000C bits [5:5], RO, reset 0: VDD_PWR present (R404) -/
abbrev BED_STATUS_VDD_PRESENT : Fld := ⟨20971909, 1⟩
/-- BED_STATUS.RES_OK, 0x0A000C bits [4:4], RO, reset 0: E_avail ≥ WRITE + KEEP -/
abbrev BED_STATUS_RES_OK : Fld := ⟨20971908, 1⟩
/-- BED_STATUS.SRC, 0x0A000C bits [1:0], RO, reset 0: 0 = MAIN, 1 = HARV, 2 = BAT -/
abbrev BED_STATUS_SRC : Fld := ⟨20971904, 2⟩
/-- BED_STICKY.CFG_WR_REJECT, 0x0A0018 bits [7:7], W1C, reset 0: Configuration-store write refused (R413) -/
abbrev BED_STICKY_CFG_WR_REJECT : Fld := ⟨20972295, 1⟩
/-- BED_STICKY.CFG_REJECT, 0x0A0018 bits [6:6], W1C, reset 0: Field write out of range (R409, R412) -/
abbrev BED_STICKY_CFG_REJECT : Fld := ⟨20972294, 1⟩
/-- BED_STICKY.RESTORED, 0x0A0018 bits [5:5], W1C, reset 1: Started from OFF (R415) -/
abbrev BED_STICKY_RESTORED : Fld := ⟨20972293, 1⟩
/-- BED_STICKY.COLD_START, 0x0A0018 bits [4:4], W1C, reset 0: Cold start ran (R408) -/
abbrev BED_STICKY_COLD_START : Fld := ⟨20972292, 1⟩
/-- BED_STICKY.XTAL_FAIL, 0x0A0018 bits [3:3], W1C, reset 0: Crystal failed (R414) -/
abbrev BED_STICKY_XTAL_FAIL : Fld := ⟨20972291, 1⟩
/-- BED_STICKY.VBAT_LOW, 0x0A0018 bits [2:2], W1C, reset 0: VBAT fell below 2.6 V -/
abbrev BED_STICKY_VBAT_LOW : Fld := ⟨20972290, 1⟩
/-- BED_STICKY.SRC_CHANGE, 0x0A0018 bits [1:1], W1C, reset 0: Source changed (R407) -/
abbrev BED_STICKY_SRC_CHANGE : Fld := ⟨20972289, 1⟩
/-- BED_STICKY.VDD_LOSS, 0x0A0018 bits [0:0], W1C, reset 0: VDD_PWR lost -/
abbrev BED_STICKY_VDD_LOSS : Fld := ⟨20972288, 1⟩
/-- BED_OPSEC_LO.S, 0x0A0040 bits [31:0], RO, reset Restored: Operating seconds [31:0]; read latches HI and SUBSEC -/
abbrev BED_OPSEC_LO_S : Fld := ⟨20973568, 32⟩
/-- BED_OPSEC_HI.S, 0x0A0044 bits [7:0], RO, reset Restored: Operating seconds [39:32] -/
abbrev BED_OPSEC_HI_S : Fld := ⟨20973696, 8⟩
/-- BED_SUBSEC.N, 0x0A0048 bits [14:0], RO, reset 0: Oscillator count within the second -/
abbrev BED_SUBSEC_N : Fld := ⟨20973824, 15⟩
/-- BED_PWRCYC.N, 0x0A004C bits [23:0], RO, reset Restored: Power cycles; saturates -/
abbrev BED_PWRCYC_N : Fld := ⟨20973952, 24⟩
/-- BED_VSTORE.MV, 0x0A0050 bits [15:0], RO, reset 0: V_STORE, mV -/
abbrev BED_VSTORE_MV : Fld := ⟨20974080, 16⟩
/-- BED_VBAT.MV, 0x0A0054 bits [15:0], RO, reset 0: VBAT, mV -/
abbrev BED_VBAT_MV : Fld := ⟨20974208, 16⟩
/-- BED_HARV.FRAC, 0x0A0058 bits [23:16], RW, reset 78: Operating point, % of V_OC, 50–90 -/
abbrev BED_HARV_FRAC : Fld := ⟨20974352, 8⟩
/-- BED_HARV.VOC, 0x0A0058 bits [15:0], RO, reset 0: Last open-circuit voltage, mV -/
abbrev BED_HARV_VOC : Fld := ⟨20974336, 16⟩
/-- BED_STORE.CAP_UF, 0x0A005C bits [15:0], RW, reset 470: C_STORE, µF, 100–4,700 -/
abbrev BED_STORE_CAP_UF : Fld := ⟨20974464, 16⟩
/-- BED_RES.KEEP, 0x0A0060 bits [31:16], RW, reset 50: Keep reserve, 100 nJ, ≥ 50 -/
abbrev BED_RES_KEEP : Fld := ⟨20974608, 16⟩
/-- BED_RES.WRITE, 0x0A0060 bits [15:0], RW, reset 30: Record reservation, 100 nJ, ≥ 30 -/
abbrev BED_RES_WRITE : Fld := ⟨20974592, 16⟩
/-- BED_EAVAIL.NJ, 0x0A0064 bits [31:0], RO, reset 0: E_avail, nJ -/
abbrev BED_EAVAIL_NJ : Fld := ⟨20974720, 32⟩
/-- LDG_CTRL.MODE, 0x0A1008 bits [1:1], RW, reset 0: 0 = ring, 1 = stop when full (R421) -/
abbrev LDG_CTRL_MODE : Fld := ⟨21102849, 1⟩
/-- LDG_CTRL.ENABLE, 0x0A1008 bits [0:0], RW, reset 1: Reads 1; a write of 0 is ignored -/
abbrev LDG_CTRL_ENABLE : Fld := ⟨21102848, 1⟩
/-- LDG_STATUS.SCANNING, 0x0A100C bits [4:4], RO, reset 0: Recovery scan running (R424) -/
abbrev LDG_STATUS_SCANNING : Fld := ⟨21102980, 1⟩
/-- LDG_STATUS.RESERVE_ONLY, 0x0A100C bits [3:3], RO, reset 0: Severity 3–4 only -/
abbrev LDG_STATUS_RESERVE_ONLY : Fld := ⟨21102979, 1⟩
/-- LDG_STATUS.FULL, 0x0A100C bits [2:2], RO, reset 0: No slot free -/
abbrev LDG_STATUS_FULL : Fld := ⟨21102978, 1⟩
/-- LDG_STATUS.DEFERRING, 0x0A100C bits [1:1], RO, reset 0: Summary pending (R420) -/
abbrev LDG_STATUS_DEFERRING : Fld := ⟨21102977, 1⟩
/-- LDG_STATUS.BUSY, 0x0A100C bits [0:0], RO, reset 0: Write in progress -/
abbrev LDG_STATUS_BUSY : Fld := ⟨21102976, 1⟩
/-- LDG_STICKY.CMD_REJECT, 0x0A1018 bits [6:6], W1C, reset 0: ERASE refused (R422) -/
abbrev LDG_STICKY_CMD_REJECT : Fld := ⟨21103366, 1⟩
/-- LDG_STICKY.SCAN_CRC, 0x0A1018 bits [5:5], W1C, reset 0: Valid slot failed its CRC (R424) -/
abbrev LDG_STICKY_SCAN_CRC : Fld := ⟨21103365, 1⟩
/-- LDG_STICKY.LOST, 0x0A1018 bits [4:4], W1C, reset 0: Record lost (R419, R421) -/
abbrev LDG_STICKY_LOST : Fld := ⟨21103364, 1⟩
/-- LDG_STICKY.FULL, 0x0A1018 bits [3:3], W1C, reset 0: Ledger full -/
abbrev LDG_STICKY_FULL : Fld := ⟨21103363, 1⟩
/-- LDG_STICKY.DEFER, 0x0A1018 bits [2:2], W1C, reset 0: Record deferred -/
abbrev LDG_STICKY_DEFER : Fld := ⟨21103362, 1⟩
/-- LDG_STICKY.WRAP, 0x0A1018 bits [1:1], W1C, reset 0: Ring wrapped -/
abbrev LDG_STICKY_WRAP : Fld := ⟨21103361, 1⟩
/-- LDG_STICKY.RECORD, 0x0A1018 bits [0:0], W1C, reset 0: Record written -/
abbrev LDG_STICKY_RECORD : Fld := ⟨21103360, 1⟩
/-- LDG_WR_IDX.SLOT, 0x0A1040 bits [13:0], RO, reset Scanned: Next slot to write -/
abbrev LDG_WR_IDX_SLOT : Fld := ⟨21104640, 14⟩
/-- LDG_COUNT.N, 0x0A1044 bits [14:0], RO, reset Scanned: Valid records, 0–16,384 -/
abbrev LDG_COUNT_N : Fld := ⟨21104768, 15⟩
/-- LDG_SEQ.SEQ, 0x0A1048 bits [7:0], RO, reset Scanned: Next sequence byte -/
abbrev LDG_SEQ_SEQ : Fld := ⟨21104896, 8⟩
/-- LDG_WRAPS.N, 0x0A104C bits [31:0], RO, reset Restored: Ring passes; saturates -/
abbrev LDG_WRAPS_N : Fld := ⟨21105024, 32⟩
/-- LDG_DEFER.LOST, 0x0A1050 bits [31:16], RO, reset 0: Lost since the last summary -/
abbrev LDG_DEFER_LOST : Fld := ⟨21105168, 16⟩
/-- LDG_DEFER.DEFER, 0x0A1050 bits [15:0], RO, reset 0: Deferred since the last summary -/
abbrev LDG_DEFER_DEFER : Fld := ⟨21105152, 16⟩
/-- LDG_SEVQ.SEV, 0x0A1054 bits [18:16], RO, reset 0: Severity of CODE -/
abbrev LDG_SEVQ_SEV : Fld := ⟨21105296, 3⟩
/-- LDG_SEVQ.CODE, 0x0A1054 bits [15:0], RW, reset 0: Code to look up -/
abbrev LDG_SEVQ_CODE : Fld := ⟨21105280, 16⟩
/-- LDG_Q.EN, 0x0A1058 bits [31:31], RW, reset 0: Mirror records to a queue (R423) -/
abbrev LDG_Q_EN : Fld := ⟨21105439, 1⟩
/-- LDG_Q.QUEUE, 0x0A1058 bits [4:0], RW, reset 0: Queue Q00–Q31 -/
abbrev LDG_Q_QUEUE : Fld := ⟨21105408, 5⟩
/-- LDG_CMD.ERASE, 0x0A105C bits [0:0], WO, reset 0: Erase the Ledger (R422) -/
abbrev LDG_CMD_ERASE : Fld := ⟨21105536, 1⟩
/-- LDG_CNT_LOST.N, 0x0A1060 bits [31:0], RO, reset Restored: Records lost; saturates -/
abbrev LDG_CNT_LOST_N : Fld := ⟨21105664, 32⟩
/-- HST_CTRL.LINK_EN, 0x007008 bits [2:2], RW, reset 0: Host-link role on L5 -/
abbrev HST_CTRL_LINK_EN : Fld := ⟨917762, 1⟩
/-- HST_CTRL.QSPI_EN, 0x007008 bits [1:1], RW, reset 1: QSPI target enabled -/
abbrev HST_CTRL_QSPI_EN : Fld := ⟨917761, 1⟩
/-- HST_CTRL.ENABLE, 0x007008 bits [0:0], RW, reset 1: Reads 1; a write of 0 is ignored -/
abbrev HST_CTRL_ENABLE : Fld := ⟨917760, 1⟩
/-- HST_STATUS.WRBUF_FREE, 0x00700C bits [15:8], RO, reset 64: Free words in the write buffer (R433) -/
abbrev HST_STATUS_WRBUF_FREE : Fld := ⟨917896, 8⟩
/-- HST_STATUS.LINK_UP, 0x00700C bits [2:2], RO, reset 0: L5 ready in the host-link role -/
abbrev HST_STATUS_LINK_UP : Fld := ⟨917890, 1⟩
/-- HST_STATUS.IRQ_B, 0x00700C bits [1:1], RO, reset 0: IRQ_B_N driven low -/
abbrev HST_STATUS_IRQ_B : Fld := ⟨917889, 1⟩
/-- HST_STATUS.IRQ_A, 0x00700C bits [0:0], RO, reset 0: IRQ_A_N driven low -/
abbrev HST_STATUS_IRQ_A : Fld := ⟨917888, 1⟩
/-- HST_STICKY.LINK_ERR, 0x007018 bits [7:7], W1C, reset 0: Host-link request dropped (R438) -/
abbrev HST_STICKY_LINK_ERR : Fld := ⟨918279, 1⟩
/-- HST_STICKY.BURST_END, 0x007018 bits [6:6], W1C, reset 0: Burst beyond its limit (R431) -/
abbrev HST_STICKY_BURST_END : Fld := ⟨918278, 1⟩
/-- HST_STICKY.RD_TMO, 0x007018 bits [5:5], W1C, reset 0: Read timed out (R430) -/
abbrev HST_STICKY_RD_TMO : Fld := ⟨918277, 1⟩
/-- HST_STICKY.WR_OVF, 0x007018 bits [4:4], W1C, reset 0: Write buffer full (R433) -/
abbrev HST_STICKY_WR_OVF : Fld := ⟨918276, 1⟩
/-- HST_STICKY.PARTIAL, 0x007018 bits [3:3], W1C, reset 0: Partial word discarded (R432) -/
abbrev HST_STICKY_PARTIAL : Fld := ⟨918275, 1⟩
/-- HST_STICKY.RO_WRITE, 0x007018 bits [2:2], W1C, reset 0: Write to a read-only location (R435) -/
abbrev HST_STICKY_RO_WRITE : Fld := ⟨918274, 1⟩
/-- HST_STICKY.UNMAPPED, 0x007018 bits [1:1], W1C, reset 0: Unmapped address (R435) -/
abbrev HST_STICKY_UNMAPPED : Fld := ⟨918273, 1⟩
/-- HST_STICKY.ALIGN, 0x007018 bits [0:0], W1C, reset 0: Unknown command or unaligned address (R429, R434) -/
abbrev HST_STICKY_ALIGN : Fld := ⟨918272, 1⟩
/-- HST_CFG.DUMMY, 0x007040 bits [3:0], RW, reset 8: Dummy clocks of a read, 0–15 -/
abbrev HST_CFG_DUMMY : Fld := ⟨919552, 4⟩
/-- HST_IRQ_SUM0.PAGE, 0x007044 bits [31:0], RO, reset 0: Page interrupts, bits 0–31 (R439) -/
abbrev HST_IRQ_SUM0_PAGE : Fld := ⟨919680, 32⟩
/-- HST_IRQ_SUM1.PAGE, 0x007048 bits [11:0], RO, reset 0: Page interrupts, bits 32–43 -/
abbrev HST_IRQ_SUM1_PAGE : Fld := ⟨919808, 12⟩
/-- HST_IRQ_ROUTE0.B, 0x00704C bits [31:0], RW, reset 0: Route page to IRQ_B_N, bits 0–31 -/
abbrev HST_IRQ_ROUTE0_B : Fld := ⟨919936, 32⟩
/-- HST_IRQ_ROUTE1.B, 0x007050 bits [11:0], RW, reset 0: Route page to IRQ_B_N, bits 32–43 -/
abbrev HST_IRQ_ROUTE1_B : Fld := ⟨920064, 12⟩
/-- HST_IRQ_PIN.B_EN, 0x007054 bits [1:1], RW, reset 1: Drive IRQ_B_N -/
abbrev HST_IRQ_PIN_B_EN : Fld := ⟨920193, 1⟩
/-- HST_IRQ_PIN.A_EN, 0x007054 bits [0:0], RW, reset 1: Drive IRQ_A_N -/
abbrev HST_IRQ_PIN_A_EN : Fld := ⟨920192, 1⟩
/-- HST_ERR_ADDR.ADDR, 0x007058 bits [23:0], RO, reset 0: Address of the last error (R434) -/
abbrev HST_ERR_ADDR_ADDR : Fld := ⟨920320, 24⟩
/-- HST_CNT_LINK_ERR.N, 0x00705C bits [31:0], RO, reset 0: Dropped host-link requests; saturates -/
abbrev HST_CNT_LINK_ERR_N : Fld := ⟨920448, 32⟩
/-- QUE_CTRL.ENABLE, 0x012008 bits [0:0], RW, reset 0: Queues take records; when clear, every producer's record is dropped uncounted -/
abbrev QUE_CTRL_ENABLE : Fld := ⟨2359552, 1⟩
/-- QUE_STATUS.NONEMPTY, 0x01200C bits [31:0], RO, reset 0: FILL of queue n is not 0 -/
abbrev QUE_STATUS_NONEMPTY : Fld := ⟨2359680, 32⟩
/-- QUE_STICKY.WM, 0x012018 bits [5:5], W1C, reset 0: A watermark reached (R449) -/
abbrev QUE_STICKY_WM : Fld := ⟨2360069, 1⟩
/-- QUE_STICKY.MAIL_REJECT, 0x012018 bits [4:4], W1C, reset 0: Mail not sent (R448) -/
abbrev QUE_STICKY_MAIL_REJECT : Fld := ⟨2360068, 1⟩
/-- QUE_STICKY.CFG_REJECT, 0x012018 bits [3:3], W1C, reset 0: Commit refused (R445) -/
abbrev QUE_STICKY_CFG_REJECT : Fld := ⟨2360067, 1⟩
/-- QUE_STICKY.IDX_REJECT, 0x012018 bits [2:2], W1C, reset 0: Consumer write refused (R443) -/
abbrev QUE_STICKY_IDX_REJECT : Fld := ⟨2360066, 1⟩
/-- QUE_STICKY.TOO_BIG, 0x012018 bits [1:1], W1C, reset 0: Record larger than its queue (R442) -/
abbrev QUE_STICKY_TOO_BIG : Fld := ⟨2360065, 1⟩
/-- QUE_STICKY.OVF, 0x012018 bits [0:0], W1C, reset 0: Record dropped or discarded (R442) -/
abbrev QUE_STICKY_OVF : Fld := ⟨2360064, 1⟩
/-- QUE_WM_STAT.Q, 0x012040 bits [31:0], RO, reset 0: Queue n at or above WM (R449) -/
abbrev QUE_WM_STAT_Q : Fld := ⟨2361344, 32⟩
/-- QUE_MET.EN, 0x012044 bits [31:31], RW, reset 0: Metrology summaries (R447) -/
abbrev QUE_MET_EN : Fld := ⟨2361503, 1⟩
/-- QUE_MET.SIGN, 0x012044 bits [30:30], RW, reset 0: Sign summaries -/
abbrev QUE_MET_SIGN : Fld := ⟨2361502, 1⟩
/-- QUE_MET.TX_EN, 0x012044 bits [29:29], RW, reset 0: Send the M-class summary -/
abbrev QUE_MET_TX_EN : Fld := ⟨2361501, 1⟩
/-- QUE_MET.DEST, 0x012044 bits [27:16], RW, reset 0xFFF: Summary destination -/
abbrev QUE_MET_DEST : Fld := ⟨2361488, 12⟩
/-- QUE_MET.QUEUE, 0x012044 bits [4:0], RW, reset 0: Queue Q00–Q31 -/
abbrev QUE_MET_QUEUE : Fld := ⟨2361472, 5⟩
/-- QUE_MAIL.EN, 0x012048 bits [31:31], RW, reset 0: Queue received mail (R448) -/
abbrev QUE_MAIL_EN : Fld := ⟨2361631, 1⟩
/-- QUE_MAIL.QUEUE, 0x012048 bits [4:0], RW, reset 0: Queue Q00–Q31 -/
abbrev QUE_MAIL_QUEUE : Fld := ⟨2361600, 5⟩
/-- QUE_MAIL_TX.DEST, 0x01204C bits [27:16], WO, reset 0: Mail destination -/
abbrev QUE_MAIL_TX_DEST : Fld := ⟨2361744, 12⟩
/-- QUE_MAIL_TX.COUNT, 0x01204C bits [5:0], WO, reset 0: Words, 0–32; 0 = none -/
abbrev QUE_MAIL_TX_COUNT : Fld := ⟨2361728, 6⟩
/-- QUE_MAIL_STAT.BUSY, 0x012050 bits [0:0], RO, reset 0: Mail frame being sent -/
abbrev QUE_MAIL_STAT_BUSY : Fld := ⟨2361856, 1⟩
/-- QUE_MAIL_TXDk.W, 0x012080 + … bits [31:0], RW, reset 0: Mail word k (k = 0–31) -/
abbrev QUE_MAIL_TXD_W (n : Nat) : Fld := ⟨(0x12080 + 4 * n) * 32, 32⟩
/-- QUE_Qn_BASE.W, 0x012200 + … bits [17:0], RWS, reset 0: First word offset in queue RAM -/
abbrev QUE_Q_BASE_W (n : Nat) : Fld := ⟨(0x12200 + 0x20 * n) * 32, 18⟩
/-- QUE_Qn_SIZE.W, 0x012204 + … bits [18:0], RWS, reset 0: Words, 0–262,144; 0 = disabled -/
abbrev QUE_Q_SIZE_W (n : Nat) : Fld := ⟨(0x12204 + 0x20 * n) * 32, 19⟩
/-- QUE_Qn_CFG.MODE, 0x012208 + … bits [31:31], RWS, reset 0: 0 = drop new, 1 = discard oldest (R442) -/
abbrev QUE_Q_CFG_MODE (n : Nat) : Fld := ⟨(0x12208 + 0x20 * n) * 32 + 31, 1⟩
/-- QUE_Qn_CFG.WM, 0x012208 + … bits [18:0], RWS, reset 0: Watermark, words; 0 = none -/
abbrev QUE_Q_CFG_WM (n : Nat) : Fld := ⟨(0x12208 + 0x20 * n) * 32, 19⟩
/-- QUE_Qn_PROD.W, 0x01220C + … bits [31:0], RO, reset 0: Words appended, modulo 2^32 -/
abbrev QUE_Q_PROD_W (n : Nat) : Fld := ⟨(0x1220c + 0x20 * n) * 32, 32⟩
/-- QUE_Qn_CONS.W, 0x012210 + … bits [31:0], RW, reset 0: Words consumed (R443) -/
abbrev QUE_Q_CONS_W (n : Nat) : Fld := ⟨(0x12210 + 0x20 * n) * 32, 32⟩
/-- QUE_Qn_FILL.W, 0x012214 + … bits [18:0], RO, reset 0: PROD − CONS -/
abbrev QUE_Q_FILL_W (n : Nat) : Fld := ⟨(0x12214 + 0x20 * n) * 32, 19⟩
/-- QUE_Qn_DROP.N, 0x012218 + … bits [31:0], RO, reset 0: Records dropped or discarded; saturates -/
abbrev QUE_Q_DROP_N (n : Nat) : Fld := ⟨(0x12218 + 0x20 * n) * 32, 32⟩
/-- QUE_POPn.W, 0x012800 + … bits [31:0], RO, reset 0: Word at CONS; read advances CONS (R444) -/
abbrev QUE_POP_W (n : Nat) : Fld := ⟨(0x12800 + 4 * n) * 32, 32⟩
/-- CFG_CTRL.WR_B, 0x006008 bits [2:2], RW, reset 0: Copy B writable (R464) -/
abbrev CFG_CTRL_WR_B : Fld := ⟨786690, 1⟩
/-- CFG_CTRL.WR_A, 0x006008 bits [1:1], RW, reset 0: Copy A writable -/
abbrev CFG_CTRL_WR_A : Fld := ⟨786689, 1⟩
/-- CFG_CTRL.ENABLE, 0x006008 bits [0:0], RW, reset 1: Reads 1; a write of 0 is ignored -/
abbrev CFG_CTRL_ENABLE : Fld := ⟨786688, 1⟩
/-- CFG_STATUS.SRC, 0x00600C bits [7:6], RO, reset 2: In force: 0 = A, 1 = B, 2 = defaults -/
abbrev CFG_STATUS_SRC : Fld := ⟨786822, 2⟩
/-- CFG_STATUS.VERIFY_BUSY, 0x00600C bits [5:5], RO, reset 0: Verify running -/
abbrev CFG_STATUS_VERIFY_BUSY : Fld := ⟨786821, 1⟩
/-- CFG_STATUS.SIGNED, 0x00600C bits [4:4], RO, reset 0: Copy in force was signed -/
abbrev CFG_STATUS_SIGNED : Fld := ⟨786820, 1⟩
/-- CFG_STATUS.VALID_B, 0x00600C bits [3:3], RO, reset 0: Copy B valid -/
abbrev CFG_STATUS_VALID_B : Fld := ⟨786819, 1⟩
/-- CFG_STATUS.VALID_A, 0x00600C bits [2:2], RO, reset 0: Copy A valid -/
abbrev CFG_STATUS_VALID_A : Fld := ⟨786818, 1⟩
/-- CFG_STATUS.DEFAULTED, 0x00600C bits [1:1], RO, reset 0: Defaults in force (R463) -/
abbrev CFG_STATUS_DEFAULTED : Fld := ⟨786817, 1⟩
/-- CFG_STATUS.LOADED, 0x00600C bits [0:0], RO, reset 0: A copy has been applied -/
abbrev CFG_STATUS_LOADED : Fld := ⟨786816, 1⟩
/-- CFG_STICKY.KEY_BAD, 0x006018 bits [6:6], W1C, reset 0: Unknown lock key (R454) -/
abbrev CFG_STICKY_KEY_BAD : Fld := ⟨787206, 1⟩
/-- CFG_STICKY.LOCK_REJECT, 0x006018 bits [5:5], W1C, reset 0: Write refused by a lock (R454, R455) -/
abbrev CFG_STICKY_LOCK_REJECT : Fld := ⟨787205, 1⟩
/-- CFG_STICKY.WR_REJECT, 0x006018 bits [4:4], W1C, reset 0: Image write refused (R464) -/
abbrev CFG_STICKY_WR_REJECT : Fld := ⟨787204, 1⟩
/-- CFG_STICKY.APPLY_FAIL, 0x006018 bits [3:3], W1C, reset 0: Application failed (R462) -/
abbrev CFG_STICKY_APPLY_FAIL : Fld := ⟨787203, 1⟩
/-- CFG_STICKY.CHECK_FAIL_B, 0x006018 bits [2:2], W1C, reset 0: Copy B invalid -/
abbrev CFG_STICKY_CHECK_FAIL_B : Fld := ⟨787202, 1⟩
/-- CFG_STICKY.CHECK_FAIL_A, 0x006018 bits [1:1], W1C, reset 0: Copy A invalid -/
abbrev CFG_STICKY_CHECK_FAIL_A : Fld := ⟨787201, 1⟩
/-- CFG_STICKY.DEFAULTED, 0x006018 bits [0:0], W1C, reset 0: Defaults applied -/
abbrev CFG_STICKY_DEFAULTED : Fld := ⟨787200, 1⟩
/-- CFG_GEN_IN_FORCE.GEN, 0x006040 bits [31:0], RO, reset 0: GEN of the copy in force -/
abbrev CFG_GEN_IN_FORCE_GEN : Fld := ⟨788480, 32⟩
/-- CFG_GEN_A.GEN, 0x006044 bits [31:0], RO, reset 0: GEN of copy A at its last check -/
abbrev CFG_GEN_A_GEN : Fld := ⟨788608, 32⟩
/-- CFG_GEN_B.GEN, 0x006048 bits [31:0], RO, reset 0: GEN of copy B at its last check -/
abbrev CFG_GEN_B_GEN : Fld := ⟨788736, 32⟩
/-- CFG_CMD.VERIFY_B, 0x00604C bits [1:1], WO, reset 0: Check copy B (R464) -/
abbrev CFG_CMD_VERIFY_B : Fld := ⟨788865, 1⟩
/-- CFG_CMD.VERIFY_A, 0x00604C bits [0:0], WO, reset 0: Check copy A -/
abbrev CFG_CMD_VERIFY_A : Fld := ⟨788864, 1⟩
/-- CFG_APPLY_ERR.CAUSE, 0x006050 bits [31:28], RO, reset 0: 0 = none, 1 = unmapped, 2 = write refused, 3 = commit refused, 4 = check failed -/
abbrev CFG_APPLY_ERR_CAUSE : Fld := ⟨789020, 4⟩
/-- CFG_APPLY_ERR.COPY, 0x006050 bits [24:24], RO, reset 0: 0 = A, 1 = B -/
abbrev CFG_APPLY_ERR_COPY : Fld := ⟨789016, 1⟩
/-- CFG_APPLY_ERR.ADDR, 0x006050 bits [23:0], RO, reset 0: First failing address -/
abbrev CFG_APPLY_ERR_ADDR : Fld := ⟨788992, 24⟩
/-- CFG_LOCK_ADDR.ADDR, 0x006054 bits [23:0], RO, reset 0: Last address refused by a lock -/
abbrev CFG_LOCK_ADDR_ADDR : Fld := ⟨789120, 24⟩
/-- CFG_CRC_IN_FORCE.CRC, 0x006058 bits [31:0], RO, reset 0: Check word of the copy in force -/
abbrev CFG_CRC_IN_FORCE_CRC : Fld := ⟨789248, 32⟩
/-- CRN_CTRL.PIN_MODE, 0x005008 bits [3:2], RW, reset 0: 0 = unused, 1 = trigger input, 2 = output pulse (R469) -/
abbrev CRN_CTRL_PIN_MODE : Fld := ⟨655618, 2⟩
/-- CRN_CTRL.HOLD, 0x005008 bits [1:1], RW, reset 0: Hold after a snapshot (R468) -/
abbrev CRN_CTRL_HOLD : Fld := ⟨655617, 1⟩
/-- CRN_CTRL.ENABLE, 0x005008 bits [0:0], RW, reset 1: Triggers act -/
abbrev CRN_CTRL_ENABLE : Fld := ⟨655616, 1⟩
/-- CRN_STATUS.HELD, 0x00500C bits [16:16], RO, reset 0: Triggers missed until RELEASE -/
abbrev CRN_STATUS_HELD : Fld := ⟨655760, 1⟩
/-- CRN_STATUS.SEQ, 0x00500C bits [15:0], RO, reset 0: Number of the last snapshot; 0 = none -/
abbrev CRN_STATUS_SEQ : Fld := ⟨655744, 16⟩
/-- CRN_STICKY.PARTIAL, 0x005018 bits [2:2], W1C, reset 0: Power-die pages not latched (R467) -/
abbrev CRN_STICKY_PARTIAL : Fld := ⟨656130, 1⟩
/-- CRN_STICKY.MISSED, 0x005018 bits [1:1], W1C, reset 0: Trigger missed (R468) -/
abbrev CRN_STICKY_MISSED : Fld := ⟨656129, 1⟩
/-- CRN_STICKY.SNAP, 0x005018 bits [0:0], W1C, reset 0: Snapshot taken -/
abbrev CRN_STICKY_SNAP : Fld := ⟨656128, 1⟩
/-- CRN_TRIGGER.TRIG, 0x005040 bits [0:0], WO, reset 0: Trigger a snapshot -/
abbrev CRN_TRIGGER_TRIG : Fld := ⟨657408, 1⟩
/-- CRN_CMD.RELEASE, 0x005044 bits [0:0], WO, reset 0: Clear HELD -/
abbrev CRN_CMD_RELEASE : Fld := ⟨657536, 1⟩
/-- CRN_FAULT_EN.EV, 0x005048 bits [8:0], RW, reset 0: Fault events that trigger (R470) -/
abbrev CRN_FAULT_EN_EV : Fld := ⟨657664, 9⟩
/-- CRN_CAUSE.FAULT, 0x00504C bits [24:16], RO, reset 0: Fault events of the last snapshot -/
abbrev CRN_CAUSE_FAULT : Fld := ⟨657808, 9⟩
/-- CRN_CAUSE.SRC, 0x00504C bits [3:0], RO, reset 0: Causes of the last snapshot (R466) -/
abbrev CRN_CAUSE_SRC : Fld := ⟨657792, 4⟩
/-- CRN_TS_Ww.W, 0x005050 + … bits [31:0], RO, reset 0: Word w (0–2) of the snapshot time -/
abbrev CRN_TS_W_W (n : Nat) : Fld := ⟨(0x5050 + 4 * n) * 32, 32⟩
/-- CRN_TS_FRAC.FRAC, 0x00505C bits [15:0], RO, reset 0: Fraction, 2^−16 ns -/
abbrev CRN_TS_FRAC_FRAC : Fld := ⟨658304, 16⟩
/-- CRN_CNT_MISSED.N, 0x005060 bits [31:0], RO, reset 0: Missed triggers; saturates -/
abbrev CRN_CNT_MISSED_N : Fld := ⟨658432, 32⟩
/-- MON_CTRL.ENABLE, 0x003008 bits [0:0], RW, reset 1: Reads 1; a write of 0 is ignored -/
abbrev MON_CTRL_ENABLE : Fld := ⟨393472, 1⟩
/-- MON_STATUS.RAIL_OUT, 0x00300C bits [15:8], RO, reset 0: Rail n outside: VDD_CORE, VDD_LANE, VDDA_18, VDDIO_A, VDDIO_B, VDD_PWR in [13:8] -/
abbrev MON_STATUS_RAIL_OUT : Fld := ⟨393608, 8⟩
/-- MON_STATUS.TJ_OUT, 0x00300C bits [1:1], RO, reset 0: A sensor outside −40 °C to +125 °C -/
abbrev MON_STATUS_TJ_OUT : Fld := ⟨393601, 1⟩
/-- MON_STATUS.T_WARN, 0x00300C bits [0:0], RO, reset 0: A sensor above HI (R472) -/
abbrev MON_STATUS_T_WARN : Fld := ⟨393600, 1⟩
/-- MON_STICKY.CFG_REJECT, 0x003018 bits [4:4], W1C, reset 0: Write or commit refused -/
abbrev MON_STICKY_CFG_REJECT : Fld := ⟨393988, 1⟩
/-- MON_STICKY.RO_RECORD, 0x003018 bits [3:3], W1C, reset 0: Drift records written (R475) -/
abbrev MON_STICKY_RO_RECORD : Fld := ⟨393987, 1⟩
/-- MON_STICKY.RAIL_OUT, 0x003018 bits [2:2], W1C, reset 0: A rail left its window (R474) -/
abbrev MON_STICKY_RAIL_OUT : Fld := ⟨393986, 1⟩
/-- MON_STICKY.T_LOW, 0x003018 bits [1:1], W1C, reset 0: Below LO -/
abbrev MON_STICKY_T_LOW : Fld := ⟨393985, 1⟩
/-- MON_STICKY.T_HIGH, 0x003018 bits [0:0], W1C, reset 0: Above HI -/
abbrev MON_STICKY_T_HIGH : Fld := ⟨393984, 1⟩
/-- MON_TEMPn.T, 0x003040 + … bits [15:0], RO, reset 0: Sensor n (0–5), signed, 1/16 °C -/
abbrev MON_TEMP_T (n : Nat) : Fld := ⟨(0x3040 + 4 * n) * 32, 16⟩
/-- MON_TTHR.HI, 0x003058 bits [23:16], RWS, reset 115: Warning high, °C, signed -/
abbrev MON_TTHR_HI : Fld := ⟨396048, 8⟩
/-- MON_TTHR.LO, 0x003058 bits [7:0], RWS, reset 0xD8: Warning low, °C, signed (−40 °C) -/
abbrev MON_TTHR_LO : Fld := ⟨396032, 8⟩
/-- MON_RAIL_FILT.NS, 0x00305C bits [9:0], RW, reset 500: Rail filter, ns, 100–800 -/
abbrev MON_RAIL_FILT_NS : Fld := ⟨396160, 10⟩
/-- MON_IOSEL.BANK, 0x003060 bits [1:0], RW, reset 0b00: [0] VDDIO_A, [1] VDDIO_B: 0 = 1.8 V, 1 = 3.3 V -/
abbrev MON_IOSEL_BANK : Fld := ⟨396288, 2⟩
/-- MON_RAILn.MV, 0x003064 + … bits [15:0], RO, reset 0: Rail n (0–5), mV -/
abbrev MON_RAIL_MV (n : Nat) : Fld := ⟨(0x3064 + 4 * n) * 32, 16⟩
/-- MON_ROn.N, 0x003080 + … bits [31:0], RO, reset 0: Ring oscillator n (0–7), counts per ms -/
abbrev MON_RO_N (n : Nat) : Fld := ⟨(0x3080 + 4 * n) * 32, 32⟩
/-- MON_ROn_BASE.N, 0x0030A0 + … bits [31:0], RO, reset From test: Baseline count at 25 °C -/
abbrev MON_RO_BASE_N (n : Nat) : Fld := ⟨(0x30a0 + 4 * n) * 32, 32⟩
/-- MON_RO_NEXT.S, 0x0030C0 bits [31:0], RO, reset Restored: BED_OPSEC [31:0] of the next yearly record -/
abbrev MON_RO_NEXT_S : Fld := ⟨399360, 32⟩
/-- MON_CMD.RO_RECORD, 0x0030C4 bits [0:0], WO, reset 0: Write drift records now -/
abbrev MON_CMD_RO_RECORD : Fld := ⟨399488, 1⟩
/-- SEC_CTRL.ENABLE, 0x004008 bits [0:0], RW, reset 1: Reads 1; a write of 0 is ignored -/
abbrev SEC_CTRL_ENABLE : Fld := ⟨524544, 1⟩
/-- SEC_STATUS.SIGN_BUSY, 0x00400C bits [5:5], RO, reset 0: Challenge signature pending (R478) -/
abbrev SEC_STATUS_SIGN_BUSY : Fld := ⟨524677, 1⟩
/-- SEC_STATUS.TEST_LOCKED, 0x00400C bits [4:4], RO, reset 1: Test access locked -/
abbrev SEC_STATUS_TEST_LOCKED : Fld := ⟨524676, 1⟩
/-- SEC_STATUS.MET_PERM, 0x00400C bits [3:3], RO, reset Fuse: Permanent metrology lock -/
abbrev SEC_STATUS_MET_PERM : Fld := ⟨524675, 1⟩
/-- SEC_STATUS.MET_LOCK, 0x00400C bits [2:2], RO, reset 0: Volatile metrology lock (R481) -/
abbrev SEC_STATUS_MET_LOCK : Fld := ⟨524674, 1⟩
/-- SEC_STATUS.ENFORCE, 0x00400C bits [1:1], RO, reset Fuse: Image signing enforced -/
abbrev SEC_STATUS_ENFORCE : Fld := ⟨524673, 1⟩
/-- SEC_STATUS.IKEY_FUSED, 0x00400C bits [0:0], RO, reset Fuse: Integrator key fused -/
abbrev SEC_STATUS_IKEY_FUSED : Fld := ⟨524672, 1⟩
/-- SEC_STICKY.FUSE_DONE, 0x004018 bits [2:2], W1C, reset 0: Fuse operation completed -/
abbrev SEC_STICKY_FUSE_DONE : Fld := ⟨525058, 1⟩
/-- SEC_STICKY.CMD_REJECT, 0x004018 bits [1:1], W1C, reset 0: Command refused (R480) -/
abbrev SEC_STICKY_CMD_REJECT : Fld := ⟨525057, 1⟩
/-- SEC_STICKY.UNSIGNED, 0x004018 bits [0:0], W1C, reset 0: Record appended unsigned (R477) -/
abbrev SEC_STICKY_UNSIGNED : Fld := ⟨525056, 1⟩
/-- SEC_DEVID_LO.ID, 0x004040 bits [31:0], RO, reset From test: Device identity [31:0] -/
abbrev SEC_DEVID_LO_ID : Fld := ⟨526336, 32⟩
/-- SEC_DEVID_HI.ID, 0x004044 bits [31:0], RO, reset From test: Device identity [63:32] -/
abbrev SEC_DEVID_HI_ID : Fld := ⟨526464, 32⟩
/-- SEC_CMD.KEY, 0x004048 bits [31:16], WO, reset 0: 0x4655 for fuse commands -/
abbrev SEC_CMD_KEY : Fld := ⟨526608, 16⟩
/-- SEC_CMD.CHALLENGE, 0x004048 bits [4:4], WO, reset 0: Sign the challenge (R478) -/
abbrev SEC_CMD_CHALLENGE : Fld := ⟨526596, 1⟩
/-- SEC_CMD.FUSE_MET_LOCK, 0x004048 bits [3:3], WO, reset 0: R480 -/
abbrev SEC_CMD_FUSE_MET_LOCK : Fld := ⟨526595, 1⟩
/-- SEC_CMD.FUSE_ENFORCE, 0x004048 bits [2:2], WO, reset 0: R480 -/
abbrev SEC_CMD_FUSE_ENFORCE : Fld := ⟨526594, 1⟩
/-- SEC_CMD.FUSE_IKEY, 0x004048 bits [1:1], WO, reset 0: R480 -/
abbrev SEC_CMD_FUSE_IKEY : Fld := ⟨526593, 1⟩
/-- SEC_CMD.MET_LOCK, 0x004048 bits [0:0], WO, reset 0: Set the volatile lock (R481) -/
abbrev SEC_CMD_MET_LOCK : Fld := ⟨526592, 1⟩
/-- SEC_CNT_SIGNED.N, 0x00404C bits [31:0], RO, reset 0: Records signed; saturates -/
abbrev SEC_CNT_SIGNED_N : Fld := ⟨526720, 32⟩
/-- SEC_CNT_UNSIGNED.N, 0x004050 bits [31:0], RO, reset 0: Records left unsigned; saturates -/
abbrev SEC_CNT_UNSIGNED_N : Fld := ⟨526848, 32⟩
/-- SEC_PUBKEYk.W, 0x004080 + … bits [31:0], RO, reset From test: Public key word k (k = 0–15) -/
abbrev SEC_PUBKEY_W (n : Nat) : Fld := ⟨(0x4080 + 4 * n) * 32, 32⟩
/-- SEC_IKEYk.W, 0x0040C0 + … bits [31:0], RW, reset 0: Integrator key word k; RO with the fused value once IKEY_FUSED is set -/
abbrev SEC_IKEY_W (n : Nat) : Fld := ⟨(0x40c0 + 4 * n) * 32, 32⟩
/-- SEC_CHALk.W, 0x004200 + … bits [31:0], RW, reset 0: Challenge word k (k = 0–7) -/
abbrev SEC_CHAL_W (n : Nat) : Fld := ⟨(0x4200 + 4 * n) * 32, 32⟩
/-- SEC_ATTk.W, 0x004240 + … bits [31:0], RO, reset 0: Attestation signature word k (k = 0–15) -/
abbrev SEC_ATT_W (n : Nat) : Fld := ⟨(0x4240 + 4 * n) * 32, 32⟩
/-- SYS_CTRL.ENABLE, 0x000008 bits [0:0], RW, reset 1: Reads 1; a write of 0 is ignored -/
abbrev SYS_CTRL_ENABLE : Fld := ⟨256, 1⟩
/-- SYS_STATUS.PERMIT, 0x00000C bits [7:7], RO, reset 0: Permission granted (R493) -/
abbrev SYS_STATUS_PERMIT : Fld := ⟨391, 1⟩
/-- SYS_STATUS.READY, 0x00000C bits [6:6], RO, reset 0: READY pin high (R495) -/
abbrev SYS_STATUS_READY : Fld := ⟨390, 1⟩
/-- SYS_STATUS.DIV_SYNC, 0x00000C bits [5:5], RO, reset 0: Dividers synchronised (R39) -/
abbrev SYS_STATUS_DIV_SYNC : Fld := ⟨389, 1⟩
/-- SYS_STATUS.CFG_DEFAULTED, 0x00000C bits [4:4], RO, reset 0: Factory defaults in force (R463) -/
abbrev SYS_STATUS_CFG_DEFAULTED : Fld := ⟨388, 1⟩
/-- SYS_STATUS.PAR_INIT_DONE, 0x00000C bits [3:3], RO, reset 0: Parapet has left INIT -/
abbrev SYS_STATUS_PAR_INIT_DONE : Fld := ⟨387, 1⟩
/-- SYS_STATUS.STAGE, 0x00000C bits [2:0], RO, reset 0: 0 = CLOCK, 1 = CONFIG, 2 = WAIT, 3 = PERMITTED -/
abbrev SYS_STATUS_STAGE : Fld := ⟨384, 3⟩
/-- SYS_STICKY.SOFT_REJECT, 0x000018 bits [3:3], W1C, reset 0: Soft reset with a wrong key (R487) -/
abbrev SYS_STICKY_SOFT_REJECT : Fld := ⟨771, 1⟩
/-- SYS_STICKY.PERMIT_TMO, 0x000018 bits [2:2], W1C, reset 0: Permission with a condition unmet (R493) -/
abbrev SYS_STICKY_PERMIT_TMO : Fld := ⟨770, 1⟩
/-- SYS_STICKY.RESET, 0x000018 bits [1:1], W1C, reset 1: Released from reset (R489) -/
abbrev SYS_STICKY_RESET : Fld := ⟨769, 1⟩
/-- SYS_STICKY.GUAR_CHANGE, 0x000018 bits [0:0], W1C, reset 0: A bit of SYS_GUAR [3:0] changed, including its first value at permission (R27, R521) -/
abbrev SYS_STICKY_GUAR_CHANGE : Fld := ⟨768, 1⟩
/-- SYS_START.TMO_MS, 0x000040 bits [31:16], RW, reset 2,000: Wait limit for WAIT bits [2:0], ms; 0 = no waiting -/
abbrev SYS_START_TMO_MS : Fld := ⟨2064, 16⟩
/-- SYS_START.WAIT, 0x000040 bits [3:0], RW, reset 0b0001: Conditions waited for (R493); writes after permission have no effect -/
abbrev SYS_START_WAIT : Fld := ⟨2048, 4⟩
/-- SYS_CMD.KEY, 0x000044 bits [31:16], WO, reset 0: 0x5253 for SOFT_RESET -/
abbrev SYS_CMD_KEY : Fld := ⟨2192, 16⟩
/-- SYS_CMD.SOFT_RESET, 0x000044 bits [1:1], WO, reset 0: Main-die reset (R487) -/
abbrev SYS_CMD_SOFT_RESET : Fld := ⟨2177, 1⟩
/-- SYS_CMD.PERMIT, 0x000044 bits [0:0], WO, reset 0: Host condition of R493 -/
abbrev SYS_CMD_PERMIT : Fld := ⟨2176, 1⟩
/-- SYS_RESET_CAUSE.JTAG, 0x000048 bits [4:4], RO, reset Cause: Boundary-scan reset -/
abbrev SYS_RESET_CAUSE_JTAG : Fld := ⟨2308, 1⟩
/-- SYS_RESET_CAUSE.SOFT, 0x000048 bits [3:3], RO, reset Cause: Software reset -/
abbrev SYS_RESET_CAUSE_SOFT : Fld := ⟨2307, 1⟩
/-- SYS_RESET_CAUSE.PIN, 0x000048 bits [2:2], RO, reset Cause: RST_N -/
abbrev SYS_RESET_CAUSE_PIN : Fld := ⟨2306, 1⟩
/-- SYS_RESET_CAUSE.BROWNOUT, 0x000048 bits [1:1], RO, reset Cause: Rail fell below its reset level (R485) -/
abbrev SYS_RESET_CAUSE_BROWNOUT : Fld := ⟨2305, 1⟩
/-- SYS_RESET_CAUSE.POR, 0x000048 bits [0:0], RO, reset Cause: Power-on -/
abbrev SYS_RESET_CAUSE_POR : Fld := ⟨2304, 1⟩
/-- SYS_T_READY.US, 0x00004C bits [31:0], RO, reset 0: Reset release to READY, µs -/
abbrev SYS_T_READY_US : Fld := ⟨2432, 32⟩
/-- SYS_T_PERMIT.US, 0x000050 bits [31:0], RO, reset 0: Reset release to permission, µs; saturates -/
abbrev SYS_T_PERMIT_US : Fld := ⟨2560, 32⟩

end Sys2Proof.F
end

