-- ==== Sys2Proof/Config.lean ====
section
/-! DEFINITION. What one implementation of the part fixes and the free values: an opaque constant has no
body, so a claim about it holds whatever its value is. The counter that is applied to a free value stands in
the state (`Blocks.freeCtr`). -/

namespace Sys2Proof.Config

/-- FREE VALUE (log entry 3): a fresh unspecified number for each count. -/
opaque freeNat : Nat → Nat

/-- FREE VALUE (log entry 4): the word of the standard program set ROM at a byte address; the spec lists the
programs and their lengths and not their code. -/
opaque romWord : Nat → Nat

/-- FREE VALUE (log entry 5): word `k` of the ECDSA P-256 signature of R476 over the given words. The private
key is in no register and the spec gives no other form of the algorithm. -/
opaque sigWord : List Nat → Nat → Nat

/-- FREE VALUE (log entry 5): whether a 16-word signature over the given words verifies against a 16-word
key (R456, R459, R479). -/
opaque sigVerify : List Nat → List Nat → List Nat → Bool

/-- FREE VALUE (log entry 6): the residual error of RCP and RSQ in units of 2^-24 of the exact result, within
the bound of R152 (the model limits it). -/
opaque recipError : Nat → Nat

/-- FREE VALUE (log entry 6): the error of the interpolated sine and cosine, within the bound of the sine table
(the model limits it). -/
opaque trigError : Nat → Nat

/-- FREE VALUE (log entry 4): the declared length and the initial exponent of a stage of a ROM program, which the
spec does not list. -/
opaque romStageLen : Nat → Nat → Nat
opaque romStageExp : Nat → Nat → Nat

/-- FREE VALUE (log entry 4): the words of a ROM program; the spec does not say where in the ROM each one lies. -/
opaque romCode : Nat → List Nat

/-- FREE VALUE (log entry 25): entry `k` (0 to 31 voltage, 32 to 63 frequency) of the ROM profile of Category I
or II, which the spec does not list. -/
opaque romProfile : Nat → Nat → Nat

/-- FREE VALUE (log entry 28): the corrected code of a raw code under an offset and a gain deviation; the spec
names the coefficients and not the formula. -/
opaque adcCorrect : Int → Int → Int → Int

/-- FREE VALUE (log entry 30): the metrology sample that the fractional-delay interpolator gives for a shift in
0.001 degree, from the sample before the shift and the earlier ones; the spec does not give the interpolator. -/
opaque metShift : Rat → Rat → List Rat → Rat

/-- FREE VALUE (log entry 52): the implementation revision that PAGE_REV shows on the pages of a type (R450). -/
opaque pageRev : Nat → Nat

/-- FREE VALUE (log entry 52): the revision that IDCODE shows in its top four bits (R483). -/
opaque idRevision : Nat

/-- FREE VALUE (log entry 33): the CRC-32 that the Parapet channels give for the configuration words in force; the
spec does not give the layout it is computed over. -/
opaque parCrc : List Nat → Nat

/-- FREE VALUE (log entry 33): the pair check word of R387 over the programs in force, the active banks and the
committed groups; the spec does not give the layout it is computed over. -/
opaque pairCrc : List Nat → Nat

/-- FREE VALUE (log entry 33): the CRC-32 that R482 records for a committed calibration group, over the words of the
group; the spec does not give the layout it is computed over. -/
opaque calCrc : List Nat → Nat

end Sys2Proof.Config
end

