-- ==== Sys2Proof/Machine/RegTable.lean ====
section
/-! DEFINITION. The register tables of spec/ as data: for every page its rows (offset, repeats and their
strides, lowest bit, width, access type R10, reset value), the page index of R516, and the reset value and
the access type of a field by its key. -/

namespace Sys2Proof.RegTable

/-- Rows of page SYS (part 1 of 2): see the register table of its chapter. -/
def sysRows0 : List Row := [
  ⟨0x200, 1, 0, 1, 0, 17, 1, .ro, 0⟩,
  ⟨0x200, 1, 0, 1, 0, 16, 1, .ro, 0⟩,
  ⟨0x200, 1, 0, 1, 0, 15, 1, .ro, 0⟩,
  ⟨0x200, 1, 0, 1, 0, 14, 1, .ro, 0⟩,
  ⟨0x200, 1, 0, 1, 0, 13, 1, .ro, 0⟩,
  ⟨0x200, 1, 0, 1, 0, 12, 1, .ro, 0⟩,
  ⟨0x200, 1, 0, 1, 0, 11, 1, .ro, 0⟩,
  ⟨0x200, 1, 0, 1, 0, 10, 1, .ro, 0⟩,
  ⟨0x200, 1, 0, 1, 0, 3, 1, .ro, 0⟩,
  ⟨0x200, 1, 0, 1, 0, 2, 1, .ro, 0⟩,
  ⟨0x200, 1, 0, 1, 0, 1, 1, .ro, 0⟩,
  ⟨0x200, 1, 0, 1, 0, 0, 1, .ro, 0⟩,
  ⟨8, 1, 0, 1, 0, 0, 1, .rw, 1⟩,
  ⟨0xc, 1, 0, 1, 0, 7, 1, .ro, 0⟩,
  ⟨0xc, 1, 0, 1, 0, 6, 1, .ro, 0⟩,
  ⟨0xc, 1, 0, 1, 0, 5, 1, .ro, 0⟩,
  ⟨0xc, 1, 0, 1, 0, 4, 1, .ro, 0⟩,
  ⟨0xc, 1, 0, 1, 0, 3, 1, .ro, 0⟩,
  ⟨0xc, 1, 0, 1, 0, 0, 3, .ro, 0⟩,
  ⟨0x18, 1, 0, 1, 0, 3, 1, .w1c, 0⟩,
  ⟨0x10, 1, 0, 1, 0, 3, 1, .w1c, 0⟩,
  ⟨0x14, 1, 0, 1, 0, 3, 1, .rw, 0⟩,
  ⟨0x18, 1, 0, 1, 0, 2, 1, .w1c, 0⟩,
  ⟨0x10, 1, 0, 1, 0, 2, 1, .w1c, 0⟩,
  ⟨0x14, 1, 0, 1, 0, 2, 1, .rw, 0⟩,
  ⟨0x18, 1, 0, 1, 0, 1, 1, .w1c, 1⟩,
  ⟨0x10, 1, 0, 1, 0, 1, 1, .w1c, 0⟩,
  ⟨0x14, 1, 0, 1, 0, 1, 1, .rw, 0⟩,
  ⟨0x18, 1, 0, 1, 0, 0, 1, .w1c, 0⟩,
  ⟨0x10, 1, 0, 1, 0, 0, 1, .w1c, 0⟩,
  ⟨0x14, 1, 0, 1, 0, 0, 1, .rw, 0⟩,
  ⟨0x40, 1, 0, 1, 0, 16, 16, .rw, 0x7d0⟩,
  ⟨0x40, 1, 0, 1, 0, 0, 4, .rw, 1⟩,
  ⟨0x44, 1, 0, 1, 0, 16, 16, .wo, 0⟩,
  ⟨0x44, 1, 0, 1, 0, 1, 1, .wo, 0⟩,
  ⟨0x44, 1, 0, 1, 0, 0, 1, .wo, 0⟩,
  ⟨0x48, 1, 0, 1, 0, 4, 1, .ro, 0⟩,
  ⟨0x48, 1, 0, 1, 0, 3, 1, .ro, 0⟩,
  ⟨0x48, 1, 0, 1, 0, 2, 1, .ro, 0⟩,
  ⟨0x48, 1, 0, 1, 0, 1, 1, .ro, 0⟩]

/-- Rows of page SYS (part 2 of 2): see the register table of its chapter. -/
def sysRows1 : List Row := [
  ⟨0x48, 1, 0, 1, 0, 0, 1, .ro, 1⟩,
  ⟨0x4c, 1, 0, 1, 0, 0, 32, .ro, 0⟩,
  ⟨0x50, 1, 0, 1, 0, 0, 32, .ro, 0⟩]

/-- All rows of page SYS. -/
def sysRows : List Row := sysRows0 ++ sysRows1

/-- Rows of page CLK (part 1 of 2): see the register table of its chapter. -/
def clkRows0 : List Row := [
  ⟨8, 1, 0, 1, 0, 4, 1, .rw, 1⟩,
  ⟨8, 1, 0, 1, 0, 3, 1, .rw, 0⟩,
  ⟨8, 1, 0, 1, 0, 2, 1, .rw, 1⟩,
  ⟨8, 1, 0, 1, 0, 1, 1, .rw, 0⟩,
  ⟨8, 1, 0, 1, 0, 0, 1, .rw, 1⟩,
  ⟨0xc, 1, 0, 1, 0, 7, 1, .ro, 0⟩,
  ⟨0xc, 1, 0, 1, 0, 6, 1, .ro, 0⟩,
  ⟨0xc, 1, 0, 1, 0, 5, 1, .ro, 0⟩,
  ⟨0xc, 1, 0, 1, 0, 4, 1, .ro, 0⟩,
  ⟨0xc, 1, 0, 1, 0, 3, 1, .ro, 0⟩,
  ⟨0xc, 1, 0, 1, 0, 2, 1, .ro, 0⟩,
  ⟨0xc, 1, 0, 1, 0, 1, 1, .ro, 0⟩,
  ⟨0xc, 1, 0, 1, 0, 0, 1, .ro, 0⟩,
  ⟨0x18, 1, 0, 1, 0, 8, 1, .w1c, 0⟩,
  ⟨0x10, 1, 0, 1, 0, 8, 1, .w1c, 0⟩,
  ⟨0x14, 1, 0, 1, 0, 8, 1, .rw, 0⟩,
  ⟨0x18, 1, 0, 1, 0, 7, 1, .w1c, 0⟩,
  ⟨0x10, 1, 0, 1, 0, 7, 1, .w1c, 0⟩,
  ⟨0x14, 1, 0, 1, 0, 7, 1, .rw, 0⟩,
  ⟨0x18, 1, 0, 1, 0, 6, 1, .w1c, 0⟩,
  ⟨0x10, 1, 0, 1, 0, 6, 1, .w1c, 0⟩,
  ⟨0x14, 1, 0, 1, 0, 6, 1, .rw, 0⟩,
  ⟨0x18, 1, 0, 1, 0, 5, 1, .w1c, 0⟩,
  ⟨0x10, 1, 0, 1, 0, 5, 1, .w1c, 0⟩,
  ⟨0x14, 1, 0, 1, 0, 5, 1, .rw, 0⟩,
  ⟨0x18, 1, 0, 1, 0, 4, 1, .w1c, 0⟩,
  ⟨0x10, 1, 0, 1, 0, 4, 1, .w1c, 0⟩,
  ⟨0x14, 1, 0, 1, 0, 4, 1, .rw, 0⟩,
  ⟨0x18, 1, 0, 1, 0, 3, 1, .w1c, 0⟩,
  ⟨0x10, 1, 0, 1, 0, 3, 1, .w1c, 0⟩,
  ⟨0x14, 1, 0, 1, 0, 3, 1, .rw, 0⟩,
  ⟨0x18, 1, 0, 1, 0, 2, 1, .w1c, 0⟩,
  ⟨0x10, 1, 0, 1, 0, 2, 1, .w1c, 0⟩,
  ⟨0x14, 1, 0, 1, 0, 2, 1, .rw, 0⟩,
  ⟨0x18, 1, 0, 1, 0, 1, 1, .w1c, 0⟩,
  ⟨0x10, 1, 0, 1, 0, 1, 1, .w1c, 0⟩,
  ⟨0x14, 1, 0, 1, 0, 1, 1, .rw, 0⟩,
  ⟨0x18, 1, 0, 1, 0, 0, 1, .w1c, 0⟩,
  ⟨0x10, 1, 0, 1, 0, 0, 1, .w1c, 0⟩,
  ⟨0x14, 1, 0, 1, 0, 0, 1, .rw, 0⟩]

/-- Rows of page CLK (part 2 of 2): see the register table of its chapter. -/
def clkRows1 : List Row := [
  ⟨0x40, 1, 0, 1, 0, 0, 8, .rws, 0⟩,
  ⟨0x44, 1, 0, 1, 0, 0, 8, .ro, 0⟩,
  ⟨0x48, 1, 0, 1, 0, 25, 1, .ro, 0⟩,
  ⟨0x48, 1, 0, 1, 0, 24, 1, .ro, 0⟩,
  ⟨0x48, 1, 0, 1, 0, 12, 12, .ro, 0⟩,
  ⟨0x48, 1, 0, 1, 0, 0, 12, .ro, 0⟩,
  ⟨0x4c, 1, 0, 1, 0, 2, 1, .wo, 0⟩,
  ⟨0x4c, 1, 0, 1, 0, 1, 1, .wo, 0⟩,
  ⟨0x4c, 1, 0, 1, 0, 0, 1, .wo, 0⟩,
  ⟨0x50, 1, 0, 1, 0, 0, 32, .ro, 0⟩]

/-- All rows of page CLK. -/
def clkRows : List Row := clkRows0 ++ clkRows1

/-- Rows of page TIM (part 1 of 1): see the register table of its chapter. -/
def timRows : List Row := [
  ⟨8, 1, 0, 1, 0, 8, 2, .rw, 1⟩,
  ⟨8, 1, 0, 1, 0, 4, 1, .rw, 1⟩,
  ⟨8, 1, 0, 1, 0, 3, 1, .rw, 0⟩,
  ⟨8, 1, 0, 1, 0, 2, 1, .rw, 0⟩,
  ⟨8, 1, 0, 1, 0, 1, 1, .rw, 0⟩,
  ⟨8, 1, 0, 1, 0, 0, 1, .rw, 1⟩,
  ⟨0xc, 1, 0, 1, 0, 5, 1, .ro, 0⟩,
  ⟨0xc, 1, 0, 1, 0, 4, 1, .ro, 0⟩,
  ⟨0xc, 1, 0, 1, 0, 3, 1, .ro, 0⟩,
  ⟨0xc, 1, 0, 1, 0, 2, 1, .ro, 0⟩,
  ⟨0xc, 1, 0, 1, 0, 1, 1, .ro, 0⟩,
  ⟨0xc, 1, 0, 1, 0, 0, 1, .ro, 0⟩,
  ⟨0x18, 1, 0, 1, 0, 3, 1, .w1c, 0⟩,
  ⟨0x10, 1, 0, 1, 0, 3, 1, .w1c, 0⟩,
  ⟨0x14, 1, 0, 1, 0, 3, 1, .rw, 0⟩,
  ⟨0x18, 1, 0, 1, 0, 2, 1, .w1c, 0⟩,
  ⟨0x10, 1, 0, 1, 0, 2, 1, .w1c, 0⟩,
  ⟨0x14, 1, 0, 1, 0, 2, 1, .rw, 0⟩,
  ⟨0x18, 1, 0, 1, 0, 1, 1, .w1c, 0⟩,
  ⟨0x10, 1, 0, 1, 0, 1, 1, .w1c, 0⟩,
  ⟨0x14, 1, 0, 1, 0, 1, 1, .rw, 0⟩,
  ⟨0x18, 1, 0, 1, 0, 0, 1, .w1c, 0⟩,
  ⟨0x10, 1, 0, 1, 0, 0, 1, .w1c, 0⟩,
  ⟨0x14, 1, 0, 1, 0, 0, 1, .rw, 0⟩,
  ⟨0x40, 1, 0, 1, 0, 0, 32, .ro, 0⟩,
  ⟨0x44, 1, 0, 1, 0, 0, 32, .ro, 0⟩,
  ⟨0x48, 1, 0, 1, 0, 0, 32, .ro, 0⟩,
  ⟨0x4c, 1, 0, 1, 0, 0, 16, .ro, 0⟩,
  ⟨0x50, 1, 0, 1, 0, 0, 32, .rws, 0⟩,
  ⟨0x54, 1, 0, 1, 0, 0, 16, .rws, 0⟩,
  ⟨0x58, 1, 0, 1, 0, 2, 1, .wo, 0⟩,
  ⟨0x58, 1, 0, 1, 0, 1, 1, .wo, 0⟩,
  ⟨0x58, 1, 0, 1, 0, 0, 1, .wo, 0⟩,
  ⟨0x5c, 1, 0, 1, 0, 0, 16, .rw, 0⟩,
  ⟨0x60, 1, 0, 1, 0, 0, 16, .rw, 0⟩,
  ⟨0x64, 1, 0, 1, 0, 0, 32, .ro, 0⟩,
  ⟨0x10, 1, 0, 1, 0, 8, 1, .w1c, 0⟩,
  ⟨0x14, 1, 0, 1, 0, 8, 1, .rw, 0⟩]

/-- Rows of page MON (part 1 of 1): see the register table of its chapter. -/
def monRows : List Row := [
  ⟨8, 1, 0, 1, 0, 0, 1, .rw, 1⟩,
  ⟨0xc, 1, 0, 1, 0, 8, 8, .ro, 0⟩,
  ⟨0xc, 1, 0, 1, 0, 1, 1, .ro, 0⟩,
  ⟨0xc, 1, 0, 1, 0, 0, 1, .ro, 0⟩,
  ⟨0x18, 1, 0, 1, 0, 4, 1, .w1c, 0⟩,
  ⟨0x10, 1, 0, 1, 0, 4, 1, .w1c, 0⟩,
  ⟨0x14, 1, 0, 1, 0, 4, 1, .rw, 0⟩,
  ⟨0x18, 1, 0, 1, 0, 3, 1, .w1c, 0⟩,
  ⟨0x10, 1, 0, 1, 0, 3, 1, .w1c, 0⟩,
  ⟨0x14, 1, 0, 1, 0, 3, 1, .rw, 0⟩,
  ⟨0x18, 1, 0, 1, 0, 2, 1, .w1c, 0⟩,
  ⟨0x10, 1, 0, 1, 0, 2, 1, .w1c, 0⟩,
  ⟨0x14, 1, 0, 1, 0, 2, 1, .rw, 0⟩,
  ⟨0x18, 1, 0, 1, 0, 1, 1, .w1c, 0⟩,
  ⟨0x10, 1, 0, 1, 0, 1, 1, .w1c, 0⟩,
  ⟨0x14, 1, 0, 1, 0, 1, 1, .rw, 0⟩,
  ⟨0x18, 1, 0, 1, 0, 0, 1, .w1c, 0⟩,
  ⟨0x10, 1, 0, 1, 0, 0, 1, .w1c, 0⟩,
  ⟨0x14, 1, 0, 1, 0, 0, 1, .rw, 0⟩,
  ⟨0x40, 6, 4, 1, 0, 0, 16, .ro, 0⟩,
  ⟨0x58, 1, 0, 1, 0, 16, 8, .rws, 0x73⟩,
  ⟨0x58, 1, 0, 1, 0, 0, 8, .rws, 0xd8⟩,
  ⟨0x5c, 1, 0, 1, 0, 0, 10, .rw, 0x1f4⟩,
  ⟨0x60, 1, 0, 1, 0, 0, 2, .rw, 0⟩,
  ⟨0x64, 6, 4, 1, 0, 0, 16, .ro, 0⟩,
  ⟨0x80, 8, 4, 1, 0, 0, 32, .ro, 0⟩,
  ⟨0xa0, 8, 4, 1, 0, 0, 32, .ro, 0⟩,
  ⟨0xc0, 1, 0, 1, 0, 0, 32, .ro, 0⟩,
  ⟨0xc4, 1, 0, 1, 0, 0, 1, .wo, 0⟩]

/-- Rows of page SEC (part 1 of 1): see the register table of its chapter. -/
def secRows : List Row := [
  ⟨8, 1, 0, 1, 0, 0, 1, .rw, 1⟩,
  ⟨0xc, 1, 0, 1, 0, 5, 1, .ro, 0⟩,
  ⟨0xc, 1, 0, 1, 0, 4, 1, .ro, 1⟩,
  ⟨0xc, 1, 0, 1, 0, 3, 1, .ro, 0⟩,
  ⟨0xc, 1, 0, 1, 0, 2, 1, .ro, 0⟩,
  ⟨0xc, 1, 0, 1, 0, 1, 1, .ro, 0⟩,
  ⟨0xc, 1, 0, 1, 0, 0, 1, .ro, 0⟩,
  ⟨0x18, 1, 0, 1, 0, 2, 1, .w1c, 0⟩,
  ⟨0x10, 1, 0, 1, 0, 2, 1, .w1c, 0⟩,
  ⟨0x14, 1, 0, 1, 0, 2, 1, .rw, 0⟩,
  ⟨0x18, 1, 0, 1, 0, 1, 1, .w1c, 0⟩,
  ⟨0x10, 1, 0, 1, 0, 1, 1, .w1c, 0⟩,
  ⟨0x14, 1, 0, 1, 0, 1, 1, .rw, 0⟩,
  ⟨0x18, 1, 0, 1, 0, 0, 1, .w1c, 0⟩,
  ⟨0x10, 1, 0, 1, 0, 0, 1, .w1c, 0⟩,
  ⟨0x14, 1, 0, 1, 0, 0, 1, .rw, 0⟩,
  ⟨0x40, 1, 0, 1, 0, 0, 32, .ro, 0⟩,
  ⟨0x44, 1, 0, 1, 0, 0, 32, .ro, 0⟩,
  ⟨0x48, 1, 0, 1, 0, 16, 16, .wo, 0⟩,
  ⟨0x48, 1, 0, 1, 0, 4, 1, .wo, 0⟩,
  ⟨0x48, 1, 0, 1, 0, 3, 1, .wo, 0⟩,
  ⟨0x48, 1, 0, 1, 0, 2, 1, .wo, 0⟩,
  ⟨0x48, 1, 0, 1, 0, 1, 1, .wo, 0⟩,
  ⟨0x48, 1, 0, 1, 0, 0, 1, .wo, 0⟩,
  ⟨0x4c, 1, 0, 1, 0, 0, 32, .ro, 0⟩,
  ⟨0x50, 1, 0, 1, 0, 0, 32, .ro, 0⟩,
  ⟨0x80, 16, 4, 1, 0, 0, 32, .ro, 0⟩,
  ⟨0xc0, 16, 4, 1, 0, 0, 32, .rw, 0⟩,
  ⟨0x200, 8, 4, 1, 0, 0, 32, .rw, 0⟩,
  ⟨0x240, 16, 4, 1, 0, 0, 32, .ro, 0⟩]

/-- Rows of page CRN (part 1 of 1): see the register table of its chapter. -/
def crnRows : List Row := [
  ⟨8, 1, 0, 1, 0, 2, 2, .rw, 0⟩,
  ⟨8, 1, 0, 1, 0, 1, 1, .rw, 0⟩,
  ⟨8, 1, 0, 1, 0, 0, 1, .rw, 1⟩,
  ⟨0xc, 1, 0, 1, 0, 16, 1, .ro, 0⟩,
  ⟨0xc, 1, 0, 1, 0, 0, 16, .ro, 0⟩,
  ⟨0x18, 1, 0, 1, 0, 2, 1, .w1c, 0⟩,
  ⟨0x10, 1, 0, 1, 0, 2, 1, .w1c, 0⟩,
  ⟨0x14, 1, 0, 1, 0, 2, 1, .rw, 0⟩,
  ⟨0x18, 1, 0, 1, 0, 1, 1, .w1c, 0⟩,
  ⟨0x10, 1, 0, 1, 0, 1, 1, .w1c, 0⟩,
  ⟨0x14, 1, 0, 1, 0, 1, 1, .rw, 0⟩,
  ⟨0x18, 1, 0, 1, 0, 0, 1, .w1c, 0⟩,
  ⟨0x10, 1, 0, 1, 0, 0, 1, .w1c, 0⟩,
  ⟨0x14, 1, 0, 1, 0, 0, 1, .rw, 0⟩,
  ⟨0x40, 1, 0, 1, 0, 0, 1, .wo, 0⟩,
  ⟨0x44, 1, 0, 1, 0, 0, 1, .wo, 0⟩,
  ⟨0x48, 1, 0, 1, 0, 0, 9, .rw, 0⟩,
  ⟨0x4c, 1, 0, 1, 0, 16, 9, .ro, 0⟩,
  ⟨0x4c, 1, 0, 1, 0, 0, 4, .ro, 0⟩,
  ⟨0x50, 3, 4, 1, 0, 0, 32, .ro, 0⟩,
  ⟨0x5c, 1, 0, 1, 0, 0, 16, .ro, 0⟩,
  ⟨0x60, 1, 0, 1, 0, 0, 32, .ro, 0⟩]

/-- Rows of page CFG (part 1 of 2): see the register table of its chapter. -/
def cfgRows0 : List Row := [
  ⟨8, 1, 0, 1, 0, 2, 1, .rw, 0⟩,
  ⟨8, 1, 0, 1, 0, 1, 1, .rw, 0⟩,
  ⟨8, 1, 0, 1, 0, 0, 1, .rw, 1⟩,
  ⟨0xc, 1, 0, 1, 0, 6, 2, .ro, 2⟩,
  ⟨0xc, 1, 0, 1, 0, 5, 1, .ro, 0⟩,
  ⟨0xc, 1, 0, 1, 0, 4, 1, .ro, 0⟩,
  ⟨0xc, 1, 0, 1, 0, 3, 1, .ro, 0⟩,
  ⟨0xc, 1, 0, 1, 0, 2, 1, .ro, 0⟩,
  ⟨0xc, 1, 0, 1, 0, 1, 1, .ro, 0⟩,
  ⟨0xc, 1, 0, 1, 0, 0, 1, .ro, 0⟩,
  ⟨0x18, 1, 0, 1, 0, 6, 1, .w1c, 0⟩,
  ⟨0x10, 1, 0, 1, 0, 6, 1, .w1c, 0⟩,
  ⟨0x14, 1, 0, 1, 0, 6, 1, .rw, 0⟩,
  ⟨0x18, 1, 0, 1, 0, 5, 1, .w1c, 0⟩,
  ⟨0x10, 1, 0, 1, 0, 5, 1, .w1c, 0⟩,
  ⟨0x14, 1, 0, 1, 0, 5, 1, .rw, 0⟩,
  ⟨0x18, 1, 0, 1, 0, 4, 1, .w1c, 0⟩,
  ⟨0x10, 1, 0, 1, 0, 4, 1, .w1c, 0⟩,
  ⟨0x14, 1, 0, 1, 0, 4, 1, .rw, 0⟩,
  ⟨0x18, 1, 0, 1, 0, 3, 1, .w1c, 0⟩,
  ⟨0x10, 1, 0, 1, 0, 3, 1, .w1c, 0⟩,
  ⟨0x14, 1, 0, 1, 0, 3, 1, .rw, 0⟩,
  ⟨0x18, 1, 0, 1, 0, 2, 1, .w1c, 0⟩,
  ⟨0x10, 1, 0, 1, 0, 2, 1, .w1c, 0⟩,
  ⟨0x14, 1, 0, 1, 0, 2, 1, .rw, 0⟩,
  ⟨0x18, 1, 0, 1, 0, 1, 1, .w1c, 0⟩,
  ⟨0x10, 1, 0, 1, 0, 1, 1, .w1c, 0⟩,
  ⟨0x14, 1, 0, 1, 0, 1, 1, .rw, 0⟩,
  ⟨0x18, 1, 0, 1, 0, 0, 1, .w1c, 0⟩,
  ⟨0x10, 1, 0, 1, 0, 0, 1, .w1c, 0⟩,
  ⟨0x14, 1, 0, 1, 0, 0, 1, .rw, 0⟩,
  ⟨0x40, 1, 0, 1, 0, 0, 32, .ro, 0⟩,
  ⟨0x44, 1, 0, 1, 0, 0, 32, .ro, 0⟩,
  ⟨0x48, 1, 0, 1, 0, 0, 32, .ro, 0⟩,
  ⟨0x4c, 1, 0, 1, 0, 1, 1, .wo, 0⟩,
  ⟨0x4c, 1, 0, 1, 0, 0, 1, .wo, 0⟩,
  ⟨0x50, 1, 0, 1, 0, 28, 4, .ro, 0⟩,
  ⟨0x50, 1, 0, 1, 0, 24, 1, .ro, 0⟩,
  ⟨0x50, 1, 0, 1, 0, 0, 24, .ro, 0⟩,
  ⟨0x54, 1, 0, 1, 0, 0, 24, .ro, 0⟩]

/-- Rows of page CFG (part 2 of 2): see the register table of its chapter. -/
def cfgRows1 : List Row := [
  ⟨0x58, 1, 0, 1, 0, 0, 32, .ro, 0⟩]

/-- All rows of page CFG. -/
def cfgRows : List Row := cfgRows0 ++ cfgRows1

/-- Rows of page HST (part 1 of 1): see the register table of its chapter. -/
def hstRows : List Row := [
  ⟨8, 1, 0, 1, 0, 2, 1, .rw, 0⟩,
  ⟨8, 1, 0, 1, 0, 1, 1, .rw, 1⟩,
  ⟨8, 1, 0, 1, 0, 0, 1, .rw, 1⟩,
  ⟨0xc, 1, 0, 1, 0, 8, 8, .ro, 0x40⟩,
  ⟨0xc, 1, 0, 1, 0, 2, 1, .ro, 0⟩,
  ⟨0xc, 1, 0, 1, 0, 1, 1, .ro, 0⟩,
  ⟨0xc, 1, 0, 1, 0, 0, 1, .ro, 0⟩,
  ⟨0x18, 1, 0, 1, 0, 7, 1, .w1c, 0⟩,
  ⟨0x10, 1, 0, 1, 0, 7, 1, .w1c, 0⟩,
  ⟨0x14, 1, 0, 1, 0, 7, 1, .rw, 0⟩,
  ⟨0x18, 1, 0, 1, 0, 6, 1, .w1c, 0⟩,
  ⟨0x10, 1, 0, 1, 0, 6, 1, .w1c, 0⟩,
  ⟨0x14, 1, 0, 1, 0, 6, 1, .rw, 0⟩,
  ⟨0x18, 1, 0, 1, 0, 5, 1, .w1c, 0⟩,
  ⟨0x10, 1, 0, 1, 0, 5, 1, .w1c, 0⟩,
  ⟨0x14, 1, 0, 1, 0, 5, 1, .rw, 0⟩,
  ⟨0x18, 1, 0, 1, 0, 4, 1, .w1c, 0⟩,
  ⟨0x10, 1, 0, 1, 0, 4, 1, .w1c, 0⟩,
  ⟨0x14, 1, 0, 1, 0, 4, 1, .rw, 0⟩,
  ⟨0x18, 1, 0, 1, 0, 3, 1, .w1c, 0⟩,
  ⟨0x10, 1, 0, 1, 0, 3, 1, .w1c, 0⟩,
  ⟨0x14, 1, 0, 1, 0, 3, 1, .rw, 0⟩,
  ⟨0x18, 1, 0, 1, 0, 2, 1, .w1c, 0⟩,
  ⟨0x10, 1, 0, 1, 0, 2, 1, .w1c, 0⟩,
  ⟨0x14, 1, 0, 1, 0, 2, 1, .rw, 0⟩,
  ⟨0x18, 1, 0, 1, 0, 1, 1, .w1c, 0⟩,
  ⟨0x10, 1, 0, 1, 0, 1, 1, .w1c, 0⟩,
  ⟨0x14, 1, 0, 1, 0, 1, 1, .rw, 0⟩,
  ⟨0x18, 1, 0, 1, 0, 0, 1, .w1c, 0⟩,
  ⟨0x10, 1, 0, 1, 0, 0, 1, .w1c, 0⟩,
  ⟨0x14, 1, 0, 1, 0, 0, 1, .rw, 0⟩,
  ⟨0x40, 1, 0, 1, 0, 0, 4, .rw, 8⟩,
  ⟨0x44, 1, 0, 1, 0, 0, 32, .ro, 0⟩,
  ⟨0x48, 1, 0, 1, 0, 0, 12, .ro, 0⟩,
  ⟨0x4c, 1, 0, 1, 0, 0, 32, .rw, 0⟩,
  ⟨0x50, 1, 0, 1, 0, 0, 12, .rw, 0⟩,
  ⟨0x54, 1, 0, 1, 0, 1, 1, .rw, 1⟩,
  ⟨0x54, 1, 0, 1, 0, 0, 1, .rw, 1⟩,
  ⟨0x58, 1, 0, 1, 0, 0, 24, .ro, 0⟩,
  ⟨0x5c, 1, 0, 1, 0, 0, 32, .ro, 0⟩]

/-- Rows of page LNK0 (part 1 of 3): see the register table of its chapter. -/
def lnkRows0 : List Row := [
  ⟨8, 1, 0, 1, 0, 12, 4, .rw, 8⟩,
  ⟨8, 1, 0, 1, 0, 8, 1, .rw, 0⟩,
  ⟨8, 1, 0, 1, 0, 7, 1, .rw, 0⟩,
  ⟨8, 1, 0, 1, 0, 6, 1, .rw, 1⟩,
  ⟨8, 1, 0, 1, 0, 5, 1, .rw, 0⟩,
  ⟨8, 1, 0, 1, 0, 4, 1, .rw, 1⟩,
  ⟨8, 1, 0, 1, 0, 3, 1, .rw, 0⟩,
  ⟨8, 1, 0, 1, 0, 1, 2, .rw, 0⟩,
  ⟨8, 1, 0, 1, 0, 0, 1, .rw, 0⟩,
  ⟨0xc, 1, 0, 1, 0, 24, 1, .ro, 0⟩,
  ⟨0xc, 1, 0, 1, 0, 16, 8, .ro, 0⟩,
  ⟨0xc, 1, 0, 1, 0, 15, 1, .ro, 0⟩,
  ⟨0xc, 1, 0, 1, 0, 12, 3, .ro, 0⟩,
  ⟨0xc, 1, 0, 1, 0, 9, 1, .ro, 0⟩,
  ⟨0xc, 1, 0, 1, 0, 8, 1, .ro, 0⟩,
  ⟨0xc, 1, 0, 1, 0, 7, 1, .ro, 0⟩,
  ⟨0xc, 1, 0, 1, 0, 6, 1, .ro, 0⟩,
  ⟨0xc, 1, 0, 1, 0, 5, 1, .ro, 0⟩,
  ⟨0xc, 1, 0, 1, 0, 4, 1, .ro, 0⟩,
  ⟨0xc, 1, 0, 1, 0, 0, 4, .ro, 1⟩,
  ⟨0x18, 1, 0, 1, 0, 11, 1, .w1c, 0⟩,
  ⟨0x10, 1, 0, 1, 0, 11, 1, .w1c, 0⟩,
  ⟨0x14, 1, 0, 1, 0, 11, 1, .rw, 0⟩,
  ⟨0x18, 1, 0, 1, 0, 10, 1, .w1c, 0⟩,
  ⟨0x10, 1, 0, 1, 0, 10, 1, .w1c, 0⟩,
  ⟨0x14, 1, 0, 1, 0, 10, 1, .rw, 0⟩,
  ⟨0x18, 1, 0, 1, 0, 9, 1, .w1c, 0⟩,
  ⟨0x10, 1, 0, 1, 0, 9, 1, .w1c, 0⟩,
  ⟨0x14, 1, 0, 1, 0, 9, 1, .rw, 0⟩,
  ⟨0x18, 1, 0, 1, 0, 8, 1, .w1c, 0⟩,
  ⟨0x10, 1, 0, 1, 0, 8, 1, .w1c, 0⟩,
  ⟨0x14, 1, 0, 1, 0, 8, 1, .rw, 0⟩,
  ⟨0x18, 1, 0, 1, 0, 7, 1, .w1c, 0⟩,
  ⟨0x10, 1, 0, 1, 0, 7, 1, .w1c, 0⟩,
  ⟨0x14, 1, 0, 1, 0, 7, 1, .rw, 0⟩,
  ⟨0x18, 1, 0, 1, 0, 6, 1, .w1c, 0⟩,
  ⟨0x10, 1, 0, 1, 0, 6, 1, .w1c, 0⟩,
  ⟨0x14, 1, 0, 1, 0, 6, 1, .rw, 0⟩,
  ⟨0x18, 1, 0, 1, 0, 5, 1, .w1c, 0⟩,
  ⟨0x10, 1, 0, 1, 0, 5, 1, .w1c, 0⟩]

/-- Rows of page LNK0 (part 2 of 3): see the register table of its chapter. -/
def lnkRows1 : List Row := [
  ⟨0x14, 1, 0, 1, 0, 5, 1, .rw, 0⟩,
  ⟨0x18, 1, 0, 1, 0, 4, 1, .w1c, 0⟩,
  ⟨0x10, 1, 0, 1, 0, 4, 1, .w1c, 0⟩,
  ⟨0x14, 1, 0, 1, 0, 4, 1, .rw, 0⟩,
  ⟨0x18, 1, 0, 1, 0, 3, 1, .w1c, 0⟩,
  ⟨0x10, 1, 0, 1, 0, 3, 1, .w1c, 0⟩,
  ⟨0x14, 1, 0, 1, 0, 3, 1, .rw, 0⟩,
  ⟨0x18, 1, 0, 1, 0, 2, 1, .w1c, 0⟩,
  ⟨0x10, 1, 0, 1, 0, 2, 1, .w1c, 0⟩,
  ⟨0x14, 1, 0, 1, 0, 2, 1, .rw, 0⟩,
  ⟨0x18, 1, 0, 1, 0, 1, 1, .w1c, 0⟩,
  ⟨0x10, 1, 0, 1, 0, 1, 1, .w1c, 0⟩,
  ⟨0x14, 1, 0, 1, 0, 1, 1, .rw, 0⟩,
  ⟨0x18, 1, 0, 1, 0, 0, 1, .w1c, 0⟩,
  ⟨0x10, 1, 0, 1, 0, 0, 1, .w1c, 0⟩,
  ⟨0x14, 1, 0, 1, 0, 0, 1, .rw, 0⟩,
  ⟨0x40, 1, 0, 1, 0, 4, 4, .rw, 5⟩,
  ⟨0x40, 1, 0, 1, 0, 0, 4, .rw, 0xa⟩,
  ⟨0x44, 1, 0, 1, 0, 4, 1, .rw, 1⟩,
  ⟨0x44, 1, 0, 1, 0, 0, 4, .rw, 6⟩,
  ⟨0x48, 1, 0, 1, 0, 3, 1, .wo, 0⟩,
  ⟨0x48, 1, 0, 1, 0, 2, 1, .wo, 0⟩,
  ⟨0x48, 1, 0, 1, 0, 1, 1, .wo, 0⟩,
  ⟨0x48, 1, 0, 1, 0, 0, 1, .wo, 0⟩,
  ⟨0x4c, 1, 0, 1, 0, 2, 1, .rw, 0⟩,
  ⟨0x4c, 1, 0, 1, 0, 0, 2, .rw, 0⟩,
  ⟨0x50, 1, 0, 1, 0, 4, 2, .rw, 0⟩,
  ⟨0x50, 1, 0, 1, 0, 0, 2, .rw, 0⟩,
  ⟨0x54, 1, 0, 1, 0, 1, 1, .ro, 0⟩,
  ⟨0x54, 1, 0, 1, 0, 0, 1, .ro, 0⟩,
  ⟨0x58, 1, 0, 1, 0, 0, 32, .ro, 0⟩,
  ⟨0x5c, 1, 0, 1, 0, 0, 16, .ro, 0⟩,
  ⟨0x60, 1, 0, 1, 0, 0, 32, .ro, 0⟩,
  ⟨0x64, 1, 0, 1, 0, 16, 16, .ro, 0⟩,
  ⟨0x64, 1, 0, 1, 0, 0, 8, .ro, 0⟩,
  ⟨0x68, 1, 0, 1, 0, 0, 11, .ro, 0⟩,
  ⟨0x6c, 1, 0, 1, 0, 0, 32, .ro, 0⟩,
  ⟨0x70, 1, 0, 1, 0, 0, 32, .ro, 0⟩,
  ⟨0x74, 1, 0, 1, 0, 0, 32, .ro, 0⟩,
  ⟨0x78, 1, 0, 1, 0, 0, 32, .rw, 0⟩]

/-- Rows of page LNK0 (part 3 of 3): see the register table of its chapter. -/
def lnkRows2 : List Row := [
  ⟨0x7c, 1, 0, 1, 0, 0, 32, .rw, 0⟩,
  ⟨0x80, 1, 0, 1, 0, 0, 32, .ro, 0⟩,
  ⟨0x84, 1, 0, 1, 0, 0, 32, .ro, 0⟩]

/-- All rows of page LNK0. -/
def lnkRows : List Row := lnkRows0 ++ lnkRows1 ++ lnkRows2

/-- Rows of page RDG (part 1 of 3): see the register table of its chapter. -/
def rdgRows0 : List Row := [
  ⟨8, 1, 0, 1, 0, 3, 1, .rw, 1⟩,
  ⟨8, 1, 0, 1, 0, 2, 1, .rw, 0⟩,
  ⟨8, 1, 0, 1, 0, 1, 1, .rw, 1⟩,
  ⟨8, 1, 0, 1, 0, 0, 1, .rw, 0⟩,
  ⟨0xc, 1, 0, 1, 0, 24, 8, .ro, 0xff⟩,
  ⟨0xc, 1, 0, 1, 0, 20, 3, .ro, 0⟩,
  ⟨0xc, 1, 0, 1, 0, 19, 1, .ro, 0⟩,
  ⟨0xc, 1, 0, 1, 0, 3, 1, .ro, 0⟩,
  ⟨0xc, 1, 0, 1, 0, 2, 1, .ro, 0⟩,
  ⟨0xc, 1, 0, 1, 0, 1, 1, .ro, 0⟩,
  ⟨0xc, 1, 0, 1, 0, 0, 1, .ro, 0⟩,
  ⟨0x18, 1, 0, 1, 0, 14, 1, .w1c, 0⟩,
  ⟨0x10, 1, 0, 1, 0, 14, 1, .w1c, 0⟩,
  ⟨0x14, 1, 0, 1, 0, 14, 1, .rw, 0⟩,
  ⟨0x18, 1, 0, 1, 0, 13, 1, .w1c, 0⟩,
  ⟨0x10, 1, 0, 1, 0, 13, 1, .w1c, 0⟩,
  ⟨0x14, 1, 0, 1, 0, 13, 1, .rw, 0⟩,
  ⟨0x18, 1, 0, 1, 0, 12, 1, .w1c, 0⟩,
  ⟨0x10, 1, 0, 1, 0, 12, 1, .w1c, 0⟩,
  ⟨0x14, 1, 0, 1, 0, 12, 1, .rw, 0⟩,
  ⟨0x18, 1, 0, 1, 0, 11, 1, .w1c, 0⟩,
  ⟨0x10, 1, 0, 1, 0, 11, 1, .w1c, 0⟩,
  ⟨0x14, 1, 0, 1, 0, 11, 1, .rw, 0⟩,
  ⟨0x18, 1, 0, 1, 0, 10, 1, .w1c, 0⟩,
  ⟨0x10, 1, 0, 1, 0, 10, 1, .w1c, 0⟩,
  ⟨0x14, 1, 0, 1, 0, 10, 1, .rw, 0⟩,
  ⟨0x18, 1, 0, 1, 0, 9, 1, .w1c, 0⟩,
  ⟨0x10, 1, 0, 1, 0, 9, 1, .w1c, 0⟩,
  ⟨0x14, 1, 0, 1, 0, 9, 1, .rw, 0⟩,
  ⟨0x18, 1, 0, 1, 0, 8, 1, .w1c, 0⟩,
  ⟨0x10, 1, 0, 1, 0, 8, 1, .w1c, 0⟩,
  ⟨0x14, 1, 0, 1, 0, 8, 1, .rw, 0⟩,
  ⟨0x18, 1, 0, 1, 0, 7, 1, .w1c, 0⟩,
  ⟨0x10, 1, 0, 1, 0, 7, 1, .w1c, 0⟩,
  ⟨0x14, 1, 0, 1, 0, 7, 1, .rw, 0⟩,
  ⟨0x18, 1, 0, 1, 0, 6, 1, .w1c, 0⟩,
  ⟨0x10, 1, 0, 1, 0, 6, 1, .w1c, 0⟩,
  ⟨0x14, 1, 0, 1, 0, 6, 1, .rw, 0⟩,
  ⟨0x18, 1, 0, 1, 0, 5, 1, .w1c, 0⟩,
  ⟨0x10, 1, 0, 1, 0, 5, 1, .w1c, 0⟩]

/-- Rows of page RDG (part 2 of 3): see the register table of its chapter. -/
def rdgRows1 : List Row := [
  ⟨0x14, 1, 0, 1, 0, 5, 1, .rw, 0⟩,
  ⟨0x18, 1, 0, 1, 0, 4, 1, .w1c, 0⟩,
  ⟨0x10, 1, 0, 1, 0, 4, 1, .w1c, 0⟩,
  ⟨0x14, 1, 0, 1, 0, 4, 1, .rw, 0⟩,
  ⟨0x18, 1, 0, 1, 0, 3, 1, .w1c, 0⟩,
  ⟨0x10, 1, 0, 1, 0, 3, 1, .w1c, 0⟩,
  ⟨0x14, 1, 0, 1, 0, 3, 1, .rw, 0⟩,
  ⟨0x18, 1, 0, 1, 0, 2, 1, .w1c, 0⟩,
  ⟨0x10, 1, 0, 1, 0, 2, 1, .w1c, 0⟩,
  ⟨0x14, 1, 0, 1, 0, 2, 1, .rw, 0⟩,
  ⟨0x18, 1, 0, 1, 0, 1, 1, .w1c, 0⟩,
  ⟨0x10, 1, 0, 1, 0, 1, 1, .w1c, 0⟩,
  ⟨0x14, 1, 0, 1, 0, 1, 1, .rw, 0⟩,
  ⟨0x18, 1, 0, 1, 0, 0, 1, .w1c, 0⟩,
  ⟨0x10, 1, 0, 1, 0, 0, 1, .w1c, 0⟩,
  ⟨0x14, 1, 0, 1, 0, 0, 1, .rw, 0⟩,
  ⟨0x40, 1, 0, 1, 0, 0, 12, .rw, 0xfff⟩,
  ⟨0x44, 1, 0, 1, 0, 16, 12, .rw, 0xffe⟩,
  ⟨0x44, 1, 0, 1, 0, 0, 12, .rw, 0⟩,
  ⟨0x48, 1, 0, 1, 0, 11, 1, .rw, 0⟩,
  ⟨0x48, 1, 0, 1, 0, 8, 3, .rw, 2⟩,
  ⟨0x48, 1, 0, 1, 0, 4, 3, .rw, 1⟩,
  ⟨0x48, 1, 0, 1, 0, 0, 3, .rw, 0⟩,
  ⟨0x4c, 4, 4, 1, 0, 31, 1, .rw, 0⟩,
  ⟨0x4c, 4, 4, 1, 0, 24, 3, .rw, 3⟩,
  ⟨0x4c, 4, 4, 1, 0, 12, 12, .rw, 0⟩,
  ⟨0x4c, 4, 4, 1, 0, 0, 12, .rw, 0⟩,
  ⟨0x5c, 1, 0, 1, 0, 0, 8, .rw, 0x80⟩,
  ⟨0x60, 1, 0, 1, 0, 16, 4, .rw, 6⟩,
  ⟨0x60, 1, 0, 1, 0, 8, 4, .rw, 2⟩,
  ⟨0x60, 1, 0, 1, 0, 0, 8, .rw, 1⟩,
  ⟨0x64, 1, 0, 1, 0, 0, 32, .ro, 0⟩,
  ⟨0x68, 1, 0, 1, 0, 0, 32, .ro, 0⟩,
  ⟨0x6c, 1, 0, 1, 0, 0, 16, .rw, 0⟩,
  ⟨0x70, 1, 0, 1, 0, 0, 16, .rw, 0⟩,
  ⟨0x74, 1, 0, 1, 0, 0, 12, .rw, 0xfff⟩,
  ⟨0x78, 1, 0, 1, 0, 1, 1, .wo, 0⟩,
  ⟨0x78, 1, 0, 1, 0, 0, 1, .wo, 0⟩,
  ⟨0x7c, 1, 0, 1, 0, 0, 16, .wo, 0⟩,
  ⟨0x80, 1, 0, 1, 0, 0, 12, .rw, 0⟩]

/-- Rows of page RDG (part 3 of 3): see the register table of its chapter. -/
def rdgRows2 : List Row := [
  ⟨0x84, 1, 0, 1, 0, 0, 24, .rw, 0⟩,
  ⟨0x88, 1, 0, 1, 0, 8, 1, .wo, 0⟩,
  ⟨0x88, 1, 0, 1, 0, 0, 4, .wo, 0⟩,
  ⟨0x8c, 1, 0, 1, 0, 4, 4, .ro, 0⟩,
  ⟨0x8c, 1, 0, 1, 0, 1, 1, .ro, 0⟩,
  ⟨0x8c, 1, 0, 1, 0, 0, 1, .ro, 0⟩,
  ⟨0x90, 8, 4, 1, 0, 0, 32, .rw, 0⟩,
  ⟨0xb0, 1, 0, 1, 0, 0, 16, .rw, 0x3e8⟩,
  ⟨0xb4, 1, 0, 1, 0, 8, 8, .ro, 0⟩,
  ⟨0xb4, 1, 0, 1, 0, 0, 8, .ro, 0⟩,
  ⟨0xb8, 1, 0, 1, 0, 0, 32, .ro, 0⟩,
  ⟨0xbc, 1, 0, 1, 0, 0, 32, .ro, 0⟩,
  ⟨0xc0, 1, 0, 1, 0, 0, 32, .ro, 0⟩,
  ⟨0xc4, 1, 0, 1, 0, 22, 5, .wo, 0⟩,
  ⟨0xc4, 1, 0, 1, 0, 0, 11, .wo, 0⟩,
  ⟨0xc8, 1, 0, 1, 0, 4, 4, .ro, 0⟩,
  ⟨0xc8, 1, 0, 1, 0, 1, 1, .ro, 0⟩,
  ⟨0xc8, 1, 0, 1, 0, 0, 1, .ro, 0⟩,
  ⟨0x200, 8, 4, 1, 0, 0, 16, .rw, 0⟩,
  ⟨0x220, 8, 4, 1, 0, 31, 1, .ro, 0⟩,
  ⟨0x220, 8, 4, 1, 0, 30, 1, .ro, 0⟩,
  ⟨0x220, 8, 4, 1, 0, 0, 16, .ro, 0⟩,
  ⟨0x300, 8, 0x10, 1, 0, 0, 32, .rws, 0⟩,
  ⟨0x304, 8, 0x10, 1, 0, 0, 16, .rws, 0⟩,
  ⟨0x308, 8, 0x10, 1, 0, 0, 30, .rws, 0⟩,
  ⟨0x30c, 8, 0x10, 1, 0, 8, 16, .rws, 0⟩,
  ⟨0x30c, 8, 0x10, 1, 0, 0, 4, .rws, 0⟩]

/-- All rows of page RDG. -/
def rdgRows : List Row := rdgRows0 ++ rdgRows1 ++ rdgRows2

/-- Rows of page BUT (part 1 of 2): see the register table of its chapter. -/
def butRows0 : List Row := [
  ⟨8, 1, 0, 1, 0, 2, 1, .rw, 1⟩,
  ⟨8, 1, 0, 1, 0, 1, 1, .rw, 0⟩,
  ⟨8, 1, 0, 1, 0, 0, 1, .rw, 0⟩,
  ⟨0xc, 1, 0, 1, 0, 16, 8, .ro, 0⟩,
  ⟨0xc, 1, 0, 1, 0, 8, 2, .ro, 0⟩,
  ⟨0xc, 1, 0, 1, 0, 7, 1, .ro, 0⟩,
  ⟨0xc, 1, 0, 1, 0, 6, 1, .ro, 0⟩,
  ⟨0xc, 1, 0, 1, 0, 5, 1, .ro, 0⟩,
  ⟨0xc, 1, 0, 1, 0, 4, 1, .ro, 0⟩,
  ⟨0xc, 1, 0, 1, 0, 3, 1, .ro, 0⟩,
  ⟨0xc, 1, 0, 1, 0, 0, 3, .ro, 0⟩,
  ⟨0x18, 1, 0, 1, 0, 9, 1, .w1c, 0⟩,
  ⟨0x10, 1, 0, 1, 0, 9, 1, .w1c, 0⟩,
  ⟨0x14, 1, 0, 1, 0, 9, 1, .rw, 0⟩,
  ⟨0x18, 1, 0, 1, 0, 8, 1, .w1c, 0⟩,
  ⟨0x10, 1, 0, 1, 0, 8, 1, .w1c, 0⟩,
  ⟨0x14, 1, 0, 1, 0, 8, 1, .rw, 0⟩,
  ⟨0x18, 1, 0, 1, 0, 7, 1, .w1c, 0⟩,
  ⟨0x10, 1, 0, 1, 0, 7, 1, .w1c, 0⟩,
  ⟨0x14, 1, 0, 1, 0, 7, 1, .rw, 0⟩,
  ⟨0x18, 1, 0, 1, 0, 6, 1, .w1c, 0⟩,
  ⟨0x10, 1, 0, 1, 0, 6, 1, .w1c, 0⟩,
  ⟨0x14, 1, 0, 1, 0, 6, 1, .rw, 0⟩,
  ⟨0x18, 1, 0, 1, 0, 5, 1, .w1c, 0⟩,
  ⟨0x10, 1, 0, 1, 0, 5, 1, .w1c, 0⟩,
  ⟨0x14, 1, 0, 1, 0, 5, 1, .rw, 0⟩,
  ⟨0x18, 1, 0, 1, 0, 4, 1, .w1c, 0⟩,
  ⟨0x10, 1, 0, 1, 0, 4, 1, .w1c, 0⟩,
  ⟨0x14, 1, 0, 1, 0, 4, 1, .rw, 0⟩,
  ⟨0x18, 1, 0, 1, 0, 3, 1, .w1c, 0⟩,
  ⟨0x10, 1, 0, 1, 0, 3, 1, .w1c, 0⟩,
  ⟨0x14, 1, 0, 1, 0, 3, 1, .rw, 0⟩,
  ⟨0x18, 1, 0, 1, 0, 2, 1, .w1c, 0⟩,
  ⟨0x10, 1, 0, 1, 0, 2, 1, .w1c, 0⟩,
  ⟨0x14, 1, 0, 1, 0, 2, 1, .rw, 0⟩,
  ⟨0x18, 1, 0, 1, 0, 1, 1, .w1c, 0⟩,
  ⟨0x10, 1, 0, 1, 0, 1, 1, .w1c, 0⟩,
  ⟨0x14, 1, 0, 1, 0, 1, 1, .rw, 0⟩,
  ⟨0x18, 1, 0, 1, 0, 0, 1, .w1c, 0⟩,
  ⟨0x10, 1, 0, 1, 0, 0, 1, .w1c, 0⟩]

/-- Rows of page BUT (part 2 of 2): see the register table of its chapter. -/
def butRows1 : List Row := [
  ⟨0x14, 1, 0, 1, 0, 0, 1, .rw, 0⟩,
  ⟨0x40, 1, 0, 1, 0, 0, 16, .rw, 0xa⟩,
  ⟨0x44, 1, 0, 1, 0, 0, 7, .ro, 0⟩,
  ⟨0x48, 1, 0, 1, 0, 0, 1, .wo, 0⟩,
  ⟨0x4c, 1, 0, 1, 0, 0, 32, .ro, 0⟩,
  ⟨0x50, 1, 0, 1, 0, 0, 32, .ro, 0⟩,
  ⟨0x54, 1, 0, 1, 0, 0, 32, .ro, 0⟩,
  ⟨0x58, 1, 0, 1, 0, 0, 32, .ro, 0⟩,
  ⟨0x5c, 1, 0, 1, 0, 0, 32, .ro, 0⟩,
  ⟨0x80, 1, 0, 1, 0, 1, 1, .rw, 1⟩,
  ⟨0x80, 1, 0, 1, 0, 0, 1, .rw, 0⟩,
  ⟨0x84, 1, 0, 1, 0, 6, 2, .ro, 0⟩,
  ⟨0x84, 1, 0, 1, 0, 4, 2, .ro, 0⟩,
  ⟨0x84, 1, 0, 1, 0, 0, 2, .ro, 0⟩,
  ⟨0x88, 1, 0, 1, 0, 0, 8, .rw, 1⟩,
  ⟨0x200, 32, 4, 1, 0, 31, 1, .rws, 0⟩,
  ⟨0x200, 32, 4, 1, 0, 30, 1, .rws, 0⟩,
  ⟨0x200, 32, 4, 1, 0, 29, 1, .rws, 0⟩,
  ⟨0x200, 32, 4, 1, 0, 22, 7, .rws, 0⟩,
  ⟨0x200, 32, 4, 1, 0, 15, 7, .rws, 0⟩]

/-- All rows of page BUT. -/
def butRows : List Row := butRows0 ++ butRows1

/-- Rows of page QUE (part 1 of 2): see the register table of its chapter. -/
def queRows0 : List Row := [
  ⟨8, 1, 0, 1, 0, 0, 1, .rw, 0⟩,
  ⟨0xc, 1, 0, 1, 0, 0, 32, .ro, 0⟩,
  ⟨0x18, 1, 0, 1, 0, 5, 1, .w1c, 0⟩,
  ⟨0x10, 1, 0, 1, 0, 5, 1, .w1c, 0⟩,
  ⟨0x14, 1, 0, 1, 0, 5, 1, .rw, 0⟩,
  ⟨0x18, 1, 0, 1, 0, 4, 1, .w1c, 0⟩,
  ⟨0x10, 1, 0, 1, 0, 4, 1, .w1c, 0⟩,
  ⟨0x14, 1, 0, 1, 0, 4, 1, .rw, 0⟩,
  ⟨0x18, 1, 0, 1, 0, 3, 1, .w1c, 0⟩,
  ⟨0x10, 1, 0, 1, 0, 3, 1, .w1c, 0⟩,
  ⟨0x14, 1, 0, 1, 0, 3, 1, .rw, 0⟩,
  ⟨0x18, 1, 0, 1, 0, 2, 1, .w1c, 0⟩,
  ⟨0x10, 1, 0, 1, 0, 2, 1, .w1c, 0⟩,
  ⟨0x14, 1, 0, 1, 0, 2, 1, .rw, 0⟩,
  ⟨0x18, 1, 0, 1, 0, 1, 1, .w1c, 0⟩,
  ⟨0x10, 1, 0, 1, 0, 1, 1, .w1c, 0⟩,
  ⟨0x14, 1, 0, 1, 0, 1, 1, .rw, 0⟩,
  ⟨0x18, 1, 0, 1, 0, 0, 1, .w1c, 0⟩,
  ⟨0x10, 1, 0, 1, 0, 0, 1, .w1c, 0⟩,
  ⟨0x14, 1, 0, 1, 0, 0, 1, .rw, 0⟩,
  ⟨0x40, 1, 0, 1, 0, 0, 32, .ro, 0⟩,
  ⟨0x44, 1, 0, 1, 0, 31, 1, .rw, 0⟩,
  ⟨0x44, 1, 0, 1, 0, 30, 1, .rw, 0⟩,
  ⟨0x44, 1, 0, 1, 0, 29, 1, .rw, 0⟩,
  ⟨0x44, 1, 0, 1, 0, 16, 12, .rw, 0xfff⟩,
  ⟨0x44, 1, 0, 1, 0, 0, 5, .rw, 0⟩,
  ⟨0x48, 1, 0, 1, 0, 31, 1, .rw, 0⟩,
  ⟨0x48, 1, 0, 1, 0, 0, 5, .rw, 0⟩,
  ⟨0x4c, 1, 0, 1, 0, 16, 12, .wo, 0⟩,
  ⟨0x4c, 1, 0, 1, 0, 0, 6, .wo, 0⟩,
  ⟨0x50, 1, 0, 1, 0, 0, 1, .ro, 0⟩,
  ⟨0x80, 32, 4, 1, 0, 0, 32, .rw, 0⟩,
  ⟨0x200, 32, 0x20, 1, 0, 0, 18, .rws, 0⟩,
  ⟨0x204, 32, 0x20, 1, 0, 0, 19, .rws, 0⟩,
  ⟨0x208, 32, 0x20, 1, 0, 31, 1, .rws, 0⟩,
  ⟨0x208, 32, 0x20, 1, 0, 0, 19, .rws, 0⟩,
  ⟨0x20c, 32, 0x20, 1, 0, 0, 32, .ro, 0⟩,
  ⟨0x210, 32, 0x20, 1, 0, 0, 32, .rw, 0⟩,
  ⟨0x214, 32, 0x20, 1, 0, 0, 19, .ro, 0⟩,
  ⟨0x218, 32, 0x20, 1, 0, 0, 32, .ro, 0⟩]

/-- Rows of page QUE (part 2 of 2): see the register table of its chapter. -/
def queRows1 : List Row := [
  ⟨0x800, 32, 4, 1, 0, 0, 32, .ro, 0⟩]

/-- All rows of page QUE. -/
def queRows : List Row := queRows0 ++ queRows1

/-- Rows of page KE0 (part 1 of 2): see the register table of its chapter. -/
def ke0Rows0 : List Row := [
  ⟨8, 1, 0, 1, 0, 5, 1, .rw, 0⟩,
  ⟨8, 1, 0, 1, 0, 2, 3, .rw, 0⟩,
  ⟨8, 1, 0, 1, 0, 0, 1, .rw, 0⟩,
  ⟨0xc, 1, 0, 1, 0, 16, 16, .ro, 0⟩,
  ⟨0xc, 1, 0, 1, 0, 7, 1, .ro, 0⟩,
  ⟨0xc, 1, 0, 1, 0, 6, 1, .ro, 0⟩,
  ⟨0xc, 1, 0, 1, 0, 5, 1, .ro, 0⟩,
  ⟨0xc, 1, 0, 1, 0, 3, 1, .ro, 0⟩,
  ⟨0xc, 1, 0, 1, 0, 0, 3, .ro, 0⟩,
  ⟨0x18, 1, 0, 1, 0, 8, 1, .w1c, 0⟩,
  ⟨0x10, 1, 0, 1, 0, 8, 1, .w1c, 0⟩,
  ⟨0x14, 1, 0, 1, 0, 8, 1, .rw, 0⟩,
  ⟨0x18, 1, 0, 1, 0, 7, 1, .w1c, 0⟩,
  ⟨0x10, 1, 0, 1, 0, 7, 1, .w1c, 0⟩,
  ⟨0x14, 1, 0, 1, 0, 7, 1, .rw, 0⟩,
  ⟨0x18, 1, 0, 1, 0, 6, 1, .w1c, 0⟩,
  ⟨0x10, 1, 0, 1, 0, 6, 1, .w1c, 0⟩,
  ⟨0x14, 1, 0, 1, 0, 6, 1, .rw, 0⟩,
  ⟨0x18, 1, 0, 1, 0, 5, 1, .w1c, 0⟩,
  ⟨0x10, 1, 0, 1, 0, 5, 1, .w1c, 0⟩,
  ⟨0x14, 1, 0, 1, 0, 5, 1, .rw, 0⟩,
  ⟨0x18, 1, 0, 1, 0, 4, 1, .w1c, 0⟩,
  ⟨0x10, 1, 0, 1, 0, 4, 1, .w1c, 0⟩,
  ⟨0x14, 1, 0, 1, 0, 4, 1, .rw, 0⟩,
  ⟨0x18, 1, 0, 1, 0, 3, 1, .w1c, 0⟩,
  ⟨0x10, 1, 0, 1, 0, 3, 1, .w1c, 0⟩,
  ⟨0x14, 1, 0, 1, 0, 3, 1, .rw, 0⟩,
  ⟨0x18, 1, 0, 1, 0, 2, 1, .w1c, 0⟩,
  ⟨0x10, 1, 0, 1, 0, 2, 1, .w1c, 0⟩,
  ⟨0x14, 1, 0, 1, 0, 2, 1, .rw, 0⟩,
  ⟨0x18, 1, 0, 1, 0, 1, 1, .w1c, 0⟩,
  ⟨0x10, 1, 0, 1, 0, 1, 1, .w1c, 0⟩,
  ⟨0x14, 1, 0, 1, 0, 1, 1, .rw, 0⟩,
  ⟨0x18, 1, 0, 1, 0, 0, 1, .w1c, 0⟩,
  ⟨0x10, 1, 0, 1, 0, 0, 1, .w1c, 0⟩,
  ⟨0x14, 1, 0, 1, 0, 0, 1, .rw, 0⟩,
  ⟨0x40, 1, 0, 1, 0, 0, 16, .rws, 0x1f40⟩,
  ⟨0x44, 1, 0, 1, 0, 0, 13, .rws, 0x500⟩,
  ⟨0x48, 1, 0, 1, 0, 31, 1, .rws, 0⟩,
  ⟨0x48, 1, 0, 1, 0, 16, 8, .rws, 0⟩]

/-- Rows of page KE0 (part 2 of 2): see the register table of its chapter. -/
def ke0Rows1 : List Row := [
  ⟨0x48, 1, 0, 1, 0, 0, 11, .rws, 0⟩,
  ⟨0x4c, 1, 0, 1, 0, 0, 1, .wo, 0⟩,
  ⟨0x50, 1, 0, 1, 0, 0, 11, .rw, 0⟩,
  ⟨0x54, 1, 0, 1, 0, 31, 1, .ro, 0⟩,
  ⟨0x54, 1, 0, 1, 0, 27, 4, .ro, 0⟩,
  ⟨0x54, 1, 0, 1, 0, 16, 11, .ro, 0⟩,
  ⟨0x54, 1, 0, 1, 0, 0, 16, .ro, 0⟩,
  ⟨0x58, 1, 0, 1, 0, 0, 32, .w1c, 0⟩,
  ⟨0x5c, 1, 0, 1, 0, 0, 32, .w1c, 0⟩,
  ⟨0x60, 1, 0, 1, 0, 0, 16, .ro, 0⟩,
  ⟨0x64, 1, 0, 1, 0, 28, 4, .ro, 0⟩,
  ⟨0x64, 1, 0, 1, 0, 0, 16, .ro, 0⟩,
  ⟨0x400, 128, 4, 1, 0, 0, 32, .rw, 0⟩,
  ⟨0x800, 256, 4, 1, 0, 0, 32, .ro, 0⟩,
  ⟨0xc00, 128, 4, 1, 0, 0, 32, .ro, 0⟩]

/-- All rows of page KE0. -/
def ke0Rows : List Row := ke0Rows0 ++ ke0Rows1

/-- Rows of page FPM (part 1 of 2): see the register table of its chapter. -/
def fpmRows0 : List Row := [
  ⟨8, 1, 0, 1, 0, 0, 1, .rw, 0⟩,
  ⟨0xc, 1, 0, 1, 0, 24, 8, .ro, 0⟩,
  ⟨0xc, 1, 0, 1, 0, 3, 1, .ro, 0⟩,
  ⟨0xc, 1, 0, 1, 0, 2, 1, .ro, 0⟩,
  ⟨0xc, 1, 0, 1, 0, 1, 1, .ro, 0⟩,
  ⟨0xc, 1, 0, 1, 0, 0, 1, .ro, 0⟩,
  ⟨0x18, 1, 0, 1, 0, 6, 1, .w1c, 0⟩,
  ⟨0x10, 1, 0, 1, 0, 6, 1, .w1c, 0⟩,
  ⟨0x14, 1, 0, 1, 0, 6, 1, .rw, 0⟩,
  ⟨0x18, 1, 0, 1, 0, 5, 1, .w1c, 0⟩,
  ⟨0x10, 1, 0, 1, 0, 5, 1, .w1c, 0⟩,
  ⟨0x14, 1, 0, 1, 0, 5, 1, .rw, 0⟩,
  ⟨0x18, 1, 0, 1, 0, 4, 1, .w1c, 0⟩,
  ⟨0x10, 1, 0, 1, 0, 4, 1, .w1c, 0⟩,
  ⟨0x14, 1, 0, 1, 0, 4, 1, .rw, 0⟩,
  ⟨0x18, 1, 0, 1, 0, 3, 1, .w1c, 0⟩,
  ⟨0x10, 1, 0, 1, 0, 3, 1, .w1c, 0⟩,
  ⟨0x14, 1, 0, 1, 0, 3, 1, .rw, 0⟩,
  ⟨0x18, 1, 0, 1, 0, 2, 1, .w1c, 0⟩,
  ⟨0x10, 1, 0, 1, 0, 2, 1, .w1c, 0⟩,
  ⟨0x14, 1, 0, 1, 0, 2, 1, .rw, 0⟩,
  ⟨0x18, 1, 0, 1, 0, 1, 1, .w1c, 0⟩,
  ⟨0x10, 1, 0, 1, 0, 1, 1, .w1c, 0⟩,
  ⟨0x14, 1, 0, 1, 0, 1, 1, .rw, 0⟩,
  ⟨0x18, 1, 0, 1, 0, 0, 1, .w1c, 0⟩,
  ⟨0x10, 1, 0, 1, 0, 0, 1, .w1c, 0⟩,
  ⟨0x14, 1, 0, 1, 0, 0, 1, .rw, 0⟩,
  ⟨0x40, 1, 0, 1, 0, 0, 32, .w1c, 0⟩,
  ⟨0x44, 1, 0, 1, 0, 0, 32, .w1c, 0⟩,
  ⟨0x48, 1, 0, 1, 0, 0, 32, .wo, 0⟩,
  ⟨0x4c, 1, 0, 1, 0, 0, 32, .wo, 0⟩,
  ⟨0x50, 1, 0, 1, 0, 0, 32, .rw, 0⟩,
  ⟨0x54, 1, 0, 1, 0, 0, 32, .rw, 0⟩,
  ⟨0x58, 1, 0, 1, 0, 4, 3, .rw, 0⟩,
  ⟨0x58, 1, 0, 1, 0, 0, 3, .rw, 0⟩,
  ⟨0x5c, 1, 0, 1, 0, 0, 16, .w1c, 0⟩,
  ⟨0x60, 1, 0, 1, 0, 0, 16, .rw, 0⟩,
  ⟨0x64, 1, 0, 1, 0, 0, 32, .ro, 0⟩,
  ⟨0x68, 1, 0, 1, 0, 0, 1, .wo, 0⟩,
  ⟨0x200, 64, 0x10, 1, 0, 24, 8, .rws, 0⟩]

/-- Rows of page FPM (part 2 of 2): see the register table of its chapter. -/
def fpmRows1 : List Row := [
  ⟨0x200, 64, 0x10, 1, 0, 16, 8, .rws, 0⟩,
  ⟨0x200, 64, 0x10, 1, 0, 12, 3, .rws, 0⟩,
  ⟨0x200, 64, 0x10, 1, 0, 8, 3, .rws, 0⟩,
  ⟨0x204, 64, 0x10, 1, 0, 0, 32, .rws, 0⟩,
  ⟨0x208, 64, 0x10, 1, 0, 24, 8, .ro, 0⟩,
  ⟨0x208, 64, 0x10, 1, 0, 8, 8, .rws, 0⟩,
  ⟨0x208, 64, 0x10, 1, 0, 0, 8, .rws, 0⟩,
  ⟨0x20c, 64, 0x10, 1, 0, 0, 32, .ro, 0⟩]

/-- All rows of page FPM. -/
def fpmRows : List Row := fpmRows0 ++ fpmRows1

/-- Rows of page KE1 (part 1 of 2): see the register table of its chapter. -/
def ke1Rows0 : List Row := [
  ⟨0x18, 1, 0, 1, 0, 8, 1, .w1c, 0⟩,
  ⟨0x10, 1, 0, 1, 0, 8, 1, .w1c, 0⟩,
  ⟨0x14, 1, 0, 1, 0, 8, 1, .rw, 0⟩,
  ⟨0x18, 1, 0, 1, 0, 7, 1, .w1c, 0⟩,
  ⟨0x10, 1, 0, 1, 0, 7, 1, .w1c, 0⟩,
  ⟨0x14, 1, 0, 1, 0, 7, 1, .rw, 0⟩,
  ⟨0x18, 1, 0, 1, 0, 6, 1, .w1c, 0⟩,
  ⟨0x10, 1, 0, 1, 0, 6, 1, .w1c, 0⟩,
  ⟨0x14, 1, 0, 1, 0, 6, 1, .rw, 0⟩,
  ⟨0x18, 1, 0, 1, 0, 5, 1, .w1c, 0⟩,
  ⟨0x10, 1, 0, 1, 0, 5, 1, .w1c, 0⟩,
  ⟨0x14, 1, 0, 1, 0, 5, 1, .rw, 0⟩,
  ⟨0x18, 1, 0, 1, 0, 4, 1, .w1c, 0⟩,
  ⟨0x10, 1, 0, 1, 0, 4, 1, .w1c, 0⟩,
  ⟨0x14, 1, 0, 1, 0, 4, 1, .rw, 0⟩,
  ⟨0x18, 1, 0, 1, 0, 3, 1, .w1c, 0⟩,
  ⟨0x10, 1, 0, 1, 0, 3, 1, .w1c, 0⟩,
  ⟨0x14, 1, 0, 1, 0, 3, 1, .rw, 0⟩,
  ⟨0x18, 1, 0, 1, 0, 2, 1, .w1c, 0⟩,
  ⟨0x10, 1, 0, 1, 0, 2, 1, .w1c, 0⟩,
  ⟨0x14, 1, 0, 1, 0, 2, 1, .rw, 0⟩,
  ⟨0x18, 1, 0, 1, 0, 1, 1, .w1c, 0⟩,
  ⟨0x10, 1, 0, 1, 0, 1, 1, .w1c, 0⟩,
  ⟨0x14, 1, 0, 1, 0, 1, 1, .rw, 0⟩,
  ⟨0x40, 9, 4, 1, 0, 31, 1, .rws, 0⟩,
  ⟨0x40, 9, 4, 1, 0, 30, 1, .rws, 0⟩,
  ⟨0x40, 9, 4, 1, 0, 16, 8, .rws, 0⟩,
  ⟨0x40, 9, 4, 1, 0, 0, 12, .rws, 0⟩,
  ⟨0x64, 1, 0, 1, 0, 1, 1, .wo, 0⟩,
  ⟨0x64, 1, 0, 1, 0, 0, 1, .wo, 0⟩,
  ⟨0x68, 1, 0, 1, 0, 0, 12, .rw, 0⟩,
  ⟨0x6c, 1, 0, 1, 0, 31, 1, .ro, 0⟩,
  ⟨0x6c, 1, 0, 1, 0, 27, 4, .ro, 0⟩,
  ⟨0x6c, 1, 0, 1, 0, 0, 12, .ro, 0⟩,
  ⟨0x70, 4, 4, 1, 0, 0, 32, .w1c, 0⟩,
  ⟨0xa0, 1, 0, 1, 0, 0, 16, .ro, 0⟩,
  ⟨0xa4, 1, 0, 1, 0, 28, 4, .ro, 0⟩,
  ⟨0xa4, 1, 0, 1, 0, 0, 16, .ro, 0⟩,
  ⟨0xa8, 1, 0, 1, 0, 0, 7, .ro, 0⟩,
  ⟨0xac, 1, 0, 1, 0, 0, 20, .ro, 0⟩]

/-- Rows of page KE1 (part 2 of 2): see the register table of its chapter. -/
def ke1Rows1 : List Row := [
  ⟨0x400, 192, 4, 1, 0, 0, 32, .rw, 0⟩,
  ⟨0xc00, 128, 4, 1, 0, 0, 32, .ro, 0⟩,
  ⟨0x80, 1, 0, 1, 0, 0, 7, .rws, 1⟩,
  ⟨0x84, 1, 0, 1, 0, 16, 16, .ro, 0x13⟩,
  ⟨0x84, 1, 0, 1, 0, 12, 4, .ro, 0⟩,
  ⟨0x84, 1, 0, 1, 0, 11, 1, .ro, 0⟩,
  ⟨0x84, 1, 0, 1, 0, 10, 1, .ro, 0⟩,
  ⟨0x84, 1, 0, 1, 0, 9, 1, .ro, 0⟩,
  ⟨0x84, 1, 0, 1, 0, 0, 7, .ro, 0⟩,
  ⟨0x88, 1, 0, 1, 0, 0, 32, .ro, 0⟩,
  ⟨0x8c, 1, 0, 1, 0, 0, 32, .ro, 0⟩,
  ⟨0x90, 1, 0, 1, 0, 0, 16, .rw, 0⟩,
  ⟨0x94, 1, 0, 1, 0, 0, 1, .w1c, 0⟩,
  ⟨0x98, 1, 0, 1, 0, 0, 16, .w1c, 0⟩,
  ⟨0x9c, 1, 0, 1, 0, 0, 16, .rw, 0⟩,
  ⟨0xc, 1, 0, 1, 0, 7, 1, .ro, 0⟩,
  ⟨0xc, 1, 0, 1, 0, 6, 1, .ro, 0⟩,
  ⟨0xc, 1, 0, 1, 0, 5, 1, .ro, 0⟩,
  ⟨0xc, 1, 0, 1, 0, 0, 3, .ro, 0⟩,
  ⟨8, 1, 0, 1, 0, 0, 1, .rw, 0⟩]

/-- All rows of page KE1. -/
def ke1Rows : List Row := ke1Rows0 ++ ke1Rows1

/-- Rows of page PWM0 (part 1 of 1): see the register table of its chapter. -/
def pwmRows : List Row := [
  ⟨8, 1, 0, 1, 0, 1, 1, .rw, 0⟩,
  ⟨8, 1, 0, 1, 0, 0, 1, .rw, 0⟩,
  ⟨0xc, 1, 0, 1, 0, 0, 16, .ro, 0⟩,
  ⟨0x18, 1, 0, 1, 0, 4, 1, .w1c, 0⟩,
  ⟨0x10, 1, 0, 1, 0, 4, 1, .w1c, 0⟩,
  ⟨0x14, 1, 0, 1, 0, 4, 1, .rw, 0⟩,
  ⟨0x18, 1, 0, 1, 0, 3, 1, .w1c, 0⟩,
  ⟨0x10, 1, 0, 1, 0, 3, 1, .w1c, 0⟩,
  ⟨0x14, 1, 0, 1, 0, 3, 1, .rw, 0⟩,
  ⟨0x18, 1, 0, 1, 0, 2, 1, .w1c, 0⟩,
  ⟨0x10, 1, 0, 1, 0, 2, 1, .w1c, 0⟩,
  ⟨0x14, 1, 0, 1, 0, 2, 1, .rw, 0⟩,
  ⟨0x18, 1, 0, 1, 0, 1, 1, .w1c, 0⟩,
  ⟨0x10, 1, 0, 1, 0, 1, 1, .w1c, 0⟩,
  ⟨0x14, 1, 0, 1, 0, 1, 1, .rw, 0⟩,
  ⟨0x18, 1, 0, 1, 0, 0, 1, .w1c, 0⟩,
  ⟨0x10, 1, 0, 1, 0, 0, 1, .w1c, 0⟩,
  ⟨0x14, 1, 0, 1, 0, 0, 1, .rw, 0⟩,
  ⟨0x40, 1, 0, 1, 0, 0, 16, .w1c, 0⟩,
  ⟨0x44, 1, 0, 1, 0, 0, 16, .w1c, 0⟩,
  ⟨0x48, 1, 0, 1, 0, 0, 16, .w1c, 0⟩,
  ⟨0x4c, 1, 0, 1, 0, 0, 16, .w1c, 0⟩,
  ⟨0x200, 16, 0x20, 1, 0, 31, 1, .rw, 0⟩,
  ⟨0x200, 16, 0x20, 1, 0, 30, 1, .rw, 0⟩,
  ⟨0x200, 16, 0x20, 1, 0, 16, 6, .rws, 0⟩,
  ⟨0x200, 16, 0x20, 1, 0, 12, 2, .rws, 0⟩,
  ⟨0x200, 16, 0x20, 1, 0, 8, 1, .rws, 0⟩,
  ⟨0x200, 16, 0x20, 1, 0, 4, 1, .rws, 0⟩,
  ⟨0x200, 16, 0x20, 1, 0, 0, 2, .rws, 0⟩,
  ⟨0x204, 16, 0x20, 1, 0, 0, 16, .rws, 0⟩,
  ⟨0x208, 16, 0x20, 1, 0, 0, 22, .rws, 0⟩,
  ⟨0x20c, 16, 0x20, 1, 0, 0, 22, .rws, 0⟩,
  ⟨0x210, 16, 0x20, 1, 0, 16, 14, .rws, 0⟩,
  ⟨0x210, 16, 0x20, 1, 0, 0, 14, .rws, 0⟩,
  ⟨0x214, 16, 0x20, 1, 0, 0, 16, .rw, 0⟩,
  ⟨0x218, 16, 0x20, 1, 0, 16, 16, .ro, 0⟩,
  ⟨0x218, 16, 0x20, 1, 0, 3, 1, .ro, 0⟩,
  ⟨0x218, 16, 0x20, 1, 0, 2, 1, .ro, 0⟩,
  ⟨0x218, 16, 0x20, 1, 0, 1, 1, .ro, 0⟩,
  ⟨0x218, 16, 0x20, 1, 0, 0, 1, .ro, 0⟩]

/-- Rows of page PWX (part 1 of 2): see the register table of its chapter. -/
def pwxRows0 : List Row := [
  ⟨8, 1, 0, 1, 0, 0, 1, .rw, 0⟩,
  ⟨0xc, 1, 0, 1, 0, 8, 8, .ro, 0⟩,
  ⟨0xc, 1, 0, 1, 0, 2, 1, .ro, 0⟩,
  ⟨0xc, 1, 0, 1, 0, 1, 1, .ro, 0⟩,
  ⟨0xc, 1, 0, 1, 0, 0, 1, .ro, 0⟩,
  ⟨0x18, 1, 0, 1, 0, 4, 1, .w1c, 0⟩,
  ⟨0x10, 1, 0, 1, 0, 4, 1, .w1c, 0⟩,
  ⟨0x14, 1, 0, 1, 0, 4, 1, .rw, 0⟩,
  ⟨0x18, 1, 0, 1, 0, 3, 1, .w1c, 0⟩,
  ⟨0x10, 1, 0, 1, 0, 3, 1, .w1c, 0⟩,
  ⟨0x14, 1, 0, 1, 0, 3, 1, .rw, 0⟩,
  ⟨0x18, 1, 0, 1, 0, 2, 1, .w1c, 0⟩,
  ⟨0x10, 1, 0, 1, 0, 2, 1, .w1c, 0⟩,
  ⟨0x14, 1, 0, 1, 0, 2, 1, .rw, 0⟩,
  ⟨0x18, 1, 0, 1, 0, 1, 1, .w1c, 0⟩,
  ⟨0x10, 1, 0, 1, 0, 1, 1, .w1c, 0⟩,
  ⟨0x14, 1, 0, 1, 0, 1, 1, .rw, 0⟩,
  ⟨0x18, 1, 0, 1, 0, 0, 1, .w1c, 0⟩,
  ⟨0x10, 1, 0, 1, 0, 0, 1, .w1c, 0⟩,
  ⟨0x14, 1, 0, 1, 0, 0, 1, .rw, 0⟩,
  ⟨0x40, 1, 0, 1, 0, 0, 4, .rw, 0⟩,
  ⟨0x44, 1, 0, 1, 0, 0, 2, .rw, 0⟩,
  ⟨0x300, 8, 8, 1, 0, 24, 6, .rws, 0⟩,
  ⟨0x300, 8, 8, 1, 0, 16, 4, .rws, 0⟩,
  ⟨0x300, 8, 8, 1, 0, 0, 16, .rws, 0⟩,
  ⟨0x304, 8, 8, 1, 0, 31, 1, .ro, 0⟩,
  ⟨0x304, 8, 8, 1, 0, 0, 16, .ro, 0⟩,
  ⟨0x200, 1, 0, 1, 0, 31, 1, .rw, 0⟩,
  ⟨0x200, 1, 0, 1, 0, 30, 1, .rw, 0⟩,
  ⟨0x200, 1, 0, 1, 0, 16, 6, .rws, 0⟩,
  ⟨0x200, 1, 0, 1, 0, 12, 2, .rws, 0⟩,
  ⟨0x200, 1, 0, 1, 0, 8, 1, .rws, 0⟩,
  ⟨0x200, 1, 0, 1, 0, 4, 1, .rws, 0⟩,
  ⟨0x200, 1, 0, 1, 0, 0, 2, .rws, 0⟩,
  ⟨0x204, 1, 0, 1, 0, 0, 16, .rws, 0⟩,
  ⟨0x208, 1, 0, 1, 0, 0, 22, .rws, 0⟩,
  ⟨0x20c, 1, 0, 1, 0, 0, 22, .rws, 0⟩,
  ⟨0x210, 1, 0, 1, 0, 16, 14, .rws, 0⟩,
  ⟨0x210, 1, 0, 1, 0, 0, 14, .rws, 0⟩,
  ⟨0x214, 1, 0, 1, 0, 0, 16, .rw, 0⟩]

/-- Rows of page PWX (part 2 of 2): see the register table of its chapter. -/
def pwxRows1 : List Row := [
  ⟨0x218, 1, 0, 1, 0, 16, 16, .ro, 0⟩,
  ⟨0x218, 1, 0, 1, 0, 3, 1, .ro, 0⟩,
  ⟨0x218, 1, 0, 1, 0, 2, 1, .ro, 0⟩,
  ⟨0x218, 1, 0, 1, 0, 1, 1, .ro, 0⟩,
  ⟨0x218, 1, 0, 1, 0, 0, 1, .ro, 0⟩]

/-- All rows of page PWX. -/
def pwxRows : List Row := pwxRows0 ++ pwxRows1

/-- Rows of page TRP (part 1 of 1): see the register table of its chapter. -/
def trpRows : List Row := [
  ⟨8, 1, 0, 1, 0, 0, 1, .rw, 1⟩,
  ⟨0xc, 1, 0, 1, 0, 16, 6, .ro, 0⟩,
  ⟨0xc, 1, 0, 1, 0, 1, 1, .ro, 0⟩,
  ⟨0xc, 1, 0, 1, 0, 0, 1, .ro, 0⟩,
  ⟨0x18, 1, 0, 1, 0, 3, 1, .w1c, 0⟩,
  ⟨0x10, 1, 0, 1, 0, 3, 1, .w1c, 0⟩,
  ⟨0x14, 1, 0, 1, 0, 3, 1, .rw, 0⟩,
  ⟨0x18, 1, 0, 1, 0, 2, 1, .w1c, 0⟩,
  ⟨0x10, 1, 0, 1, 0, 2, 1, .w1c, 0⟩,
  ⟨0x14, 1, 0, 1, 0, 2, 1, .rw, 0⟩,
  ⟨0x18, 1, 0, 1, 0, 1, 1, .w1c, 0⟩,
  ⟨0x10, 1, 0, 1, 0, 1, 1, .w1c, 0⟩,
  ⟨0x14, 1, 0, 1, 0, 1, 1, .rw, 0⟩,
  ⟨0x18, 1, 0, 1, 0, 0, 1, .w1c, 0⟩,
  ⟨0x10, 1, 0, 1, 0, 0, 1, .w1c, 0⟩,
  ⟨0x14, 1, 0, 1, 0, 0, 1, .rw, 0⟩,
  ⟨0x40, 1, 0, 1, 0, 0, 32, .ro, 0⟩,
  ⟨0x44, 1, 0, 1, 0, 0, 17, .ro, 0⟩,
  ⟨0x48, 1, 0, 1, 0, 0, 32, .wo, 0⟩,
  ⟨0x4c, 1, 0, 1, 0, 0, 17, .wo, 0⟩,
  ⟨0x50, 4, 4, 1, 0, 0, 32, .ro, 0⟩,
  ⟨0x60, 4, 4, 1, 0, 0, 32, .w1c, 0⟩,
  ⟨0x70, 1, 0, 1, 0, 31, 1, .ro, 0⟩,
  ⟨0x70, 1, 0, 1, 0, 16, 7, .ro, 0⟩,
  ⟨0x70, 1, 0, 1, 0, 0, 6, .ro, 0⟩,
  ⟨0x74, 1, 0, 1, 0, 0, 16, .ro, 0⟩,
  ⟨0x78, 1, 0, 1, 0, 0, 16, .rws, 0⟩,
  ⟨0x3a0, 1, 0, 1, 0, 31, 1, .rws, 1⟩,
  ⟨0x200, 104, 4, 1, 0, 31, 1, .rws, 0⟩,
  ⟨0x3a4, 23, 4, 1, 0, 31, 1, .rws, 0⟩,
  ⟨0x200, 128, 4, 1, 0, 30, 1, .rws, 1⟩,
  ⟨0x200, 128, 4, 1, 0, 29, 1, .rws, 0⟩,
  ⟨0x200, 128, 4, 1, 0, 28, 1, .rws, 0⟩,
  ⟨0x200, 128, 4, 1, 0, 24, 3, .rws, 0⟩,
  ⟨0x3a0, 1, 0, 1, 0, 0, 16, .rws, 0xffff⟩,
  ⟨0x200, 104, 4, 1, 0, 0, 16, .rws, 0⟩,
  ⟨0x3a4, 23, 4, 1, 0, 0, 16, .rws, 0⟩,
  ⟨0x400, 49, 4, 1, 0, 16, 2, .rws, 0⟩,
  ⟨0x400, 49, 4, 1, 0, 0, 16, .rws, 0xffff⟩]

/-- Rows of page GDP (part 1 of 1): see the register table of its chapter. -/
def gdpRows : List Row := [
  ⟨8, 1, 0, 1, 0, 0, 1, .rw, 0⟩,
  ⟨0xc, 1, 0, 1, 0, 1, 1, .ro, 0⟩,
  ⟨0xc, 1, 0, 1, 0, 0, 1, .ro, 0⟩,
  ⟨0x18, 1, 0, 1, 0, 2, 1, .w1c, 0⟩,
  ⟨0x10, 1, 0, 1, 0, 2, 1, .w1c, 0⟩,
  ⟨0x14, 1, 0, 1, 0, 2, 1, .rw, 0⟩,
  ⟨0x18, 1, 0, 1, 0, 1, 1, .w1c, 0⟩,
  ⟨0x10, 1, 0, 1, 0, 1, 1, .w1c, 0⟩,
  ⟨0x14, 1, 0, 1, 0, 1, 1, .rw, 0⟩,
  ⟨0x18, 1, 0, 1, 0, 0, 1, .w1c, 0⟩,
  ⟨0x10, 1, 0, 1, 0, 0, 1, .w1c, 0⟩,
  ⟨0x14, 1, 0, 1, 0, 0, 1, .rw, 0⟩,
  ⟨0x40, 6, 4, 1, 0, 0, 3, .rws, 0⟩,
  ⟨0x40, 6, 4, 1, 0, 4, 3, .rws, 0⟩,
  ⟨0x40, 6, 4, 1, 0, 8, 3, .rws, 0⟩,
  ⟨0x40, 6, 4, 1, 0, 12, 3, .rws, 0⟩,
  ⟨0x40, 6, 4, 1, 0, 16, 3, .rws, 0⟩,
  ⟨0x40, 6, 4, 1, 0, 20, 3, .rws, 0⟩,
  ⟨0x40, 6, 4, 1, 0, 24, 3, .rws, 0⟩,
  ⟨0x40, 6, 4, 1, 0, 28, 3, .rws, 0⟩,
  ⟨0x58, 1, 0, 1, 0, 0, 3, .rws, 0⟩,
  ⟨0x5c, 1, 0, 1, 0, 31, 1, .rws, 0⟩,
  ⟨0x5c, 1, 0, 1, 0, 24, 6, .rws, 0⟩,
  ⟨0x5c, 1, 0, 1, 0, 0, 16, .rws, 0⟩,
  ⟨0x60, 1, 0, 1, 0, 16, 16, .rws, 0⟩,
  ⟨0x60, 1, 0, 1, 0, 0, 16, .rws, 0⟩,
  ⟨0x64, 1, 0, 1, 0, 16, 10, .rws, 0x3ff⟩,
  ⟨0x64, 1, 0, 1, 0, 0, 10, .rws, 0⟩,
  ⟨0x68, 1, 0, 1, 0, 0, 32, .ro, 0⟩,
  ⟨0x200, 8, 0x10, 1, 0, 16, 12, .rws, 0⟩,
  ⟨0x200, 8, 0x10, 1, 0, 0, 12, .rws, 0⟩,
  ⟨0x204, 8, 0x10, 1, 0, 16, 12, .rws, 0⟩,
  ⟨0x204, 8, 0x10, 1, 0, 0, 12, .rws, 0⟩,
  ⟨0x208, 8, 0x10, 1, 0, 0, 12, .rws, 0⟩]

/-- Rows of page CMP0 (part 1 of 2): see the register table of its chapter. -/
def cmpRows0 : List Row := [
  ⟨8, 1, 0, 1, 0, 0, 1, .rw, 0⟩,
  ⟨0xc, 1, 0, 1, 0, 16, 16, .ro, 0⟩,
  ⟨0xc, 1, 0, 1, 0, 0, 16, .ro, 0⟩,
  ⟨0x18, 1, 0, 1, 0, 4, 1, .w1c, 0⟩,
  ⟨0x10, 1, 0, 1, 0, 4, 1, .w1c, 0⟩,
  ⟨0x14, 1, 0, 1, 0, 4, 1, .rw, 0⟩,
  ⟨0x18, 1, 0, 1, 0, 3, 1, .w1c, 0⟩,
  ⟨0x10, 1, 0, 1, 0, 3, 1, .w1c, 0⟩,
  ⟨0x14, 1, 0, 1, 0, 3, 1, .rw, 0⟩,
  ⟨0x18, 1, 0, 1, 0, 2, 1, .w1c, 0⟩,
  ⟨0x10, 1, 0, 1, 0, 2, 1, .w1c, 0⟩,
  ⟨0x14, 1, 0, 1, 0, 2, 1, .rw, 0⟩,
  ⟨0x18, 1, 0, 1, 0, 1, 1, .w1c, 0⟩,
  ⟨0x10, 1, 0, 1, 0, 1, 1, .w1c, 0⟩,
  ⟨0x14, 1, 0, 1, 0, 1, 1, .rw, 0⟩,
  ⟨0x18, 1, 0, 1, 0, 0, 1, .w1c, 0⟩,
  ⟨0x10, 1, 0, 1, 0, 0, 1, .w1c, 0⟩,
  ⟨0x14, 1, 0, 1, 0, 0, 1, .rw, 0⟩,
  ⟨0x40, 1, 0, 1, 0, 0, 16, .w1c, 0⟩,
  ⟨0x44, 1, 0, 1, 0, 0, 16, .w1c, 0⟩,
  ⟨0x48, 1, 0, 1, 0, 0, 32, .ro, 0⟩,
  ⟨0x4c, 1, 0, 1, 0, 0, 1, .wo, 0⟩,
  ⟨0x200, 16, 0x20, 1, 0, 31, 1, .rws, 0⟩,
  ⟨0x200, 16, 0x20, 1, 0, 30, 1, .rws, 0⟩,
  ⟨0x200, 16, 0x20, 1, 0, 16, 7, .rws, 0⟩,
  ⟨0x200, 16, 0x20, 1, 0, 12, 2, .rws, 0⟩,
  ⟨0x200, 16, 0x20, 1, 0, 8, 2, .rws, 0⟩,
  ⟨0x200, 16, 0x20, 1, 0, 4, 2, .rws, 0⟩,
  ⟨0x204, 16, 0x20, 1, 0, 16, 10, .rws, 0x3ff⟩,
  ⟨0x204, 16, 0x20, 1, 0, 0, 10, .rws, 0⟩,
  ⟨0x208, 16, 0x20, 1, 0, 26, 6, .rws, 0x3f⟩,
  ⟨0x208, 16, 0x20, 1, 0, 0, 20, .rws, 0⟩,
  ⟨0x20c, 16, 0x20, 1, 0, 30, 2, .rws, 0⟩,
  ⟨0x20c, 16, 0x20, 1, 0, 24, 3, .rws, 0⟩,
  ⟨0x20c, 16, 0x20, 1, 0, 16, 8, .rws, 0⟩,
  ⟨0x20c, 16, 0x20, 1, 0, 12, 4, .rws, 0⟩,
  ⟨0x20c, 16, 0x20, 1, 0, 8, 1, .rws, 0⟩,
  ⟨0x210, 16, 0x20, 1, 0, 28, 4, .ro, 0⟩,
  ⟨0x210, 16, 0x20, 1, 0, 16, 10, .ro, 0⟩,
  ⟨0x210, 16, 0x20, 1, 0, 2, 1, .ro, 0⟩]

/-- Rows of page CMP0 (part 2 of 2): see the register table of its chapter. -/
def cmpRows1 : List Row := [
  ⟨0x210, 16, 0x20, 1, 0, 1, 1, .ro, 0⟩,
  ⟨0x210, 16, 0x20, 1, 0, 0, 1, .ro, 0⟩]

/-- All rows of page CMP0. -/
def cmpRows : List Row := cmpRows0 ++ cmpRows1

/-- Rows of page FAD (part 1 of 2): see the register table of its chapter. -/
def fadRows0 : List Row := [
  ⟨8, 1, 0, 1, 0, 0, 1, .rw, 0⟩,
  ⟨0xc, 1, 0, 1, 0, 31, 1, .ro, 0⟩,
  ⟨0xc, 1, 0, 1, 0, 0, 17, .ro, 0⟩,
  ⟨0x18, 1, 0, 1, 0, 3, 1, .w1c, 0⟩,
  ⟨0x10, 1, 0, 1, 0, 3, 1, .w1c, 0⟩,
  ⟨0x14, 1, 0, 1, 0, 3, 1, .rw, 0⟩,
  ⟨0x18, 1, 0, 1, 0, 2, 1, .w1c, 0⟩,
  ⟨0x10, 1, 0, 1, 0, 2, 1, .w1c, 0⟩,
  ⟨0x14, 1, 0, 1, 0, 2, 1, .rw, 0⟩,
  ⟨0x18, 1, 0, 1, 0, 1, 1, .w1c, 0⟩,
  ⟨0x10, 1, 0, 1, 0, 1, 1, .w1c, 0⟩,
  ⟨0x14, 1, 0, 1, 0, 1, 1, .rw, 0⟩,
  ⟨0x18, 1, 0, 1, 0, 0, 1, .w1c, 0⟩,
  ⟨0x10, 1, 0, 1, 0, 0, 1, .w1c, 0⟩,
  ⟨0x14, 1, 0, 1, 0, 0, 1, .rw, 0⟩,
  ⟨0x40, 1, 0, 1, 0, 0, 32, .ro, 0⟩,
  ⟨0x44, 1, 0, 1, 0, 0, 32, .ro, 0⟩,
  ⟨0x48, 1, 0, 1, 0, 0, 32, .w1c, 0⟩,
  ⟨0x4c, 1, 0, 1, 0, 0, 32, .w1c, 0⟩,
  ⟨0x50, 1, 0, 1, 0, 0, 32, .ro, 0⟩,
  ⟨0x54, 1, 0, 1, 0, 0, 32, .ro, 0⟩,
  ⟨0x58, 1, 0, 1, 0, 0, 32, .ro, 0⟩,
  ⟨0x5c, 1, 0, 1, 0, 0, 1, .wo, 0⟩,
  ⟨0x60, 1, 0, 1, 0, 24, 2, .ro, 0⟩,
  ⟨0x60, 1, 0, 1, 0, 6, 1, .ro, 0⟩,
  ⟨0x60, 1, 0, 1, 0, 0, 6, .ro, 0⟩,
  ⟨0x64, 3, 4, 1, 0, 0, 32, .ro, 0⟩,
  ⟨0x200, 32, 4, 1, 0, 31, 1, .rws, 0⟩,
  ⟨0x200, 32, 4, 1, 0, 30, 1, .rws, 0⟩,
  ⟨0x200, 32, 4, 1, 0, 29, 1, .rws, 0⟩,
  ⟨0x200, 32, 4, 1, 0, 28, 1, .rws, 0⟩,
  ⟨0x200, 32, 4, 1, 0, 20, 7, .rws, 0⟩,
  ⟨0x200, 32, 4, 1, 0, 12, 4, .rws, 0⟩,
  ⟨0x200, 32, 4, 1, 0, 8, 3, .rws, 0⟩,
  ⟨0x280, 32, 4, 1, 0, 0, 16, .ro, 0⟩,
  ⟨0x300, 16, 4, 1, 0, 31, 1, .rws, 0⟩,
  ⟨0x300, 16, 4, 1, 0, 0, 8, .rws, 0⟩,
  ⟨0x400, 64, 4, 1, 0, 0, 32, .rws, 0⟩,
  ⟨0x500, 64, 4, 1, 0, 0, 16, .rws, 0⟩,
  ⟨0x600, 17, 0x10, 4, 4, 0, 16, .ro, 0⟩]

/-- Rows of page FAD (part 2 of 2): see the register table of its chapter. -/
def fadRows1 : List Row := [
  ⟨0x800, 64, 4, 1, 0, 31, 1, .ro, 0⟩,
  ⟨0x800, 64, 4, 1, 0, 30, 1, .ro, 0⟩,
  ⟨0x800, 64, 4, 1, 0, 0, 16, .ro, 0⟩]

/-- All rows of page FAD. -/
def fadRows : List Row := fadRows0 ++ fadRows1

/-- Rows of page FAC (part 1 of 2): see the register table of its chapter. -/
def facRows0 : List Row := [
  ⟨8, 1, 0, 1, 0, 2, 1, .rw, 1⟩,
  ⟨8, 1, 0, 1, 0, 1, 1, .rw, 0⟩,
  ⟨8, 1, 0, 1, 0, 0, 1, .rw, 0⟩,
  ⟨0xc, 1, 0, 1, 0, 29, 3, .ro, 0⟩,
  ⟨0xc, 1, 0, 1, 0, 24, 5, .ro, 0x1f⟩,
  ⟨0xc, 1, 0, 1, 0, 16, 1, .ro, 0⟩,
  ⟨0xc, 1, 0, 1, 0, 0, 5, .ro, 0⟩,
  ⟨0x18, 1, 0, 1, 0, 6, 1, .w1c, 0⟩,
  ⟨0x10, 1, 0, 1, 0, 6, 1, .w1c, 0⟩,
  ⟨0x14, 1, 0, 1, 0, 6, 1, .rw, 0⟩,
  ⟨0x18, 1, 0, 1, 0, 5, 1, .w1c, 0⟩,
  ⟨0x10, 1, 0, 1, 0, 5, 1, .w1c, 0⟩,
  ⟨0x14, 1, 0, 1, 0, 5, 1, .rw, 0⟩,
  ⟨0x18, 1, 0, 1, 0, 4, 1, .w1c, 0⟩,
  ⟨0x10, 1, 0, 1, 0, 4, 1, .w1c, 0⟩,
  ⟨0x14, 1, 0, 1, 0, 4, 1, .rw, 0⟩,
  ⟨0x18, 1, 0, 1, 0, 3, 1, .w1c, 0⟩,
  ⟨0x10, 1, 0, 1, 0, 3, 1, .w1c, 0⟩,
  ⟨0x14, 1, 0, 1, 0, 3, 1, .rw, 0⟩,
  ⟨0x18, 1, 0, 1, 0, 2, 1, .w1c, 0⟩,
  ⟨0x10, 1, 0, 1, 0, 2, 1, .w1c, 0⟩,
  ⟨0x14, 1, 0, 1, 0, 2, 1, .rw, 0⟩,
  ⟨0x18, 1, 0, 1, 0, 1, 1, .w1c, 0⟩,
  ⟨0x10, 1, 0, 1, 0, 1, 1, .w1c, 0⟩,
  ⟨0x14, 1, 0, 1, 0, 1, 1, .rw, 0⟩,
  ⟨0x18, 1, 0, 1, 0, 0, 1, .w1c, 0⟩,
  ⟨0x10, 1, 0, 1, 0, 0, 1, .w1c, 0⟩,
  ⟨0x14, 1, 0, 1, 0, 0, 1, .rw, 0⟩,
  ⟨0x40, 1, 0, 1, 0, 0, 16, .rws, 0xffff⟩,
  ⟨0x44, 1, 0, 1, 0, 24, 8, .rws, 0x1e⟩,
  ⟨0x44, 1, 0, 1, 0, 0, 16, .rws, 0x30⟩,
  ⟨0x48, 1, 0, 1, 0, 0, 16, .rws, 0x100⟩,
  ⟨0x4c, 1, 0, 1, 0, 0, 17, .ro, 0⟩,
  ⟨0x50, 1, 0, 1, 0, 8, 5, .wo, 0⟩,
  ⟨0x50, 1, 0, 1, 0, 3, 1, .wo, 0⟩,
  ⟨0x50, 1, 0, 1, 0, 2, 1, .wo, 0⟩,
  ⟨0x50, 1, 0, 1, 0, 1, 1, .wo, 0⟩,
  ⟨0x50, 1, 0, 1, 0, 0, 1, .wo, 0⟩,
  ⟨0x54, 1, 0, 1, 0, 0, 32, .ro, 0⟩,
  ⟨0x58, 1, 0, 1, 0, 16, 16, .ro, 0⟩]

/-- Rows of page FAC (part 2 of 2): see the register table of its chapter. -/
def facRows1 : List Row := [
  ⟨0x58, 1, 0, 1, 0, 0, 16, .ro, 0⟩,
  ⟨0x200, 17, 0x10, 1, 0, 0, 16, .ro, 0⟩,
  ⟨0x204, 17, 0x10, 1, 0, 0, 24, .ro, 0⟩,
  ⟨0x208, 17, 0x10, 1, 0, 0, 16, .ro, 0⟩,
  ⟨0x20c, 17, 0x10, 1, 0, 0, 32, .ro, 0⟩]

/-- All rows of page FAC. -/
def facRows : List Row := facRows0 ++ facRows1

/-- Rows of page MET (part 1 of 3): see the register table of its chapter. -/
def metRows0 : List Row := [
  ⟨8, 1, 0, 1, 0, 3, 1, .rw, 0⟩,
  ⟨8, 1, 0, 1, 0, 2, 1, .rw, 1⟩,
  ⟨8, 1, 0, 1, 0, 1, 1, .rw, 1⟩,
  ⟨8, 1, 0, 1, 0, 0, 1, .rw, 0⟩,
  ⟨0xc, 1, 0, 1, 0, 24, 8, .ro, 0⟩,
  ⟨0xc, 1, 0, 1, 0, 16, 7, .ro, 0⟩,
  ⟨0xc, 1, 0, 1, 0, 9, 1, .ro, 0⟩,
  ⟨0xc, 1, 0, 1, 0, 8, 1, .ro, 0⟩,
  ⟨0xc, 1, 0, 1, 0, 6, 2, .ro, 0⟩,
  ⟨0xc, 1, 0, 1, 0, 5, 1, .ro, 0⟩,
  ⟨0xc, 1, 0, 1, 0, 4, 1, .ro, 0⟩,
  ⟨0xc, 1, 0, 1, 0, 3, 1, .ro, 0⟩,
  ⟨0xc, 1, 0, 1, 0, 2, 1, .ro, 0⟩,
  ⟨0xc, 1, 0, 1, 0, 0, 1, .ro, 0⟩,
  ⟨0x18, 1, 0, 1, 0, 11, 1, .w1c, 0⟩,
  ⟨0x10, 1, 0, 1, 0, 11, 1, .w1c, 0⟩,
  ⟨0x14, 1, 0, 1, 0, 11, 1, .rw, 0⟩,
  ⟨0x18, 1, 0, 1, 0, 10, 1, .w1c, 0⟩,
  ⟨0x10, 1, 0, 1, 0, 10, 1, .w1c, 0⟩,
  ⟨0x14, 1, 0, 1, 0, 10, 1, .rw, 0⟩,
  ⟨0x18, 1, 0, 1, 0, 9, 1, .w1c, 0⟩,
  ⟨0x10, 1, 0, 1, 0, 9, 1, .w1c, 0⟩,
  ⟨0x14, 1, 0, 1, 0, 9, 1, .rw, 0⟩,
  ⟨0x18, 1, 0, 1, 0, 8, 1, .w1c, 0⟩,
  ⟨0x10, 1, 0, 1, 0, 8, 1, .w1c, 0⟩,
  ⟨0x14, 1, 0, 1, 0, 8, 1, .rw, 0⟩,
  ⟨0x18, 1, 0, 1, 0, 7, 1, .w1c, 0⟩,
  ⟨0x10, 1, 0, 1, 0, 7, 1, .w1c, 0⟩,
  ⟨0x14, 1, 0, 1, 0, 7, 1, .rw, 0⟩,
  ⟨0x18, 1, 0, 1, 0, 6, 1, .w1c, 0⟩,
  ⟨0x10, 1, 0, 1, 0, 6, 1, .w1c, 0⟩,
  ⟨0x14, 1, 0, 1, 0, 6, 1, .rw, 0⟩,
  ⟨0x18, 1, 0, 1, 0, 5, 1, .w1c, 0⟩,
  ⟨0x10, 1, 0, 1, 0, 5, 1, .w1c, 0⟩,
  ⟨0x14, 1, 0, 1, 0, 5, 1, .rw, 0⟩,
  ⟨0x18, 1, 0, 1, 0, 4, 1, .w1c, 0⟩,
  ⟨0x10, 1, 0, 1, 0, 4, 1, .w1c, 0⟩,
  ⟨0x14, 1, 0, 1, 0, 4, 1, .rw, 0⟩,
  ⟨0x18, 1, 0, 1, 0, 3, 1, .w1c, 0⟩,
  ⟨0x10, 1, 0, 1, 0, 3, 1, .w1c, 0⟩]

/-- Rows of page MET (part 2 of 3): see the register table of its chapter. -/
def metRows1 : List Row := [
  ⟨0x14, 1, 0, 1, 0, 3, 1, .rw, 0⟩,
  ⟨0x18, 1, 0, 1, 0, 2, 1, .w1c, 0⟩,
  ⟨0x10, 1, 0, 1, 0, 2, 1, .w1c, 0⟩,
  ⟨0x14, 1, 0, 1, 0, 2, 1, .rw, 0⟩,
  ⟨0x18, 1, 0, 1, 0, 1, 1, .w1c, 0⟩,
  ⟨0x10, 1, 0, 1, 0, 1, 1, .w1c, 0⟩,
  ⟨0x14, 1, 0, 1, 0, 1, 1, .rw, 0⟩,
  ⟨0x18, 1, 0, 1, 0, 0, 1, .w1c, 0⟩,
  ⟨0x10, 1, 0, 1, 0, 0, 1, .w1c, 0⟩,
  ⟨0x14, 1, 0, 1, 0, 0, 1, .rw, 0⟩,
  ⟨0x40, 1, 0, 1, 0, 16, 2, .rws, 0⟩,
  ⟨0x40, 1, 0, 1, 0, 0, 8, .rws, 0x1a⟩,
  ⟨0x44, 1, 0, 1, 0, 0, 32, .rws, 0⟩,
  ⟨0x48, 1, 0, 1, 0, 24, 8, .rws, 8⟩,
  ⟨0x48, 1, 0, 1, 0, 16, 8, .rws, 0x3c⟩,
  ⟨0x48, 1, 0, 1, 0, 15, 1, .rws, 0⟩,
  ⟨0x48, 1, 0, 1, 0, 0, 15, .rws, 0x1f4⟩,
  ⟨0x4c, 1, 0, 1, 0, 24, 8, .rws, 0x1a⟩,
  ⟨0x4c, 1, 0, 1, 0, 16, 8, .rws, 5⟩,
  ⟨0x4c, 1, 0, 1, 0, 0, 16, .rws, 0x1f4⟩,
  ⟨0x50, 1, 0, 1, 0, 0, 16, .rws, 0x384⟩,
  ⟨0x54, 1, 0, 1, 0, 16, 16, .rws, 0xe6⟩,
  ⟨0x54, 1, 0, 1, 0, 0, 16, .rws, 0⟩,
  ⟨0x58, 1, 0, 1, 0, 0, 8, .rws, 5⟩,
  ⟨0x5c, 1, 0, 1, 0, 8, 5, .wo, 0⟩,
  ⟨0x5c, 1, 0, 1, 0, 2, 1, .wo, 0⟩,
  ⟨0x5c, 1, 0, 1, 0, 1, 1, .wo, 0⟩,
  ⟨0x5c, 1, 0, 1, 0, 0, 1, .wo, 0⟩,
  ⟨0x60, 1, 0, 1, 0, 0, 32, .rw, 0⟩,
  ⟨0x64, 1, 0, 1, 0, 0, 32, .rw, 0⟩,
  ⟨0x68, 1, 0, 1, 0, 0, 8, .rw, 0⟩,
  ⟨0x6c, 1, 0, 1, 0, 0, 8, .w1c, 0⟩,
  ⟨0x70, 3, 4, 1, 0, 0, 32, .ro, 0⟩,
  ⟨0x7c, 1, 0, 1, 0, 0, 32, .ro, 0⟩,
  ⟨0x80, 4, 4, 1, 0, 31, 1, .rws, 0⟩,
  ⟨0x80, 4, 4, 1, 0, 8, 5, .rws, 0⟩,
  ⟨0x80, 4, 4, 1, 0, 0, 7, .rws, 0x28⟩,
  ⟨0x90, 4, 4, 1, 0, 0, 32, .rws, 0⟩,
  ⟨0xa0, 4, 4, 1, 0, 0, 32, .ro, 0⟩,
  ⟨0xb0, 3, 4, 1, 0, 0, 32, .ro, 0⟩]

/-- Rows of page MET (part 3 of 3): see the register table of its chapter. -/
def metRows2 : List Row := [
  ⟨0xbc, 1, 0, 1, 0, 0, 32, .ro, 0⟩,
  ⟨0xc0, 1, 0, 1, 0, 0, 32, .ro, 0⟩,
  ⟨0x200, 32, 4, 1, 0, 0, 32, .ro, 0⟩,
  ⟨0x400, 32, 0x10, 1, 0, 0, 32, .ro, 0⟩,
  ⟨0x404, 32, 0x10, 1, 0, 0, 32, .ro, 0⟩,
  ⟨0x408, 32, 0x10, 1, 0, 0, 8, .ro, 0⟩,
  ⟨0x600, 32, 0x10, 1, 0, 0, 32, .ro, 0⟩,
  ⟨0x604, 32, 0x10, 1, 0, 0, 32, .ro, 0⟩,
  ⟨0x608, 32, 0x10, 1, 0, 0, 8, .ro, 0⟩]

/-- All rows of page MET. -/
def metRows : List Row := metRows0 ++ metRows1 ++ metRows2

/-- Rows of page MTC (part 1 of 1): see the register table of its chapter. -/
def mtcRows : List Row := [
  ⟨8, 1, 0, 1, 0, 0, 1, .rw, 0⟩,
  ⟨0xc, 1, 0, 1, 0, 24, 8, .ro, 0⟩,
  ⟨0xc, 1, 0, 1, 0, 1, 1, .ro, 0⟩,
  ⟨0xc, 1, 0, 1, 0, 0, 1, .ro, 0⟩,
  ⟨0x18, 1, 0, 1, 0, 2, 1, .w1c, 0⟩,
  ⟨0x10, 1, 0, 1, 0, 2, 1, .w1c, 0⟩,
  ⟨0x14, 1, 0, 1, 0, 2, 1, .rw, 0⟩,
  ⟨0x18, 1, 0, 1, 0, 1, 1, .w1c, 0⟩,
  ⟨0x10, 1, 0, 1, 0, 1, 1, .w1c, 0⟩,
  ⟨0x14, 1, 0, 1, 0, 1, 1, .rw, 0⟩,
  ⟨0x18, 1, 0, 1, 0, 0, 1, .w1c, 0⟩,
  ⟨0x10, 1, 0, 1, 0, 0, 1, .w1c, 0⟩,
  ⟨0x14, 1, 0, 1, 0, 0, 1, .rw, 0⟩,
  ⟨0x40, 1, 0, 1, 0, 0, 16, .rw, 0⟩,
  ⟨0x200, 8, 0x10, 1, 0, 0, 32, .rws, 0⟩,
  ⟨0x204, 8, 0x10, 1, 0, 0, 24, .rws, 0⟩,
  ⟨0x208, 8, 0x10, 1, 0, 16, 16, .rws, 0⟩,
  ⟨0x208, 8, 0x10, 1, 0, 0, 16, .rws, 0⟩,
  ⟨0x20c, 8, 0x10, 1, 0, 8, 1, .rws, 0⟩,
  ⟨0x20c, 8, 0x10, 1, 0, 0, 6, .rws, 0⟩,
  ⟨0x400, 8, 0x80, 32, 4, 24, 8, .rws, 0⟩,
  ⟨0x400, 8, 0x80, 32, 4, 12, 12, .rws, 0⟩,
  ⟨0x400, 8, 0x80, 32, 4, 0, 12, .rws, 0⟩]

/-- Rows of page PHS (part 1 of 2): see the register table of its chapter. -/
def phsRows0 : List Row := [
  ⟨8, 1, 0, 1, 0, 4, 1, .rw, 0⟩,
  ⟨8, 1, 0, 1, 0, 3, 1, .rw, 0⟩,
  ⟨8, 1, 0, 1, 0, 2, 1, .rw, 0⟩,
  ⟨8, 1, 0, 1, 0, 1, 1, .rw, 1⟩,
  ⟨8, 1, 0, 1, 0, 0, 1, .rw, 0⟩,
  ⟨0xc, 1, 0, 1, 0, 9, 1, .ro, 0⟩,
  ⟨0xc, 1, 0, 1, 0, 8, 1, .ro, 0⟩,
  ⟨0xc, 1, 0, 1, 0, 4, 4, .ro, 0⟩,
  ⟨0xc, 1, 0, 1, 0, 0, 4, .ro, 0⟩,
  ⟨0x18, 1, 0, 1, 0, 4, 1, .w1c, 0⟩,
  ⟨0x10, 1, 0, 1, 0, 4, 1, .w1c, 0⟩,
  ⟨0x14, 1, 0, 1, 0, 4, 1, .rw, 0⟩,
  ⟨0x18, 1, 0, 1, 0, 3, 1, .w1c, 0⟩,
  ⟨0x10, 1, 0, 1, 0, 3, 1, .w1c, 0⟩,
  ⟨0x14, 1, 0, 1, 0, 3, 1, .rw, 0⟩,
  ⟨0x18, 1, 0, 1, 0, 2, 1, .w1c, 0⟩,
  ⟨0x10, 1, 0, 1, 0, 2, 1, .w1c, 0⟩,
  ⟨0x14, 1, 0, 1, 0, 2, 1, .rw, 0⟩,
  ⟨0x18, 1, 0, 1, 0, 1, 1, .w1c, 0⟩,
  ⟨0x10, 1, 0, 1, 0, 1, 1, .w1c, 0⟩,
  ⟨0x14, 1, 0, 1, 0, 1, 1, .rw, 0⟩,
  ⟨0x18, 1, 0, 1, 0, 0, 1, .w1c, 0⟩,
  ⟨0x10, 1, 0, 1, 0, 0, 1, .w1c, 0⟩,
  ⟨0x14, 1, 0, 1, 0, 0, 1, .rw, 0⟩,
  ⟨0x40, 1, 0, 1, 0, 0, 8, .rws, 0x3c⟩,
  ⟨0x44, 1, 0, 1, 0, 0, 4, .rw, 0⟩,
  ⟨0x48, 1, 0, 1, 0, 31, 1, .rw, 0⟩,
  ⟨0x48, 1, 0, 1, 0, 0, 5, .rw, 0⟩,
  ⟨0x4c, 1, 0, 1, 0, 31, 1, .rw, 0⟩,
  ⟨0x4c, 1, 0, 1, 0, 0, 12, .rw, 0xfff⟩,
  ⟨0x50, 1, 0, 1, 0, 16, 12, .rws, 0⟩,
  ⟨0x50, 1, 0, 1, 0, 0, 2, .rws, 0⟩,
  ⟨0x54, 1, 0, 1, 0, 0, 4, .rw, 3⟩,
  ⟨0x58, 3, 4, 1, 0, 0, 32, .ro, 0⟩,
  ⟨0x64, 1, 0, 1, 0, 0, 32, .ro, 0xffffffff⟩,
  ⟨0x68, 1, 0, 1, 0, 0, 32, .ro, 0⟩,
  ⟨0x200, 4, 0x20, 1, 0, 31, 1, .rws, 0⟩,
  ⟨0x200, 4, 0x20, 1, 0, 30, 1, .rws, 0⟩,
  ⟨0x200, 4, 0x20, 1, 0, 29, 1, .rws, 0⟩,
  ⟨0x200, 4, 0x20, 1, 0, 24, 4, .rws, 0xf⟩]

/-- Rows of page PHS (part 2 of 2): see the register table of its chapter. -/
def phsRows1 : List Row := [
  ⟨0x200, 4, 0x20, 1, 0, 12, 6, .rws, 0⟩,
  ⟨0x200, 4, 0x20, 1, 0, 6, 6, .rws, 0⟩,
  ⟨0x200, 4, 0x20, 1, 0, 0, 6, .rws, 0⟩,
  ⟨0x204, 4, 0x20, 3, 4, 0, 16, .rws, 0⟩,
  ⟨0x210, 4, 0x20, 1, 0, 0, 32, .ro, 0⟩,
  ⟨0x214, 4, 0x20, 1, 0, 0, 32, .ro, 0⟩,
  ⟨0x218, 4, 0x20, 1, 0, 0, 32, .ro, 0⟩,
  ⟨0x21c, 4, 0x20, 1, 0, 0, 32, .ro, 0⟩]

/-- All rows of page PHS. -/
def phsRows : List Row := phsRows0 ++ phsRows1

/-- Rows of page TWV (part 1 of 2): see the register table of its chapter. -/
def twvRows0 : List Row := [
  ⟨8, 1, 0, 1, 0, 2, 1, .rw, 0⟩,
  ⟨8, 1, 0, 1, 0, 1, 1, .rw, 0⟩,
  ⟨8, 1, 0, 1, 0, 0, 1, .rw, 0⟩,
  ⟨0xc, 1, 0, 1, 0, 16, 8, .ro, 0⟩,
  ⟨0xc, 1, 0, 1, 0, 8, 8, .ro, 0⟩,
  ⟨0xc, 1, 0, 1, 0, 0, 8, .ro, 0⟩,
  ⟨0x18, 1, 0, 1, 0, 6, 1, .w1c, 0⟩,
  ⟨0x10, 1, 0, 1, 0, 6, 1, .w1c, 0⟩,
  ⟨0x14, 1, 0, 1, 0, 6, 1, .rw, 0⟩,
  ⟨0x18, 1, 0, 1, 0, 5, 1, .w1c, 0⟩,
  ⟨0x10, 1, 0, 1, 0, 5, 1, .w1c, 0⟩,
  ⟨0x14, 1, 0, 1, 0, 5, 1, .rw, 0⟩,
  ⟨0x18, 1, 0, 1, 0, 4, 1, .w1c, 0⟩,
  ⟨0x10, 1, 0, 1, 0, 4, 1, .w1c, 0⟩,
  ⟨0x14, 1, 0, 1, 0, 4, 1, .rw, 0⟩,
  ⟨0x18, 1, 0, 1, 0, 3, 1, .w1c, 0⟩,
  ⟨0x10, 1, 0, 1, 0, 3, 1, .w1c, 0⟩,
  ⟨0x14, 1, 0, 1, 0, 3, 1, .rw, 0⟩,
  ⟨0x18, 1, 0, 1, 0, 2, 1, .w1c, 0⟩,
  ⟨0x10, 1, 0, 1, 0, 2, 1, .w1c, 0⟩,
  ⟨0x14, 1, 0, 1, 0, 2, 1, .rw, 0⟩,
  ⟨0x18, 1, 0, 1, 0, 1, 1, .w1c, 0⟩,
  ⟨0x10, 1, 0, 1, 0, 1, 1, .w1c, 0⟩,
  ⟨0x14, 1, 0, 1, 0, 1, 1, .rw, 0⟩,
  ⟨0x18, 1, 0, 1, 0, 0, 1, .w1c, 0⟩,
  ⟨0x10, 1, 0, 1, 0, 0, 1, .w1c, 0⟩,
  ⟨0x14, 1, 0, 1, 0, 0, 1, .rw, 0⟩,
  ⟨0x40, 1, 0, 1, 0, 0, 12, .rw, 0xfff⟩,
  ⟨0x44, 1, 0, 1, 0, 31, 1, .rw, 0⟩,
  ⟨0x44, 1, 0, 1, 0, 24, 5, .rw, 0⟩,
  ⟨0x44, 1, 0, 1, 0, 15, 1, .rw, 0⟩,
  ⟨0x44, 1, 0, 1, 0, 8, 5, .rw, 0⟩,
  ⟨0x48, 1, 0, 1, 0, 0, 8, .ro, 0⟩,
  ⟨0x4c, 1, 0, 1, 0, 0, 8, .rw, 0⟩,
  ⟨0x50, 1, 0, 1, 0, 0, 32, .ro, 0⟩,
  ⟨0x54, 1, 0, 1, 0, 0, 32, .ro, 0⟩,
  ⟨0x58, 1, 0, 1, 0, 0, 32, .ro, 0⟩,
  ⟨0x5c, 1, 0, 1, 0, 0, 1, .wo, 0⟩,
  ⟨0x200, 8, 0x10, 1, 0, 31, 1, .rws, 0⟩,
  ⟨0x200, 8, 0x10, 1, 0, 24, 6, .rws, 0⟩]

/-- Rows of page TWV (part 2 of 2): see the register table of its chapter. -/
def twvRows1 : List Row := [
  ⟨0x200, 8, 0x10, 1, 0, 16, 4, .rws, 2⟩,
  ⟨0x200, 8, 0x10, 1, 0, 0, 16, .rws, 0⟩,
  ⟨0x204, 8, 0x10, 1, 0, 0, 16, .rws, 0⟩,
  ⟨0x208, 8, 0x10, 1, 0, 0, 16, .rws, 0⟩,
  ⟨0x20c, 8, 0x10, 1, 0, 31, 1, .ro, 0⟩,
  ⟨0x20c, 8, 0x10, 1, 0, 0, 16, .ro, 0⟩,
  ⟨0x300, 8, 0x10, 1, 0, 31, 1, .rws, 0⟩,
  ⟨0x300, 8, 0x10, 1, 0, 30, 1, .rws, 0⟩,
  ⟨0x300, 8, 0x10, 1, 0, 24, 3, .rws, 0⟩,
  ⟨0x300, 8, 0x10, 1, 0, 0, 16, .rws, 0⟩,
  ⟨0x304, 8, 0x10, 1, 0, 0, 12, .rws, 0⟩,
  ⟨0x308, 8, 0x10, 1, 0, 0, 24, .rws, 0⟩,
  ⟨0x30c, 8, 0x10, 1, 0, 0, 32, .ro, 0⟩]

/-- All rows of page TWV. -/
def twvRows : List Row := twvRows0 ++ twvRows1

/-- Rows of page GRD (part 1 of 2): see the register table of its chapter. -/
def grdRows0 : List Row := [
  ⟨8, 1, 0, 1, 0, 5, 1, .rw, 1⟩,
  ⟨8, 1, 0, 1, 0, 4, 1, .rw, 0⟩,
  ⟨8, 1, 0, 1, 0, 3, 1, .rw, 0⟩,
  ⟨8, 1, 0, 1, 0, 2, 1, .rw, 1⟩,
  ⟨8, 1, 0, 1, 0, 0, 1, .rw, 0⟩,
  ⟨0xc, 1, 0, 1, 0, 8, 6, .ro, 0⟩,
  ⟨0xc, 1, 0, 1, 0, 7, 1, .ro, 0⟩,
  ⟨0xc, 1, 0, 1, 0, 6, 1, .ro, 0⟩,
  ⟨0xc, 1, 0, 1, 0, 5, 1, .ro, 0⟩,
  ⟨0xc, 1, 0, 1, 0, 4, 1, .ro, 0⟩,
  ⟨0xc, 1, 0, 1, 0, 0, 3, .ro, 0⟩,
  ⟨0x18, 1, 0, 1, 0, 6, 1, .w1c, 0⟩,
  ⟨0x10, 1, 0, 1, 0, 6, 1, .w1c, 0⟩,
  ⟨0x14, 1, 0, 1, 0, 6, 1, .rw, 0⟩,
  ⟨0x18, 1, 0, 1, 0, 5, 1, .w1c, 0⟩,
  ⟨0x10, 1, 0, 1, 0, 5, 1, .w1c, 0⟩,
  ⟨0x14, 1, 0, 1, 0, 5, 1, .rw, 0⟩,
  ⟨0x18, 1, 0, 1, 0, 4, 1, .w1c, 0⟩,
  ⟨0x10, 1, 0, 1, 0, 4, 1, .w1c, 0⟩,
  ⟨0x14, 1, 0, 1, 0, 4, 1, .rw, 0⟩,
  ⟨0x18, 1, 0, 1, 0, 3, 1, .w1c, 0⟩,
  ⟨0x10, 1, 0, 1, 0, 3, 1, .w1c, 0⟩,
  ⟨0x14, 1, 0, 1, 0, 3, 1, .rw, 0⟩,
  ⟨0x18, 1, 0, 1, 0, 2, 1, .w1c, 0⟩,
  ⟨0x10, 1, 0, 1, 0, 2, 1, .w1c, 0⟩,
  ⟨0x14, 1, 0, 1, 0, 2, 1, .rw, 0⟩,
  ⟨0x18, 1, 0, 1, 0, 1, 1, .w1c, 0⟩,
  ⟨0x10, 1, 0, 1, 0, 1, 1, .w1c, 0⟩,
  ⟨0x14, 1, 0, 1, 0, 1, 1, .rw, 0⟩,
  ⟨0x18, 1, 0, 1, 0, 0, 1, .w1c, 0⟩,
  ⟨0x10, 1, 0, 1, 0, 0, 1, .w1c, 0⟩,
  ⟨0x14, 1, 0, 1, 0, 0, 1, .rw, 0⟩,
  ⟨0x40, 1, 0, 1, 0, 0, 2, .rws, 3⟩,
  ⟨0x44, 1, 0, 1, 0, 0, 32, .rw, 0⟩,
  ⟨0x48, 1, 0, 1, 0, 0, 1, .rw, 1⟩,
  ⟨0x4c, 1, 0, 1, 0, 0, 24, .rw, 0x383430⟩,
  ⟨0x50, 1, 0, 1, 0, 16, 16, .rws, 0x200⟩,
  ⟨0x50, 1, 0, 1, 0, 0, 16, .rws, 0x19a⟩,
  ⟨0x54, 1, 0, 1, 0, 0, 16, .rws, 0x200⟩,
  ⟨0x58, 1, 0, 1, 0, 16, 12, .rws, 0x1a⟩]

/-- Rows of page GRD (part 2 of 2): see the register table of its chapter. -/
def grdRows1 : List Row := [
  ⟨0x58, 1, 0, 1, 0, 0, 12, .rws, 0x29⟩,
  ⟨0x5c, 1, 0, 1, 0, 16, 16, .rws, 0x64⟩,
  ⟨0x5c, 1, 0, 1, 0, 0, 16, .rws, 0⟩,
  ⟨0x60, 1, 0, 1, 0, 24, 8, .rws, 8⟩,
  ⟨0x60, 1, 0, 1, 0, 12, 12, .rws, 0⟩,
  ⟨0x60, 1, 0, 1, 0, 0, 12, .rws, 0x32⟩,
  ⟨0x64, 1, 0, 1, 0, 31, 1, .rws, 0⟩,
  ⟨0x64, 1, 0, 1, 0, 24, 7, .rws, 0⟩,
  ⟨0x64, 1, 0, 1, 0, 16, 8, .rws, 0x32⟩,
  ⟨0x64, 1, 0, 1, 0, 0, 16, .rws, 0x3a4⟩,
  ⟨0x68, 1, 0, 1, 0, 0, 32, .ro, 0⟩,
  ⟨0x6c, 1, 0, 1, 0, 1, 1, .wo, 0⟩,
  ⟨0x6c, 1, 0, 1, 0, 0, 1, .wo, 0⟩,
  ⟨0x70, 1, 0, 1, 0, 0, 32, .ro, 0⟩,
  ⟨0x74, 1, 0, 1, 0, 0, 32, .ro, 0⟩,
  ⟨0x78, 1, 0, 1, 0, 0, 32, .ro, 0⟩,
  ⟨0x7c, 1, 0, 1, 0, 0, 32, .ro, 0⟩,
  ⟨0x80, 1, 0, 1, 0, 0, 32, .ro, 0⟩,
  ⟨0x84, 1, 0, 1, 0, 0, 32, .ro, 0⟩,
  ⟨0x400, 32, 4, 1, 0, 0, 32, .rws, 0⟩,
  ⟨0x480, 32, 4, 1, 0, 0, 32, .rws, 0⟩]

/-- All rows of page GRD. -/
def grdRows : List Row := grdRows0 ++ grdRows1

/-- Rows of page MPT (part 1 of 2): see the register table of its chapter. -/
def mptRows0 : List Row := [
  ⟨8, 1, 0, 1, 0, 0, 1, .rw, 0⟩,
  ⟨0xc, 1, 0, 1, 0, 10, 1, .ro, 0⟩,
  ⟨0xc, 1, 0, 1, 0, 9, 1, .ro, 0⟩,
  ⟨0xc, 1, 0, 1, 0, 8, 1, .ro, 0⟩,
  ⟨0xc, 1, 0, 1, 0, 5, 1, .ro, 0⟩,
  ⟨0xc, 1, 0, 1, 0, 4, 1, .ro, 0⟩,
  ⟨0xc, 1, 0, 1, 0, 0, 4, .ro, 0xf⟩,
  ⟨0x18, 1, 0, 1, 0, 6, 1, .w1c, 0⟩,
  ⟨0x10, 1, 0, 1, 0, 6, 1, .w1c, 0⟩,
  ⟨0x14, 1, 0, 1, 0, 6, 1, .rw, 0⟩,
  ⟨0x18, 1, 0, 1, 0, 5, 1, .w1c, 0⟩,
  ⟨0x10, 1, 0, 1, 0, 5, 1, .w1c, 0⟩,
  ⟨0x14, 1, 0, 1, 0, 5, 1, .rw, 0⟩,
  ⟨0x18, 1, 0, 1, 0, 4, 1, .w1c, 0⟩,
  ⟨0x10, 1, 0, 1, 0, 4, 1, .w1c, 0⟩,
  ⟨0x14, 1, 0, 1, 0, 4, 1, .rw, 0⟩,
  ⟨0x18, 1, 0, 1, 0, 3, 1, .w1c, 0⟩,
  ⟨0x10, 1, 0, 1, 0, 3, 1, .w1c, 0⟩,
  ⟨0x14, 1, 0, 1, 0, 3, 1, .rw, 0⟩,
  ⟨0x18, 1, 0, 1, 0, 2, 1, .w1c, 0⟩,
  ⟨0x10, 1, 0, 1, 0, 2, 1, .w1c, 0⟩,
  ⟨0x14, 1, 0, 1, 0, 2, 1, .rw, 0⟩,
  ⟨0x18, 1, 0, 1, 0, 1, 1, .w1c, 0⟩,
  ⟨0x10, 1, 0, 1, 0, 1, 1, .w1c, 0⟩,
  ⟨0x14, 1, 0, 1, 0, 1, 1, .rw, 0⟩,
  ⟨0x18, 1, 0, 1, 0, 0, 1, .w1c, 0⟩,
  ⟨0x10, 1, 0, 1, 0, 0, 1, .w1c, 0⟩,
  ⟨0x14, 1, 0, 1, 0, 0, 1, .rw, 0⟩,
  ⟨0x40, 1, 0, 1, 0, 0, 12, .rw, 0⟩,
  ⟨0x44, 1, 0, 1, 0, 16, 8, .rws, 4⟩,
  ⟨0x44, 1, 0, 1, 0, 8, 8, .rws, 0xc⟩,
  ⟨0x44, 1, 0, 1, 0, 0, 8, .rws, 0x40⟩,
  ⟨0x48, 1, 0, 1, 0, 16, 16, .rw, 0x64⟩,
  ⟨0x48, 1, 0, 1, 0, 0, 16, .rw, 0⟩,
  ⟨0x4c, 1, 0, 1, 0, 0, 16, .rws, 0x140⟩,
  ⟨0x50, 1, 0, 1, 0, 16, 16, .rws, 0x61b⟩,
  ⟨0x50, 1, 0, 1, 0, 0, 16, .rws, 0x3d09⟩,
  ⟨0x54, 1, 0, 1, 0, 16, 12, .rws, 0x12c⟩,
  ⟨0x54, 1, 0, 1, 0, 0, 12, .rws, 0xc8⟩,
  ⟨0x58, 1, 0, 1, 0, 2, 1, .wo, 0⟩]

/-- Rows of page MPT (part 2 of 2): see the register table of its chapter. -/
def mptRows1 : List Row := [
  ⟨0x58, 1, 0, 1, 0, 1, 1, .wo, 0⟩,
  ⟨0x58, 1, 0, 1, 0, 0, 1, .wo, 0⟩,
  ⟨0x5c, 1, 0, 1, 0, 8, 3, .rws, 0⟩,
  ⟨0x5c, 1, 0, 1, 0, 6, 2, .rws, 1⟩,
  ⟨0x5c, 1, 0, 1, 0, 5, 1, .rws, 1⟩,
  ⟨0x5c, 1, 0, 1, 0, 4, 1, .rws, 1⟩,
  ⟨0x5c, 1, 0, 1, 0, 3, 1, .rws, 0⟩,
  ⟨0x5c, 1, 0, 1, 0, 2, 1, .rws, 0⟩,
  ⟨0x5c, 1, 0, 1, 0, 1, 1, .rws, 1⟩,
  ⟨0x5c, 1, 0, 1, 0, 0, 1, .rws, 1⟩,
  ⟨0x60, 1, 0, 1, 0, 28, 4, .rws, 2⟩,
  ⟨0x60, 1, 0, 1, 0, 16, 12, .rws, 0x66⟩,
  ⟨0x60, 1, 0, 1, 0, 0, 12, .rws, 0x50⟩,
  ⟨0x64, 1, 0, 1, 0, 24, 8, .rws, 0x32⟩,
  ⟨0x64, 1, 0, 1, 0, 16, 8, .rws, 0xa⟩,
  ⟨0x64, 1, 0, 1, 0, 0, 16, .rws, 0x3c⟩,
  ⟨0x68, 1, 0, 1, 0, 28, 4, .rws, 3⟩,
  ⟨0x68, 1, 0, 1, 0, 0, 16, .rws, 0x200⟩,
  ⟨0x6c, 1, 0, 1, 0, 0, 12, .rws, 0x64⟩,
  ⟨0x70, 1, 0, 1, 0, 16, 16, .rws, 0xc8⟩,
  ⟨0x70, 1, 0, 1, 0, 0, 12, .rws, 0x200⟩,
  ⟨0x74, 1, 0, 1, 0, 16, 16, .rws, 0x3e8⟩,
  ⟨0x74, 1, 0, 1, 0, 0, 8, .rws, 0x64⟩,
  ⟨0x78, 1, 0, 1, 0, 0, 16, .rws, 0x52⟩,
  ⟨0x7c, 1, 0, 1, 0, 0, 6, .w1c, 0⟩,
  ⟨0x80, 1, 0, 1, 0, 0, 32, .ro, 0⟩,
  ⟨0x84, 1, 0, 1, 0, 0, 32, .ro, 0⟩,
  ⟨0x88, 1, 0, 1, 0, 0, 32, .ro, 0⟩,
  ⟨0x8c, 1, 0, 1, 0, 0, 4, .ro, 0xf⟩,
  ⟨0x90, 1, 0, 1, 0, 0, 32, .ro, 0⟩,
  ⟨0x200, 12, 4, 1, 0, 0, 32, .ro, 0⟩,
  ⟨0x240, 12, 4, 1, 0, 0, 32, .ro, 0⟩,
  ⟨0x280, 12, 4, 1, 0, 0, 32, .ro, 0⟩,
  ⟨0x400, 64, 8, 1, 0, 0, 32, .ro, 0⟩,
  ⟨0x404, 64, 8, 1, 0, 0, 32, .ro, 0⟩]

/-- All rows of page MPT. -/
def mptRows : List Row := mptRows0 ++ mptRows1

/-- Rows of page PMP (part 1 of 2): see the register table of its chapter. -/
def pmpRows0 : List Row := [
  ⟨8, 1, 0, 1, 0, 3, 1, .rw, 0⟩,
  ⟨8, 1, 0, 1, 0, 2, 1, .rw, 0⟩,
  ⟨8, 1, 0, 1, 0, 1, 1, .rw, 0⟩,
  ⟨8, 1, 0, 1, 0, 0, 1, .rw, 0⟩,
  ⟨0xc, 1, 0, 1, 0, 31, 1, .ro, 0⟩,
  ⟨0xc, 1, 0, 1, 0, 30, 1, .ro, 0⟩,
  ⟨0xc, 1, 0, 1, 0, 29, 1, .ro, 0⟩,
  ⟨0xc, 1, 0, 1, 0, 28, 1, .ro, 0⟩,
  ⟨0xc, 1, 0, 1, 0, 25, 3, .ro, 0⟩,
  ⟨0xc, 1, 0, 1, 0, 8, 4, .ro, 0⟩,
  ⟨0xc, 1, 0, 1, 0, 4, 3, .ro, 0⟩,
  ⟨0xc, 1, 0, 1, 0, 0, 3, .ro, 0⟩,
  ⟨0x18, 1, 0, 1, 0, 8, 1, .w1c, 0⟩,
  ⟨0x10, 1, 0, 1, 0, 8, 1, .w1c, 0⟩,
  ⟨0x14, 1, 0, 1, 0, 8, 1, .rw, 0⟩,
  ⟨0x18, 1, 0, 1, 0, 7, 1, .w1c, 0⟩,
  ⟨0x10, 1, 0, 1, 0, 7, 1, .w1c, 0⟩,
  ⟨0x14, 1, 0, 1, 0, 7, 1, .rw, 0⟩,
  ⟨0x18, 1, 0, 1, 0, 6, 1, .w1c, 0⟩,
  ⟨0x10, 1, 0, 1, 0, 6, 1, .w1c, 0⟩,
  ⟨0x14, 1, 0, 1, 0, 6, 1, .rw, 0⟩,
  ⟨0x18, 1, 0, 1, 0, 5, 1, .w1c, 0⟩,
  ⟨0x10, 1, 0, 1, 0, 5, 1, .w1c, 0⟩,
  ⟨0x14, 1, 0, 1, 0, 5, 1, .rw, 0⟩,
  ⟨0x18, 1, 0, 1, 0, 4, 1, .w1c, 0⟩,
  ⟨0x10, 1, 0, 1, 0, 4, 1, .w1c, 0⟩,
  ⟨0x14, 1, 0, 1, 0, 4, 1, .rw, 0⟩,
  ⟨0x18, 1, 0, 1, 0, 3, 1, .w1c, 0⟩,
  ⟨0x10, 1, 0, 1, 0, 3, 1, .w1c, 0⟩,
  ⟨0x14, 1, 0, 1, 0, 3, 1, .rw, 0⟩,
  ⟨0x18, 1, 0, 1, 0, 2, 1, .w1c, 0⟩,
  ⟨0x10, 1, 0, 1, 0, 2, 1, .w1c, 0⟩,
  ⟨0x14, 1, 0, 1, 0, 2, 1, .rw, 0⟩,
  ⟨0x18, 1, 0, 1, 0, 1, 1, .w1c, 0⟩,
  ⟨0x10, 1, 0, 1, 0, 1, 1, .w1c, 0⟩,
  ⟨0x14, 1, 0, 1, 0, 1, 1, .rw, 0⟩,
  ⟨0x18, 1, 0, 1, 0, 0, 1, .w1c, 0⟩,
  ⟨0x10, 1, 0, 1, 0, 0, 1, .w1c, 0⟩,
  ⟨0x14, 1, 0, 1, 0, 0, 1, .rw, 0⟩,
  ⟨0x40, 1, 0, 1, 0, 16, 16, .rws, 0x1e85⟩]

/-- Rows of page PMP (part 2 of 2): see the register table of its chapter. -/
def pmpRows1 : List Row := [
  ⟨0x40, 1, 0, 1, 0, 8, 8, .rws, 0xfa⟩,
  ⟨0x40, 1, 0, 1, 0, 0, 1, .rws, 1⟩,
  ⟨0x44, 1, 0, 1, 0, 0, 14, .rws, 0x1388⟩,
  ⟨0x48, 1, 0, 1, 0, 24, 8, .rws, 0x10⟩,
  ⟨0x48, 1, 0, 1, 0, 0, 16, .rws, 0xfa0⟩,
  ⟨0x4c, 1, 0, 1, 0, 24, 4, .rws, 4⟩,
  ⟨0x4c, 1, 0, 1, 0, 16, 4, .rws, 2⟩,
  ⟨0x4c, 1, 0, 1, 0, 8, 8, .rws, 0x80⟩,
  ⟨0x4c, 1, 0, 1, 0, 0, 8, .rws, 0x40⟩,
  ⟨0x50, 1, 0, 1, 0, 16, 16, .rws, 0xc8⟩,
  ⟨0x50, 1, 0, 1, 0, 0, 8, .rws, 0x1a⟩,
  ⟨0x54, 1, 0, 1, 0, 16, 16, .rws, 0xc8⟩,
  ⟨0x54, 1, 0, 1, 0, 8, 8, .rws, 5⟩,
  ⟨0x54, 1, 0, 1, 0, 0, 8, .rws, 8⟩,
  ⟨0x58, 1, 0, 1, 0, 16, 16, .rws, 0x50⟩,
  ⟨0x58, 1, 0, 1, 0, 0, 16, .rws, 0x28⟩,
  ⟨0x5c, 1, 0, 1, 0, 31, 1, .rws, 0⟩,
  ⟨0x5c, 1, 0, 1, 0, 30, 1, .rws, 0⟩,
  ⟨0x5c, 1, 0, 1, 0, 24, 6, .rws, 0⟩,
  ⟨0x5c, 1, 0, 1, 0, 23, 1, .rws, 0⟩,
  ⟨0x5c, 1, 0, 1, 0, 16, 6, .rws, 0⟩,
  ⟨0x5c, 1, 0, 1, 0, 8, 8, .rws, 3⟩,
  ⟨0x60, 1, 0, 1, 0, 16, 16, .rws, 0x64⟩,
  ⟨0x60, 1, 0, 1, 0, 0, 16, .rws, 0x1f4⟩,
  ⟨0x64, 1, 0, 1, 0, 16, 16, .rws, 0x3e8⟩,
  ⟨0x64, 1, 0, 1, 0, 0, 16, .rws, 0x1f4⟩,
  ⟨0x68, 1, 0, 1, 0, 24, 8, .rws, 0xf0⟩,
  ⟨0x68, 1, 0, 1, 0, 16, 8, .rws, 0xe0⟩,
  ⟨0x68, 1, 0, 1, 0, 8, 1, .rws, 1⟩,
  ⟨0x6c, 1, 0, 1, 0, 0, 1, .wo, 0⟩,
  ⟨0x70, 1, 0, 1, 0, 31, 1, .rws, 0⟩,
  ⟨0x70, 1, 0, 1, 0, 0, 6, .rws, 0⟩,
  ⟨0x74, 1, 0, 1, 0, 0, 16, .ro, 0⟩,
  ⟨0x78, 1, 0, 1, 0, 0, 32, .ro, 0⟩,
  ⟨0x7c, 1, 0, 1, 0, 0, 8, .ro, 0⟩,
  ⟨0x80, 1, 0, 1, 0, 0, 32, .ro, 0⟩]

/-- All rows of page PMP. -/
def pmpRows : List Row := pmpRows0 ++ pmpRows1

/-- Rows of page PAR (part 1 of 2): see the register table of its chapter. -/
def parRows0 : List Row := [
  ⟨8, 1, 0, 1, 0, 0, 1, .rw, 1⟩,
  ⟨0xc, 1, 0, 1, 0, 24, 8, .ro, 0⟩,
  ⟨0xc, 1, 0, 1, 0, 16, 8, .ro, 0⟩,
  ⟨0xc, 1, 0, 1, 0, 11, 1, .ro, 0⟩,
  ⟨0xc, 1, 0, 1, 0, 10, 1, .ro, 0⟩,
  ⟨0xc, 1, 0, 1, 0, 9, 1, .ro, 1⟩,
  ⟨0xc, 1, 0, 1, 0, 8, 1, .ro, 0⟩,
  ⟨0xc, 1, 0, 1, 0, 0, 3, .ro, 0⟩,
  ⟨0x18, 1, 0, 1, 0, 7, 1, .w1c, 0⟩,
  ⟨0x10, 1, 0, 1, 0, 7, 1, .w1c, 0⟩,
  ⟨0x14, 1, 0, 1, 0, 7, 1, .rw, 0⟩,
  ⟨0x18, 1, 0, 1, 0, 6, 1, .w1c, 0⟩,
  ⟨0x10, 1, 0, 1, 0, 6, 1, .w1c, 0⟩,
  ⟨0x14, 1, 0, 1, 0, 6, 1, .rw, 0⟩,
  ⟨0x18, 1, 0, 1, 0, 5, 1, .w1c, 0⟩,
  ⟨0x10, 1, 0, 1, 0, 5, 1, .w1c, 0⟩,
  ⟨0x14, 1, 0, 1, 0, 5, 1, .rw, 0⟩,
  ⟨0x18, 1, 0, 1, 0, 4, 1, .w1c, 0⟩,
  ⟨0x10, 1, 0, 1, 0, 4, 1, .w1c, 0⟩,
  ⟨0x14, 1, 0, 1, 0, 4, 1, .rw, 0⟩,
  ⟨0x18, 1, 0, 1, 0, 3, 1, .w1c, 0⟩,
  ⟨0x10, 1, 0, 1, 0, 3, 1, .w1c, 0⟩,
  ⟨0x14, 1, 0, 1, 0, 3, 1, .rw, 0⟩,
  ⟨0x18, 1, 0, 1, 0, 2, 1, .w1c, 0⟩,
  ⟨0x10, 1, 0, 1, 0, 2, 1, .w1c, 0⟩,
  ⟨0x14, 1, 0, 1, 0, 2, 1, .rw, 0⟩,
  ⟨0x18, 1, 0, 1, 0, 1, 1, .w1c, 0⟩,
  ⟨0x10, 1, 0, 1, 0, 1, 1, .w1c, 0⟩,
  ⟨0x14, 1, 0, 1, 0, 1, 1, .rw, 0⟩,
  ⟨0x18, 1, 0, 1, 0, 0, 1, .w1c, 0⟩,
  ⟨0x10, 1, 0, 1, 0, 0, 1, .w1c, 0⟩,
  ⟨0x14, 1, 0, 1, 0, 0, 1, .rw, 0⟩,
  ⟨0x40, 1, 0, 1, 0, 28, 4, .ro, 0⟩,
  ⟨0x40, 1, 0, 1, 0, 16, 8, .ro, 0⟩,
  ⟨0x40, 1, 0, 1, 0, 0, 10, .ro, 0⟩,
  ⟨0x44, 1, 0, 1, 0, 16, 8, .rws, 0x1e⟩,
  ⟨0x44, 1, 0, 1, 0, 8, 8, .rws, 0x14⟩,
  ⟨0x44, 1, 0, 1, 0, 0, 1, .rws, 0⟩,
  ⟨0x48, 1, 0, 1, 0, 0, 4, .rws, 0⟩,
  ⟨0x4c, 1, 0, 1, 0, 0, 32, .ro, 0⟩]

/-- Rows of page PAR (part 2 of 2): see the register table of its chapter. -/
def parRows1 : List Row := [
  ⟨0x50, 1, 0, 1, 0, 0, 32, .ro, 0⟩,
  ⟨0x54, 1, 0, 1, 0, 4, 1, .ro, 0⟩,
  ⟨0x54, 1, 0, 1, 0, 3, 1, .ro, 0⟩,
  ⟨0x54, 1, 0, 1, 0, 0, 3, .ro, 0⟩,
  ⟨0x58, 1, 0, 1, 0, 0, 32, .ro, 0⟩,
  ⟨0x5c, 1, 0, 1, 0, 0, 32, .ro, 0⟩,
  ⟨0x60, 1, 0, 1, 0, 0, 32, .ro, 0⟩,
  ⟨0x64, 1, 0, 1, 0, 0, 16, .ro, 0⟩,
  ⟨0x68, 1, 0, 1, 0, 0, 32, .ro, 0⟩,
  ⟨0x6c, 1, 0, 1, 0, 0, 10, .ro, 0⟩,
  ⟨0x70, 1, 0, 1, 0, 0, 16, .ro, 0⟩,
  ⟨0x200, 8, 4, 1, 0, 31, 1, .rws, 0⟩,
  ⟨0x200, 8, 4, 1, 0, 30, 1, .rws, 0⟩,
  ⟨0x200, 8, 4, 1, 0, 29, 1, .rws, 0⟩,
  ⟨0x200, 8, 4, 1, 0, 23, 1, .rws, 0⟩,
  ⟨0x200, 8, 4, 1, 0, 20, 2, .rws, 0⟩,
  ⟨0x200, 8, 4, 1, 0, 19, 1, .rws, 0⟩,
  ⟨0x200, 8, 4, 1, 0, 16, 2, .rws, 0⟩,
  ⟨0x200, 8, 4, 1, 0, 8, 8, .rws, 0⟩,
  ⟨0x200, 8, 4, 1, 0, 0, 8, .rws, 0⟩]

/-- All rows of page PAR. -/
def parRows : List Row := parRows0 ++ parRows1

/-- Rows of page BED (part 1 of 2): see the register table of its chapter. -/
def bedRows0 : List Row := [
  ⟨8, 1, 0, 1, 0, 2, 1, .rw, 1⟩,
  ⟨8, 1, 0, 1, 0, 1, 1, .rw, 1⟩,
  ⟨8, 1, 0, 1, 0, 0, 1, .rw, 1⟩,
  ⟨0xc, 1, 0, 1, 0, 10, 1, .ro, 0⟩,
  ⟨0xc, 1, 0, 1, 0, 9, 1, .ro, 0⟩,
  ⟨0xc, 1, 0, 1, 0, 8, 1, .ro, 0⟩,
  ⟨0xc, 1, 0, 1, 0, 7, 1, .ro, 0⟩,
  ⟨0xc, 1, 0, 1, 0, 6, 1, .ro, 0⟩,
  ⟨0xc, 1, 0, 1, 0, 5, 1, .ro, 0⟩,
  ⟨0xc, 1, 0, 1, 0, 4, 1, .ro, 0⟩,
  ⟨0xc, 1, 0, 1, 0, 0, 2, .ro, 0⟩,
  ⟨0x18, 1, 0, 1, 0, 7, 1, .w1c, 0⟩,
  ⟨0x10, 1, 0, 1, 0, 7, 1, .w1c, 0⟩,
  ⟨0x14, 1, 0, 1, 0, 7, 1, .rw, 0⟩,
  ⟨0x18, 1, 0, 1, 0, 6, 1, .w1c, 0⟩,
  ⟨0x10, 1, 0, 1, 0, 6, 1, .w1c, 0⟩,
  ⟨0x14, 1, 0, 1, 0, 6, 1, .rw, 0⟩,
  ⟨0x18, 1, 0, 1, 0, 5, 1, .w1c, 1⟩,
  ⟨0x10, 1, 0, 1, 0, 5, 1, .w1c, 0⟩,
  ⟨0x14, 1, 0, 1, 0, 5, 1, .rw, 0⟩,
  ⟨0x18, 1, 0, 1, 0, 4, 1, .w1c, 0⟩,
  ⟨0x10, 1, 0, 1, 0, 4, 1, .w1c, 0⟩,
  ⟨0x14, 1, 0, 1, 0, 4, 1, .rw, 0⟩,
  ⟨0x18, 1, 0, 1, 0, 3, 1, .w1c, 0⟩,
  ⟨0x10, 1, 0, 1, 0, 3, 1, .w1c, 0⟩,
  ⟨0x14, 1, 0, 1, 0, 3, 1, .rw, 0⟩,
  ⟨0x18, 1, 0, 1, 0, 2, 1, .w1c, 0⟩,
  ⟨0x10, 1, 0, 1, 0, 2, 1, .w1c, 0⟩,
  ⟨0x14, 1, 0, 1, 0, 2, 1, .rw, 0⟩,
  ⟨0x18, 1, 0, 1, 0, 1, 1, .w1c, 0⟩,
  ⟨0x10, 1, 0, 1, 0, 1, 1, .w1c, 0⟩,
  ⟨0x14, 1, 0, 1, 0, 1, 1, .rw, 0⟩,
  ⟨0x18, 1, 0, 1, 0, 0, 1, .w1c, 0⟩,
  ⟨0x10, 1, 0, 1, 0, 0, 1, .w1c, 0⟩,
  ⟨0x14, 1, 0, 1, 0, 0, 1, .rw, 0⟩,
  ⟨0x40, 1, 0, 1, 0, 0, 32, .ro, 0⟩,
  ⟨0x44, 1, 0, 1, 0, 0, 8, .ro, 0⟩,
  ⟨0x48, 1, 0, 1, 0, 0, 15, .ro, 0⟩,
  ⟨0x4c, 1, 0, 1, 0, 0, 24, .ro, 0⟩,
  ⟨0x50, 1, 0, 1, 0, 0, 16, .ro, 0⟩]

/-- Rows of page BED (part 2 of 2): see the register table of its chapter. -/
def bedRows1 : List Row := [
  ⟨0x54, 1, 0, 1, 0, 0, 16, .ro, 0⟩,
  ⟨0x58, 1, 0, 1, 0, 16, 8, .rw, 0x4e⟩,
  ⟨0x58, 1, 0, 1, 0, 0, 16, .ro, 0⟩,
  ⟨0x5c, 1, 0, 1, 0, 0, 16, .rw, 0x1d6⟩,
  ⟨0x60, 1, 0, 1, 0, 16, 16, .rw, 0x32⟩,
  ⟨0x60, 1, 0, 1, 0, 0, 16, .rw, 0x1e⟩,
  ⟨0x64, 1, 0, 1, 0, 0, 32, .ro, 0⟩]

/-- All rows of page BED. -/
def bedRows : List Row := bedRows0 ++ bedRows1

/-- Rows of page LDG (part 1 of 1): see the register table of its chapter. -/
def ldgRows : List Row := [
  ⟨8, 1, 0, 1, 0, 1, 1, .rw, 0⟩,
  ⟨8, 1, 0, 1, 0, 0, 1, .rw, 1⟩,
  ⟨0xc, 1, 0, 1, 0, 4, 1, .ro, 0⟩,
  ⟨0xc, 1, 0, 1, 0, 3, 1, .ro, 0⟩,
  ⟨0xc, 1, 0, 1, 0, 2, 1, .ro, 0⟩,
  ⟨0xc, 1, 0, 1, 0, 1, 1, .ro, 0⟩,
  ⟨0xc, 1, 0, 1, 0, 0, 1, .ro, 0⟩,
  ⟨0x18, 1, 0, 1, 0, 6, 1, .w1c, 0⟩,
  ⟨0x10, 1, 0, 1, 0, 6, 1, .w1c, 0⟩,
  ⟨0x14, 1, 0, 1, 0, 6, 1, .rw, 0⟩,
  ⟨0x18, 1, 0, 1, 0, 5, 1, .w1c, 0⟩,
  ⟨0x10, 1, 0, 1, 0, 5, 1, .w1c, 0⟩,
  ⟨0x14, 1, 0, 1, 0, 5, 1, .rw, 0⟩,
  ⟨0x18, 1, 0, 1, 0, 4, 1, .w1c, 0⟩,
  ⟨0x10, 1, 0, 1, 0, 4, 1, .w1c, 0⟩,
  ⟨0x14, 1, 0, 1, 0, 4, 1, .rw, 0⟩,
  ⟨0x18, 1, 0, 1, 0, 3, 1, .w1c, 0⟩,
  ⟨0x10, 1, 0, 1, 0, 3, 1, .w1c, 0⟩,
  ⟨0x14, 1, 0, 1, 0, 3, 1, .rw, 0⟩,
  ⟨0x18, 1, 0, 1, 0, 2, 1, .w1c, 0⟩,
  ⟨0x10, 1, 0, 1, 0, 2, 1, .w1c, 0⟩,
  ⟨0x14, 1, 0, 1, 0, 2, 1, .rw, 0⟩,
  ⟨0x18, 1, 0, 1, 0, 1, 1, .w1c, 0⟩,
  ⟨0x10, 1, 0, 1, 0, 1, 1, .w1c, 0⟩,
  ⟨0x14, 1, 0, 1, 0, 1, 1, .rw, 0⟩,
  ⟨0x18, 1, 0, 1, 0, 0, 1, .w1c, 0⟩,
  ⟨0x10, 1, 0, 1, 0, 0, 1, .w1c, 0⟩,
  ⟨0x14, 1, 0, 1, 0, 0, 1, .rw, 0⟩,
  ⟨0x40, 1, 0, 1, 0, 0, 14, .ro, 0⟩,
  ⟨0x44, 1, 0, 1, 0, 0, 15, .ro, 0⟩,
  ⟨0x48, 1, 0, 1, 0, 0, 8, .ro, 0⟩,
  ⟨0x4c, 1, 0, 1, 0, 0, 32, .ro, 0⟩,
  ⟨0x50, 1, 0, 1, 0, 16, 16, .ro, 0⟩,
  ⟨0x50, 1, 0, 1, 0, 0, 16, .ro, 0⟩,
  ⟨0x54, 1, 0, 1, 0, 16, 3, .ro, 0⟩,
  ⟨0x54, 1, 0, 1, 0, 0, 16, .rw, 0⟩,
  ⟨0x58, 1, 0, 1, 0, 31, 1, .rw, 0⟩,
  ⟨0x58, 1, 0, 1, 0, 0, 5, .rw, 0⟩,
  ⟨0x5c, 1, 0, 1, 0, 0, 1, .wo, 0⟩,
  ⟨0x60, 1, 0, 1, 0, 0, 32, .ro, 0⟩]

/-- The rows of the page whose base is 4096 times the argument (R516). -/
def rowsOf : Nat → List Row
  | 0x0 => sysRows
  | 0x1 => clkRows
  | 0x2 => timRows
  | 0x3 => monRows
  | 0x4 => secRows
  | 0x5 => crnRows
  | 0x6 => cfgRows
  | 0x7 => hstRows
  | 0x8 => lnkRows
  | 0x9 => lnkRows
  | 0xa => lnkRows
  | 0xb => lnkRows
  | 0xc => lnkRows
  | 0xd => lnkRows
  | 0xe => lnkRows
  | 0xf => lnkRows
  | 0x10 => rdgRows
  | 0x11 => butRows
  | 0x12 => queRows
  | 0x20 => ke0Rows
  | 0x21 => fpmRows
  | 0x30 => ke1Rows
  | 0x40 => pwmRows
  | 0x41 => pwmRows
  | 0x42 => pwmRows
  | 0x43 => pwxRows
  | 0x44 => trpRows
  | 0x45 => gdpRows
  | 0x50 => cmpRows
  | 0x51 => cmpRows
  | 0x52 => cmpRows
  | 0x53 => cmpRows
  | 0x54 => fadRows
  | 0x55 => facRows
  | 0x60 => metRows
  | 0x61 => mtcRows
  | 0x70 => phsRows
  | 0x71 => twvRows
  | 0x72 => grdRows
  | 0x73 => mptRows
  | 0x80 => pmpRows
  | 0x90 => parRows
  | 0xa0 => bedRows
  | 0xa1 => ldgRows
  | _ => []

/-- The page index of R516: base, type code, instance, die, interrupt bit. -/
def pages : List PageInfo := [
  ⟨0x0, 0x101, 0, .main, 0⟩,
  ⟨0x1000, 0x201, 0, .main, 1⟩,
  ⟨0x2000, 0x202, 0, .main, 2⟩,
  ⟨0x3000, 0x301, 0, .main, 3⟩,
  ⟨0x4000, 0x401, 0, .main, 4⟩,
  ⟨0x5000, 0x502, 0, .main, 5⟩,
  ⟨0x6000, 0x501, 0, .main, 6⟩,
  ⟨0x7000, 0x601, 0, .main, 7⟩,
  ⟨0x8000, 0x801, 0, .main, 8⟩,
  ⟨0x9000, 0x801, 1, .main, 9⟩,
  ⟨0xa000, 0x801, 2, .main, 10⟩,
  ⟨0xb000, 0x801, 3, .main, 11⟩,
  ⟨0xc000, 0x801, 4, .main, 12⟩,
  ⟨0xd000, 0x801, 5, .main, 13⟩,
  ⟨0xe000, 0x801, 6, .main, 14⟩,
  ⟨0xf000, 0x801, 7, .main, 15⟩,
  ⟨0x10000, 0x901, 0, .main, 16⟩,
  ⟨0x11000, 0xa01, 0, .main, 17⟩,
  ⟨0x12000, 0x701, 0, .main, 18⟩,
  ⟨0x20000, 0x1001, 0, .main, 19⟩,
  ⟨0x21000, 0x1002, 0, .main, 20⟩,
  ⟨0x30000, 0x1101, 0, .main, 21⟩,
  ⟨0x40000, 0x1401, 0, .main, 22⟩,
  ⟨0x41000, 0x1401, 1, .main, 23⟩,
  ⟨0x42000, 0x1401, 2, .main, 24⟩,
  ⟨0x43000, 0x1402, 0, .main, 25⟩,
  ⟨0x44000, 0x1403, 0, .main, 26⟩,
  ⟨0x45000, 0x1502, 0, .main, 27⟩,
  ⟨0x50000, 0x1501, 0, .main, 28⟩,
  ⟨0x51000, 0x1501, 1, .main, 29⟩,
  ⟨0x52000, 0x1501, 2, .main, 30⟩,
  ⟨0x53000, 0x1501, 3, .main, 31⟩,
  ⟨0x54000, 0x1801, 0, .main, 32⟩,
  ⟨0x55000, 0x1802, 0, .main, 33⟩,
  ⟨0x60000, 0x1a01, 0, .power, 34⟩,
  ⟨0x61000, 0x1a02, 0, .power, 35⟩,
  ⟨0x70000, 0x1c01, 0, .main, 36⟩,
  ⟨0x71000, 0x1c02, 0, .main, 37⟩,
  ⟨0x72000, 0x1201, 0, .main, 38⟩,
  ⟨0x73000, 0x1202, 0, .main, 39⟩,
  ⟨0x80000, 0x2001, 0, .both, 40⟩,
  ⟨0x90000, 0x2401, 0, .both, 41⟩,
  ⟨0xa0000, 0x2801, 0, .power, 42⟩,
  ⟨0xa1000, 0x2802, 0, .power, 43⟩]

/-- The rows that cover offset `o` of a page: one per field of that register. -/
def rowsAt (pageNo o : Nat) : List Row := (rowsOf pageNo).filter (fun r => r.covers o)

/-- The row of the field with this key, when the spec gives one. -/
def rowOf (key : Nat) : Option Row :=
  (rowsOf (key / 32 / 0x1000)).find? (fun r => r.lo == key % 32 && r.covers (key / 32 % 0x1000))

/-- The reset value of a field (0 where the spec gives none, log entry 2). -/
def resetVal (key : Nat) : Nat := ((rowOf key).map Row.rst).getD 0

/-- The page of a byte address, when R516 lists it. -/
def pageAt (addr : Nat) : Option PageInfo := pages.find? (fun p => p.base == addr / 0x1000 * 0x1000)

end Sys2Proof.RegTable
end

