-- ==== Sys2Proof/Machine/Store.lean ====
section
/-! DEFINITION. The sparse store that registers and memories are kept in: a list of (key, value) pairs,
keys strictly rising, no pair equal to what an unlisted key reads as. -/

namespace Sys2Proof.Machine

/-- A sparse store: (key, value) pairs in canonical form (see `Store.wf`). -/
abbrev Store := List (Nat × Nat)

/-- What a key reads as; an unlisted key reads as its default. -/
def Store.get (d : Nat → Nat) : Store → Nat → Nat
  | [], k => d k
  | (a, v) :: m, k => if a = k then v else Store.get d m k

/-- The store without key `k`. -/
def Store.erase (m : Store) (k : Nat) : Store := m.filter (fun p => p.1 != k)

/-- The store with an unlisted key `k` put at its place in the order. -/
def Store.insert : Store → Nat → Nat → Store
  | [], k, v => [(k, v)]
  | (a, w) :: m, k, v =>
    if k < a then (k, v) :: (a, w) :: m
    else if a = k then (k, v) :: m
    else (a, w) :: Store.insert m k v

/-- The store after writing `v` to key `k`; writing the default removes the entry. -/
def Store.set (d : Nat → Nat) (m : Store) (k v : Nat) : Store :=
  if v = d k then m.erase k else m.insert k v

/-- The store with every key of [lo, hi) back at its default. -/
def Store.clear (m : Store) (lo hi : Nat) : Store :=
  m.filter (fun p => p.1 < lo || hi ≤ p.1)

/-- The entries of [lo, hi). -/
def Store.slice (m : Store) (lo hi : Nat) : Store :=
  m.filter (fun p => lo ≤ p.1 && p.1 < hi)

/-- `m` with its keys of [lo, hi) as `src` has them. -/
def Store.copyFrom (m src : Store) (lo hi : Nat) : Store :=
  m.filter (fun p => p.1 < lo) ++ src.slice lo hi ++ m.filter (fun p => lo ≤ p.1 && hi ≤ p.1)

/-- The canonical form: keys strictly rising, no entry equal to its default. -/
def Store.wf (d : Nat → Nat) : Store → Bool
  | [] => true
  | (a, v) :: m => decide (v ≠ d a) && m.all (fun p => a < p.1) && Store.wf d m

end Sys2Proof.Machine
end

