-- ==== Sys2Proof/Machine/State.lean ====
section
/-! DEFINITION. The state of the part: its registers, the values in force and the pending sets of its shadowed
groups, its memories, what its blocks hold beside them, and the queue of waiting commands. -/

namespace Sys2Proof.Machine

/-- Why a step stops with a fault. No command of this part stops so: the spec gives every command its effect,
and where a condition of an event does not hold the command changes nothing (log entry 7). Safe. -/
inductive Fault where
  /-- Raised by no meaning; the type may not be empty. Safe. -/
  | none
  deriving DecidableEq, Repr

/-- Why a step is refused. -/
inductive Refusal where
  /-- Raised by the dispatcher for a command that has no meaning yet. Safe. -/
  | notModelled (mnemonic : String)
  deriving DecidableEq, Repr

/-- The machine. -/
structure State where
  /-- The register fields, by key; a shadowed field's entry is its shadow value (R452). -/
  regs : Store
  /-- The values in force of the shadowed fields. -/
  act : Store
  /-- The values of the committed sets that wait for their update points. -/
  pnd : Store
  /-- The memories, by word address (byte address divided by 4); parameter banks lie above 24 bits. -/
  mem : Store
  /-- What the blocks hold beside their registers. -/
  b : Blocks
  /-- The commands that wait, first in, first out. -/
  pending : List Instr
  deriving DecidableEq, Repr

/-- The key of a byte address. -/
def keyAt (addr : Nat) : Nat := addr * 32

/-- What a word of memory reads as when nothing has been written to it: the free ROM words in the ROM window
(R517), 0 elsewhere (log entry 8). -/
def memDefault (a : Nat) : Nat :=
  if 0x48000 ≤ a ∧ a < 0x4C000 then Config.romWord (4 * a) % 2 ^ 32 else 0

/-- The machine right after its first power-on reset: every register field at its reset value, Bedrock not yet
started, the power die in reset, the main die released (log entry 9); of SYS_GUAR the causes KE0_IDLE, TIME_INVALID and
KE0_STOPPED show their conditions from the release on (R521), PWX_STATUS.INHIBIT the inhibit that Parapet asserts in
every state but RUN (R13, R367), ISLOT 0x9C reads −1 (R209), and RAIL_OUT shows that VDD_PWR is not present (R474). -/
def State.reset : State :=
  { regs := [(keyAt 0x200 + 10, 1), (keyAt 0x200 + 12, 1), (keyAt 0x200 + 14, 1), (keyAt 0x200 + 17, 1),
      (keyAt 0x300C + 8, 32), (keyAt 0x20A70, 0xFF800008),
      (keyAt 0x4300C, 1)]
    act := [], pnd := [], mem := [], b := {}, pending := [] }

/-- A register field as it reads (its shadow value when it is shadowed): as many bits as the field has. -/
def State.get (s : State) (f : Fld) : Nat := s.regs.get RegTable.resetVal f.key % 2 ^ f.w

/-- A shadowed field's value in force (R452). -/
def State.cur (s : State) (f : Fld) : Nat := s.act.get RegTable.resetVal f.key % 2 ^ f.w

/-- A shadowed field's value in the pending set. -/
def State.pend (s : State) (f : Fld) : Nat := s.pnd.get RegTable.resetVal f.key % 2 ^ f.w

/-- Whether a one-bit field is set. -/
def State.on (s : State) (f : Fld) : Bool := s.get f != 0

/-- Whether a one-bit shadowed field is set in the values in force. -/
def State.curOn (s : State) (f : Fld) : Bool := s.cur f != 0

/-- A field as a signed number. -/
def State.int (s : State) (f : Fld) : Int := signedOf f.w (s.get f)

/-- A field's value in force as a signed number. -/
def State.curInt (s : State) (f : Fld) : Int := signedOf f.w (s.cur f)

/-- A word of memory, by word address. -/
def State.word (s : State) (a : Nat) : Nat := s.mem.get memDefault a % 2 ^ 32

end Sys2Proof.Machine
end

