-- ==== Sys2Proof/Machine/Ops.lean ====
section
/-! DEFINITION. The named operations on the state. A meaning is a list of effects computed from the state; what
an effect does is said once, here, in `Eff.apply`. -/

namespace Sys2Proof.Machine

/-- Write a register field; only its width is kept. -/
def State.put (s : State) (f : Fld) (v : Nat) : State :=
  { s with regs := s.regs.set RegTable.resetVal f.key (v % 2 ^ f.w) }

/-- Write a value in force. -/
def State.putCur (s : State) (f : Fld) (v : Nat) : State :=
  { s with act := s.act.set RegTable.resetVal f.key (v % 2 ^ f.w) }

/-- Write a value of a pending set. -/
def State.putPend (s : State) (f : Fld) (v : Nat) : State :=
  { s with pnd := s.pnd.set RegTable.resetVal f.key (v % 2 ^ f.w) }

/-- Write a word of memory, by word address. -/
def State.putWord (s : State) (a v : Nat) : State :=
  { s with mem := s.mem.set memDefault a (v % 2 ^ 32) }

/-- Write consecutive words of memory. -/
def State.putWords (s : State) (a : Nat) : List Nat → State
  | [] => s
  | v :: vs => State.putWords (s.putWord a v) (a + 1) vs

/-- Change what the blocks hold beside their registers. -/
def State.updB (s : State) (g : Blocks → Blocks) : State := { s with b := g s.b }

/-- Hardware sets a sticky flag: the STICKY bit and the IRQ_STAT bit of the same position set together (R451), and a
write of the same CLK_FAB cycle cannot clear them (R12). -/
def State.stick (s : State) (f : Fld) : State :=
  ((s.put f 1).put f.irq 1).updB fun b => { b with setNow := f.key :: f.irq.key :: b.setNow }

/-- A counter that saturates at its largest value. -/
def State.bump (s : State) (f : Fld) (n : Nat) : State := s.put f (min (s.get f + n) (2 ^ f.w - 1))

/-! ### The Ledger's entry (R416, R417, R419) -/

/-- The codes of severity 4, safety (R417). -/
def severity4 : List Nat := [0x5006, 0x9001, 0x9002, 0x9005, 0x9006]

/-- The codes of severity 3, fault (R417). -/
def severity3 : List Nat :=
  [0x0401, 0x0403, 0x0805, 0x0C01, 0x0C03, 0x1402, 0x1403, 0x1404, 0x2003, 0x2402, 0x2404, 0x2801, 0x2803,
   0x2804, 0x4003, 0x4402, 0x4020, 0x4022, 0x4023, 0x4804, 0x4842, 0x5001, 0x5004, 0x5401, 0x5402, 0x6010,
   0x6011, 0x6014, 0x6801, 0x6809, 0x680B, 0x680F, 0x7042, 0x8002, 0x8006, 0xA008, 0xA00A]

/-- The codes of severity 2, warning (R417). -/
def severity2 : List Nat :=
  [0x0801, 0x0802, 0x0806, 0x0811, 0x0813, 0x0C02, 0x1003, 0x1004, 0x1405, 0x2002, 0x2006, 0x2007, 0x2401,
   0x2405, 0x2407, 0x2409, 0x240A, 0x240B, 0x2805, 0x2806, 0x4002, 0x4004, 0x4403, 0x4410, 0x4802, 0x4805,
   0x4841, 0x4844, 0x5003, 0x5005, 0x5404, 0x6001, 0x6002, 0x6012, 0x6803, 0x6804, 0x6805, 0x6806, 0x680A,
   0x6810, 0x7003, 0x7043, 0x8004, 0x8005, 0x9004, 0x9009, 0xA003, 0xA004, 0xA005]

/-- The codes of severity 0, information (R417). -/
def severity0 : List Nat :=
  [0x0402, 0x0405, 0x0803, 0x0804, 0x0810, 0x0812, 0x0C04, 0x1401, 0x2001, 0x2403, 0x2406, 0x2408, 0x4021,
   0x4803, 0x4807, 0x4840, 0x4843, 0x4845, 0x6013, 0x6802, 0x680C, 0x680D, 0x7001, 0x7002, 0x7004, 0x7040,
   0x7041, 0x8001, 0x8003, 0x9003, 0xA002, 0xA006, 0xA010]

/-- The severity of an event code (R417): 1 unless a table row names it. -/
def severity (code : Nat) : Nat :=
  if severity4.contains code then 4
  else if severity3.contains code then 3
  else if severity2.contains code then 2
  else if severity0.contains code then 0
  else 1

/-- Whether the records of a code's group arise on the power die: MET (0x1A) and BED, LDG (0x28). -/
def powerDieCode (code : Nat) : Bool := code / 0x400 == 0x1A || code / 0x400 == 0x28

/-- Byte 3 of a record (R416): severity, TIM VALID, holdover, Bedrock not in MAIN, delayed. -/
def State.sevByte (s : State) (code : Nat) (delayed : Bool) : Nat :=
  severity code + 8 * bit (s.on F.TIM_STATUS_VALID) + 16 * bit (s.on F.CLK_STATUS_HOLDOVER)
    + 32 * bit (s.b.bed.src != .main) + 64 * bit delayed

/-- The record of an event as it stands now. -/
def State.mkRecord (s : State) (code inst : Nat) (ps : List Nat) (delayed : Bool) : LedgerRec :=
  { code := code, inst := inst, sev := s.sevByte code delayed, opsec := s.b.bed.opsec,
    pwrcyc := s.get F.BED_PWRCYC_N, p0 := ps.getD 0 0 % 2 ^ 32, p1 := ps.getD 1 0 % 2 ^ 32,
    p2 := ps.getD 2 0 % 2 ^ 32, p3 := ps.getD 3 0 % 2 ^ 32 }

/-- `n` records are lost: counted in LDG_CNT_LOST and LDG_DEFER.LOST (R419), flag LOST. -/
def State.loseRecords (s : State) (n : Nat) : State :=
  if n = 0 then s
  else ((s.bump F.LDG_CNT_LOST_N n).bump F.LDG_DEFER_LOST n).stick F.LDG_STICKY_LOST

/-- A record takes its place among others by ascending code, after those of its own code (R419). -/
def insertByCode (r : LedgerRec) : List LedgerRec → List LedgerRec
  | [] => [r]
  | x :: xs => if r.code < x.code then r :: x :: xs else x :: insertByCode r xs

/-- How many of the last records of the buffer came from the main die in this CLK_FAB cycle, none where the record
arises on the power die. -/
def Ldg.sameCycle (l : Ldg) (r : LedgerRec) : Nat := if powerDieCode r.code then 0 else min l.now l.buf.length

/-- The buffer with a record: in order of arrival, the records that come from the main die in one cycle in ascending
code order (R419). -/
def Ldg.entered (l : Ldg) (r : LedgerRec) : List LedgerRec :=
  l.buf.take (l.buf.length - l.sameCycle r) ++ insertByCode r (l.buf.drop (l.buf.length - l.sameCycle r))

/-- A record enters the 16-entry Bedrock buffer; the one that finds it full, the last of its cycle, is lost (R419). -/
def State.enterBuffer (s : State) (r : LedgerRec) : State :=
  if s.b.ldg.buf.length < 16 then
    s.updB fun b => { b with ldg.buf := b.ldg.entered r, ldg.now := if powerDieCode r.code then 0 else b.ldg.now + 1 }
  else (s.updB fun b => { b with ldg.buf := (b.ldg.entered r).take 16 }).loseRecords 1

/-- An event is recorded: on a failed die-to-die path the main die holds up to 64 records and counts the rest
(R419); while Bedrock is in OFF nothing takes a record (log entry 10). -/
def State.postRecord (s : State) (code inst : Nat) (ps : List Nat) : State :=
  if s.b.bed.src = .off then s
  else if powerDieCode code = false && s.on F.SYS_GUAR_DIE_LINK then
    if s.b.ldg.hold.length < 64 then
      s.updB fun b => { b with ldg.hold := b.ldg.hold ++ [s.mkRecord code inst ps true] }
    else s.updB fun b => { b with ldg.holdLost := b.ldg.holdLost + 1 }
  else s.enterBuffer (s.mkRecord code inst ps false)

/-! ### The queues (R440 to R449) -/

/-- The words a queue holds: PROD - CONS modulo 2^32 (R440). -/
def State.qFill (s : State) (q : Nat) : Nat :=
  (s.get (F.QUE_Q_PROD_W q) + 2 ^ 32 - s.get (F.QUE_Q_CONS_W q)) % 2 ^ 32

/-- The word address of stream word `w` of a queue (R440). -/
def State.qAddr (s : State) (q w : Nat) : Nat :=
  0x80000 + s.cur (F.QUE_Q_BASE_W q) + w % s.cur (F.QUE_Q_SIZE_W q)

/-- FILL, NONEMPTY and WM_STAT follow PROD and CONS; a rising WM_STAT bit sets WM (R440, R449). -/
def State.qRefresh (s : State) (q : Nat) : State :=
  let fill := s.qFill q
  let wm := s.cur (F.QUE_Q_CFG_WM q)
  let at_ := wm != 0 && wm ≤ fill
  let old := s.get F.QUE_WM_STAT_Q
  let s1 := (s.put (F.QUE_Q_FILL_W q) fill).put F.QUE_STATUS_NONEMPTY
    (if fill = 0 then clearBit (s.get F.QUE_STATUS_NONEMPTY) q else withBit (s.get F.QUE_STATUS_NONEMPTY) q)
  let s2 := s1.put F.QUE_WM_STAT_Q (if at_ then withBit old q else clearBit old q)
  if at_ && !old.testBit q then s2.stick F.QUE_STICKY_WM else s2

/-- A record is dropped or discarded (R442). -/
def State.qDrop (s : State) (q : Nat) : State :=
  (s.bump (F.QUE_Q_DROP_N q) 1).stick F.QUE_STICKY_OVF

/-- MODE 1: advance CONS past whole records until `len` more words fit (R442). -/
def State.qMakeRoom (s : State) (q len : Nat) : Nat → State
  | 0 => s
  | fuel + 1 =>
    if s.qFill q + len ≤ s.cur (F.QUE_Q_SIZE_W q) then s
    else
      let hdr := s.word (s.qAddr q (s.get (F.QUE_Q_CONS_W q)))
      let step := min (max 1 (hdr % 0x10000)) (s.qFill q)
      State.qMakeRoom
        ((s.put (F.QUE_Q_CONS_W q) ((s.get (F.QUE_Q_CONS_W q) + step) % 2 ^ 32)).qDrop q) q len fuel

/-- Write the words of a record from stream word `w` on; the region wraps (R440, R441). -/
def State.qWrite (s : State) (q w : Nat) : List Nat → State
  | [] => s
  | v :: vs => State.qWrite (s.putWord (s.qAddr q w) v) q (w + 1) vs

/-- Append one record: header and words, then PROD advances by LEN (R441). -/
def State.qPut (s : State) (q type : Nat) (signed : Bool) (words : List Nat) : State :=
  let len := words.length + 1
  let prod := s.get (F.QUE_Q_PROD_W q)
  let seq := s.b.queSeq.getD q 0
  let hdr := 2 ^ 31 * bit signed + 2 ^ 24 * (seq % 128) + 2 ^ 16 * (type % 256) + len % 0x10000
  let s1 := (s.qWrite q prod (hdr :: words)).put (F.QUE_Q_PROD_W q) ((prod + len) % 2 ^ 32)
  (s1.updB fun b => { b with queSeq := setAt b.queSeq q ((seq + 1) % 128) 0
                             queNow := b.queNow ++ [(q, type, signed, words)] }).qRefresh q

/-- Whether a queue takes the record under R442 (room, or MODE 1 and LEN not above SIZE). -/
def State.qTakes (s : State) (q len : Nat) : Bool :=
  let size := s.cur (F.QUE_Q_SIZE_W q)
  s.on F.QUE_CTRL_ENABLE && size != 0 && len ≤ size
    && (s.qFill q + len ≤ size || s.cur (F.QUE_Q_CFG_MODE q) == 1)

/-- A record reaches its queue after those that stand there (R440 to R442); with QUE_CTRL.ENABLE clear or SIZE 0 it
vanishes uncounted. -/
def State.qPlace (s : State) (q type : Nat) (signed : Bool) (words : List Nat) : State :=
  let size := s.cur (F.QUE_Q_SIZE_W q)
  let len := words.length + 1
  if !s.on F.QUE_CTRL_ENABLE || size = 0 then s
  else if size < len then (s.qDrop q).stick F.QUE_STICKY_TOO_BIG
  else if s.qFill q + len ≤ size then s.qPut q type signed words
  else if s.cur (F.QUE_Q_CFG_MODE q) = 0 then s.qDrop q
  else (s.qMakeRoom q len (size + 1)).qPut q type signed words

/-- The records that the running CLK_FAB cycle has appended to a queue and that follow one of this TYPE (R446). -/
def State.qLater (s : State) (q type : Nat) : List (Nat × Nat × Bool × List Nat) :=
  s.b.queNow.filter fun r => r.1 == q && decide (type < r.2.1)

/-- The words of such records with their headers. -/
def recLen (rs : List (Nat × Nat × Bool × List Nat)) : Nat := rs.foldl (fun n r => n + r.2.2.2.length + 1) 0

/-- The last records of a queue are taken back. -/
def State.qBack (s : State) (q : Nat) (rs : List (Nat × Nat × Bool × List Nat)) : State :=
  (s.put (F.QUE_Q_PROD_W q) ((s.get (F.QUE_Q_PROD_W q) + 2 ^ 32 - recLen rs) % 2 ^ 32)).updB fun b =>
    { b with queSeq := setAt b.queSeq q ((b.queSeq.getD q 0 + 128 - rs.length % 128) % 128) 0
             queNow := b.queNow.filter fun r => !rs.contains r }

/-- A producer's record reaches its queue; the records of one CLK_FAB cycle stand there in ascending TYPE (R446). -/
def State.qAppend (s : State) (q type : Nat) (signed : Bool) (words : List Nat) : State :=
  let later := s.qLater q type
  if later.isEmpty || decide (s.qFill q < recLen later) then s.qPlace q type signed words
  else later.foldl (fun s r => s.qPlace r.1 r.2.1 r.2.2.1 r.2.2.2) ((s.qBack q later).qPlace q type signed words)

/-- The records that wait for the signer; the one it works on does not wait (R477; DEDUCED, log entry 51). -/
def State.signWaits (s : State) : Nat := s.b.sec.jobs.length - (if s.b.sec.chalNow then 0 else 1)

/-- A record to be signed waits for the signer, or goes unsigned when 8 already wait (R477). -/
def State.qSigned (s : State) (q type : Nat) (words : List Nat) : State :=
  if s.signWaits < 8 then
    s.updB fun b => { b with sec.jobs := b.sec.jobs ++ [{ q := q, type := type, words := words }] }
  else
    let s1 := ((s.qAppend q type false words).bump F.SEC_CNT_UNSIGNED_N 1).stick F.SEC_STICKY_UNSIGNED
    s1.postRecord 0x1004 0 [type, s1.get F.SEC_CNT_UNSIGNED_N]

/-! ### Effects -/

/-- The effects a meaning is made of. -/
inductive Eff where
  /-- Write a register field. -/
  | set (f : Fld) (v : Nat)
  /-- Write a value in force. -/
  | force (f : Fld) (v : Nat)
  /-- Write a value of a pending set. -/
  | pend (f : Fld) (v : Nat)
  /-- Hardware sets a sticky flag with its IRQ_STAT bit (R451). -/
  | sticky (f : Fld)
  /-- Add to a saturating counter. -/
  | inc (f : Fld) (n : Nat)
  /-- Shadows of the key range become the pending set (R452). -/
  | take (lo hi : Nat)
  /-- The pending set of the key range comes into force (R452). -/
  | adopt (lo hi : Nat)
  /-- Shadows of the key range come into force at once. -/
  | commit (lo hi : Nat)
  /-- Registers, values in force and pending sets of the key range return to reset. -/
  | clear (lo hi : Nat)
  /-- Write a word of memory. -/
  | mem (a v : Nat)
  /-- Words of memory from an address on. -/
  | mems (a : Nat) (vs : List Nat)
  /-- A word range of memory returns to its default. -/
  | memClear (lo hi : Nat)
  /-- Change what the blocks hold. -/
  | upd (g : Blocks → Blocks)
  /-- A Ledger event: code, instance, parameters (R416). -/
  | led (code : Nat) (inst : Nat) (ps : List Nat)
  /-- A queue record without a signature (R441). -/
  | que (q type : Nat) (words : List Nat)
  /-- A queue record to be signed (R477). -/
  | queSign (q type : Nat) (words : List Nat)
  /-- A record leaves the signer with its signature (R477). -/
  | queDone (q type : Nat) (words : List Nat)

/-- What an effect does. -/
def Eff.apply : Eff → State → State
  | .set f v, s => s.put f v
  | .force f v, s => s.putCur f v
  | .pend f v, s => s.putPend f v
  | .sticky f, s => s.stick f
  | .inc f n, s => s.bump f n
  | .take lo hi, s => { s with pnd := s.pnd.copyFrom s.regs lo hi }
  | .adopt lo hi, s => { s with act := s.act.copyFrom s.pnd lo hi }
  | .commit lo hi, s =>
    { s with pnd := s.pnd.copyFrom s.regs lo hi, act := s.act.copyFrom s.regs lo hi }
  | .clear lo hi, s =>
    { s with regs := s.regs.clear lo hi, act := s.act.clear lo hi, pnd := s.pnd.clear lo hi }
  | .mem a v, s => s.putWord a v
  | .mems a vs, s => s.putWords a vs
  | .memClear lo hi, s => { s with mem := s.mem.clear lo hi }
  | .upd g, s => s.updB g
  | .led c i ps, s => s.postRecord c i ps
  | .que q t ws, s => s.qAppend q t false ws
  | .queSign q t ws, s => s.qSigned q t ws
  | .queDone q t ws, s => s.qAppend q t true ws

/-- The state after a list of effects, first to last. -/
def applyAll (s : State) : List Eff → State
  | [] => s
  | e :: es => applyAll (e.apply s) es

/-- A meaning: the effects it has in a state. -/
abbrev Prog := State → List Eff

/-- `p`, then `q` in the state `p` leaves. -/
def Prog.andThen (p q : Prog) : Prog := fun s => p s ++ q (applyAll s (p s))

/-- Effects, then a meaning in the state they leave. -/
def thenDo (es : List Eff) (p : Prog) : Prog := fun s => es ++ p (applyAll s es)

/-- Several meanings in order. -/
def inOrder : List Prog → Prog
  | [] => fun _ => []
  | p :: ps => p.andThen (inOrder ps)

/-- `p` where the condition holds, else nothing. -/
def onlyIf (c : State → Bool) (p : Prog) : Prog := fun s => if c s then p s else []

/-- Effects where the condition holds. -/
def effIf (c : Bool) (es : List Eff) : List Eff := if c then es else []

/-- The outcome of a meaning. -/
abbrev Result := Host.Outcome State Fault Refusal

/-- Run a meaning: every meaning ends in a next state. -/
def run (p : Prog) (s : State) : Result := .next (applyAll s (p s))

/-- A main-die command: while the main die is in reset it does nothing (R487). -/
def onMain (p : Prog) : Prog := onlyIf (fun s => !s.b.sys.inReset) p

/-- A power-die command: while the power-die logic is in reset it does nothing (R486). -/
def onPower (p : Prog) : Prog := onlyIf (fun s => !s.b.sys.pwrReset) p

/-- The state of the 44 pages' common frame: the LOCK fields of the page at a base (R450). -/
def lockedFld (base : Nat) : Fld := ⟨keyAt (base + 0x20), 1⟩
def permFld (base : Nat) : Fld := ⟨keyAt (base + 0x20) + 1, 1⟩
def snapSeqFld (base : Nat) : Fld := ⟨keyAt (base + 0x24), 16⟩

end Sys2Proof.Machine
end

