-- ==== Sys2Proof/Machine/Operands.lean ====
section
/-! DEFINITION. The operand forms of the part: Ridgeline timestamps (R51), slot words (R118) with their
rounding (R119), fields of words, and the CRCs of R416 and R458. -/

namespace Sys2Proof.Machine

/-- Units of the timebase in a nanosecond (1/327680 ns each), in a second, in 100 ps and in one fine step of
6.25 ps. -/
def tuNs : Nat := 327680
def tuSec : Nat := 327680000000000
def tu100ps : Nat := 32768
def tuStep : Nat := 2048
/-- Units in one CLK_FAB cycle of 6.4 ns. -/
def tuFab : Nat := 2097152

/-- The seconds, nanoseconds and fraction of a timebase value. -/
def stampOf (t : Nat) : Stamp := ⟨t / tuSec, t / tuNs % 1000000000, t % tuNs / 5⟩

/-- The timebase value of a seconds and nanoseconds pair. -/
def timeOf (sec ns : Nat) : Nat := sec * tuSec + ns * tuNs

/-- The flags of word 1 of a stamp taken now: VALID, HOLDOVER, GM, LEAP_PENDING in [31:28] (R51). -/
def stampFlags (s : State) : Nat :=
  2 ^ 31 * bit (s.on F.TIM_STATUS_VALID) + 2 ^ 30 * bit (s.on F.CLK_STATUS_HOLDOVER)
    + 2 ^ 29 * bit (s.on F.TIM_STATUS_GM) + 2 ^ 28 * bit (s.on F.TIM_STATUS_LEAP_PENDING)

/-- Words 0 to 2 of the stamp of a timebase value (R51). -/
def stampWordsAt (s : State) (t : Nat) : List Nat :=
  let p := stampOf t
  [p.sec % 2 ^ 32, stampFlags s + p.sec / 2 ^ 32 % 2 ^ 16, p.ns]

/-- Words 0 to 2 of a stamp taken now. -/
def stampWords (s : State) : List Nat := stampWordsAt s s.b.tim.t

/-- The fraction word of a stamp taken now. -/
def stampFrac (s : State) : Nat := (stampOf s.b.tim.t).frac

/-- Microseconds of a number of CLK_FAB cycles. -/
def cycUs (n : Nat) : Nat := n * 64 / 10000

/-- CLK_FAB cycles of a number of microseconds. -/
def usCyc (n : Nat) : Nat := n * 10000 / 64

/-! ### Free values (log entry 3) -/

/-- The next free value. -/
def fresh (s : State) (k : Nat) : Nat := Config.freeNat (s.b.freeCtr + k)

/-- `n` free values have been taken. -/
def spend (n : Nat) : Eff := .upd fun b => { b with freeCtr := b.freeCtr + n }

/-- A signed value as a field of `w` bits shows it; the spec states no result for a value the field cannot hold:
then a free value (log entry 3). -/
def fieldOf (s : State) (w : Nat) (x : Int) : Nat :=
  if -(2 ^ (w - 1) : Int) ≤ x ∧ x < (2 ^ (w - 1) : Int) then unsignedOf w x else fresh s 0 % 2 ^ w

/-! ### Slot words -/

/-- Round a fraction to the nearest integer, ties away from zero (R119). -/
def roundDiv (n : Int) (d : Nat) : Int :=
  if 0 ≤ n then (2 * n + d) / (2 * d) else -((2 * -n + d) / (2 * d))

/-- The mantissa of a slot word, −2^23 to 2^23 − 1. -/
def slotM (w : Nat) : Int := signedOf 24 (w / 256)

/-- The exponent of a slot word, −128 to 127. -/
def slotE (w : Nat) : Int := signedOf 8 w

/-- A slot word from mantissa and exponent. -/
def slotWord (m e : Int) : Nat := unsignedOf 24 m * 256 + unsignedOf 8 e

/-- 2^e for a signed exponent, as a fraction. -/
def pow2 (e : Int) : Rat := if 0 ≤ e then (2 ^ e.toNat : Nat) else 1 / ((2 ^ (-e).toNat : Nat) : Rat)

/-- The value of a slot word: m × 2^e with m a fraction in [−1, 1 − 2^−23] (R118). -/
def slotVal (w : Nat) : Rat := (slotM w : Rat) / 8388608 * pow2 (slotE w)

/-- Limit an integer to a range. -/
def clampInt (lo hi x : Int) : Int := if x < lo then lo else if hi < x then hi else x

/-- Round a rational to the nearest integer, ties away from zero. -/
def roundRat (x : Rat) : Int := roundDiv x.num x.den

/-- The slot word with exponent `e` nearest to a value, limited to the mantissa's range. -/
def slotOf (e : Int) (x : Rat) : Nat :=
  slotWord (clampInt (-8388608) 8388607 (roundRat (x * 8388608 / pow2 e))) e

/-! ### Registers as words -/

/-- The rows of the register at a byte address. -/
def fieldsAt (addr : Nat) : List Row := RegTable.rowsAt (addr / 0x1000) (addr % 0x1000)

/-- The field of a row at a byte address. -/
def rowFld (addr : Nat) (r : Row) : Fld := ⟨keyAt addr + r.lo, r.w⟩

/-- The word a register holds; write-only fields read 0 (R10). -/
def regWord (s : State) (addr : Nat) : Nat :=
  (fieldsAt addr).foldl (fun n r => if r.acc = .wo then n else n + s.get (rowFld addr r) * 2 ^ r.lo) 0

/-- The word of a register with the values in force of its shadowed fields. -/
def forceWord (s : State) (addr : Nat) : Nat :=
  (fieldsAt addr).foldl (fun n r =>
    n + (match r.acc with
      | .wo => 0
      | .rws => s.cur (rowFld addr r)
      | _ => s.get (rowFld addr r)) * 2 ^ r.lo) 0

/-- The bits of a field that hardware has set in the running CLK_FAB cycle (R12). -/
def setNowBits (s : State) (f : Fld) : Nat :=
  (List.range f.w).foldl (fun n i => if s.b.setNow.contains (f.key + i) then withBit n i else n) 0

/-- A value written to a field, with the bits that a scheduled action has fixed in the running CLK_FAB cycle (R92). -/
def schedFix (s : State) (f : Fld) (x : Nat) : Nat :=
  (List.range f.w).foldl (fun n i =>
    match s.b.schedNow.find? (·.1 == f.key + i) with
    | some p => if p.2 then withBit n i else clearBit n i
    | none => n) x

/-- Hardware sets the bits `m` of a W1C field that has no STICKY bit of its own; a write of the same CLK_FAB cycle cannot
clear them (R12). -/
def raise (s : State) (f : Fld) (m : Nat) : List Eff :=
  [.set f (s.get f ||| m),
   .upd fun b => { b with setNow := ((List.range f.w).filter fun i => m.testBit i).map (f.key + ·) ++ b.setNow }]

/-- Hardware sets bit `i` of such a field. -/
def raiseBit (s : State) (f : Fld) (i : Nat) : List Eff := raise s f (2 ^ i)

/-- What a write of a word does to a field by its access type alone (R10); a scheduled action of the same cycle prevails
over a write (R92); a flag that hardware sets in the same CLK_FAB cycle stays set (R12). -/
def writeRow (s : State) (addr v : Nat) (r : Row) : List Eff :=
  let x := v / 2 ^ r.lo % 2 ^ r.w
  let f := rowFld addr r
  match r.acc with
  | .rw | .rws => [.set f (schedFix s f x)]
  | .w1c => [.set f (clearMask (s.get f) (clearMask x (setNowBits s f)))]
  | .ro | .wo => []

/-- A write of a word to a register, by the access types of its fields (R10). -/
def writeFields (addr v : Nat) : Prog := fun s => (fieldsAt addr).flatMap (writeRow s addr v)

/-! ### Check words -/

/-- One bit of CRC-16/CCITT, most significant bit first. -/
def crc16Bit (c : Nat) : Nat := if c.testBit 15 then ((c * 2) ^^^ 0x1021) % 0x10000 else c * 2 % 0x10000

/-- Iterate a function. -/
def iter (f : Nat → Nat) : Nat → Nat → Nat
  | 0, x => x
  | n + 1, x => iter f n (f x)

/-- CRC-16/CCITT over bytes: polynomial 0x1021, initial 0xFFFF, no reflection, no final XOR (R416). -/
def crc16 (bytes : List Nat) : Nat :=
  bytes.foldl (fun c x => iter crc16Bit 8 (c ^^^ (x % 256 * 256))) 0xFFFF

/-- One bit of the reflected CRC-32. -/
def crc32Bit (c : Nat) : Nat := if c % 2 = 1 then (c / 2) ^^^ 0xEDB88320 else c / 2

/-- CRC-32 over bytes: polynomial 0x04C1_1DB7, reflected, initial and final 0xFFFF_FFFF (R458). -/
def crc32 (bytes : List Nat) : Nat :=
  bytes.foldl (fun c x => iter crc32Bit 8 (c ^^^ (x % 256))) 0xFFFFFFFF ^^^ 0xFFFFFFFF

/-- The four bytes of a word, little-endian. -/
def bytesOf (w : Nat) : List Nat := [w % 256, w / 256 % 256, w / 65536 % 256, w / 16777216 % 256]

/-- The bytes of words in order, each little-endian. -/
def wordBytes (ws : List Nat) : List Nat := (ws.map bytesOf).flatten

/-! ### Blocks and frames (R67, R69, R70) -/

/-- The START payload of a frame. -/
def startPayload (f : Frame) : Nat :=
  f.cls % 8 * 2 ^ 53 + f.dest % 2 ^ 12 * 2 ^ 41 + f.src % 2 ^ 12 * 2 ^ 29 + f.hops % 2 ^ 8 * 2 ^ 21
    + f.type % 2 ^ 8 * 2 ^ 13 + f.data.length % 2 ^ 6 * 2 ^ 7 + f.seq % 2 ^ 6 * 2 + bit f.wrap

/-- The low `n` bytes of a payload, lowest first. -/
def payloadBytes (n w : Nat) : List Nat := (List.range n).map fun i => w / 256 ^ i % 256

/-- The CRC-32 over the START payload and the data blocks, each lowest byte first (R70, log entry 17). -/
def frameCrc (f : Frame) : Nat :=
  crc32 (payloadBytes 7 (startPayload f) ++ f.data.flatMap (payloadBytes 8))

/-- The check of a frame passes: it carries its CRC (R70). -/
def Frame.crcOk (f : Frame) : Bool := f.crc == frameCrc f

/-- A frame on which a node may act: its check passes and it ends in END (R70). -/
def Frame.good (f : Frame) : Bool := f.crcOk && !f.abort

/-- A frame with the check that its contents ask for. -/
def sealed (f : Frame) : Frame := { f with crc := frameCrc f, abort := false, stray := 0 }

/-- Block `k` of a frame: START, its data blocks, END or END_ABORT. -/
def frameBlock (f : Frame) (k : Nat) : LineOut :=
  if k = 0 then .control 0x4B (startPayload f)
  else if k ≤ f.data.length then .data (f.data.getD (k - 1) 0 % 2 ^ 64)
  else .control (if f.abort then 0x99 else 0x87) (frameCrc f)

/-- The KEEPALIVE block. -/
def keepaliveBlock (k : Keepalive) : LineOut :=
  .control 0x2D (k.addr % 2 ^ 12 * 2 ^ 44 + k.lane % 8 * 2 ^ 41 + bit k.upIsYou * 2 ^ 40 + k.gmHops % 256 * 2 ^ 32
    + bit k.valid * 2 ^ 31)

/-! ### PRBS (R114) -/

/-- The tap pair of a pattern: PRBS7, PRBS15, PRBS31. -/
def prbsTaps : Nat → Nat × Nat
  | 1 => (7, 6)
  | 2 => (15, 14)
  | _ => (31, 28)

/-- One bit of a pattern: the next register and the bit. -/
def prbsStep (code r : Nat) : Nat × Bool :=
  let t := prbsTaps code
  let b := r.testBit (t.1 - 1) != r.testBit (t.2 - 1)
  (r * 2 % 2 ^ t.1 + bit b, b)

/-- `n` bits of a pattern: the register after them, and the bits, the first lowest. -/
def prbsRun (code : Nat) : Nat → Nat → Nat × Nat
  | 0, r => (r, 0)
  | n + 1, r =>
    let a := prbsStep code r
    let q := prbsRun code n a.1
    (q.1, bit a.2 + 2 * q.2)

/-- The number of ones among the low `n` bits. -/
def onesIn (n w : Nat) : Nat := (List.range n).foldl (fun k i => k + bit (w.testBit i)) 0

/-! ### Angles and roots (log entry 31) -/

/-- π in units of 2^−60. -/
def piFix : Int := 3622009729038561421

/-- Terms of the sine series in units of 2^−60: x² is given, `t` is the last term, `n` its order. -/
def sinTerms (x2 : Int) : Nat → Nat → Int → Int → Int
  | 0, _, _, acc => acc
  | fuel + 1, n, t, acc =>
    let t2 := -(t * x2 / 2 ^ 60) / ((n + 1) * (n + 2) : Nat)
    sinTerms x2 fuel (n + 2) t2 (acc + t2)

/-- sin(πa) in units of 2^−40, for a in units of 2^−60 in [−1, 1). -/
def sinPi (a : Int) : Int :=
  let b := if 2 ^ 59 < a then 2 ^ 60 - a else if a < -(2 ^ 59) then -(2 ^ 60) - a else a
  let x := b * piFix / 2 ^ 60
  roundDiv (sinTerms (x * x / 2 ^ 60) 12 1 x x) (2 ^ 20)

/-- sin and cos of an angle in 2^-26 π rad. -/
def sin26 (a : Int) : Rat := (sinPi (a * 2 ^ 34) : Rat) / 1099511627776
def cos26 (a : Int) : Rat := sin26 (let b := a + 33554432; if 67108864 ≤ b then b - 134217728 else b)

/-- sin and cos of an angle in 2^-24 π rad within [−π, π). -/
def sinOf (a : Int) : Rat := sin26 (a * 4)
def cosOf (a : Int) : Rat := cos26 (a * 4)

/-- The angle of a point of the first quadrant in 2^-26 π rad, its bits found from the highest of `n` down. -/
def atanBits (y x : Rat) : Nat → Int → Int
  | 0, a => a
  | n + 1, a =>
    let b := a + (2 ^ n : Nat)
    atanBits y x n (if x * sin26 b ≤ y * cos26 b then b else a)

/-- The angle of a point other than the origin, in 2^-24 π rad, −2^24 to 2^24. -/
def atan2Frac (y x : Rat) : Int :=
  let ay := if y < 0 then -y else y
  let ax := if x < 0 then -x else x
  let a := roundDiv (atanBits ay ax 25 0) 4
  let b := if x < 0 then 16777216 - a else a
  if y < 0 then -b else b

/-- The square root of a value, to 2^-40 and truncated (log entry 31). -/
def ratSqrt (x : Rat) : Rat := (Nat.sqrt (x * 1208925819614629174706176).floor.toNat : Rat) / 1099511627776

/-- Clarke components of three phase values. -/
def clarke (a b c : Rat) : Rat × Rat := ((2 * a - b - c) / 3, (b - c) * (57735026918962576451 / 100000000000000000000))

/-- A vector turned by an angle in 2^-24 π rad. -/
def turnBy (a : Int) (v : Rat × Rat) : Rat × Rat := (v.1 * cosOf a - v.2 * sinOf a, v.1 * sinOf a + v.2 * cosOf a)

/-- `n` words of memory from word address `a` on. -/
def State.words (s : State) (a n : Nat) : List Nat := (List.range n).map (fun i => s.word (a + i))

/-- Bits [hi:lo] of a word. -/
def bitsOf (w hi lo : Nat) : Nat := w / 2 ^ lo % 2 ^ (hi + 1 - lo)

end Sys2Proof.Machine
end

