-- ==== Sys2Proof/Machine/Flags.lean ====
section
/-! DEFINITION. Flags that several blocks share: the guarantees of R25 to R29 and R520, R521, the interrupt
summary and pins of R439, the loss of VALID with R20, and the fault-event triggers of Cairn (R470). -/

namespace Sys2Proof.Machine

/-! ### Conditions of the guarantees (R25, R520) -/

/-- Plumb locked, or in holdover for any time. -/
def plumbHolds (s : State) : Bool := s.b.plumb.mode == .locked || s.on F.CLK_STATUS_HOLDOVER

/-- Plumb locked, or in holdover for less than 100 ms. -/
def plumbShort (s : State) : Bool :=
  s.b.plumb.mode == .locked || (s.on F.CLK_STATUS_HOLDOVER && !s.b.plumb.holdLong)

/-- TIM not VALID, or holdover of 100 ms or more. -/
def timeInvalid (s : State) : Bool :=
  !s.on F.TIM_STATUS_VALID || (s.on F.CLK_STATUS_HOLDOVER && s.b.plumb.holdLong)

/-- A sensor reads outside −40 to +125 °C. -/
def tjOut (s : State) : Bool := s.on F.MON_STATUS_TJ_OUT

/-- A rail is outside its monitor window. -/
def railOut (s : State) : Bool := s.get F.MON_STATUS_RAIL_OUT != 0

/-- Factory defaults in force. -/
def cfgDefault (s : State) : Bool := s.on F.SYS_STATUS_CFG_DEFAULTED

/-- Whether a page PWM0 to PWM2 or PWX (3) is enabled. -/
def pageEnabled (s : State) (pg : Nat) : Bool :=
  if pg < 3 then s.on (F.PWM_CTRL_ENABLE pg) else s.on F.PWX_CTRL_ENABLE

/-- Pair `p` (48 = BRK) is enabled: its CFG.EN and its page's ENABLE are set (R520). -/
def pairEnabled (s : State) (p : Nat) : Bool := s.on (F.PAIR_CFG_EN p) && pageEnabled s (p / 16)

/-- Source `n` is an acting trip input: a TRIP pin, or a comparator in continuous operation, with EN set and
GROUPS not 0 (R520, R263). -/
def actingInput (s : State) (n : Nat) : Bool :=
  s.curOn (F.TRP_SRC_EN n) && s.cur (F.TRP_SRC_GROUPS n) != 0
    && (n < 16 || (n < 80 && s.curOn (F.WIN_CFG_EN (n - 16)) && s.on (F.CMP_CTRL_ENABLE ((n - 16) / 16))
        && s.cur (F.WIN_CFG_MODE (n - 16)) == 0))

/-- The groups that acting trip inputs assert. -/
def actingGroups (s : State) : Nat :=
  (List.range 80).foldl (fun g n => if actingInput s n then g ||| s.cur (F.TRP_SRC_GROUPS n) else g) 0

/-- The trip condition of G2: a pair is enabled, and every enabled pair obeys a group that an acting input
asserts. -/
def tripInputsOk (s : State) : Bool :=
  let g := actingGroups s
  let en := (List.range 49).filter (pairEnabled s)
  !en.isEmpty && en.all (fun p => s.cur (F.TRP_PMASK_GROUPS p) &&& g != 0)

/-- The lane whose page governs a lane: the lower one of a bonded group (R102). -/
def govLane (s : State) (n : Nat) : Nat :=
  if (n = 3 ∨ n = 7) ∧ s.on (F.LNK_CTRL_BOND (n - 1)) then n - 1 else n

/-- The lane is a member of a ×2 group. -/
def bonded (s : State) (n : Nat) : Bool :=
  match n with
  | 2 | 6 => s.on (F.LNK_CTRL_BOND n)
  | 3 | 7 => s.on (F.LNK_CTRL_BOND (n - 1))
  | _ => false

/-- The other lane of the pair L2, L3 or L6, L7. -/
def mateLane (n : Nat) : Nat := if n = 2 ∨ n = 6 then n + 1 else n - 1

/-- The lane is ready for role traffic; a ×2 group, named by its lower lane, only while both its lanes are (R102). -/
def groupReady (s : State) (n : Nat) : Bool :=
  govLane s n == n && s.on (F.LNK_STATUS_READY n) && (!bonded s n || s.on (F.LNK_STATUS_READY (mateLane n)))

/-- The node's time path holds no lane: it is the grandmaster, or no ring or branch role is enabled (R520). -/
def noPath (s : State) : Bool := s.on F.TIM_STATUS_GM || !s.on F.RDG_CTRL_ENABLE

/-- A wrap is in progress at a ring side of this node: between the loss of its lane or neighbour and the turn (R26). -/
def sideTurning (s : State) (n : Nat) : Bool :=
  let l := s.b.lanes.getD n {}
  l.turning || (l.up && !groupReady s n)

/-- The path of this node crosses its own ring: its upstream is a ring neighbour. On that ring a wrap is in progress. -/
def wrapOnPath (s : State) : Bool :=
  let e := s.get F.RDG_PORTS_EAST
  let w := s.get F.RDG_PORTS_WEST
  (s.get F.RDG_STATUS_UP_LANE == e || s.get F.RDG_STATUS_UP_LANE == w) && (sideTurning s e || sideTurning s w)

/-- The lane and wrap conditions of G3 and G4 as this node knows them: its upstream lane is ready, and no wrap is in
progress on its ring when its path crosses it (R25, R520); what only other nodes of the path know is outside this model
(log entry 12). -/
def lanesOk (s : State) : Bool :=
  noPath s || (s.on F.RDG_STATUS_UP_VALID && groupReady s (s.get F.RDG_STATUS_UP_LANE) && !wrapOnPath s)

/-- With them the asymmetry condition of G4: the upstream lane's calibration is complete and has not failed. -/
def pathOk (s : State) : Bool :=
  let l := s.get F.RDG_STATUS_UP_LANE
  lanesOk s && (noPath s || (s.on (F.RDG_LANE_CAL_DONE l) && !s.on (F.RDG_LANE_CAL_FAIL l)))

/-- The grandmaster condition of G4 (R520). -/
def timeSourceOk (s : State) : Bool :=
  s.on F.TIM_STATUS_VALID && (!s.on F.TIM_STATUS_GM || s.on F.TIM_STATUS_PPS_IN_PRESENT)

/-- The conditions common to all four guarantees. -/
def guarBase (s : State) : Bool := !tjOut s && !railOut s && !cfgDefault s

/-- KE0_STATUS.STATE codes: 0 OFF, 1 ARMED, 2 RUN, 3 IDLE, 4 FAULT. -/
def ke0Run (s : State) : Bool := s.get F.KE0_STATUS_STATE == 2
def ke0Stopped (s : State) : Bool := !(s.get F.KE0_STATUS_STATE == 2 || s.get F.KE0_STATUS_STATE == 3)

/-- The class-0 program in force has length 0 (R134). -/
def ke0Idle (s : State) : Bool := s.get F.KE0_STATUS_LEN == 0

/-- The class-0 length condition of G1: at least 1 and at most W − 192. -/
def ke0LenOk (s : State) : Bool :=
  1 ≤ s.get F.KE0_STATUS_LEN && s.get F.KE0_STATUS_LEN + 192 ≤ s.cur F.KE0_WPHASE_W

def g1Ok (s : State) : Bool := guarBase s && plumbHolds s && ke0LenOk s && ke0Run s
def g2Ok (s : State) : Bool := guarBase s && plumbHolds s && tripInputsOk s
def g3Ok (s : State) : Bool := guarBase s && plumbHolds s && lanesOk s
def g4Ok (s : State) : Bool := guarBase s && plumbShort s && pathOk s && timeSourceOk s

/-- The bits [3:0] of SYS_GUAR as its conditions stand. -/
def guarBits (s : State) : Nat := bit (g1Ok s) + 2 * bit (g2Ok s) + 4 * bit (g3Ok s) + 8 * bit (g4Ok s)

/-- The bits [3:0] of SYS_GUAR as shown. -/
def guarShown (s : State) : Nat :=
  s.get F.SYS_GUAR_G1_OK + 2 * s.get F.SYS_GUAR_G2_OK + 4 * s.get F.SYS_GUAR_G3_OK
    + 8 * s.get F.SYS_GUAR_G4_OK

/-- The bits [17:10] of SYS_GUAR as shown, at their places. -/
def guarCauses (s : State) : Nat :=
  2 ^ 17 * s.get F.SYS_GUAR_KE0_STOPPED + 2 ^ 16 * s.get F.SYS_GUAR_DIE_LINK
    + 2 ^ 15 * s.get F.SYS_GUAR_TJ_OUT + 2 ^ 14 * s.get F.SYS_GUAR_RAIL_OUT
    + 2 ^ 13 * s.get F.SYS_GUAR_CFG_DEFAULT + 2 ^ 12 * s.get F.SYS_GUAR_TIME_INVALID
    + 2 ^ 11 * s.get F.SYS_GUAR_PATH_DOWN + 2 ^ 10 * s.get F.SYS_GUAR_KE0_IDLE

/-- The cause bits [17:10] follow their conditions (R521). DIE_LINK has its own events (R14). -/
def guarCauseUpdate : Prog := fun s =>
  [.set F.SYS_GUAR_KE0_STOPPED (bit (ke0Stopped s)), .set F.SYS_GUAR_TJ_OUT (bit (tjOut s)),
   .set F.SYS_GUAR_RAIL_OUT (bit (railOut s)), .set F.SYS_GUAR_CFG_DEFAULT (bit (cfgDefault s)),
   .set F.SYS_GUAR_TIME_INVALID (bit (timeInvalid s)), .set F.SYS_GUAR_PATH_DOWN (bit (!pathOk s)),
   .set F.SYS_GUAR_KE0_IDLE (bit (ke0Idle s))]
  ++ effIf (timeInvalid s && !s.on F.SYS_GUAR_TIME_INVALID)
      [.upd fun b => { b with phs := { b.phs with invAt := b.cyc } }]

/-! ### Cairn triggers -/

/-- A trigger that is missed while HELD is set (R468). -/
def crnMiss (src : Nat) (scheduled : Bool) : Prog := fun s =>
  [.inc F.CRN_CNT_MISSED_N 1, .sticky F.CRN_STICKY_MISSED]
    ++ effIf scheduled [.led 0x1406 0 [src, s.get F.CRN_STATUS_SEQ]]

/-- A trigger joins the triggers that wait for its snapshot cycle. -/
def joinDue (at' src ev : Nat) (due : List (Nat × Nat × Nat)) : List (Nat × Nat × Nat) :=
  if due.any (·.1 == at') then due.map fun d => if d.1 == at' then (at', d.2.1 ||| src, d.2.2 ||| ev) else d
  else due ++ [(at', src, ev)]

/-- The CLK_FAB cycles from a trigger to its snapshot: one after a write, two after an edge of the pin or a fault event,
none for a scheduled action (R466). -/
def crnDelay (src : Nat) : Nat := if src = 1 then 1 else if src = 4 then 0 else 2

/-- A Cairn trigger with cause bits `src` and fault events `ev`: all triggers that wait for one snapshot cycle
make one snapshot (R466); while HELD is set, and in the cycle of a release, it is missed (R468). -/
def crnTrigger (src ev : Nat) (scheduled : Bool) : Prog := fun s =>
  if !s.on F.CRN_CTRL_ENABLE then []
  else if s.on F.CRN_STATUS_HELD || s.b.crn.releasedAt == some s.b.cyc then crnMiss src scheduled s
  else [.upd fun b => { b with crn.due := joinDue (s.b.cyc + crnDelay src) src ev b.crn.due }]

/-- A fault event of CRN_FAULT_EN (R470): it triggers a snapshot when enabled. -/
def crnEvent (n : Nat) : Prog := fun s =>
  if (s.get F.CRN_FAULT_EN_EV).testBit n then crnTrigger 8 (2 ^ n) false s else []

/-- A record written in the running cycle is taken back. -/
def Ldg.without (l : Ldg) (code inst : Nat) : Ldg :=
  let is (r : LedgerRec) : Bool := r.code == code && r.inst == inst
  let drop (b : List LedgerRec) : List LedgerRec := (b.reverse.eraseP is).reverse
  if l.hold.any is then { l with hold := drop l.hold }
  else if l.buf.any is then { l with buf := drop l.buf, now := if powerDieCode code then l.now else l.now - 1 }
  else l

/-- SYS_GUAR before the changes of this CLK_FAB cycle, and whether a bit of [3:0] has cleared in it; `none` while none has
changed. -/
def guarWas (s : State) : Option (Nat × Bool) :=
  s.b.sys.guarAt.bind fun g => if g.1 = s.b.cyc then some g.2 else none

/-- Bits [3:0] of SYS_GUAR take the value of their conditions after permission: a change sets GUAR_CHANGE and
writes one record, GUAR_LOST when any bit clears; a further change of the same CLK_FAB cycle replaces the record of that
cycle (R27, R29, R521). -/
def guarOkUpdate (before : Nat) : Prog := fun s =>
  let old := guarShown s
  let new := guarBits s
  let was := guarWas s
  let code (lost : Bool) : Nat := if lost then 0x0401 else 0x0402
  let cleared := clearMask old new != 0
  let lost := cleared || was.any (·.2)
  let first := was.elim before (·.1)
  if !s.on F.SYS_STATUS_PERMIT || old == new then []
  else
    [.set F.SYS_GUAR_G1_OK (bit (new.testBit 0)), .set F.SYS_GUAR_G2_OK (bit (new.testBit 1)),
     .set F.SYS_GUAR_G3_OK (bit (new.testBit 2)), .set F.SYS_GUAR_G4_OK (bit (new.testBit 3)),
     .sticky F.SYS_STICKY_GUAR_CHANGE,
     .upd fun b => { b with
       sys.guarAt := some (b.cyc, first, lost)
       ldg := was.elim b.ldg fun w => b.ldg.without (code w.2) 0 },
     .led (code lost) 0 [guarCauses s + new, first]]
    ++ (if lost && !was.any (·.2) then crnEvent 6 s else [])

/-- SYS_GUAR follows its conditions (R27, R521). -/
def guarUpdate : Prog := fun s =>
  guarCauseUpdate.andThen (guarOkUpdate (guarCauses s + guarShown s)) s

/-! ### Interrupts (R439) -/

/-- The IRQ_STAT and IRQ_EN bits of a page, as words. -/
def pageIrq (s : State) (base : Nat) : Nat :=
  (List.range 32).foldl (fun n b =>
    if s.get ⟨keyAt (base + 0x10) + b, 1⟩ != 0 && s.get ⟨keyAt (base + 0x14) + b, 1⟩ != 0
    then withBit n b else n) 0

/-- A page raises its interrupt: IRQ_STAT and IRQ_EN meet, or on KE1 and FPM the event registers do. -/
def pageRaises (s : State) (base : Nat) : Bool :=
  pageIrq s base != 0
    || (base == 0x30000 && (s.get F.KE1_EVT_FLAG &&& s.get F.KE1_EVT_EN_FLAG) != 0)
    || (base == 0x21000 && (s.get F.FPM_KE0_EVT_FLAG &&& s.get F.FPM_KE0_EVT_EN_FLAG) != 0)

/-- The interrupt summary: one bit per page (R439, R516). -/
def irqSummary (s : State) : Nat :=
  RegTable.pages.foldl (fun n p => if pageRaises s p.base then withBit n p.irq else n) 0

/-- The routing of the pages to IRQ_B_N. -/
def irqRoute (s : State) : Nat := s.get F.HST_IRQ_ROUTE0_B + 2 ^ 32 * s.get F.HST_IRQ_ROUTE1_B

/-- IRQ_A_N is driven low: a summary bit that is not routed to IRQ_B_N is set and the pin is enabled. -/
def irqALow (s : State) : Bool :=
  !s.b.sys.inReset && s.on F.HST_IRQ_PIN_A_EN && clearMask (irqSummary s) (irqRoute s) != 0

/-- IRQ_B_N is driven low. -/
def irqBLow (s : State) : Bool :=
  !s.b.sys.inReset && s.on F.HST_IRQ_PIN_B_EN && (irqSummary s &&& irqRoute s) != 0

/-! ### Loss of VALID -/

/-- The time of an armed slot, in units of the timebase. -/
def armedTime (s : State) (n : Nat) : Nat :=
  timeOf (s.cur (F.RDG_SCHED_SEC_LO_SEC n) + 2 ^ 32 * s.cur (F.RDG_SCHED_SEC_HI_SEC n)) (s.cur (F.RDG_SCHED_NS_NS n))

/-- Every armed schedule slot whose time has not arrived is cancelled, one record each (R20); the others act. -/
def schedCancel : Prog := fun s =>
  let armed := s.get F.RDG_SCHED_STAT_ARMED
  let late := (List.range 8).filter fun n => armed.testBit n && s.b.tim.t < armedTime s n
  if late.isEmpty then []
  else [.set F.RDG_SCHED_STAT_ARMED (late.foldl clearBit armed), .sticky F.RDG_STICKY_SCHED_CANCEL]
    ++ late.map (fun n => .led 0x2409 0 [n, s.cur (F.RDG_SCHED_ACT_ACTION n)])

/-- A transition of VALID or HOLDOVER makes a Ledger time anchor due (R57, R425). -/
def anchorDue : List Eff := [.upd fun b => { b with bed.anchorDue := true }]

/-- PPS_OUT falls. -/
def ppsOutFall : Eff := .upd fun b => { b with tim := { b.tim with ppsOut := false } }

/-- VALID clears: VALID_LOST, a record with its cause (0 INVALIDATE, 1 GM change, 2 Ridgeline), the armed slots
are cancelled, an anchor falls due and a gated PPS_OUT goes low (R57, R20, R58, R60). -/
def validClear (cause : Nat) : Prog := fun s =>
  if !s.on F.TIM_STATUS_VALID then []
  else
    [.set F.TIM_STATUS_VALID 0, .sticky F.TIM_STICKY_VALID_LOST,
     .led 0x0811 0 [cause, (stampOf s.b.tim.t).sec]] ++ anchorDue
    ++ effIf (s.on F.TIM_CTRL_PPS_OUT_GATE) [ppsOutFall] ++ schedCancel s

/-- VALID sets in second `sec`: a record and an anchor (R60, R425). -/
def validSet (sec : Nat) : Prog := fun s =>
  if s.on F.TIM_STATUS_VALID then []
  else [.set F.TIM_STATUS_VALID 1, .led 0x0810 0 [sec, s.get F.TIM_STATUS_GM]] ++ anchorDue

/-! ### Shadowed groups (R452) -/

/-- An accepted commit of a group over a key range: its shadows become the pending set. -/
def takeGroup (g : Group) (lo hi : Nat) : List Eff :=
  [.take (keyAt lo) (keyAt hi),
   .upd fun b => { b with waiting := b.waiting.filter (· != g) ++ [g], commitNow := g :: b.commitNow }]

/-- A group's pending set comes into force. -/
def adoptGroup (g : Group) (lo hi : Nat) : List Eff :=
  [.adopt (keyAt lo) (keyAt hi),
   .upd fun b => { b with waiting := b.waiting.filter (· != g) }]

/-- A group has a pending set that waits for its update point. -/
def groupWaits (s : State) (g : Group) : Bool := s.b.waiting.contains g

/-- Its commit lies at least one CLK_FAB cycle back, so that its update point may adopt it (R452). -/
def groupDue (s : State) (g : Group) : Bool := groupWaits s g && !s.b.commitNow.contains g

/-! ### Shadow writes of the cycle of a commit (R452)

A commit takes the shadows as they stand at the end of its cycle. It is judged and taken at its command; a shadow write
that follows in the same cycle undoes it and judges it anew (log entry 58). -/

/-- The fields that an effect of a commit sets, as they stood and as it sets them. -/
def fieldsBefore (s : State) : Eff → List (Nat × Nat × Nat × Nat)
  | .set f v => [(f.key, f.w, s.get f, v)]
  | .sticky f => [(f.key, f.w, s.get f, 1), (f.irq.key, f.irq.w, s.get f.irq, 1)]
  | _ => []

/-- A value with the bits that a commit changed as they stood, unless hardware has set a flag twice in the cycle. -/
def bitsBack (s : State) (f : Nat × Nat × Nat × Nat) : Nat :=
  let cur := s.get ⟨f.1, f.2.1⟩
  let ch := f.2.2.1 ^^^ f.2.2.2
  if 2 ≤ s.b.setNow.count f.1 then cur else clearMask cur ch ||| (f.2.2.1 &&& ch)

/-- The pending values of the range that an effect takes. -/
def pendBefore (s : State) : Eff → List (Nat × Nat × List (Nat × Nat))
  | .take lo hi | .commit lo hi => [(lo, hi, s.pnd.slice lo hi)]
  | _ => []

/-- The values in force of the range that an effect commits at once. -/
def actBefore (s : State) : Eff → List (Nat × Nat × List (Nat × Nat))
  | .commit lo hi => [(lo, hi, s.act.slice lo hi)]
  | _ => []

/-- The record that an effect writes. -/
def ledOf : Eff → List (Nat × Nat)
  | .led c i _ => [(c, i)]
  | _ => []

/-- What stands before a commit with effects `es`; `pair`: the pending registers of the pair and their commits. -/
def commitWas (of : CommitOf) (pair : Nat × List Nat) (es : List Eff) (s : State) : CommitWas :=
  { of := of, fields := es.flatMap (fieldsBefore s), pnd := es.flatMap (pendBefore s), act := es.flatMap (actBefore s),
    waiting := s.b.waiting, ent := s.b.ke1.entPend, pair := pair, leds := es.flatMap ledOf }

/-- A commit, with what stands before it noted for the rest of its cycle. -/
def noted (of : CommitOf) (p : Prog) : Prog := fun s =>
  p s ++ [.upd fun b => { b with commitWas := b.commitWas ++ [commitWas of (0, []) (p s) s] }]

/-- The keys of [lo, hi) that a store or a slice lists. -/
def keysOf (m : Store) (lo hi : Nat) (was : List (Nat × Nat)) : List Nat :=
  ((m.slice lo hi).map (·.1) ++ was.map (·.1)).dedup

/-- A pair with the registers in `mask` pending as they were. -/
def Pair.back (mask : Nat) (was : Nat × List Nat) (q : Pair) : Pair :=
  { q with pend := clearMask q.pend mask ||| (was.1 &&& mask)
           commitAt := (List.range 5).map fun r => if mask.testBit r then was.2.getD r 0 else q.commitAt.getD r 0 }

/-- The groups that wait once a commit is undone: those of its ranges as before it, the others as now. -/
def undoWaiting (w : CommitWas) (now : List Group) (mine : Group → Bool) : List Group :=
  now.filter (fun g => !mine g) ++ w.waiting.filter mine

/-- What a commit can change: its fields, its pending values and the values it puts in force at once, by their keys. -/
structure CommitScope where
  fields : Nat → Bool
  pnd : Nat → Bool
  act : Nat → Bool

/-- The commits of a page change keys of that page alone. -/
def pageScope (base : Nat) : CommitScope :=
  let own (k : Nat) : Bool := k / 131072 == base / 4096
  ⟨own, own, own⟩

/-- A commit that changes the flags `fs`, with their interrupt bits, and takes pending values of the keys from `lo` to `hi`. -/
def flagScope (fs : List Fld) (lo hi : Nat) : CommitScope :=
  ⟨fun k => fs.any fun f => k == f.key || k == f.irq.key, fun k => decide (keyAt lo ≤ k ∧ k < keyAt hi), fun _ => false⟩

/-- A commit of the running cycle is undone; `own`: what it can have changed; `names`: the groups it names, which it took if
it was accepted. -/
def undoCommit (own : CommitScope) (w : CommitWas) (names : Group → Bool) : Prog := fun s =>
  let mine (g : Group) : Bool := !w.pnd.isEmpty && names g
  (w.fields.filter fun f => own.fields f.1).map (fun f => Eff.set ⟨f.1, f.2.1⟩ (bitsBack s f))
  ++ w.pnd.flatMap (fun r => ((keysOf s.pnd r.1 r.2.1 r.2.2).filter own.pnd).map
      fun k => .pend ⟨k, 32⟩ (Store.get RegTable.resetVal r.2.2 k))
  ++ w.act.flatMap (fun r => ((keysOf s.act r.1 r.2.1 r.2.2).filter own.act).map
      fun k => .force ⟨k, 32⟩ (Store.get RegTable.resetVal r.2.2 k))
  ++ [.upd fun b => { b with
        waiting := undoWaiting w b.waiting mine
        commitNow := b.commitNow.filter fun g => !mine g
        commitWas := b.commitWas.erase w
        setNow := w.fields.foldl (fun l f => l.erase f.1) b.setNow
        ke1.entPend := if mine .ke1Entry then w.ent else b.ke1.entPend
        pairs := match w.of with
          | .pair p mask => modAt b.pairs p (Pair.back mask w.pair) {}
          | .page _ _ => b.pairs
        ldg := w.leds.foldl (fun l c => l.without c.1 c.2) b.ldg }]

end Sys2Proof.Machine
end

