-- ==== Sys2Proof/Machine/Frames.lean ====
section
/-! DEFINITION. What leaves on the serial lanes: lane roles (R61, R62, R101), frames and their routing (R64 to
R73), keep-alives and intertrips (R68, R75). -/

namespace Sys2Proof.Machine

/-- What a lane holds beside its page. -/
def laneOf (s : State) (n : Nat) : Lane := s.b.lanes.getD n {}

/-- Change what a lane holds. -/
def updLane (n : Nat) (g : Lane → Lane) : Eff := .upd fun b => { b with lanes := modAt b.lanes n g {} }

/-- Change what the ring holds. -/
def updRdg (g : Rdg → Rdg) : Eff := .upd fun b => { b with rdg := g b.rdg }

/-! ### Roles -/

/-- The enabled roles and the lanes they name: 1 ring east, 2 ring west, 3 branch up, 4 branch down, 5 mirror,
6 host link. -/
def roleLanes (s : State) : List (Nat × Nat) :=
  (if s.on F.RDG_CTRL_ENABLE then
    [(1, s.get F.RDG_PORTS_EAST), (2, s.get F.RDG_PORTS_WEST)]
    ++ (if s.on F.RDG_PORTS_UP_EN then [(3, s.get F.RDG_PORTS_UP)] else [])
    ++ ((List.range 4).filter fun n => s.on (F.RDG_DOWN_EN n)).map fun n => (4, s.get (F.RDG_DOWN_LANE n))
   else [])
  ++ (if s.on F.BUT_CTRL_ENABLE then [(5, 4)] else [])
  ++ (if s.on F.HST_CTRL_LINK_EN then [(6, 5)] else [])

/-- The roles that name a lane or its bonded group. -/
def rolesOf (s : State) (n : Nat) : List Nat :=
  ((roleLanes s).filter fun p => govLane s p.2 == govLane s n).map (·.1)

/-- A ring or branch role. -/
def ringRole (r : Nat) : Bool := 1 ≤ r && r ≤ 4

/-- The lane serves a ring or branch role. -/
def ringLane (s : State) (n : Nat) : Bool := ringRole (s.get (F.LNK_STATUS_ROLE n))

/-- The lane is in a near-end loop (R112). -/
def nearLoop (s : State) (n : Nat) : Bool :=
  s.get (F.LNK_LOOP_MODE (govLane s n)) == 1 || s.get (F.LNK_LOOP_MODE (govLane s n)) == 2

/-- The generator or the checker is on (R116). -/
def prbsOn (s : State) (n : Nat) : Bool :=
  s.get (F.LNK_PRBS_CTRL_GEN n) != 0 || s.get (F.LNK_PRBS_CTRL_CHK n) != 0

/-- The stage at which a lane that enters stage `k` comes to stand: a stage that does not apply completes at
once (R104, R112, R116). -/
def landing (s : State) (n k : Nat) : Nat :=
  let raw := s.on (F.LNK_CTRL_MODE (govLane s n))
  if k = 4 then
    if prbsOn s n then 3 else if !raw then 4 else if nearLoop s n || bonded s n then 6 else 7
  else if k = 5 then
    if !raw && !nearLoop s n then 5 else if nearLoop s n || bonded s n then 6 else 7
  else if k = 6 then if nearLoop s n || bonded s n then 6 else 7
  else k

/-- An S frame. -/
def isSFrame : TxItem → Bool
  | .frame f => f.cls == 0
  | _ => false

/-- The delay measurement of a lane starts anew, and no frame of it waits (R107). -/
def resetMeasure (l : Lane) : Lane :=
  { l with sentCorr := false, gotCorr := false, corrOut := none, loopReq := false, loopLeft := 0, exRun := false, exN := 0,
           exAt := none, exSum := 0, tx := l.tx.filter isSFrame, cur := none }

/-- A lane enters a stage (R104). -/
def toStage (n k : Nat) : List Eff :=
  [.set (F.LNK_STATUS_STAGE n) k,
   .upd fun b => { b with lanes := modAt b.lanes n (fun l => { l with stageAt := b.cyc }) {} }]

/-- What still waits when a lane stops: S frames of a ring side, which the wrapped path takes; the frame of a lower class
that was being sent is lost (R26, R89). -/
def stopTx (ring : Bool) (l : Lane) : Lane :=
  let whole := match l.curS with
    | some (f, _) => [TxItem.frame f]
    | none => []
  { l with tx := if ring then whole ++ l.tx.filter isSFrame else [], cur := none, curS := none, out := .idle }

/-- A lane enters stage 2 (R104): what bring-up has found of the polarity and the positions is found anew, so that POL_INV
and REVERSED clear (R105, R106; DESIGN CHOICE, log entry 56). -/
def enterStage2 (n : Nat) : List Eff :=
  toStage n 2 ++
  [.set (F.LNK_STATUS_READY n) 0, .set (F.LNK_STATUS_SIG_DET n) 0,
   .set (F.LNK_STATUS_BIT_LOCK n) 0, .set (F.LNK_STATUS_BLOCK_LOCK n) 0, .set (F.LNK_STATUS_POL_INV n) 0,
   .set (F.LNK_STATUS_REVERSED n) 0, .set (F.LNK_STATUS_LOOP_REMOTE n) 0,
   updLane n fun l => { resetMeasure l with partner := false, pStage := 0, pAddr := 0xFFF }]

/-- The mirror lane is lost: PARTNER_LOST after readiness, which the loss does not end (R387). -/
def mirrorDown : Prog := fun s =>
  effIf (s.on F.BUT_CTRL_ENABLE && s.on F.BUT_STATUS_READY) [.sticky F.BUT_STICKY_PARTNER_LOST]

/-- A lane restarts from stage 1 and leaves it at once when it may (R104, R110). -/
def laneRestart (n : Nat) : Prog := fun s =>
  let l := laneOf s n
  effIf (n == 4 && s.on (F.LNK_STATUS_READY n)) (mirrorDown s) ++ [updLane n (stopTx (ringLane s n))] ++ enterStage2 n ++
    (if s.on (F.LNK_CTRL_ENABLE (govLane s n)) && !l.idle && !l.exhausted then
      [updLane n fun l => { l with bringAt := s.b.cyc }]
    else toStage n 1)

/-- The role shown, the conflicts and the wrong rates of one lane (R61, R62, R101): each of the two that arises is flagged,
whatever holds the lane already. Of the conflicting codes the record holds the two of the first roles in the order of their
codes, the lower one in [3:0] (R117; DESIGN CHOICE, log entry 56). -/
def laneRole (n : Nat) : Prog := fun s =>
  let rs := rolesOf s n
  let l := laneOf s n
  let conflict := 1 < rs.length
  let badRate := rs.any ringRole && s.get (F.LNK_CTRL_RATE (govLane s n)) != 0
  let hold := conflict || badRate
  let role := if conflict then 0 else rs.headD 0
  inOrder
    [ fun _ => [.set (F.LNK_STATUS_ROLE n) role, .set (F.LNK_STATUS_BONDED n) (bit (bonded s n)),
                updLane n fun l => { l with idle := hold, clash := conflict, rateBad := badRate }]
        ++ effIf (conflict && !l.clash)
            [.sticky (F.LNK_STICKY_ROLE_CONFLICT n),
             .led 0x2006 n [n, rs.getD 0 0 + 16 * rs.getD 1 0]]
        ++ effIf (badRate && !l.rateBad) [.sticky F.RDG_STICKY_ADDR_CONFLICT],
      onlyIf (fun _ => hold != l.idle) (laneRestart n) ] s

/-- The roles of all lanes follow the owning blocks. -/
def rolesUpdate : Prog := inOrder ((List.range 8).map laneRole)

/-! ### What waits on a lane -/

/-- The place of an item in the order of R72: S before all others, then T, M, C, B; keep-alives and probes are
inserted between any two blocks (R68). -/
def txRank : TxItem → Nat
  | .frame f => f.cls + 1
  | _ => 0

/-- Put an item behind those that leave before it. -/
def txInsert (i : TxItem) (q : List TxItem) : List TxItem :=
  q.filter (fun j => txRank j ≤ txRank i) ++ [i] ++ q.filter (fun j => txRank i < txRank j)

/-- The lane is in block mode and in no far-end loop, so that frames on it are its own (R100, R112). -/
def ownBlocks (s : State) (n : Nat) : Bool :=
  !s.on (F.LNK_CTRL_MODE n) && s.get (F.LNK_LOOP_MODE n) != 3 && !s.on (F.LNK_STATUS_LOOP_REMOTE n)

/-- The lane carries role traffic: it is ready, in block mode, and in no far-end loop (R100, R102, R112). -/
def carriesRole (s : State) (n : Nat) : Bool := groupReady s n && ownBlocks s n

/-- An item waits on a lane that carries role traffic. An S frame for a ring side whose lane has gone down waits for the
wrap (R26, R89); what else is meant for such a lane is lost. -/
def sendOn (n : Nat) (i : TxItem) : Prog := fun s =>
  effIf (carriesRole s n || (isSFrame i && ringLane s n && (laneOf s n).up))
    [updLane n fun l => { l with tx := txInsert i l.tx }]

/-- The lane may send T frames: it carries role traffic, or it stands in stage 7 and its partner has reported STAGE at
least 5 (R107). -/
def carriesT (s : State) (n : Nat) : Bool :=
  carriesRole s n
    || (s.get (F.LNK_STATUS_STAGE n) == 7 && govLane s n == n && 5 ≤ (laneOf s n).pStage && ownBlocks s n)

/-- A T frame waits on a lane. -/
def sendEarly (n : Nat) (i : TxItem) : Prog := fun s =>
  effIf (carriesT s n) [updLane n fun l => { l with tx := txInsert i l.tx }]

/-! ### Routing -/

/-- The lanes of the ring sides and of the branches. -/
def eastLane (s : State) : Nat := s.get F.RDG_PORTS_EAST
def westLane (s : State) : Nat := s.get F.RDG_PORTS_WEST
def downLanes (s : State) : List Nat :=
  ((List.range 4).filter fun n => s.on (F.RDG_DOWN_EN n)).map fun n => s.get (F.RDG_DOWN_LANE n)
def upLane? (s : State) : Option Nat := if s.on F.RDG_PORTS_UP_EN then some (s.get F.RDG_PORTS_UP) else none

/-- A frame is dropped as unreachable (R87). -/
def dropUnreach : List Eff := [.inc F.RDG_CNT_UNREACH_N 1, .sticky F.RDG_STICKY_UNREACH_DROP]

/-- A frame is dropped at hop limit 0 (R66). -/
def dropHop : List Eff := [.inc F.RDG_CNT_HOPDROP_N 1, .sticky F.RDG_STICKY_HOP_DROP]

/-- The side of the ring that a lane serves is wrapped. -/
def wrapped (s : State) (east : Bool) : Bool := if east then s.on F.RDG_STATUS_WRAP_E else s.on F.RDG_STATUS_WRAP_W

/-- A mailbox command completes (R93). -/
def raccDone (err : Nat) : List Eff :=
  [.set F.RDG_RACC_STATUS_BUSY 0, .set F.RDG_RACC_STATUS_DONE 1, .set F.RDG_RACC_STATUS_ERR err,
   updRdg fun r => { r with mailbox := none }]
  ++ effIf (err != 0) [.sticky F.RDG_STICKY_RACC_ERR]

/-- A bulk command completes (R96). -/
def bulkDone (err : Nat) : List Eff :=
  [.set F.RDG_BULK_STATUS_BUSY 0, .set F.RDG_BULK_STATUS_DONE 1, .set F.RDG_BULK_STATUS_ERR err,
   updRdg fun r => { r with bulk := none }]
  ++ effIf (err != 0) [.sticky F.RDG_STICKY_RACC_ERR]

/-- The TAG of a request or response (R95). -/
def frameTag (f : Frame) : Nat := bitsOf (f.data.getD 0 0) 63 56

/-- A dropped frame that carries an outstanding request of this node ends it with ERR 2 (R94). -/
def requestLost (f : Frame) : Prog := fun s =>
  let own := f.src == s.get F.RDG_ADDR_ADDR
  effIf (own && (f.type == 0x30 || f.type == 0x32) && s.b.rdg.mailbox.any fun m => m.tag == frameTag f) (raccDone 2)
    ++ effIf (own && f.type == 0x40 && s.b.rdg.bulk.any fun m => m.tag == frameTag f) (bulkDone 2)

/-- Send along the ring, east or west. At a wrapped side the frame turns with WRAP set; one that has WRAP set already is
dropped and counted, but for a frame of T, M, C or B that travels west: the far side of the gap turns it back onto its
direction. With both sides wrapped there is no way (R63, R87, log entry 16). A lane on which the node has stopped
forwarding carries none of its own frames either (DESIGN CHOICE, log entry 62). -/
def sendRing (east : Bool) (f : Frame) : Prog := fun s =>
  let lane := if east then eastLane s else westLane s
  let back := if east then westLane s else eastLane s
  if !wrapped s east then effIf (!(laneOf s lane).noForward) (sendOn lane (.frame f) s)
  else if wrapped s !east || (f.wrap && (east || f.cls == 0)) then dropUnreach ++ requestLost f s
  else effIf (!(laneOf s back).noForward) (sendOn back (.frame { f with wrap := true }) s)

/-- Send on a branch lane. -/
def sendBranch (n : Nat) (f : Frame) : Prog := fun s =>
  if (laneOf s n).noForward then [] else sendOn n (.frame f) s

/-- The branch-down lanes whose range holds an address (R64). -/
def downFor (s : State) (a : Nat) : List Nat :=
  ((List.range 4).filter fun n => s.on (F.RDG_DOWN_EN n) && s.get (F.RDG_DOWN_BASE n) ≤ a
      && a ≤ s.get (F.RDG_DOWN_LIMIT n)).map fun n => s.get (F.RDG_DOWN_LANE n)

/-- Along the ring: S frames from a source or a branch leave in both directions, other classes travel east; a
frame that travels west goes on west (R65). -/
def alongRing (fromLane : Option Nat) (f : Frame) : Prog := fun s =>
  if fromLane == some (eastLane s) then sendRing false f s
  else if fromLane == some (westLane s) || f.cls != 0 then sendRing true f s
  else (sendRing true f).andThen (sendRing false f) s

/-- Route a frame (R64): `fromLane` is the lane it arrived on, none for an originated frame. A broadcast goes onto every
branch-down lane, and onto the branch-up lane when it did not come from above; along the ring it goes at every node, also
at one with branch up, where the table's third row alone would keep it from the node's own ring (DESIGN CHOICE, log
entry 55). -/
def route (fromLane : Option Nat) (f : Frame) : Prog := fun s =>
  if f.dest = 0xFFF then
    inOrder
      ([alongRing fromLane f]
        ++ (downLanes s).map (fun n => sendBranch n f)
        ++ (match upLane? s with
            | some u => if fromLane == some u then [] else [sendBranch u f]
            | none => [])) s
  else match downFor s f.dest with
    | d :: _ => sendBranch d f s
    | [] =>
      if s.get F.RDG_SUBTREE_BASE ≤ f.dest ∧ f.dest ≤ s.get F.RDG_SUBTREE_LIMIT then alongRing fromLane f s
      else match upLane? s with
        | some u => sendBranch u f s
        | none => alongRing fromLane f s

/-- The node originates a frame: SRC, hop limit and SEQ are its own (R66, R69). -/
def originate (cls dest type : Nat) (data : List Nat) : Prog := fun s =>
  let f : Frame := { cls := cls, dest := dest, src := s.get F.RDG_ADDR_ADDR, hops := s.get F.RDG_HOPLIM_HOPS,
                     type := type, seq := s.b.rdg.seq, data := data }
  if !s.on F.RDG_CTRL_ENABLE then []
  else if f.hops = 0 then dropHop
  else inOrder [fun _ => [updRdg fun r => { r with seq := (r.seq + 1) % 64 }], route none f] s

/-- Send an intertrip for the groups of a mask; an empty mask is not sent (R75). -/
def sendIntertrip (groups : Nat) : Prog := fun s =>
  if groups % 2 ^ 16 = 0 then [] else originate 0 (s.get F.RDG_IT_DEST_ADDR) 1 [groups % 2 ^ 16] s

/-- The keep-alive a node sends on a lane (R67, R77). -/
def keepaliveOn (s : State) (n : Nat) : Keepalive :=
  { addr := s.get F.RDG_ADDR_ADDR, lane := n,
    upIsYou := s.on F.RDG_STATUS_UP_VALID && s.get F.RDG_STATUS_UP_LANE == n,
    gmHops := s.get F.RDG_STATUS_GM_HOPS, valid := s.on F.TIM_STATUS_VALID }

/-- The ring and branch lanes, a group by its lower lane (R102). -/
def ringLanes (s : State) : List Nat := (List.range 8).filter fun n => ringLane s n && govLane s n == n

/-- KEEPALIVE_SEND: on every ring and branch lane (R68). -/
def keepaliveSend : Prog := fun s =>
  inOrder ((ringLanes s).map fun n => sendOn n (.keepalive (keepaliveOn s n))) s

/-- The limit of LEN of a class (R71). -/
def lenLimit (cls : Nat) : Nat := [2, 3, 32, 17, 63].getD cls 0

/-- A frame is well formed: a known class, within its LEN limit. Returns whether it is counted when it is not
(R67, R69, R71). -/
def frameLenBad (f : Frame) : Bool := f.cls ≤ 4 && lenLimit f.cls < f.data.length

/-- Within 10 µs of cycle `c`. -/
def recent (s : State) (c : Nat) : Bool := s.b.cyc < c + usCyc 10

/-- The list of S frames seen, with one more; old ones leave. -/
def seenAdd (s : State) (q : List (Nat × Nat × Nat)) (f : Frame) : List (Nat × Nat × Nat) :=
  q.filter (fun e => recent s e.2.2) ++ [(f.src, f.seq, s.b.cyc)]

/-- A copy of the S frame was seen within 10 µs (R73). -/
def seenIn (s : State) (q : List (Nat × Nat × Nat)) (f : Frame) : Bool :=
  q.any fun e => e.1 == f.src && e.2.1 == f.seq && recent s e.2.2

/-- A frame that this node placed on the ring has come back: it is removed; a unicast one is counted, and an
outstanding request of this node that it carried ends as unreachable (R65, R94). -/
def ownReturn (f : Frame) : Prog := fun s =>
  if f.dest = 0xFFF then [] else .inc F.RDG_CNT_UNREACH_N 1 :: requestLost f s

/-- The check of a frame has failed (R70). -/
def crcFailed (f : Frame) : List Eff := effIf (!f.crcOk) [.inc F.RDG_CNT_CRC_N 1, .sticky F.RDG_STICKY_CRC_ERR]

/-- The control blocks of an unknown type that came with a frame are discarded and counted (R67). -/
def strays (f : Frame) : List Eff := effIf (f.stray != 0) [.inc F.RDG_CNT_CRC_N f.stray]

/-- A frame that has come back is taken from the ring; one that must not be acted on is not counted as unreachable, and of
the copies of an S frame only the first is (R65, R70, R73). -/
def takeBack (f : Frame) : Prog := fun s =>
  if f.cls = 0 ∧ seenIn s s.b.rdg.backSeen f = true then []
  else effIf (f.cls = 0) [updRdg fun r => { r with backSeen := seenAdd s r.backSeen f }]
    ++ (if f.good then ownReturn f s else crcFailed f)

/-- This node placed a frame that comes along the ring on it: its own frame, one from below a branch-down lane of
this node, or, at the head, one from outside its subtree (R64, R65). -/
def placedHere (s : State) (f : Frame) : Bool :=
  f.src == s.get F.RDG_ADDR_ADDR || !(downFor s f.src).isEmpty
    || (s.on F.RDG_PORTS_UP_EN && !(s.get F.RDG_SUBTREE_BASE ≤ f.src && f.src ≤ s.get F.RDG_SUBTREE_LIMIT))

/-- A frame has returned to the node that placed it on the ring. An S frame returns from either side. A frame of T, M, C
or B that comes from the east has been turned at a wrap and is still on its way (R65, R87, log entry 16). -/
def returned (s : State) (lane : Nat) (f : Frame) : Bool :=
  if f.cls = 0 then
    f.src == s.get F.RDG_ADDR_ADDR || ((lane == westLane s || lane == eastLane s) && placedHere s f)
  else if lane = westLane s then placedHere s f
  else lane != eastLane s && f.src == s.get F.RDG_ADDR_ADDR

/-- FRAME_FORWARD: a frame that is not addressed to this node alone arrives on a lane (R64 to R66, R70 to R73); one whose
check fails goes on with END_ABORT. -/
def frameForward (lane : Nat) (f : Frame) : Prog := fun s =>
  if !s.on F.RDG_CTRL_ENABLE || !ringLane s lane || !carriesRole s lane then []
  else if f.dest = s.get F.RDG_ADDR_ADDR ∨ f.cls = 1 then []
  else strays f ++
    (if 4 < f.cls then []
     else if frameLenBad f then [.inc F.RDG_CNT_CRC_N 1]
     else if f.hops = 0 then dropHop ++ requestLost f s
     else if returned s lane f then takeBack f s
     else if (laneOf s lane).noForward then []
     else if f.cls = 0 ∧ seenIn s s.b.rdg.fwdSeen f = true then []
     else inOrder
      [ fun s => effIf (f.cls = 0) [updRdg fun r => { r with fwdSeen := seenAdd s r.fwdSeen f }] ++ crcFailed f,
        route (some lane) { f with hops := f.hops - 1, abort := !f.good, stray := 0 } ] s)

end Sys2Proof.Machine
end

