-- ==== Sys2Proof/Machine/Pairs.lean ====
section
/-! DEFINITION. The gate outputs: what decides a pair's pins (R18, R229 to R246), the AUX windows (R252), the
SLEW sequences (R269, R270), the trip matrix (R248 to R256) and urgent requests (R283, R286). -/

namespace Sys2Proof.Machine

def pairOf (s : State) (p : Nat) : Pair := s.b.pairs.getD p {}
def updPair (p : Nat) (g : Pair → Pair) : Eff := .upd fun b => { b with pairs := modAt b.pairs p g {} }
def cmpOf (s : State) (c : Nat) : Cmp := s.b.cmps.getD c {}
def updCmp (c : Nat) (g : Cmp → Cmp) : Eff := .upd fun b => { b with cmps := modAt b.cmps c g {} }
def updPwm (g : Pwm → Pwm) : Eff := .upd fun b => { b with pwm := g b.pwm }
def updMpt (g : Mpt → Mpt) : Eff := .upd fun b => { b with mpt := g b.mpt }
def updFad (g : Fad → Fad) : Eff := .upd fun b => { b with fad := g b.fad }

/-- Set a bit of a field. -/
def setBit (s : State) (f : Fld) (b : Nat) : Eff := .set f (withBit (s.get f) b)
/-- Clear a bit of a field. -/
def clrBit (s : State) (f : Fld) (b : Nat) : Eff := .set f (clearBit (s.get f) b)
/-- Set or clear a bit of a field. -/
def putBit (s : State) (f : Fld) (b : Nat) (v : Bool) : Eff := if v then setBit s f b else clrBit s f b

/-! ### Latches and enables -/

/-- The hard latch of a pair (TRP_LATCH0, TRP_LATCH1). -/
def hardLatched (s : State) (p : Nat) : Bool :=
  if p < 32 then (s.get F.TRP_LATCH0_PAIR).testBit p else (s.get F.TRP_LATCH1_PAIR).testBit (p - 32)

/-- A trip is latched on the pair. -/
def latched (s : State) (p : Nat) : Bool := hardLatched s p || (pairOf s p).cyc

/-- The outputs of a pair are enabled (R245). -/
def outEnabled (s : State) (p : Nat) : Bool :=
  pairEnabled s p && (s.get F.PWX_GEN_GRP).testBit (p / 16)
    && !(p < 36 && s.on F.PWX_STATUS_CESSATION)

/-- The present instant in 100 ps; the instant `t` lies in this CLK_FAB cycle or before it; in this cycle (R231). -/
def now100 (s : State) : Nat := s.b.cyc * 64 + s.b.pwm.fine
def reached (s : State) (t : Nat) : Bool := decide (t / 64 ≤ s.b.cyc)
def inCycle (s : State) (t : Nat) : Bool := t / 64 == s.b.cyc

/-- The running CLK_FAB cycle is that of a sample instant. -/
def atSample (s : State) : Bool := s.b.fad.trigAt == some s.b.cyc

/-- An event is handled at the instant `t` of its cycle (R231). -/
def atInstant (t : Nat) (a : Prog) : Prog := fun s =>
  thenDo [updPwm fun w => { w with fine := if inCycle s t then t % 64 else 0 }]
    (inOrder [a, fun _ => [updPwm fun w => { w with fine := 0 }]]) s

/-- The rank of R18 that decides the pins of a pair. -/
def pairRank (s : State) (p : Nat) : Nat :=
  let q := pairOf s p
  if s.b.sys.inReset || !s.b.sys.drvEn then 1
  else if s.on F.PWX_STATUS_INHIBIT then 2
  else if latched s p then 3
  else if q.drvH && q.drvL then 4
  else if !outEnabled s p || q.hold || !q.started then 5
  else 6

/-- The H and L pins of a pair at a rank (R18, R249). -/
def pairPins (s : State) (p rank : Nat) : Bool × Bool :=
  let q := pairOf s p
  if rank = 3 then (q.safe == 1, q.safe == 2)
  else if rank = 6 then (q.drvH, q.drvL)
  else (false, false)

/-! ### Thresholds of the window comparators -/

/-- The thresholds of a comparator: those of the brake group for the brake comparator while RT_SET (R274). -/
def thrHi (s : State) (c : Nat) : Nat :=
  if s.on F.GDP_STATUS_RT_SET ∧ s.cur F.GDP_BRK_CFG_CMP = c then s.cur F.GDP_BRK_RT_HI else s.cur (F.WIN_THR_HI c)
def thrLo (s : State) (c : Nat) : Nat :=
  if s.on F.GDP_STATUS_RT_SET ∧ s.cur F.GDP_BRK_CFG_CMP = c then s.cur F.GDP_BRK_RT_LO else s.cur (F.WIN_THR_LO c)

/-- The threshold of a comparator ramps: SLOPE not 0, a pair 0 to 48, continuous operation (R263, R264). -/
def ramped (s : State) (c : Nat) : Bool :=
  s.cur (F.WIN_RAMP_SLOPE c) != 0 && s.cur (F.WIN_RAMP_PAIR c) ≤ 48 && s.cur (F.WIN_CFG_MODE c) == 0

/-- The coarse ticks since the most recent period start of a pair, 65,535 at most; 0 before any (R264, log entry 57). -/
def rampTicks (s : State) (p : Nat) : Nat :=
  match (pairOf s p).last with
  | some t => min ((s.b.cyc * 64 - t) / 64) 65535
  | none => 0

/-- The effective high threshold, `n` coarse ticks into the pair's period (R264). -/
def heffAt (s : State) (c n : Nat) : Nat :=
  if ramped s c then thrHi s c - s.cur (F.WIN_RAMP_SLOPE c) * min n 65535 / 65536 else thrHi s c

/-! ### AUX windows and SLEW sequences -/

/-- A window of AUX channel `k` that was not running starts: the self-tests it brings due, 16 ns later (R265). -/
def auxTests (k len : Nat) : Prog := fun s =>
  ((List.range 64).filter fun c =>
      s.curOn (F.WIN_CFG_EN c) && s.on (F.CMP_CTRL_ENABLE (c / 16)) && s.cur (F.WIN_TEST_MODE c) != 0
        && s.cur (F.WIN_TEST_EVERY c) != 0 && s.cur (F.WIN_TEST_AUX c) == k).flatMap fun c =>
    if (cmpOf s c).count + 1 < s.cur (F.WIN_TEST_EVERY c) then
      [updCmp c fun q => { q with count := q.count + 1 }]
    else if len < 1200 then
      [updCmp c (fun q => { q with count := 0 }), .inc (F.CMP_CNT_SKIP_N (c / 16)) 1,
       .sticky (F.CMP_STICKY_TEST_SKIP (c / 16))]
    else [updCmp c fun q => { q with count := 0, due := true, testAt := now100 s + 160 }]

/-- The condition of a source holds (TRP_ACTk). -/
def isAsserted (s : State) (n : Nat) : Bool := (s.get (F.TRP_ACT_SRC (n / 32))).testBit (n % 32)

/-- A source acts (R248, R252). -/
def acts (s : State) (n : Nat) : Bool :=
  isAsserted s n && s.curOn (F.TRP_SRC_EN n) && s.cur (F.TRP_SRC_GROUPS n) != 0
    && !(s.curOn (F.TRP_SRC_BLANK_EN n) && s.on (F.AUX_STAT_RUN (s.cur (F.TRP_SRC_AUX n))))

/-- The groups that the acting sources below `n` assert. -/
def groupsBelow (s : State) (n : Nat) : Nat :=
  ((List.range n).filter (acts s)).foldl (fun g k => g ||| s.cur (F.TRP_SRC_GROUPS k)) 0

/-- The groups asserted follow the sources that act (R248, R252, R254). -/
def groupsShow : Prog := fun s =>
  [.set F.TRP_GRP_ACT_GRP (groupsBelow s 128), updPwm fun w => { w with localGroups := groupsBelow s 112 }]

/-- An output edge at the pin starts or restarts the windows that select it (R252): edge 0 = H rise,
1 = H fall, 2 = L rise, 3 = L fall. The channels run from the sample instant after PWX is enabled (R232). -/
def auxEdge (p edge : Nat) : Prog := fun s =>
  let ks := (List.range 8).filter fun k =>
    s.cur (F.AUX_CFG_PAIR k) == p && (s.cur (F.AUX_CFG_EDGE k)).testBit edge && s.cur (F.AUX_CFG_LEN k) != 0
  if !s.b.pwm.auxRun || ks.isEmpty then []
  else inOrder (ks.map (fun k => fun s =>
    let len := s.cur (F.AUX_CFG_LEN k)
    [.set (F.AUX_STAT_RUN k) 1, .set (F.AUX_STAT_REMAIN k) len, setBit s F.PWX_STATUS_AUX_RUN k,
     updPwm fun w => { w with auxTill := setAt w.auxTill k (now100 s + len) 0 }]
    ++ (if s.on (F.AUX_STAT_RUN k) then [] else auxTests k len s)) ++ [groupsShow]) s

/-- The profile of a pair in force (R271). -/
def profileOf (s : State) (p : Nat) : Nat := s.cur (F.GDP_PSEL_PROF (p / 8) (p % 8))

/-- The SLEW sequence that a gate edge starts (R269, R270). -/
def slewFor (s : State) (p rank : Nat) (rising : Bool) : Slew :=
  let g := profileOf s p
  let t1 := if rising then s.cur (F.GDP_PROF_ON_T1 g) else s.cur (F.GDP_PROF_OFF_T1 g)
  let t2 := if rising then s.cur (F.GDP_PROF_ON_T2 g) else s.cur (F.GDP_PROF_OFF_T2 g)
  let soft := s.cur (F.GDP_PROF_SOFT_T_SOFT g)
  if rank ≤ 2 ∨ p = 48 ∨ s.on F.GDP_CTRL_ENABLE = false then {}
  else if rank = 3 ∧ rising = false ∧ soft ≠ 0 then ⟨3, 0, now100 s + soft⟩
  else if t2 = 0 then {}
  else if t1 = 0 then ⟨2, t2, now100 s + t2⟩
  else ⟨1, t2, now100 s + t1⟩

/-- The SLEW pin of an output is high (weak drive). -/
def Slew.high (q : Slew) : Bool := q.phase == 2 || q.phase == 3

/-- Effects of an edge of H or L of a pair at a rank. -/
def pinEdge (p rank : Nat) (isH rising : Bool) : Prog := fun s =>
  let sl := slewFor s p rank rising
  (if isH then [.set (F.PAIR_STAT_H p) (bit rising), updPair p fun q => { q with slewH := sl }]
   else [.set (F.PAIR_STAT_L p) (bit rising), updPair p fun q => { q with slewL := sl }])
  ++ effIf (sl.phase == 3) [.sticky F.GDP_STICKY_SOFT_OFF]
  ++ effIf (rank != 1 && !(pairOf s p).hiZ)
      (auxEdge p ((if isH then 0 else 2) + (if rising then 0 else 1)) s)

/-- The interlock begins to act: its bit, flag and record, once per pair until the bit is cleared; with SB_TRIP it asks for
source 107 (R244, R257). -/
def shootBlock (p : Nat) : Prog := fun s =>
  let pg := p / 16
  effIf (s.on (F.PAIR_CFG_SB_TRIP p)) [updPwm fun w => { w with shoot := true }]
  ++ if p = 48 then
    [.sticky F.PWX_STICKY_BRK_SB] ++ effIf (!s.on F.PWX_STICKY_BRK_SB) [.led 0x5004 0 [48, 0]]
  else
    raiseBit s (F.PWM_SB_PAIR pg) (p % 16) ++ [.sticky (F.PWM_STICKY_SHOOT_BLOCK pg)]
    ++ effIf (!(s.get (F.PWM_SB_PAIR pg)).testBit (p % 16)) [.led 0x5004 pg [p, 0]]

/-- The pins of a pair follow the rank that decides them (R18). A pair that is disabled or tripped waits for
its next period boundary (R245, R253). -/
def applyPins (p : Nat) : Prog := fun s =>
  let rank := pairRank s p
  let pins := pairPins s p rank
  let onset := rank == 4 && !(pairOf s p).blocked
  inOrder
    [ onlyIf (fun s => pins.1 != s.on (F.PAIR_STAT_H p)) (pinEdge p rank true pins.1),
      onlyIf (fun s => pins.2 != s.on (F.PAIR_STAT_L p)) (pinEdge p rank false pins.2),
      fun s =>
        effIf (p < 48) [putBit s (F.PWM_STATUS_ACTIVE (p / 16)) (p % 16) (rank == 6)]
        ++ [updPair p fun q =>
              { q with hiZ := rank == 1, blocked := rank == 4, hold := q.hold || !outEnabled s p || latched s p,
                       slewH := if rank ≤ 2 then {} else q.slewH,
                       slewL := if rank ≤ 2 then {} else q.slewL }],
      onlyIf (fun _ => onset) (shootBlock p) ] s

/-! ### The scan sequencer's abort (R218) -/

/-- The exponent-8 slot word of a small integer. -/
def intSlot (x : Int) : Nat := slotOf 8 x

/-- A scan in progress is aborted: the pair returns at the next W, V_gmp and the scan count stay (R218). A scan that is
mirrored in SCANNING and SCAN_IN only is aborted at a takeover and has no pair here (R395). ISLOT 0x9C reads −1 at once; the monitor compares it at
the end of the cycle (R171). -/
def mptAbort (cause : Nat) : Prog := fun s =>
  let input := match s.b.mpt.scan with
    | some q => q.input.val
    | none => s.get F.MPT_STATUS_SCAN_IN
  if s.b.mpt.scan.isNone && !(cause == 6 && s.on F.MPT_STATUS_SCANNING) then []
  else
    [.set F.MPT_STATUS_SCANNING 0, .set F.MPT_STATUS_SCAN_IN 0xF, .set (F.KE0_ISLOT_VAL 0x9C) (intSlot (-1)),
     updMpt (fun m => { m with scan := none, curve := [], giveBack := m.scan.or m.giveBack, slotDue := true }),
     .sticky F.MPT_STICKY_SCAN_ABORT, .led 0x4841 0 [input, cause]]

/-! ### Urgent requests -/

/-- The physical converter that carries the traffic of FCk: FCS is 16 (R287). -/
def carrier (s : State) (k : Nat) : Nat :=
  if s.on F.FAC_STATUS_CARRY && s.get F.FAC_STATUS_CARRY_K == k then 16 else k

def convOf (s : State) (k : Nat) : Conv := s.b.fad.convs.getD k {}
def updConv (k : Nat) (g : Conv → Conv) : Eff := updFad fun f => { f with convs := modAt f.convs k g {} }

/-- A conversion is in progress: the slot of the last sample has not ended (R284). -/
def inSlot (s : State) (k : Nat) : Bool := (convOf s k).cur.any fun q => decide (s.b.cyc < q.at' + 16)

/-- A converter holds an urgent request: from its arrival to the end of the slot in which it is sampled (R286). -/
def urgHeld (s : State) (k : Nat) : Bool :=
  (convOf s k).urg.isSome || (inSlot s k && (convOf s k).cur.any (·.kind == 1))

/-- URG_BUSY follows the requests held. -/
def urgShow : Prog := fun s =>
  [.set F.FAD_STATUS_URG_BUSY ((List.range 16).foldl (fun n k => if urgHeld s k then withBit n (carrier s k) else n) 0)]

/-- A request on line `u` is dropped (R286, R294). -/
def urgDrop (u fc : Nat) : Prog := fun s =>
  [.inc F.FAD_CNT_URG_DROP_N 1] ++ effIf (!s.on F.FAD_STICKY_URG_DROP) [.led 0x6001 0 [u, carrier s fc]]
    ++ [.sticky F.FAD_STICKY_URG_DROP]

/-- Urgent line `u` raises a request for its converter's traffic; it takes effect one coarse tick after the tick in which
it is raised, rounded up. Of several lines in one tick the lowest-numbered is served; a request that a trigger gave back
keeps its place (R283, R284, R286, R294). -/
def urgentRaise (u : Nat) : Prog := fun s =>
  let fc := s.cur (F.FAD_URG_CFG_FC u)
  let new : Urgent := { line := u, raised := s.b.cyc, due := s.b.cyc + 1 + bit (decide (s.b.pwm.fine ≠ 0)) }
  if !(s.curOn (F.FAD_URG_CFG_EN u) && s.on F.FAD_CTRL_ENABLE && s.b.ke0.timer) then []
  else if !urgHeld s fc then thenDo [updConv fc fun q => { q with urg := some new }] urgShow s
  else match (convOf s fc).urg with
    | some w =>
      if w.raised = s.b.cyc ∧ !w.placed ∧ !w.counted ∧ u < w.line then
        thenDo [updConv fc fun q => { q with urg := some { w with line := u } }] (urgDrop w.line fc) s
      else urgDrop u fc s
    | none => urgDrop u fc s

/-! ### The trip matrix -/

/-- A source names a group that the pair obeys. -/
def reaches (s : State) (n p : Nat) : Bool :=
  (s.cur (F.TRP_SRC_GROUPS n) &&& s.cur (F.TRP_PMASK_GROUPS p)) != 0

/-- An enabled source of the given kind that reaches the pair is asserted, even while it is blanked. -/
def heldBy (s : State) (p : Nat) (hard : Bool) : Option Nat :=
  (List.range 128).find? fun n =>
    isAsserted s n && s.curOn (F.TRP_SRC_EN n) && s.curOn (F.TRP_SRC_LATCH n) == hard && reaches s n p

/-- TRP_STATUS follows the latches. -/
def trpStatus : Prog := fun s =>
  let n := ((List.range 49).filter (latched s)).length
  [.set F.TRP_STATUS_LATCHED n, .set F.TRP_STATUS_CYCLE (bit ((List.range 49).any fun p => (pairOf s p).cyc)),
   .set F.TRP_STATUS_ANY (bit (s.get F.TRP_LATCH0_PAIR != 0 || s.get F.TRP_LATCH1_PAIR != 0))]

/-- A latch is set on a pair (R249): the safe state is taken when no latch was in force (R256). -/
def latchPair (hard : Bool) (p : Nat) : Prog := fun s =>
  let safe := if latched s p then (pairOf s p).safe else s.cur (F.TRP_PMASK_SAFE p)
  (if hard then
     (if p < 32 then [setBit s F.TRP_LATCH0_PAIR p] else [setBit s F.TRP_LATCH1_PAIR (p - 32)])
     ++ [updPair p fun q => { q with safe := safe, latchAt := s.b.cyc }]
   else [updPair p fun q => { q with safe := safe, cyc := true }])

/-- An acting source latches a trip on each pair that obeys one of its groups (R249, R255, R257, R470). -/
def latchBy (n : Nat) : Prog := fun s =>
  let hard := s.curOn (F.TRP_SRC_LATCH n)
  let new := (List.range 49).filter fun p =>
    reaches s n p && !(if hard then hardLatched s p else (pairOf s p).cyc)
  let first := !(List.range 49).any (latched s)
  if !acts s n || new.isEmpty then []
  else
    let p0 := new.headD 0
    inOrder
      ([ fun s => raiseBit s (F.TRP_SEEN_SRC (n / 32)) (n % 32)
          ++ effIf first [.set F.TRP_FIRST_VALID 1, .set F.TRP_FIRST_SRC n, .set F.TRP_FIRST_PAIR p0]
          ++ effIf hard [.sticky F.TRP_STICKY_TRIP] ++ [.led 0x5001 0 [n, p0]] ]
        ++ new.map (latchPair hard)
        ++ [ trpStatus ]
        ++ new.map applyPins
        ++ [ onlyIf (fun _ => first && hard) (crnEvent 0),
             onlyIf (fun s => s.b.mpt.scan.any fun q => new.contains (36 + q.input)) (mptAbort 1) ]) s

/-- The matrix is evaluated after a change (R248 to R254). -/
def tripEval : Prog := fun s =>
  let a := (List.range 128).filter (acts s)
  let req := clearMask (groupsBelow s 112) s.b.pwm.localGroups &&& s.cur F.TRP_IT_REQ_GRP
  let src := (a.find? fun n => n < 112 && (s.cur (F.TRP_SRC_GROUPS n) &&& req) != 0).getD 0
  inOrder
    ([ groupsShow ] ++ a.map latchBy
      ++ [ onlyIf (fun _ => req != 0)
            (thenDo [.sticky F.TRP_STICKY_IT_REQ, .led 0x5008 0 [req, src]]
              (fun s => sendIntertrip (s.get F.RDG_IT_TX_GROUPS) s)) ]) s

/-- The condition of a source begins or ends (R248). Sources 108 to 111 are reserved; sources 13 to 15 read as not
asserted while the device is an arbiter (R390). -/
def setSource (n : Nat) (on : Bool) : Prog := fun s =>
  if on == isAsserted s n || (108 ≤ n && n < 112) || 128 ≤ n
      || (on && 13 ≤ n && n ≤ 15 && s.on F.BUT_ARB_CTRL_EN) then []
  else inOrder
    ([ fun s => [putBit s (F.TRP_ACT_SRC (n / 32)) (n % 32) on] ]
      ++ (if on then ((List.range 32).filter fun u =>
            s.curOn (F.FAD_URG_CFG_TRIP_EN u) && s.cur (F.FAD_URG_CFG_TSRC u) == n).map urgentRaise else [])
      ++ [ tripEval ]) s

/-- A source is asserted for one coarse tick, to the end of the running one (R248). -/
def pulseSource (n : Nat) : Prog :=
  thenDo [updPwm fun w => { w with pulses := w.pulses.filter (· != n) ++ [n] }] (setSource n true)

/-- The coarse tick ends for the sources that it asserts (R248). -/
def pulsesEnd : Prog := fun s =>
  thenDo [updPwm fun w => { w with pulses := [] }] (inOrder (s.b.pwm.pulses.map fun n => setSource n false)) s

/-- An interlock with SB_TRIP that has begun to act asserts source 107 (R244). -/
def shootTrip : Prog := onlyIf (fun s => s.b.pwm.shoot)
  (thenDo [updPwm fun w => { w with shoot := false }] (pulseSource 107))

/-- The pins of a pair follow, and an interlock that begins to act trips (R18, R244). -/
def drivePair (p : Nat) : Prog := (applyPins p).andThen shootTrip

/-- The pins of several pairs follow; those of every pair. -/
def drivePairs (ps : List Nat) : Prog := inOrder (ps.map applyPins ++ [shootTrip])
def applyAllPins : Prog := drivePairs (List.range 49)

/-! ### Lines from Parapet and from the ride-through supervisor -/

/-- The Parapet inhibit line changes (R13, R18, R257); an assertion aborts a scan (R218). -/
def setInhibit (on : Bool) : Prog := fun s =>
  if on == s.on F.PWX_STATUS_INHIBIT then []
  else inOrder
    [ fun _ => [.set F.PWX_STATUS_INHIBIT (bit on), .led 0x5006 0 [bit on, 0]]
        ++ effIf on [.sticky F.PWX_STICKY_INHIBIT],
      applyAllPins, onlyIf (fun _ => on) (mptAbort 1) ] s

/-- The cessation line changes (R204, R245). -/
def setCessation (on : Bool) : Prog := fun s =>
  if on == s.on F.PWX_STATUS_CESSATION then []
  else inOrder
    [ fun _ => [.set F.PWX_STATUS_CESSATION (bit on)] ++ effIf on [.sticky F.PWX_STICKY_CESSATION],
      drivePairs (List.range 36) ] s

/-- The DRV_EN pin changes (R384, R494); the outputs follow rank 1. -/
def setDrvEn (on : Bool) : Prog := fun s =>
  if on == s.b.sys.drvEn then []
  else thenDo [.upd fun b => { b with sys := { b.sys with drvEn := on } }] applyAllPins s

end Sys2Proof.Machine
end

