-- ==== Sys2Proof/Machine/ButBase.lean ====
section
/-! DEFINITION. The states of Buttress that other blocks move: internal faults, readiness, the HEALTH code
(R384 to R388). -/

namespace Sys2Proof.Machine

def updBut (g : But → But) : Eff := .upd fun b => { b with but := g b.but }

/-- States of BUT_STATUS.STATE. -/
def butOff : Nat := 0
def butSync : Nat := 1
def butStandby : Nat := 2
def butActive : Nat := 3
def butFailed : Nat := 4

/-- Buttress is in a state. -/
def butIn (s : State) (k : Nat) : Bool := s.get F.BUT_STATUS_STATE == k

/-- The internal faults that hold (R386). -/
def butFaults (s : State) : Nat :=
  bit (s.get F.KE0_STATUS_STATE == 4) + 2 * bit (s.get F.KE1_STATUS_STATE == 4)
    + 4 * bit (s.get F.PAR_STATUS_STATE == 3) + 8 * bit (s.on F.FPM_STATUS_TAKEOVER_REQ)
    + 16 * bit (s.on F.SYS_GUAR_DIE_LINK) + 32 * bit (s.on F.SYS_GUAR_RAIL_OUT)
    + 64 * bit (s.on F.SYS_GUAR_TJ_OUT)

/-- A status frame has come within the last 100 ms. -/
def partnerHeard (s : State) : Bool := s.b.but.heardAt.any fun c => s.b.cyc < c + usCyc 100000

/-- The partner is not ACTIVE, or is silent (R387). -/
def partnerIdle (s : State) : Bool := !partnerHeard s || s.b.but.pState != butActive

/-- The pair agrees and its sets have come (R387); without class-1 slots there is no class-1 set (R391). -/
def pairAgrees (s : State) : Bool :=
  let a := signedOf 32 (s.get F.BUT_ALIGN_NS)
  let need := if s.cur F.KE1_SCHED_M = 0 then 5 else 7
  s.get F.BUT_CRC_CRC == s.get F.BUT_PCRC_CRC && decide (-100 ≤ a ∧ a ≤ 100) && s.b.but.got &&& need == need

/-- The device is ready (R387). -/
def butReady (s : State) : Bool :=
  s.get F.KE0_STATUS_STATE == 2 && s.get F.PAR_STATUS_STATE == 2 && s.on F.SYS_GUAR_G1_OK
    && s.on F.SYS_GUAR_G2_OK && s.get F.BUT_FAULT_CAUSE == 0 && (partnerIdle s || pairAgrees s)
    && !s.on F.BUT_STATUS_MIRROR_LOST

/-- The HEALTH code shown (R388). -/
def butCode (s : State) : Nat :=
  if s.b.sys.inReset || butIn s butOff || butIn s butFailed then 0
  else if butIn s butSync then 3
  else if butIn s butActive then (if s.b.but.notReady then 3 else 2)
  else if s.b.but.reqCmd
      || (s.b.but.reqAuto && s.on F.BUT_CTRL_AUTO_REVERT && !s.on F.BUT_CTRL_ROLE) then 1 else 2

/-- The high time of the HEALTH wave in ns, by its code (R388). -/
def healthHigh (code : Nat) : Nat := if code = 1 then 250 else if code = 2 then 500 else if code = 3 then 750 else 0

/-- The level of the HEALTH pin: a 1 MHz wave that rises on whole microseconds of Ridgeline time; low in reset, and while
the code is 0 (R388, R497). -/
def healthPin (s : State) : Bool := decide ((stampOf s.b.tim.t).ns % 1000 < healthHigh (butCode s))

/-- READY, CODE and DRV_EN follow; the time for which the device has been ready starts with READY; a STANDBY device whose readiness is lost returns to SYNC. -/
def butShow : Prog := inOrder
  [ fun s => effIf (butReady s && !s.on F.BUT_STATUS_READY) [updBut fun b => { b with readyAt := s.b.cyc }]
      ++ [.set F.BUT_STATUS_READY (bit (butReady s))],
    fun s =>
      let lost := butIn s butStandby && !butReady s
      effIf lost [.set F.BUT_STATUS_STATE butSync,
                  updBut fun b => { b with takeoverDue := false, reqCmd := false, reqAuto := false }],
    fun s => [.set F.BUT_STATUS_CODE (butCode s), .set F.BUT_STATUS_DRV_EN (bit s.b.sys.drvEn)] ]

/-- Any internal fault enters FAILED from every state but OFF, at once without drive; with every cause absent
FAILED is left for SYNC (R386). -/
def butFaultUpdate : Prog := inOrder
  [ fun s => [.set F.BUT_FAULT_CAUSE (butFaults s)],
    fun s =>
      let st := s.get F.BUT_STATUS_STATE
      if butFaults s != 0 && st != butOff && st != butFailed then
        thenDo [.set F.BUT_STATUS_STATE butFailed, .sticky F.BUT_STICKY_FAILED,
            updBut (fun b => { b with takeoverDue := false, reqCmd := false, reqAuto := false, out := none, txq := [] }),
            .led 0x2803 0 [butFaults s, st]]
          (setDrvEn false) s
      else effIf (butFaults s == 0 && st == butFailed) [.set F.BUT_STATUS_STATE butSync],
    butShow ]

end Sys2Proof.Machine
end

