-- ==== Sys2Proof/Machine/Fpm.lean ====
section
/-! DEFINITION. The feedback plausibility monitor and the writes of input slots that it watches (R125, R171 to
R181). -/

namespace Sys2Proof.Machine

def fpmOf (s : State) (c : Nat) : FpmCh := s.b.fpm.ch.getD c {}
def updFpm (g : Fpm → Fpm) : Eff := .upd fun b => { b with fpm := g b.fpm }
def updFpmCh (c : Nat) (g : FpmCh → FpmCh) : Eff := updFpm fun m => { m with ch := modAt m.ch c g {} }

/-- A channel is active (R171). -/
def fpmActive (s : State) (c : Nat) : Bool :=
  s.on F.FPM_CTRL_ENABLE && s.cur (F.FPM_CH_CFG_N c) != 0 && ke0Run s

/-- COUNT of a channel has reached N. -/
def fpmReached (s : State) (c : Nat) : Bool :=
  s.cur (F.FPM_CH_CFG_N c) != 0 && s.cur (F.FPM_CH_CFG_N c) ≤ s.get (F.FPM_CH_HOLD_COUNT c)

/-- An FPM trip line is asserted by a channel or by a saturation event (R179). -/
def fpmLine (s : State) (l : Nat) : Bool :=
  s.b.fpm.ch.any (fun q => q.trips.contains l) || s.b.fpm.satLines.contains l

/-- FPM_STATUS follows, and with it the Buttress internal fault (R176). -/
def fpmStatus : Prog := inOrder
  [ fun s =>
      [.set F.FPM_STATUS_ACTIVE (bit (s.on F.FPM_CTRL_ENABLE && ke0Run s)),
       .set F.FPM_STATUS_HOLD_ACTIVE (bit (s.b.fpm.ch.any fun q => !q.hold.isEmpty)),
       .set F.FPM_STATUS_TRIP_ASSERTED (bit ((List.range 8).any (fpmLine s))),
       .set F.FPM_STATUS_TAKEOVER_REQ (bit (s.b.fpm.satTake || s.b.fpm.ch.any fun q => q.take)),
       .set F.FPM_STATUS_IN_EVENT (min 255 ((List.range 64).filter (fpmReached s)).length)],
    butFaultUpdate ]

/-- The trip sources 96 to 103 follow the lines (R248). -/
def fpmLines : Prog := inOrder ((List.range 8).map fun l => fun s => setSource (96 + l) (fpmLine s l) s)

/-- An event of a channel takes its action and every lower-numbered one (R176, R178). What earlier events of the channel
hold and assert stays beside it until the release (R175, R179). -/
def fpmEvent (c : Nat) : Prog := fun s =>
  let act := s.cur (F.FPM_CH_CFG_ACT c)
  let na := act == 4 && !s.on F.BUT_CTRL_ENABLE
  let line := s.cur (F.FPM_CH_CFG_TRIP c)
  let cnt := s.cur (F.FPM_CH_HOLD_HOLD_CNT c)
  let base := s.cur (F.FPM_CH_HOLD_HOLD_BASE c)
  if act = 0 then []
  else inOrder
    [ fun s =>
        (if c < 32 then raiseBit s F.FPM_EVT0_CH c else raiseBit s F.FPM_EVT1_CH (c - 32))
        ++ [.sticky F.FPM_STICKY_EVENT, .led 0x4020 0 [c, act]]
        ++ effIf (2 ≤ act && cnt != 0) [updFpmCh c fun q => { q with hold := q.hold.filter (· != (base, cnt)) ++ [(base, cnt)] }]
        ++ effIf (3 ≤ act) [updFpmCh c fun q => { q with trips := q.trips.filter (· != line) ++ [line] }]
        ++ effIf (act == 4 && !na) [updFpmCh c fun q => { q with take := true }]
        ++ effIf na [.sticky F.FPM_STICKY_TAKEOVER_NA, .led 0x4023 0 [c, 0]],
      fpmLines, crnEvent 5 ] s

/-- A slot word with exponent `e` holds a value exactly. -/
def exactAt (x : Rat) (e : Int) : Bool :=
  let y := x * 8388608 / pow2 e
  y.den == 1 && decide (-8388608 ≤ y.num ∧ y.num ≤ 8388607)

/-- The word that shows a residual: exact, with the largest exponent up to `top` that holds it, where a slot word holds it
at all; else the nearest word with the least exponent whose range holds it (log entry 22). -/
def residualWord (top : Int) (x : Rat) : Nat :=
  let es := (List.range 256).filterMap fun i => if (i : Int) - 128 ≤ top then some ((i : Int) - 128) else none
  match es.reverse.find? (exactAt x) with
  | some e => slotOf e x
  | none =>
    match es.find? fun e => decide (-(pow2 e) ≤ x ∧ x < pow2 e) with
    | some e => slotOf e x
    | none => slotOf 127 x

/-- The residual of a written value against its prediction: COUNT follows, and an event may be raised (R171,
R172). A threshold of 0 switches the comparison off (R9). -/
def fpmCompare (c w pred : Nat) : Prog := fun s =>
  let r := slotVal w - slotVal pred
  let res := residualWord ((if slotE w < slotE pred then slotE pred else slotE w) + 1) r
  let thr := slotVal (s.cur (F.FPM_CH_THR_THR c))
  let past := decide (thr < r) || decide (r < -thr)
  let cnt := if past then min 255 (s.get (F.FPM_CH_HOLD_COUNT c) + 1) else 0
  let n := s.cur (F.FPM_CH_CFG_N c)
  let raise := past && decide (n ≤ cnt) && !(fpmOf s c).raised
  .set (F.FPM_CH_RES_RES c) res ::
    (if thr = 0 then []
     else thenDo [.set (F.FPM_CH_HOLD_COUNT c) cnt,
         updFpmCh c fun q => { q with raised := past && (q.raised || raise) }]
       (onlyIf (fun _ => raise) (fpmEvent c)) (applyAll s [.set (F.FPM_CH_RES_RES c) res]))

/-- The source of a channel is written (R171 to R174). -/
def fpmSource (c w : Nat) (late : Bool) : Prog := fun s =>
  let q := fpmOf s c
  if !fpmActive s c then
    effIf (q.waits.isSome || q.seen) [updFpmCh c fun q => { q with waits := none, seen := false }]
  else match q.waits with
    | none =>
      if q.seen then [.sticky F.FPM_STICKY_NO_PRED] else [updFpmCh c fun q => { q with seen := true }]
    | some p =>
      thenDo [updFpmCh c fun q => { q with waits := none, seen := true }]
        (if late then fun _ => [.inc F.FPM_CNT_SKIP_N 1, .sticky F.FPM_STICKY_LATE_SKIP]
         else fpmCompare c w p) s

/-- An input slot is written; the channels whose source it is compare (R125, R171). -/
def writeSlot (n w : Nat) (late : Bool) : Prog := fun s =>
  let cs := (List.range 64).filter fun c => s.cur (F.FPM_CH_CFG_N c) != 0 && s.cur (F.FPM_CH_CFG_SRC c) == n
  if cs.isEmpty then [.set (F.KE0_ISLOT_VAL n) w]
  else thenDo [.set (F.KE0_ISLOT_VAL n) w]
    (inOrder (cs.map (fun c => fpmSource c w late) ++ [fpmStatus])) s

/-- Write input slots in order. -/
def writeSlots (l : List (Nat × Nat)) : Prog := inOrder (l.map fun p => writeSlot p.1 p.2 false)

/-- Predictions are discarded and COUNT is 0 on every channel (R175); a channel that stays active is past the first write
of its source (R173). -/
def fpmDiscard : Prog := fun s => thenDo
  ((List.range 64).map (fun c => .set (F.FPM_CH_HOLD_COUNT c) 0)
    ++ [updFpm fun m => { m with ch := m.ch.mapIdx fun c q =>
          { q with fresh := none, waits := none, seen := q.seen && fpmActive s c, raised := false } }])
  fpmStatus s

/-- A disabled monitor: the next write of a source is the first after its channel becomes active (R173). -/
def fpmOff : Prog := fun _ => [updFpm fun m => { m with ch := m.ch.map fun q => { q with seen := false } }]

/-- A flag slot: 1.0 is m = 0.5, e = 1 (R170). -/
def flagSlot (b : Bool) : Nat := if b then slotOf 1 1 else 0

/-- The summaries in ISLOT 0xF7 to 0xF9 (R170). -/
def fpmSlots : Prog := fun s =>
  writeSlots
    [(0xF7, intSlot ((List.range 64).filter (fpmReached s)).length),
     (0xF8, intSlot ((List.range 64).filter fun c => s.get (F.FPM_CH_HOLD_COUNT c) != 0).length),
     (0xF9, flagSlot (s.b.fpm.ch.any fun q => !q.hold.isEmpty))] s

/-- The OSLOTs held by an FPM action (R176). -/
def fpmHolds (s : State) (n : Nat) : Bool :=
  s.b.fpm.ch.any fun q => q.hold.any fun h => h.1 ≤ n && n < h.1 + h.2

/-- The run of class 0 has ended: its predictions wait for their comparison (R171, R153). -/
def fpmRunEnd : List Eff :=
  [updFpm fun m => { m with ch := m.ch.map fun q =>
      { q with waits := if q.fresh.isSome then q.fresh else q.waits, fresh := none } }]

/-- Bit `k` of the SATFLAGS and of the FPM_SAT_MASK words, as one 64-bit set. -/
def satFlags (s : State) : Nat := s.get F.KE0_SATFLAGS0_STAGE + 2 ^ 32 * s.get F.KE0_SATFLAGS1_STAGE
def satMask (s : State) : Nat := s.get F.FPM_SAT_MASK0_STAGE + 2 ^ 32 * s.get F.FPM_SAT_MASK1_STAGE

/-- Masked stages that saturated in the run act at its END, once until their flags are cleared: SAT_EVENT and a record
whatever ACT is; 1 to 4 set EVENT as a channel's event does, 3 and 4 assert the trip line, 5 to 7 act as 0 (R180, R176). -/
def fpmSatEvent (sat : Nat) : Prog := fun s =>
  let act := s.get F.FPM_SAT_ACT_ACT
  let line := s.get F.FPM_SAT_ACT_TRIP
  let new := (List.range 64).filter fun k =>
    sat.testBit k && (satMask s).testBit k && !s.b.fpm.satDone.testBit k
  let na := act == 4 && !s.on F.BUT_CTRL_ENABLE
  if new.isEmpty then []
  else inOrder
    [ fun _ => [.sticky F.FPM_STICKY_SAT_EVENT] ++ new.map (fun k => .led 0x4022 0 [k, act])
        ++ [updFpm fun m => { m with satDone := new.foldl withBit m.satDone }]
        ++ effIf (1 ≤ act && act ≤ 4) [.sticky F.FPM_STICKY_EVENT]
        ++ effIf (act == 3 || act == 4) [updFpm fun m => { m with satLines := m.satLines.filter (· != line) ++ [line] }]
        ++ effIf (act == 4 && !na) [updFpm fun m => { m with satTake := true }]
        ++ effIf na [.sticky F.FPM_STICKY_TAKEOVER_NA, .led 0x4023 0 [0xFF, 0]],
      fpmLines, fpmStatus ] s

/-- Cleared SATFLAGS bits may act again (R180). -/
def satCleared : Prog := fun s => [updFpm fun m => { m with satDone := m.satDone &&& satFlags s }]

/-- Release one channel: refused while its COUNT is not 0, else recorded (R179, R183). -/
def fpmRelease1 (c : Nat) : Prog := fun s =>
  if s.get (F.FPM_CH_HOLD_COUNT c) != 0 then [.sticky F.FPM_STICKY_REL_REJECT]
  else [updFpmCh c fun q => { q with hold := [], trips := [], take := false }, .led 0x4021 0 [c, 0]]

/-- FPM_RELEASE: a write of FPM_REL0 or FPM_REL1 (R179). -/
def fpmRelease (k mask : Nat) : Prog := inOrder
  [ inOrder (((List.range 32).filter fun b => mask.testBit b).map fun b => fpmRelease1 (32 * k + b)),
    fpmLines, fpmStatus ]

/-- FPM_CMD.SAT_REL (R180). -/
def satRel : Prog := fun s =>
  if satFlags s &&& satMask s != 0 then [.sticky F.FPM_STICKY_REL_REJECT]
  else inOrder [fun _ => [updFpm fun m => { m with satLines := [], satTake := false }], fpmLines, fpmStatus] s

/-- A channel's settings are refused (R181). -/
def fpmRefused (s : State) (c : Nat) : Bool :=
  5 ≤ s.get (F.FPM_CH_CFG_ACT c) || 0x80 < s.get (F.FPM_CH_HOLD_HOLD_BASE c) + s.get (F.FPM_CH_HOLD_HOLD_CNT c)
    || decide (slotM (s.get (F.FPM_CH_THR_THR c)) < 0)

/-- FPM_COMMIT bit 0 (R181). -/
def fpmCommit : Prog := noted (.page 0x21000 0) fun s =>
  match (List.range 64).find? (fpmRefused s) with
  | some c => [.sticky F.FPM_STICKY_CFG_REJECT, .led 0x4024 0 [c, 0]]
  | none => takeGroup .fpm 0x21200 0x21600

/-- The settings in force and in the pending set differ on some channel (R175). -/
def fpmChanges (s : State) : Bool :=
  (List.range 64).any fun c =>
    [F.FPM_CH_CFG_N c, F.FPM_CH_CFG_SRC c, F.FPM_CH_CFG_ACT c, F.FPM_CH_CFG_TRIP c, F.FPM_CH_THR_THR c,
     F.FPM_CH_HOLD_HOLD_CNT c, F.FPM_CH_HOLD_HOLD_BASE c].any fun f => s.cur f != s.pend f

/-- The channel group comes into force at a sample instant (R181). -/
def fpmAdopt : Prog := fun s =>
  if groupDue s .fpm then
    thenDo (adoptGroup .fpm 0x21200 0x21600) (if fpmChanges s then fpmDiscard else fpmStatus) s
  else []

def execFpmRelease (k : Fin 2) (mask : Word) (s : State) : Result := run (onMain (fpmRelease k mask.toNat)) s
def execSatRel (s : State) : Result := run (onMain satRel) s
def execFpmCommit (s : State) : Result := run (onMain fpmCommit) s

end Sys2Proof.Machine
end

