-- ==== Sys2Proof/Machine/Lanes.lean ====
section
/-! DEFINITION. The serial lanes: bring-up, loss, test loops, PRBS and raw words (R98 to R117). -/

namespace Sys2Proof.Machine

/-- The lane stands in stage `k`. -/
def inStage (s : State) (n k : Nat) : Bool := s.get (F.LNK_STATUS_STAGE n) == k

/-- Go on from stage `k` to the next one that applies. -/
def nextStage (n k : Nat) : Prog := fun s => toStage n (landing s n (k + 1))

/-- Fields of LNK_CTRL from a word; BOND stays 0 except on L2 and L6 (R102). -/
def lnkCtrlSet (n v : Nat) : List Eff :=
  [.set (F.LNK_CTRL_RETRY_LIM n) (bitsOf v 15 12), .set (F.LNK_CTRL_RX_INV n) (bitsOf v 8 8),
   .set (F.LNK_CTRL_TX_INV n) (bitsOf v 7 7), .set (F.LNK_CTRL_POL_AUTO n) (bitsOf v 6 6),
   .set (F.LNK_CTRL_AUTO_ALIGN n) (bitsOf v 4 4), .set (F.LNK_CTRL_MODE n) (bitsOf v 3 3),
   .set (F.LNK_CTRL_RATE n) (bitsOf v 2 1), .set (F.LNK_CTRL_ENABLE n) (bitsOf v 0 0)]
  ++ effIf (n = 2 ∨ n = 6) [.set (F.LNK_CTRL_BOND n) (bitsOf v 5 5)]

/-- The settings whose change restarts bring-up (R110). -/
def restartKey (s : State) (n : Nat) : List Nat :=
  [s.get (F.LNK_CTRL_RATE n), s.get (F.LNK_CTRL_MODE n), s.get (F.LNK_CTRL_BOND n),
   s.get (F.LNK_CTRL_RX_INV n), s.get (F.LNK_CTRL_TX_INV n)]

/-- The lane serves an enabled role (R113). -/
def serves (s : State) (n : Nat) : Bool := !(rolesOf s n).isEmpty

/-- The upper lane of a bonded group: its own page governs nothing (R102). -/
def upperBonded (s : State) (n : Nat) : Bool := govLane s n != n

/-- The other lane of a bonded group follows the lower one. -/
def withUpper (n : Nat) (p : Nat → Prog) : Prog := fun s =>
  if (n = 2 ∨ n = 6) ∧ s.on (F.LNK_CTRL_BOND n) = true then (p n).andThen (p (n + 1)) s else p n s

/-- LNK_CTRL_WRITE (R102, R110, R113): with BOND the page that governs the upper lane changes, which restarts it. -/
def lnkCtrlWrite (n v : Nat) : Prog := fun s =>
  if upperBonded s n then []
  else if v.testBit 3 && serves s n then [.sticky (F.LNK_STICKY_TEST_REJECT n)]
  else inOrder
    [ fun _ => lnkCtrlSet n v,
      fun s' =>
        let bond := s.on (F.LNK_CTRL_BOND n) != s'.on (F.LNK_CTRL_BOND n)
        let again := s.on (F.LNK_CTRL_ENABLE n) != s'.on (F.LNK_CTRL_ENABLE n)
          || (s.on (F.LNK_CTRL_ENABLE n) && restartKey s n != restartKey s' n)
        if bond then (onlyIf (fun _ => again) (laneRestart n)).andThen (laneRestart (n + 1)) s'
        else if again then withUpper n laneRestart s' else [],
      rolesUpdate, guarUpdate ] s

/-- SIGNAL_DETECT: stage 2 completes (R104). -/
def signalDetect (n : Nat) : Prog := fun s =>
  if inStage s n 2 && s.on (F.LNK_CTRL_ENABLE (govLane s n)) then
    .set (F.LNK_STATUS_SIG_DET n) 1 :: toStage n 3
  else []

/-- BIT_LOCK: stage 3 completes; the recovery shows its phase and frequency (R104, R116). -/
def bitLock (n phase freq : Nat) : Prog := fun s =>
  if inStage s n 3 then
    [.set (F.LNK_STATUS_BIT_LOCK n) 1, .set (F.LNK_CDR_PHASE n) phase, .set (F.LNK_CDR_FREQ n) freq]
      ++ nextStage n 3 s
  else []

/-- BLOCK_LOCK: stage 4 completes (R104). -/
def blockLock (n : Nat) : Prog := fun s =>
  if inStage s n 4 then
    .set (F.LNK_STATUS_BLOCK_LOCK n) 1 :: nextStage n 4 s
  else []

/-- POLARITY: 64 control headers, or 64 inverted ones (R104, R105). A second run of inverted headers inverts the data
again, so POL_INV, which shows the inversion applied, is toggled (DESIGN CHOICE, log entry 56). -/
def polarity (n : Nat) (inverted : Bool) : Prog := fun s =>
  if !inStage s n 5 then []
  else if !inverted then nextStage n 5 s
  else if s.on (F.LNK_CTRL_POL_AUTO (govLane s n)) then
    [.set (F.LNK_STATUS_POL_INV n) (1 - s.get (F.LNK_STATUS_POL_INV n)), .sticky (F.LNK_STICKY_POL_CORRECTED n),
     .led 0x2004 n [n, 0]]
  else []

/-- LANE_REVERSAL of the group whose lower lane is `n`: positions resolved and skew removed (R106). -/
def laneReversal (n : Nat) (swapped : Bool) (partnerLane skew : Nat) : Prog := fun s =>
  if !(bonded s n && govLane s n == n && inStage s n 6 && inStage s (n + 1) 6) || nearLoop s n then []
  else
    effIf swapped [.set (F.LNK_STATUS_REVERSED n) 1, .sticky (F.LNK_STICKY_REVERSAL_CORRECTED n),
                   .led 0x2005 n [n, partnerLane]]
    ++ (if 1056 < skew then [.sticky (F.LNK_STICKY_DESKEW_FAIL n), .led 0x2007 n [n, skew]]
        else .set (F.LNK_SKEW_BITS n) skew :: toStage n 7 ++ toStage (n + 1) 7)

/-- The partner's receive correction arrives and is stored (R107). -/
def storeCorr (n corr : Nat) : List Eff :=
  [.set (F.RDG_LANE_CAL_RXCORR n) corr, .set (F.RDG_LANE_CAL_DONE n) 1,
   updLane n fun l => { l with gotCorr := true }]

/-- The address that TRAIN blocks carry (R103). -/
def trainAddr (s : State) : Nat := if s.on F.RDG_CTRL_ENABLE then s.get F.RDG_ADDR_ADDR else 0xFFF

/-- The TRAIN block that a lane sends (R103). -/
def trainBlock (s : State) (n : Nat) : LineOut :=
  let l := laneOf s n
  .control 0xD2 ((s.get (F.LNK_STATUS_STAGE n) - 1) * 2 ^ 53 + bit l.loopReq * 2 ^ 52 + bit (upperBonded s n) * 2 ^ 51
    + n * 2 ^ 48 + trainAddr s % 2 ^ 12 * 2 ^ 36 + bit l.corrOut.isSome * 2 ^ 35 + l.corrOut.getD 0 % 2 ^ 16 * 2 ^ 19)

/-- This end measures now: the lower address first, then the other end once the first turn's result is stored (R107). -/
def ownTurn (s : State) (n : Nat) : Bool :=
  let l := laneOf s n
  !l.sentCorr && (s.get F.RDG_ADDR_ADDR < l.pAddr || l.gotCorr)

/-- The partner's receive-path correction error in 6.25 ps steps: the mean round trip of the exchanges less the loop round
trip `rt`, rounded (R107; its sign and rounding a DESIGN CHOICE, log entry 56). -/
def corrOf (l : Lane) (rt : Nat) : Int := roundDiv (5 * l.exSum - (l.exN * rt * tuStep : Nat)) (l.exN * tuStep)

/-- DELAY_MEASUREMENT: a turn completes; this end has measured, its 64 exchanges are done and it sends CORR, or in the
partner's turn it stores the partner's, `corr` (R107). `rt` is the loop round trip it measured, in 6.25 ps steps. -/
def delayMeasurement (n : Nat) (measured : Bool) (corr rt : Nat) : Prog := fun s =>
  let l := laneOf s n
  if !(inStage s n 7 && ringLane s n) then []
  else if measured then
    effIf (ownTurn s n && 64 ≤ l.exN)
      [updLane n fun l => { l with sentCorr := true, corrOut := some (fieldOf s 16 (corrOf l rt)), loopRt := rt, exRun := false },
       spend 1]
  else if l.sentCorr || l.pAddr < s.get F.RDG_ADDR_ADDR then thenDo (storeCorr n corr) guarUpdate s
  else []

/-- Stage 7 is complete; of a bonded group the lane that carries position 0 measures (R102, R104, R107). -/
def stage7Done (s : State) (n : Nat) : Bool :=
  !ringLane s n || upperBonded s n || ((laneOf s n).sentCorr && (laneOf s n).gotCorr)

/-- The mirror lane becomes ready: the sets that readiness asks for are those received from now on (R387). -/
def mirrorUp : Prog :=
  thenDo [updBut fun b => { b with got := 0, asms := [none, none, none] }] butShow

/-- LANE_READY: the partner has reported stage 6 or higher (R104). -/
def laneReady (n : Nat) : Prog := fun s =>
  let l := laneOf s n
  if !(inStage s n 7 && stage7Done s n && l.partner) then []
  else inOrder
    [ fun _ => toStage n 8 ++ [.set (F.LNK_STATUS_READY n) 1, .set (F.LNK_STATUS_RETRIES n) 0,
                .led 0x2001 n [n, cycUs (s.b.cyc - l.bringAt)]],
      onlyIf (fun _ => n == 4) mirrorUp, guarUpdate ] s

/-- The far-end loop of a partner's LOOP_REQ: of a ring or branch lane that has passed stage 5 and is not ready (R107,
R112). -/
def loopRequest (n : Nat) (req : Bool) : Prog := fun s =>
  [.set (F.LNK_STATUS_LOOP_REMOTE n) (bit (req && ringLane s n && govLane s n == n && (inStage s n 6 || inStage s n 7)))]

/-- The own turn of the delay measurement begins: LOOP_REQ is set once the partner reports STAGE at least 5 (R107). -/
def turnStart (n : Nat) : Prog := fun s =>
  let l := laneOf s n
  effIf (inStage s n 7 && ringLane s n && govLane s n == n && 5 ≤ l.pStage && ownTurn s n && !l.exRun
      && l.loopLeft == 0 && l.exN == 0)
    [updLane n fun l => { l with loopReq := true }]

/-- One cycle of a turn: the loop's blocks are counted, LOOP_REQ clears after 256 of them, and once the partner has left
the loop the exchanges run, one after the other, up to 64 (R107). `send` sends one DELAY_REQ. -/
def turnTick (n : Nat) (send : Prog) : Prog := fun s =>
  let l := laneOf s n
  if !(inStage s n 7 && ringLane s n && govLane s n == n) then []
  else if l.loopLeft != 0 then
    [updLane n fun l => { l with loopLeft := l.loopLeft - 1, loopReq := l.loopReq && 65 < l.loopLeft,
                                 exRun := l.loopLeft == 1 }]
  else if l.exRun && l.exAt.isNone && l.exN < 64 then
    thenDo [updLane n fun l => { l with exAt := some s.b.tim.t }] send s
  else []

/-- TRAIN: a TRAIN block with payload `w` (56 bits) arrives on a lane in block mode (R100, R103, R107, R108). One that
returns through the partner's loop carries the own address, until the partner has left the loop; the first starts the
loop's count: 256 blocks, and 64 in which the partner leaves. -/
def train (n w : Nat) : Prog := fun s =>
  let stage := bitsOf w 55 53
  let l := laneOf s n
  let back := (l.loopReq || l.loopLeft != 0) && bitsOf w 47 36 == trainAddr s
  if s.get (F.LNK_STATUS_STAGE n) < 4 ∨ s.on (F.LNK_CTRL_MODE (govLane s n)) = true then []
  else if s.on (F.LNK_STATUS_READY n) && 6 ≤ stage then [.set (F.LNK_TRAIN_RX_W n) (bitsOf w 55 24)]
  else if back then
    [.set (F.LNK_TRAIN_RX_W n) (bitsOf w 55 24)]
    ++ effIf (l.loopLeft = 0) [updLane n fun l => { l with loopLeft := 320 }]
  else inOrder
    [ fun _ => [.set (F.LNK_TRAIN_RX_W n) (bitsOf w 55 24),
          updLane n (fun l => { l with pStage := stage, pAddr := bitsOf w 47 36 })] ++ loopRequest n (w.testBit 52) s
        ++ effIf (6 ≤ stage) [updLane n fun l => { l with partner := true }]
        ++ effIf (w.testBit 35 && inStage s n 7 && ringLane s n) (storeCorr n (bitsOf w 34 19)),
      turnStart n ] s

/-- Back to stage 2; counted (R108, R109). -/
def backToStage2 (n : Nat) : List Eff := enterStage2 n ++ [.inc (F.LNK_CNT_RETRAIN_N n) 1]

/-- The stage in which a lane stands has a limit that it can still exceed: it is one of the stages 3 to 7 and not yet
complete; alignment by command in stage 4 has none, and stage 8 has none (R104, R109, R111). -/
def stageOpen (s : State) (n : Nat) : Bool :=
  match s.get (F.LNK_STATUS_STAGE n) with
  | 3 => !s.on (F.LNK_STATUS_BIT_LOCK n)
  | 4 => s.on (F.LNK_CTRL_AUTO_ALIGN (govLane s n))
  | 5 => true
  | 6 => !nearLoop s n
  | 7 => !stage7Done s n
  | _ => false

/-- The lane is in a far-end loop, its own or its partner's (R112, R116). -/
def inFarLoop (s : State) (n : Nat) : Bool :=
  s.get (F.LNK_LOOP_MODE (govLane s n)) == 3 || s.on (F.LNK_STATUS_LOOP_REMOTE n)

/-- The limit of a stage in microseconds at a rate: those of stages 3 to 6 scale inversely with it (R104). -/
def stageLimit (k rate : Nat) : Nat :=
  match k with
  | 3 => 50 * 2 ^ rate
  | 4 => 100 * 2 ^ rate
  | 5 | 6 => 20 * 2 ^ rate
  | _ => 500

/-- The lane has stood in its stage for the limit (R104). -/
def stageOver (s : State) (n : Nat) : Bool :=
  decide ((laneOf s n).stageAt + usCyc (stageLimit (s.get (F.LNK_STATUS_STAGE n)) (s.get (F.LNK_CTRL_RATE (govLane s n))))
    ≤ s.b.cyc)

/-- STAGE_TMO: the stage the lane stands in exceeds its limit (R104, R109, R116). -/
def stageTmo (n : Nat) : Prog := fun s =>
  let st := s.get (F.LNK_STATUS_STAGE n)
  let retries := s.get (F.LNK_STATUS_RETRIES n) + 1
  let g := govLane s n
  if !(stageOpen s n && stageOver s n) then []
  else if st = 4 ∧ inFarLoop s n = true then toStage n 3 ++ [.sticky (F.LNK_STICKY_STAGE_TMO n)]
  else
    [.sticky (F.LNK_STICKY_STAGE_TMO n)]
    ++ (if s.get (F.LNK_CTRL_RETRY_LIM g) ≤ retries then
          enterStage2 n ++ toStage n 1 ++ [.sticky (F.LNK_STICKY_RETRY_EXHAUSTED n),
            .led 0x2003 n [n, st], updLane n fun l => { l with exhausted := true }]
        else backToStage2 n)
    ++ [.set (F.LNK_STATUS_RETRIES n) retries]

/-- A ready lane goes down with a cause: 0 signal, 1 block lock, 2 TRAIN received, 3 bit lock (R108, R117). For block lock
at least 16 invalid headers have been counted; how many more, a free value says (log entry 39). Bring-up starts anew. -/
def linkDown (n cause : Nat) : Prog := fun s =>
  if s.on (F.LNK_STATUS_READY n) then
    inOrder [fun _ => [updLane n (stopTx (ringLane s n))] ++ effIf (upperBonded s n) [updLane (govLane s n) (stopTx (ringLane s n))]
               ++ backToStage2 n
               ++ [updLane n (fun l => { l with bringAt := s.b.cyc }),
                   .sticky (F.LNK_STICKY_LINK_DOWN n), .led 0x2002 n [n, cause]]
               ++ effIf (cause == 1) [.inc (F.LNK_CNT_HDR_ERR_N n) (16 + fresh s 0), spend 1],
             onlyIf (fun _ => n == 4) mirrorDown, guarUpdate] s
  else []

/-- CDR_RANGE: the recovery is out of its range and bit lock is lost (R99). -/
def cdrRange (n : Nat) : Prog := fun s =>
  if s.get (F.LNK_STATUS_STAGE n) < 3 then []
  else thenDo [.sticky (F.LNK_STICKY_CDR_RANGE n)]
    (if s.on (F.LNK_STATUS_READY n) then linkDown n 3 else fun _ => backToStage2 n) s

/-- BITSLIP (R111). -/
def bitslip (n : Nat) : Prog := fun s =>
  if s.on (F.LNK_CTRL_MODE (govLane s n)) then [updLane n fun l => { l with slip := (l.slip + 1) % 64 }]
  else if s.on (F.LNK_CTRL_AUTO_ALIGN (govLane s n)) then [.sticky (F.LNK_STICKY_SLIP_IGNORED n)]
  else [updLane n fun l => { l with slip := (l.slip + 1) % 66 }]

/-- RETRAIN: RETRIES clear, and the lane, or the group it governs, restarts from stage 1 (R109). -/
def retrain (n : Nat) : Prog := inOrder
  [ withUpper n fun k _ => [.set (F.LNK_STATUS_RETRIES k) 0, updLane k fun l => { l with exhausted := false }],
    withUpper n laneRestart, guarUpdate ]

/-- PRBS_ERR_INJECT: one transmitted generator bit is inverted (R115). -/
def prbsInject (n : Nat) : Prog := fun s =>
  effIf (s.get (F.LNK_PRBS_CTRL_GEN n) != 0) [updLane n fun l => { l with inject := l.inject + 1 }]

/-- PRBS_CNT_CLR: both counters clear and count again; BITS_HI and ERR as latched hold until BITS_LO is read (R115). -/
def prbsCntClr (n : Nat) : Prog := fun _ =>
  [.upd fun b => { b with lanes := modAt b.lanes n (fun l => { l with bits := 0, errs := 0, clrAt := some b.cyc }) {} },
   .set (F.LNK_PRBS_STATUS_SAT n) 0, .set (F.LNK_PRBS_BITS_LO_N n) 0]

/-- LNK_LOOP_WRITE (R112, R113). -/
def lnkLoopWrite (n v : Nat) : Prog := fun s =>
  if upperBonded s n then []
  else if bitsOf v 1 0 ≠ 0 ∧ serves s n = true then [.sticky (F.LNK_STICKY_TEST_REJECT n)]
  else
    let restart := bitsOf v 1 0 != s.get (F.LNK_LOOP_MODE n)
      && !(bitsOf v 1 0 == 3 && s.get (F.LNK_LOOP_MODE n) == 0)
      && !(bitsOf v 1 0 == 0 && s.get (F.LNK_LOOP_MODE n) == 3)
    inOrder
      [ fun _ => [.set (F.LNK_LOOP_MODE n) (bitsOf v 1 0), .set (F.LNK_LOOP_TX_QUIET n) (bitsOf v 2 2)],
        onlyIf (fun _ => restart) (withUpper n laneRestart) ] s

/-- LNK_PRBS_CTRL_WRITE (R113, R114, R116). A pattern selected starts with its register all ones, a change of CHK clears
LOCK at once, and the bring-up time of a lane that a test interrupts counts from the test's end (DESIGN CHOICE, log
entry 56). -/
def lnkPrbsWrite (n v : Nat) : Prog := fun s =>
  if bitsOf v 1 0 ≠ 0 ∧ serves s n = true then [.sticky (F.LNK_STICKY_TEST_REJECT n)]
  else inOrder
    [ fun _ => [.set (F.LNK_PRBS_CTRL_GEN n) (bitsOf v 1 0), .set (F.LNK_PRBS_CTRL_CHK n) (bitsOf v 5 4)]
        ++ effIf (bitsOf v 1 0 != s.get (F.LNK_PRBS_CTRL_GEN n))
            [updLane n fun l => { l with genReg := 2 ^ (prbsTaps (bitsOf v 1 0)).1 - 1 }]
        ++ effIf (bitsOf v 5 4 != s.get (F.LNK_PRBS_CTRL_CHK n)) [.set (F.LNK_PRBS_STATUS_LOCK n) 0],
      fun s' =>
        if prbsOn s' n && 4 ≤ s'.get (F.LNK_STATUS_STAGE n) then
          effIf (n == 4 && s'.on (F.LNK_STATUS_READY n)) (mirrorDown s')
          ++ toStage n 3
          ++ [.set (F.LNK_STATUS_READY n) 0, .set (F.LNK_STATUS_BLOCK_LOCK n) 0,
              updLane n fun l => stopTx (ringLane s' n) (resetMeasure l)]
          ++ effIf (upperBonded s' n) [updLane (govLane s' n) (stopTx (ringLane s' n))]
        else if !prbsOn s' n && inStage s' n 3 && s'.on (F.LNK_STATUS_BIT_LOCK n) then
          updLane n (fun l => { l with bringAt := s'.b.cyc }) :: nextStage n 3 s'
        else [],
      guarUpdate ] s

/-- The bits a lane sends in a CLK_FAB cycle: 64 at 10.0 Gb/s (R98). -/
def lineBits (s : State) (n : Nat) : Nat := 64 / 2 ^ s.get (F.LNK_CTRL_RATE (govLane s n))

/-- PRBS_LOCK: 128 bits in a row have matched, on a lane whose receiver holds bit lock. In a near-end loop the checker can
match its own generator's pattern alone, and takes over its register; what an external line brings, a free value says
(R114, log entry 17). -/
def prbsLock (n : Nat) : Prog := fun s =>
  let chk := s.get (F.LNK_PRBS_CTRL_CHK n)
  let near := nearLoop s n
  effIf (chk != 0 && s.on (F.LNK_STATUS_BIT_LOCK n) && (!near || chk == s.get (F.LNK_PRBS_CTRL_GEN n)))
    ([.set (F.LNK_PRBS_STATUS_LOCK n) 1,
      updLane n fun l => { l with wordBits := 0, wordErrs := 0, badWords := 0, chkReg := if near then l.genReg else fresh s 0 % 2 ^ (prbsTaps chk).1 }]
     ++ effIf (!near) [spend 1])

/-- PRBS_RESYNC: four 64-bit words in a row have each held more than 16 errors (R114). -/
def prbsResync (n : Nat) : Prog := fun s =>
  effIf (s.on (F.LNK_PRBS_STATUS_LOCK n) && 4 ≤ (laneOf s n).badWords)
    [.set (F.LNK_PRBS_STATUS_LOCK n) 0, .sticky (F.LNK_STICKY_PRBS_RESYNC n)]

/-- PRBS_SAT: the bit counter, or the error counter, stands at its maximum (R115). -/
def prbsSat (n : Nat) (errors : Bool) : Prog := fun s =>
  let l := laneOf s n
  let full := if errors then l.errs == 2 ^ 32 - 1 else l.bits == 2 ^ 48 - 1
  effIf (s.on (F.LNK_PRBS_STATUS_LOCK n) && full)
    [.set (F.LNK_PRBS_STATUS_SAT n) 1, .sticky (F.LNK_STICKY_PRBS_SAT n)]

/-- PRBS_BITS_READ: a read of BITS_LO latches BITS_HI and ERR (R115). -/
def prbsBitsRead (n : Nat) : Prog := fun s =>
  let l := laneOf s n
  [.set (F.LNK_PRBS_BITS_LO_N n) l.bits, .set (F.LNK_PRBS_BITS_HI_N n) (l.bits / 2 ^ 32),
   .set (F.LNK_PRBS_ERR_N n) l.errs]

/-- RAW_RX_READ: a read of RAW_RX_LO latches RAW_RX_HI; `w` is the receiver's most recent word (R100). -/
def rawRxRead (n w : Nat) : Prog := fun _ =>
  [.set (F.LNK_RAW_RX_LO_W n) w, .set (F.LNK_RAW_RX_HI_W n) (w / 2 ^ 32)]

/-- The generator's bits of one CLK_FAB cycle, the inverted ones lowest, and its register after them (R114, R115). -/
def prbsSent (s : State) (n : Nat) : Nat × Nat :=
  let l := laneOf s n
  let g := prbsRun (s.get (F.LNK_PRBS_CTRL_GEN n)) (lineBits s n) l.genReg
  (g.1, g.2 ^^^ (2 ^ min l.inject (lineBits s n) - 1))

/-- The checker has compared `w` bits and found `bad` errors; whole 64-bit words with more than 16 are counted while they
come in a row (R114). -/
def compareBits (w bad reg : Nat) (l : Lane) : Lane :=
  if l.wordBits + w < 64 then { l with chkReg := reg, wordBits := l.wordBits + w, wordErrs := l.wordErrs + bad }
  else { l with chkReg := reg, wordBits := 0, wordErrs := 0, badWords := if 16 < l.wordErrs + bad then l.badWords + 1 else 0 }

/-- The generator and the checker of a lane over one CLK_FAB cycle. A locked checker compares each bit with its own
sequence: in a near-end loop what the generator sends, else what the line brings, which is free. When a counter reaches
its maximum both stop; in the cycle of a PRBS_CNT_CLR nothing is counted (R114, R115; idle tick, log entry 1). -/
def prbsTick (n : Nat) : Prog := fun s =>
  let l := laneOf s n
  let w := lineBits s n
  let gen := s.get (F.LNK_PRBS_CTRL_GEN n) != 0
  let sent := prbsSent s n
  let locked := s.on (F.LNK_PRBS_STATUS_LOCK n)
  let live := !s.on (F.LNK_PRBS_STATUS_SAT n) && l.clrAt != some (s.b.cyc - 1)
  let near := nearLoop s n
  let want := prbsRun (s.get (F.LNK_PRBS_CTRL_CHK n)) w l.chkReg
  let got := if near then sent.2 else fresh s 0 % 2 ^ w
  let bad := onesIn w (want.2 ^^^ got)
  let bits := min (l.bits + w) (2 ^ 48 - 1)
  let errs := min (l.errs + bad) (2 ^ 32 - 1)
  effIf locked ([updLane n (compareBits w bad want.1)] ++ effIf (!near) [spend 1])
  ++ effIf (locked && live)
    ([updLane n fun l => { l with bits := bits, errs := errs }]
      ++ effIf (bits == 2 ^ 48 - 1 || errs == 2 ^ 32 - 1)
          [.set (F.LNK_PRBS_STATUS_SAT n) 1, .sticky (F.LNK_STICKY_PRBS_SAT n)])
  ++ effIf gen [updLane n fun l => { l with genReg := sent.1, inject := l.inject - w }]

/-! ### What a lane sends (R67, R72, R100, R103, R112) -/

/-- The next frame block of a frame in progress, and what is left of it. -/
def nextOf (f : Frame) (k : Nat) : LineOut × Option (Frame × Nat) :=
  (frameBlock f k, if f.data.length < k then none else some (f, k + 1))

/-- The first item that passes a test leaves the list. -/
def takeTx (t : TxItem → Bool) (q : List TxItem) : Option (TxItem × List TxItem) :=
  (q.find? t).map fun i => (i, q.eraseP t)

/-- A keep-alive. -/
def isKeepalive : TxItem → Bool
  | .keepalive _ => true
  | _ => false

/-- A T frame. -/
def isTFrame : TxItem → Bool
  | .frame f => f.cls == 1
  | _ => false

/-- An item starts to leave. -/
def startItem (l : Lane) (i : TxItem) : LineOut × Lane :=
  match i with
  | .keepalive k => (keepaliveBlock k, l)
  | .echo p => (.control 0xB4 (p % 2 ^ 56), l)
  | .frame f =>
    if f.cls = 0 then ((nextOf f 0).1, { l with curS := (nextOf f 0).2 })
    else ((nextOf f 0).1, { l with cur := (nextOf f 0).2 })

/-- The next block of a ready lane: the blocks of an S frame before all others, a keep-alive between any two blocks, then
the frame in progress, then what waits, and IDLE when nothing does (R68, R72). -/
def nextBlock (l : Lane) : LineOut × Lane :=
  match l.curS with
  | some (f, k) => ((nextOf f k).1, { l with curS := (nextOf f k).2 })
  | none =>
    match takeTx isSFrame l.tx with
    | some (i, q) => startItem { l with tx := q } i
    | none =>
      match takeTx isKeepalive l.tx with
      | some (i, q) => startItem { l with tx := q } i
      | none =>
        match l.cur, l.tx with
        | some (f, k), _ => ((nextOf f k).1, { l with cur := (nextOf f k).2 })
        | none, i :: q => startItem { l with tx := q } i
        | none, [] => (.control 0x1E 0, l)

/-- The next block of a lane in bring-up: a T frame where it may carry one, else TRAIN, and IDLE while a test pattern is
generated or checked (R103, R107, R116). -/
def nextTrain (s : State) (n : Nat) (l : Lane) : LineOut × Lane :=
  if prbsOn s n then (.control 0x1E 0, l)
  else if !carriesT s n then (trainBlock s n, l)
  else match l.cur, takeTx isTFrame l.tx with
  | some (f, k), _ => ((nextOf f k).1, { l with cur := (nextOf f k).2 })
  | none, some (i, q) => startItem { l with tx := q } i
  | none, none => (trainBlock s n, l)

/-- The lane is in a far-end loop and re-sends what it receives (R112, R116). -/
def farLoop (s : State) (n : Nat) : Bool :=
  3 ≤ s.get (F.LNK_STATUS_STAGE n) && inFarLoop s n

/-- An item of `size` bits leaves when the line has had the time of one at the lane's rate; until then the last one is on
the line (R98). -/
def paced (n size : Nat) (send : List Eff) : Prog := fun s =>
  let bits := (laneOf s n).txBits + lineBits s n
  if bits < size then [updLane n fun l => { l with txBits := bits }]
  else send ++ [updLane n fun l => { l with txBits := bits - size }]

/-- The receiver of a ready lane meets an invalid sync header or not: a free value says, and LNK_CNT_HDR_ERR counts it
(R108, log entry 39). -/
def hdrTick (n : Nat) : Prog := fun s =>
  effIf (s.on (F.LNK_STATUS_READY n) && !s.on (F.LNK_CTRL_MODE (govLane s n)) && !nearLoop s n)
    [.inc (F.LNK_CNT_HDR_ERR_N n) (fresh s 0 % 2), spend 1]

/-- What a lane sends in one cycle, and what it then holds: nothing in stage 1 or when a near-end loop is quiet; received
data in a far-end loop; the generator's bits; the raw pattern; TRAIN until it is ready; then blocks. A ready group's
blocks leave on its two lanes in turn, position 0 first: the lower lane's list feeds both; a ready lane of a group that is
not sends IDLE (R102). Blocks have 66 bits, raw words 64 (R98). -/
def laneOut (n : Nat) : Prog := fun s =>
  let l := laneOf s n
  let g := govLane s n
  let put (o : LineOut) : List Eff := [updLane n fun l => { l with out := o }]
  if s.get (F.LNK_STATUS_STAGE n) = 1 ∨ (nearLoop s n = true ∧ s.on (F.LNK_LOOP_TX_QUIET g) = true) then put .idle
  else if farLoop s n then put .looped
  else if s.get (F.LNK_PRBS_CTRL_GEN n) ≠ 0 then put (.prbs (prbsSent s n).2)
  else if s.on (F.LNK_CTRL_MODE g) then
    paced n 64 (put (.raw (s.get (F.LNK_RAW_TX_LO_PAT n) + 2 ^ 32 * s.get (F.LNK_RAW_TX_HI_PAT n)))) s
  else if !s.on (F.LNK_STATUS_READY n) then
    let q := nextTrain s n l
    paced n 66 [updLane n fun _ => { q.2 with out := q.1 }] s
  else if bonded s n then
    if !groupReady s g then paced n 66 (put (.control 0x1E 0)) s
    else if g = n then
      let a := nextBlock l
      let b := nextBlock a.2
      paced n 66 [updLane n (fun _ => { b.2 with out := a.1 }), updLane (n + 1) fun l => { l with out := b.1 }] s
    else []
  else
    let q := nextBlock l
    paced n 66 [updLane n fun _ => { q.2 with out := q.1 }] s

def execLnkCtrlWrite (n : Fin 8) (v : Word) (s : State) : Result := run (onMain (lnkCtrlWrite n v.toNat)) s
def execSignalDetect (n : Fin 8) (s : State) : Result := run (onMain (signalDetect n)) s
def execBitLock (n : Fin 8) (phase : BitVec 8) (freq : BitVec 16) (s : State) : Result :=
  run (onMain (bitLock n phase.toNat freq.toNat)) s
def execBlockLock (n : Fin 8) (s : State) : Result := run (onMain (blockLock n)) s
def execPolarity (n : Fin 8) (inverted : Bool) (s : State) : Result := run (onMain (polarity n inverted)) s
def execLaneReversal (n : Fin 8) (swapped : Bool) (partnerLane : Fin 8) (skew : Nat) (s : State) : Result :=
  run (onMain (laneReversal n swapped partnerLane skew)) s
def execDelayMeasurement (n : Fin 8) (measured : Bool) (corr : BitVec 16) (rt : Nat) (s : State) : Result :=
  run (onMain (delayMeasurement n measured corr.toNat rt)) s
def execLaneReady (n : Fin 8) (s : State) : Result := run (onMain (laneReady n)) s
def execTrain (n : Fin 8) (w : BitVec 56) (s : State) : Result := run (onMain (train n w.toNat)) s
def execStageTmo (n : Fin 8) (s : State) : Result := run (onMain (stageTmo n)) s
def execLinkDown (n : Fin 8) (cause : Fin 4) (s : State) : Result := run (onMain (linkDown n cause)) s
def execCdrRange (n : Fin 8) (s : State) : Result := run (onMain (cdrRange n)) s
def execBitslip (n : Fin 8) (s : State) : Result := run (onMain (bitslip n)) s
def execRetrain (n : Fin 8) (s : State) : Result := run (onMain (retrain n)) s
def execPrbsErrInject (n : Fin 8) (s : State) : Result := run (onMain (prbsInject n)) s
def execPrbsCntClr (n : Fin 8) (s : State) : Result := run (onMain (prbsCntClr n)) s
def execLnkLoopWrite (n : Fin 8) (v : Word) (s : State) : Result := run (onMain (lnkLoopWrite n v.toNat)) s
def execLnkPrbsCtrlWrite (n : Fin 8) (v : Word) (s : State) : Result := run (onMain (lnkPrbsWrite n v.toNat)) s
def execPrbsLock (n : Fin 8) (s : State) : Result := run (onMain (prbsLock n)) s
def execPrbsResync (n : Fin 8) (s : State) : Result := run (onMain (prbsResync n)) s
def execPrbsSat (n : Fin 8) (errors : Bool) (s : State) : Result := run (onMain (prbsSat n errors)) s
def execPrbsBitsRead (n : Fin 8) (s : State) : Result := run (onMain (prbsBitsRead n)) s
def execRawRxRead (n : Fin 8) (w : BitVec 64) (s : State) : Result := run (onMain (rawRxRead n w.toNat)) s
def execFrameForward (lane : Fin 8) (f : Frame) (s : State) : Result := run (onMain (frameForward lane f)) s
def execKeepaliveSend (s : State) : Result := run (onMain keepaliveSend) s

end Sys2Proof.Machine
end

