-- ==== Sys2Proof/Machine/Timebase.lean ====
section
/-! DEFINITION. The local timebase: PPS_IN, time of day, VALID, PPS_OUT and reading time (R39, R51 to R60). -/

namespace Sys2Proof.Machine

/-- The nearest second to a timebase value. -/
def nearestSec (t : Nat) : Nat := (t + tuSec / 2) / tuSec

/-- A timebase value minus the local second boundary nearest to it, in 100 ps units, rounded to the nearest unit, half
away from zero; the 20 ns test of R56 is made on the rounded value (DESIGN CHOICE, log entry 53). -/
def boundaryErr (t : Nat) : Int := roundDiv ((t : Int) - (nearestSec t * tuSec : Nat)) tu100ps

/-- The cycle's timebase value with which an edge `phase` × 100 ps into it is nanosecond 0 of second `sec`; for second 0
the cycle starts before time 0. -/
def alignTo (sec phase : Nat) : Eff :=
  .upd fun b => { b with tim := { b.tim with t := sec * tuSec - phase * tu100ps, lag := phase * tu100ps - sec * tuSec } }

/-- The dividers are re-synchronised: before permission, at the first edge or boundary after lock (R39). -/
def dividerSync : Prog := fun s =>
  effIf (s.b.plumb.everLocked && s.b.plumb.mode != .search && !s.on F.SYS_STATUS_PERMIT
      && !s.on F.SYS_STATUS_DIV_SYNC)
    [.set F.SYS_STATUS_DIV_SYNC 1]

/-- A PPS_IN edge on the grandmaster: time of day (R54), alignment (R56) and TIM_PPS_ERR. `settled`: the edge
arrives at least 10 µs after the commit that armed a time of day. -/
def ppsOnGm (phase : Nat) (settled : Bool) : Prog := fun s =>
  let te := s.b.tim.t + phase * tu100ps
  let err := boundaryErr te
  let sec := nearestSec te
  let bad := if err < -200 ∨ 200 < err then s.b.tim.ppsBad + 1 else 0
  let shown : List Eff := [.set F.TIM_PPS_ERR_ERR (fieldOf s 32 err), spend 1]
  if s.b.tim.armed.isSome && settled then
    let sod := s.b.tim.armed.getD 0
    inOrder
      [ fun _ => [.set F.TIM_PPS_ERR_ERR 0, alignTo sod phase, .set F.TIM_STATUS_TOD_ARMED 0,
          .upd (fun b => { b with
            tim := { b.tim with
              armed := none, ppsBad := 0,
              validNext := !s.on F.CLK_STATUS_LOCK && !s.on F.TIM_STATUS_VALID } }),
          .led 0x0812 0 [sod, sod / 2 ^ 32]],
        onlyIf (fun s' => s'.on F.CLK_STATUS_LOCK) (validSet sod) ] s
  else if s.b.tim.validNext && s.on F.CLK_STATUS_LOCK then
    inOrder
      [ fun _ => shown ++ [alignTo sec phase,
          .upd (fun b => { b with tim := { b.tim with ppsBad := 0, validNext := false } })],
        validSet sec ] s
  else if bad = 3 then
    shown ++ [alignTo sec phase, .sticky F.TIM_STICKY_PPS_STEP,
      .upd (fun b => { b with tim := { b.tim with ppsBad := 0 } }),
      .led 0x0813 0 [fieldOf s 32 err, sec]]
  else shown ++ [.upd (fun b => { b with tim := { b.tim with ppsBad := bad } })]

/-- PPS_IN_EDGE at `phase` × 100 ps into the cycle; ignored until the timebase counts (R53). -/
def ppsInEdge (phase : Nat) (settled : Bool) : Prog := fun s =>
  if !s.b.tim.counting then []
  else inOrder
    [ fun _ => [.set F.TIM_STATUS_PPS_IN_PRESENT 1],
      onlyIf (fun s' => s'.on F.TIM_STATUS_GM) (ppsOnGm phase settled),
      dividerSync, guarUpdate ] s

/-- PPS_MISSING: 1.1 s without an edge (R53). -/
def ppsMissing : Prog := fun s =>
  if s.on F.TIM_STATUS_PPS_IN_PRESENT then
    inOrder [fun _ => [.set F.TIM_STATUS_PPS_IN_PRESENT 0, .sticky F.TIM_STICKY_PPS_MISSING], guarUpdate] s
  else []

/-- The width that TIM_CTRL.PPS_W selects, in milliseconds. -/
def ppsWidthMs (w : Nat) : Nat := [1, 100, 200, 500].getD w 0

/-- The instant of PPS_OUT for the second boundary `b`: TIM_PPS_OUT_OFS after it, placed to 100 ps (R58). -/
def ppsInstant (s : State) (b : Nat) : Int := b + s.int F.TIM_PPS_OUT_OFS_OFS * tu100ps

/-- The instant of PPS_OUT has come: it rises, when it is enabled and not held low, for the width of TIM_CTRL.PPS_W (R58). -/
def ppsStart (rise : Int) : Prog := fun s =>
  effIf (s.on F.TIM_CTRL_PPS_OUT_EN && (!s.on F.TIM_CTRL_PPS_OUT_GATE || s.on F.TIM_STATUS_VALID))
    [.upd fun b => { b with tim := { b.tim with
        ppsOut := true, ppsRise := rise,
        ppsFall := rise + (ppsWidthMs (s.get F.TIM_CTRL_PPS_W) * 1000000 * tuNs : Nat) } }]

/-- PPS_OUT at the local second boundary: an offset in this cycle acts now, a later one in its own cycle; a negative one
has acted before (R58). -/
def ppsOutRise : Prog := fun s =>
  let b := nearestSec s.b.tim.t * tuSec
  if s.int F.TIM_PPS_OUT_OFS_OFS < 0 then []
  else if ppsInstant s b < (s.b.tim.t + tuFab : Nat) then ppsStart (ppsInstant s b) s
  else [.upd fun m => { m with tim := { m.tim with ppsDue := some b } }]

/-- The cycle of an instant of PPS_OUT after its second boundary, or before it (R58). -/
def ppsTick : Prog := fun s =>
  let start (b : Nat) : List Eff :=
    if (s.b.tim.t : Int) ≤ ppsInstant s b ∧ ppsInstant s b < (s.b.tim.t + tuFab : Nat) then ppsStart (ppsInstant s b) s else []
  match s.b.tim.ppsDue with
  | some b =>
    effIf (decide (ppsInstant s b < (s.b.tim.t + tuFab : Nat))) [.upd fun m => { m with tim := { m.tim with ppsDue := none } }]
      ++ start b
  | none => if s.b.tim.counting && decide (s.int F.TIM_PPS_OUT_OFS_OFS < 0) then start (nearestSec s.b.tim.t * tuSec) else []

/-- PPS_OUT_END: the pulse ends once its width has passed. -/
def ppsOutEnd : Prog := fun s => effIf (s.b.tim.ppsFall < (s.b.tim.t + tuFab : Nat)) [ppsOutFall]

/-- An armed time of day is discarded. -/
def todDiscard : List Eff :=
  [.set F.TIM_STATUS_TOD_ARMED 0, .upd fun b => { b with tim := { b.tim with armed := none } }]

/-- TIM_COMMIT bit 0: arm the time of day on the grandmaster, else refuse (R54, R55). -/
def todCommit : Prog := noted (.page 0x2000 0) fun s =>
  if s.on F.TIM_STATUS_GM then
    let sec := s.get F.TIM_TOD_LO_SEC + 2 ^ 32 * s.get F.TIM_TOD_HI_SEC
    [.commit (keyAt 0x2050) (keyAt 0x2058), .set F.TIM_STATUS_TOD_ARMED 1,
     .upd fun b => { b with tim := { b.tim with armed := some sec } }]
  else [.sticky F.TIM_STICKY_TOD_REJECT] ++ todDiscard

/-- A write of TIM_CTRL with a word (R55, R57, R58). -/
def timCtrlWrite (v : Nat) : Prog := fun s =>
  let gm := v.testBit 1
  let change := gm != s.on F.TIM_CTRL_GM
  inOrder
    [ fun _ => [.set F.TIM_CTRL_GM (bit gm), .set F.TIM_STATUS_GM (bit gm),
        .set F.TIM_CTRL_PPS_IN_POL (bit (v.testBit 2)), .set F.TIM_CTRL_PPS_OUT_EN (bit (v.testBit 3)),
        .set F.TIM_CTRL_PPS_OUT_GATE (bit (v.testBit 4)), .set F.TIM_CTRL_PPS_W (bitsOf v 9 8)]
        ++ effIf (!v.testBit 3 || (v.testBit 4 && !s.on F.TIM_STATUS_VALID)) [ppsOutFall]
        ++ effIf change (todDiscard ++ [.set F.RDG_STATUS_UP_VALID 0, .set F.RDG_STATUS_GM_HOPS (if gm then 0 else 0xFF)]
            ++ [.upd fun b => { b with tim := { b.tim with ppsBad := 0, validNext := false } }]),
      onlyIf (fun _ => change) (validClear 1),
      guarUpdate ] s

/-- TIM_CMD.INVALIDATE (R57, R20). -/
def invalidate : Prog := inOrder [validClear 0, guarUpdate]

/-- TIM_CMD.LEAP_SET and LEAP_CLR (R52). -/
def leapSet : Prog := fun _ => [.set F.TIM_STATUS_LEAP_PENDING 1]
def leapClr : Prog := fun _ => [.set F.TIM_STATUS_LEAP_PENDING 0]

/-- A read of TIM_NOW_W0 latches the other words in the same cycle (R59). -/
def timNowRead : Prog := fun s =>
  match stampWords s with
  | [w0, w1, w2] =>
    [.set F.TIM_NOW_W0_SEC_LO w0, .set F.TIM_NOW_W1_W1 w1, .set F.TIM_NOW_W2_W2 w2,
     .set F.TIM_NOW_FRAC_FRAC (stampFrac s)]
  | _ => []

def execPpsInEdge (phase : Fin 64) (settled : Bool) (s : State) : Result := run (onMain (ppsInEdge phase settled)) s
def execPpsMissing (s : State) : Result := run (onMain ppsMissing) s
def execPpsOutEnd (s : State) : Result := run (onMain ppsOutEnd) s
def execTodCommit (s : State) : Result := run (onMain todCommit) s
def execTimCtrlWrite (v : Word) (s : State) : Result := run (onMain (timCtrlWrite v.toNat)) s
def execInvalidate (s : State) : Result := run (onMain invalidate) s
def execLeapSet (s : State) : Result := run (onMain leapSet) s
def execLeapClr (s : State) : Result := run (onMain leapClr) s
def execTimNowRead (s : State) : Result := run (onMain timNowRead) s

end Sys2Proof.Machine
end

