-- ==== Sys2Proof/Machine/Ring.lean ====
section
/-! DEFINITION. The ring as a node on it: neighbours and wrap (R63, R86 to R90), the choice of upstream and the
time exchange (R77 to R85), intertrips, schedule slots, and remote access as the requester (R91 to R96). -/

namespace Sys2Proof.Machine

/-! ### Neighbours -/

/-- The lanes in the order in which the upstream choice prefers them: branch up, west, east, then the branch-down lanes in
lane order (R77). -/
def upOrder (s : State) : List Nat :=
  (match upLane? s with | some u => [u] | none => []) ++ [westLane s, eastLane s]
    ++ (List.range 8).filter fun n => (downLanes s).contains n

/-- The GM hop count that a lane's neighbour offers this node (R77). -/
def offered (s : State) (n : Nat) : Option Nat :=
  match (laneOf s n).advert with
  | some k => if ringLane s n && k.valid && !k.upIsYou && k.gmHops != 0xFF then some k.gmHops else none
  | none => none

/-- The better of two offers; the earlier wins a tie. -/
def betterOffer (s : State) (best : Option (Nat × Nat)) (n : Nat) : Option (Nat × Nat) :=
  match offered s n, best with
  | none, b => b
  | some h, none => some (n, h)
  | some h, some (m, g) => if h < g then some (n, h) else some (m, g)

/-- The lane chosen as upstream with its count (R77). -/
def upChoice (s : State) : Option (Nat × Nat) := (upOrder s).foldl (betterOffer s) none

/-- No upstream: the node advertises 0xFF, a grandmaster 0 (R77, R79). -/
def noUpstream (s : State) : List Eff :=
  [.set F.RDG_STATUS_UP_VALID 0, .set F.RDG_STATUS_GM_HOPS (if s.on F.TIM_STATUS_GM then 0 else 0xFF)]

/-- The upstream is evaluated anew (R77 to R79). UPSTREAM_CHANGE carries the hop count that the neighbour advertises, not
the node's own, which is one more (DESIGN CHOICE, log entry 55). -/
def upstreamEval : Prog := fun s =>
  if s.on F.TIM_STATUS_GM then noUpstream s
  else match upChoice s with
    | none => noUpstream s ++ [updRdg fun r => { r with exceed := false }]
    | some (n, h) =>
      if 128 ≤ h then
        noUpstream s ++ [updRdg fun r => { r with exceed := true }]
          ++ effIf (!s.b.rdg.exceed) [.sticky F.RDG_STICKY_HOP_EXCEED, .led 0x240B 0 [n, h]]
      else
        [.set F.RDG_STATUS_UP_VALID 1, .set F.RDG_STATUS_UP_LANE n, .set F.RDG_STATUS_GM_HOPS (h + 1),
         updRdg fun r => { r with exceed := false }]
          ++ effIf (!(s.on F.RDG_STATUS_UP_VALID && s.get F.RDG_STATUS_UP_LANE == n))
              [.sticky F.RDG_STICKY_UPSTREAM_CHANGE, .led 0x2406 0 [n, h]]

/-- JOINED follows the links that are UP. -/
def joinedShow : Prog := fun s =>
  [.set F.RDG_STATUS_JOINED (bit ((List.range 8).any fun n => ringLane s n && (laneOf s n).up))]

/-- The upstream, JOINED and the guarantees follow a change of the neighbours. -/
def ringShow : Prog := inOrder [upstreamEval, joinedShow, guarUpdate]

/-- RDG_CTRL_WRITE (R63, R101): with ADDR 0xFFF a write that sets ENABLE is ignored. -/
def rdgCtrlWrite (v : Nat) : Prog := fun s =>
  if v.testBit 0 && !s.on F.RDG_CTRL_ENABLE && s.get F.RDG_ADDR_ADDR == 0xFFF then []
  else inOrder
    [ fun _ => [.set F.RDG_CTRL_ENABLE (bitsOf v 0 0), .set F.RDG_CTRL_REMOTE_RD_EN (bitsOf v 1 1),
                .set F.RDG_CTRL_REMOTE_WR_EN (bitsOf v 2 2), .set F.RDG_CTRL_IT_PARAPET (bitsOf v 3 3)]
        ++ effIf (!v.testBit 0)
            ([.set F.RDG_STATUS_WRAP_E 0, .set F.RDG_STATUS_WRAP_W 0]
              ++ (List.range 8).map fun n => updLane n fun l => { l with advert := none, noForward := false, up := false }),
      rolesUpdate, ringShow ] s

/-- The lane carries Ridgeline blocks for this node. -/
def ringCarries (s : State) (n : Nat) : Bool :=
  s.on F.RDG_CTRL_ENABLE && ringLane s n && carriesRole s n

/-- KEEPALIVE: one arrives on a lane (R63, R77, R78). -/
def keepalive (n : Nat) (k : Keepalive) : Prog := fun s =>
  let own := k.addr == s.get F.RDG_ADDR_ADDR
  if !ringCarries s n then []
  else inOrder
    [ fun _ => [updLane n fun l => { l with advert := some k, noForward := l.noForward || own }]
        ++ effIf (own && !(laneOf s n).noForward)
            [.sticky F.RDG_STICKY_ADDR_CONFLICT, .led 0x240A n [n, k.addr]],
      ringShow ] s

/-- The side of the ring that a lane serves wraps (R87, R88). -/
def wrapSide (n lost : Nat) : Prog := fun s =>
  let east := n == eastLane s
  let side := if east then 0 else 1
  inOrder
    [ fun _ => [if east then .set F.RDG_STATUS_WRAP_E 1 else .set F.RDG_STATUS_WRAP_W 1, .sticky F.RDG_STICKY_WRAP,
                .led 0x2402 n [side, lost]],
      originate 0 0xFFF 2 [lost % 4096 + 4096 * side] ] s

/-- The frames that wait on a wrapped side's lane leave on the wrapped path: S frames, whole, and the frames of the other
forwarded classes that had not started to leave (R26, R87, R89). -/
def turnWaiting (n : Nat) : Prog := fun s =>
  let l := laneOf s n
  let whole := match l.curS with
    | some (f, _) => [f]
    | none => []
  let waiting := l.tx.filterMap fun
    | .frame f => if f.cls = 1 then none else some f
    | _ => none
  thenDo [updLane n fun l => { l with tx := [], cur := none, curS := none }]
    (inOrder ((whole ++ waiting).map fun f => sendRing (n == eastLane s) f)) s

/-- NEIGHBOUR_LOST on a lane (R86 to R88). A ring side that was up turns: while the wrap is in progress, to the end of the
CLK_FAB cycle (log entry 60), G3 and G4 lapse on a path that crosses the ring (R25, R27). What waits on a lost branch lane is lost (R89). -/
def neighbourLost (n : Nat) : Prog := fun s =>
  let l := laneOf s n
  match l.advert with
  | none => []
  | some k =>
    if !s.on F.RDG_CTRL_ENABLE || !ringLane s n then []
    else
      let side := l.up && (n == eastLane s || n == westLane s)
      inOrder
        [ fun _ => [.sticky F.RDG_STICKY_NEIGHBOUR_LOST, .led 0x2401 n [n, k.addr],
                    updLane n fun l => { l with advert := none, up := false, turning := side }],
          onlyIf (fun _ => !side) (fun _ => [updLane n fun l => { l with tx := [], cur := none, curS := none }]),
          onlyIf (fun _ => side) (inOrder
            [ wrapSide n k.addr, turnWaiting n ]),
          ringShow ] s

/-- UNWRAP: a returning lane is ready, calibrated, and has had keep-alives for 1 ms (R90). -/
def unwrap (n : Nat) : Prog := fun s =>
  let east := n == eastLane s
  let wrapped := (east && s.on F.RDG_STATUS_WRAP_E) || (n == westLane s && s.on F.RDG_STATUS_WRAP_W)
  match (laneOf s n).advert with
  | none => []
  | some k =>
    if !ringCarries s n || !s.on (F.RDG_LANE_CAL_DONE n) || s.on (F.RDG_LANE_CAL_FAIL n) then []
    else inOrder
      [ fun _ => [updLane n fun l => { l with up := true }]
          ++ effIf wrapped
              [if east then .set F.RDG_STATUS_WRAP_E 0 else .set F.RDG_STATUS_WRAP_W 0,
               .led 0x2403 n [if east then 0 else 1, k.addr]],
        ringShow ] s

/-! ### Frames for this node -/

/-- A frame for this node arrives on a ring or branch lane: class, type and length fit, its hop limit is not 0, and
its check passes; T frames come on a lane in stage 7 too (R107); a frame that fails is not acted on, and is counted when it is for this node alone; FRAME_FORWARD
counts a broadcast (R66, R70, R71). -/
def deliver (n cls type : Nat) (f : Frame) (p : Prog) : Prog := fun s =>
  let own := f.dest == s.get F.RDG_ADDR_ADDR
  let carries := ringCarries s n || (cls == 1 && s.on F.RDG_CTRL_ENABLE && ringLane s n && carriesT s n)
  let counts := own || cls == 1
  if !carries || f.cls != cls || f.type != type || !(own || f.dest == 0xFFF) then []
  else if frameLenBad f then effIf counts (strays f ++ [.inc F.RDG_CNT_CRC_N 1])
  else if f.hops = 0 then effIf counts (strays f ++ dropHop)
  else if !f.good then effIf counts (strays f ++ crcFailed f)
  else thenDo (effIf counts (strays f)) p s

/-- A first copy of an S frame from another node (R73). -/
def firstCopy (f : Frame) (p : Prog) : Prog := fun s =>
  if f.src = s.get F.RDG_ADDR_ADDR ∨ seenIn s s.b.rdg.rxSeen f = true then []
  else thenDo [updRdg fun r => { r with rxSeen := seenAdd s r.rxSeen f }] p s

/-- INTERTRIP (R76). -/
def intertrip (n : Nat) (f : Frame) : Prog :=
  deliver n 0 1 f (firstCopy f fun s =>
    let g := f.data.getD 0 0 % 2 ^ 16 &&& s.get F.RDG_IT_RX_EN_GROUPS
    if g = 0 then []
    else inOrder ([fun _ => [.sticky F.RDG_STICKY_IT_RX]]
      ++ ((List.range 16).filter fun k => g.testBit k).map fun k => pulseSource (112 + k)) s)

/-- A write of RDG_IT_CMD (R75). -/
def itCmd (groups : Nat) : Prog := sendIntertrip groups

/-- NODE_LOST (R88). -/
def nodeLost (n : Nat) (f : Frame) : Prog :=
  deliver n 0 2 f (firstCopy f
    (thenDo [.sticky F.RDG_STICKY_NODE_LOST_RX, .led 0x2404 0 [f.data.getD 0 0 % 4096, f.src]] (crnEvent 7)))

/-! ### Time exchange (R80 to R83) -/

/-- Frames of the exchange go one hop, on their own lane. Their DEST is the address that the neighbour's keep-alives
carry, in stage 7 the one of its TRAIN blocks, and 0xFFF when none has come (DESIGN CHOICE, log entry 55). -/
def sendHop (n type : Nat) (data : List Nat) : Prog := fun s =>
  let f : Frame := { cls := 1, dest := ((laneOf s n).advert.map (·.addr)).getD (laneOf s n).pAddr,
                     src := s.get F.RDG_ADDR_ADDR, hops := s.get F.RDG_HOPLIM_HOPS, type := type,
                     seq := s.b.rdg.seq, data := data }
  if f.hops = 0 then dropHop
  else thenDo [updRdg fun r => { r with seq := (r.seq + 1) % 64 }] (sendEarly n (.frame f)) s

/-- The timebase `phase` fine steps of 6.25 ps into this cycle, corrected for the device's own path. -/
def stampAt (s : State) (phase : Nat) : Nat := s.b.tim.t + phase * tuStep

/-- EXCHANGE_START: DELAY_REQ leaves on the upstream lane at t1. -/
def exchangeStart (phase : Nat) : Prog := fun s =>
  let n := s.get F.RDG_STATUS_UP_LANE
  if !s.on F.RDG_STATUS_UP_VALID || !ringCarries s n then []
  else thenDo [updRdg fun r => { r with t1 := some (stampAt s phase, n) }] (sendHop n 0x10 []) s

/-- Seconds [15:0], nanoseconds and fraction of a stamp in a DELAY_RESP block (R80). -/
def stampBlock (t : Nat) : Nat :=
  let p := stampOf t
  p.sec % 2 ^ 16 * 2 ^ 48 + p.ns * 2 ^ 16 + p.frac

/-- The data blocks of DELAY_RESP (R80). -/
def delayBlocks (s : State) (t2 t3 : Nat) : List Nat :=
  [stampBlock t2, stampBlock t3,
   (stampOf t3).sec / 2 ^ 16 % 2 ^ 32 * 2 ^ 32 + s.get F.RDG_STATUS_GM_HOPS * 2 ^ 24
     + stampFlags s / 2 ^ 28 * 2 ^ 20]

/-- DELAY_REQ arrives at t2; the answer leaves `turn` fine steps later at t3. -/
def delayReq (n : Nat) (f : Frame) (phase turn : Nat) : Prog :=
  deliver n 1 0x10 f fun s =>
    sendHop n 0x11 (delayBlocks s (stampAt s phase) (stampAt s (phase + turn))) s

/-- A stamp of DELAY_RESP in 2^-16 ns, with seconds above bit 15 from block 2. -/
def blockTicks (block sec : Nat) : Nat := (sec * 1000000000 + bitsOf block 45 16) * 65536 + block % 2 ^ 16

/-- t2 and t3 of DELAY_RESP in 2^-16 ns: t2 is never after t3. -/
def respTicks (data : List Nat) : Nat × Nat :=
  let hi := bitsOf (data.getD 2 0) 63 32
  let s2 := bitsOf (data.getD 0 0) 63 48
  let s3 := bitsOf (data.getD 1 0) 63 48
  (blockTicks (data.getD 0 0) ((if s3 < s2 then hi - 1 else hi) * 2 ^ 16 + s2),
   blockTicks (data.getD 1 0) (hi * 2 ^ 16 + s3))

/-- The delay from D to U in 2^-16 ns: (r + α) / 2 with α = −MED × 6.25 ps; a half falls to a free side
(log entry 3). -/
def pathDelay (s : State) (n : Nat) (r : Int) : Int :=
  let x := 5 * r - 2048 * s.int (F.RDG_LANE_ASYM_MED n)
  x / 10 + (if x % 10 = 0 then 0 else (fresh s 0 % 2 : Nat))

/-- The magnitude of θ above which the node steps, in 2^-16 ns; 0 = never. -/
def mustStep (s : State) (theta : Int) : Bool :=
  s.get F.RDG_SERVO_STEP_THR != 0 && s.get F.RDG_SERVO_STEP_THR * 65536000 < theta.natAbs

/-- Move the timebase at once by a number of 2^-16 ns. -/
def moveTime (d : Int) : Eff := .upd fun b => { b with tim := { b.tim with t := ((b.tim.t : Int) + 5 * d).toNat } }

/-- The limit of the slew for one exchange: 1.907 ns in 2^-16 ns. -/
def slewMax : Int := 124977

/-- The timebase takes its share of the slew in a cycle: at most one fine step in 256 CLK_SER cycles, that is 32 units of
the timebase in a CLK_FAB cycle (R82). -/
def slewTick : Prog := fun s =>
  let d := clampInt (-32) 32 s.b.rdg.slew
  effIf (d != 0 && !s.on F.TIM_STATUS_GM)
    [.upd fun b => { b with tim.t := ((b.tim.t : Int) + d).toNat, rdg.slew := b.rdg.slew - d }]

/-- Step or slew (R81, R82). -/
def servo (n : Nat) (theta : Int) : Prog := fun s =>
  if mustStep s theta then
    inOrder
      [ fun _ => [moveTime (-theta), updRdg fun r => { r with slew := 0 }, .sticky F.RDG_STICKY_TIME_STEP,
                  .led 0x2407 0 [unsignedOf 32 (roundDiv (-theta) 65536), n]],
        onlyIf (fun _ => 65536000 < theta.natAbs) (validClear 2) ] s
  else
    let rate := s.b.rdg.rate + theta / (2 ^ s.get F.RDG_SERVO_KI : Int)
    let slew := clampInt (-slewMax) slewMax (theta / (2 ^ s.get F.RDG_SERVO_KP : Int) + rate)
    [updRdg fun r => { r with rate := rate, slew := -(5 * slew) }]

/-- Sixteen consecutive exchanges below 20 ns with a VALID upstream make the node VALID (R83). TIME_CONV, whose setting
alone the rule gives, clears with an answer whose VALID is clear and after 100 ms without an exchange, not with a step
(DESIGN CHOICE, log entry 55). -/
def converge (theta : Int) (upValid : Bool) : Prog := fun s =>
  let conv := if theta.natAbs < 1310720 then s.b.rdg.conv + 1 else 0
  inOrder
    [ fun _ => [updRdg fun r => { r with conv := min conv 16 }],
      onlyIf (fun _ => !upValid) (thenDo [.set F.RDG_STATUS_TIME_CONV 0] (validClear 2)),
      onlyIf (fun _ => upValid && 16 ≤ conv) (thenDo [.set F.RDG_STATUS_TIME_CONV 1] fun s => validSet (stampOf s.b.tim.t).sec s) ] s

/-- The round trip of an exchange in 2^-16 ns (R80). -/
def roundTrip (s : State) (f : Frame) (phase t1 : Nat) : Int :=
  let t := respTicks f.data
  ((stampAt s phase / 5 : Nat) - (t1 / 5 : Nat) : Int) - (t.2 - t.1 : Int)

/-- DELAY_RESP arrives at t4 (R80 to R83). On a lane in stage 7 it completes one exchange of the delay measurement (R107);
else it counts when its lane is still the upstream. -/
def delayResp (n : Nat) (f : Frame) (phase : Nat) : Prog :=
  deliver n 1 0x11 f fun s =>
    if s.get (F.LNK_STATUS_STAGE n) = 7 then
      match (laneOf s n).exAt with
      | none => []
      | some t1 =>
        [updLane n fun l => { l with exAt := none, exN := l.exN + 1, exSum := l.exSum + roundTrip s f phase t1 }]
    else match s.b.rdg.t1 with
    | none => []
    | some (t1, lane) =>
      if lane ≠ n ∨ s.on F.TIM_STATUS_GM = true ∨ s.on F.RDG_STATUS_UP_VALID = false
          ∨ s.get F.RDG_STATUS_UP_LANE ≠ n then []
      else
        let d := pathDelay s n (roundTrip s f phase t1)
        let theta : Int := ((t1 / 5 : Nat) : Int) - (respTicks f.data).1 + d
        inOrder
          [ fun _ => [.set F.RDG_OFFSET_THETA (fieldOf s 32 theta), .set F.RDG_PATHDLY_DLY (fieldOf s 32 d),
                      spend 1, updRdg fun r => { r with t1 := none }],
            servo n theta, converge theta ((f.data.getD 2 0).testBit 23), guarUpdate ] s

/-- EXCHANGE_TIMEOUT: none completed for 100 ms (R83). -/
def exchangeTimeout : Prog := fun s =>
  if s.on F.TIM_STATUS_GM then []
  else inOrder
    [ fun _ => [.set F.RDG_STATUS_TIME_CONV 0, updRdg fun r => { r with conv := 0, t1 := none }],
      validClear 2, guarUpdate ] s

/-! ### Echo probes (R85) -/

/-- The identifiers of the next `k` probes. -/
def probeIds (s : State) (k : Nat) : List Nat := (List.range k).map fun i => (s.b.rdg.probe + i) % 2 ^ 56

/-- Probes leave on a lane. -/
def probes (n : Nat) (ids : List Nat) : Prog :=
  thenDo [updRdg fun r => { r with probe := (r.probe + ids.length) % 2 ^ 56 }]
    (inOrder (ids.map fun p => sendOn n (.echo p)))

/-- A check of a lane begins: 16 probes, and its sums start anew. -/
def checkStart (n : Nat) : Prog := fun s =>
  let ids := probeIds s 16
  thenDo [updLane n fun l => { l with echoOut := ids, echoN := 0, echoSum := 0 }] (probes n ids) s

/-- ECHO_CHECK: 16 probes on each ring and branch lane. -/
def echoCheck : Prog := fun s => inOrder ((ringLanes s).map checkStart) s

/-- In-band recalibration from 64 echoes begins, unless it runs. -/
def recalStart (n : Nat) : Prog := fun s =>
  let ids := probeIds s 64
  if (laneOf s n).recal then []
  else thenDo [updLane n fun l => { l with recal := true, recalOut := ids, recalN := 0, recalSum := 0 }] (probes n ids) s

/-- RECAL: of every ring and branch lane. -/
def recal : Prog := fun s => inOrder ((ringLanes s).map recalStart) s

/-- The sixteenth echo of a check: more than 1.0 ns (160 steps) of deviation fails the lane. -/
def echoJudge (n : Nat) : Prog := fun s =>
  let l := laneOf s n
  let dev : Int := (l.echoSum : Int) - 16 * l.loopRt
  if l.echoN != 16 || dev.natAbs ≤ 16 * 160 then []
  else inOrder
    [ fun _ => [.set (F.RDG_LANE_CAL_FAIL n) 1, .sticky F.RDG_STICKY_CAL_FAIL,
                .led 0x2405 n [n, unsignedOf 32 (roundDiv dev 16)]],
      recalStart n, guarUpdate ] s

/-- ECHO: the neighbour's probe is returned, or an own one, of the check or of the recalibration, comes back after `rt`
steps of 6.25 ps. -/
def echo (n probe : Nat) (own : Bool) (rt : Nat) : Prog := fun s =>
  let l := laneOf s n
  if !ringCarries s n then []
  else if !own then sendOn n (.echo probe) s
  else if l.echoOut.contains probe then
    thenDo [updLane n fun l => { l with
      echoOut := l.echoOut.erase probe, echoN := l.echoN + 1, echoSum := l.echoSum + rt }] (echoJudge n) s
  else effIf (l.recalOut.contains probe)
    [updLane n fun l => { l with
      recalOut := l.recalOut.erase probe, recalN := l.recalN + 1, recalSum := l.recalSum + rt }]

/-- RECAL_DONE: the 64 echoes have come; `corr` is the new correction when it passes. -/
def recalDone (n : Nat) (passed : Bool) (corr : Nat) : Prog := fun s =>
  let l := laneOf s n
  if !l.recal || l.recalN < 64 then []
  else thenDo
    ([updLane n fun l => { l with recal := false, recalN := 0, recalSum := 0 }]
      ++ effIf passed [.set (F.RDG_LANE_CAL_FAIL n) 0, .set (F.RDG_LANE_CAL_DONE n) 1,
                       .set (F.RDG_LANE_CAL_RXCORR n) corr,
                       updLane n fun k => { k with loopRt := l.recalSum / l.recalN }])
    guarUpdate s

/-- RDG_CMD.CNT_CLR (R66). -/
def rdgCntClr : Prog := fun _ =>
  [.set F.RDG_CNT_HOPDROP_N 0, .set F.RDG_CNT_UNREACH_N 0, .set F.RDG_CNT_CRC_N 0]

/-! ### Schedule slots (R91) -/

/-- The time of a slot's shadows in units of the timebase. -/
def slotTime (s : State) (n : Nat) : Nat :=
  timeOf (s.get (F.RDG_SCHED_SEC_LO_SEC n) + 2 ^ 32 * s.get (F.RDG_SCHED_SEC_HI_SEC n)) (s.get (F.RDG_SCHED_NS_NS n))

/-- The commit of a slot is accepted. -/
def slotAccepted (s : State) (n : Nat) : Bool :=
  let a := s.get (F.RDG_SCHED_ACT_ACTION n)
  a == 0 || (a ≤ 4 && s.get (F.RDG_SCHED_NS_NS n) ≤ 999999999 && !timeInvalid s
    && s.b.tim.t + 10000 * tuNs ≤ slotTime s n)

/-- RDG_COMMIT of one slot. -/
def slotCommit (n : Nat) : Prog := noted (.page 0x10000 n) fun s =>
  if slotAccepted s n then
    [.commit (keyAt (0x10300 + 0x10 * n)) (keyAt (0x10310 + 0x10 * n)),
     putBit s F.RDG_SCHED_STAT_ARMED n (s.get (F.RDG_SCHED_ACT_ACTION n) != 0), clrBit s F.RDG_SCHED_STAT_DONE n]
  else [.sticky F.RDG_STICKY_SCHED_LATE]

/-- SCHED_COMMIT: the slots of a mask. -/
def schedCommit (mask : Nat) : Prog :=
  inOrder (((List.range 8).filter fun n => mask.testBit n).map slotCommit)

/-! ### Remote access, as the requester (R93, R95, R96) -/

/-- Data block 0 of remote access and bulk frames (R95, R437). -/
def accessBlock (tag count err frag addr : Nat) : Nat :=
  tag % 256 * 2 ^ 56 + count % 4096 * 2 ^ 44 + err % 16 * 2 ^ 40 + frag % 256 * 2 ^ 32 + addr % 2 ^ 24

/-- Words two to a block, with zero padding (R95). -/
def pairWords : List Nat → List Nat
  | [] => []
  | [a] => [a]
  | a :: b :: l => (a + 2 ^ 32 * b) :: pairWords l

/-- The first `k` words of the blocks after block 0. -/
def blockWords (data : List Nat) (k : Nat) : List Nat :=
  ((data.drop 1).flatMap fun d => [d % 2 ^ 32, d / 2 ^ 32 % 2 ^ 32]).take k

/-- Fields of block 0. -/
def accessCount (f : Frame) : Nat := bitsOf (f.data.getD 0 0) 55 44
def accessErr (f : Frame) : Nat := bitsOf (f.data.getD 0 0) 43 40
def accessFrag (f : Frame) : Nat := bitsOf (f.data.getD 0 0) 39 32
def accessAddr (f : Frame) : Nat := bitsOf (f.data.getD 0 0) 23 0

/-- A command that ends at once without a frame. -/
def raccEnd (err : Nat) : Prog := fun _ => raccDone err

/-- RACC_CMD (R93 to R95). The first request since reset carries TAG 0, and mailbox and bulk requests share one count
(DESIGN CHOICE, log entry 55). A broadcast write is done when its frame has left (`raccLeft`). -/
def raccCmd (write : Bool) (count : Nat) : Prog := fun s =>
  let dest := s.get F.RDG_RACC_DEST_ADDR
  let tag := s.b.rdg.tag
  let words := (List.range count).map fun k => s.get (F.RDG_RACC_DATA_DATA k)
  let data := accessBlock tag count 0 0 (s.get F.RDG_RACC_ADDR_ADDR) :: (if write then pairWords words else [])
  if s.on F.RDG_RACC_STATUS_BUSY then []
  else if s.get F.RDG_RACC_TMO_US = 0 then raccDone 6
  else if count = 0 then raccDone 0
  else if 8 < count then raccDone 9
  else if dest = 0xFFF ∧ write = false then raccDone 8
  else inOrder
    [ fun _ => [.set F.RDG_RACC_STATUS_BUSY 1, .set F.RDG_RACC_STATUS_DONE 0, .set F.RDG_RACC_STATUS_ERR 0,
                updRdg fun r => { r with
                  tag := (tag + 1) % 256
                  mailbox := some { tag := tag, write := write, bcast := dest == 0xFFF } }],
      originate 3 dest (if write then 0x32 else 0x30) data,
      onlyIf (fun _ => s.on F.RDG_CTRL_ENABLE && s.get F.RDG_HOPLIM_HOPS == 0) (raccEnd 2) ] s

/-- A response matches the outstanding request (R95). -/
def raccMatches (s : State) (write : Bool) (f : Frame) : Bool :=
  f.src == s.get F.RDG_RACC_DEST_ADDR
    && s.b.rdg.mailbox.any fun m => m.write == write && m.tag == frameTag f

/-- A response to the mailbox; one whose check fails, or failed on its way, ends it with ERR 7. -/
def raccResponse (n : Nat) (write : Bool) (f : Frame) (p : Prog) : Prog := fun s =>
  if !ringCarries s n || f.dest != s.get F.RDG_ADDR_ADDR || f.cls != 3 || f.type != (if write then 0x33 else 0x31)
  then []
  else if frameLenBad f then [.inc F.RDG_CNT_CRC_N 1]
  else if f.hops = 0 then dropHop
  else if !f.good then strays f ++ crcFailed f ++ effIf (raccMatches s write f) (raccDone 7)
  else thenDo (strays f) (onlyIf (fun s => raccMatches s write f) p) s

/-- READ_RESPONSE: the words that it carries, at most 8, are written. -/
def readResponse (n : Nat) (f : Frame) : Prog :=
  raccResponse n false f fun _ =>
    (blockWords f.data (min 8 (accessCount f))).zipIdx.map (fun p => .set (F.RDG_RACC_DATA_DATA p.2) p.1)
      ++ raccDone (accessErr f)

/-- WRITE_RESPONSE. -/
def writeResponse (n : Nat) (f : Frame) : Prog := raccResponse n true f fun _ => raccDone (accessErr f)

/-- RACC_TIMEOUT. -/
def raccTimeout : Prog := fun s => effIf (s.on F.RDG_RACC_STATUS_BUSY) (raccDone 1)

/-- BULK_CMD (R96). RDG_RACC_TMO = 0 gives ERR 6 whatever COUNT is (DESIGN CHOICE, log entry 41). -/
def bulkCmd (queue count : Nat) : Prog := fun s =>
  let dest := s.get F.RDG_RACC_DEST_ADDR
  let tag := s.b.rdg.tag
  let addr := s.get F.RDG_RACC_ADDR_ADDR
  if s.on F.RDG_BULK_STATUS_BUSY then []
  else if s.get F.RDG_RACC_TMO_US = 0 then bulkDone 6
  else if count = 0 then bulkDone 0
  else if 1024 < count then bulkDone 9
  else if dest = 0xFFF then bulkDone 8
  else inOrder
    [ fun _ => [.set F.RDG_BULK_STATUS_BUSY 1, .set F.RDG_BULK_STATUS_DONE 0, .set F.RDG_BULK_STATUS_ERR 0,
                updRdg fun r => { r with
                  tag := (tag + 1) % 256
                  bulk := some { tag := tag, queue := queue, left := count } }],
      originate 4 dest 0x40 [accessBlock tag count 0 0 addr],
      onlyIf (fun _ => s.on F.RDG_CTRL_ENABLE && s.get F.RDG_HOPLIM_HOPS == 0) (fun _ => bulkDone 2) ] s

/-- One fragment is taken: its record, the words still missing, the first error. A fragment whose check fails is not
appended; it gives ERR 7, and its COUNT lowers the words still missing (DESIGN CHOICE, log entry 55). -/
def bulkTake (f : Frame) (m : Request) : Prog := fun s =>
  let k := accessCount f
  let words := [f.src + 2 ^ 16 * accessFrag f, accessAddr f] ++ blockWords f.data k
  let fits := s.qTakes m.queue (words.length + 1)
  let err := if m.err ≠ 0 then m.err else if !f.good then 7 else if accessErr f ≠ 0 then accessErr f
    else if fits then 0 else 11
  effIf (f.good && k != 0) [.que m.queue 7 words]
    ++ (if m.left ≤ k || (f.good && k == 0 && accessErr f != 0) then bulkDone err
        else [updRdg fun r => { r with bulk := some { m with left := m.left - k, err := err } }])

/-- BULK_FRAGMENT arrives. -/
def bulkFragment (n : Nat) (f : Frame) : Prog := fun s =>
  if !ringCarries s n || f.dest != s.get F.RDG_ADDR_ADDR || f.cls != 4 || f.type != 0x41 then []
  else if frameLenBad f then [.inc F.RDG_CNT_CRC_N 1]
  else if f.hops = 0 then dropHop
  else
    strays f ++ crcFailed f
    ++ (match s.b.rdg.bulk with
        | some m => if f.src = s.get F.RDG_RACC_DEST_ADDR ∧ frameTag f = m.tag then bulkTake f m s else []
        | none => [])

/-- BULK_TIMEOUT: ERR 1, also when an earlier fragment has recorded an error (DESIGN CHOICE, log entry 55). -/
def bulkTimeout : Prog := fun s => effIf (s.on F.RDG_BULK_STATUS_BUSY) (bulkDone 1)

def execRdgCtrlWrite (v : Word) (s : State) : Result := run (onMain (rdgCtrlWrite v.toNat)) s
def execKeepalive (n : Fin 8) (k : Keepalive) (s : State) : Result := run (onMain (keepalive n k)) s
def execIntertrip (n : Fin 8) (f : Frame) (s : State) : Result := run (onMain (intertrip n f)) s
def execItCmd (groups : BitVec 16) (s : State) : Result := run (onMain (itCmd groups.toNat)) s
def execNodeLost (n : Fin 8) (f : Frame) (s : State) : Result := run (onMain (nodeLost n f)) s
def execExchangeStart (phase : Fin 1024) (s : State) : Result := run (onMain (exchangeStart phase)) s
def execDelayReq (n : Fin 8) (f : Frame) (phase : Fin 1024) (turn : Nat) (s : State) : Result :=
  run (onMain (delayReq n f phase turn)) s
def execDelayResp (n : Fin 8) (f : Frame) (phase : Fin 1024) (s : State) : Result :=
  run (onMain (delayResp n f phase)) s
def execExchangeTimeout (s : State) : Result := run (onMain exchangeTimeout) s
def execEchoCheck (s : State) : Result := run (onMain echoCheck) s
def execEcho (n : Fin 8) (probe : BitVec 56) (own : Bool) (rt : Nat) (s : State) : Result :=
  run (onMain (echo n probe.toNat own rt)) s
def execRecal (s : State) : Result := run (onMain recal) s
def execRecalDone (n : Fin 8) (passed : Bool) (corr : BitVec 16) (s : State) : Result :=
  run (onMain (recalDone n passed corr.toNat)) s
def execRdgCntClr (s : State) : Result := run (onMain rdgCntClr) s
def execNeighbourLost (n : Fin 8) (s : State) : Result := run (onMain (neighbourLost n)) s
def execUnwrap (n : Fin 8) (s : State) : Result := run (onMain (unwrap n)) s
def execSchedCommit (mask : BitVec 8) (s : State) : Result := run (onMain (schedCommit mask.toNat)) s
def execRaccCmd (write : Bool) (count : Fin 16) (s : State) : Result := run (onMain (raccCmd write count)) s
def execReadResponse (n : Fin 8) (f : Frame) (s : State) : Result := run (onMain (readResponse n f)) s
def execWriteResponse (n : Fin 8) (f : Frame) (s : State) : Result := run (onMain (writeResponse n f)) s
def execRaccTimeout (s : State) : Result := run (onMain raccTimeout) s
def execBulkCmd (queue : Fin 32) (count : Fin 2048) (s : State) : Result := run (onMain (bulkCmd queue count)) s
def execBulkFragment (n : Fin 8) (f : Frame) (s : State) : Result := run (onMain (bulkFragment n f)) s
def execBulkTimeout (s : State) : Result := run (onMain bulkTimeout) s

end Sys2Proof.Machine
end

