-- ==== Sys2Proof/Machine/PhsBase.lean ====
section
/-! DEFINITION. Angles in 2^-24 π rad, the reference phasor and the timed angle (R332, R333). -/

namespace Sys2Proof.Machine

def updPhs (g : Phs → Phs) : Eff := .upd fun b => { b with phs := g b.phs }
def updGrd (g : Grd → Grd) : Eff := .upd fun b => { b with grd := g b.grd }
def updTwv (g : Twv → Twv) : Eff := .upd fun b => { b with twv := g b.twv }

/-- One turn, 2π rad, in 2^-24 π rad. -/
def turn : Int := 33554432

/-- An angle wrapped into [−π, π). -/
def wrapAngle (a : Int) : Int := (a + 16777216) % turn - 16777216

/-- An angle in units of π rad as a multiple of 2^-24 π rad. -/
def angleFrac (x : Rat) : Int := wrapAngle (roundRat (x * 16777216))

/-- The slot word of an angle: π rad, e = 0. -/
def angleSlot (a : Int) : Nat := slotOf 0 ((a : Rat) / 16777216)

/-- An angle in 0.1 degree. -/
def deciDeg (a : Int) : Int := roundDiv (a * 3600) 33554432

/-- A number of 0.1 degree is exceeded by the magnitude of an angle. -/
def beyond (a : Int) (d : Nat) : Bool := d * 33554432 < a.natAbs * 3600

/-- The nominal frequency of the phasor sets. -/
def phsNom (s : State) : Nat := if s.on F.PHS_CTRL_F60 then 60 else 50

/-- Seconds of a number of timebase units. -/
def secondsOf (t : Int) : Rat := (t : Rat) / 327680000000000

/-- The age of the reference in timebase units. -/
def refAge (s : State) : Option Int := s.b.phs.ref.map fun r => (s.b.tim.t : Int) - r.t

/-- The reference is no older than a number of milliseconds. -/
def refWithin (s : State) (ms : Nat) : Bool :=
  match refAge s with
  | some a => decide (a ≤ (ms * 327680000000 : Nat))
  | none => false

/-- The timed angle at this sample instant (R333). -/
def thetaTimed (s : State) : Int :=
  match s.b.phs.ref with
  | none => 0
  | some r =>
    let tau := secondsOf (s.b.tim.t % tuSec : Nat)
    let dt := secondsOf ((s.b.tim.t : Int) - r.t)
    angleFrac (2 * phsNom s * tau + slotVal r.ang + 2 * (slotVal r.f - phsNom s) * dt + slotVal r.rocof * dt * dt)

/-- The exponents of slot words, rising. -/
def exponents : List Int := (List.range 256).map fun (k : Nat) => (k : Int) - 128

/-- The slot word of a value with the smallest exponent that holds it (log entry 24). -/
def slotFit (x : Rat) : Nat :=
  if x = 0 then 0
  else slotOf ((exponents.find? fun e => decide ((roundRat (x * 8388608 / pow2 e)).natAbs < 8388608)).getD 127) x

end Sys2Proof.Machine
end

