-- ==== Sys2Proof/Machine/Streams.lean ====
section
/-! DEFINITION. What the measurement blocks take from the converters' results: the samples of the phasor sets (R320) and the
streams, triggers and captures of the travelling-wave detectors (R336, R339, R340). -/

namespace Sys2Proof.Machine

/-! ### Phasor sets -/

/-- Sets that compute estimates (R326). -/
def phsActive (s : State) : Nat :=
  if s.on F.PHS_CTRL_ENABLE then
    (List.range 4).foldl (fun n k => if s.curOn (F.PHS_SET_CFG_EN k) then withBit n k else n) 0
  else 0

/-- The ISLOT of phase `x` of set `k`, as `rd` reads it. -/
def phsChannel (rd : Fld → Nat) (k x : Nat) : Nat :=
  match x with
  | 0 => rd (F.PHS_SET_CFG_CHA k)
  | 1 => rd (F.PHS_SET_CFG_CHB k)
  | _ => rd (F.PHS_SET_CFG_CHC k)

/-- The fields of the PHS group that its frames are computed from (R325). -/
def phsFlds : List Fld :=
  [F.PHS_RATE_FS, F.PHS_REF_SET, F.PHS_REF_SRC] ++ (List.range 4).flatMap fun k =>
    [F.PHS_SET_CFG_EN k, F.PHS_SET_CFG_CLASS k, F.PHS_SET_CFG_MASK k, F.PHS_SET_CFG_FORMAT k, F.PHS_SET_CFG_CHA k,
     F.PHS_SET_CFG_CHB k, F.PHS_SET_CFG_CHC k, F.PHS_SET_DLY_DLY k 0, F.PHS_SET_DLY_DLY k 1, F.PHS_SET_DLY_DLY k 2]

/-- The state as the frames of the group before the last boundary see it. -/
def phsOldView (s : State) (o : PhsOld) : State :=
  ((phsFlds.zip o.vals).foldl (fun s p => s.putCur p.1 p.2) s).updB fun b => { b with phs := { b.phs with buf := o.buf } }

/-- The state as a frame instant in second `sec` sees it: with the group in force then (R325). -/
def phsView (s : State) (sec : Nat) : State :=
  match s.b.phs.old.filter fun o => sec * tuSec < o.till with
  | some o => phsOldView s o
  | none => s

/-- The set channels that name channel `n`, with the instant of a result less their delay (R320). -/
def phsHits (s : State) (n t : Nat) : List (Nat × Int) :=
  ((List.range 12).filter fun i => (phsActive s).testBit (i / 3) && phsChannel s.cur (i / 3) (i % 3) == n).map
    fun i => (i, (t : Int) - s.curInt (F.PHS_SET_DLY_DLY (i / 3) (i % 3)) * tu100ps)

/-- Results join their streams, which are kept for a second, longer than the longest window. -/
def phsJoin (hits : List (Nat × Int)) (v : Rat) (bad : Bool) (buf : List (List (Int × Rat × Bool))) : List (List (Int × Rat × Bool)) :=
  hits.foldl (fun b h => modAt b h.1 (fun l => (h.2, v, bad) :: l.filter fun q => decide (h.2 - tuSec < q.1)) []) buf

/-- More than 50.0 µs have passed since the last result of a set channel (R321). -/
def inputSlow (s : State) (hits : List (Nat × Int)) : Bool :=
  hits.any fun h => (s.b.phs.buf.getD h.1 []).head?.any fun q => decide (50000 * (tuNs : Int) < h.2 - q.1)

/-- A result of channel `n` with its sample instant: each set channel that names it keeps it, of the group in force and, for a
second, of the one before it (R320, R321, R325). -/
def phsTake (n : Nat) (v : Rat) (bad : Bool) (t : Nat) : Prog := fun s =>
  let hits := phsHits s n t
  let old := s.b.phs.old.filter fun o => decide (s.b.tim.t < o.till + tuSec)
  effIf (inputSlow s hits) [.sticky F.PHS_STICKY_INPUT_RATE]
  ++ effIf (!hits.isEmpty) [updPhs fun p => { p with buf := phsJoin hits v bad p.buf }]
  ++ effIf s.b.phs.old.isSome
      [updPhs fun p => { p with old := old.map fun o => { o with buf := phsJoin (phsHits (phsOldView s o) n t) v bad o.buf } }]

/-! ### Travelling-wave detectors -/

/-- One sample slot of 102.4 ns in timebase units. -/
def tuSlot : Nat := 33554432

/-- The sample of channel `n` at an expected instant is missing or LATE: a gap in the stream of each acting detector on it
(R336, log entry 27). -/
def streamGap (n : Nat) : Prog := fun s =>
  ((List.range 8).filter fun k => (s.get F.TWV_STATUS_ACTIVE).testBit k && s.cur (F.TWV_DET_CFG_CH k) == n).flatMap fun k =>
    [.inc F.TWV_CNT_GAP_N 1, .sticky F.TWV_STICKY_GAP, updTwv fun w => { w with miss := withBit w.miss k }]

/-- A trigger begins a capture, or finds the buffer full and stores none (R339, R340). -/
def captureStart (det : Nat) : Prog := fun s =>
  let wr := s.get F.TWV_CAP_WR_N
  let full := (wr + 256 - s.get F.TWV_CAP_RD_N) % 256 == 128
  let trigger (stored : Bool) : Eff :=
    updTwv fun w => { w with trigAt := setAt w.trigAt det (some s.b.cyc) none,
                             trig := modAt w.trig det (· ++ [{ num := wr, stored := stored }]) [] }
  if full && s.on F.TWV_CTRL_STOP_FULL then
    [.inc F.TWV_CNT_CAPDROP_N 1, .sticky F.TWV_STICKY_CAP_DROP, .led 0x7043 0 [det, wr], trigger false]
  else
    effIf full [.set F.TWV_CAP_RD_N ((s.get F.TWV_CAP_RD_N + 1) % 256)]
    ++ [.set F.TWV_CAP_WR_N ((wr + 1) % 256), setBit s F.TWV_STATUS_CAPTURING det, trigger true]

/-- y of the sample `i` places before the newest one: its code less the code D samples earlier (R336). -/
def frontAt (h : List (Int × Nat × Bool)) (d i : Nat) : Int := (h.getD i (0, 0, false)).1 - (h.getD (i + d) (0, 0, false)).1

/-- The newest sample of a stream triggers the detector: |y| exceeds THR, and no gap lies within the previous D + 8 samples
(R336). -/
def frontRises (s : State) (det : Nat) (h : List (Int × Nat × Bool)) : Bool :=
  let d := s.cur (F.TWV_DET_CFG_D det)
  decide (d < h.length) && decide (s.cur (F.TWV_DET_CFG_THR det) < (frontAt h d 0).natAbs) && !(h.take (d + 9)).any (·.2.2)

/-- A detector takes a sample; it may trigger once its hold-off has passed and no capture of its own is in progress
(R336). -/
def detTake (det : Nat) (code : Int) (late : Bool) (t : Nat) : Prog := fun s =>
  let h := ((code, t, late || s.b.twv.miss.testBit det) :: s.b.twv.hist.getD det []).take 2048
  let held := (s.b.twv.trigAt.getD det none).any fun c => s.b.cyc < c + usCyc (s.cur (F.TWV_DET_HOLD_US det))
  let busy := (s.b.twv.trig.getD det []).any (·.stored)
  thenDo
    [updTwv fun w => { w with
      hist := setAt w.hist det h []
      miss := clearBit w.miss det
      trig := modAt w.trig det (fun q => q.map fun g => { g with after := g.after + 1 }) [] }]
    (onlyIf (fun _ => !busy && !held && frontRises s det h) (captureStart det)) s

/-- A result of channel `n` reaches the detectors that act on it. -/
def twvTake (n : Nat) (code : Int) (late : Bool) (t : Nat) : Prog := fun s =>
  inOrder (((List.range 8).filter fun k => (s.get F.TWV_STATUS_ACTIVE).testBit k && s.cur (F.TWV_DET_CFG_CH k) == n).map
    fun k => detTake k code late t) s

end Sys2Proof.Machine
end

