-- ==== Sys2Proof/Machine/PhsEst.lean ====
section
/-! DEFINITION. The estimates of the phasor sets: resampling, demodulation, windows, symmetrical components, frequency and
rate of change of frequency (R320 to R323). The spec names the forms; where it leaves one open, log entry 27 says which the
model takes. -/

namespace Sys2Proof.Machine

/-! ### Numbers -/

/-- sin and cos of an angle in 2^-40 π rad within [−π, π). -/
def sin40 (a : Int) : Rat := (sinPi (a * 2 ^ 20) : Rat) / 1099511627776
def cos40 (a : Int) : Rat := sin40 (let b := a + 2 ^ 39; if 2 ^ 40 ≤ b then b - 2 ^ 41 else b)

/-- The angle of a point of the first quadrant in 2^-40 π rad, its bits found from the highest of `n` down. -/
def fineBits (y x : Rat) : Nat → Int → Int
  | 0, a => a
  | n + 1, a =>
    let b := a + (2 ^ n : Nat)
    fineBits y x n (if x * sin40 b ≤ y * cos40 b then b else a)

/-- An angle in 2^-40 π rad wrapped into [−π, π). -/
def wrap40 (a : Int) : Int := (a + 2 ^ 40) % 2 ^ 41 - 2 ^ 40

/-- The angle of a vector other than zero in 2^-40 π rad. -/
def angle40 (v : Rat × Rat) : Int :=
  let a := fineBits (if v.2 < 0 then -v.2 else v.2) (if v.1 < 0 then -v.1 else v.1) 40 0
  let b := if v.1 < 0 then 2 ^ 40 - a else a
  wrap40 (if v.2 < 0 then -b else b)

/-- Round to nearest, ties to even. -/
def roundEven (x : Rat) : Nat :=
  let n := x.floor.toNat
  let r := x - n
  if r < 1 / 2 then n else if 1 / 2 < r then n + 1 else n + n % 2

/-- IEEE 754 single precision (R327). -/
def single (x : Rat) : Nat :=
  let a := if x < 0 then -x else x
  let e0 : Int := (Nat.log2 a.num.toNat : Int) - Nat.log2 a.den
  let e1 := if a < pow2 e0 then e0 - 1 else e0
  let e := if e1 < -126 then -126 else e1
  let bits := (e + 126).toNat * 2 ^ 23 + roundEven (a / pow2 (e - 23))
  (if x < 0 then 2 ^ 31 else 0) + (if a = 0 then 0 else if 0x7F800000 ≤ bits then 0x7F800000 else bits)

/-! ### Resampling (R320) -/

/-- A sample: its corrected instant in timebase units, its value, clipped or suspect. -/
abbrev PhsSample := Int × Rat × Bool

/-- The two samples after an instant and the two at or before it, of a list with the newest first. -/
def bracket (x : Rat) : List PhsSample → Option (List PhsSample)
  | [] => none
  | a :: l =>
    match l with
    | b :: c :: d :: _ =>
      if (c.1 : Rat) ≤ x then (if x ≤ b.1 then some [a, b, c, d] else none) else bracket x l
    | _ => none

/-- The cubic through four samples at an instant. -/
def cubic (x : Rat) (q : List PhsSample) : Rat :=
  (q.map fun a => (q.filter (· != a)).foldl (fun p b => p * (x - b.1) / (a.1 - b.1)) a.2.1).foldl (· + ·) 0

/-- The value of a channel at an instant, where the samples around it have come. -/
def resample (l : List PhsSample) (x : Rat) : Option Rat := (bracket x l).map (cubic x)

/-! ### Windows and demodulation (R322) -/

/-- Half the window in timebase units: P class 2 nominal cycles; M class round(6 × f_nom / F_s), at least 4. -/
def halfWindow (s : State) (k : Nat) : Rat :=
  let cycles : Int := if s.curOn (F.PHS_SET_CFG_CLASS k) then max 4 (roundDiv (6 * phsNom s) (s.cur F.PHS_RATE_FS)) else 2
  cycles * tuSec / (2 * phsNom s : Nat)

/-- The weight at a distance from the centre of the window: triangular, or the Hamming-weighted low-pass with cutoff
F_s / 4. -/
def weight (s : State) (k : Nat) (d : Rat) : Rat :=
  let h := halfWindow s k
  if s.curOn (F.PHS_SET_CFG_CLASS k) then
    let a : Rat := d * s.cur F.PHS_RATE_FS / (2 * tuSec : Nat)
    let sinc := if a = 0 then 1
      else sin40 (wrap40 (roundRat (a * 2 ^ 40))) / (a * ((piFix : Rat) / 2 ^ 60))
    sinc * (54 / 100 + 46 / 100 * cos40 (wrap40 (roundRat (d / h * 2 ^ 40))))
  else 1 - (if d < 0 then -d else d) / h

/-- √2, √3 / 2. -/
def root2 : Rat := 141421356237309504880 / 100000000000000000000
def halfRoot3 : Rat := 86602540378443864676 / 100000000000000000000

/-- The phasor of a phase at an instant in timebase units: the complex demodulation of the stream at 256 × f_nom, RMS,
against a cosine that is at 0 at each second boundary. -/
def phasorAt (s : State) (k x : Nat) (centre : Rat) : Option (Rat × Rat) :=
  let step : Rat := tuSec / (256 * phsNom s : Nat)
  let lo := ((centre - halfWindow s k) / step).ceil
  let hi := ((centre + halfWindow s k) / step).floor
  let l := s.b.phs.buf.getD (3 * k + x) []
  let sum := (List.range (hi - lo + 1).toNat).foldl (fun o i =>
    let n := lo + i
    match o, resample l (n * step) with
    | some (re, im, w), some v =>
      let g := weight s k (n * step - centre)
      let a := wrap40 (n % 256 * 2 ^ 33)
      some (re + g * v * cos40 a, im - g * v * sin40 a, w + g)
    | _, _ => none) (some (0, 0, 0))
  sum.map fun q => (root2 * q.1 / q.2.2, root2 * q.2.1 / q.2.2)

/-! ### Estimates (R321, R323, R327) -/

/-- The phase phasors A, B and C at an instant. -/
def phasesAt (s : State) (k : Nat) (centre : Rat) : Option (List (Rat × Rat)) :=
  match phasorAt s k 0 centre, phasorAt s k 1 centre, phasorAt s k 2 centre with
  | some a, some b, some c => some [a, b, c]
  | _, _, _ => none

/-- A vector turned by a third of a turn forward `m` times. -/
def third (m : Nat) (v : Rat × Rat) : Rat × Rat :=
  match m % 3 with
  | 0 => v
  | 1 => (-v.1 / 2 - halfRoot3 * v.2, halfRoot3 * v.1 - v.2 / 2)
  | _ => (-v.1 / 2 + halfRoot3 * v.2, -(halfRoot3 * v.1) - v.2 / 2)

/-- A symmetrical component: B turned `m` times and C turned `2m` times. -/
def component (m : Nat) (p : List (Rat × Rat)) : Rat × Rat :=
  let a := p.getD 0 (0, 0)
  let b := third m (p.getD 1 (0, 0))
  let c := third (2 * m) (p.getD 2 (0, 0))
  ((a.1 + b.1 + c.1) / 3, (a.2 + b.2 + c.2) / 3)

/-- The magnitude of a vector. -/
def phasorMag (v : Rat × Rat) : Rat := ratSqrt (v.1 * v.1 + v.2 * v.2)

/-- The window of a set around an instant holds an interval of more than 50 µs between results of a channel (R321). -/
def windowSlow (s : State) (k : Nat) (centre : Rat) : Bool :=
  (List.range 3).any fun x =>
    let ts : List Int := [(s.b.tim.t : Int)] ++ (s.b.phs.buf.getD (3 * k + x) []).map (·.1) ++ [-(tuSec : Int)]
    (ts.zip (ts.drop 1)).any fun p =>
      decide (50000 * (tuNs : Int) < p.1 - p.2 ∧ centre - halfWindow s k ≤ p.1 ∧ p.2 ≤ centre + halfWindow s k)

/-- The window holds a clipped result or one of a suspect converter (R328). -/
def windowFault (s : State) (k : Nat) (centre : Rat) : Bool :=
  (List.range 3).any fun x => (s.b.phs.buf.getD (3 * k + x) []).any fun q =>
    q.2.2 && decide (centre - halfWindow s k ≤ q.1 ∧ q.1 ≤ centre + halfWindow s k)

/-- A phasor channel in single precision; the angle of a zero phasor is free. -/
def channelOf (free : Nat) (v : Rat × Rat) : PhasorCh :=
  { re := single v.1
    im := single v.2
    mag := single (phasorMag v)
    ang := if v = (0, 0) then free % 2 ^ 32 else single (angle40 v * (piFix : Rat) / 2 ^ 100) }

/-- A slot word with a given exponent and a free mantissa. -/
def openSlot (e : Int) (n : Nat) : Nat := slotWord (n % 2 ^ 24 : Nat) e

/-- The estimates of set `k` for an instant, without those of f and ROCOF; `free n` are free words. -/
def estimate (s : State) (k : Fin 4) (free : Nat → Nat) (p : List (Rat × Rat)) (f rocof : Rat) : PhasorEst :=
  let e := slotE (s.cur (F.FAD_CH_FS_FS (phsChannel s.cur k 0)))
  let pos := component 1 p
  { set := k
    chans := (p ++ [pos]).zipIdx.map fun q => channelOf (free q.2) q.1
    mag := slotOf e (phasorMag pos)
    ang := if pos = (0, 0) then openSlot 0 (free 4) else slotOf 0 (angle40 pos / 2 ^ 40)
    neg := slotOf e (phasorMag (component 2 p))
    zero := slotOf e (phasorMag (component 0 p))
    f := slotOf 7 f
    rocof := slotOf 5 rocof
    fWord := single f
    rocofWord := single rocof }

/-- The angle of X+ at an instant in units of 2^-40 π rad; free for a zero vector. -/
def posAngle (free : Nat) (p : List (Rat × Rat)) : Int :=
  if component 1 p = (0, 0) then wrap40 free else angle40 (component 1 p)

/-- The estimates of a set for a frame instant: f and ROCOF from the angles at 1 ms and 2 ms to both sides; where a result
that the window needs has not come, the estimates are free in their formats (R322, R323). -/
def setEstimate (s : State) (k : Fin 4) (t : Nat) : PhasorEst :=
  let ms : Rat := 1000000 * tuNs
  let free (n : Nat) : Nat := fresh s (16 * k + n)
  let marks (e : PhasorEst) : PhasorEst := { e with slow := windowSlow s k t, fault := windowFault s k t }
  marks (match phasesAt s k t, phasesAt s k (t + ms), phasesAt s k (t - ms), phasesAt s k (t + 2 * ms), phasesAt s k (t - 2 * ms) with
    | some p, some a, some b, some c, some d =>
      let turn1 : Rat := wrap40 (posAngle (free 5) a - posAngle (free 6) b)
      let turn2 : Rat := wrap40 (posAngle (free 7) c - posAngle (free 8) p) - wrap40 (posAngle (free 8) p - posAngle (free 9) d)
      estimate s k free p (phsNom s + turn1 / 2 ^ 40 * 250) (turn2 / 2 ^ 40 * 125000)
    | _, _, _, _, _ =>
      let w (n : Nat) : Nat := free n % 2 ^ 32
      let e := slotE (s.cur (F.FAD_CH_FS_FS (phsChannel s.cur k 0)))
      { set := k
        chans := (List.range 4).map fun c => { re := w c, im := w (4 + c), mag := w (8 + c), ang := w (12 + c) }
        mag := openSlot e (w 0), ang := openSlot 0 (w 1), neg := openSlot e (w 2), zero := openSlot e (w 3)
        f := openSlot 7 (w 4), rocof := openSlot 5 (w 5), fWord := w 6, rocofWord := w 7 })

/-- The estimates of a set for an instant are available: half the window and 3 ms after it (R322). -/
def setReady (s : State) (k t : Nat) : Bool := decide ((t : Rat) + halfWindow s k + 3000000 * (tuNs : Nat) ≤ (s.b.tim.t : Rat))

end Sys2Proof.Machine
end

