-- ==== Sys2Proof/Machine/Met.lean ====
section
/-! DEFINITION. Energy metrology: samples, accumulators, per-cycle quantities, the check converter, freezes, pulses,
the supply-loss watch, calibration (R295 to R319). The block lies on the power die. -/

namespace Sys2Proof.Machine

def updMet (g : Met → Met) : Eff := .upd fun b => { b with met := g b.met }
def updKeep (g : MetKeep → MetKeep) : Eff := updMet fun m => { m with keep := g m.keep }

/-- The main die hears the power die. -/
def dieLinkOk (s : State) : Bool := !s.on F.SYS_GUAR_DIE_LINK && !s.b.sys.inReset

/-- A command on a power-die page: without effect while the die-to-die path has failed (R14). -/
def onPages (p : Prog) : Prog := onlyIf dieLinkOk p

/-! ### Samples (R295, R299, R300) -/

/-- The count of a differential input in nanovolts, before its limits. -/
def metCode (nv : Int) : Int := roundDiv (nv * 8388608) 500000000

/-- The temperature that a channel's table uses, in °C (R300). -/
def tcTemp (s : State) (c : Nat) : Rat :=
  if s.curOn (F.MTC_CAL_TC_TSRC c) && !s.on F.MTC_STATUS_TEXT_STALE then (s.int F.MTC_TEXT_T : Rat) / 16
  else (s.b.met.tdie : Rat) / 16

/-- Linear interpolation in the first `n` entries of a table, the end entries beyond it. -/
def tableAt (t y : Nat → Rat) (n : Nat) (x : Rat) : Rat :=
  if n = 0 then 0
  else if x ≤ t 0 then y 0
  else match (List.range (n - 1)).find? fun k => decide (x ≤ t (k + 1)) with
    | some k => y k + (y (k + 1) - y k) * (x - t k) / (t (k + 1) - t k)
    | none => y (n - 1)

/-- g_T and φ_T of a channel, φ_T in 0.001 degree. -/
def tcGain (s : State) (c : Nat) : Rat :=
  if !s.on F.MTC_CTRL_ENABLE then 0
  else tableAt (fun k => s.curInt (F.MTC_TC_T c k)) (fun k => s.curInt (F.MTC_TC_GAIN c k)) (s.cur (F.MTC_CAL_TC_N c))
    (tcTemp s c) * 2 / 1000000
def tcPhase (s : State) (c : Nat) : Rat :=
  if !s.on F.MTC_CTRL_ENABLE then 0
  else tableAt (fun k => s.curInt (F.MTC_TC_T c k)) (fun k => s.curInt (F.MTC_TC_PHASE c k)) (s.cur (F.MTC_CAL_TC_N c))
    (tcTemp s c)

/-- Full scale of a channel; MCX takes that of the channel it visits. -/
def metFs (s : State) (c : Nat) : Rat := slotVal (s.cur (F.MTC_CAL_FS_FS (if c = 7 then s.b.met.mcx else c)))

/-- The history of a channel. -/
def metHist (s : State) (c : Nat) : List Rat := s.b.met.hist.getD c []

/-- The sample of a channel for a code, with offset, scale and gain corrected: steps 1 to 3 of R299. -/
def metScaled (s : State) (c : Nat) (code : Int) : Rat :=
  ((code - s.curInt (F.MTC_CAL_PHO_OFS c) : Int) : Rat) * metFs s c / 8388608
    * (1 + (s.curInt (F.MTC_CAL_GAIN_DEV c) : Rat) / 16777216 + tcGain s c)

/-- The corrected sample of a channel for a code: step 4 of R299 shifts the stream of its scaled samples. -/
def metSample1 (s : State) (c : Nat) (code : Int) : Rat :=
  let x := metScaled s c code
  let sh := (s.curInt (F.MTC_CAL_PHO_PHASE c) : Rat) + tcPhase s c
  if metFs s c = 0 then 0 else if sh = 0 then x else Config.metShift sh x (s.b.met.stream.getD c [])

/-- The corrected samples of a sub-interval; parked MCX samples replace those of their channel (R307). -/
def metSamples (s : State) (codes : List Int) : List Rat :=
  let xs := (List.range 8).map fun c => metSample1 s c (codes.getD c 0)
  if s.b.met.subst then xs.set s.b.met.mcx (xs.getD 7 0) else xs

/-- A sample joins each of the eight streams, which are kept for `n` samples. -/
def pushAll (n : Nat) (xs : List Rat) (hs : List (List Rat)) : List (List Rat) :=
  (List.range 8).map fun c => (xs.getD c 0 :: hs.getD c []).take n

/-- The mean product of two streams over a cycle, the first delayed by `d` samples. -/
def meanProd (a b : List Rat) (d : Nat) : Rat :=
  ((List.range 256).foldl (fun n k => n + a.getD (k + d) 0 * b.getD k 0) 0) / 256

/-- RMS of a channel over the last 256 samples. -/
def metRms (s : State) (c : Nat) : Rat := ratSqrt (meanProd (metHist s c) (metHist s c) 0)

/-- P, Q and S of a phase over the last 256 samples (R302, R308); phase 3 is the total. -/
def phaseP (s : State) (x : Nat) : Rat := meanProd (metHist s x) (metHist s (x + 3)) 0
def phaseQ (s : State) (x : Nat) : Rat := meanProd (metHist s x) (metHist s (x + 3)) 64
def phaseS (s : State) (x : Nat) : Rat := metRms s x * metRms s (x + 3)
/-- The fundamental phasor of a channel over the last 256 samples, X = (2/256) Σ x_k e^(−j2πk/256) (R302). -/
def fundamental (s : State) (c : Nat) : Rat × Rat :=
  let h := metHist s c
  let sum := (List.range 256).foldl (fun (q : Rat × Rat) k =>
    let x := h.getD (255 - k) 0
    if x = 0 then q
    else (q.1 + x * cos40 (wrap40 (k * 2 ^ 33)), q.2 - x * sin40 (wrap40 (k * 2 ^ 33)))) (0, 0)
  (2 * sum.1 / 256, 2 * sum.2 / 256)

/-- The angle of a fundamental phasor in 2^-40 π; the spec states none for a phasor of 0 (log entry 3). -/
def argOf (free : Nat) (v : Rat × Rat) : Int := if v = (0, 0) then wrap40 free else angle40 v

/-- The difference of two angles in (−π, π], as the word of a slot. -/
def metAngle (a b : Int) : Nat :=
  let d := wrap40 (a - b)
  slotOf 0 (((if d = -(2 ^ 40) then 2 ^ 40 else d : Int) : Rat) / 2 ^ 40)

/-- The angles V–I of L1 to L3, V2–V1 and V3–V1 (R302). -/
def cycleAngles (s : State) : List Nat :=
  let arg (c : Nat) : Int := argOf (fresh s c) (fundamental s c)
  let args := (List.range 6).map arg
  let g (k : Nat) : Int := args.getD k 0
  [metAngle (g 0) (g 3), metAngle (g 1) (g 4), metAngle (g 2) (g 5), metAngle (g 1) (g 0), metAngle (g 2) (g 0)]

/-- |V1 + V2 + V3| / 3, |V+| and |I1 + I2 + I3| of the fundamental phasors (R305). -/
def cycleSequence (s : State) : Rat × Rat × Rat :=
  let v := (List.range 3).map (fundamental s)
  let i := (List.range 3).map fun x => fundamental s (x + 3)
  (phasorMag (component 0 v), phasorMag (component 1 v), 3 * phasorMag (component 0 i))

def withTotal (f : Nat → Rat) : List Rat := [f 0, f 1, f 2, f 0 + f 1 + f 2]

/-! ### Accumulators (R308 to R310) -/

/-- The cycle length in seconds. -/
def metT (s : State) : Rat := s.b.met.t.getD (if s.on F.MET_CTRL_F60 then 1 / 60 else 1 / 50)

/-- An increment in units (µWh) enters an accumulator: whole units are added modulo 2^72, the rest is carried. -/
def accAdd (a : Nat) (e : Rat) : Prog := fun s =>
  let k := s.b.met.keep
  let x := k.rem.getD a 0 + e
  let old := k.acc.getD a 0
  let new := (((old : Int) + x.floor) % (2 ^ 72 : Int)).toNat
  let wrapped := new / 2 ^ 64 != old / 2 ^ 64
  [updKeep fun k => { k with acc := setAt k.acc a new 0, rem := setAt k.rem a (x - x.floor) 0 }]
  ++ effIf wrapped [.sticky F.MET_STICKY_WRAP, .led 0x6807 0 [a, new / 2 ^ 64]]

/-- The waiting presets are loaded (R313). -/
def presetLoad : Prog := fun s =>
  updMet (fun m => { m with presets := [] }) :: s.b.met.presets.flatMap fun p =>
    [updKeep fun k => { k with acc := setAt k.acc p.1 p.2 0 }, .sticky F.MET_STICKY_PRESET, .led 0x6808 0 [p.1, p.2 / 2 ^ 64]]

/-- The increments of one set: 0 to 2 are L1 to L3, 3 the total. -/
def setAdd (x : Nat) (p q v : Rat) (t : Rat) : Prog :=
  let u : Rat := t / 256 * 1000000 / 3600
  let a := 8 * x
  let quad := if 0 < q then (if 0 ≤ p then 2 else 3) else (if p < 0 then 4 else 5)
  inOrder
    [ onlyIf (fun _ => decide (p < 0)) (accAdd a (-p * u)), onlyIf (fun _ => decide (0 < p)) (accAdd (a + 1) (p * u)),
      onlyIf (fun _ => q != 0) (accAdd (a + quad) ((if q < 0 then -q else q) * u)),
      accAdd (a + 6) (v * u), accAdd (a + 7) (p * u) ]

/-! ### Pulses (R315, R316) -/

/-- A pulse output receives the whole units that its accumulator gained. -/
def pulseAdd (p gained : Nat) : Prog := fun s =>
  let thr := s.cur (F.MET_PULSE_THR_THR p)
  let r := s.b.met.keep.res.getD p 0 + gained
  let n := if thr = 0 then 0 else r / thr
  let pend := s.get (F.MET_PULSE_PEND_N p) + n
  if thr = 0 then []
  else [updKeep (fun k => { k with res := setAt k.res p (r % thr) 0 })]
    ++ effIf (n != 0)
        [.set (F.MET_PULSE_PEND_N p) pend,
         updMet fun m => { m with
           addAt := setAt m.addAt p (some s.b.cyc) none
           tau := setAt m.tau p (if n = 1 then (m.addAt.getD p none).map (s.b.cyc - ·) else some 0) none }]
    ++ effIf (1 < pend) [.sticky F.MET_STICKY_PULSE_BACKLOG]

/-- The whole units gained by an accumulator since a state. -/
def gainedSince (s0 s : State) (a : Nat) : Nat :=
  (s.b.met.keep.acc.getD a 0 + 2 ^ 72 - s0.b.met.keep.acc.getD a 0) % 2 ^ 72

/-- The committed pulse group comes into force at a sub-interval; a changed IDX clears the residue and PEND. -/
def pulseAdopt : Prog := fun s =>
  if !groupDue s .metPulse then []
  else
    let moved := (List.range 4).filter fun p => s.pend (F.MET_PULSE_CFG_IDX p) != s.cur (F.MET_PULSE_CFG_IDX p)
    let off := (List.range 4).filter fun p => s.pend (F.MET_PULSE_CFG_EN p) == 0
    adoptGroup .metPulse 0x60080 0x600A0
      ++ moved.flatMap (fun p => [.set (F.MET_PULSE_PEND_N p) 0, updKeep fun k => { k with res := setAt k.res p 0 0 }])
      ++ (off.filter fun p => s.b.met.out.getD p false).map fun p =>
          updMet fun m => { m with out := setAt m.out p false false, edgeAt := setAt m.edgeAt p s.b.cyc 0 }

/-- The high time of a pulse in CLK_FAB cycles: min(WIDTH, τ/2), at least 1 ms; WIDTH before there has been a τ
(R316, log entry 30). -/
def pulseHigh (s : State) (p : Nat) : Nat :=
  let w := usCyc (1000 * s.cur (F.MET_PULSE_CFG_WIDTH p))
  max (usCyc 1000) ((s.b.met.tau.getD p none).elim w fun t => min w (t / 2))

/-- MCLK runs: it is absent while the main die is in reset (R296). -/
def mclkOn (s : State) : Bool := s.b.met.mclk && !s.b.sys.inReset

/-- PULSE_START: PEND is at least 1 and the output has been low for h (R316); PULSE2 and PULSE3 serve an arbiter (R390). -/
def pulseStart (p : Nat) : Prog := fun s =>
  if s.get (F.MET_PULSE_PEND_N p) = 0 ∨ s.curOn (F.MET_PULSE_CFG_EN p) = false ∨ mclkOn s = false
      ∨ s.b.met.out.getD p false = true ∨ s.b.cyc < s.b.met.edgeAt.getD p 0 + pulseHigh s p ∨ (2 ≤ p ∧ s.on F.BUT_ARB_CTRL_EN = true) then []
  else [.set (F.MET_PULSE_PEND_N p) (s.get (F.MET_PULSE_PEND_N p) - 1),
        updMet fun m => { m with
          out := setAt m.out p true false, high := setAt m.high p (pulseHigh s p) 0, edgeAt := setAt m.edgeAt p s.b.cyc 0 }]

/-- PULSE_END: the high time of the pulse has passed (R316). -/
def pulseEnd (p : Nat) : Prog := fun s =>
  effIf (s.b.met.out.getD p false && decide (s.b.met.edgeAt.getD p 0 + s.b.met.high.getD p 0 ≤ s.b.cyc))
    [updMet fun m => { m with out := setAt m.out p false false, edgeAt := setAt m.edgeAt p s.b.cyc 0 }]

/-! ### The sub-interval -/

/-- Metrology runs. -/
def metRuns (s : State) : Bool := s.on F.MET_CTRL_ENABLE && mclkOn s

/-- METROLOGY_SUBINTERVAL: the differential inputs of the eight channels in nanovolts (R295, R299, R308); a cycle has 256 of
them (R297). -/
def subInterval (nv : List Int) : Prog := fun s0 =>
  let codes := (List.range 8).map fun c => metCode (nv.getD c 0)
  let clipped := (List.range 8).filter fun c => decide (codes.getD c 0 < -8388608 ∨ 8388607 < codes.getD c 0)
  let limited := codes.map (clampInt (-8388608) 8388607)
  if !metRuns s0 || decide (256 ≤ s0.b.met.subs) then []
  else inOrder
    [ pulseAdopt,
      fun s => effIf (!clipped.isEmpty)
          (.sticky F.MET_STICKY_CLIP :: raise s F.MET_CLIP_CH (clipped.foldl withBit 0))
        ++ [updMet fun m => { m with
              frozen := false, subPassed := true, subs := m.subs + 1, hist := pushAll 320 (metSamples s limited) m.hist,
              stream := pushAll 320 ((List.range 8).map fun c => metScaled s c (limited.getD c 0)) m.stream }],
      presetLoad,
      fun s1 => inOrder
        ([ fun s =>
             let ps := withTotal (phaseP s)
             let qs := withTotal (phaseQ s)
             let vs := withTotal (phaseS s)
             inOrder ((List.range 4).map fun x => setAdd x (ps.getD x 0) (qs.getD x 0) (vs.getD x 0) (metT s)) s ]
          ++ (List.range 4).map fun p => fun s =>
              pulseAdd p (gainedSince s1 s (s.cur (F.MET_PULSE_CFG_IDX p))) s) s1 ] s0

/-! ### The cycle end (R297, R298, R302 to R307) -/

/-- V_nom. -/
def metVnom (s : State) : Rat := slotVal (s.cur F.MET_VNOM_V)

/-- The voltage whose zero crossings set T: the named one, or the lowest above VMIN × V_nom (R297, R298). -/
def trackRef (s : State) : Option Nat :=
  let lim := (s.cur F.MET_CFG_VMIN : Rat) / 256 * metVnom s
  let fref := s.cur F.MET_CFG_FREF
  let cand := if fref = 0 then [0, 1, 2] else [fref - 1]
  if metVnom s = 0 then none else cand.find? fun x => decide (lim < metRms s x)

/-- The tracker at a cycle boundary with the measured cycle length in nanoseconds. -/
def track (meas : Nat) : Prog := fun s =>
  let old := metT s
  let x : Rat := (meas : Rat) / 1000000000
  let lo : Rat := 1 / 69
  let hi : Rat := 10 / 425
  let out := decide (x < lo ∨ hi < x)
  let y := if x < lo then lo else if hi < x then hi else x
  let z := if y < old * 999 / 1000 then old * 999 / 1000 else if old * 1001 / 1000 < y then old * 1001 / 1000 else y
  match trackRef s with
  | none => [.set F.MET_STATUS_F_HOLD 1]
  | some _ =>
    [.set F.MET_STATUS_F_HOLD 0, .set F.MET_STATUS_F_RANGE (bit out), updMet fun m => { m with t := some z }]
    ++ effIf (out && !s.on F.MET_STATUS_F_RANGE)
        [.sticky F.MET_STICKY_F_RANGE, .led 0x6806 0 [1000000000000 / max meas 1]]

/-- An angle slot word lies within 30 degrees of `d` degrees. -/
def nearDeg (w : Nat) (d : Int) : Bool :=
  decide ((-(1 : Rat) / 6 ≤ slotVal w - (d : Rat) / 180) ∧ (slotVal w - (d : Rat) / 180 ≤ 1 / 6))

/-- The phase sequence (R304). -/
def seqOf (s : State) : Nat :=
  let e := cycleAngles s
  let a := e.getD 3 0
  let b := e.getD 4 0
  if metVnom s = 0 ∨ ((List.range 3).any fun x => decide (metRms s x ≤ metVnom s / 2)) = true then 0
  else if nearDeg a (-120) && nearDeg b 120 then 1
  else if nearDeg a 120 && nearDeg b (-120) then 2
  else 0

/-- A condition that must persist: the count of cycles and whether its status bit is set. -/
def persist (cond : Bool) (run n : Nat) : Nat := if cond then min (run + 1) n else 0

/-- Sequence, missing neutral, neutral mismatch (R304, R305). -/
def detections : Prog := fun s =>
  let m := s.b.met
  let e := cycleSequence s
  let seq := seqOf s
  let sr := if seq = 2 then min (m.seqRun + 1) 11 else 0
  let n := s.cur F.MET_DET_N
  let test := s.on F.MET_CTRL_WIRES4 && metVnom s != 0 && n != 0
  let mnThr := s.cur F.MET_DET_MN_THR
  let mn := test && mnThr != 0 && decide ((mnThr : Rat) / 256 * metVnom s < e.1)
    && decide (metVnom s * 8 / 10 < e.2.1)
  let d := metRms s 6 - e.2.2
  let ad := if d < 0 then -d else d
  let inn := test && s.cur F.MET_DET_IN_THR != 0 && decide ((s.cur F.MET_DET_IN_THR : Rat) / 10 < ad)
  let mr := persist mn m.mnRun n
  let ir := persist inn m.inRun n
  let mnOn := mn && mr == n
  let inOn := inn && ir == n
  [.set F.MET_STATUS_SEQ seq, .set F.MET_STATUS_MISSING_N (bit mnOn), .set F.MET_STATUS_NEUT_MISMATCH (bit inOn),
   updMet fun m => { m with seqRun := sr, mnRun := mr, inRun := ir }]
  ++ effIf (sr == 10) [.sticky F.MET_STICKY_REV_SEQ, .led 0x6803 0 [seq]]
  ++ effIf (mnOn && !s.on F.MET_STATUS_MISSING_N)
      [.sticky F.MET_STICKY_MISSING_N, .led 0x6804 0 [(roundRat (e.1 * 256 / metVnom s)).toNat]]
  ++ effIf (inOn && !s.on F.MET_STATUS_NEUT_MISMATCH)
      [.sticky F.MET_STICKY_NEUT_MISMATCH, .led 0x6805 0 [(roundRat (ad * 10)).toNat]]

/-- The next channel that MCX visits (R306). -/
def mcxNext (s : State) : Nat :=
  let c := (s.b.met.mcx + 1) % 7
  if c = 6 ∧ s.on F.MET_CTRL_WIRES4 = false then 0 else c

/-- A visit without a run of mismatches ends (R307). -/
def visitClear : Prog := fun s =>
  let c := s.b.met.mcx
  [updMet fun m => { m with mcx := mcxNext s, mcxN := 0, mcxRun := 0 }]
  ++ effIf ((s.get F.MET_STATUS_SUSPECT).testBit c) [clrBit s F.MET_STATUS_SUSPECT c, .led 0x6802 0 [c]]

/-- MCX at a cycle end (R306, R307); a threshold of 0 declares no mismatch (R9). A park that UNPARK ended gives way to the
visit of the next channel; without visits the running one ends, and a later one of its channel starts anew
(log entry 30). -/
def mcxCycle : Prog := fun s =>
  let m := s.b.met
  let c := m.mcx
  let xm := metRms s 7
  let floor_ := metFs s c / 100
  let den := if floor_ < xm then xm else floor_
  let d := metRms s c - xm
  let ppm := if den ≤ 0 then 0 else (if d < 0 then -d else d) * 1000000 / den
  let bad := m.mcxN != 0 && s.cur F.MET_CHK_THR != 0 && decide ((s.cur F.MET_CHK_THR : Rat) < ppm)
  let run := if bad then m.mcxRun + 1 else 0
  let n := s.cur F.MET_CHK_N
  let visit := s.cur F.MET_CHK_VISIT
  if m.unpark then [updMet fun m => { m with unpark := false, mcx := mcxNext s, mcxN := 0, mcxRun := 0, subst := false }]
  else if visit = 0 ∨ s.on F.MET_STATUS_CHK_PARKED = true then
    [updMet fun m => { m with mcxN := 0, mcxRun := 0, subst := s.on F.MET_STATUS_CHK_PARKED && s.curOn F.MET_CHK_SUBST }]
  else if n ≠ 0 ∧ bad ∧ n ≤ run then
    [setBit s F.MET_STATUS_SUSPECT c, .sticky F.MET_STICKY_CHK_MISMATCH,
     .led 0x6801 0 [c, (roundRat ppm).toNat], .set F.MET_STATUS_CHK_PARKED 1,
     updMet fun m => { m with mcxRun := run, subst := s.curOn F.MET_CHK_SUBST }]
  else thenDo [updMet fun m => { m with mcxN := m.mcxN + 1, mcxRun := run, subst := false }]
    (onlyIf (fun _ => visit ≤ m.mcxN + 1) visitClear) s

/-- MCX_UNPARK: the park ends; the next visit starts at the next cycle boundary (R306, R307). -/
def mcxUnpark : Prog := fun s =>
  effIf (s.on F.MET_STATUS_CHK_PARKED) [.set F.MET_STATUS_CHK_PARKED 0, updMet fun m => { m with unpark := true }]

/-- The 32 values of a cycle (R303). -/
def cycleVals (s : State) (t : Rat) (cycle : Nat) : List Nat :=
  let ps := withTotal (phaseP s)
  let qs := withTotal (phaseQ s)
  let vs := withTotal (phaseS s)
  let pow (l : List Rat) : List Nat := [slotOf 24 (l.getD 0 0), slotOf 24 (l.getD 1 0), slotOf 24 (l.getD 2 0), slotOf 25 (l.getD 3 0)]
  (List.range 3).map (fun x => slotOf 11 (metRms s x)) ++ (List.range 3).map (fun x => slotOf 14 (metRms s (x + 3)))
    ++ pow ps ++ pow qs ++ pow vs
    ++ (List.range 4).map (fun x => slotOf 1 (if vs.getD x 0 = 0 then 0 else ps.getD x 0 / vs.getD x 0))
    ++ cycleAngles s
    ++ [slotOf 14 (metRms s 6), slotOf 7 (1 / t),
        intSlot (s.get F.MET_STATUS_SEQ + 4 * s.get F.MET_STATUS_MISSING_N + 8 * s.get F.MET_STATUS_NEUT_MISMATCH
          + 16 * s.get F.MET_STATUS_F_HOLD : Nat), intSlot (cycle : Nat), 0]

/-- The committed measurement and calibration groups come into force at a cycle boundary. -/
def cycleAdopt : Prog := fun s =>
  effIf (groupDue s .metMeasure) (adoptGroup .metMeasure 0x60040 0x60050)
  ++ effIf (groupDue s .mtc) (adoptGroup .mtc 0x61200 0x61800)

/-- METROLOGY_CYCLE_END: a mains cycle ends after its 256 sub-intervals; the measured length comes with it. -/
def metCycleEnd (meas : Nat) : Prog := fun s =>
  let cycle := (s.get F.MET_STATUS_CYCLE + 1) % 256
  let t := metT s
  if !metRuns s || s.b.met.subs != 256 then []
  else inOrder
    [ detections, mcxCycle, track meas,
      fun s => [.set F.MET_STATUS_CYCLE cycle,
                updMet fun m => { m with vals := some (cycleVals s t cycle), subPassed := false, subs := 0 }, spend 6],
      cycleAdopt ] s

/-- Metrology at a sample instant: values whose cycle ended at least one sub-interval ago (R303). -/
def metSample : Prog := fun s =>
  match s.b.met.vals with
  | none => []
  | some v =>
    if !s.b.met.subPassed then []
    else thenDo [updMet fun m => { m with vals := none }]
      (onlyIf dieLinkOk (thenDo ((List.range 32).map fun k => .set (F.MET_VAL_VAL k) (v.getD k 0))
        (writeSlots ((List.range 32).map fun k => (0xC0 + k, v.getD k 0))))) s

/-! ### The metrology clock (R296) -/

/-- MCLK_LOSS: the converters stop and the pulse outputs are low (R296, R316). -/
def mclkLoss : Prog := fun s =>
  effIf s.b.met.mclk
    [.set F.MET_STATUS_RUN 0, updMet fun m => { m.low s.b.cyc with mclk := false, mclkAt := s.b.cyc }]

/-- MCLK_GAP: MCLK returns; one record gives the length of the gap in milliseconds, which the spec does not say how to
round: `ms` is it rounded down or up (R296, log entry 30). -/
def mclkGap (ms : Nat) : Prog := fun s =>
  let us := cycUs (s.b.cyc - s.b.met.mclkAt)
  effIf (!s.b.met.mclk && !s.b.sys.inReset && (ms == us / 1000 || ms == (us + 999) / 1000))
    [updMet fun m => { m with mclk := true }, .set F.MET_STATUS_RUN (s.get F.MET_CTRL_ENABLE),
     .led 0x680A 0 [ms]]

/-! ### Freezes, presets, reads (R310, R311, R313, R447) -/

/-- LO, HI and WRAP of a 72-bit value. -/
def accWords (v : Nat) : List Nat := [v % 2 ^ 32, v / 2 ^ 32 % 2 ^ 32, v / 2 ^ 64]

/-- The metrology summary of the freeze bank (R447). -/
def summary : Prog := fun s =>
  let entry (a : Nat) := accWords (s.b.met.keep.frz.getD a 0)
  let head := [s.get (F.MET_FRZ_TS_W_W 0), s.get (F.MET_FRZ_TS_W_W 1), s.get (F.MET_FRZ_TS_W_W 2),
               s.get F.MET_FRZ_CNT_N, s.b.bed.opsec % 2 ^ 32]
  let words := head ++ (List.range 32).flatMap entry
  let q := s.get F.QUE_MET_QUEUE
  if !s.on F.QUE_MET_EN || !dieLinkOk s then []
  else thenDo [if s.on F.QUE_MET_SIGN then .queSign q 5 words else .que q 5 words]
    (onlyIf (fun s => s.on F.QUE_MET_TX_EN && s.on F.RDG_STATUS_JOINED)
      (originate 2 (s.get F.QUE_MET_DEST) 0x23 (pairWords (head ++ (List.range 8).flatMap fun a => entry (24 + a))))) s

/-- A freeze: two causes in one sub-interval make one; with the converters stopped each is a freeze. -/
def freeze : Prog := fun s =>
  let w := stampWords s
  if s.b.met.frozen && metRuns s then []
  else thenDo
    [updMet (fun m => { m with frozen := true, keep := { m.keep with frz := m.keep.acc } }),
     .set (F.MET_FRZ_TS_W_W 0) (w.getD 0 0), .set (F.MET_FRZ_TS_W_W 1) (w.getD 1 0),
     .set (F.MET_FRZ_TS_W_W 2) (w.getD 2 0), .set F.MET_FRZ_CNT_N ((s.get F.MET_FRZ_CNT_N + 1) % 2 ^ 32)]
    summary s

/-- A write that the calibration lock refuses (R301). -/
def mtcRefuse (off : Nat) : List Eff := [.sticky F.MTC_STICKY_LOCK_REJECT, .led 0x680F 0 [off]]

/-- PRESET of an accumulator. -/
def preset (a : Nat) : Prog := fun s =>
  if s.on F.MTC_STATUS_LOCKED then mtcRefuse 0x5C
  else [updMet fun m => { m with
    presets := m.presets ++ [(a, s.get F.MET_PRESET_LO_A + 2 ^ 32 * s.get F.MET_PRESET_HI_A + 2 ^ 64 * s.get F.MET_PRESET_W_W)] }]

/-- A write of MET_CTRL: with ENABLE clear the visit of MCX ends (R306, log entry 30). -/
def metCtrlWrite (v : Nat) : Prog := (writeFields 0x60008 v).andThen fun s =>
  .set F.MET_STATUS_RUN (bit (metRuns s))
    :: effIf (!s.on F.MET_CTRL_ENABLE) [updMet fun m => { m with mcxN := 0, mcxRun := 0 }]

/-- ACC_READ and FRZ_READ: LO is read, HI and WRAP are latched. -/
def accRead (a : Nat) : Prog := fun s =>
  let w := accWords (s.b.met.keep.acc.getD a 0)
  [.set (F.MET_ACC_LO_A a) (w.getD 0 0), .set (F.MET_ACC_HI_A a) (w.getD 1 0), .set (F.MET_ACC_WRAP_W a) (w.getD 2 0)]
def frzRead (a : Nat) : Prog := fun s =>
  let w := accWords (s.b.met.keep.frz.getD a 0)
  [.set (F.MET_FRZ_LO_A a) (w.getD 0 0), .set (F.MET_FRZ_HI_A a) (w.getD 1 0), .set (F.MET_FRZ_WRAP_W a) (w.getD 2 0)]

/-! ### The copy in FRAM (R312) -/

/-- The copy that a save writes. -/
def metCopy (s : State) : MetSaved :=
  { opsec := s.b.bed.opsec, keep := s.b.met.keep, pend := (List.range 4).map fun p => s.get (F.MET_PULSE_PEND_N p),
    watch := (List.range 3).map (fun x => s.get (F.MET_WATCH_AS_AS x)) ++ [s.get F.MET_WATCH_WH_WH, s.get F.MET_WATCH_SEC_S] }

/-- The newer valid of the two copies is restored when Bedrock had lost all sources; `bad` copies, the newest first,
fail their check; without a valid copy each item is 0 (R312, R415). -/
def metRestore (bad : Nat) : Prog := fun s =>
  match s.b.met.saved[bad]? with
  | none =>
    [updKeep fun _ => {}, .set F.MET_WATCH_WH_WH 0, .set F.MET_WATCH_SEC_S 0]
    ++ (List.range 4).map (fun p => .set (F.MET_PULSE_PEND_N p) 0)
    ++ (List.range 3).map fun x => .set (F.MET_WATCH_AS_AS x) 0
  | some c =>
    [updKeep (fun _ => c.keep), .set F.MET_WATCH_WH_WH (c.watch.getD 3 0), .set F.MET_WATCH_SEC_S (c.watch.getD 4 0),
     .sticky F.MET_STICKY_RESTORED, .led 0x6809 0 [c.opsec]]
    ++ (List.range 4).map (fun p => .set (F.MET_PULSE_PEND_N p) (c.pend.getD p 0))
    ++ (List.range 3).map fun x => .set (F.MET_WATCH_AS_AS x) (c.watch.getD x 0)

/-! ### Commits -/

/-- A commit is refused: page 0 = MET, 1 = MTC. -/
def metReject (page off : Nat) : List Eff :=
  [.sticky (if page = 0 then F.MET_STICKY_CFG_REJECT else F.MTC_STICKY_CFG_REJECT), .led 0x680E 0 [page, off]]

/-- MET_COMMIT bits 0 to 2. -/
def metMeasureCommit : Prog := noted (.page 0x60000 0) fun _ => takeGroup .metMeasure 0x60040 0x60050
def metPulseCommit : Prog := noted (.page 0x60000 1) fun s =>
  match (List.range 4).find? fun p => s.get (F.MET_PULSE_CFG_IDX p) % 8 == 7
      || s.get (F.MET_PULSE_CFG_WIDTH p) < 10 || 80 < s.get (F.MET_PULSE_CFG_WIDTH p) with
  | some p => metReject 0 (0x80 + 4 * p)
  | none => takeGroup .metPulse 0x60080 0x600A0
def metFreezeCommit : Prog := noted (.page 0x60000 2) fun _ => takeGroup .metFreeze 0x60050 0x6005C
def metFreezeAdopt : Prog := fun _ => adoptGroup .metFreeze 0x60050 0x6005C

/-- The temperatures of a table's first `n` entries strictly ascend. -/
def ascends (s : State) (c n : Nat) : Bool :=
  (List.range (n - 1)).all fun k => decide (s.int (F.MTC_TC_T c k) < s.int (F.MTC_TC_T c (k + 1)))

/-- MTC_COMMIT bit 0 (R301). -/
def mtcCommit : Prog := noted (.page 0x61000 0) fun s =>
  if s.on F.MTC_STATUS_LOCKED then mtcRefuse 0x1C
  else match (List.range 8).find? fun c => 32 < s.get (F.MTC_CAL_TC_N c) || !ascends s c (s.get (F.MTC_CAL_TC_N c)) with
    | some c => metReject 1 (if 32 < s.get (F.MTC_CAL_TC_N c) then 0x20C + 0x10 * c else 0x400 + 0x80 * c)
    | none => takeGroup .mtc 0x61200 0x61800

/-- The end of a CLK_FAB cycle in which the calibration group was committed: the CAL_COMMIT record holds the check word of
the shadows as they stand (R452, R482). -/
def calRecord : Prog := fun s =>
  effIf (s.b.commitNow.contains .mtc)
    [.led 0x1005 0 [Config.calCrc ((List.range 384).map fun k => regWord s (0x61200 + 4 * k)), s.get F.MTC_STATUS_LOCKED]]

/-- A write of MTC_TEXT (R300). -/
def textWrite (v : Nat) : Prog := fun s =>
  [.set F.MTC_TEXT_T v, .set F.MTC_STATUS_TEXT_STALE 0, updMet fun m => { m with textAt := s.b.cyc }]

/-- TEXT_STALE: MTC_TEXT has not been written for 10 s. The record names the lowest channel that uses it; which it names where
none does, a free value says (R300, log entry 30). -/
def textStale : Prog := fun s =>
  let c := ((List.range 8).find? fun c => s.curOn (F.MTC_CAL_TC_TSRC c)).getD (fresh s 0 % 8)
  effIf (decide (s.b.met.textAt + usCyc 10000000 ≤ s.b.cyc) && !s.on F.MTC_STATUS_TEXT_STALE)
    [.set F.MTC_STATUS_TEXT_STALE 1, .sticky F.MTC_STICKY_TEXT_STALE, .led 0x6810 0 [c], spend 1]

/-! ### The watch (R317, R318) -/

/-- VDD_PWR leaves its window: the watch starts when enabled, and keeps the thresholds that stand there, which the reset
of the power die clears (R488; DESIGN CHOICE, log entry 30). -/
def watchStart : Prog := fun s =>
  effIf (s.on F.MET_CTRL_WATCH_EN)
    [.set F.MET_STATUS_WATCH 1, .set F.MET_WATCH_SEC_S 0,
     updMet fun m => { m with watch := true
                              watchCfg := [s.cur F.MET_WATCH_CFG_THR, s.cur F.MET_WATCH_T_T_S, s.cur F.MET_WATCH_CFG_V_ASSUMED]
                              exceed := [0, 0, 0], event := [none, none, none], overSum := [0, 0, 0] }]

/-- One phase in a second of the watch, RMS in 0.1 A; THR or T_S of 0 raises no events (R318, R9). Its records number the
phases from 1, as MET_WATCH_AS does (R319). -/
def watchPhase (x rms : Nat) : Prog := fun s =>
  let m := s.b.met
  let tot := m.asRem.getD x 0 + rms
  let thr := m.watchCfg.getD 0 0
  let ts := m.watchCfg.getD 1 0
  let above := thr != 0 && thr ≤ rms
  let run := if above then m.exceed.getD x 0 + 1 else 0
  let sum := if above then m.overSum.getD x 0 + rms else 0
  let inEvent := (m.event.getD x none).isSome
  let starts := above && !inEvent && ts != 0 && ts ≤ run
  [.set (F.MET_WATCH_AS_AS x) ((s.get (F.MET_WATCH_AS_AS x) + tot / 10) % 2 ^ 32),
   updMet fun m => { m with
     asRem := setAt m.asRem x (tot % 10) 0, exceed := setAt m.exceed x run 0, overSum := setAt m.overSum x sum 0,
     event := setAt m.event x (if starts then some 0 else if above then m.event.getD x none else none) none }]
  ++ effIf starts [.sticky F.MET_STICKY_WATCH_EVENT, .led 0x680B 0 [x + 1, rms]]
  ++ effIf (!above && inEvent) [.led 0x680C 0 [x + 1, m.overSum.getD x 0 / 10]]

/-- WATCH_TICK: a second of the watch, the RMS of MI1 to MI3 in 0.1 A. -/
def watchTick (rms : List Nat) : Prog := fun s =>
  let sum := rms.getD 0 0 + rms.getD 1 0 + rms.getD 2 0
  let wh := s.b.met.whRem + (sum : Rat) * s.b.met.watchCfg.getD 2 0 / 36000
  if !s.b.met.watch then []
  else inOrder
    [ fun _ => [.set F.MET_WATCH_SEC_S ((s.get F.MET_WATCH_SEC_S + 1) % 2 ^ 32),
                .set F.MET_WATCH_WH_WH ((s.get F.MET_WATCH_WH_WH + wh.floor.toNat) % 2 ^ 32),
                updMet fun m => { m with whRem := wh - wh.floor }],
      watchPhase 0 (rms.getD 0 0), watchPhase 1 (rms.getD 1 0), watchPhase 2 (rms.getD 2 0) ] s

/-- VDD_PWR returns: the watch stops with its summary. -/
def watchStop : Prog := fun s =>
  effIf s.b.met.watch
    [.set F.MET_STATUS_WATCH 0, updMet (fun m => { m with watch := false }),
     .led 0x680D 0 [s.get F.MET_WATCH_SEC_S, s.get F.MET_WATCH_WH_WH]]

def execMetrologySubinterval (nv : List Int) (s : State) : Result := run (onPower (subInterval nv)) s
def execMetrologyCycleEnd (first last : Nat) (s : State) : Result := run (onPower (metCycleEnd (last - first))) s
def execMclkLoss (s : State) : Result := run (onPower mclkLoss) s
def execMclkGap (ms : BitVec 32) (s : State) : Result := run (onPower (mclkGap ms.toNat)) s
def execFreeze (s : State) : Result := run (onPages freeze) s
def execPreset (a : Fin 32) (s : State) : Result := run (onPages (preset a)) s
def execMcxUnpark (s : State) : Result := run (onPages mcxUnpark) s
def execAccRead (a : Fin 32) (s : State) : Result := run (onPages (accRead a)) s
def execFrzRead (a : Fin 32) (s : State) : Result := run (onPages (frzRead a)) s
def execPulseStart (p : Fin 4) (s : State) : Result := run (onPower (pulseStart p)) s
def execPulseEnd (p : Fin 4) (s : State) : Result := run (onPower (pulseEnd p)) s
def execMetMeasurementCommit (s : State) : Result := run (onPages metMeasureCommit) s
def execMetPulseCommit (s : State) : Result := run (onPages metPulseCommit) s
def execMetFreezeCommit (s : State) : Result := run (onPages metFreezeCommit) s
def execMtcCommit (s : State) : Result := run (onPages mtcCommit) s
def execTextStale (s : State) : Result := run (onPower textStale) s
def execWatchTick (a b c : BitVec 24) (s : State) : Result :=
  run (fun s => watchTick [a.toNat, b.toNat, c.toNat] s) s

end Sys2Proof.Machine
end

