-- ==== Sys2Proof/Machine/Par.lean ====
section
/-! DEFINITION. Parapet (R364 to R382, R490): two channels, their states, the safety inputs, the test pulses, the
safe outputs, the reset and the configuration. -/

namespace Sys2Proof.Machine

def updPar (g : Par → Par) : Eff := .upd fun b => { b with par := g b.par }

/-- States of PAR_STATUS.STATE. -/
def parInit : Nat := 0
def parStopped : Nat := 1
def parRun : Nat := 2
def parFaultSt : Nat := 3

/-- Parapet is in a state. -/
def parIn (s : State) (k : Nat) : Bool := s.get F.PAR_STATUS_STATE == k

/-- Bits of PAR_FAULT.CAUSE. -/
def causeDisc : Nat := 0
def causeTps : Nat := 1
def causeReadback : Nat := 2
def causeDark : Nat := 3
def causeXcmp : Nat := 4
def causeClock : Nat := 5
def causeCfgCrc : Nat := 6
def causeSupply : Nat := 7
def causeSelftest : Nat := 8
def causeOverload : Nat := 9

/-- PAR_FAULT as a word. -/
def parFaultWord (s : State) : Nat :=
  s.get F.PAR_FAULT_CAUSE + 2 ^ 16 * s.get F.PAR_FAULT_IN + 2 ^ 28 * s.get F.PAR_FAULT_SW

/-- PAR_FAULT takes a word. -/
def setFaultWord (w : Nat) : List Eff :=
  [.set F.PAR_FAULT_CAUSE (bitsOf w 9 0), .set F.PAR_FAULT_IN (bitsOf w 23 16), .set F.PAR_FAULT_SW (bitsOf w 31 28)]

/-! ### Inputs (R370) -/

/-- Input x is enabled. -/
def sinOn (s : State) (x : Nat) : Bool := s.curOn (F.PAR_SIN_CFG_EN x)

/-- The enabled inputs. -/
def sinMask (s : State) : Nat := (List.range 8).foldl (fun n x => if sinOn s x then withBit n x else n) 0

/-- Pin A, and pin B, of input x stands in the permit pattern: equivalent high and high, antivalent high and low. -/
def pinPermits (s : State) (filt x : Nat) : Bool × Bool :=
  (filt.testBit x, filt.testBit (8 + x) != s.curOn (F.PAR_SIN_CFG_MODE x))

/-- Input x permits in the view of filtered pins. -/
def sinPermits (s : State) (filt x : Nat) : Bool := (pinPermits s filt x).1 && (pinPermits s filt x).2

/-- One pin of input x permits and the other does not (R371). -/
def sinDisagrees (s : State) (filt x : Nat) : Bool := (pinPermits s filt x).1 != (pinPermits s filt x).2

/-- The inputs that a test selects, one bit each. -/
def sinWhere (t : Nat → Bool) : Nat := (List.range 8).foldl (fun n x => if t x then withBit n x else n) 0

/-- The fields of the configuration group (R380). -/
def parFlds : List Fld :=
  [F.PAR_CFG_DARK_S, F.PAR_CFG_DARK_W, F.PAR_CFG_COMPAT, F.PAR_TPS_CTRL_EN] ++ (List.range 8).flatMap fun x =>
    [F.PAR_SIN_CFG_EN x, F.PAR_SIN_CFG_MODE x, F.PAR_SIN_CFG_RESTART x, F.PAR_SIN_CFG_TPSB_EN x, F.PAR_SIN_CFG_TPS_B x,
     F.PAR_SIN_CFG_TPSA_EN x, F.PAR_SIN_CFG_TPS_A x, F.PAR_SIN_CFG_DISC x, F.PAR_SIN_CFG_FILT x]

/-- The words of the configuration in force. -/
def parWords (s : State) : List Nat := parFlds.map s.cur

/-- The state as a channel sees it, 0 for channel 1: channel 2 holds a configuration of its own, which a reset of the main die
leaves (R364, R380). -/
def chanView (s : State) (ch : Nat) : State :=
  if ch = 0 then s else (parFlds.zip s.b.par.cfg2).foldl (fun s p => s.putCur p.1 p.2) s

/-- The die of a channel is out of reset. -/
def chanLive (s : State) (ch : Nat) : Bool := if ch = 0 then !s.b.sys.inReset else !s.b.sys.pwrReset

/-- The filtered pins of a channel. -/
def filtOf (s : State) (ch : Nat) : Nat := if ch = 0 then s.b.par.filt1 else s.b.par.filt2

/-- The inputs that permit in a channel. -/
def chanPermits (s : State) (ch : Nat) : Nat := sinWhere fun x => sinPermits (chanView s ch) (filtOf s ch) x

/-- The inputs that permit in both channels, of those whose die is out of reset. -/
def parPermits (s : State) : Nat :=
  (if chanLive s 0 then chanPermits s 0 else 255) &&& (if chanLive s 1 then chanPermits s 1 else 255)

/-- Every enabled input permits, and at least one is enabled (R367). -/
def parMayRun (s : State) : Bool := sinMask s != 0 && sinMask s &&& parPermits s == sinMask s

/-- An input's pins disagree in a channel's view. -/
def chanDiffers (s : State) (ch x : Nat) : Bool := sinDisagrees (chanView s ch) (filtOf s ch) x

/-- A channel times the discrepancy of an enabled input (R364, R371). -/
def chanDisc (s : State) (ch x : Nat) : Bool := chanLive s ch && sinOn (chanView s ch) x && chanDiffers s ch x

/-- The discrepancy timers of both channels: one that is not running starts now. -/
def parTimers : Prog := fun s =>
  [updPar fun q => { q with
     agree := (List.range 8).map (fun x => if chanDiffers s 0 x || chanDiffers s 1 x then 0 else q.agree.getD x 0)
     discAt := (List.range 16).map fun i =>
       if chanDisc s (i / 8) (i % 8) then (q.discAt.getD i none).or (some s.b.cyc) else none }]

/-- PINS follows the pins, PERMIT and DISC the filtered ones, and the timers run. -/
def parShow : Prog := fun s =>
  let p := s.b.par
  [.set F.PAR_PINS_RAW (p.raw1 % 0x10000 + 0x10000 * (p.raw2 % 0x10000)),
   .set F.PAR_STATUS_PERMIT (chanPermits s 0),
   .set F.PAR_STATUS_DISC (sinWhere fun x => chanDisc s 0 x || chanDisc s 1 x)] ++ parTimers s

/-! ### States, outputs and the inhibit (R364, R367, R369) -/

/-- Leaving RUN: both outputs off, the inhibit asserted, a Parapet trip for the intertrip (R367, R369, R75). -/
def leaveRun : Prog := inOrder
  [ fun _ => [.set F.PAR_STATUS_OUT_ON 0, .set F.PAR_STATUS_INH 1,
      updPar fun p => { p with dark := none, readback := List.replicate 4 none }],
    setInhibit true,
    onlyIf (fun s => s.on F.RDG_CTRL_IT_PARAPET) (fun s => sendIntertrip (s.get F.RDG_IT_TX_GROUPS) s),
    crnEvent 1 ]

/-- Both channels enter a state. -/
def parEnter (k : Nat) : Prog := fun s =>
  inOrder
    [ fun _ => [.set F.PAR_STATUS_STATE k, updPar fun p => { p with st2 := k }]
        ++ effIf (k != parInit) [.set F.SYS_STATUS_PAR_INIT_DONE 1],
      onlyIf (fun _ => s.on F.PAR_STATUS_OUT_ON && k != parRun) leaveRun,
      onlyIf (fun _ => k == parRun) (inOrder
        [ fun _ => [.set F.PAR_STATUS_OUT_ON 1, .set F.PAR_STATUS_INH 0,
            updPar fun p => { p with
              dark := none, darkNext := 0, seriesAt := s.b.cyc, darkEndAt := none, readback := List.replicate 4 none }],
          setInhibit false ]),
      butFaultUpdate ] s

/-- FAULT with a cause, its inputs and its switches. A channel whose die is in reset takes no part: with the main
die in reset channel 2 alone enters FAULT (R369). -/
def parFault (cause ins sw : Nat) : Prog := fun s =>
  let w := 2 ^ cause + 2 ^ 16 * ins + 2 ^ 28 * sw
  if s.b.sys.inReset then
    effIf (!s.b.sys.pwrReset) [updPar fun p => { p with st2 := parFaultSt, fault2 := p.fault2 ||| w }]
  else
    let before := s.get F.PAR_STATUS_STATE
    let new := parFaultWord s ||| w
    inOrder
      [ fun _ => setFaultWord new ++ [updPar fun p =>
          { p with fault2 := new, autoOk := false, autoStop := false, accepted := none }],
        onlyIf (fun _ => before != parFaultSt) (inOrder
          [ fun _ => [.sticky F.PAR_STICKY_FAULT, .led 0x9002 0 [new, before]], parEnter parFaultSt ]) ] s

/-- The enabled inputs that a channel finds out of their permit pattern. -/
def chanBad (s : State) (ch : Nat) : Nat := clearMask (sinMask (chanView s ch)) (chanPermits s ch)

/-- A channel stands in RUN. -/
def chanRuns (s : State) (ch : Nat) : Bool :=
  chanLive s ch && (if ch = 0 then parIn s parRun else s.b.par.st2 == parRun)

/-- A channel leaves RUN by its own judgement: a demand, or no input is enabled (R364, R367). -/
def chanLeaves (s : State) (ch : Nat) : Bool := chanRuns s ch && (chanBad s ch != 0 || sinMask (chanView s ch) == 0)

/-- The inputs are judged, by each channel on its own: a demand in RUN leaves for STOPPED, and the first channel that leaves turns
the outputs off; without a reset RUN comes back only when every demand since the last accepted reset came from inputs with
RESTART (R364, R367, R368). -/
def parJudge : Prog := fun s =>
  let p := s.b.par
  let permits := parPermits s
  let left := sinMask s &&& clearMask p.permit permits
  let off (ch : Nat) : Bool := chanLeaves s ch
  let bad := (if off 0 then chanBad s 0 else 0) ||| (if off 1 then chanBad s 1 else 0)
  let restart := sinWhere fun x => s.curOn (F.PAR_SIN_CFG_RESTART x)
  let ok := p.autoOk && clearMask (left ||| bad) restart == 0
  let note := updPar fun q => { q with permit := permits, autoOk := ok }
  let first := s.on F.PAR_STATUS_OUT_ON
  if off 0 || off 1 then
    inOrder
      [ fun _ => [note, updPar fun q => { q with
            st2 := if off 1 then parStopped else q.st2, autoStop := ok, autoIn := if first then bad else q.autoIn ||| bad }]
          ++ effIf (off 0) [.set F.PAR_STATUS_STATE parStopped]
          ++ effIf (first && bad != 0) [.sticky F.PAR_STICKY_DEMAND, .led 0x9001 0 [bad, parStopped]],
        onlyIf (fun _ => first) leaveRun ] s
  else if parIn s parStopped && p.st2 == parStopped && p.autoStop && ok && parMayRun s then
    inOrder
      [ fun _ => [note, updPar fun q => { q with autoStop := false }, .led 0x9006 0 [p.autoIn, 0]],
        parEnter parRun ] s
  else [note]

/-- The pins are shown and judged. -/
def parEval : Prog := parShow.andThen parJudge

/-- The time in CLK_FAB cycles within the 20 ms test-pulse frame of channel 2, and the number of the frame; frames run from
the release of the power die, at the nominal clock of channel 2 (R372, log entry 32). -/
def tpsCycle (s : State) : Nat := s.b.cyc - s.b.sys.pwrReleaseAt.getD 0
def tpsPhase (s : State) : Nat := tpsCycle s % usCyc 20000
def tpsFrame (s : State) : Nat := tpsCycle s / usCyc 20000

/-- The pin is masked and sampled with a test-pulse supply, also the pin of an input that is not enabled (R372). -/
def pinTps (s : State) (pin : Nat) : Bool :=
  if pin < 8 then s.curOn (F.PAR_SIN_CFG_TPSA_EN pin) else s.curOn (F.PAR_SIN_CFG_TPSB_EN (pin - 8))

/-- The cycle of the frame at which the supply of a pin is switched off: 5n ms. -/
def tpsStart (s : State) (pin : Nat) : Nat :=
  usCyc (5000 * (if pin < 8 then s.cur (F.PAR_SIN_CFG_TPS_A pin) else s.cur (F.PAR_SIN_CFG_TPS_B (pin - 8))))

/-- The readings of the pin are masked, from 5n to 5n + 0.5 ms (R372). -/
def pinMasked (s : State) (pin : Nat) : Bool :=
  pinTps s pin && decide (tpsStart s pin ≤ tpsPhase s ∧ tpsPhase s < tpsStart s pin + usCyc 500)

/-- SAFETY_INPUT_CHANGE: one channel reads a pin at a level that has persisted for `us`; pins 0 to 7 are SINxA, 8 to 15
SINxB. The change takes effect when it has persisted for the filter time of the input, outside the pin's mask; with the main
die in reset channel 2 judges on its own (R364, R370, R372). -/
def safetyInputChange (ch pin : Nat) (high : Bool) (us : Nat) : Prog := fun s =>
  let put := fun (n : Nat) => if high then withBit n pin else clearBit n pin
  let through := decide (100 * (chanView s ch).cur (F.PAR_SIN_CFG_FILT (pin % 8)) ≤ us) && !pinMasked (chanView s ch) pin
  let upd : Par → Par := fun p =>
    if ch = 0 then { p with raw1 := put p.raw1, filt1 := if through then put p.filt1 else p.filt1 }
    else { p with raw2 := put p.raw2, filt2 := if through then put p.filt2 else p.filt2 }
  thenDo [updPar upd] (if s.b.sys.inReset then inOrder [parTimers, parJudge] else parEval) s

/-- The pins of an enabled input have disagreed in a channel for longer than DISC (R371). -/
def discLong (s : State) (ch x : Nat) : Bool :=
  (s.b.par.discAt.getD (8 * ch + x) none).any fun c =>
    decide (c + usCyc (1000 * (chanView s ch).cur (F.PAR_SIN_CFG_DISC x)) < s.b.cyc)

/-- DISC_TIMEOUT: the pins of an enabled input have disagreed for longer than DISC, in either channel (R364, R371). -/
def discTimeout (x : Nat) : Prog := fun s =>
  if discLong s 0 x || discLong s 1 x then parFault causeDisc (2 ^ x) 0 s else []

/-! ### Test pulses (R372) -/

/-- TPS_SAMPLE of a channel: the last sample before the mask, the sample in the gap, the first sample after the mask. With
both outer samples high the inner one must be low; high in two consecutive frames is a fault. A pin is judged once a frame,
after its mask (R364, R372). -/
def tpsSample (ch pin : Nat) (before inside after : Bool) : Prog := fun s =>
  let p := s.b.par
  let i := 16 * ch + pin
  let next := (p.tpsAt.getD i none).any fun n => n + 1 == tpsFrame s
  let run (bad : Bool) (l : List Nat) : Nat :=
    if bad && before && after then (if next then min 2 (l.getD i 0 + 1) else 1) else 0
  let miss := run inside p.missed
  if !chanLive s ch || s.b.sys.pwrReset || !pinTps (chanView s ch) pin
      || decide (tpsPhase s < tpsStart (chanView s ch) pin + usCyc 500)
      || (p.tpsAt.getD i none).any fun n => decide (tpsFrame s ≤ n) then []
  else thenDo
    [updPar fun p => { p with
      tpsAt := setAt p.tpsAt i (some (tpsFrame s)) none, missed := setAt p.missed i miss 0
      seen := setAt p.seen i (run (!inside) p.seen) 0 }]
    (onlyIf (fun _ => 2 ≤ miss) (parFault causeTps (2 ^ (pin % 8)) 0)) s

/-! ### Safe outputs (R373 to R375) -/

/-- SWITCH_OVERLOAD: switches 0 to 3 are A_HS, A_LS, B_HS, B_LS (R373). -/
def switchOverload (sw : Nat) : Prog := parFault causeOverload 0 (2 ^ sw)

/-- A measurement of VSAFE in mV is shown (channel 2). -/
def vsafeShow (mv : Nat) : Eff := .set F.PAR_VSAFE_V (min 1023 (mv / 100))

/-- VSAFE lies in 19.2 to 30.0 V. -/
def vsafeIn (mv : Nat) : Bool := 19200 ≤ mv && mv ≤ 30000

/-- VSAFE_OUT: VSAFE has stood outside its window for 10 ms (R373). -/
def vsafeOut (mv : Nat) : Prog := fun s =>
  if vsafeIn mv then []
  else thenDo [vsafeShow mv, updPar fun p => { p with vsafeOk := false }] (parFault causeSupply 0 0) s

/-- VSAFE_RETURN: VSAFE comes back within its window; 10 ms later cause SUPPLY counts as absent (R376). -/
def vsafeReturn (mv : Nat) : Prog := fun s =>
  if vsafeIn mv then
    [vsafeShow mv, updPar fun p => { p with vsafeOk := true, vsafeAt := if p.vsafeOk then p.vsafeAt else s.b.cyc }]
  else []

/-- The table of R374: the pins of an output and VSAFE, in mV. The result (0 normal, 1 load open, 2 fault, 3 no row)
and the switches recorded, HS as bit 0 and LS as bit 1. -/
def readbackOf (on : Bool) (hs ls vsafe : Nat) : Nat × Nat :=
  if on then
    let h := bit (!decide (vsafe < hs + 3000))
    let l := bit (!decide (ls < 3000))
    (if h + l = 0 then 0 else 2, h + 2 * l)
  else if 3 * vsafe < 4 * hs then (2, 1)
  else if 4 * hs < vsafe then
    if 4 * ls < vsafe then (2, 2) else if 3 * vsafe < 4 * ls then (1, 0) else (3, 0)
  else if 4 * ls < vsafe || 3 * vsafe < 4 * ls then (3, 0) else (0, 0)

/-- A dark test runs, or ended less than 1 ms ago (R374). -/
def darkWindow (s : State) : Bool :=
  s.b.par.dark.isSome || s.b.par.darkEndAt.any fun c => decide (s.b.cyc < c + usCyc 1000)

/-- READBACK_CHECK of a channel: a result has persisted for 2 ms, outside a dark-test window and the 1 ms after it
(R364, R374). -/
def readbackCheck (ch out hs ls vsafe : Nat) : Prog := fun s =>
  if darkWindow s || !chanLive s ch then []
  else
    let r := readbackOf (s.on F.PAR_STATUS_OUT_ON) hs ls vsafe
    let i := 2 * ch + out
    let known := s.b.par.readback.getD out none == some 1 || s.b.par.readback.getD (2 + out) none == some 1
    let note : Eff := updPar fun p => { p with readback := setAt p.readback i (some r.1) none }
    inOrder
      [ fun _ => note :: effIf (ch == 1) [vsafeShow vsafe],
        onlyIf (fun _ => r.1 == 2) (parFault causeReadback 0 (r.2 * 4 ^ out)),
        onMain fun _ => effIf (r.1 == 1 && !known) [.sticky F.PAR_STICKY_OPEN_LOAD, .led 0x9009 0 [out, 0]],
        fun _ => [note] ] s

/-- The next dark test is due: the first of a series DARK_S seconds after RUN began or the last series fell due, the others
250 ms after one another (R375). -/
def darkDue (s : State) : Bool :=
  let p := s.b.par
  if p.darkNext = 0 then decide (p.seriesAt + usCyc (1000000 * s.cur F.PAR_CFG_DARK_S) ≤ s.b.cyc)
  else decide (p.darkAt + usCyc 250000 ≤ s.b.cyc)

/-- DARK_TEST: the next of A_HS, A_LS, B_HS, B_LS is turned off (R375). -/
def darkTest : Prog := fun s =>
  effIf (parIn s parRun && s.b.par.dark.isNone && s.cur F.PAR_CFG_DARK_S != 0 && darkDue s)
    [updPar fun p => { p with
      dark := some p.darkNext, darkNext := (p.darkNext + 1) % 4, darkAt := s.b.cyc
      seriesAt := if p.darkNext = 0 then p.seriesAt + usCyc (1000000 * s.cur F.PAR_CFG_DARK_S) else p.seriesAt }]

/-- DARK_TEST_END: DARK_W × 10 µs have passed; the tested HS pin must read below 5 V, a tested LS pin above VSAFE − 5 V (R375). -/
def darkTestEnd (level vsafe : Nat) : Prog := fun s =>
  match s.b.par.dark with
  | none => []
  | some k =>
    let ok := if k % 2 = 0 then decide (level < 5000) else decide (vsafe < level + 5000)
    if s.b.cyc < s.b.par.darkAt + usCyc (10 * s.cur F.PAR_CFG_DARK_W) then []
    else thenDo [vsafeShow vsafe, updPar fun p => { p with dark := none, darkEndAt := some s.b.cyc }]
      (onlyIf (fun _ => !ok) (parFault causeDark 0 (2 ^ k))) s

/-- Switch `sw` of the safe outputs is on: A_HS, A_LS, B_HS, B_LS, the high sides of channel 1 and the low sides of channel 2,
each while its channel stands in RUN, but for the one under a dark test (R364, R367, R375). -/
def safeSwitch (s : State) (sw : Nat) : Bool := chanRuns s (sw % 2) && s.b.par.dark != some sw

/-- TPSn is on: driven, but for the 400 µs from 5n ms of each test-pulse frame (R372, R497). -/
def tpsOn (s : State) (n : Nat) : Bool :=
  !s.b.sys.pwrReset && ((chanView s 1).cur F.PAR_TPS_CTRL_EN).testBit n
    && !decide (usCyc (5000 * n) ≤ tpsPhase s ∧ tpsPhase s < usCyc (5000 * n) + usCyc 400)

/-! ### Reset (R376, R377) -/

/-- Both channels have seen the gaps of a pin for the last 2 frames (R376). -/
def gapsSeen (s : State) (pin : Nat) : Bool :=
  [0, 1].all fun ch => !pinTps (chanView s ch) pin
    || (s.b.par.seen.getD (16 * ch + pin) 0 == 2
        && (s.b.par.tpsAt.getD (16 * ch + pin) none).any fun n => decide (tpsFrame s ≤ n + 1))

/-- Every cause in PAR_FAULT is absent. -/
def causesAbsent (s : State) : Bool :=
  let p := s.b.par
  let has := fun c => (s.get F.PAR_FAULT_CAUSE).testBit c
  let sinOk := (List.range 8).all fun x =>
    !(s.get F.PAR_FAULT_IN).testBit x
      || (p.agree.getD x 0 == 40 && gapsSeen s x && gapsSeen s (x + 8))
  (!(has causeDisc || has causeTps) || sinOk)
  && (!(has causeReadback || has causeDark || has causeOverload)
      || p.readback.all fun r => r == some 0 || r == some 1)
  && (!(has causeXcmp || has causeClock) || p.good == 3)
  && (!has causeSupply || (p.vsafeOk && decide (p.vsafeAt + usCyc 10000 ≤ s.b.cyc)))
  && (!has causeCfgCrc || s.get F.PAR_CRC1_CRC == s.get F.PAR_CRC2_CRC)

/-- Why a pulse is refused: 0 length, 3 no input enabled, 1 fault cause present, 2 input demand (R382, log 34). -/
def resetRefused (s : State) (us1 us2 : Nat) : Option Nat :=
  if !((50000 ≤ us1 && us1 ≤ 3000000) && (50000 ≤ us2 && us2 ≤ 3000000)) then some 0
  else if sinMask s = 0 then some 3
  else if parIn s parInit || !causesAbsent s then some 1
  else if !parMayRun s then some 2
  else none

/-- RESET_SAFE_EDGE: the pulse in µs by each channel's measure; an accepted one waits for its frame boundary. -/
def resetSafeEdge (us1 us2 : Nat) : Prog := fun s =>
  let ms := us1 / 1000
  [.set F.PAR_RESET_LAST_MS (min 65535 ms), .set F.PAR_STATUS_RESET_HIGH 0] ++
  match resetRefused s us1 us2 with
  | some c => [.sticky F.PAR_STICKY_RESET_REJECT, .led 0x9004 0 [ms, c]]
  | none => [updPar fun p => { p with accepted := some (ms, s.get F.PAR_STATUS_STATE) }]

/-- RESET_STUCK (R377). -/
def resetStuck : Prog := fun _ =>
  [.set F.PAR_STATUS_RESET_HIGH 1, .sticky F.PAR_STICKY_RESET_STUCK, .led 0x9005 0 [0, 0]]

/-- The new state of an accepted reset: FAULT leaves to STOPPED, or to INIT with SELFTEST; STOPPED to RUN while
every enabled input permits. -/
def resetState : Prog := fun s =>
  if parIn s parFaultSt then
    let selftest := (s.get F.PAR_FAULT_CAUSE).testBit causeSelftest
    thenDo (setFaultWord 0 ++ [updPar fun p => { p with fault2 := 0, joint := selftest }])
      (parEnter (if selftest then parInit else parStopped)) s
  else if parIn s parStopped && parMayRun s then parEnter parRun s
  else []

/-- An accepted reset takes effect at a frame boundary; a change of state since the edge prevails. -/
def resetApply : Prog := fun s =>
  match s.b.par.accepted with
  | none => []
  | some (ms, before) =>
    if !parIn s before then [updPar fun p => { p with accepted := none }]
    else thenDo [updPar fun p => { p with accepted := none, autoOk := true, autoStop := false },
        .sticky F.PAR_STICKY_RESET_DONE, .led 0x9003 0 [ms, before]] resetState s

/-! ### Response time and configuration (R378 to R380) -/

/-- The larger channel's time of input x, in ninths of a µs: channel 2's (R378). -/
def respNinths (s : State) (x : Nat) : Nat :=
  let tm := if s.curOn (F.PAR_SIN_CFG_TPSA_EN x) || s.curOn (F.PAR_SIN_CFG_TPSB_EN x) then 500 else 0
  10 * (70 + tm + 100 * s.cur (F.PAR_SIN_CFG_FILT x))

/-- The table of R379: FILT to µs. -/
def compatTime (filt : Nat) : Option Nat :=
  if filt = 10 then some 10000 else if filt = 30 then some 15000 else if filt = 100 then some 25000
  else if filt = 200 then some 40000 else none

/-- The enabled input with the largest value, the lowest of equals. -/
def largestOf (s : State) (v : Nat → Nat) : Option Nat :=
  (List.range 8).foldl (fun best x =>
    if !sinOn s x then best
    else match best with
      | none => some x
      | some y => if v y < v x then some x else some y) none

/-- PAR_RESP_TIME, PAR_RESP_INH and PAR_RESP_IN for the configuration in force. -/
def respShow : Prog := fun s =>
  match largestOf s (respNinths s), largestOf s (fun x => s.cur (F.PAR_SIN_CFG_FILT x)) with
  | some x, some y =>
    let t := respNinths s x
    let compat := s.curOn F.PAR_CFG_COMPAT
    let native := (t + 9 * 200 + 8) / 9
    [.set F.PAR_RESP_TIME_US
      (if compat then (compatTime (s.cur (F.PAR_SIN_CFG_FILT y))).getD native else native),
     .set F.PAR_RESP_INH_US ((t + 9 * 2 + 8) / 9),
     .set F.PAR_RESP_IN_COMPAT (bit compat), .set F.PAR_RESP_IN_VALID 1,
     .set F.PAR_RESP_IN_IN (if compat then y else x)]
  | _, _ =>
    [.set F.PAR_RESP_TIME_US 0, .set F.PAR_RESP_INH_US 0, .set F.PAR_RESP_IN_COMPAT 0,
     .set F.PAR_RESP_IN_VALID 0, .set F.PAR_RESP_IN_IN 0]

/-- The offset of the register that breaks R380 in the shadows; the refusal for the state or the die link names no
register, and its offset is a free value (log entry 3). -/
def parRefused (s : State) : Option Nat :=
  let compat := s.on F.PAR_CFG_COMPAT
  let noTps := fun f => !(s.get F.PAR_TPS_CTRL_EN).testBit (s.get f)
  let bad := fun x => s.on (F.PAR_SIN_CFG_EN x)
    && (s.get (F.PAR_SIN_CFG_DISC x) == 0
      || (s.on (F.PAR_SIN_CFG_TPSB_EN x) && s.on (F.PAR_SIN_CFG_MODE x))
      || (s.on (F.PAR_SIN_CFG_TPSA_EN x) && noTps (F.PAR_SIN_CFG_TPS_A x))
      || (s.on (F.PAR_SIN_CFG_TPSB_EN x) && noTps (F.PAR_SIN_CFG_TPS_B x))
      || (compat && (compatTime (s.get (F.PAR_SIN_CFG_FILT x))).isNone))
  let w := s.get F.PAR_CFG_DARK_W
  if parIn s parRun || s.on F.SYS_GUAR_DIE_LINK then some (fresh s 0)
  else if s.get F.PAR_CFG_DARK_S != 0 && !(5 ≤ w && w ≤ 50) then some 0x044
  else ((List.range 8).find? bad).map fun x => 0x200 + 4 * x

/-- PAR_COMMIT: accepted, the group waits for a frame boundary after INIT; refused, the values in force stay. -/
def parCommit : Prog := noted (.page 0x90000 0) fun s =>
  match parRefused s with
  | some off => [.sticky F.PAR_STICKY_CFG_REJECT, .led 0x9008 0 [off, s.get F.PAR_STATUS_STATE], spend 1]
  | none => takeGroup .par 0x90044 0x90220

/-- The committed configuration comes into force in both channels (R380). -/
def parAdopt : Prog := fun s =>
  if !groupDue s .par || parIn s parInit then []
  else inOrder
    [ fun _ => adoptGroup .par 0x90044 0x90220,
      fun s => let c := Config.parCrc (parWords s) % 2 ^ 32
               [.set F.PAR_CRC1_CRC c, .set F.PAR_CRC2_CRC c, updPar fun p => { p with cfg2 := parWords s }],
      respShow,
      fun s => [.led 0x9007 0 [s.get F.PAR_CRC1_CRC, s.get F.PAR_RESP_TIME_US]],
      parEval ] s

/-! ### The cross-comparison (R365) and INIT (R490) -/

/-- The items that differ: pins 0 to 15, state and causes 16, configuration CRC 18, and what `wire` adds (17: output
commands and readback, and any item as received). -/
def xcmpDiff (s : State) (wire : Nat) : Nat :=
  let p := s.b.par
  wire ||| ((p.filt1 ^^^ p.filt2) % 2 ^ 16)
    ||| (if parIn s parInit || p.st2 == parInit || (parIn s p.st2 && parFaultWord s == p.fault2) then 0 else 2 ^ 16)
    ||| (if s.get F.PAR_CRC1_CRC == s.get F.PAR_CRC2_CRC then 0 else 2 ^ 18)

/-- A frame's length as measured, 0.85 to 1.15 ms. -/
def frameLenOk (us : Nat) : Bool := 850 ≤ us && us ≤ 1150

/-- XCMP_FRAME: a frame is exchanged; `len1`, `len2` are the lengths each channel measures of the other in µs, `khz`
the clock of channel 2 as channel 1 measures it. Then the boundary applies a commit, and an accepted reset under the
configuration that it brings (R367). -/
def xcmpFrame (wire len1 len2 khz : Nat) : Prog := fun s =>
  if s.b.sys.inReset || s.b.sys.pwrReset then []
  else
    let d := xcmpDiff s wire
    let three := d &&& s.b.par.diff1 &&& s.b.par.diff2
    let lenOk := frameLenOk len1 && frameLenOk len2
    inOrder
      [ fun _ => [.set F.PAR_CLK2_KHZ (min 65535 khz), updPar fun p =>
          { p with diff1 := d, diff2 := p.diff1, good := if d = 0 && lenOk then min 3 (p.good + 1) else 0,
                   frameAt := s.b.cyc, agree := p.agree.map fun n => min 40 (n + 1) }]
          ++ effIf (d != 0) [.inc F.PAR_CNT_XCMP_N 1],
        parShow,
        onlyIf (fun _ => three != 0) (parFault causeXcmp 0 0),
        onlyIf (fun _ => three.testBit 18) (parFault causeCfgCrc 0 0),
        onlyIf (fun _ => !lenOk) (parFault causeClock 0 0),
        parAdopt, resetApply ] s

/-- XCMP_TIMEOUT: no frame for 1.5 ms (R365, R369). -/
def xcmpTimeout : Prog :=
  onlyIf (fun s => decide (s.b.par.frameAt + usCyc 1500 ≤ s.b.cyc))
    (thenDo [updPar fun p => { p with good := 0 }] (parFault causeXcmp 0 0))

/-- The two dies left reset within 50 ms of each other (R490). -/
def diesTogether (s : State) : Bool :=
  match s.b.sys.pwrReleaseAt with
  | none => false
  | some c => c ≤ s.b.sys.releaseAt + usCyc 50000 && s.b.sys.releaseAt ≤ c + usCyc 50000

/-- Channel 1 joins the FAULT of channel 2. -/
def joinFault : Prog := fun s =>
  let w := s.b.par.fault2
  inOrder
    [ fun _ => setFaultWord w ++ [.sticky F.PAR_STICKY_FAULT, .led 0x9002 0 [w, parInit]],
      parEnter parFaultSt ] s

/-- PARAPET_INIT_DONE: the self-test ends. Both channels after INIT together stand in STOPPED; a later channel
joins the earlier one's FAULT; a channel whose partner is absent has had no frame and is in FAULT (R365, R490). -/
def parapetInitDone (passed : Bool) : Prog := fun s =>
  let p := s.b.par
  let one := parIn s parInit
  let two := !s.b.sys.pwrReset && p.st2 == parInit
  if s.b.sys.inReset || !(one || two) then []
  else if !passed then parFault causeSelftest 0 0 s
  else if one && two then
    if p.joint || diesTogether s then thenDo [updPar fun q => { q with joint := false }] (parEnter parStopped) s
    else parFault causeXcmp 0 0 s
  else if one then
    if s.b.sys.pwrReset then parFault causeXcmp 0 0 s else joinFault s
  else [updPar fun q => { q with st2 := s.get F.PAR_STATUS_STATE, fault2 := parFaultWord s }]

/-- SYS_GUAR.DIE_LINK is set or clears (R366). -/
def parDieLink (failed : Bool) : List Eff :=
  [.set F.PAR_STATUS_CH2_UNAVAIL (bit failed)] ++ effIf failed [.sticky F.PAR_STICKY_CH2_UNAVAIL]

/-- Channel 2 is reset with the power die: its switches are off and it asserts the inhibit; its registers clear
(R486, R488). -/
def parPowerReset : Prog := inOrder
  [ fun _ => [updPar (fun p => { p with
        st2 := parInit, fault2 := 0, joint := false, filt2 := 0, raw2 := 0, good := 0, dark := none
        cfg2 := parFlds.map fun f => RegTable.resetVal f.key % 2 ^ f.w
        tpsAt := List.replicate 32 none, missed := List.replicate 32 0, seen := List.replicate 32 0 }),
      .clear (keyAt 0x90048) (keyAt 0x9004C), .set F.PAR_CRC2_CRC 0, .set F.PAR_VSAFE_V 0,
      .set F.PAR_STATUS_OUT_ON 0, .set F.PAR_STATUS_INH 1],
    parShow, onlyIf (fun s => !s.b.sys.inReset) (setInhibit true) ]

/-- A main-die command of Parapet. -/
def execXcmpFrame (wire : BitVec 19) (len1 len2 : BitVec 16) (khz : BitVec 16) (s : State) : Result :=
  run (xcmpFrame wire.toNat len1.toNat len2.toNat khz.toNat) s
def execXcmpTimeout (s : State) : Result := run xcmpTimeout s
def execSafetyInputChange (ch : Fin 2) (pin : Fin 16) (level : Bool × BitVec 16) (s : State) : Result :=
  run (safetyInputChange ch pin level.1 level.2.toNat) s
def execDiscTimeout (x : Fin 8) (s : State) : Result := run (discTimeout x) s
def execTpsSample (ch : Fin 2) (pin : Fin 16) (before inside after : Bool) (s : State) : Result :=
  run (tpsSample ch pin before inside after) s
def execSwitchOverload (sw : Fin 4) (s : State) : Result := run (switchOverload sw) s
def execVsafeOut (mv : BitVec 16) (s : State) : Result := run (onPower (vsafeOut mv.toNat)) s
def execVsafeReturn (mv : BitVec 16) (s : State) : Result := run (onPower (vsafeReturn mv.toNat)) s
def execReadbackCheck (ch out : Fin 2) (hs ls vsafe : BitVec 16) (s : State) : Result :=
  run (readbackCheck ch out hs.toNat ls.toNat vsafe.toNat) s
def execDarkTest (s : State) : Result := run (onMain darkTest) s
def execDarkTestEnd (level vsafe : BitVec 16) (s : State) : Result :=
  run (onMain (darkTestEnd level.toNat vsafe.toNat)) s
def execResetSafeEdge (us1 us2 : Nat) (s : State) : Result := run (onMain (resetSafeEdge us1 us2)) s
def execResetStuck (s : State) : Result := run (onMain resetStuck) s
def execParapetInitDone (passed : Bool) (s : State) : Result := run (parapetInitDone passed) s
def execParCommit (s : State) : Result := run (onMain parCommit) s

end Sys2Proof.Machine
end

