-- ==== Sys2Proof/Machine/Plumb.lean ====
section
/-! DEFINITION. Plumb: the delay-locked line, its references, lock, holdover and phase (R31 to R49, R522). -/

namespace Sys2Proof.Machine

/-- A reference is qualified: 0 = REFCLK_A, 1 = REFCLK_B. -/
def refQual (s : State) (r : Nat) : Bool :=
  if r = 0 then s.on F.CLK_STATUS_REFA_QUAL else s.on F.CLK_STATUS_REFB_QUAL

/-- The qualification field and the loss flag of a reference. -/
def refQualFld (r : Nat) : Fld := if r = 0 then F.CLK_STATUS_REFA_QUAL else F.CLK_STATUS_REFB_QUAL
def refLossFld (r : Nat) : Fld := if r = 0 then F.CLK_STICKY_LOSS_REFA else F.CLK_STICKY_LOSS_REFB

/-- A valid stored coarse code exists for a reference (R41). -/
def storedValid (s : State) (r : Nat) : Bool :=
  if r = 0 then s.on F.CLK_SEARCH_VALID_A else s.on F.CLK_SEARCH_VALID_B

/-- The preferred reference when it is qualified, else the other (R33). -/
def preferredRef (s : State) : Nat :=
  let p := s.get F.CLK_CTRL_REF_PREF
  if refQual s p then p else 1 - p

/-- Start an attempt on a reference: by hop from a valid stored code when HOP_EN is set, else by full search
(R41). FULL_SEARCH carries the cause (R60): 0 for every attempt but a full search after a hop miss (1) and one under
RELOCK_FULL (2); so a full search in RELOCK, or restarted under R522, carries 0 (DESIGN CHOICE, log entry 53). -/
def beginSearch (mode : PlumbMode) (r cause : Nat) : Prog := fun s =>
  let hop := cause != 2 && s.on F.CLK_CTRL_HOP_EN && storedValid s r
  [.set F.CLK_STATUS_SEARCHING 1,
   .upd fun b => { b with plumb := { b.plumb with mode := mode, searchRef := r, hop := hop, cause := cause,
                                                  searchAt := b.cyc, qualAt := none } }]

/-- The cause that a restarted search carries: a search under RELOCK_FULL stays one. -/
def restartCause (s : State) : Nat := if s.b.plumb.cause = 2 then 2 else 0

/-- What the detector drives on LOCK_FILT (R43). -/
def filtDrive (s : State) : FiltDrive :=
  if s.b.sys.inReset || s.b.plumb.mode == .off then .sink
  else if s.on F.CLK_STATUS_HOLDOVER then .hiZ
  else if s.on F.CLK_STATUS_LOCK_RAW && !s.on F.CLK_STATUS_SEARCHING then .source
  else .sink

/-- Plumb leaves OFF when the main die is out of reset, LOCK_FILT is below 0.6 V and a reference is qualified
(R44). -/
def leaveOff : Prog := fun s =>
  if s.b.plumb.mode == .off && !s.b.sys.inReset && !s.b.plumb.filtHigh && (refQual s 0 || refQual s 1)
  then beginSearch .search (preferredRef s) 0 s
  else []

/-- Enter holdover, the active reference lost or left (R33, R46, R48). -/
def enterHoldover (lost : Nat) : Prog := fun s =>
  [.set F.CLK_STATUS_LOCK_RAW 0, .set F.CLK_STATUS_HOLDOVER 1, .set F.TIM_STATUS_HOLDOVER 1,
   .set F.CLK_STATUS_SEARCHING 0, .set F.CLK_HO_TIME_US 0]
  ++ effIf (!s.on F.CLK_STATUS_HO_TRAINED) [.sticky F.CLK_STICKY_HOLDOVER_UNTRAINED]
  ++ [.upd fun b => { b with plumb := { b.plumb with mode := .holdover, holdAt := b.cyc, lostRef := lost,
                                                     holdLong := false } },
      .led 0x0802 0 [s.get F.CLK_STATUS_HO_TRAINED, lost]]
  ++ anchorDue ++ crnEvent 8 s

/-- Relock to a reference from holdover (R33). -/
def relockTo (r : Nat) : Prog := beginSearch .relock r 0

/-- Whether the other reference may be taken at once: AUTO_SW and qualified (R33). -/
def otherReady (s : State) (r : Nat) : Bool := s.on F.CLK_CTRL_AUTO_SW && refQual s (1 - r)

/-- The attempt that a qualification has begun is marked with its cycle. -/
def markQual : Prog := fun s =>
  effIf (s.on F.CLK_STATUS_SEARCHING) [.upd fun b => { b with plumb.qualAt := some b.cyc }]

/-- Both references complete their qualification in one CLK_PER cycle: the preferred one is taken (R33, R522). -/
def tieTake (r : Nat) : Prog := fun s =>
  let p := s.b.plumb
  if s.on F.CLK_STATUS_SEARCHING && p.qualAt.any (fun c => c / 2 == s.b.cyc / 2) && s.get F.CLK_CTRL_REF_PREF == r
      && p.searchRef != r
  then (beginSearch p.mode r (restartCause s)).andThen markQual s else []

/-- A reference that requalifies is the preferred one and REVERT is set (R34). -/
def revertsTo (s : State) (r : Nat) : Bool := s.on F.CLK_CTRL_REVERT && s.get F.CLK_CTRL_REF_PREF == r

/-- REF_QUALIFIED: a reference has met its window for 100 µs; in reset qualification continues and nothing else
happens (R32, R33, R34, R497, R522). A relock to the other reference in progress gives way to a preferred one that REVERT
asks for (DESIGN CHOICE, log entry 61). -/
def refQualified (r : Nat) : Prog := inOrder
  [ fun _ => [.set (refQualFld r) 1],
    onMain fun s =>
      match s.b.plumb.mode with
      | .off => leaveOff.andThen markQual s
      | .search =>
        if s.on F.CLK_STATUS_SEARCHING then tieTake r s
        else (beginSearch .search (preferredRef s) (restartCause s)).andThen markQual s
      | .locked => if revertsTo s r && s.get F.CLK_STATUS_ACTIVE_REF != r
          then (enterHoldover (1 - r)).andThen (relockTo r) s else []
      | .holdover => (relockTo r).andThen markQual s
      | .relock => if revertsTo s r && s.b.plumb.searchRef != r then (relockTo r).andThen markQual s else tieTake r s,
    onMain guarUpdate ]

/-- A search or relock on a lost reference is abandoned (R522). -/
def searchAbandon (r : Nat) : Prog := fun s =>
  if !(s.on F.CLK_STATUS_SEARCHING && s.b.plumb.searchRef == r) then []
  else if s.b.plumb.mode == .search then
    if refQual s (1 - r) then beginSearch .search (1 - r) (restartCause s) s
    else [.set F.CLK_STATUS_SEARCHING 0]
  else
    (if otherReady s r then relockTo (1 - r) s
     else [.set F.CLK_STATUS_SEARCHING 0,
           .upd fun b => { b with plumb.mode := .holdover }])

/-- CLK_STATUS as a word. -/
def clkStatusWord (s : State) : Nat :=
  s.get F.CLK_STATUS_LOCK + 2 * s.get F.CLK_STATUS_HOLDOVER + 4 * s.get F.CLK_STATUS_ACTIVE_REF
    + 8 * s.get F.CLK_STATUS_REFA_QUAL + 16 * s.get F.CLK_STATUS_REFB_QUAL
    + 32 * s.get F.CLK_STATUS_SEARCHING + 64 * s.get F.CLK_STATUS_HO_TRAINED
    + 128 * s.get F.CLK_STATUS_LOCK_RAW

/-- REF_LOSS: a reference becomes unqualified; in reset nothing else follows (R32, R33, R46, R497, R522). The record's
CLK_STATUS is the one just before the event changes it: the QUAL bit still set, holdover not yet entered (DESIGN CHOICE,
log entry 53). -/
def refLost (r : Nat) : Prog := inOrder
  [ fun s => [.set (refQualFld r) 0]
      ++ effIf (!s.b.sys.inReset) [.sticky (refLossFld r), .led 0x0801 0 [r, clkStatusWord s]],
    onMain fun s =>
      if s.b.plumb.mode == .locked && s.get F.CLK_STATUS_ACTIVE_REF == r then
        (enterHoldover r).andThen (fun s' => if otherReady s' r then relockTo (1 - r) s' else []) s
      else searchAbandon r s,
    onMain guarUpdate ]

/-- LOCK_RAW_LOST: the phase error left ±25 ps for 16 periods (R42); a locked line enters holdover and relocks: to the
active reference while that one is qualified, since it stays in use until it is lost (R34), else as R33 says. -/
def lockRawLost : Prog := fun s =>
  if s.b.plumb.mode == .locked then
    let r := s.get F.CLK_STATUS_ACTIVE_REF
    inOrder
      [ fun _ => [.sticky F.CLK_STICKY_LOCK_LOST],
        enterHoldover r,
        fun s' => if refQual s' r then relockTo r s' else if otherReady s' r then relockTo (1 - r) s' else [],
        guarUpdate ] s
  else []

/-! ### Energy (R410) -/

/-- E_avail in pJ for V_STORE in mV: ½ × C × (V² − (1.80 V)²). -/
def energyPj (s : State) (mv : Nat) : Nat := s.get F.BED_STORE_CAP_UF * (mv * mv - 1800 * 1800) / 2

/-- An energy in units of 100 nJ, in pJ. -/
def pj (n : Nat) : Nat := n * 100000

/-- Reservation of a record plus KEEP, and of another operation plus KEEP, in pJ. -/
def writeNeeds (s : State) : Nat := pj (s.get F.BED_RES_WRITE + s.get F.BED_RES_KEEP)
def opNeeds (s : State) (res : Nat) : Nat := pj (res + s.get F.BED_RES_KEEP)

/-- Reservations of the checkpoint, of the metrology save and of the stored-code update, in 100 nJ. -/
def resCheckpoint : Nat := 10
def resMetSave : Nat := 400
def resCode : Nat := 10

/-- The stored code of a reference is overwritten (R41). -/
def storeCode (r code : Nat) : List Eff :=
  if r = 0 then [.set F.CLK_SEARCH_CODE_A code, .set F.CLK_SEARCH_VALID_A 1]
  else [.set F.CLK_SEARCH_CODE_B code, .set F.CLK_SEARCH_VALID_B 1]

/-- Bedrock may start a stored-code update: it runs, no erase does, the die-to-die path works, and at V_STORE as last
measured the reservation is met (R14, R410). -/
def codeStarts (s : State) : Bool :=
  s.b.bed.src != .off && !s.b.ldg.erasing && !s.on F.SYS_GUAR_DIE_LINK
    && decide (opNeeds s resCode ≤ energyPj s (s.get F.BED_VSTORE_MV))

/-- The stored-code updates that wait run once they may start (R410). -/
def codeFlush : Prog := fun s =>
  effIf (codeStarts s && !s.b.plumb.codes.isEmpty)
    ((s.b.plumb.codes.flatMap fun c => storeCode c.1 c.2) ++ [.upd fun b => { b with plumb := { b.plumb with codes := [] } }])

/-- The fine steps from a measured phase to an offset. A phase is known up to a period of 256 steps: the movement takes
the shorter way, and leaves no whole period behind (R36, R37; DEDUCED, log entry 54). -/
def stepsTo (phase ofs : Nat) : Int := ((ofs : Int) - phase + 128) % 256 - 128

/-- LINE_LOCK: the line locks on the searched reference with a coarse code; the output stands `phase` fine steps
from the new locked position, at the first lock after a reset at it (R37, R41, R42, R523). RELOCK's parameter is
CLK_HO_TIME, which saturates; FULL_SEARCH is written at the lock (DESIGN CHOICE, log entry 61). -/
def lineLock (code phase : Nat) : Prog := fun s =>
  let p := s.b.plumb
  if !(s.on F.CLK_STATUS_SEARCHING && (p.mode == .search || p.mode == .relock)) then []
  else
    let held := s.on F.CLK_STATUS_HOLDOVER
    let us := min (cycUs (s.b.cyc - p.holdAt)) (2 ^ 32 - 1)
    inOrder
      [ fun _ =>
          [.set F.CLK_STATUS_SEARCHING 0, .set F.CLK_STATUS_LOCK_RAW 1,
           .set F.CLK_STATUS_ACTIVE_REF p.searchRef]
          ++ [.upd fun b => { b with plumb := { b.plumb with codes := b.plumb.codes ++ [(p.searchRef, code)] } }]
          ++ effIf held ([.set F.CLK_STATUS_HOLDOVER 0, .set F.TIM_STATUS_HOLDOVER 0,
              .set F.CLK_HO_TIME_US us, .led 0x0803 0 [p.searchRef, us]] ++ anchorDue)
          ++ effIf (held && s.get F.CLK_STATUS_ACTIVE_REF != p.searchRef) [.sticky F.CLK_STICKY_SWITCHOVER]
          ++ effIf (!p.hop) [.led 0x0804 0 [p.cause, cycUs (s.b.cyc - p.searchAt)]]
          ++ [.set F.CLK_PHASE_NOW_PHASE (if p.everLocked then phase else 0),
              .upd fun b => { b with
                plumb := { b.plumb with
                  mode := .locked, everLocked := true, holdLong := false, filtRise := true,
                  target := s.cur F.CLK_PHASE_OFS_OFS,
                  left := if p.everLocked then stepsTo phase (s.cur F.CLK_PHASE_OFS_OFS)
                          else s.cur F.CLK_PHASE_OFS_OFS },
                tim := { b.tim with counting := true } }],
        codeFlush, guarUpdate ] s

/-- HOP_MISS: the hop has not locked within 20 µs: a full search runs (R41). -/
def hopMiss : Prog := fun s =>
  if s.on F.CLK_STATUS_SEARCHING && s.b.plumb.hop then
    [.sticky F.CLK_STICKY_STORED_MISS,
     .upd fun b => { b with plumb := { b.plumb with hop := false, cause := 1, searchAt := b.cyc } }]
  else []

/-- FULL_SEARCH_FAIL: during RELOCK the line returns to HOLDOVER with STORED_MISS; in SEARCH the full search
starts again (log entry 14). It writes no FULL_SEARCH record: that one comes with a lock (DESIGN CHOICE, log entry 61). -/
def fullSearchFail : Prog := fun s =>
  if !(s.on F.CLK_STATUS_SEARCHING && !s.b.plumb.hop) then []
  else if s.b.plumb.mode == .relock then
    [.set F.CLK_STATUS_SEARCHING 0, .sticky F.CLK_STICKY_STORED_MISS,
     .upd fun b => { b with plumb.mode := .holdover }]
  else [.upd fun b => { b with plumb.searchAt := b.cyc }]

/-- PHASE_MOVE_STEP: one fine step toward the target, and the timebase fraction follows (R35, R36). -/
def phaseMoveStep : Prog := fun s =>
  let now := s.get F.CLK_PHASE_NOW_PHASE
  if s.b.plumb.mode != .locked || s.b.plumb.left == 0 then []
  else if 0 < s.b.plumb.left then
    [.set F.CLK_PHASE_NOW_PHASE ((now + 1) % 256),
     .upd fun b => { b with tim.t := b.tim.t + tuStep, plumb.left := b.plumb.left - 1 }]
  else
    [.set F.CLK_PHASE_NOW_PHASE ((now + 255) % 256),
     .upd fun b => { b with tim.t := b.tim.t - tuStep, plumb.left := b.plumb.left + 1 }]

/-- LOCK_DECLARE: LOCK_FILT rises above 0.9 V, which it does only where the detector sources current (R43, R44). -/
def lockDeclare : Prog := fun s =>
  effIf (filtDrive s == .source)
    [.set F.CLK_STATUS_LOCK 1, .upd fun b => { b with plumb.filtHigh := true }]

/-- LOCK_CLEAR: LOCK_FILT falls below 0.6 V; a line in OFF may start (R44). -/
def lockClear : Prog := inOrder
  [ fun _ => [.set F.CLK_STATUS_LOCK 0, .upd fun b => { b with plumb := { b.plumb with filtHigh := false, filtRise := false } }],
    leaveOff ]

/-- LOCK_FILT_FAULT: LOCK and LOCK_RAW have disagreed for 10 ms (R45). -/
def lockFiltFault : Prog := fun s =>
  if (s.on F.CLK_STATUS_LOCK_RAW && !s.on F.CLK_STATUS_LOCK)
      || (s.on F.CLK_STATUS_LOCK && !s.on F.CLK_STATUS_LOCK_RAW && !s.on F.CLK_STATUS_HOLDOVER) then
    [.sticky F.CLK_STICKY_LOCK_FILT_FAULT,
     .led 0x0805 0 [s.get F.CLK_STATUS_LOCK, s.get F.CLK_STATUS_LOCK_RAW]]
  else []

/-- HO_TRAINED: the line has held lock for 1 s (R46). -/
def hoTrained : Prog := fun s =>
  effIf (s.b.plumb.mode == .locked) [.set F.CLK_STATUS_HO_TRAINED 1]

/-- HOLDOVER_LONG: holdover has lasted 100 ms; armed slots are cancelled (R49, R20). -/
def holdoverLong : Prog := fun s =>
  if s.on F.CLK_STATUS_HOLDOVER then
    inOrder
      [ fun _ => [.sticky F.CLK_STICKY_HOLDOVER_LONG, .led 0x0806 0 [s.b.plumb.lostRef, 0],
                  .upd fun b => { b with plumb.holdLong := true }],
        schedCancel, guarUpdate ] s
  else []

/-- CLK_COMMIT bit 0 (R38, R452). -/
def clkPhaseCommit : Prog := noted (.page 0x1000 0) fun _ => takeGroup .clkPhase 0x1040 0x1044

/-- The new offset is in force; a movement retargets from the phase reached (R38). -/
def clkPhaseAdopt : Prog := inOrder
  [ fun _ => adoptGroup .clkPhase 0x1040 0x1044,
    fun s => [.upd fun b => { b with plumb := { b.plumb with
        left := b.plumb.left + (s.cur F.CLK_PHASE_OFS_OFS : Int) - b.plumb.target
        target := s.cur F.CLK_PHASE_OFS_OFS } }] ]

/-- CLK_CMD.CLEAR_STORED. -/
def clearStored : Prog := fun _ => [.set F.CLK_SEARCH_VALID_A 0, .set F.CLK_SEARCH_VALID_B 0]

/-- CLK_CMD.SWITCH: to the other reference when it is qualified (R34), from holdover and from a relock to the active one
too. -/
def clkSwitch : Prog := fun s =>
  let r := s.get F.CLK_STATUS_ACTIVE_REF
  if !refQual s (1 - r) then []
  else match s.b.plumb.mode with
    | .locked => inOrder [enterHoldover r, relockTo (1 - r), guarUpdate] s
    | .holdover => relockTo (1 - r) s
    | .relock => if s.b.plumb.searchRef = r then relockTo (1 - r) s else []
    | .off | .search => []

/-- The line waits in SEARCH for a qualified reference (R522). -/
def waitSearch (cause : Nat) : Prog := fun _ =>
  [.set F.CLK_STATUS_SEARCHING 0,
   .upd fun b => { b with plumb := { b.plumb with mode := .search, hop := false, cause := cause, qualAt := none } }]

/-- CLK_CMD.RELOCK_FULL: SEARCH is entered for a full search and a new divider synchronisation, only while PWM is not
permitted (R40); without a qualified reference the search waits. A line in OFF has nothing to relock (log entry 53). -/
def relockFull : Prog := fun s =>
  if s.on F.SYS_STATUS_PERMIT || s.b.plumb.mode == .off then []
  else
    let a := s.get F.CLK_STATUS_ACTIVE_REF
    let r := if refQual s a then a else preferredRef s
    inOrder
      [ fun _ => effIf (s.on F.CLK_STATUS_LOCK_RAW) [.sticky F.CLK_STICKY_LOCK_LOST]
          ++ [.set F.CLK_STATUS_LOCK_RAW 0, .set F.SYS_STATUS_DIV_SYNC 0],
        if refQual s r then beginSearch .search r 2 else waitSearch 2, guarUpdate ] s

def execRefQualified (r : Fin 2) (s : State) : Result := run (refQualified r) s
def execRefLoss (r : Fin 2) (s : State) : Result := run (refLost r) s
def execLockRawLost (s : State) : Result := run (onMain lockRawLost) s
def execLineLock (code : Fin 4096) (phase : Fin 256) (s : State) : Result := run (onMain (lineLock code phase)) s
def execHopMiss (s : State) : Result := run (onMain hopMiss) s
def execFullSearchFail (s : State) : Result := run (onMain fullSearchFail) s
def execPhaseMoveStep (s : State) : Result := run (onMain phaseMoveStep) s
def execLockDeclare (s : State) : Result := run (onMain lockDeclare) s
def execLockClear (s : State) : Result := run lockClear s
def execLockFiltFault (s : State) : Result := run (onMain lockFiltFault) s
def execHoTrained (s : State) : Result := run (onMain hoTrained) s
def execHoldoverLong (s : State) : Result := run (onMain holdoverLong) s
def execClkPhaseCommit (s : State) : Result := run (onMain clkPhaseCommit) s
def execClearStored (s : State) : Result := run (onMain clearStored) s
def execSwitch (s : State) : Result := run (onMain clkSwitch) s
def execRelockFull (s : State) : Result := run (onMain relockFull) s

end Sys2Proof.Machine
end

