-- ==== Sys2Proof/Machine/Bed.lean ====
section
/-! DEFINITION. Bedrock and the Ledger (R401 to R427) and the saves of R312. A measurement of V_STORE, VBAT or
HARV_IN comes with the command that needs it; an FRAM operation is one command (log entry 36). -/

namespace Sys2Proof.Machine

def updBed (g : Bed → Bed) : Eff := .upd fun b => { b with bed := g b.bed }
def updLdg (g : Ldg → Ldg) : Eff := .upd fun b => { b with ldg := g b.ldg }

/-! ### Energy (R410) -/

/-- A measurement of V_STORE is shown. -/
def storeShow (mv : Nat) : Prog := fun s =>
  let e := energyPj s mv
  [.set F.BED_VSTORE_MV mv, .set F.BED_EAVAIL_NJ (e / 1000), .set F.BED_STATUS_RES_OK (bit (decide (writeNeeds s ≤ e)))]

/-! ### Writing records (R416 to R421) -/

/-- Bytes 0 to 27 of a record. -/
def recBytes (r : LedgerRec) : List Nat :=
  [r.code % 256, r.code / 256 % 256, r.inst % 256, r.sev % 128] ++ bytesOf r.opsec ++ [r.opsec / 2 ^ 32 % 256]
  ++ (bytesOf r.pwrcyc).take 3 ++ bytesOf r.p0 ++ bytesOf r.p1 ++ bytesOf r.p2 ++ bytesOf r.p3

/-- Four bytes as a word. -/
def byteWord : List Nat → Nat
  | [] => 0
  | b :: bs => b % 256 + 256 * byteWord bs

/-- The eight words of a record with its CRC, SEQ and MARK = 0x5A. -/
def recWords (r : LedgerRec) (seq : Nat) : List Nat :=
  let bs := recBytes r
  let c := crc16 bs
  (List.range 7).map (fun i => byteWord ((bs.drop (4 * i)).take 4))
    ++ [c + 2 ^ 16 * (seq % 256) + 2 ^ 24 * 0x5A]

/-- The word address of slot `k` of the Ledger, at byte 0x40_0000 + 32k. -/
def slotAddr (k : Nat) : Nat := 0x100000 + 8 * k

/-- The CRC of a slot stands (R416). -/
def slotCrcOk (s : State) (k : Nat) : Bool :=
  crc16 (wordBytes (s.words (slotAddr k) 7)) == s.word (slotAddr k + 7) % 2 ^ 16

/-- A slot holds a valid record, which a write to it replaces (LDG_COUNT). -/
def slotValid (s : State) (k : Nat) : Bool := s.word (slotAddr k + 7) / 2 ^ 24 == 0x5A && slotCrcOk s k

/-- A record is written at the write index, which advances (R418, R421, R423). -/
def ledgerWrite (r : LedgerRec) : Prog := fun s =>
  let k := s.get F.LDG_WR_IDX_SLOT
  let seq := s.get F.LDG_SEQ_SEQ
  let ws := recWords r seq
  [.mems (slotAddr k) ws, .set F.LDG_WR_IDX_SLOT ((k + 1) % 16384), .set F.LDG_SEQ_SEQ ((seq + 1) % 256),
   .set F.LDG_COUNT_N (min 16384 (s.get F.LDG_COUNT_N + bit (!slotValid s k))), .sticky F.LDG_STICKY_RECORD]
  ++ effIf (k == 16383 && !s.on F.LDG_CTRL_MODE) [.inc F.LDG_WRAPS_N 1, .sticky F.LDG_STICKY_WRAP]
  ++ effIf (s.on F.LDG_Q_EN && dieLinkOk s) [.que (s.get F.LDG_Q_QUEUE) 4 ws]

/-- One record is lost (R419, R421). -/
def recordLost : List Eff := [.inc F.LDG_CNT_LOST_N 1, .inc F.LDG_DEFER_LOST 1, .sticky F.LDG_STICKY_LOST]

/-- A record comes to be written: the modes of R421. -/
def ledgerPlace (r : LedgerRec) : Prog := fun s =>
  let n := s.get F.LDG_COUNT_N
  let keep := fun (reserve full : Bool) =>
    [Eff.set F.LDG_STATUS_RESERVE_ONLY (bit reserve), Eff.set F.LDG_STATUS_FULL (bit full)]
  if !s.on F.LDG_CTRL_MODE then thenDo (keep false false) (ledgerWrite r) s
  else if s.on F.LDG_STATUS_FULL || 16384 ≤ n then
    keep true true ++ effIf (!s.on F.LDG_STATUS_FULL) [.sticky F.LDG_STICKY_FULL] ++ recordLost
  else if 16128 ≤ n && !(3 ≤ r.sev % 8 || r.code == 0xA003) then keep true false ++ recordLost
  else if n = 16383 then
    thenDo (keep true true ++ [.sticky F.LDG_STICKY_FULL] ++ recordLost)
      (ledgerWrite (s.mkRecord 0xA008 0 [] false)) s
  else thenDo (keep (16127 ≤ n) false) (ledgerWrite r) s

/-- The head of the buffer leaves it. -/
def bufPop : Eff := updLdg fun l => { l with buf := l.buf.drop 1 }

/-- The record at the head is deferred (R420). -/
def deferHead (r : LedgerRec) : List Eff :=
  [bufPop, .inc F.LDG_DEFER_DEFER 1, .set F.LDG_STATUS_DEFERRING 1, .sticky F.LDG_STICKY_DEFER,
   updLdg fun l => { l with defFirst := (match l.defFirst with
                       | none => some (r.code, r.opsec)
                       | some x => some x), defLast := some (r.code, r.opsec) }]

/-- A save or checkpoint of a loss of VDD_PWR that may start goes before the records (R411). -/
def saveFirst (s : State) (e : Nat) : Bool :=
  (s.b.bed.savDue && opNeeds s resMetSave ≤ e) || (s.b.bed.cpDue && opNeeds s resCheckpoint ≤ e)

/-- LEDGER_RECORD_WRITE: the record at the head of the buffer is written, or deferred when its reservation is not
met or a summary is pending (R410, R418 to R421). -/
def recordWrite (mv : Nat) : Prog := fun s =>
  let e := energyPj s mv
  match s.b.ldg.buf with
  | [] => effIf (s.b.bed.src != .off) (storeShow mv s)
  | r :: _ =>
    if s.b.bed.src = .off ∨ s.on F.LDG_STATUS_SCANNING = true ∨ s.b.ldg.erasing = true then []
    else if saveFirst s e then storeShow mv s
    else thenDo (storeShow mv s)
      (if s.on F.LDG_STATUS_DEFERRING then (fun s => if e < 2 * writeNeeds s then deferHead r else [])
       else if e < writeNeeds s then (fun _ => deferHead r)
       else thenDo [bufPop] (ledgerPlace r)) s

/-- DEFER_SUMMARY: E_avail has reached twice WRITE + KEEP; the saves of a loss of VDD_PWR go first (R411, R420). -/
def deferSummary (mv : Nat) : Prog := fun s =>
  let l := s.b.ldg
  let f := l.defFirst.getD (0, 0)
  let g := l.defLast.getD (0, 0)
  if s.b.bed.src = .off then []
  else if !s.on F.LDG_STATUS_DEFERRING || energyPj s mv < 2 * writeNeeds s || s.b.ldg.erasing
      || saveFirst s (energyPj s mv) then storeShow mv s
  else
    let r := s.mkRecord 0xA003 0
      [s.get F.LDG_DEFER_DEFER + 2 ^ 16 * s.get F.LDG_DEFER_LOST, f.2, f.1 + 2 ^ 16 * g.1, g.2] false
    thenDo (storeShow mv s ++ [.set F.LDG_DEFER_DEFER 0, .set F.LDG_DEFER_LOST 0, .set F.LDG_STATUS_DEFERRING 0,
        updLdg fun l => { l with defFirst := none, defLast := none }])
      (ledgerPlace r) s

/-! ### Saves (R312, R410, R411, R415) -/

/-- A save may start: it is due, by a loss of VDD_PWR or 60 s after the last one at `last`; a periodic one waits for the
buffer to be empty, for 1 s at most; its reservation is met and no erase is in progress (R410, R411). -/
def saveStarts (s : State) (lossDue : Bool) (last res mv : Nat) : Bool :=
  let due := decide (last + 60 ≤ s.b.bed.opsec) && (s.b.ldg.buf.isEmpty || decide (last + 61 ≤ s.b.bed.opsec))
  (lossDue || due) && !s.b.ldg.erasing && decide (opNeeds s res ≤ energyPj s mv)

/-- COUNTER_CHECKPOINT: the copy is written where it may start, else it waits. -/
def counterCheckpoint (mv : Nat) : Prog := fun s =>
  if s.b.bed.src = .off then []
  else storeShow mv s ++
    effIf (saveStarts s s.b.bed.cpDue s.b.bed.cpAt resCheckpoint mv)
      (let c : Checkpoint := { opsec := s.b.bed.opsec, pwrcyc := s.get F.BED_PWRCYC_N, wraps := s.get F.LDG_WRAPS_N,
                               lost := s.get F.LDG_CNT_LOST_N, roNext := s.get F.MON_RO_NEXT_S }
       [updBed fun b => { b with cpDue := false, cpAt := b.opsec, cps := (c :: b.cps).take 2 }])

/-- METROLOGY_SAVE. -/
def metrologySave (mv : Nat) : Prog := fun s =>
  if s.b.bed.src = .off then []
  else storeShow mv s ++
    effIf (saveStarts s s.b.bed.savDue s.b.bed.savAt resMetSave mv)
      [updBed (fun b => { b with savDue := false, savAt := b.opsec }),
       updMet fun m => { m with saved := (metCopy s :: m.saved).take 2 }]

/-! ### Sources (R404 to R409) -/

/-- The code of a source state; OFF has none, and its value is free (log entry 3). -/
def srcCode (s : State) : BedSrc → Nat
  | .main => 0
  | .harv => 1
  | .bat => 2
  | .off => fresh s 0 % 4

/-- A change of source state (R407). -/
def srcTo (new : BedSrc) : Prog := fun s =>
  let old := s.b.bed.src
  if old = new then []
  else [updBed fun b => { b with src := new }, .set F.BED_STATUS_SRC (srcCode s new), .sticky F.BED_STICKY_SRC_CHANGE,
        .led 0xA001 0 [srcCode s new, srcCode s old, s.get F.BED_VSTORE_MV, s.get F.BED_VBAT_MV]]
    ++ effIf (old == .off || new == .off) [spend 1]

/-- The domain stops (R405): the buffers are gone, and the watch has no source to run from (R317). -/
def toOff : Prog := fun _ =>
  [.set F.MET_STATUS_WATCH 0,
   updBed fun b => { b with src := .off, coldRan := false, anchorDue := false, anchorPrev := none, absentAt := none,
                            cpDue := false, savDue := false },
   .upd fun b => { b with ldg := { hold := b.ldg.hold, holdLost := b.ldg.holdLost }, met := { b.met with keep := {}, watch := false } }]

/-- VBAT carries the domain. -/
def vbatUsable (s : State) : Bool := s.on F.BED_STATUS_VBAT_PRESENT && s.on F.BED_CTRL_VBAT_EN

/-- The main harvest converter runs: it takes over at 2.00 V and runs while V_STORE is at least 1.90 V and harvest is
permitted (R408). -/
def harvRuns (s : State) (mv : Nat) : Bool :=
  s.on F.BED_CTRL_HARV_EN && (2000 ≤ mv || (s.on F.BED_STATUS_HARV_RUN && 1900 ≤ mv))

/-- The cold-start oscillator runs (R408). -/
def coldRuns (s : State) (mv : Nat) : Bool :=
  s.on F.BED_CTRL_HARV_EN && !s.on F.BED_STATUS_VDD_PRESENT && decide (mv < 2000) && decide (330 ≤ s.b.bed.harvIn)
    && !harvRuns s mv

/-- HARV_RUN and COLD follow. -/
def harvShow (mv : Nat) : Prog := fun s =>
  [.set F.BED_STATUS_HARV_RUN (bit (harvRuns s mv)), .set F.BED_STATUS_COLD (bit (coldRuns s mv))]

/-- The start from OFF (R415, R401): every BED and LDG field at its reset value, the copies restored, the scan begun;
`badCp`, `badMet` copies fail their CRC. -/
def bedStart (src : BedSrc) (mv vbat badCp badMet : Nat) : Prog := fun s =>
  let c := (s.b.bed.cps[badCp]?).getD {}
  inOrder
    [ fun _ => [.clear (keyAt 0xA0000) (keyAt 0xA2000), .set F.BED_PWRCYC_N c.pwrcyc, .set F.LDG_WRAPS_N c.wraps,
        .set F.LDG_CNT_LOST_N c.lost, .set F.MON_RO_NEXT_S c.roNext, .set F.BED_VBAT_MV vbat,
        .set F.BED_STATUS_VBAT_PRESENT (bit (decide (2000 ≤ vbat))), .set F.BED_STATUS_VBAT_LOW (bit (decide (vbat < 2600))),
        .set F.LDG_STATUS_SCANNING 1,
        updBed fun b => { b with opsec := c.opsec, cpOpsec := c.opsec, anchorAt := c.opsec, cpAt := c.opsec
                                 savAt := c.opsec, vocAt := none, vocNew := false, xtalAt := s.b.cyc
                                 vbat := vbat, vstore := mv, offStart := true }],
      storeShow mv, harvShow mv, srcTo src, metRestore badMet ] s

/-- BEDROCK_START: the domain runs from 1.85 V of V_STORE: in BAT when VBAT is present, in HARV when the cold start has
brought V_STORE there, for which HARV_IN is at least 0.33 V (R405, R408). -/
def bedrockStart (mv vbat badCp badMet : Nat) : Prog := fun s =>
  if s.b.bed.src ≠ .off then []
  else if mv < 1850 then [updBed fun b => { b with vbat := vbat, vstore := mv }]
  else if 2000 ≤ vbat then bedStart .bat mv vbat badCp badMet s
  else thenDo [updBed fun b => { b with harvIn := max b.harvIn 330 }] (bedStart .harv mv vbat badCp badMet) s

/-- The monitor's bit for VDD_PWR follows VDD_PRESENT (R474). -/
def railPwr : Prog := fun s =>
  let out := !s.on F.BED_STATUS_VDD_PRESENT
  if s.b.sys.inReset || (s.get F.MON_STATUS_RAIL_OUT).testBit 5 == out then []
  else thenDo (putBit s F.MON_STATUS_RAIL_OUT 5 out
      :: effIf out [.sticky F.MON_STICKY_RAIL_OUT, .led 0x0C03 0 [5, s.get (F.MON_RAIL_MV 5)]])
    (inOrder [guarUpdate, butFaultUpdate]) s

/-- The power die leaves reset (R486). -/
def pwrRelease : Prog := fun _ =>
  [.upd fun b => { b with sys := { b.sys with pwrReset := false, pwrReleaseAt := some b.cyc } },
   updPar fun p => { p with st2 := parInit, fault2 := 0 }]

/-- The time for which VDD_PWR was absent, in s; time in OFF is not counted (R415), and the spec states no value for
it (log entry 3). -/
def absentTime (s : State) : Nat :=
  match s.b.bed.absentAt with
  | some o => s.b.bed.opsec - o
  | none => fresh s 0

/-- VDD_PWR has been absent for at least 10 ms (R407). -/
def absentLong (s : State) : Bool := decide (s.b.bed.lossAt + usCyc 10000 ≤ s.b.cyc)

/-- VDD_PWR comes back too soon: it has not stood in its window for 1 ms since it was lost (R404). -/
def tooSoon (s : State) : Bool := s.b.bed.src != .off && decide (s.b.cyc < s.b.bed.lossAt + usCyc 1000)

/-- VDD_PWR_PRESENT: VDD_PWR has stood in its window for 1 ms; from OFF the domain starts with V_STORE at 1.85 V. The power
cycle counts when VDD_PWR was absent for at least 10 ms, as it was before a start from OFF (R404, R405, R407). -/
def vddPresent (mv : Nat) : Prog := fun s =>
  let fromOff := s.b.bed.src == .off
  if (!fromOff && s.on F.BED_STATUS_VDD_PRESENT) || tooSoon s || (fromOff && decide (mv < 1850)) then []
  else inOrder
    [ if fromOff then bedStart .main mv s.b.bed.vbat 0 0 else fun _ => [],
      fun s => [.set F.BED_STATUS_VDD_PRESENT 1] ++ storeShow mv s
        ++ effIf (absentLong s || s.b.bed.offStart) [.inc F.BED_PWRCYC_N 1]
        ++ [updBed fun b => { b with offStart := false }],
      harvShow mv, codeFlush, srcTo .main,
      fun s => [.led 0xA002 0 [absentTime s, s.get F.BED_PWRCYC_N], spend 1],
      watchStop, pwrRelease, railPwr ] s

/-- VDD_PWR_LOSS: the saves fall due before the buffered records (R404, R405, R407, R411). -/
def vddLoss (mv : Nat) : Prog := fun s =>
  if s.b.bed.src ≠ .main then []
  else inOrder
    [ fun s => [.set F.BED_STATUS_VDD_PRESENT 0, .sticky F.BED_STICKY_VDD_LOSS,
        updBed fun b => { b with absentAt := some b.opsec, lossAt := s.b.cyc, cpDue := true, savDue := true }]
        ++ storeShow mv s,
      harvShow mv,
      srcTo (if vbatUsable s && mv < 2200 then .bat else .harv), watchStart, railPwr ] s

/-- In HARV with V_STORE below 2.20 V, VBAT takes over where it may (R405). -/
def batIfLow : Prog := onlyIf (fun s => s.b.bed.src == .harv && s.get F.BED_VSTORE_MV < 2200 && vbatUsable s) (srcTo .bat)

/-- A write of BED_CTRL has changed VBAT_EN or HARV_EN (R405, R408). -/
def bedCtrl : Prog := onlyIf (fun s => s.b.bed.src != .off) (inOrder
  [ fun s => harvShow (s.get F.BED_VSTORE_MV) s, batIfLow ])

/-- A measurement of VBAT is shown; each fall below 2.6 V sets the flag and writes a record (R404). -/
def vbatShow (mv : Nat) : Prog := fun s =>
  let low := decide (mv < 2600)
  [updBed fun b => { b with vbat := mv }, .set F.BED_VBAT_MV mv, .set F.BED_STATUS_VBAT_LOW (bit low)]
    ++ effIf (low && !s.on F.BED_STATUS_VBAT_LOW) [.sticky F.BED_STICKY_VBAT_LOW, .led 0xA004 0 [mv]]

/-- VBAT_LOW: VBAT falls below 2.6 V; at 2.6 V or more the status clears (R404). -/
def vbatLow (mv : Nat) : Prog := fun s =>
  if s.b.bed.src = .off then [updBed fun b => { b with vbat := mv }] else vbatShow mv s

/-- VBAT_PRESENT_CHANGE: VBAT crosses 2.0 V; from OFF, with V_STORE as it last stood at 1.85 V or more, into BAT (R405). -/
def vbatChange (mv : Nat) : Prog := fun s =>
  let on := decide (2000 ≤ mv)
  if s.b.bed.src = .off then
    (if on && decide (1850 ≤ s.b.bed.vstore) then bedStart .bat s.b.bed.vstore mv 0 0 s
     else [updBed fun b => { b with vbat := mv }])
  else thenDo (vbatShow mv s ++ [.set F.BED_STATUS_VBAT_PRESENT (bit on)])
    (if s.b.bed.src = .bat ∧ on = false then srcTo .harv else batIfLow) s

/-- STORE_THRESHOLD: V_STORE crosses a threshold, with HARV_IN as it stands (R405, R408). -/
def storeThreshold (mv harv : Nat) : Prog :=
  thenDo [updBed fun b => { b with vstore := mv, harvIn := harv }]
    (onlyIf (fun s => s.b.bed.src != .off) (inOrder
      [ storeShow mv, harvShow mv, codeFlush,
        fun s =>
          if s.b.bed.src = .harv ∧ mv < 1800 then toOff s
          else if s.b.bed.src = .harv ∧ mv < 2200 ∧ vbatUsable s = true then srcTo .bat s
          else [] ]))

/-- HARVEST_PROBE: the probe that follows an open-circuit sample ends; `mv` is the lowest sample of V_STORE in its
second without VBAT, which passes at 2.40 V (R406). -/
def harvestProbe (mv : Nat) : Prog := fun s =>
  if s.b.bed.src = .bat ∧ s.on F.BED_STATUS_HARV_RUN = true ∧ s.b.bed.vocNew = true then
    inOrder [fun s => updBed (fun b => { b with vocNew := false }) :: storeShow mv s,
      onlyIf (fun _ => decide (2400 ≤ mv)) (srcTo .harv)] s
  else []

/-- HARVEST_SAMPLE: the open-circuit voltage in mV, every 16 s (R409). -/
def harvestSample (voc : Nat) : Prog := fun s =>
  effIf (s.on F.BED_STATUS_HARV_RUN && s.b.bed.vocAt.all fun t => t + 16 ≤ s.b.bed.opsec)
    [.set F.BED_HARV_VOC voc, updBed fun b => { b with vocAt := some b.opsec, vocNew := true }]

/-- The voltage in units of 10 µV to which the main converter regulates HARV_IN: FRAC % of V_OC (R409). -/
def harvestPoint (s : State) : Nat := s.get F.BED_HARV_FRAC * s.get F.BED_HARV_VOC

/-- The VBAT path is on in BAT (R405). -/
def vbatPath (s : State) : Bool := s.b.bed.src == .bat

/-- COLD_START: V_STORE reaches 2.00 V; `secs` is the time it took (R408). -/
def coldStart (secs mv : Nat) : Prog := fun s =>
  if s.b.bed.src = .off ∨ s.on F.BED_CTRL_HARV_EN = false ∨ s.on F.BED_STATUS_VDD_PRESENT = true ∨ mv < 2000 then []
  else storeShow mv s ++ [.set F.BED_STATUS_COLD 0, .set F.BED_STATUS_HARV_RUN 1]
    ++ effIf (!s.b.bed.coldRan)
        [updBed (fun b => { b with coldRan := true }), .sticky F.BED_STICKY_COLD_START,
         .led 0xA006 0 [secs, s.get F.BED_HARV_VOC]]

/-! ### Counters and time anchors (R414, R425) -/

/-- XTAL_FAIL, and XTAL_RESTORE after 1 s of valid edges at the earliest. -/
def xtalFail : Prog := fun s =>
  effIf (s.on F.BED_STATUS_XTAL_OK && s.b.bed.src != .off)
    [.set F.BED_STATUS_XTAL_OK 0, .sticky F.BED_STICKY_XTAL_FAIL, updBed (fun b => { b with xtalAt := s.b.cyc }), .led 0xA005 0 [0]]
def xtalRestore : Prog := fun s =>
  effIf (!s.on F.BED_STATUS_XTAL_OK && s.b.bed.src != .off && decide (s.b.bed.xtalAt + usCyc 1000000 ≤ s.b.cyc)) [.set F.BED_STATUS_XTAL_OK 1, .led 0xA005 0 [1]]

/-- The oscillator error since the previous anchor in 0.01 ppm (R425). -/
def anchorError (s : State) : Nat :=
  let b := s.b.bed
  match b.anchorPrev with
  | none => 0x80000000
  | some (t, o, p, v) =>
    if p ≠ s.get F.BED_PWRCYC_N ∨ v = false ∨ s.on F.TIM_STATUS_VALID = false ∨ b.opsec ≤ o then 0x80000000
    else
      let dO : Int := (b.opsec - o : Nat) * (tuSec : Nat)
      let dR : Int := (s.b.tim.t : Int) - t
      fieldOf s 32 (roundDiv ((dR - dO) * 100000000) dO.toNat)

/-- A time anchor is written at a tick while the die-to-die path works. -/
def timeAnchor : Prog := fun s =>
  let b := s.b.bed
  let w := stampWords s
  if !dieLinkOk s || !(b.anchorDue || b.anchorAt + 600 ≤ b.opsec) then []
  else [.led 0xA010 0 (w ++ [anchorError s]), spend 1,
        updBed fun q => { q with anchorDue := false, anchorAt := q.opsec
                                 anchorPrev := some (s.b.tim.t, q.opsec, s.get F.BED_PWRCYC_N, s.on F.TIM_STATUS_VALID) }]

/-- OPSEC_TICK. -/
def opsecTick : Prog := fun s =>
  if s.b.bed.src = .off then []
  else inOrder [fun _ => [updBed fun b => { b with opsec := (b.opsec + 1) % 2 ^ 40 }], timeAnchor, codeFlush] s

/-- OPSEC_READ: a read of BED_OPSEC_LO latches HI and SUBSEC; `n` is the oscillator count within the second. -/
def opsecRead (n : Nat) : Prog := fun s =>
  let o := s.b.bed.opsec
  [.set F.BED_OPSEC_LO_S (o % 2 ^ 32), .set F.BED_OPSEC_HI_S (o / 2 ^ 32), .set F.BED_SUBSEC_N n]

/-! ### Recovery and erasure (R422, R424) -/

/-- The marked slots, from the words of the Ledger that are not 0. -/
def markedSlots (s : State) : List Nat :=
  (s.mem.filter fun p => 0x100000 ≤ p.1 && p.1 < 0x120000 && p.1 % 8 == 7 && p.2 / 2 ^ 24 == 0x5A).map
    fun p => (p.1 - 0x100000) / 8

/-- OPSEC and SEQ of a slot. -/
def slotOpsec (s : State) (k : Nat) : Nat := s.word (slotAddr k + 1) + 2 ^ 32 * (s.word (slotAddr k + 2) % 256)
def slotSeq (s : State) (k : Nat) : Nat := s.word (slotAddr k + 7) / 2 ^ 16 % 256

/-- The newest slot: the highest OPSEC, among equals the one that no other follows in SEQ. -/
def newestSlot (s : State) (ks : List Nat) : Option Nat :=
  let top := ks.foldl (fun m k => max m (slotOpsec s k)) 0
  let eq := ks.filter fun k => slotOpsec s k == top
  match eq.find? fun k => !eq.any fun j => slotSeq s j == (slotSeq s k + 1) % 256 with
  | some k => some k
  | none => eq.getLast?

/-- LEDGER_SCAN_DONE: the write index, the count, SEQ and the operating seconds are set, then RESTORED (R415,
R424). -/
def ledgerScanDone : Prog := fun s =>
  let ks := markedSlots s
  let bad := ks.filter fun k => !slotCrcOk s k
  let good := ks.filter (slotCrcOk s)
  let n := newestSlot s good
  let o := match n with
    | some k => slotOpsec s k
    | none => 0
  if !s.on F.LDG_STATUS_SCANNING then []
  else
    [.set F.LDG_STATUS_SCANNING 0, .set F.LDG_COUNT_N good.length,
     .set F.LDG_WR_IDX_SLOT (match n with
       | some k => (k + 1) % 16384
       | none => 0),
     .set F.LDG_SEQ_SEQ (match n with
       | some k => (slotSeq s k + 1) % 256
       | none => 0),
     updBed fun b =>
       let now := (max b.cpOpsec o + 1) % 2 ^ 40
       { b with opsec := now, anchorAt := now, cpAt := now, savAt := now, vocAt := b.vocAt.map fun _ => now }]
    ++ effIf (!bad.isEmpty) [.sticky F.LDG_STICKY_SCAN_CRC, .led 0xA00A 0 [bad.length, bad.headD 0]]
    ++ [.sticky F.BED_STICKY_RESTORED, .led 0xA007 0 [s.b.bed.cpOpsec, o]]

/-- LDG_CMD.ERASE. -/
def erase : Prog := fun s =>
  if s.b.bed.src = .main ∧ s.on F.MTC_STATUS_LOCKED = false ∧ s.b.ldg.erasing = false then
    [.set F.LDG_STATUS_BUSY 1, updLdg fun l => { l with erasing := true, eraseN := s.get F.LDG_COUNT_N }]
  else [.sticky F.LDG_STICKY_CMD_REJECT]

/-- The ERASED record is written in slot 0, or deferred when its reservation is not met at V_STORE as last measured (R410,
R420, R422). -/
def erasedRecord (n : Nat) : Prog := fun s =>
  let r := s.mkRecord 0xA009 0 [n] false
  let e := energyPj s (s.get F.BED_VSTORE_MV)
  if e < (if s.on F.LDG_STATUS_DEFERRING then 2 * writeNeeds s else writeNeeds s) then (deferHead r).drop 1
  else thenDo (ledgerWrite r s) (fun _ => [.set F.LDG_COUNT_N 1]) s

/-- ERASE_DONE: MARK is 0 in every slot; ERASED stands in slot 0. -/
def eraseDone : Prog := fun s =>
  if !s.b.ldg.erasing then []
  else
    let marks := (s.mem.filter fun p => 0x100000 ≤ p.1 && p.1 < 0x120000 && p.1 % 8 == 7).map
      fun p => Eff.mem p.1 (p.2 % 2 ^ 24)
    inOrder
      [ fun _ => marks ++ [.set F.LDG_STATUS_BUSY 0, .set F.LDG_WR_IDX_SLOT 0, .set F.LDG_COUNT_N 0, .set F.LDG_WRAPS_N 0,
          .set F.LDG_STATUS_FULL 0, .set F.LDG_STATUS_RESERVE_ONLY 0, updLdg fun l => { l with erasing := false }],
        erasedRecord s.b.ldg.eraseN, codeFlush ] s

/-! ### Register writes (R409, R412, R416) -/

/-- BED_CONFIG_WRITE: 0 BED_HARV, 1 BED_STORE, 2 BED_RES; a value out of range is ignored and flagged. -/
def bedConfig (k v : Nat) : Prog := fun _ =>
  if k = 0 then
    let f := bitsOf v 23 16
    if 50 ≤ f ∧ f ≤ 90 then [.set F.BED_HARV_FRAC f] else [.sticky F.BED_STICKY_CFG_REJECT]
  else if k = 1 then
    let c := bitsOf v 15 0
    if 100 ≤ c ∧ c ≤ 4700 then [.set F.BED_STORE_CAP_UF c] else [.sticky F.BED_STICKY_CFG_REJECT]
  else
    if 30 ≤ bitsOf v 15 0 ∧ 50 ≤ bitsOf v 31 16 then
      [.set F.BED_RES_WRITE (bitsOf v 15 0), .set F.BED_RES_KEEP (bitsOf v 31 16)]
    else [.sticky F.BED_STICKY_CFG_REJECT]

/-- SEVQ_LOOKUP. -/
def sevqLookup (code : Nat) : Prog := fun _ => [.set F.LDG_SEVQ_CODE code, .set F.LDG_SEVQ_SEV (severity code)]

/-! ### The die-to-die path for records (R419) -/

/-- The path recovers: the records held are forwarded, those beyond 64 are lost. -/
def holdForward : Prog := fun s =>
  let l := s.b.ldg
  let room := 16 - l.buf.length
  [updLdg fun m => { m with buf := m.buf ++ m.hold.take room, now := 0, hold := [], holdLost := 0 }]
  ++ (let n := l.holdLost + (l.hold.length - room)
      effIf (n != 0) [.inc F.LDG_CNT_LOST_N n, .inc F.LDG_DEFER_LOST n, .sticky F.LDG_STICKY_LOST])

def execVddPwrLoss (mv : BitVec 16) (s : State) : Result := run (vddLoss mv.toNat) s
def execVbatLow (mv : BitVec 16) (s : State) : Result := run (vbatLow mv.toNat) s
def execVbatPresentChange (mv : BitVec 16) (s : State) : Result := run (vbatChange mv.toNat) s
def execStoreThreshold (mv harv : BitVec 16) (s : State) : Result := run (storeThreshold mv.toNat harv.toNat) s
def execHarvestProbe (mv : BitVec 16) (s : State) : Result := run (harvestProbe mv.toNat) s
def execHarvestSample (voc : BitVec 16) (s : State) : Result := run (harvestSample voc.toNat) s
def execColdStart (secs : BitVec 32) (mv : BitVec 16) (s : State) : Result := run (coldStart secs.toNat mv.toNat) s
def execLedgerRecordWrite (mv : BitVec 16) (s : State) : Result := run (recordWrite mv.toNat) s
def execDeferSummary (mv : BitVec 16) (s : State) : Result := run (deferSummary mv.toNat) s
def execCounterCheckpoint (mv : BitVec 16) (s : State) : Result := run (counterCheckpoint mv.toNat) s
def execMetrologySave (mv : BitVec 16) (s : State) : Result := run (metrologySave mv.toNat) s
def execXtalFail (s : State) : Result := run xtalFail s
def execXtalRestore (s : State) : Result := run xtalRestore s
def execOpsecTick (s : State) : Result := run opsecTick s
def execBedrockStart (mv vbat : BitVec 16) (badCp badMet : Fin 3) (s : State) : Result :=
  run (bedrockStart mv.toNat vbat.toNat badCp badMet) s
def execLedgerScanDone (s : State) : Result := run ledgerScanDone s
def execErase (s : State) : Result := run (onPages erase) s
def execEraseDone (s : State) : Result := run eraseDone s
def execOpsecRead (n : BitVec 15) (s : State) : Result := run (onPages (opsecRead n.toNat)) s
def execBedConfigWrite (k : Fin 3) (v : Word) (s : State) : Result := run (onPages (bedConfig k v.toNat)) s
def execSevqLookup (code : BitVec 16) (s : State) : Result := run (onPages (sevqLookup code.toNat)) s

end Sys2Proof.Machine
end

