-- ==== Sys2Proof/Machine/Pmp.lean ====
section
/-! DEFINITION. The coolant pump drive: commutation, start, speed, bootstraps, supply monitors, faults and the
pump outputs (R344 to R363). -/

namespace Sys2Proof.Machine

def updPmp (g : Pmp → Pmp) : Eff := .upd fun b => { b with pmp := g b.pmp }

/-- States of PMP_STATUS.STATE. -/
def pmpOff : Nat := 0
def pmpAlign : Nat := 1
def pmpRamp : Nat := 2
def pmpRun : Nat := 3
def pmpBrake : Nat := 4
def pmpFault : Nat := 5

/-- The pump is in a state. -/
def pmpIn (s : State) (k : Nat) : Bool := s.get F.PMP_STATUS_STATE == k

/-- The HIGH decision of a comparator as a user reads it: a comparator that is disabled or sampled reads 0
(R258, R263, R359). -/
def cmpUsable (s : State) (c : Nat) : Bool :=
  s.curOn (F.WIN_CFG_EN c) && s.on (F.CMP_CTRL_ENABLE (c / 16)) && s.cur (F.WIN_CFG_MODE c) == 0
def cmpHigh (s : State) (c : Nat) : Bool := cmpUsable s c && s.on (F.WIN_STAT_HIGH c)
def cmpLow (s : State) (c : Nat) : Bool := cmpUsable s c && s.on (F.WIN_STAT_LOW c)

/-! ### Outputs (R360) -/

/-- The rank of R360 that decides the outputs; 5 and 6 act on single legs. -/
def pmpRank (s : State) : Nat :=
  if s.b.sys.inReset || !s.on F.PMP_CTRL_ENABLE || s.on F.SYS_GUAR_DIE_LINK || s.b.sys.pwrReset then 1
  else if s.b.pmp.oc then 2
  else if s.on F.PMP_STATUS_VM_UV then 3
  else if s.on F.PMP_STATUS_VM_OV then 4
  else 7

/-- The phases of a step, 0 = A, 1 = B, 2 = C: the modulated one and the one held on (Commutation). -/
def stepPhases (k : Nat) : Nat × Nat :=
  [(0, 1), (0, 2), (1, 2), (1, 0), (2, 0), (2, 1)].getD k (0, 1)

/-- The refresh that opens a period in full-on operation: the high side off, DT, the low side on for REF_W, DT (R356). -/
def refreshOut (s : State) (x : Nat) : Bool × Bool :=
  let dt := s.cur F.PMP_DT_DT
  (decide (2 * dt + s.cur F.PMP_BOOT_REF_W ≤ x), decide (dt ≤ x) && decide (x < dt + s.cur F.PMP_BOOT_REF_W))

/-- The modulated leg, `x` (100 ps) after the period's start: the high side is on for the on-time, and with SYNC the low
side for the rest of the period after the dead time (R347, R352, R356, log entry 20). -/
def modulated (s : State) (x : Nat) : Bool × Bool :=
  let p := s.b.pmp
  let w := if p.limited then min p.limitAt p.onTime else p.onTime
  if p.periodAt.isNone then (false, false)
  else if p.refresh && !p.limited then refreshOut s x
  else (decide (x < w),
    s.curOn F.PMP_PWM_SYNC && decide (w + s.cur F.PMP_DT_DT ≤ x) && decide (x < s.cur F.PMP_PWM_PER * 64))

/-- The sequencer's command of a leg in this cycle: high and low side. -/
def legCommand (s : State) (ph : Nat) : Bool × Bool :=
  let k := stepPhases (s.get F.PMP_STATUS_STEP)
  if pmpIn s pmpBrake then (false, true)
  else if pmpIn s pmpAlign || pmpIn s pmpRamp || pmpIn s pmpRun then
    if ph = k.1 then modulated s ((s.b.cyc - s.b.pmp.periodAt.getD 0) * 64)
    else (false, ph == k.2)
  else (false, false)

/-- The outputs of a leg (R360). `crossed`: the opposite gate stands above 1.5 V. -/
def legOut (s : State) (ph : Nat) : Bool × Bool :=
  match pmpRank s with
  | 1 | 2 | 3 => (false, false)
  | 4 => (false, s.curOn F.PMP_VM_OV_ACT)
  | _ =>
    let c := legCommand s ph
    if s.b.pmp.crossed.testBit ph || (c.1 && c.2) then (false, false)
    else (c.1 && !(s.get F.PMP_STATUS_BOOT_HOLD).testBit ph, c.2)

/-- The drive of a gate edge: the sequence of the profile that GDP_PMP_PSEL names, or T_SOFT where an over-current turns
the output off; strong throughout while profiles are not applied (R272, R344). -/
def pumpEdge (s : State) (rising : Bool) : PumpEdge :=
  let g := s.cur F.GDP_PMP_PSEL_PROF
  let now := s.b.cyc * 64
  if !s.on F.GDP_CTRL_ENABLE then ⟨now, 0, 0⟩
  else if pmpRank s == 2 && !rising && s.cur (F.GDP_PROF_SOFT_T_SOFT g) != 0 then ⟨now, 0, s.cur (F.GDP_PROF_SOFT_T_SOFT g)⟩
  else if rising then ⟨now, s.cur (F.GDP_PROF_ON_T1 g), s.cur (F.GDP_PROF_ON_T2 g)⟩
  else ⟨now, s.cur (F.GDP_PROF_OFF_T1 g), s.cur (F.GDP_PROF_OFF_T2 g)⟩

/-- The pre-driver of output `k` (HA, LA, HB, LB, HC, LC) drives weakly (R272). -/
def pumpWeak (s : State) (k : Nat) : Bool :=
  let e := s.b.pmp.edges.getD k {}
  let now := s.b.cyc * 64
  decide (e.at' + e.strong ≤ now) && decide (now < e.at' + e.strong + e.weak)

/-- The six outputs of three legs, in the order HA, LA, HB, LB, HC, LC. -/
def sixOuts (legs : List (Bool × Bool)) : List Bool := legs.flatMap fun l => [l.1, l.2]

/-- The outputs follow the conditions of R360; each gate edge starts its drive sequence (R272); where the interlock acts
it is flagged and recorded once until the flag is cleared (R363). -/
def pmpDrive : Prog := fun s =>
  let c := s.b.pmp.crossed
  let act := pmpRank s == 7 && c != 0
  let leg := if c.testBit 0 then 0 else if c.testBit 1 then 1 else 2
  let legs := (List.range 3).map (legOut s)
  let new := sixOuts legs
  let old := sixOuts s.b.pmp.legs
  [updPmp fun p => { p with
      legs := legs
      edges := (List.range 6).map fun k =>
        if new.getD k false == old.getD k false then p.edges.getD k {} else pumpEdge s (new.getD k false)
      lowAt := if new.any id || old.any id || !pmpIn s pmpOff then s.b.cyc else p.lowAt }]
  ++ effIf act [.sticky F.PMP_STICKY_SHOOT_BLOCK]
  ++ effIf (act && !s.on F.PMP_STICKY_SHOOT_BLOCK) [.led 0x8005 0 [leg, 0]]

/-! ### States and faults -/

/-- The sequencer leaves its phase for OFF or FAULT: no PWM runs. -/
def pmpHalt (state : Nat) : List Eff :=
  [.set F.PMP_STATUS_STATE state,
   updPmp fun p => { p with onTime := 0, full := false, refresh := false, limited := false, seen := false,
                            zcN := 0, periodAt := none, crossed := 0 },
   .upd fun b => { b with pmp := { b.pmp with lowAt := b.cyc } }]

/-- The sticky flag of a cause. -/
def causeFlag : Nat → List Eff
  | 1 => [.sticky F.PMP_STICKY_OC]
  | 2 => [.sticky F.PMP_STICKY_OV]
  | 3 => [.sticky F.PMP_STICKY_START_FAIL]
  | 4 => [.sticky F.PMP_STICKY_STALL]
  | 6 => [.sticky F.PMP_STICKY_WDOG]
  | _ => []

/-- The sequencer enters FAULT with a cause (R351, R357 to R361). In FAULT already, only an over-current takes
the cause over, and it is latched (log entry 20). -/
def pmpFailEff (cause : Nat) : Prog := fun s =>
  causeFlag cause
  ++ effIf (cause == 1) [updPmp fun p => { p with oc := true }]
  ++ effIf (!pmpIn s pmpFault || (cause == 1 && s.get F.PMP_STATUS_CAUSE != 1))
      (pmpHalt pmpFault
        ++ [.set F.PMP_STATUS_CAUSE cause, .led 0x8002 0 [cause, s.get F.PMP_STATUS_STATE]])

/-- The sequencer enters FAULT, and the outputs follow (R360). -/
def pmpFail (cause : Nat) : Prog := fun s => thenDo (pmpFailEff cause s) pmpDrive s

/-- FAULT is left for OFF (R362). -/
def pmpUnfault (auto : Nat) : Prog := fun s =>
  thenDo (pmpHalt pmpOff ++ [.set F.PMP_STATUS_CAUSE 0, updPmp (fun p => { p with oc := false }),
      .led 0x8003 0 [s.get F.PMP_STATUS_CAUSE, auto]]) pmpDrive s

/-- The over-current comparator asserts (R359). -/
def pmpOcHigh (s : State) : Bool := s.curOn F.PMP_LIMIT_OC_EN && cmpHigh s (s.cur F.PMP_LIMIT_OC_CMP)

/-- A comparator's HIGH has set: over-current (R359) and the cycle-by-cycle limit (R352). -/
def pmpHighSet (c : Nat) : Prog := inOrder
  [ onlyIf (fun s => s.on F.PMP_CTRL_ENABLE && pmpOcHigh s && s.cur F.PMP_LIMIT_OC_CMP == c) (pmpFail 1),
    onlyIf (fun s => s.curOn F.PMP_LIMIT_ILIM_EN && s.cur F.PMP_LIMIT_ILIM_CMP == c && cmpHigh s c
        && (pmpIn s pmpAlign || pmpIn s pmpRamp || (pmpIn s pmpRun && s.curOn F.PMP_LIMIT_ILIM_RUN)))
      (fun s => thenDo [updPmp fun p => if p.limited then p else
          { p with limited := true, limitAt := (s.b.cyc - p.periodAt.getD s.b.cyc) * 64 }] pmpDrive s) ]

/-- OC_UNPROT follows the comparators that the limit and the over-current fault name while they are enabled; one
record for each that begins not to act (R359, log entry 20). -/
def pmpUnprot : Prog := fun s =>
  let lim := s.curOn F.PMP_LIMIT_ILIM_EN && !cmpUsable s (s.cur F.PMP_LIMIT_ILIM_CMP)
  let oc := s.curOn F.PMP_LIMIT_OC_EN && !cmpUsable s (s.cur F.PMP_LIMIT_OC_CMP)
  let was := s.b.pmp.unprot
  [.set F.PMP_STATUS_OC_UNPROT (bit (lim || oc)),
   updPmp fun p => { p with unprot := bit lim + 2 * bit oc }]
  ++ effIf (lim && !was.testBit 0) [.led 0x8006 0 [s.cur F.PMP_LIMIT_ILIM_CMP, 0]]
  ++ effIf (oc && !was.testBit 1) [.led 0x8006 0 [s.cur F.PMP_LIMIT_OC_CMP, 1]]

/-- DIE_LINK sets or clears (R14, R361). -/
def pmpDieLink (failed : Bool) : Prog := inOrder
  [ fun s => [.set F.PMP_STATUS_UNAVAIL (bit failed)]
      ++ effIf (!failed) [updPmp fun p => { p with endAt := setAt p.endAt 2 s.b.cyc 0 }],
    if failed then pmpFail 7 else pmpDrive ]

/-! ### Duty and the PWM period -/

/-- The on-time of a duty command in 100 ps, ties away from zero; the spec states none below 0 or above the
period (R347, log entry 3). -/
def onTimeOf (s : State) (d : Rat) : Nat :=
  let t := s.cur F.PMP_PWM_PER * 64
  let x := roundRat (d * (t : Rat))
  if 0 ≤ x ∧ x ≤ (t : Int) then x.toNat else fresh s 0 % (t + 1)

/-- The full-on threshold. -/
def dMax (s : State) : Rat := (s.cur F.PMP_PWM_DMAX : Rat) / 256

/-- The electrical frequency of the ramp, in units of 1/156,250,000 Hz (R350). -/
def rampF (s : State) : Nat :=
  s.cur F.PMP_RAMP_F0 * 156250000 + s.cur F.PMP_RAMP_ACC * (s.b.cyc - s.b.pmp.rampAt)

/-- Duty in RAMP: ALIGN_DUTY/256 + KVF/4096 × f_e, limited below DMAX/256: to the next lower step of ISLOT 0xE3 (R350,
log entry 20). -/
def rampDuty (s : State) : Rat :=
  let d : Rat := (s.cur F.PMP_ALIGN_DUTY : Rat) / 256
    + (s.cur F.PMP_RAMP_KVF : Rat) / 4096 * ((rampF s : Rat) / 156250000)
  let top := dMax s - 1 / 4194304
  if d < dMax s then d else if top < 0 then 0 else top

/-- The back-EMF comparator's sample of a period, at the centre of the on-time, or at PER/2 in full-on operation (R348).
`above`: the floating phase stands above the mean. An odd step expects a rise, an even one a fall (log entry 20). -/
def zcSample (above : Bool) : Prog := fun s =>
  let p := s.b.pmp
  let want := s.get F.PMP_STATUS_STEP % 2 == bit above
  let now := s.b.cyc + p.onTime / 128
  let blank := (now - p.commAt) * 256 ≤ s.cur F.PMP_MOTOR_ZC_BLANK * s.get F.PMP_T60_TICKS
  if p.seen || pmpIn s pmpAlign then []
  else if !want || blank then [updPmp fun p => { p with zcN := 0 }]
  else
    let first := if p.zcN = 0 then now else p.zcFirst
    if p.zcN + 1 < s.cur F.PMP_MOTOR_ZC_FILT then
      [updPmp fun p => { p with zcN := p.zcN + 1, zcFirst := first }]
    else
      (match p.zcAt with
        | some z => [.set F.PMP_T60_TICKS (min (first - z) (2 ^ 32 - 1))]
        | none => [])
      ++ [updPmp fun p => { p with zcN := 0, seen := true, zcAt := some first }]

/-- The mechanical speed in rpm: 10/(T60 × PP) (R349); the spec states none for T60 = 0. -/
def rpmOf (s : State) : Nat :=
  let d := s.get F.PMP_T60_TICKS * s.cur F.PMP_MOTOR_PP
  if d = 0 then fresh s 0 % 2 ^ 16
  else
    let r := (roundDiv 1562500000 d).toNat
    if r < 2 ^ 16 then r else fresh s 0 % 2 ^ 16

/-- The speed is written at a valid crossing that ends an interval: to PMP_SPEED, and in RUN to ISLOT 0xE0, which reads 0
outside it (R349, R355). -/
def speedWrite : Prog := fun s =>
  thenDo [.set F.PMP_SPEED_RPM (rpmOf s), spend 1]
    (onlyIf (fun _ => pmpIn s pmpRun) (writeSlot 0xE0 (slotOf 14 (rpmOf s : Rat)) false)) s

/-- PUMP_PWM_PERIOD: a period starts (R347), its back-EMF sample is taken (R348) and a refresh is inserted when
one is due (R356); a running period first completes its PER ticks. `crossed`: the legs whose opposite gate stands above
1.5 V (R360). -/
def pwmPeriod (above : Bool) (crossed : Nat) : Prog := fun s =>
  if !(pmpIn s pmpAlign || pmpIn s pmpRamp || pmpIn s pmpRun) || s.cur F.PMP_PWM_PER = 0
      || s.b.pmp.periodAt.any (s.b.cyc < · + s.cur F.PMP_PWM_PER) then []
  else
    let p := s.b.pmp
    let d := if pmpIn s pmpRamp then rampDuty s else p.duty
    let full := !pmpIn s pmpRamp && decide (dMax s ≤ d)
    let n := s.cur F.PMP_BOOT_REFRESH_N
    let ref := full && n != 0 && n ≤ p.refreshN + 1
    inOrder
      [ fun s =>
          let on := if full then s.cur F.PMP_PWM_PER * 64 else onTimeOf s d
          [updPmp fun p => { p with duty := d, onTime := on, full := full, refresh := ref, limited := false,
                                    periodAt := some s.b.cyc, crossed := crossed % 8,
                                    refreshN := if !full || ref then 0 else p.refreshN + 1 }, spend 1],
        zcSample above,
        onlyIf (fun s' => s'.b.pmp.seen && !p.seen && p.zcAt.isSome) speedWrite,
        pmpDrive ] s

/-! ### Start, ramp, run -/

/-- A commutation step is taken: the next step begins, and the current source's mean over the last one is known
(R355). -/
def commutate : Prog := fun s =>
  let p := s.b.pmp
  let e := slotE (s.get (F.KE0_ISLOT_VAL (s.cur F.PMP_ISRC_SLOT)))
  let mean := if p.iN = 0 then fresh s 0 % 2 ^ 32 else slotWord (roundDiv p.isum p.iN) e
  [.set F.PMP_STATUS_STEP ((s.get F.PMP_STATUS_STEP + 1) % 6),
   updPmp fun p => { p with commAt := s.b.cyc, seen := false, zcN := 0, iMean := mean, isum := 0, iN := 0 },
   spend 1]

/-- RAMP begins (R350). -/
def rampStart : Prog := thenDo [.set F.PMP_STATUS_STATE pmpRamp]
  fun s => [updPmp fun p => { p with rampAt := s.b.cyc, rampN := 0, commAt := s.b.cyc, steps := 0, seen := false, zcN := 0 }]
    ++ [updPmp fun p => { p with duty := rampDuty (applyAll s [updPmp fun p => { p with rampAt := s.b.cyc }]) }]

/-- PUMP_START: the outputs have been low for COAST_MS (R350, R351). -/
def pumpStart : Prog := fun s =>
  if !(s.on F.PMP_CTRL_ENABLE && s.on F.PMP_CTRL_RUN && pmpIn s pmpOff && s.cur F.PMP_PWM_PER != 0
      && decide (s.b.pmp.lowAt + usCyc (1000 * s.cur F.PMP_COAST_COAST_MS) ≤ s.b.cyc)) then []
  else inOrder
    [ fun s => [.inc F.PMP_ATTEMPTS_N 1, .set F.PMP_STATUS_STEP 0, .set F.PMP_T60_TICKS 0,
        updPmp fun p => { p with tries := p.tries + 1, zcAt := none, zcN := 0, seen := false, steps := 0, commAt := s.b.cyc, alignAt := s.b.cyc,
                                 duty := (s.cur F.PMP_ALIGN_DUTY : Rat) / 256, isum := 0, iN := 0 }],
      fun s => if s.cur F.PMP_ALIGN_MS = 0 then rampStart s else [.set F.PMP_STATUS_STATE pmpAlign],
      pmpDrive ] s

/-- ALIGN_END: ALIGN_MS has passed (R350). -/
def alignEnd : Prog := fun s =>
  if pmpIn s pmpAlign && decide (s.b.pmp.alignAt + usCyc (1000 * s.cur F.PMP_ALIGN_MS) ≤ s.b.cyc) then
    inOrder [rampStart, pmpDrive] s
  else []

/-- A sixth of an electrical turn has passed since the last open-loop step: F0 t + ACC t²/2 has reached the next sixth
(R350). -/
def rampDue (s : State) : Bool :=
  let c := s.b.cyc - s.b.pmp.rampAt
  decide ((s.b.pmp.rampN + 1) * 156250000 ^ 2 ≤ 3 * (2 * s.cur F.PMP_RAMP_F0 * 156250000 * c + s.cur F.PMP_RAMP_ACC * c ^ 2))

/-- RAMP_STEP: an open-loop step when one is due, the handover to RUN, or a failed attempt at FMAX (R350, R351, R353). -/
def rampStep : Prog := fun s =>
  let f := rampF s
  let n := if s.b.pmp.seen then s.b.pmp.steps + 1 else 0
  let a := s.get F.PMP_ATTEMPTS_N
  if !pmpIn s pmpRamp then []
  else if rampDue s && s.cur F.PMP_HAND_F_HAND * 156250000 ≤ f && 8 ≤ n then inOrder
    [ fun s => [updPmp fun p => { p with duty := rampDuty s }], commutate,
      fun s => [.set F.PMP_STATUS_STATE pmpRun, .led 0x8001 0 [a, f / 156250000],
                updPmp fun p => { p with runAt := s.b.cyc, feedAt := s.b.cyc }],
      pmpDrive ] s
  else if s.cur F.PMP_HAND_FMAX * 156250000 ≤ f then
    if s.b.pmp.tries ≤ s.cur F.PMP_LIMIT_RETRIES then thenDo (pmpHalt pmpOff) pmpDrive s else pmpFail 3 s
  else if rampDue s then inOrder
    [ commutate, fun _ => [updPmp fun p => { p with steps := n, rampN := p.rampN + 1 }], pmpDrive ] s
  else []

/-- PUMP_COMMUTATION: a valid crossing plus ADV/256 × T60 (R349). -/
def pumpCommutation : Prog := fun s =>
  let due := s.b.pmp.zcAt.any fun z =>
    decide (z * 256 + s.cur F.PMP_MOTOR_ADV * s.get F.PMP_T60_TICKS ≤ s.b.cyc * 256)
  if pmpIn s pmpRun && s.b.pmp.seen && due then inOrder [commutate, pmpDrive] s else []

/-- KE1 delivers OSLOT 0x80: followed in RUN, ignored outside it (R353). -/
def pmpDeliver (w : Nat) : Prog := fun s =>
  effIf (pmpIn s pmpRun) [updPmp fun p => { p with duty := slotVal w, feedAt := s.b.cyc }]

/-- The page writes ISLOT 0xE0 to 0xEF at a sample instant (R355). VM_PUMP measures `mv` mV; the duty applied
is 0 while no PWM runs (log entry 20). -/
def pmpSlots (mv : Nat) : Prog := fun s =>
  let run := pmpIn s pmpRun
  let busy := pmpIn s pmpAlign || pmpIn s pmpRamp || run
  let src := s.get (F.KE0_ISLOT_VAL (s.cur F.PMP_ISRC_SLOT))
  writeSlots
    ([(0xE0, slotOf 14 (if run then (s.get F.PMP_SPEED_RPM : Rat) else 0)),
      (0xE1, if s.curOn F.PMP_ISRC_EN then s.b.pmp.iMean else 0),
      (0xE2, intSlot (s.get F.PMP_STATUS_STATE)),
      (0xE3, slotOf 1 (if busy then s.b.pmp.duty else 0)),
      (0xE4, slotOf 7 ((mv : Rat) / 1000)),
      (0xE5, slotOf 17 ((cycUs s.b.cyc / 1000 % 65536 : Nat) : Rat)),
      (0xE6, intSlot (s.get F.PMP_STATUS_CAUSE))]
     ++ (List.range 9).map (fun k => (0xE7 + k, 0))) s
  ++ [updPmp fun p => { p with vm := some mv, isum := p.isum + slotM src, iN := p.iN + 1 }]

/-- The legs whose high side is on. -/
def highsOn (s : State) : Nat := (List.range 3).foldl (fun n k => if (s.b.pmp.legs.getD k (false, false)).1 then withBit n k else n) 0

/-- The gates that the end of the PWM turned off have fallen below 1.5 V (R360). -/
def crossEnds : Prog := fun s =>
  effIf (pmpIn s pmpBrake && s.b.pmp.crossed != 0 && decide (s.b.pmp.crossTill ≤ s.b.cyc)) [updPmp fun p => { p with crossed := 0 }]

/-- A write of PMP_CTRL (R350, R353, R362): clearing RUN stops or brakes, clearing ENABLE turns the page off. A brake holds
each low side off until the gate of a high side that was on has fallen, which takes a free time (R360, log entry 20). -/
def pmpCtrlWrite (v : Nat) : Prog := inOrder
  [ fun _ => [.set F.PMP_CTRL_ENABLE (bit (v.testBit 0)), .set F.PMP_CTRL_RUN (bit (v.testBit 1)),
              .set F.PMP_CTRL_AUTO_RESTART (bit (v.testBit 2)), .set F.PMP_CTRL_STOP_BRAKE (bit (v.testBit 3))],
    fun s =>
      let busy := pmpIn s pmpAlign || pmpIn s pmpRamp || pmpIn s pmpRun
      if !v.testBit 0 && (busy || pmpIn s pmpBrake) then pmpHalt pmpOff
      else if !v.testBit 1 && busy then
        pmpHalt (if v.testBit 3 && s.cur F.PMP_COAST_BRAKE_MS != 0 then pmpBrake else pmpOff)
          ++ [updPmp fun p => { p with brakeAt := s.b.cyc, crossed := highsOn s, crossTill := s.b.cyc + fresh s 0 }, spend 1]
      else [],
    crossEnds, pmpDrive,
    onlyIf (fun s => pmpIn s pmpFault && s.get F.PMP_STATUS_CAUSE == 4 && s.on F.PMP_CTRL_AUTO_RESTART) (pmpUnfault 1) ]

/-- PUMP_BRAKE_END: BRAKE_MS has passed (R353). -/
def pumpBrakeEnd : Prog := fun s =>
  if pmpIn s pmpBrake && decide (s.b.pmp.brakeAt + usCyc (1000 * s.cur F.PMP_COAST_BRAKE_MS) ≤ s.b.cyc) then
    thenDo (pmpHalt pmpOff) pmpDrive s
  else []

/-- A time in RUN has passed since a cycle; a limit of 0 disables the check (R361). -/
def runLapse (s : State) (since ms : Nat) : Bool :=
  pmpIn s pmpRun && ms != 0 && decide (since + usCyc (1000 * ms) ≤ s.b.cyc)

/-- STALL: no valid crossing for STALL_MS in RUN (R361, R362). -/
def pumpStall : Prog := fun s =>
  if runLapse s (max s.b.pmp.runAt (s.b.pmp.zcAt.getD 0)) (s.cur F.PMP_TIMEOUT_STALL_MS) then
    inOrder [pmpFail 4, onlyIf (fun s => s.on F.PMP_CTRL_AUTO_RESTART) (pmpUnfault 1)] s
  else []

/-- WDOG: no delivery of OSLOT 0x80 for WDOG_MS in RUN (R361). -/
def pumpWdog : Prog := fun s =>
  if runLapse s s.b.pmp.feedAt (s.cur F.PMP_TIMEOUT_WDOG_MS) then pmpFail 6 s else []

/-- VM_PUMP moves to a voltage; the over-voltage action begins above OV_HI and ends below OV_LO, in steps of 0.25 V (R358). -/
def vmOv (mv : Nat) : Prog := fun s =>
  let was := s.on F.PMP_STATUS_VM_OV
  let high := if was then decide (s.cur F.PMP_VM_OV_LO * 250 ≤ mv) else decide (s.cur F.PMP_VM_OV_HI * 250 < mv)
  inOrder
    [ fun _ => [.set F.PMP_STATUS_VM_OV (bit high), updPmp fun p => { p with
          vm := some mv, endAt := if was && !high then setAt p.endAt 0 s.b.cyc 0 else p.endAt }],
      if high && !was then onMain (pmpFail 2) else pmpDrive ] s

/-- VM_PUMP_UV and VM_PUMP_RETURN: VM_PUMP falls below 10.0 V or rises above 10.5 V (R358). -/
def vmUv (under : Bool) : Prog := fun s =>
  inOrder
    [ fun _ => [.set F.PMP_STATUS_VM_UV (bit under), updPmp fun p => { p with
          endAt := if under then p.endAt else setAt p.endAt 1 s.b.cyc 0 }],
      if under && !s.on F.PMP_STATUS_VM_UV then onMain (pmpFail 8) else pmpDrive ] s

/-- BOOT_UV: a bootstrap falls below 7.0 V or rises above 7.5 V (R357). -/
def bootUv (ph : Nat) (under : Bool) : Prog := fun s =>
  if under == (s.get F.PMP_STATUS_BOOT_HOLD).testBit ph then []
  else inOrder
    [ fun s => [putBit s F.PMP_STATUS_BOOT_HOLD ph under]
        ++ effIf under [.inc F.PMP_CNT_BOOT_N 1, updPmp fun p => { p with holdAt := setAt p.holdAt ph s.b.cyc 0 }],
      onMain fun s => effIf under ([.sticky F.PMP_STICKY_BOOT_UV]
          ++ effIf (!s.on F.PMP_STICKY_BOOT_UV) [.led 0x8004 0 [ph, s.get F.PMP_CNT_BOOT_N]]),
      pmpDrive ] s

/-- BOOT_HOLD_TIMEOUT: a hold has lasted 1 ms (R357). -/
def bootTimeout (ph : Nat) : Prog := fun s =>
  if (s.get F.PMP_STATUS_BOOT_HOLD).testBit ph && decide (s.b.pmp.holdAt.getD ph 0 + usCyc 1000 ≤ s.b.cyc) then pmpFail 5 s
  else []

/-- The condition behind an automatic cause (R362). -/
def autoPersists (s : State) (cause : Nat) : Bool :=
  match cause with
  | 2 => s.on F.PMP_STATUS_VM_OV
  | 7 => s.on F.SYS_GUAR_DIE_LINK
  | 8 => s.on F.PMP_STATUS_VM_UV
  | _ => false

/-- FAULT_AUTO_CLEAR: the condition of an automatic cause has been absent for 10 ms (R362). -/
def faultAutoClear : Prog := fun s =>
  let c := s.get F.PMP_STATUS_CAUSE
  let k := if c = 2 then 0 else if c = 8 then 1 else 2
  if pmpIn s pmpFault && (c == 2 || c == 7 || c == 8) && !autoPersists s c
      && decide (s.b.pmp.endAt.getD k 0 + usCyc 10000 ≤ s.b.cyc) then pmpUnfault 1 s else []

/-- PMP_CMD.CLEAR (R362). -/
def pmpClear : Prog := fun s =>
  if !pmpIn s pmpFault then []
  else if pmpOcHigh s || [2, 7, 8].any (autoPersists s) then [.sticky F.PMP_STICKY_CLR_REJECT]
  else pmpUnfault 0 s

/-- ATTEMPT_RESET: 10 s in RUN (R351). -/
def attemptReset : Prog := fun s =>
  effIf (pmpIn s pmpRun && decide (s.b.pmp.runAt + usCyc 10000000 ≤ s.b.cyc))
    [.set F.PMP_ATTEMPTS_N 0, updPmp fun p => { p with tries := 0 }]

/-- The offset of the register for which a commit of the page is refused; the refusal for the state names no
register, and its offset is a free value (PMP registers). -/
def pmpRefused (s : State) : Option Nat :=
  let per := s.get F.PMP_PWM_PER
  if !(pmpIn s pmpOff || pmpIn s pmpFault) then some (fresh s 0)
  else if 1 ≤ per ∧ per ≤ 63 then some 0x40
  else if s.get F.PMP_MOTOR_PP = 0 ∨ s.get F.PMP_MOTOR_ZC_FILT = 0 then some 0x4C
  else if s.get F.PMP_HAND_FMAX ≤ s.get F.PMP_HAND_F_HAND then some 0x58
  else if s.get F.PMP_VM_OV_HI ≤ s.get F.PMP_VM_OV_LO then some 0x68
  else none

/-- PMP_COMMIT bit 0. -/
def pmpCommit : Prog := noted (.page 0x80000 0) fun s =>
  match pmpRefused s with
  | some o => [.sticky F.PMP_STICKY_CFG_REJECT, .led 0x8007 0 [o, s.get F.PMP_STATUS_STATE], spend 1]
  | none => takeGroup .pmp 0x80040 0x80074

/-- The configuration group comes into force (R359). -/
def pmpAdopt : Prog := inOrder
  [ fun _ => adoptGroup .pmp 0x80040 0x80074, pmpUnprot,
    onlyIf (fun s => s.on F.PMP_CTRL_ENABLE && pmpOcHigh s) (pmpFail 1), pmpDrive ]

def execPmpCtrlWrite (v : Word) (s : State) : Result := run (onMain (pmpCtrlWrite v.toNat)) s
def execPumpStart (s : State) : Result := run (onMain pumpStart) s
def execAlignEnd (s : State) : Result := run (onMain alignEnd) s
def execRampStep (s : State) : Result := run (onMain rampStep) s
def execPumpCommutation (s : State) : Result := run (onMain pumpCommutation) s
def execPumpPwmPeriod (above : Bool) (crossed : BitVec 3) (s : State) : Result :=
  run (onMain (pwmPeriod above crossed.toNat)) s
def execStall (s : State) : Result := run (onMain pumpStall) s
def execWdog (s : State) : Result := run (onMain pumpWdog) s
def execVmPumpOv (mv : BitVec 17) (s : State) : Result := run (onPower (vmOv mv.toNat)) s
def execVmPumpUv (s : State) : Result := run (onPower (vmUv true)) s
def execVmPumpReturn (s : State) : Result := run (onPower (vmUv false)) s
def execBootUv (ph : Fin 3) (under : Bool) (s : State) : Result := run (onPower (bootUv ph under)) s
def execBootHoldTimeout (ph : Fin 3) (s : State) : Result := run (onMain (bootTimeout ph)) s
def execFaultAutoClear (s : State) : Result := run (onMain faultAutoClear) s
def execPmpClear (s : State) : Result := run (onMain pmpClear) s
def execPmpCommit (s : State) : Result := run (onMain pmpCommit) s
def execPumpBrakeEnd (s : State) : Result := run (onMain pumpBrakeEnd) s
def execAttemptReset (s : State) : Result := run (onMain attemptReset) s

end Sys2Proof.Machine
end

