-- ==== Sys2Proof/Machine/Pwm.lean ====
section
/-! DEFINITION. The PWM pages, PWX and TRP: carriers, update points, commits, dead time, enables, trips and
clears (R229 to R257). -/

namespace Sys2Proof.Machine

/-- The byte address of a pair's registers (48 = BRK). -/
def pairBase (p : Nat) : Nat := 0x40000 + p / 16 * 0x1000 + 0x200 + 0x20 * (p % 16)

/-! ### Commands and dead time -/

/-- One output of a pair is commanded on or off at an instant: it turns off at once and on after its dead time (R243).
The output, whether a dead time runs, and the instant at which it ends. -/
def cmdOut (on was drv dead : Bool) (d at' now : Nat) : Bool × Bool × Nat :=
  if on == was then (drv, dead, at')
  else if !on then (false, false, at')
  else if d = 0 then (true, false, at') else (drv, true, now + d)

/-- The commanded state of a pair becomes what its compare values command; BRK takes its H command as
PWX_BRK_SRC selects (R235, R243, R247). -/
def setCmd (p : Nat) (h l : Bool) : Prog := fun s =>
  let q := pairOf s p
  let comp := !s.curOn (F.PAIR_CFG_OUT p)
  let src := s.get F.PWX_BRK_SRC_SRC
  let h' := if p = 48 then (if src = 0 then s.b.pwm.brkReq else if src = 1 then h else h || s.b.pwm.brkReq) else h
  let l' := if comp then !h' else l
  let dr := if comp then s.cur (F.PAIR_DT_DTR p) else 0
  let df := if comp then s.cur (F.PAIR_DT_DTF p) else 0
  let oh := cmdOut h' q.cmdH q.drvH q.deadH dr q.deadAtH (now100 s)
  let ol := cmdOut l' q.cmdL q.drvL q.deadL df q.deadAtL (now100 s)
  thenDo [updPair p fun q => { q with geoH := h, geoL := l, cmdH := h', cmdL := l', drvH := oh.1, deadH := oh.2.1,
                                      deadAtH := oh.2.2, drvL := ol.1, deadL := ol.2.1, deadAtL := ol.2.2 }]
    (drivePair p) s

/-- Both outputs of a pair are commanded off without dead time (idle or stopped). -/
def clearCmd (p : Nat) : Prog :=
  thenDo [updPair p fun q => { q with geoH := false, geoL := false, cmdH := false, cmdL := false, drvH := false,
                                      drvL := false, deadH := false, deadL := false }]
    (drivePair p)

/-! ### Geometry (R233, R235, R236) -/

/-- The compare values applied: in modes 0 to 2 a value above T is T (R236). -/
def appliedA (s : State) (p : Nat) : Nat :=
  let t := s.cur (F.PAIR_PER_TICKS p) * 64
  if s.cur (F.PAIR_CFG_MODE p) = 3 then s.cur (F.PAIR_CMPA_C p) else min (s.cur (F.PAIR_CMPA_C p)) t
def appliedB (s : State) (p : Nat) : Nat :=
  let t := s.cur (F.PAIR_PER_TICKS p) * 64
  if s.cur (F.PAIR_CFG_MODE p) = 3 then s.cur (F.PAIR_CMPB_C p) else min (s.cur (F.PAIR_CMPB_C p)) t

/-- A compare value in force exceeds T (R236). -/
def clamped (s : State) (p : Nat) : Bool :=
  let t := s.cur (F.PAIR_PER_TICKS p) * 64
  s.cur (F.PAIR_CFG_MODE p) != 3 && (t < s.cur (F.PAIR_CMPA_C p) || t < s.cur (F.PAIR_CMPB_C p))

/-- The interval in which an output with values `a` and `b` is on. -/
def onInterval (mode t a b : Nat) : Nat × Nat :=
  match mode with
  | 0 => (t / 2 - a / 2, t / 2 + (b + 1) / 2)
  | 1 => (b, a)
  | 2 => (0, a)
  | _ => (b, 2 ^ 24)

/-- The intervals of H and of an independent L (R233, R235). -/
def intervals (s : State) (p : Nat) : (Nat × Nat) × (Nat × Nat) :=
  let mode := s.cur (F.PAIR_CFG_MODE p)
  let t := s.cur (F.PAIR_PER_TICKS p) * 64
  let a := appliedA s p
  let b := appliedB s p
  let own (c : Nat) := if mode = 1 then (0, c) else onInterval mode t c c
  if s.curOn (F.PAIR_CFG_OUT p) then (own a, own b) else (onInterval mode t a b, (0, 0))

/-- An interval after a mid-period update: an edge that has occurred is not repeated, an edge placed in the past
occurs now; in mode 0 the rise keeps its old value (R237, R238). -/
def midInterval (old new : Nat × Nat) (m : Nat) (keepRise : Bool) : Nat × Nat :=
  let wasOn := old.1 < old.2
  let rose := keepRise || (wasOn && old.1 < m)
  let fell := wasOn && old.2 < m
  (if rose then old.1 else max new.1 m, if fell then old.2 else max new.2 m)

/-- The clamp of a pair: its bit, flag and record, once per pair until the bit is cleared (R236, R257). -/
def clampMark (p : Nat) : Prog := fun s =>
  let pg := p / 16
  let want := max (s.cur (F.PAIR_CMPA_C p)) (s.cur (F.PAIR_CMPB_C p))
  if !clamped s p then []
  else if p = 48 then
    [.sticky F.PWX_STICKY_BRK_CLAMP] ++ effIf (!s.on F.PWX_STICKY_BRK_CLAMP) [.led 0x5005 0 [48, want]]
  else
    raiseBit s (F.PWM_CLAMP_PAIR pg) (p % 16) ++ [.sticky (F.PWM_STICKY_DUTY_CLAMP pg)]
    ++ effIf (!(s.get (F.PWM_CLAMP_PAIR pg)).testBit (p % 16)) [.led 0x5005 pg [p, want]]

/-- The effective high thresholds of the comparators ramped by a pair, `n` ticks into its period (R264). -/
def rampUpdate (p n : Nat) : Prog := fun s =>
  ((List.range 64).filter fun c => ramped s c && s.cur (F.WIN_RAMP_PAIR c) == p).map fun c =>
    .set (F.WIN_STAT_HEFF c) (heffAt s c n)

/-- The commanded state at time `t` of the period (R233). -/
def commandAt (p t : Nat) : Prog := fun s =>
  let q := pairOf s p
  setCmd p (q.hLo ≤ t && t < q.hHi) (q.lLo ≤ t && t < q.lHi) s

/-! ### Update points -/

/-- The registers of a mask that a pair adopts at the update point `t`: pending, and committed at least one coarse tick
before it (R237, R239). -/
def adoptMask (s : State) (p mask t : Nat) : Nat :=
  let q := pairOf s p
  (List.range 5).foldl (fun m r =>
    if (q.pend &&& mask).testBit r && decide (q.commitAt.getD r 0 * 64 + 64 ≤ t) then withBit m r else m) 0

/-- The registers `m` come into force. -/
def adoptPair (p m : Nat) : Prog := fun s =>
  ((List.range 5).filter fun r => m.testBit r).map
      (fun r => .adopt (keyAt (pairBase p + 4 * r)) (keyAt (pairBase p + 4 * r + 4)))
  ++ [updPair p (fun q => { q with pend := clearMask q.pend m }),
      .set (F.PAIR_STAT_PEND p) (bit (clearMask (pairOf s p).pend m != 0))]

/-- The cycle latch is released unless a LATCH = 0 source that reaches the pair is asserted (R249). -/
def cycleRelease (p : Nat) : Prog := fun s =>
  if (pairOf s p).cyc && (heldBy s p false).isNone then
    thenDo [updPair p fun q => { q with cyc := false }] trpStatus s
  else []

/-- The length of the period in force, in 100 ps (R230). -/
def periodT (s : State) (p : Nat) : Nat := s.cur (F.PAIR_PER_TICKS p) * 64

/-- A period of a pair begins at the instant `t`; an idle pair starts or stays idle (R230, R236, R237, R249, R264). -/
def beginPeriod (p t : Nat) : Prog := atInstant t fun s =>
  let m := adoptMask s p 31 t
  inOrder
    [ cycleRelease p,
      fun s => (adoptPair p m).andThen (onlyIf (fun _ => m != 0) (clampMark p)) s,
      fun s =>
        let iv := intervals s p
        let runs := s.cur (F.PAIR_PER_TICKS p) != 0
        [updPair p fun q =>
          { q with hLo := iv.1.1, hHi := iv.1.2, lLo := iv.2.1, lHi := iv.2.2, started := runs, start := t,
                   last := if runs then some t else q.last,
                   hold := q.hold && !(outEnabled s p && !latched s p) },
         .set (F.PAIR_STAT_CNT p) 0],
      rampUpdate p 0,
      fun s => if (pairOf s p).started then commandAt p 0 s else clearCmd p s ] s

/-- The instant at which the counter of a running pair makes a period boundary: the first, that of an idle pair in any
cycle after it, and the end of a period at T; a CFT period ends otherwise (R230, R232, R233). -/
def boundaryAt (s : State) (p : Nat) : Option Nat :=
  let q := pairOf s p
  if !q.run then none
  else if !q.started then some (if inCycle s q.start then q.start else max q.start (s.b.cyc * 64))
  else if s.cur (F.PAIR_CFG_MODE p) = 3 && periodT s p != 0 then none
  else some (q.start + periodT s p)

/-- PAIR_PERIOD_BOUNDARY: the counter of a running pair has completed its period (R232, R233, R237). -/
def periodBoundary (p : Nat) : Prog := fun s =>
  match boundaryAt s p with
  | some t => if reached s t then beginPeriod p t s else []
  | none => []

/-- A termination event of a pair now ends its period: in COT from A + B on, before T; in CFT from B on (R233). -/
def termOpen (s : State) (p : Nat) : Bool :=
  let q := pairOf s p
  let t := now100 s - q.start
  q.started && s.cur (F.PAIR_CFG_TERM_TYPE p) != 0 && decide (q.start ≤ now100 s)
    && ((s.cur (F.PAIR_CFG_MODE p) == 2 && decide (appliedA s p + appliedB s p ≤ t) && decide (t < periodT s p))
      || (s.cur (F.PAIR_CFG_MODE p) == 3 && decide (appliedB s p ≤ t)))

/-- PAIR_MID_PERIOD: with UPD set in mode 0 or 1, pending compare values are adopted at t = T/2 (R237 to R239). -/
def midPeriod (p : Nat) : Prog := fun s =>
  let q := pairOf s p
  let m := s.cur (F.PAIR_PER_TICKS p) * 32
  let a := adoptMask s p 12 (q.start + m)
  if !(q.started && s.curOn (F.PAIR_CFG_UPD p) && s.cur (F.PAIR_CFG_MODE p) ≤ 1 && a != 0 && inCycle s (q.start + m)) then []
  else
    let keep := s.cur (F.PAIR_CFG_MODE p) == 0
    atInstant (q.start + m) (inOrder
      [ adoptPair p a, clampMark p,
        fun s =>
          let iv := intervals s p
          let h := midInterval (q.hLo, q.hHi) iv.1 m keep
          let l := midInterval (q.lLo, q.lHi) iv.2 m keep
          [updPair p fun q => { q with hLo := h.1, hHi := h.2, lLo := l.1, lHi := l.2 },
           .set (F.PAIR_STAT_CNT p) (m / 64)],
        commandAt p m ]) s

/-- PAIR_EDGE: the counter of the pair stands at time `t` (100 ps) of its period, in this cycle (R231, R233, R264). -/
def pairEdge (p t : Nat) : Prog := fun s =>
  let q := pairOf s p
  if !(q.started && inCycle s (q.start + t)) then []
  else atInstant (q.start + t)
    (inOrder [ fun _ => [.set (F.PAIR_STAT_CNT p) (t / 64)], rampUpdate p (t / 64), commandAt p t ]) s

/-- The delayed output of a pair is still commanded on at the instant `t`, as the intervals of the period say: an output
whose commanded interval is no longer than its dead time does not turn on (R243). -/
def stillOn (s : State) (p t : Nat) (isH : Bool) : Bool :=
  let q := pairOf s p
  let d := t - q.start
  let h := q.hLo ≤ d && d < q.hHi
  p = 48 || t < q.start || (periodT s p ≤ d && s.cur (F.PAIR_CFG_MODE p) != 3) || (if isH then h else !h)

/-- DEAD_TIME_END: the dead time has passed and the delayed output turns on (R243, R250). -/
def deadTimeEnd (p : Nat) (isH : Bool) : Prog := fun s =>
  let q := pairOf s p
  let t := if isH then q.deadAtH else q.deadAtL
  if !((if isH then q.deadH else q.deadL) && reached s t && stillOn s p t isH) then []
  else atInstant t (thenDo [updPair p fun q => if isH then { q with deadH := false, drvH := true }
                                    else { q with deadL := false, drvL := true }] (drivePair p)) s

/-- CFT_MAX_ON: a CFT period ends at B + A without termination, one coarse tick at the least (R233, log entry 57). -/
def cftMaxOn (p : Nat) : Prog := fun s =>
  let t := (pairOf s p).start + max 64 (appliedA s p + appliedB s p)
  if (pairOf s p).started && s.cur (F.PAIR_CFG_MODE p) == 3 && reached s t then
    thenDo (effIf (p < 48) (raiseBit s (F.PWM_MAXON_PAIR (p / 16)) (p % 16) ++ [.sticky (F.PWM_STICKY_MAX_ON (p / 16))]))
      (beginPeriod p t) s
  else []

/-! ### Page enable, commits -/

/-- The first boundary of a pair after a sample instant: PHASE mod PER coarse ticks later, with the PER that waits for
that boundary, or else the one in force (R232, log entry 57). -/
def firstBoundary (s : State) (p : Nat) : Nat :=
  let per := if (pairOf s p).pend.testBit 1 then s.pend (F.PAIR_PER_TICKS p) else s.cur (F.PAIR_PER_TICKS p)
  (s.b.cyc + (if per = 0 then 0 else s.get (F.PAIR_PHASE_TICKS p) % per)) * 64

/-- A pair's counter starts at a sample instant (R232); its outputs wait for its first boundary. -/
def startPair (s : State) (p : Nat) : List Eff :=
  [updPair p fun q => { q with run := true, started := false, hold := true, start := firstBoundary s p }]

/-- A pair's counter stops and the pair acts as disabled (R232). -/
def stopPair (p : Nat) : Prog :=
  thenDo [updPair p fun q => { q with run := false, started := false, hold := true }] (clearCmd p)

/-- The pairs of a page (3 = PWX with BRK). -/
def pagePairs (n : Nat) : List Nat := if n = 3 then [48] else (List.range 16).map (16 * n + ·)

/-- The AUX windows end when PWX is disabled (R232). -/
def auxStop : List Eff :=
  ((List.range 8).flatMap fun k => [.set (F.AUX_STAT_RUN k) 0, .set (F.AUX_STAT_REMAIN k) 0])
    ++ [.set F.PWX_STATUS_AUX_RUN 0, updPwm fun w => { w with auxRun := false }]

/-- A write of PWMn_CTRL or PWX_CTRL (R232). -/
def pwmCtrlWrite (n v : Nat) : Prog := fun s =>
  let was := pageEnabled s n
  let on := v.testBit 0
  inOrder
    [ fun _ => if n = 3 then [.set F.PWX_CTRL_ENABLE (bit on)]
        else [.set (F.PWM_CTRL_ENABLE n) (bit on), .set (F.PWM_CTRL_AUTO n) (bit (v.testBit 1))],
      fun _ => effIf (on && !was) [updPwm fun w => { w with startDue := w.startDue.filter (· != n) ++ [n] }]
        ++ effIf (!on && was) [updPwm fun w => { w with startDue := w.startDue.filter (· != n) }],
      onlyIf (fun _ => !on && was) (inOrder ((pagePairs n).map stopPair)),
      onlyIf (fun _ => !on && was && n == 3) (thenDo auxStop tripEval),
      guarUpdate ] s

/-- The counters of the pages enabled since the last sample instant start, and with PWX the AUX channels (R232). -/
def startDuePairs : Prog := fun s =>
  (s.b.pwm.startDue.flatMap fun n => (pagePairs n).flatMap (startPair s))
    ++ [updPwm fun w => { w with startDue := [], auxRun := w.auxRun || s.b.pwm.startDue.contains 3 }]

/-- A sampled comparator is named by a user: 0 trip, 1 termination, 2 brake (R263). -/
def modeConflict (c user : Nat) : Prog := fun s =>
  effIf (s.cur (F.WIN_CFG_MODE c) == 1)
    [.sticky (F.CMP_STICKY_MODE_CONFLICT (c / 16)), .led 0x5402 (c / 16) [c, user]]

/-- The value a commit of the registers in `mask` gives a field of register `r` of a pair. -/
def committed (s : State) (p mask r : Nat) (f : Fld) : Nat :=
  if mask.testBit r then s.get f else if (pairOf s p).pend.testBit r then s.pend f else s.cur f

/-- A commit of a pair is refused (R241). -/
def pairRefused (s : State) (p mask : Nat) : Bool :=
  let per := committed s p mask 1 (F.PAIR_PER_TICKS p)
  (1 ≤ per && per ≤ 7) || 16000 < committed s p mask 4 (F.PAIR_DT_DTR p)
    || 16000 < committed s p mask 4 (F.PAIR_DT_DTF p)
    || (committed s p mask 0 (F.PAIR_CFG_OUT p) == 1 && 2 ≤ committed s p mask 0 (F.PAIR_CFG_MODE p))

/-- What a commit of the registers in `mask` of a pair does: they become pending, or the pair is refused, and every value in
force stays (R239 to R241). -/
def pairTake (mask p : Nat) : Prog := fun s =>
  let pg := p / 16
  if pairRefused s p mask then
    if p = 48 then [.sticky F.PWX_STICKY_CFG_REJECT, .led 0x5007 0 [3, 48]]
    else raiseBit s (F.PWM_CFGREJ_PAIR pg) (p % 16) ++ [.sticky (F.PWM_STICKY_CFG_REJECT pg), .led 0x5007 pg [pg, p]]
  else
    (((List.range 5).filter fun r => mask.testBit r).map
      fun r => .take (keyAt (pairBase p + 4 * r)) (keyAt (pairBase p + 4 * r + 4)))
    ++ [updPair p (fun q => { q with
          pend := q.pend ||| mask
          commitAt := (List.range 5).map fun r => if mask.testBit r then s.b.cyc else q.commitAt.getD r 0 }),
        .set (F.PAIR_STAT_PEND p) 1]
    ++ (if s.get (F.PAIR_CFG_TERM_TYPE p) != 0 && mask.testBit 0
        then modeConflict (s.get (F.PAIR_CFG_TERM_CMP p)) 1 s else [])

/-- What a commit of a pair can change: its own five registers, PEND, the refusal and MODE_CONFLICT (R239, R241, R263). -/
def pairScope (p : Nat) : CommitScope :=
  let flags := flagScope ((if p = 48 then F.PWX_STICKY_CFG_REJECT else F.PWM_STICKY_CFG_REJECT (p / 16))
    :: (List.range 4).map F.CMP_STICKY_MODE_CONFLICT) (pairBase p) (pairBase p + 20)
  { flags with fields := fun k => flags.fields k || k == (F.PAIR_STAT_PEND p).key
                            || (p < 48 && k == (F.PWM_CFGREJ_PAIR (p / 16)).key) }

/-- A commit of the registers in `mask` of a pair; commits of one CLK_FAB cycle act as one (R239). -/
def commitPair (mask p : Nat) : Prog := fun s =>
  let mine := s.b.commitWas.filter fun w => match w.of with
    | .pair q _ => q == p
    | _ => false
  let all := mine.foldl (fun m w => match w.of with
    | .pair _ k => m ||| k
    | _ => m) mask
  inOrder
    (mine.reverse.map (fun w => undoCommit (pairScope p) w fun _ => false)
      ++ [ fun s => pairTake all p s ++ [.upd fun b => { b with commitWas := b.commitWas ++
            [commitWas (.pair p all) ((pairOf s p).pend, (pairOf s p).commitAt) (pairTake all p s) s] }] ]) s

/-- PWMn_COMMIT bit 0 (R239). -/
def pwmCommit (n : Nat) : Prog := inOrder ((pagePairs n).map (commitPair 31))

/-- A pair has been committed in the running cycle. -/
def pairNow (s : State) (p : Nat) : Bool :=
  s.b.commitWas.any fun w => match w.of with
    | .pair q _ => q == p
    | _ => false

/-- A shadow write of register `r` of a pair in the cycle of a commit belongs to that commit, which is judged anew (R239,
R452); in auto-commit mode the register is committed alone (R240). -/
def shadowWritten (p r : Nat) : Prog := fun s =>
  let auto := decide (p < 48) && s.on (F.PWM_CTRL_AUTO (p / 16))
  if r ≤ 4 && auto then commitPair (2 ^ r) p s
  else if r ≤ 4 && pairNow s p then commitPair 0 p s
  else []

/-- A write of register `r` of a pair: MPT refuses it while it owns the pair (R246), EN acts at once (R245), and
in auto-commit mode the register is committed alone (R240). -/
def pairWrite (p r v : Nat) : Prog := fun s =>
  if s.on (F.PAIR_STAT_MPT_OWN p) && r ≤ 3 then [.sticky (F.PWM_STICKY_OWN_REJECT (p / 16))]
  else inOrder
    [ writeFields (pairBase p + 4 * r) v,
      onlyIf (fun _ => r == 0) (inOrder [drivePair p, guarUpdate]),
      shadowWritten p r ] s

/-- AUTO_COMMIT_WRITE (R240): nothing happens outside auto-commit mode; such a write is a REGISTER_WRITE. -/
def autoCommitWrite (p r v : Nat) : Prog := fun s =>
  if s.on (F.PWM_CTRL_AUTO (p / 16)) then pairWrite p r v s else []

/-! ### Trips -/

/-- AUX_WINDOW_END: sources still asserted act (R252). -/
def auxWindowEnd (k : Nat) : Prog := fun s =>
  if s.on (F.AUX_STAT_RUN k) && reached s (s.b.pwm.auxTill.getD k 0) then
    thenDo [.set (F.AUX_STAT_RUN k) 0, .set (F.AUX_STAT_REMAIN k) 0, clrBit s F.PWX_STATUS_AUX_RUN k] tripEval s
  else []

/-- A hard latch is cleared; the pair resumes at its next period boundary (R253). -/
def unlatchPair (p : Nat) : Prog := fun s =>
  if p < 32 then [clrBit s F.TRP_LATCH0_PAIR p] else [clrBit s F.TRP_LATCH1_PAIR (p - 32)]

/-- TRIP_CLEAR: a write of TRP_CLR0 or TRP_CLR1 (R253, R257, log entry 18). -/
def tripClear (k mask : Nat) : Prog := fun s =>
  let ps := ((List.range 49).filter fun p => p / 32 == k && mask.testBit (p % 32) && hardLatched s p)
  let no := ps.filter fun p => (heldBy s p true).isSome
  let yes := ps.filter fun p => (heldBy s p true).isNone
  let since := yes.foldl (fun m p => min m (pairOf s p).latchAt) s.b.cyc
  inOrder
    ([ fun _ => effIf (!no.isEmpty) [.sticky F.TRP_STICKY_TRIP_CLR_REJECT,
          .led 0x5003 0 [no.headD 0, (heldBy s (no.headD 0) true).getD 0]] ]
      ++ yes.map unlatchPair
      ++ [ fun _ => effIf (!yes.isEmpty)
            [.led 0x5002 0 [yes.foldl (fun m p => withBit m (p % 32)) 0, cycUs (s.b.cyc - since)]],
          trpStatus ]
      ++ [ drivePairs yes ]) s

/-- TRP_COMMIT bit 0 (R256, R263). -/
def trpCommit : Prog := noted (.page 0x44000 0) fun s =>
  match (List.range 49).find? fun p => s.get (F.TRP_PMASK_SAFE p) == 3 with
  | some p => [.sticky F.TRP_STICKY_CFG_REJECT, .led 0x5007 0 [4, 0x400 + 4 * p]]
  | none => takeGroup .trp 0x44078 0x44800

/-- The TRIP pins whose polarity a commit changes: the level at the pin stands, so the condition turns round (R248). -/
def polChanged (s : State) : List Nat := (List.range 16).filter fun n => s.curOn (F.TRP_SRC_POL n) != (s.pend (F.TRP_SRC_POL n) == 1)

/-- The matrix group comes into force (R248, R256, R263, R520). -/
def trpAdopt : Prog := fun s => inOrder
  [ fun _ => adoptGroup .trp 0x44078 0x44800,
    inOrder ((polChanged s).map fun n => setSource n (!isAsserted s n)),
    fun s => inOrder (((List.range 64).filter fun c =>
      s.curOn (F.TRP_SRC_EN (16 + c)) && s.cur (F.TRP_SRC_GROUPS (16 + c)) != 0).map fun c => modeConflict c 0) s,
    tripEval, guarUpdate ] s

/-- PWX_COMMIT bit 1 (R252). -/
def auxCommit : Prog := noted (.page 0x43000 1) fun _ => takeGroup .aux 0x43300 0x43340
def auxAdopt : Prog := fun _ => adoptGroup .aux 0x43300 0x43340

/-- A write of PWX_BRK_SRC; 3 is refused (R247). -/
def brkSrcWrite (v : Nat) : Prog := fun s =>
  if v % 4 = 3 then [.sticky F.PWX_STICKY_CFG_REJECT, .led 0x5007 0 [3, 0x44]]
  else inOrder
    [ fun _ => [.set F.PWX_BRK_SRC_SRC v],
      onlyIf (fun s => (pairOf s 48).started) (fun s => setCmd 48 (pairOf s 48).geoH (pairOf s 48).geoL s) ] s

/-- A write of PWX_GEN (R245). -/
def genWrite (v : Nat) : Prog := thenDo [.set F.PWX_GEN_GRP v] applyAllPins

/-- A host's write of PWX_GEN: a scheduled action of the same cycle prevails over it (R92). -/
def genHostWrite (v : Nat) : Prog := fun s => genWrite (schedFix s F.PWX_GEN_GRP v) s

/-! ### Meanings -/

def execPwmCtrlWrite (n : Fin 4) (v : Word) (s : State) : Result := run (onMain (pwmCtrlWrite n v.toNat)) s
def execPairPeriodBoundary (p : Fin 49) (s : State) : Result := run (onMain (periodBoundary p)) s
def execPairMidPeriod (p : Fin 49) (s : State) : Result := run (onMain (midPeriod p)) s
def execPairEdge (p : Fin 49) (t : BitVec 22) (s : State) : Result := run (onMain (pairEdge p t.toNat)) s
def execDeadTimeEnd (p : Fin 49) (isH : Bool) (s : State) : Result := run (onMain (deadTimeEnd p isH)) s
def execCftMaxOn (p : Fin 49) (s : State) : Result := run (onMain (cftMaxOn p)) s
def execPwmCommit (n : Fin 3) (s : State) : Result := run (onMain (pwmCommit n)) s
def execAutoCommitWrite (p : Fin 48) (r : Fin 5) (v : Word) (s : State) : Result :=
  run (onMain (autoCommitWrite p r v.toNat)) s
def execTripPinRelease (n : Fin 16) (s : State) : Result := run (onMain (setSource n false)) s
def execAuxWindowEnd (k : Fin 8) (s : State) : Result := run (onMain (auxWindowEnd k)) s
def execTripClear (k : Fin 2) (mask : Word) (s : State) : Result := run (onMain (tripClear k mask.toNat)) s
def execTrpCommit (s : State) : Result := run (onMain trpCommit) s
def execBrkCommit (s : State) : Result := run (onMain (commitPair 31 48)) s
def execAuxCommit (s : State) : Result := run (onMain auxCommit) s
def execBrkSrcWrite (v : Word) (s : State) : Result := run (onMain (brkSrcWrite v.toNat)) s
def execPwxGenWrite (v : Word) (s : State) : Result := run (onMain (genHostWrite v.toNat)) s

end Sys2Proof.Machine
end

