-- ==== Sys2Proof/Machine/Cmp.lean ====
section
/-! DEFINITION. The window comparators, the gate profiles and the brake request (R258 to R276). -/

namespace Sys2Proof.Machine

/-! ### The brake request (R273) -/

/-- The hardware brake request changes; BRK follows when its counter has started (R247). -/
def brakeSet (on : Bool) (min : Nat) : Prog := fun s => inOrder
  [ fun _ => [.set F.GDP_STATUS_BRK_REQ (bit on), .set F.PWX_STATUS_BRK_HW (bit on),
              updPwm fun w => { w with
                brkReq := on, brkHeld := min != 0, brkTill := s.b.cyc + usCyc min
                brkAt := if on then s.b.cyc else w.brkAt, brkTold := false }]
      ++ effIf on [.set F.GDP_BRK_ON_TIME_US 0],
    onlyIf (fun s => (pairOf s 48).started) (fun s => setCmd 48 (pairOf s 48).geoH (pairOf s 48).geoL s) ] s

/-- The request outside its minimum times: it sets by HIGH (`hi`) and clears by LOW (`lo`); without EN it is withdrawn. -/
def brakeFollow (hi lo : Bool) : Prog := fun s =>
  let req := s.b.pwm.brkReq
  if !s.curOn F.GDP_BRK_CFG_EN then (if req then brakeSet false 0 s else [])
  else if s.b.pwm.brkHeld then []
  else if !req && hi then brakeSet true (s.cur F.GDP_BRK_MIN_MIN_ON) s
  else if req && lo then brakeSet false (s.cur F.GDP_BRK_MIN_MIN_OFF) s
  else []

/-- The request at the end of a minimum time, and when its group comes into force: by the decisions as they stand (log entry
57). -/
def brakeEval : Prog := fun s =>
  let c := s.cur F.GDP_BRK_CFG_CMP
  brakeFollow (cmpHigh s c) (cmpLow s c) s

/-- BRAKE_MIN_TIMER: MIN_ON or MIN_OFF has passed. -/
def brakeMinTimer : Prog := fun s =>
  if s.b.pwm.brkHeld && decide (s.b.pwm.brkTill ≤ s.b.cyc) then thenDo [updPwm fun w => { w with brkHeld := false }] brakeEval s else []

/-- BRK_LONG: the request has stayed set for LONG_MS; one record for each request (R275). -/
def brkLong : Prog := fun s =>
  let lim := s.cur F.GDP_BRK_CFG_LONG_MS
  effIf (s.b.pwm.brkReq && lim != 0 && !s.b.pwm.brkTold && decide (s.b.pwm.brkAt + usCyc (1000 * lim) ≤ s.b.cyc))
    [.sticky F.GDP_STICKY_BRK_LONG, updPwm fun w => { w with brkTold := true },
     .led 0x5404 0 [cycUs (s.b.cyc - s.b.pwm.brkAt) / 1000, s.get F.GDP_STATUS_RT_SET]]

/-! ### Decisions and their users -/

/-- A comparator is enabled (R258). -/
def cmpEnabled (s : State) (c : Nat) : Bool := s.curOn (F.WIN_CFG_EN c) && s.on (F.CMP_CTRL_ENABLE (c / 16))

/-- The trip condition of a comparator (R259, R263). -/
def cmpTrips (s : State) (c : Nat) : Bool :=
  let hi := cmpHigh s c
  let lo := cmpLow s c
  let sel := match s.cur (F.WIN_CFG_TSEL c) with
    | 0 => hi
    | 1 => lo
    | _ => hi || lo
  sel || (cmpUsable s c && (s.get (F.CMP_STFAIL_WIN (c / 16))).testBit (c % 16)
            && s.curOn (F.WIN_TEST_FAIL_TRIP c))

/-- The event condition of a pair of decisions (R261). -/
def cmpEvent (sel : Nat) (hi lo : Bool) : Bool :=
  match sel with
  | 1 => hi
  | 2 => lo
  | 3 => hi || lo
  | _ => false

/-- The periods that a termination event ends (R233, R234). -/
def terminate (c : Nat) (hiRise loRise loFall : Bool) : Prog := fun s =>
  inOrder (((List.range 49).filter fun p =>
      termOpen s p && s.cur (F.PAIR_CFG_TERM_CMP p) == c
        && (match s.cur (F.PAIR_CFG_TERM_TYPE p) with
            | 1 => hiRise
            | 2 => loRise
            | 3 => loRise || loFall
            | _ => false)).map fun p => beginPeriod p (now100 s)) s

/-- The decisions of a comparator are shown and passed to its users: status, events, terminations, the trip
source, the brake request and the pump (R258 to R263, R273, R352, R359). -/
def cmpShow (c : Nat) (hi lo : Bool) : Prog := fun s =>
  let wasHi := s.on (F.WIN_STAT_HIGH c)
  let wasLo := s.on (F.WIN_STAT_LOW c)
  let n := c / 16
  let sel := s.cur (F.WIN_CFG_EVSEL c)
  let ev := cmpEvent sel hi lo && !cmpEvent sel wasHi wasLo
  let use := cmpUsable s c
  inOrder
    [ fun s => [.set (F.WIN_STAT_HIGH c) (bit hi), .set (F.WIN_STAT_LOW c) (bit lo),
                putBit s (F.CMP_STATUS_HIGH n) (c % 16) hi, putBit s (F.CMP_STATUS_LOW n) (c % 16) lo]
        ++ effIf ev (raiseBit s (F.CMP_EVT_WIN n) (c % 16) ++ [.sticky (F.CMP_STICKY_EVENT n)]),
      onlyIf (fun _ => use) (terminate c (hi && !wasHi) (lo && !wasLo) (!lo && wasLo)),
      fun s => setSource (16 + c) (cmpTrips s c) s,
      onlyIf (fun s => s.cur F.GDP_BRK_CFG_CMP == c) (brakeFollow (use && hi && !wasHi) (use && lo && !wasLo)),
      onlyIf (fun _ => hi && !wasHi) (pmpHighSet c) ] s

/-- The shown decisions follow those at the input; during a test they are held (R266). -/
def cmpPublish (c : Nat) : Prog := fun s =>
  let q := cmpOf s c
  if q.testing then [] else cmpShow c (cmpEnabled s c && q.high) (cmpEnabled s c && q.low) s

/-- One threshold code and the hysteresis of a comparator, in 1/16 µV: none, 5, 10 or 20 mV (R258). -/
def codeV : Nat := 28125
def hysV (s : State) (c : Nat) : Nat := [0, 80000, 160000, 320000].getD (s.cur (F.WIN_CFG_HYS c)) 0

/-- The decisions of a comparator at a voltage: HIGH sets above the effective high threshold and clears below it less
the hysteresis; LOW sets below LO and clears above LO plus the hysteresis (R258). -/
def decisions (s : State) (c v : Nat) : Bool × Bool :=
  let q := cmpOf s c
  let hi := s.get (F.WIN_STAT_HEFF c) * codeV
  let lo := thrLo s c * codeV
  (if q.high then !decide (v + hysV s c < hi) else decide (hi < v),
   if q.low then !decide (lo + hysV s c < v) else decide (v < lo))

/-- A comparator decides on the voltage at its pin. -/
def decideNow (c : Nat) : Prog := fun s =>
  let d := decisions s c (cmpOf s c).volt
  thenDo [updCmp c fun q => { q with high := d.1, low := d.2 }] (cmpPublish c) s

/-- COMPARATOR_CROSSING: the voltage at CIN has moved to `v`; a comparator in continuous operation decides (R258). -/
def crossing (c v : Nat) : Prog :=
  thenDo [updCmp c fun q => { q with volt := v }] (onlyIf (fun s => cmpUsable s c) (decideNow c))

/-- COMPARATOR_SAMPLE: a sampled comparator decides, INTERVAL coarse ticks after its last decision or later; INTERVAL 0
takes no samples (R262). -/
def cmpSample (c v : Nat) : Prog := fun s =>
  let n := s.cur (F.WIN_CFG_INTERVAL c)
  if cmpEnabled s c && s.cur (F.WIN_CFG_MODE c) == 1 && n != 0 && !(cmpOf s c).sampleAt.any (s.b.cyc < · + n) then
    thenDo [updCmp c fun q => { q with volt := v, sampleAt := some s.b.cyc }] (decideNow c) s
  else []

/-- A comparator follows its settings: one that is not enabled, or takes no samples, reads 0; one in continuous operation
decides anew; its effective threshold and its users follow (R258, R262, R264). -/
def cmpRefresh (c : Nat) : Prog := fun s =>
  let on := cmpEnabled s c && !(s.cur (F.WIN_CFG_MODE c) == 1 && s.cur (F.WIN_CFG_INTERVAL c) == 0)
  inOrder
    [ fun s => [.set (F.WIN_STAT_HEFF c) (heffAt s c (rampTicks s (s.cur (F.WIN_RAMP_PAIR c))))]
        ++ effIf (!on) [updCmp c fun q =>
              { q with high := false, low := false, testing := false, due := false, sampleAt := none }],
      fun s => if cmpUsable s c then decideNow c s else cmpPublish c s ] s

/-- One coarse tick of the ramps: the effective thresholds move, and the comparators in operation decide on them (R264). -/
def rampTick : Prog := fun s =>
  inOrder (((List.range 64).filter fun c => ramped s c).map cmpRefresh) s

/-! ### Commits -/

/-- A commit of the group is refused for a comparator (R260). -/
def cmpRefused (s : State) (c : Nat) : Bool :=
  let hi := s.get (F.WIN_THR_HI c)
  let lo := s.get (F.WIN_THR_LO c)
  let mode := s.get (F.WIN_CFG_MODE c)
  let iv := s.get (F.WIN_CFG_INTERVAL c)
  let tm := s.get (F.WIN_TEST_MODE c)
  decide (hi < lo) || s.get (F.WIN_CFG_TSEL c) == 3 || (mode == 1 && (iv == 1 || decide (126 ≤ iv))) || tm == 3
    || (tm != 0 && mode == 1) || (tm == 1 && decide (991 < hi) && decide (lo < 32))

/-- The byte address of a comparator's registers. -/
def winBase (c : Nat) : Nat := 0x50200 + 0x1000 * (c / 16) + 0x20 * (c % 16)

/-- CMPn_COMMIT bit 0 (R260). -/
def cmpCommit (n : Nat) : Prog := noted (.page (0x50000 + 0x1000 * n) 0) fun s =>
  (List.range 16).flatMap fun i =>
    let c := 16 * n + i
    if cmpRefused s c then [.sticky (F.CMP_STICKY_CFG_REJECT n), .led 0x5403 n [n, c]]
    else takeGroup (.cmp c) (winBase c) (winBase c + 0x10)

/-- A user names a sampled comparator after a commit; a pair by its values in force or by those that wait (R263). -/
def cmpConflicts (c : Nat) : Prog := fun s =>
  (if s.curOn (F.TRP_SRC_EN (16 + c)) && s.cur (F.TRP_SRC_GROUPS (16 + c)) != 0 then modeConflict c 0 s else [])
  ++ (if (List.range 49).any fun p => (s.cur (F.PAIR_CFG_TERM_TYPE p) != 0 && s.cur (F.PAIR_CFG_TERM_CMP p) == c)
        || (committed s p 0 0 (F.PAIR_CFG_TERM_TYPE p) != 0 && committed s p 0 0 (F.PAIR_CFG_TERM_CMP p) == c)
      then modeConflict c 1 s else [])
  ++ (if s.curOn F.GDP_BRK_CFG_EN && s.cur F.GDP_BRK_CFG_CMP == c then modeConflict c 2 s else [])

/-- A comparator's group comes into force. -/
def cmpAdopt (c : Nat) : Prog := inOrder
  [ fun _ => adoptGroup (.cmp c) (winBase c) (winBase c + 0x10), cmpConflicts c, cmpRefresh c, pmpUnprot, guarUpdate ]

/-- A write of CMPn_CTRL. -/
def cmpCtrlWrite (n v : Nat) : Prog := inOrder
  ([ fun _ => [.set (F.CMP_CTRL_ENABLE n) (bit (v.testBit 0))] ]
    ++ (List.range 16).map (fun i => cmpRefresh (16 * n + i))
    ++ [ pmpUnprot, guarUpdate ])

/-- GDP_COMMIT bit 0 (R271). -/
def gdpProfileCommit : Prog := noted (.page 0x45000 0) fun _ =>
  takeGroup .gdpProfile 0x45040 0x4505C ++ [.take (keyAt 0x45200) (keyAt 0x45280)]
def gdpProfileAdopt : Prog := fun _ =>
  adoptGroup .gdpProfile 0x45040 0x4505C ++ [.adopt (keyAt 0x45200) (keyAt 0x45280)]

/-- GDP_COMMIT bit 1 (R275). -/
def gdpBrakeCommit : Prog := noted (.page 0x45000 1) fun s =>
  if s.get F.GDP_BRK_RT_HI < s.get F.GDP_BRK_RT_LO then
    [.sticky F.GDP_STICKY_CFG_REJECT, .led 0x5403 0 [4, 0x64]]
  else takeGroup .gdpBrake 0x4505C 0x45068

/-- The brake group comes into force: thresholds, conflicts and the request follow. -/
def gdpBrakeAdopt : Prog := fun s =>
  let old := s.cur F.GDP_BRK_CFG_CMP
  inOrder
    [ fun _ => adoptGroup .gdpBrake 0x4505C 0x45068,
      fun s => if s.curOn F.GDP_BRK_CFG_EN then modeConflict (s.cur F.GDP_BRK_CFG_CMP) 2 s else [],
      cmpRefresh old,
      fun s => cmpRefresh (s.cur F.GDP_BRK_CFG_CMP) s,
      brakeEval ] s

/-- The threshold set of the brake comparator follows GRD's state and BRK_RT (R274). -/
def brakeThresholds : Prog := fun s =>
  let rt := s.get F.GRD_STATUS_STATE != 0 && s.on F.GRD_CTRL_BRK_RT
  if rt == s.on F.GDP_STATUS_RT_SET then []
  else thenDo [.set F.GDP_STATUS_RT_SET (bit rt)] (fun s => cmpRefresh (s.cur F.GDP_BRK_CFG_CMP) s) s

/-- CMPn_CMD.CNT_CLR. -/
def cmpCntClr (n : Nat) : Prog := fun _ => [.set (F.CMP_CNT_SKIP_N n) 0]

/-! ### Self-tests (R265 to R268) -/

/-- Whether a tie test runs its lower half: the half that WINi_STAT.HALF names, or the other when its code lies
outside 0 to 1,023 (R267). -/
def tieBelow (s : State) (c : Nat) : Bool :=
  if s.on (F.WIN_STAT_HALF c) then decide (32 ≤ thrLo s c) else decide (991 < thrHi s c)

/-- SELF_TEST: a due test begins, 16 ns after its window start; the outputs are held. -/
def selfTest (c : Nat) : Prog := fun s =>
  effIf ((cmpOf s c).due && !(cmpOf s c).testing && cmpUsable s c && reached s (cmpOf s c).testAt)
    [updCmp c fun q => { q with due := false, testing := true, below := tieBelow s c }]

/-- SELF_TEST_END: 64 ns after its begin the test gave `hi` and `lo`; FAILCNT follows, a failure may be declared (R268), and the
decisions at the input are shown again. -/
def selfTestEnd (c : Nat) (hi lo : Bool) : Prog := fun s =>
  let q := cmpOf s c
  let n := c / 16
  let tie := s.cur (F.WIN_TEST_MODE c) == 1
  let pass := if tie then hi == !q.below && lo == q.below
    else hi == !s.on (F.WIN_STAT_HIGH c) && lo == !s.on (F.WIN_STAT_LOW c)
  let cnt := min (s.get (F.WIN_STAT_FAILCNT c) + 1) 15
  let fails := !pass && s.cur (F.WIN_TEST_FAIL_N c) != 0 && s.cur (F.WIN_TEST_FAIL_N c) ≤ cnt
    && !(s.get (F.CMP_STFAIL_WIN n)).testBit (c % 16)
  if !(q.testing && reached s (q.testAt + 640)) then []
  else inOrder
    [ fun s => [updCmp c fun q => { q with testing := false },
                .set (F.WIN_STAT_FAILCNT c) (if pass then 0 else cnt)]
        ++ effIf tie [.set (F.WIN_STAT_HALF c) (bit (!q.below))]
        ++ effIf fails (raiseBit s (F.CMP_STFAIL_WIN n) (c % 16) ++ [.sticky (F.CMP_STICKY_SELFTEST_FAIL n),
             .led 0x5401 n [c, s.cur (F.WIN_TEST_MODE c) + 16 * bit (tie && q.below)]]),
      decideNow c ] s

/-- STFAIL_CLEAR: declared failures end, and with them their forced trip sources (R268); one that is declared in the same
CLK_FAB cycle stays (R12). -/
def stfailClear (n mask : Nat) : Prog := inOrder
  ([ fun s => [.set (F.CMP_STFAIL_WIN n) (clearMask (s.get (F.CMP_STFAIL_WIN n))
        (clearMask (mask % 2 ^ 16) (setNowBits s (F.CMP_STFAIL_WIN n))))] ]
    ++ (List.range 16).map (fun i => fun s => setSource (16 + 16 * n + i) (cmpTrips s (16 * n + i)) s))

/-! ### Gate profiles (R269, R270) -/

/-- The SLEW sequence of an output. -/
def slewOf (s : State) (p : Nat) (isH : Bool) : Slew := if isH then (pairOf s p).slewH else (pairOf s p).slewL
def setSlew (p : Nat) (isH : Bool) (q : Slew) : Eff :=
  updPair p fun a => if isH then { a with slewH := q } else { a with slewL := q }

/-- A write of GDP_CTRL: without ENABLE every SLEW pin is low (R269). -/
def gdpCtrlWrite (v : Nat) : Prog :=
  thenDo [.set F.GDP_CTRL_ENABLE (bit (v.testBit 0))]
    (fun _ => effIf (!v.testBit 0) [.upd fun b => { b with pairs := b.pairs.map fun q => { q with slewH := {}, slewL := {} } }])

/-- SLEW_PHASE_END: T1 or T2 has passed (R269). -/
def slewPhaseEnd (p : Nat) (isH : Bool) : Prog := fun s =>
  let q := slewOf s p isH
  if !reached s q.till then []
  else if q.phase = 1 then [setSlew p isH (if q.t2 = 0 then {} else ⟨2, q.t2, q.till + q.t2⟩)]
  else if q.phase = 2 then [setSlew p isH {}]
  else []

/-- SOFT_OFF_END: T_SOFT has passed (R270). -/
def softOffEnd (p : Nat) (isH : Bool) : Prog := fun s =>
  effIf ((slewOf s p isH).phase == 3 && reached s (slewOf s p isH).till) [setSlew p isH {}]

/-- A comparator decides `phase` × 100 ps into the cycle, and what follows from it happens at that instant (R231). -/
def inThisCycle (phase : Nat) (a : Prog) : Prog := fun s => atInstant (s.b.cyc * 64 + phase) a s

def execComparatorCrossing (c : Fin 64) (v : BitVec 25) (phase : Fin 64) (s : State) : Result :=
  run (onMain (inThisCycle phase (crossing c v.toNat))) s
def execComparatorSample (c : Fin 64) (v : BitVec 25) (phase : Fin 64) (s : State) : Result :=
  run (onMain (inThisCycle phase (cmpSample c v.toNat))) s
def execCmpCommit (n : Fin 4) (s : State) : Result := run (onMain (cmpCommit n)) s
def execCmpCntClr (n : Fin 4) (s : State) : Result := run (onMain (cmpCntClr n)) s
def execSelfTest (c : Fin 64) (s : State) : Result := run (onMain (selfTest c)) s
def execSelfTestEnd (c : Fin 64) (high low : Bool) (s : State) : Result := run (onMain (selfTestEnd c high low)) s
def execStfailClear (n : Fin 4) (mask : Word) (s : State) : Result := run (onMain (stfailClear n mask.toNat)) s
def execSlewPhaseEnd (p : Fin 48) (isH : Bool) (s : State) : Result := run (onMain (slewPhaseEnd p isH)) s
def execSoftOffEnd (p : Fin 48) (isH : Bool) (s : State) : Result := run (onMain (softOffEnd p isH)) s
def execGdpProfileCommit (s : State) : Result := run (onMain gdpProfileCommit) s
def execGdpBrakeCommit (s : State) : Result := run (onMain gdpBrakeCommit) s
def execBrakeMinTimer (s : State) : Result := run (onMain brakeMinTimer) s
def execBrkLong (s : State) : Result := run (onMain brkLong) s

end Sys2Proof.Machine
end

