-- ==== Sys2Proof/Machine/Keystone.lean ====
section
/-! DEFINITION. The Keystone datapath: program words, their check, operands, block floating point and the
result of every opcode (R118 to R124, R132, R139 to R155). -/

namespace Sys2Proof.Machine

/-! ### Program words (R139, R140) -/

/-- The fields of a program word. -/
structure KWord where
  op : Nat
  pm : Nat
  pr : Nat
  dst : Nat
  doff : Nat
  n : Nat
  sub : Nat
  a : Nat
  b : Nat
  deriving DecidableEq, Repr

/-- The fields of a 64-bit word. -/
def kWord (w : Nat) : KWord :=
  ⟨bitsOf w 63 58, bitsOf w 57 56, bitsOf w 55 53, bitsOf w 52 46, bitsOf w 45 40, bitsOf w 39 33, bitsOf w 32 32,
   bitsOf w 31 16, bitsOf w 15 0⟩

/-- The word that holds given fields (R139, R140). -/
def kEncode (k : KWord) : Nat :=
  k.op * 2 ^ 58 + k.pm * 2 ^ 56 + k.pr * 2 ^ 53 + k.dst * 2 ^ 46 + k.doff * 2 ^ 40 + k.n * 2 ^ 33 + k.sub * 2 ^ 32
    + k.a * 2 ^ 16 + k.b

/-- Every field of a word fits its width. -/
def kFits (k : KWord) : Bool :=
  k.op < 64 && k.pm < 4 && k.pr < 8 && k.dst < 128 && k.doff < 64 && k.n < 128 && k.sub < 2
    && k.a < 2 ^ 16 && k.b < 2 ^ 16

/-- Operand fields: MODE 0 stage, 1 parameter, 2 slot, 3 immediate. -/
def opMode (o : Nat) : Nat := bitsOf o 15 14
def opBc (o : Nat) : Bool := o.testBit 13
def opAddr (o : Nat) : Nat := bitsOf o 12 0
/-- The immediate of an operand. -/
def opImm (o : Nat) : Int := signedOf 13 (opAddr o)

/-! ### What the check requires of a word (R141, R146) -/

/-- What an opcode accepts: modes of A and of B (bits 0 to 3), the kind of its destination (0 none, 1 stage
elements, 2 whole stage, 3 flag, 4 predicate, 5 FPM channels), and whether it uses PM, PR alone, DOFF, N, SUB. -/
structure OpSpec where
  am : Nat := 0
  bm : Nat := 0
  dk : Nat := 0
  p : Bool := true
  r : Bool := false
  o : Bool := true
  n : Bool := true
  s : Bool := false

/-- The opcodes of R146, DCL apart. -/
def opSpec : Nat → Option OpSpec
  | 0x00 => some { p := false, o := false }
  | 0x01 => some { p := false, o := false, n := false }
  | 0x02 => some { dk := 3 }
  | 0x04 => some { am := 6, dk := 1 }
  | 0x05 => some { am := 1, bm := 4, o := false }
  | 0x08 => some { am := 7, bm := 7, dk := 1, s := true }
  | 0x09 => some { am := 7, bm := 7, dk := 1 }
  | 0x0A => some { am := 15, bm := 15, dk := 1 }
  | 0x0B => some { am := 15, bm := 15, dk := 1 }
  | 0x0C => some { am := 7, dk := 1 }
  | 0x0D => some { am := 7, dk := 1 }
  | 0x10 => some { am := 7, bm := 8, dk := 1 }
  | 0x11 => some { am := 7, bm := 3, dk := 1 }
  | 0x12 => some { am := 7, bm := 2, dk := 1 }
  | 0x14 => some { dk := 2, p := false }
  | 0x15 => some { bm := 8, dk := 2, p := false }
  | 0x18 => some { am := 7, dk := 1, s := true }
  | 0x19 => some { am := 1, dk := 1 }
  | 0x1A => some { am := 1, bm := 1, dk := 1 }
  | 0x1B => some { am := 1, bm := 1, dk := 1 }
  | 0x1C => some { am := 15, bm := 15, dk := 4 }
  | 0x1D => some { am := 15, bm := 15, dk := 1, p := false, r := true }
  | 0x20 => some { am := 7, dk := 1 }
  | 0x21 => some { am := 7, dk := 1 }
  | 0x24 => some { am := 1, dk := 5, o := false }
  | _ => none

/-- Widths by engine: parameter words, largest length and count, predicate bits. -/
def kParams (eng : Nat) : Nat := if eng = 0 then 1024 else 4096
def kMax (eng : Nat) : Nat := if eng = 0 then 32 else 64

/-- ERR 4 of a stage element range. -/
def stageErr (eng : Nat) (len : Nat → Nat) (st first count : Nat) : List Nat :=
  if (eng = 0 ∧ 63 < st) ∨ len st = 0 ∨ len st < first + count then [4] else []

/-- The errors of an operand that takes `count` elements, words or slots from its address on. -/
def operandErr (eng : Nat) (len : Nat → Nat) (modes o count : Nat) : List Nat :=
  let a := opAddr o
  if modes = 0 then (if o = 0 then [] else [2])
  else if !modes.testBit (opMode o) then [2]
  else match opMode o with
    | 0 => stageErr eng len (a / 64) (a % 64) count
    | 1 => if a.testBit 12 then [2] else if kParams eng < a % 4096 + count then [7] else []
    | 2 => if a / 512 ≠ 0 then [2] else if 256 < a % 256 + count then [5] else []
    | _ => []

/-- How many elements operand B takes (R140, R147, R149, R151). -/
def bCount (k : KWord) : Nat :=
  match k.op with
  | 0x05 => k.n
  | 0x1A | 0x1B => 2
  | 0x11 => if opBc k.b then 2 else 2 * k.n
  | 0x12 => if opBc k.b then 3 else 3 * k.n
  | _ => if opBc k.b then 1 else k.n

/-- An engine owns a slot as a destination (R127). -/
def ownsSlot (eng : Nat) (osl : Bool) (n : Nat) : Bool :=
  if eng = 0 then osl && n ≤ 0x7F else if osl then 0x80 ≤ n else 0x40 ≤ n && n ≤ 0x7F

/-- The errors of an executable word (R141, R150, R151). -/
def wordErrs (eng : Nat) (len : Nat → Nat) (k : KWord) (sp : OpSpec) : List Nat :=
  (if k.pm = 3 ∨ (!sp.p && k.pm != 0) ∨ (!sp.p && !sp.r && k.pr != 0) ∨ (!sp.o && k.doff != 0)
      ∨ (!sp.n && k.n != 0) ∨ (!sp.s && k.sub != 0) ∨ (sp.dk = 0 ∧ k.dst ≠ 0) then [2] else [])
  ++ (if (k.op = 0x14 ∧ eng = 0) ∨ (k.op = 0x24 ∧ eng = 1) then [3] else [])
  ++ (if kMax eng < k.n then [4] else [])
  ++ (match sp.dk with
      | 1 => stageErr eng len k.dst k.doff k.n
      | 2 => stageErr eng len k.dst 0 0 ++ (if (k.n ≠ 0 ∧ k.n ≠ len k.dst) ∨ k.doff ≠ 0 then [4] else [])
      | 3 => (if 64 ≤ k.dst ∨ k.n ≠ 1 then [2] else []) ++ (if k.pm ≠ 0 ∧ kMax eng ≤ k.doff then [4] else [])
      | 4 => (if 6 ≤ k.dst / 8 then [2] else []) ++ (if kMax eng < k.doff + k.n then [4] else [])
      | 5 => if 64 < k.dst + k.n then [4] else []
      | _ => [])
  ++ (if k.op = 0x1D ∧ kMax eng < k.doff + k.n then [4] else [])
  ++ (if (k.op = 0x19 ∧ k.n % 3 ≠ 0) ∨ ((k.op = 0x1A ∨ k.op = 0x1B) ∧ k.n % 2 ≠ 0) then [4] else [])
  ++ (if (k.op = 0x10 ∨ k.op = 0x15) ∧ opMode k.b = 3 ∧ (opImm k.b < -128 ∨ 127 < opImm k.b) then [2] else [])
  ++ operandErr eng len sp.am k.a (if opBc k.a then 1 else k.n)
  ++ operandErr eng len sp.bm k.b (bCount k)
  ++ (if k.op = 0x05 ∧ opMode k.b = 2 ∧ opAddr k.b / 512 = 0
        ∧ (List.range k.n).any (fun i => !ownsSlot eng (opAddr k.b / 256 == 1) (opAddr k.b % 256 + i)) then [5] else [])

/-- The lowest code that applies to an executable word, 0 = none (R141). -/
def wordErr (eng : Nat) (len : Nat → Nat) (w : Nat) : Nat :=
  let k := kWord w
  match opSpec k.op with
  | none => 2
  | some sp => (wordErrs eng len k sp).foldl (fun m e => if m = 0 then e else min m e) 0

/-- ⌈n / 8⌉. -/
def vec (n : Nat) : Nat := (n + 7) / 8

/-- The cycles of an executable word (R145). -/
def wordCycles (len : Nat → Nat) (k : KWord) : Nat :=
  match k.op with
  | 0x00 => k.n
  | 0x01 => 0
  | 0x02 => 1
  | 0x04 | 0x05 | 0x1C | 0x1D | 0x24 => 2 + vec k.n
  | 0x12 | 0x18 | 0x19 | 0x1A | 0x1B => 4 + vec k.n
  | 0x15 => 2 + (if k.n = 0 then 0 else vec (len k.dst))
  | 0x14 => 3 + 2 * (if k.n = 0 then 0 else vec (len k.dst))
  | 0x20 | 0x21 => 8 + vec k.n
  | _ => 3 + vec k.n

/-! ### The check of a program (R132, R154) -/

/-- What the check has found so far. -/
structure Scan1 where
  err : Nat := 0
  errAt : Nat := 0
  /-- The last word read, and the length in cycles. -/
  last : Nat := 0
  cycles : Nat := 0
  /-- Declared stages: length and initial exponent; exponents fixed by SHE on KE0. -/
  decl : List (Nat × Nat × Int) := []
  she : List (Nat × Int) := []

/-- The declared length of a stage. -/
def declLen (d : List (Nat × Nat × Int)) (st : Nat) : Nat := (tget (0, 0) d st).1

/-- A stage descriptor's errors (R141, R154). -/
def dclErr (eng w : Nat) (inDecl : Bool) (d : List (Nat × Nat × Int)) : Nat :=
  let st := bitsOf w 52 46
  let ln := bitsOf w 39 33
  let e := signedOf 8 w
  if !inDecl || bitsOf w 57 53 != 0 || bitsOf w 45 40 != 0 || bitsOf w 32 8 != 0 then 2
  else if (eng = 0 ∧ 63 < st) ∨ kMax eng < ln then 4
  else match d.find? fun x => x.1 == st with
    | some x => if x.2 = (ln, e) then 0 else 4
    | none => 0

/-- The check reads words from `a` on: `size` words of store, `read` a word, `ecc` a word with an uncorrectable
error. -/
def kScan (eng size : Nat) (read : Nat → Nat) (ecc : Option Nat) : Nat → Nat → Bool → Scan1 → Scan1
  | 0, _, _, r => { r with err := 1 }
  | fuel + 1, a, inDecl, r =>
    let w := read a
    let fail (e : Nat) : Scan1 := { r with err := e, errAt := a, last := a }
    if size ≤ a then { r with err := 1 }
    else if ecc = some a then fail 8
    else if bitsOf w 63 58 = 0x3F then
      let e := dclErr eng w inDecl r.decl
      if e ≠ 0 then fail e
      else kScan eng size read ecc fuel (a + 1) true
        { r with decl := tput r.decl (bitsOf w 52 46) (bitsOf w 39 33, signedOf 8 w), last := a }
    else
      let k := kWord w
      let len := declLen r.decl
      let e := wordErr eng len w
      let x := opImm k.b
      if e ≠ 0 then fail e
      else if k.op = 0x15 ∧ eng = 0 ∧ tget x r.she k.dst ≠ x then fail 6
      else if k.op = 1 then { r with last := a }
      else kScan eng size read ecc fuel (a + 1) false
        { r with she := if k.op = 0x15 then tput r.she k.dst x else r.she, last := a,
                 cycles := r.cycles + wordCycles len k }

/-- Words of a program store, and its word address in memory. -/
def progSize (eng : Nat) : Nat := if eng = 0 then 2048 else 4096
def progBase (eng : Nat) : Nat := if eng = 0 then 0x40000 else 0x44000

/-- Word `k` of a program store (R157). -/
def progWord (s : State) (eng k : Nat) : Nat :=
  s.word (progBase eng + 2 * k) + 2 ^ 32 * s.word (progBase eng + 2 * k + 1)

/-- The check of the program at a start word; ERR 1 names the start word. -/
def kCheck (s : State) (eng start : Nat) (ecc : Option Nat) : Scan1 :=
  let r := kScan eng (progSize eng) (progWord s eng) ecc (progSize eng + 1) start true {}
  if r.err = 1 then { r with errAt := start } else r

/-! ### Exact values: x × 2^s -/

/-- x × 2^−k, rounded to nearest with ties away from zero when k is positive (R119). -/
def shiftRound (x k : Int) : Int := if k ≤ 0 then x * 2 ^ (-k).toNat else roundDiv x (2 ^ k.toNat)

abbrev Val := Int × Int

def vAlign (a b : Val) : Int × Int × Int :=
  let s := if a.2 < b.2 then a.2 else b.2
  (a.1 * 2 ^ (a.2 - s).toNat, b.1 * 2 ^ (b.2 - s).toNat, s)
def vAdd (a b : Val) : Val := let x := vAlign a b; (x.1 + x.2.1, x.2.2)
def vNeg (a : Val) : Val := (-a.1, a.2)
def vSub (a b : Val) : Val := vAdd a (vNeg b)
def vMul (a b : Val) : Val := (a.1 * b.1, a.2 + b.2)
def vLt (a b : Val) : Bool := let x := vAlign a b; decide (x.1 < x.2.1)
def vEq (a b : Val) : Bool := let x := vAlign a b; x.1 == x.2.1

/-- min(max(v, lo), hi); when lo exceeds hi the result is hi (R149). -/
def vClamp (v lo hi : Val) : Val :=
  if vLt hi lo then hi else if vLt v lo then lo else if vLt hi v then hi else v

/-- The mantissa of a value at an exponent. -/
def mantAt (v : Val) (e : Int) : Int := shiftRound v.1 (e - 23 - v.2)

def mMax : Int := 8388607
def mMin : Int := -8388608
def fits24 (m : Int) : Bool := decide (mMin ≤ m ∧ m ≤ mMax)
def lim24 (m : Int) : Int := clampInt mMin mMax m

def aMax : Int := 2 ^ 55 - 1
def aMin : Int := -(2 ^ 55)
def fits56 (m : Int) : Bool := decide (aMin ≤ m ∧ m ≤ aMax)

/-! ### Stages -/

def coreOf (s : State) (eng : Nat) : Core := if eng = 0 then s.b.ke0.core else s.b.ke1.core
def updKe0 (g : Ke0 → Ke0) : Eff := .upd fun b => { b with ke0 := g b.ke0 }
def updKe1 (g : Ke1 → Ke1) : Eff := .upd fun b => { b with ke1 := g b.ke1 }
def setCore (eng : Nat) (c : Core) : Eff :=
  if eng = 0 then updKe0 fun k => { k with core := c } else updKe1 fun k => { k with core := c }

def Core.stLen (c : Core) (st : Nat) : Nat := tget 0 c.len st
def Core.stExp (c : Core) (st : Nat) : Int := tget 0 c.exp st
def Core.el (c : Core) (st i : Nat) : Int := tget 0 c.elem (64 * st + i)

/-- The elements of a stage. -/
def Core.els (c : Core) (st : Nat) : List Int := (List.range (c.stLen st)).map (c.el st)

/-- Write the elements of a stage from element 0 on. -/
def Core.putEls (c : Core) (st : Nat) (ms : List Int) : Core :=
  { c with elem := (ms.zipIdx).foldl (fun l p => tput l (64 * st + p.2) p.1) c.elem }

/-- The stage declared with a length and an exponent, all mantissas 0. -/
def Core.declare (c : Core) (st ln : Nat) (e : Int) : Core :=
  { c with len := tput c.len st ln, dexp := tput c.dexp st e, exp := tput c.exp st e,
           elem := c.elem.filter fun p => p.1 / 64 != st }

/-- The stages of a list alone: the others are not declared any more. -/
def Core.only (c : Core) (sts : List Nat) : Core :=
  { c with len := c.len.filter fun p => sts.contains p.1
           dexp := c.dexp.filter fun p => sts.contains p.1
           exp := c.exp.filter fun p => sts.contains p.1
           elem := c.elem.filter fun p => sts.contains (p.1 / 64) }

/-- A program takes effect: each stage it declares takes its declaration; one that matches the one in force keeps
its mantissas and its exponent (R155). -/
def Core.take (c : Core) (decl : List (Nat × Nat × Int)) : Core :=
  decl.foldl (fun c d =>
      if c.stLen d.1 = d.2.1 ∧ tget 0 c.dexp d.1 = d.2.2 ∧ d.2.1 ≠ 0 then c else c.declare d.1 d.2.1 d.2.2) c

/-- A run starts: accumulators and predicates are cleared (R124). -/
def Core.fresh (c : Core) : Core := { c with acc := [], pr := List.replicate 8 0 }

/-- Entering RUN from OFF clears every stage mantissa (R124). -/
def Core.zero (c : Core) : Core := { c with elem := [] }

/-- The least exponent from `e` on, at most 127, at which every value fits (R121). -/
def fitExp (vs : List Val) : Nat → Int → Int
  | 0, e => e
  | fuel + 1, e => if vs.all (fun v => fits24 (mantAt v e)) || decide (127 ≤ e) then e else fitExp vs fuel (e + 1)

/-- Results written back to a stage: position and value. On KE0 each is limited to the stage's range (R120); on
KE1 the exponent of the stage is raised first (R121). Returns whether a result was limited. -/
def Core.writeBack (c : Core) (eng st : Nat) (ws : List (Nat × Val)) : Core × Bool :=
  let e := c.stExp st
  if eng = 0 then
    let ms := ws.map fun w => (w.1, mantAt w.2 e)
    ({ c with elem := ms.foldl (fun l p => tput l (64 * st + p.1) (lim24 p.2)) c.elem },
     ms.any fun p => !fits24 p.2)
  else
    let e2 := fitExp (ws.map (·.2)) 256 e
    let c1 := if e2 = e then c
      else { c.putEls st ((c.els st).map fun m => shiftRound m (e2 - e)) with exp := tput c.exp st e2 }
    let ms := ws.map fun w => (w.1, mantAt w.2 e2)
    ({ c1 with elem := ms.foldl (fun l p => tput l (64 * st + p.1) (lim24 p.2)) c1.elem },
     ms.any fun p => !fits24 p.2)

/-! ### Operands -/

/-- The run of KE1 in progress. -/
def ke1Run (s : State) : Ke1Run := if s.b.ke1.cls = 1 then s.b.ke1.run1 else s.b.ke1.run2

/-- A slot as the engine reads it (R125, R126, R162). -/
def readSlot (s : State) (eng : Nat) (osl : Bool) (n : Nat) : Nat :=
  if osl then
    if 0x80 ≤ n then s.get (F.KE1_OSLOT_VAL (n - 0x80))
    else if eng = 1 ∧ 0x70 ≤ n then (ke1Run s).feed.getD (n - 0x70) 0
    else s.get (F.KE0_OSLOT_VAL n)
  else if eng = 0 then s.get (F.KE0_ISLOT_VAL n)
  else if 0x40 ≤ n ∧ n ≤ 0x7F then s.b.ke1.setOwn.getD (n - 0x40) 0
  else (ke1Run s).copy.getD n 0

/-- The word address of a parameter bank. -/
def bankAddr (eng bank : Nat) : Nat := 0x400000 + 0x10000 * (2 * eng + bank)

/-- The active bank (R135). -/
def activeBank (s : State) (eng : Nat) : Nat :=
  if eng = 0 then s.get F.KE0_STATUS_PBANK else s.get F.KE1_STATUS_PBANK

/-- The value of a slot or parameter word. -/
def wordVal (w : Nat) : Val := (slotM w, slotE w - 23)

/-- Element `k` of an operand (R140). -/
def opVal (s : State) (eng o k : Nat) : Val :=
  let a := opAddr o
  let c := coreOf s eng
  match opMode o with
  | 0 => (c.el (a / 64) (a % 64 + k), c.stExp (a / 64) - 23)
  | 1 => wordVal (s.word (bankAddr eng (activeBank s eng) + a % 4096 + k))
  | 2 => wordVal (readSlot s eng (a.testBit 8) (a % 256 + k))
  | _ => (opImm o, 0)

/-- Operands A and B at position `i`: with BC one element serves every position. -/
def aVal (s : State) (eng : Nat) (k : KWord) (i : Nat) : Val := opVal s eng k.a (if opBc k.a then 0 else i)
def bVal (s : State) (eng : Nat) (k : KWord) (i : Nat) : Val := opVal s eng k.b (if opBc k.b then 0 else i)

/-- Position `j` is written under the predicate (R144). -/
def passes (c : Core) (k : KWord) (j : Nat) : Bool :=
  let b := (c.pr.getD k.pr 0).testBit j
  if k.pm = 0 then true else if k.pm = 1 then b else !b

/-! ### Results -/

/-- What an instruction leaves: the core, whether a result was limited, whether an integrator reached a limit. -/
structure KRes where
  core : Core
  limited : Bool := false
  clamped : Bool := false

/-- Write the values of all positions back where the predicate lets them. -/
def kPut (eng : Nat) (c : Core) (k : KWord) (f : Nat → Val) : KRes :=
  let ws := ((List.range k.n).filter fun i => passes c k (k.doff + i)).map fun i => (k.doff + i, f i)
  let r := c.writeBack eng k.dst ws
  { core := r.1, limited := r.2 }

/-- The accumulator of KE0 takes a product: aligned to the destination's exponent, limited to 56 bits (R120,
R148). -/
def acc0 (a : Int × Int) (p : Val) (ed : Int) : (Int × Int) × Bool :=
  let r := if a.2 = ed then a.1 else shiftRound a.1 (ed - a.2)
  let r1 := clampInt aMin aMax r
  let t := shiftRound p.1 (ed - 46 - p.2)
  let t1 := clampInt aMin aMax t
  let u := r1 + t1
  ((clampInt aMin aMax u, ed), !fits56 r || !fits56 t || !fits56 u)

/-- The accumulator of KE1 takes a product: its exponent rises by the least amount that makes the sum fit
(R121). -/
def acc1 (a : Int × Int) (p : Val) : Nat → Int → Int × Int
  | 0, k => (a.1, a.2 + k)
  | fuel + 1, k =>
    let t := shiftRound a.1 k + shiftRound p.1 (a.2 + k - 46 - p.2)
    if fits56 t then (t, a.2 + k) else acc1 a p fuel (k + 1)

/-- MUL and MAC (R148). -/
def kMac (s : State) (eng : Nat) (k : KWord) (mul : Bool) : KRes :=
  let c := coreOf s eng
  let ed := c.stExp k.dst
  let one := fun i =>
    let j := k.doff + i
    let a := if mul then (0, ed) else tget (0, ed) c.acc j
    let p := vMul (aVal s eng k i) (bVal s eng k i)
    let r := if eng = 0 then acc0 a p ed else (acc1 a p 1024 0, false)
    (j, r.1, r.2)
  let rs := ((List.range k.n).filter fun i => passes c k (k.doff + i)).map one
  let c1 := { c with acc := rs.foldl (fun l r => tput l r.1 r.2.1) c.acc }
  let w := if mul || k.sub = 1 then
      c1.writeBack eng k.dst (rs.map fun r => (r.1, (r.2.1.1, r.2.1.2 - 46)))
    else (c1, false)
  { core := w.1, limited := w.2 || rs.any fun r => r.2.2 }

/-- INTEG: D ← min(max(D + A × g, lo), hi); a result at or beyond a limit reaches it (R122, R149). -/
def kInteg (s : State) (eng : Nat) (k : KWord) : KRes :=
  let c := coreOf s eng
  let bc := opBc k.b
  let lim := fun q i => opVal s eng k.b (if bc then q else q * k.n + i)
  let raw := fun i => vAdd (c.el k.dst (k.doff + i), c.stExp k.dst - 23) (vMul (aVal s eng k i) (lim 0 i))
  let hit := fun i => vLt (lim 2 i) (lim 1 i) || !vLt (lim 1 i) (raw i) || !vLt (raw i) (lim 2 i)
  let r := kPut eng c k fun i => vClamp (raw i) (lim 1 i) (lim 2 i)
  { r with clamped := (List.range k.n).any fun i => passes c k (k.doff + i) && hit i }

/-- CLAMP (R149). -/
def kClamp (s : State) (eng : Nat) (k : KWord) : KRes :=
  let bc := opBc k.b
  kPut eng (coreOf s eng) k fun i =>
    vClamp (aVal s eng k i) (opVal s eng k.b (if bc then 0 else i)) (opVal s eng k.b (if bc then 1 else k.n + i))

/-- SAT: limited to ±(1 − 2^−23) × 2^k (R149). -/
def kSat (s : State) (eng : Nat) (k : KWord) : KRes :=
  let x := opImm k.b
  kPut eng (coreOf s eng) k fun i => vClamp (aVal s eng k i) (-mMax, x - 23) (mMax, x - 23)

/-- NORM: the exponent falls until the largest mantissa is at least 0.5, or to −128 (R121). -/
def normExp (mx : Nat) : Nat → Int → Int
  | 0, e => e
  | fuel + 1, e => if decide (4194304 ≤ mx) || decide (e ≤ -128) then e else normExp (2 * mx) fuel (e - 1)
def kNorm (c : Core) (k : KWord) : KRes :=
  let ms := c.els k.dst
  let mx := ms.foldl (fun m x => max m x.natAbs) 0
  let e := c.stExp k.dst
  let e2 := if mx = 0 then e else normExp mx 24 e
  { core := { c.putEls k.dst (ms.map fun m => m * 2 ^ (e - e2).toNat) with exp := tput c.exp k.dst e2 } }

/-- SHE on KE1: the exponent is set and each value kept; one that no longer fits saturates (R123). -/
def kShe (c : Core) (k : KWord) : KRes :=
  let x := opImm k.b
  let ms := (c.els k.dst).map fun m => shiftRound m (x - c.stExp k.dst)
  { core := { c.putEls k.dst (ms.map lim24) with exp := tput c.exp k.dst x }, limited := ms.any fun m => !fits24 m }

/-! ### Transcendental results -/

/-- A value modulo 2 in [−1, 1), in units of 2^−60 (R151). -/
def angleOf (v : Val) : Int :=
  let x := if -60 ≤ v.2 then v.1 * 2 ^ (v.2 + 60).toNat else v.1 / 2 ^ (-60 - v.2).toNat
  let m := x % 2 ^ 61
  if 2 ^ 60 ≤ m then m - 2 ^ 61 else m

/-- A number that names an operand, for the error functions of Config. -/
def valKey (v : Val) (kind : Nat) : Nat :=
  ((v.1.natAbs * 2 + bit (decide (v.1 < 0))) * 1024 + (v.2 + 512).toNat) * 4 + kind

/-- A signed error of at most `n` units drawn from a free value. -/
def boundedErr (x n : Nat) : Int := (x % (2 * n + 1) : Nat) - (n : Int)

/-- TRIG: within 1.5 × 2^−23 of the exact value, limited to ±(1 − 2^−23) (R151, log entry 6). -/
def kTrig (s : State) (eng : Nat) (k : KWord) : KRes :=
  kPut eng (coreOf s eng) k fun i =>
    let v := aVal s eng k i
    let a := angleOf v
    let y := if k.sub = 1 then sinPi (let b := a + 2 ^ 59; if 2 ^ 60 ≤ b then b - 2 ^ 61 else b) else sinPi a
    let z := y + boundedErr (Config.trigError (valKey v k.sub)) 196606
    (clampInt (-(mMax * 2 ^ 17)) (mMax * 2 ^ 17) z, -40)

/-- Clarke transform: constants held to 24 bits, 1/3 and 1/√3 (R151). -/
def kClk3 (s : State) (eng : Nat) (k : KWord) : KRes :=
  kPut eng (coreOf s eng) k fun i =>
    let t := i / 3 * 3
    let a := aVal s eng k t
    let b := aVal s eng k (t + 1)
    let c := aVal s eng k (t + 2)
    if i % 3 = 0 then vMul (vSub (vSub (vAdd a a) b) c) (2796203, -23)
    else if i % 3 = 1 then vMul (vSub b c) (4843165, -23)
    else vMul (vAdd (vAdd a b) c) (2796203, -23)

/-- Park transform and its inverse (R151). -/
def kPark (s : State) (eng : Nat) (k : KWord) (inv : Bool) : KRes :=
  let cs := opVal s eng k.b 0
  let sn := opVal s eng k.b 1
  kPut eng (coreOf s eng) k fun i =>
    let u := aVal s eng k (i / 2 * 2)
    let w := aVal s eng k (i / 2 * 2 + 1)
    if i % 2 = 0 then (if inv then vSub (vMul u cs) (vMul w sn) else vAdd (vMul u cs) (vMul w sn))
    else (if inv then vAdd (vMul u sn) (vMul w cs) else vSub (vMul w cs) (vMul u sn))

/-- 1/x, or 1/√x, to 96 binary places. -/
def recipVal (v : Val) (root : Bool) : Val :=
  if root then
    let x := if v.2 % 2 = 0 then v else (v.1 * 2, v.2 - 1)
    ((Nat.sqrt (2 ^ 192 / x.1.natAbs) : Nat), -96 - x.2 / 2)
  else
    let q : Int := ((2 ^ 97 + v.1.natAbs) / (2 * v.1.natAbs) : Nat)
    (if v.1 < 0 then -q else q, -96 - v.2)

/-- RCP and RSQ: within a relative error of 2^−21; 0, or 0 or less, gives the largest positive value of the
destination with its flag (R152, log entry 6). -/
def kRecip (s : State) (eng : Nat) (k : KWord) (root : Bool) : KRes :=
  let c := coreOf s eng
  let bad := fun i => let v := aVal s eng k i; v.1 == 0 || (root && decide (v.1 < 0))
  let r := kPut eng c k fun i =>
    let v := aVal s eng k i
    if bad i then (mMax, if eng = 0 then c.stExp k.dst - 23 else 104)
    else
      let q := recipVal v root
      (q.1 * (2 ^ 40 + boundedErr (Config.recipError (valKey v (2 + bit root))) 524286), q.2 - 40)
  { r with limited := r.limited || (List.range k.n).any fun i => passes c k (k.doff + i) && bad i }

/-- The conditions of CMP (R150). -/
def kCond (cond : Nat) (a b : Val) : Bool :=
  match cond with
  | 0 => vEq a b
  | 1 => !vEq a b
  | 2 => vLt a b
  | 3 => !vLt b a
  | 4 => vLt b a
  | _ => !vLt a b

/-- CMP: predicate bits from exact comparisons (R150). -/
def kCmp (s : State) (eng : Nat) (k : KWord) : KRes :=
  let c := coreOf s eng
  let reg := k.dst % 8
  let new := (List.range k.n).foldl (fun p i =>
      let j := k.doff + i
      if !passes c k j then p
      else if kCond (k.dst / 8) (aVal s eng k i) (bVal s eng k i) then withBit p j else clearBit p j) (c.pr.getD reg 0)
  { core := { c with pr := setAt c.pr reg new 0 } }

/-- SEL (R150). -/
def kSel (s : State) (eng : Nat) (k : KWord) : KRes :=
  let c := coreOf s eng
  kPut eng c k fun i =>
    if (c.pr.getD k.pr 0).testBit (k.doff + i) then aVal s eng k i else bVal s eng k i

/-- The stage elements that STS and EXPECT send, as slot words (R147, R153). -/
def kWords (s : State) (eng : Nat) (k : KWord) : List (Nat × Nat) :=
  let c := coreOf s eng
  let st := opAddr k.a / 64
  ((List.range k.n).filter fun i => passes c k i).map fun i =>
    (i, slotWord (c.el st (opAddr k.a % 64 + (if opBc k.a then 0 else i))) (c.stExp st))

end Sys2Proof.Machine
end

