-- ==== Sys2Proof/Machine/Engines.lean ====
section
/-! DEFINITION. The Keystone engines: states, programs, banks, runs, the opcodes as commands, the output copy
(R118 to R170). -/

namespace Sys2Proof.Machine

/-! ### Programs -/

/-- The lengths of the ROM programs in cycles, with their engine (Standard program set). -/
def romLen (eng id : Nat) : Option Nat :=
  match eng, id with
  | 0, 0x01 => some 984
  | 0, 0x02 => some 1208
  | 1, 0x10 => some 1420
  | 1, 0x11 => some 1760
  | 1, 0x20 => some 150
  | 1, 0x21 => some 300
  | 1, 0x22 => some 520
  | 1, 0x23 => some 1900
  | _, _ => none

/-- The stages that a ROM program declares: first and last (R156). -/
def romStages (id : Nat) : Nat × Nat :=
  match id with
  | 0x20 => (96, 99)
  | 0x21 => (100, 107)
  | 0x22 => (108, 115)
  | 0x23 => (116, 127)
  | _ => (0, 63)

/-- The checked programs of an engine: start word, last word, length in cycles. -/
def checkedOf (s : State) (eng : Nat) : List (Nat × Nat × Nat) := if eng = 0 then s.b.ke0.checked else s.b.ke1.checked
def setChecked (eng : Nat) (l : List (Nat × Nat × Nat)) : Eff :=
  if eng = 0 then updKe0 fun k => { k with checked := l } else updKe1 fun k => { k with checked := l }

/-- The checked program with a start word. -/
def checkedAt (s : State) (eng start : Nat) : Option (Nat × Nat) :=
  ((checkedOf s eng).find? fun p => p.1 == start).map (·.2)

/-- The length of a selection, none when it names no ROM program and no checked start (R133). -/
def selLen (s : State) (eng : Nat) (rom : Bool) (id start : Nat) : Option Nat :=
  if rom then romLen eng id else (checkedAt s eng start).map (·.2)

/-- The stages that a selection declares; on KE0 with the exponent of their SHE (R155, R156). -/
def selDecl (s : State) (eng : Nat) (rom : Bool) (id start : Nat) : List (Nat × Nat × Int) :=
  if rom then
    let r := romStages id
    (List.range (r.2 + 1 - r.1)).map fun i =>
      (r.1 + i, 1 + Config.romStageLen id (r.1 + i) % kMax eng, signedOf 8 (Config.romStageExp id (r.1 + i)))
  else
    let c := kCheck s eng start none
    c.decl.map fun d => (d.1, d.2.1, if eng = 0 then tget d.2.2 c.she d.1 else d.2.2)

/-- The length of the selection of KE0 in force. One whose checked mark a write has cleared since its commit was accepted
has length 0 until it is checked again, and an entry of KE1 in the same case is skipped (DESIGN CHOICE, log entry 59). -/
def ke0Len (s : State) : Nat :=
  (selLen s 0 (s.curOn F.KE0_PROG_SRC) (s.cur F.KE0_PROG_ROM_ID) (s.cur F.KE0_PROG_START)).getD 0

/-- The length of an entry of KE1 whose fields `rd` reads, 0 when it is disabled (R163). -/
def entryLenOf (rd : Fld → Nat) (s : State) (k : Nat) : Nat :=
  if rd (F.KE1_ENTRY_EN k) ≠ 0 then
    (selLen s 1 (rd (F.KE1_ENTRY_SRC k) != 0) (rd (F.KE1_ENTRY_ROM_ID k)) (rd (F.KE1_ENTRY_START k))).getD 0
  else 0

/-- The length of an entry in force. -/
def entryLen (s : State) (k : Nat) : Nat := entryLenOf s.cur s k

/-- The slot length of entry 0 (R160). -/
def slotCycles (rd : Fld → Nat) (s : State) : Nat := 19 + entryLenOf rd s 0

/-- SLOT and M as last committed: of a group that waits, the values that will take effect (R160). -/
def slotCommitted (s : State) : Nat := slotCycles (if s.b.ke1.entPend.testBit 0 then s.pend else s.cur) s
def schedCommitted (s : State) : Nat := if groupWaits s .ke1Entry then s.pend F.KE1_SCHED_M else s.cur F.KE1_SCHED_M

/-- The stages that an entry in force declares. -/
def entryDecl (s : State) (k : Nat) : List (Nat × Nat × Int) :=
  if s.curOn (F.KE1_ENTRY_EN k) then
    selDecl s 1 (s.curOn (F.KE1_ENTRY_SRC k)) (s.cur (F.KE1_ENTRY_ROM_ID k)) (s.cur (F.KE1_ENTRY_START k))
  else []

/-- The stages that the enabled entries in force declare. -/
def entryStages (s : State) : List Nat := (List.range 9).flatMap fun k => (entryDecl s k).map (·.1)

/-- The stages of an engine after a program with declarations `d` takes effect, those of `sts` staying declared (R155). -/
def Core.adopt (c : Core) (sts : List Nat) (d : List (Nat × Nat × Int)) : Core := (c.only (sts ++ d.map (·.1))).take d

/-- An enabled entry in force runs a ROM program that declares a stage. -/
def romShares (s : State) (st : Nat) : Bool :=
  (List.range 9).any fun k => s.curOn (F.KE1_ENTRY_EN k) && s.curOn (F.KE1_ENTRY_SRC k) &&
    ((romStages (s.cur (F.KE1_ENTRY_ROM_ID k))).1 ≤ st && st ≤ (romStages (s.cur (F.KE1_ENTRY_ROM_ID k))).2)

/-- The start words of the store programs in force: that of KE0, which after reset is word 0, those of the enabled entries
(R131; DESIGN CHOICE, log entry 59). -/
def inForce (s : State) (eng : Nat) : List Nat :=
  if eng = 0 then (if s.curOn F.KE0_PROG_SRC then [] else [s.cur F.KE0_PROG_START])
  else ((List.range 9).filter fun k => s.curOn (F.KE1_ENTRY_EN k) && !s.curOn (F.KE1_ENTRY_SRC k)).map
    fun k => s.cur (F.KE1_ENTRY_START k)

/-- A word lies within a checked program that begins at a start word. -/
def within (p : Nat × Nat × Nat) (k : Nat) : Bool := p.1 ≤ k && k ≤ p.2.1

/-- Fields by engine. -/
def kPcopy (eng : Nat) : Fld := if eng = 0 then F.KE0_STATUS_PCOPY else F.KE1_STATUS_PCOPY
def kPbank (eng : Nat) : Fld := if eng = 0 then F.KE0_STATUS_PBANK else F.KE1_STATUS_PBANK
def kBusy (eng : Nat) : Fld := if eng = 0 then F.KE0_STATUS_CHK_BUSY else F.KE1_STATUS_CHK_BUSY
def kParamReject (eng : Nat) : Fld := if eng = 0 then F.KE0_STICKY_PARAM_REJECT else F.KE1_STICKY_PARAM_REJECT
def kProgWrReject (eng : Nat) : Fld := if eng = 0 then F.KE0_STICKY_PROG_WR_REJECT else F.KE1_STICKY_PROG_WR_REJECT

/-- The check in progress. -/
def checkOf (s : State) (eng : Nat) : Option CheckJob := if eng = 0 then s.b.ke0.check else s.b.ke1.check
def setCheck (eng : Nat) (c : Option CheckJob) : Eff :=
  if eng = 0 then updKe0 fun k => { k with check := c } else updKe1 fun k => { k with check := c }

/-- KEn_CMD.CHECK (R132): ignored while a check runs. -/
def kCheckStart (eng : Nat) : Prog := fun s =>
  if s.on (kBusy eng) then []
  else [.set (kBusy eng) 1,
    setCheck eng (some { start := if eng = 0 then s.get F.KE0_CHK_ADDR_ADDR else s.get F.KE1_CHK_ADDR_ADDR })]

/-- The result of a check is shown (R132, R138). -/
def kCheckShow (eng err at_ len : Nat) : List Eff :=
  (if eng = 0 then
    [.set F.KE0_PSTAT_VALID (bit (err == 0)), .set F.KE0_PSTAT_ERR err, .set F.KE0_PSTAT_ERR_ADDR at_]
    ++ effIf (err == 0) [.set F.KE0_PSTAT_LEN len]
    ++ effIf (err != 0) [.sticky F.KE0_STICKY_CHECK_FAIL, .led 0x4001 0 [err, at_]]
  else
    [.set F.KE1_PSTAT_VALID (bit (err == 0)), .set F.KE1_PSTAT_ERR err, .set F.KE1_PSTAT_ERR_ADDR at_]
    ++ effIf (err == 0) [.set F.KE1_PLEN_LEN len]
    ++ effIf (err != 0) [.sticky F.KE1_STICKY_CHECK_FAIL, .led 0x4401 0 [err, at_]])

/-- PROGRAM_WRITE: one half of a program word (R131, R132, R157). Of several words written during a check the first is the
one in error (DESIGN CHOICE, log entry 59). -/
def programWrite (eng k : Nat) (hi : Bool) (v : Nat) : Prog := fun s =>
  let prot := (checkedOf s eng).any fun p => within p k && (inForce s eng).contains p.1
  if progSize eng ≤ k then []
  else if prot then [.sticky (kProgWrReject eng)]
  else
    (match checkOf s eng with
      | some j =>
        let r := kCheck s eng j.start none
        effIf (j.dirty.isNone && j.start ≤ k && k ≤ r.last) [setCheck eng (some { j with dirty := some k })]
      | none => [])
    ++ [.mem (progBase eng + 2 * k + bit hi) v,
        setChecked eng ((checkedOf s eng).filter fun p => !within p k)]

/-! ### Parameter banks (R135) -/

/-- PARAMETER_WRITE: to the inactive bank, refused during a copy. -/
def parameterWrite (eng i v : Nat) : Prog := fun s =>
  if s.on (kPcopy eng) then [.sticky (kParamReject eng)]
  else effIf (i < kParams eng) [.mem (bankAddr eng (1 - activeBank s eng) + i) v]

/-- What the parameter window reads: the inactive bank, and the words already copied during a copy. -/
def parameterRead (s : State) (eng i : Nat) : Nat :=
  let at_ := if eng = 0 then s.b.ke0.copyAt else s.b.ke1.copyAt
  let a := activeBank s eng
  if s.on (kPcopy eng) && i < s.b.cyc - at_ then s.word (bankAddr eng a + i)
  else s.word (bankAddr eng (1 - a) + i)

/-- KEn_COMMIT bit 1. -/
def paramSwapCommit (eng : Nat) : Prog := fun s =>
  if s.on (kPcopy eng) then [.sticky (kParamReject eng)]
  else if eng = 0 then [updKe0 fun k => { k with swap := true }]
  else [updKe1 fun k => { k with swap := true }]

/-- A committed swap is made and the copy begins. -/
def kSwap (eng : Nat) : Prog := fun s =>
  let due := if eng = 0 then s.b.ke0.swap else s.b.ke1.swap
  effIf due
    [.set (kPbank eng) (1 - activeBank s eng), .set (kPcopy eng) 1,
     (if eng = 0 then updKe0 fun k => { k with swap := false, copyAt := s.b.cyc }
      else updKe1 fun k => { k with swap := false, copyAt := s.b.cyc })]

/-- What a run, a check, the output conversion, a bank copy or a host read has read with a single-bit error is corrected and
counted: how many words is a free value (R136, log entry 3). -/
def eccCount (eng : Nat) : Prog := fun s =>
  let n := fresh s 0 % 2 ^ 16
  [spend 1] ++
  (if n = 0 then []
   else if eng = 0 then [.inc F.KE0_ECC_CNT_N n, .sticky F.KE0_STICKY_ECC_CORR]
   else [.inc F.KE1_ECC_CNT_N n, .sticky F.KE1_STICKY_ECC_CORR])

/-- PARAM_COPY_DONE: the inactive bank holds the active one. -/
def paramCopyDone (eng : Nat) : Prog := fun s =>
  let a := activeBank s eng
  if s.on (kPcopy eng) then
    thenDo [.mems (bankAddr eng (1 - a)) (s.words (bankAddr eng a) (kParams eng)), .set (kPcopy eng) 0] (eccCount eng) s
  else []

/-! ### Engine states (R137) -/

/-- Each OSLOT of a stopped engine holds its safe value (R129). -/
def safeValues (eng : Nat) : Prog := fun s =>
  (List.range 128).map fun n =>
    if eng = 0 then .set (F.KE0_OSLOT_VAL n) (s.get (F.KE0_OSAFE_VAL n))
    else .set (F.KE1_OSLOT_VAL n) (s.get (F.KE1_SAFE_VAL n))

/-- The engine runs nothing: OFF, IDLE, FAULT. -/
def kStopped (k : Nat) : Bool := k == 0 || k == 3 || k == 4

/-- KE0 enters a state: the effects of leaving RUN (R175, R218), of FAULT (R137, R248) and of stopping (R129). -/
def ke0Set (k : Nat) : Prog := fun s =>
  let old := s.get F.KE0_STATUS_STATE
  if k == old then []
  else inOrder
    [ fun _ => [.set F.KE0_STATUS_STATE k]
        ++ effIf (k == 2 && s.b.ke0.fromOff) [updKe0 fun e => { e with core := e.core.zero, rom := { kept := { zero := true } }, fromOff := false }]
        ++ effIf (k == 0) [updKe0 fun e => { e with fromOff := true }]
        ++ effIf (kStopped k) [updKe0 fun e => { e with running := false }],
      onlyIf (fun _ => kStopped k) (safeValues 0),
      onlyIf (fun _ => old == 2) (inOrder [fpmDiscard, mptAbort 2]),
      onlyIf (fun _ => k == 4) (setSource 104 true),
      onlyIf (fun _ => old == 4) (setSource 104 false),
      guarUpdate, fpmStatus ] s

/-- KE1 enters a state. -/
def ke1Set (k : Nat) : Prog := fun s =>
  if k == s.get F.KE1_STATUS_STATE then []
  else inOrder
    [ fun _ => [.set F.KE1_STATUS_STATE k]
        ++ effIf (k == 2 && s.b.ke1.fromOff) [updKe1 fun e => { e with core := e.core.zero, rom := { kept := { zero := true } }, fromOff := false }]
        ++ effIf (k == 0) [updKe1 fun e => { e with fromOff := true }]
        ++ effIf (kStopped k)
            [updKe1 (fun e => { e with cls := 0, saved := none, round := 0, late := none,
                                       run1 := { e.run1 with out := [], set := [] },
                                       run2 := { e.run2 with out := [], set := [] } }),
             .set F.KE1_SCHED_STAT_C1_RUN 0, .set F.KE1_SCHED_STAT_C2_RUN 0, .set F.KE1_SCHED_STAT_C2_SUSP 0,
             .set F.KE1_SCHED_STAT_C2_ENTRY 0],
      onlyIf (fun _ => kStopped k) (safeValues 1),
      butFaultUpdate ] s

/-- ENGINE_FAULT: an uncorrectable memory error while the engine is in ARMED, RUN or IDLE (R136, R137). -/
def engineFault (eng mem addr : Nat) : Prog := fun s =>
  let st := if eng = 0 then s.get F.KE0_STATUS_STATE else s.get F.KE1_STATUS_STATE
  if !(st == 1 || st == 2 || st == 3) then []
  else if eng = 0 then
    thenDo [.set F.KE0_FAULT_INFO_MEM mem, .set F.KE0_FAULT_INFO_ADDR addr, .sticky F.KE0_STICKY_FAULT,
      .led 0x4003 0 [mem, addr]] (ke0Set 4) s
  else
    thenDo [.set F.KE1_FAULT_INFO_MEM mem, .set F.KE1_FAULT_INFO_ADDR addr, .sticky F.KE1_STICKY_FAULT,
      .led 0x4402 0 [mem, addr]] (ke1Set 4) s

/-- CHECK_DONE: `ecc` is a word with an uncorrectable memory error, if any (R132); a check that meets it while the engine
is in ARMED, RUN or IDLE puts it in FAULT (R136). -/
def kCheckDone (eng : Nat) (ecc : Option Nat) : Prog := fun s =>
  match checkOf s eng with
  | none => []
  | some j =>
    let r := kCheck s eng j.start ecc
    let err := if j.dirty.isSome then 9 else r.err
    let at_ := if j.dirty.isSome then j.dirty.getD 0 else r.errAt
    inOrder
      [ fun s => [.set (kBusy eng) 0, setCheck eng none] ++ kCheckShow eng err at_ r.cycles
          ++ effIf (err == 0)
              [setChecked eng (((checkedOf s eng).filter fun p => p.1 != j.start) ++ [(j.start, r.last, r.cycles)])],
        eccCount eng,
        onlyIf (fun _ => r.err == 8) (engineFault eng 0 r.errAt) ] s

/-- The control-period timer starts with ENABLE, and runs until reset (R130, R166). -/
def timerStart : List Eff := [updKe0 fun e => { e with timer := true }, .set F.FAD_STATUS_TIMER 1]

/-- A write of KE0_CTRL (R130, R166, R385, R492): a 1 is held before permission and under Buttress. -/
def ke0CtrlWrite (v : Nat) : Prog := fun s =>
  let on := v.testBit 0
  let was := s.on F.KE0_CTRL_ENABLE
  inOrder
    [ fun _ => [.set F.KE0_CTRL_COMMIT_PWM (bitsOf v 4 2), .set F.KE0_CTRL_COMMIT_BRK (bit (v.testBit 5))],
      if on && !was then
        if !s.on F.SYS_STATUS_PERMIT || s.on F.BUT_CTRL_ENABLE then
          fun _ => [.set F.KE0_STATUS_EN_HELD 1, updKe0 fun e => { e with held := true }]
        else thenDo (timerStart ++ [.set F.KE0_CTRL_ENABLE 1]) (ke0Set 1)
      else if !on && was then thenDo [.set F.KE0_CTRL_ENABLE 0] (ke0Set 0)
      else if !on && s.b.ke0.held then fun _ => [.set F.KE0_STATUS_EN_HELD 0, updKe0 fun e => { e with held := false }]
      else fun _ => [] ] s

/-- The CLK_FAB edges since the Ridgeline epoch: seconds × 156,250,000 + ⌊ns / 6.4⌋; one second is a whole number of them
(R385). -/
def ridgeTicks (s : State) : Nat := s.b.tim.t / tuFab

/-- An aligned instant lies 102.4 ns, 16 edges, ahead (R385). -/
def alignedAhead (s : State) : Bool :=
  s.on F.TIM_STATUS_VALID && ridgeTicks s % 16 == 0 && (ridgeTicks s + 16) % s.cur F.KE0_PERIOD_TICKS == 0

/-- HELD_ENABLE_RELEASE: the held enable takes effect at its instant: at a CLK_CONV edge after permission, and under
Buttress 102.4 ns before an aligned instant (R385, R492). -/
def heldRelease : Prog := fun s =>
  if s.b.ke0.held && s.on F.SYS_STATUS_PERMIT && (!s.on F.BUT_CTRL_ENABLE || alignedAhead s) then
    thenDo (timerStart ++ [.set F.KE0_STATUS_EN_HELD 0, updKe0 (fun e => { e with held := false }),
      .set F.KE0_CTRL_ENABLE 1]) (ke0Set 1) s
  else []

/-- A write of KE1_CTRL (R137). -/
def ke1CtrlWrite (v : Nat) : Prog := fun s =>
  let on := v.testBit 0
  if on == s.on F.KE1_CTRL_ENABLE then []
  else thenDo [.set F.KE1_CTRL_ENABLE (bit on)] (ke1Set (if on then 1 else 0)) s

/-! ### Commits (R15, R133, R155, R160) -/

/-- The class-1 slot does not fit M control periods (R160). -/
def slotTooLong (m slot ticks : Nat) : Bool := m != 0 && decide (m * 2 * ticks < slot)

/-- KE0_COMMIT bit 0. A range or timing failure sets TIMING_REJECT, also when the program is unchecked as well; the Length
recorded is then 0 (log entry 59). -/
def ke0TimingCommit : Prog := noted (.page 0x20000 0) fun s =>
  let ticks := s.get F.KE0_PERIOD_TICKS
  let w := s.get F.KE0_WPHASE_W
  let len := selLen s 0 (s.on F.KE0_PROG_SRC) (s.get F.KE0_PROG_ROM_ID) (s.get F.KE0_PROG_START)
  let range := decide (800 ≤ ticks ∧ ticks ≤ 32768) && decide (256 ≤ w ∧ w ≤ 8000)
  let late := decide (2 * ticks ≤ w) || slotTooLong (schedCommitted s) (slotCommitted s) ticks
  if !range || late || len.any (w < · + 192) then
    [.sticky F.KE0_STICKY_TIMING_REJECT, .led 0x4002 0 [w, len.getD 0]]
  else if len.isNone then [.sticky F.KE0_STICKY_PROG_REJECT]
  else takeGroup .ke0Timing 0x20040 0x2004C

/-- The timing group comes into force at a sample instant (R130, R134, R155). -/
def ke0Adopt : Prog := fun s =>
  if groupDue s .ke0Timing then inOrder
    [ fun _ => adoptGroup .ke0Timing 0x20040 0x2004C,
      fun s =>
        let d := selDecl s 0 (s.curOn F.KE0_PROG_SRC) (s.cur F.KE0_PROG_ROM_ID) (s.cur F.KE0_PROG_START)
        [.set F.KE0_STATUS_LEN (ke0Len s),
         updKe0 fun e => { e with core := e.core.adopt [] d, rom := if e.core.adopt [] d = e.core then e.rom else {} }],
      fun s =>
        let st := s.get F.KE0_STATUS_STATE
        if st = 2 ∨ st = 3 then ke0Set (if s.get F.KE0_STATUS_LEN = 0 then 3 else 2) s else [],
      guarUpdate ] s
  else []

/-- Two enabled entries of the shadows declare one stage differently (R155). -/
def entryConflict (s : State) : Bool :=
  let d := (((List.range 9).filter fun k => s.on (F.KE1_ENTRY_EN k)).flatMap fun k =>
    selDecl s 1 (s.on (F.KE1_ENTRY_SRC k)) (s.get (F.KE1_ENTRY_ROM_ID k)) (s.get (F.KE1_ENTRY_START k)))
  d.any fun x => d.any fun y => x.1 == y.1 && x.2 != y.2

/-- KE1_COMMIT bit 0. -/
def ke1EntryCommit : Prog := noted (.page 0x30000 0) fun s =>
  let len (k : Nat) : Option Nat :=
    selLen s 1 (s.on (F.KE1_ENTRY_SRC k)) (s.get (F.KE1_ENTRY_ROM_ID k)) (s.get (F.KE1_ENTRY_START k))
  let bad := (List.range 9).any fun k => s.on (F.KE1_ENTRY_EN k) && (len k).isNone
  let m := s.get F.KE1_SCHED_M
  let ticks := if groupWaits s .ke0Timing then s.pend F.KE0_PERIOD_TICKS else s.cur F.KE0_PERIOD_TICKS
  if bad || 64 < m || slotTooLong m (slotCycles s.get s) ticks || entryConflict s then
    [.sticky F.KE1_STICKY_PROG_REJECT]
  else takeGroup .ke1Entry 0x30040 0x30064 ++ [.take (keyAt 0x30080) (keyAt 0x30084),
    updKe1 fun e => { e with entPend := 511 }]

/-- SLOT shows the slot length; one that its 16 bits cannot hold is shown as a free value (log entry 3). -/
def slotShow : Prog := fun s =>
  let n := slotCycles s.cur s
  [.set F.KE1_SCHED_STAT_SLOT (if n < 2 ^ 16 then n else fresh s 0), spend 1]

/-- A committed entry takes effect at the start of its next run: the stages that its program declares take their
declarations, those of the other entries stay (KE1 registers, R155, R160). What a ROM program kept in a stage that changes
is not known any more (log entry 37). -/
def entryAdopt (k : Nat) : Prog := fun s =>
  if s.b.ke1.entPend.testBit k && !s.b.commitNow.contains .ke1Entry then inOrder
    [ fun _ => [.adopt (keyAt (0x30040 + 4 * k)) (keyAt (0x30044 + 4 * k)),
                updKe1 fun e => { e with entPend := clearBit e.entPend k }],
      fun s =>
        let d := entryDecl s k
        let sts := entryStages s
        [updKe1 fun e => { e with core := e.core.adopt sts d, rom := if e.core.adopt sts d = e.core then e.rom else {} }],
      onlyIf (fun _ => k == 0) slotShow ] s
  else []

/-! ### Runs of KE1 (R158 to R164) -/

/-- The first word of a program behind its stage descriptors. -/
def firstExec (s : State) (eng : Nat) : Nat → Nat → Nat
  | 0, a => a
  | fuel + 1, a => if bitsOf (progWord s eng a) 63 58 = 0x3F then firstExec s eng fuel (a + 1) else a

/-- What a run of entry `k` that starts now latches, and where it starts (R126, R130, R162). -/
def ke1Latch (s : State) (k : Nat) : Ke1Run :=
  { copy := (List.range 256).map fun n => s.get (F.KE0_ISLOT_VAL n), feed := s.b.ke0.feed,
    next := if s.curOn (F.KE1_ENTRY_SRC k) then 0 else firstExec s 1 (progSize 1) (s.cur (F.KE1_ENTRY_START k))
    cyc := s.b.cyc }

/-- A class-2 entry starts: parameter swap, latch, accumulators and predicates cleared. -/
def c2Run (k : Nat) : Prog := inOrder
  [ kSwap 1,
    fun s => [.set F.KE1_SCHED_STAT_C2_RUN 1, .set F.KE1_SCHED_STAT_C2_ENTRY k,
              updKe1 fun e => { e with cls := 2, run2 := ke1Latch s k, core := e.core.fresh }] ]

/-- The first entry of a list that runs is started, each taking effect before it is looked at. -/
def c2First : List Nat → Prog
  | [] => fun _ => []
  | k :: ks => (entryAdopt k).andThen fun s => if entryLen s k = 0 then c2First ks s else c2Run k s

/-- Class 2 starts when KE1 is free and no entry is suspended (R163). -/
def c2Start : Prog := fun s =>
  if s.get F.KE1_STATUS_STATE == 2 && s.b.ke1.cls == 0 && s.b.ke1.saved.isNone then
    thenDo [updKe1 fun e => { e with round := 0, late := none }] (c2First [1, 2, 3, 4, 5, 6, 7, 8]) s
  else []

/-- A round is complete: its length, the longest, and C2_LATE with its record (R164). -/
def roundDone : Prog := fun s =>
  let n := min s.b.ke1.round (2 ^ 32 - 1)
  [.set F.KE1_C2_ROUND_N n, .set F.KE1_C2_RMAX_N (max n (s.get F.KE1_C2_RMAX_N))]
  ++ (match s.b.ke1.late with
      | some k => [.led 0x4410 0 [s.b.ke1.round * 2 / 625, k]]
      | none => [])
  ++ [updKe1 fun e => { e with round := 0, late := none }]

/-- The next entry after `k` runs; past entry 8 the round is complete (R163). -/
def c2Next (k : Nat) : Prog := fun s =>
  let later := ((List.range 9).filter fun j => k < j)
  inOrder
    [ fun _ => [.set F.KE1_SCHED_STAT_C2_RUN 0, updKe1 fun e => { e with cls := 0 }],
      c2First later,
      onlyIf (fun s => s.b.ke1.cls == 0) (inOrder [roundDone, c2First ((List.range 9).filter fun j => 1 ≤ j)]) ] s

/-- KE1 has an entry to run. -/
def ke1Work (s : State) : Bool := (List.range 9).any fun k => entryLen s k != 0

/-- The class-1 slot opens: class 2 is suspended and entry 0 starts (R158, R159, R162). -/
def slotOpen : Prog := fun s =>
  let e := s.b.ke1
  if !(s.get F.KE1_STATUS_STATE == 2 && e.cls != 1 && entryLen s 0 != 0) then []
  else inOrder
    [ fun _ => effIf (e.cls == 2)
        [updKe1 (fun e => { e with saved := some (e.core.acc, e.core.pr) }),
         .set F.KE1_SCHED_STAT_C2_RUN 0, .set F.KE1_SCHED_STAT_C2_SUSP 1],
      kSwap 1,
      fun s => [.set F.KE1_SCHED_STAT_C1_RUN 1,
                updKe1 fun e => { e with cls := 1, run1 := ke1Latch s 0, core := e.core.fresh, slotAge := 0 }] ] s

/-- KE1 at a sample instant, with what Buttress does when the slot opens (R395): the divider, PHASE, the slot, ARMED, and class 2 (R137, R158, R163). -/
def ke1Sample (atSlot : Prog) : Prog := fun s =>
  let waits := groupDue s .ke1Entry
  let changed := waits && s.pend F.KE1_SCHED_M != s.cur F.KE1_SCHED_M
  let m := if waits then s.pend F.KE1_SCHED_M else s.cur F.KE1_SCHED_M
  let ph := if changed || m = 0 then 0 else (s.get F.KE1_SCHED_STAT_PHASE + 1) % m
  let opens := m != 0 && ph == 0
  let st := s.get F.KE1_STATUS_STATE
  inOrder
    [ fun _ => effIf waits (adoptGroup .ke1Entry 0x30080 0x30084) ++ [.set F.KE1_SCHED_STAT_PHASE ph],
      onlyIf (fun _ => st != 2) (inOrder ((List.range 9).map entryAdopt)),
      onlyIf (fun _ => opens) (entryAdopt 0),
      fun s => if (st = 1 && (opens || m = 0)) || (st = 2 && s.b.ke1.cls == 0) || st = 3 then
          ke1Set (if ke1Work s then 2 else 3) s else [],
      onlyIf (fun _ => opens) (atSlot.andThen slotOpen),
      c2Start ] s

/-- Set-points reach KE0 at a sample instant, with the age of the slot that θ_vsm is of; those of a stopped KE1 are its
safe values (R16, R129, R190). A run that completed in the CLK_FAB cycle of the instant completed after it. -/
def setpoints : Prog := fun s =>
  let e := s.b.ke1
  let due (r : SetRun) : Bool := r.at' != s.b.cyc
  let words := (e.setNew.filter due).flatMap (·.words)
  let older : List Eff :=
    [updKe0 fun k => { k with age := ((e.setNew.filter due).foldl
       (fun a r => if r.words.any (·.1 == 0x41) then r.age else a) k.age) + 1 },
     updKe1 fun k => { k with setNew := (k.setNew.filter (!due ·)).map fun r => { r with age := r.age + 1 }
                              slotAge := k.slotAge + 1 }]
  if kStopped (s.get F.KE1_STATUS_STATE) then
    thenDo older (writeSlots ((List.range 64).map fun i => (0x40 + i, s.get (F.KE1_SAFE_VAL (128 + i))))) s
  else thenDo older (writeSlots words) s

/-- KE0 at a sample instant: the committed timing group and bank take effect, set-points swap, ARMED is left, and
the status slots 0xFA to 0xFC are written (R130, R135, R137, R170). -/
def ke0Sample : Prog := inOrder
  [ ke0Adopt, kSwap 0, setpoints,
    fun s => if s.get F.KE0_STATUS_STATE = 1 then ke0Set (if s.get F.KE0_STATUS_LEN = 0 then 3 else 2) s else [],
    fun s => writeSlots [(0xFA, flagSlot (s.on F.TIM_STATUS_VALID)), (0xFB, flagSlot (s.on F.CLK_STATUS_HOLDOVER)),
                         (0xFC, flagSlot (s.on F.SYS_GUAR_TIME_INVALID)), (0xFD, 0), (0xFE, 0), (0xFF, 0)] s ]

/-- KE0_START: the class-0 run begins at CLK_ENG cycle 160 (R124, R130). -/
def ke0Start : Prog := fun s =>
  effIf (ke0Run s && s.b.ke0.timer && !s.b.ke0.running)
    [updKe0 (fun e => { e with running := true, satRun := 0, core := e.core.fresh,
                               rom := if s.curOn F.KE0_PROG_SRC then e.rom else {},
                               next := if s.curOn F.KE0_PROG_SRC then 0
                                 else firstExec s 0 (progSize 0) (s.cur F.KE0_PROG_START) }),
     updFpm fun m => { m with ch := m.ch.map fun q => { q with fresh := none } }]

/-- END of the class-0 run: predictions become pending and masked saturations act (R171, R180). -/
def ke0End : Prog := fun s =>
  if !s.b.ke0.running then []
  else thenDo ([updKe0 fun e => { e with running := false, satLast := e.satRun }] ++ fpmRunEnd)
    (fpmSatEvent s.b.ke0.satRun) s

/-- Class 2 takes up its saved accumulators and predicates, or a round starts (R159, R163). -/
def ke1AfterC1 (saved : Option (List (Nat × Int × Int) × List Nat)) : Prog :=
  match saved with
  | some sv => fun _ =>
    [.set F.KE1_SCHED_STAT_C1_RUN 0, .set F.KE1_SCHED_STAT_C2_SUSP 0, .set F.KE1_SCHED_STAT_C2_RUN 1,
     updKe1 fun e => { e with cls := 2, saved := none, core := { e.core with acc := sv.1, pr := sv.2 } }]
  | none => thenDo [.set F.KE1_SCHED_STAT_C1_RUN 0, updKe1 fun e => { e with cls := 0 }] c2Start

/-- END of a KE1 run: set-points and outputs are complete, `deliver` takes each of OSLOT 0x80 to 0xAF to its
block, and class 2 resumes or goes on (R16, R127, R159, R163). -/
def ke1End (deliver : Nat → Nat → Prog) : Prog := fun s =>
  let e := s.b.ke1
  let r := ke1Run s
  if e.cls = 0 then []
  else inOrder
    ([ fun s => [updKe1 fun e => { e with setNew := e.setNew ++ [{ at' := s.b.cyc, age := e.slotAge, words := r.set }] }] ]
      ++ r.out.map (fun p => deliver p.1 p.2)
      ++ [ if e.cls = 1 then ke1AfterC1 e.saved
           else c2Next (s.get F.KE1_SCHED_STAT_C2_ENTRY) ]) s

/-- KE1_CMD.RMAX_CLR (R164). -/
def rmaxClr : Prog := fun _ => [.set F.KE1_C2_RMAX_N 0]

/-! ### Instructions -/

/-- The entry that runs on KE1. -/
def kEntry (s : State) : Nat := if s.b.ke1.cls = 1 then 0 else s.get F.KE1_SCHED_STAT_C2_ENTRY

/-- The ROM program in force that the engine's run is of, if it is of one. -/
def kRom (s : State) (eng : Nat) : Option Nat :=
  if eng = 0 then (if s.curOn F.KE0_PROG_SRC then some (s.cur F.KE0_PROG_ROM_ID) else none)
  else if s.curOn (F.KE1_ENTRY_SRC (kEntry s)) then some (s.cur (F.KE1_ENTRY_ROM_ID (kEntry s))) else none

/-- A run of a program of the store is in progress on the engine: its instructions come as commands. What a ROM
program does comes with its END (log entry 37). -/
def kRuns (s : State) (eng : Nat) : Bool :=
  (if eng = 0 then s.b.ke0.running && ke0Run s else s.b.ke1.cls != 0 && s.get F.KE1_STATUS_STATE == 2)
    && (kRom s eng).isNone

/-- CLK_ENG cycles count into the running class-2 round, which may pass its limit (R164). -/
def roundAdd (eng cycles : Nat) : Prog := fun s =>
  let n := s.b.ke1.round + cycles
  let us := s.get F.KE1_C2_LIMIT_US
  if eng = 0 ∨ ¬(s.b.ke1.cls = 2 ∨ s.b.ke1.saved.isSome) then []
  else [updKe1 fun e => { e with round := n }]
    ++ effIf (us != 0 && us * 625 < n * 2 && s.b.ke1.late.isNone)
        (raise s F.KE1_SCHED_STICKY_C2_LATE 1 ++ [updKe1 fun e => { e with late := some (kEntry s) }])

/-- The cycles of an instruction count into the running class-2 round. -/
def kSpend (eng : Nat) (k : KWord) : Prog := fun s => roundAdd eng (wordCycles (coreOf s eng).stLen k) s

/-- An INTEG of KE1 reached a limit of its stage (R122, R138). -/
def clampFlags (st : Nat) : Prog := fun s =>
  raiseBit s (F.KE1_CLAMPFLAGS_STAGE (st / 32)) (st % 32) ++ [.sticky F.KE1_STICKY_CLAMP]
    ++ effIf (!(s.get (F.KE1_CLAMPFLAGS_STAGE (st / 32))).testBit (st % 32)) [.led 0x4404 0 [st, kEntry s]]

/-- The flags and records of a stage that was limited or clamped (R120 to R123, R138). -/
def kFlags (eng st : Nat) (limited clamped : Bool) : Prog := fun s =>
  if eng = 0 then
    let f := if st < 32 then F.KE0_SATFLAGS0_STAGE else F.KE0_SATFLAGS1_STAGE
    effIf limited
      (raiseBit s f (st % 32) ++ [.sticky F.KE0_STICKY_SAT, updKe0 fun e => { e with satRun := withBit e.satRun st }]
        ++ effIf (!(s.get f).testBit (st % 32)) [.led 0x4004 0 [st, unsignedOf 32 ((coreOf s 0).stExp st)]])
  else
    effIf clamped (clampFlags st s)
    ++ effIf limited
      [.sticky F.KE1_STICKY_EXP_OVF, .set F.KE1_EXP_STAGE_STAGE st, .led 0x4403 0 [st, kEntry s]]

/-- The word that the engine's run executes next: the words of a program run in order from its start word to END (R130). -/
def kNext (s : State) (eng : Nat) : Nat := progWord s eng (if eng = 0 then s.b.ke0.next else (ke1Run s).next)

/-- The run goes on to the next word. -/
def kOn (eng : Nat) : Prog := fun s =>
  [if eng = 0 then updKe0 fun e => { e with next := e.next + 1 }
   else if s.b.ke1.cls = 1 then updKe1 fun e => { e with run1 := { e.run1 with next := e.run1.next + 1 } }
   else updKe1 fun e => { e with run2 := { e.run2 with next := e.run2.next + 1 } }]

/-- The engine's run has come to END: its next word is END, or it is of a ROM program, whose words are not known. -/
def kAtEnd (s : State) (eng : Nat) : Bool := (kRom s eng).isSome || bitsOf (kNext s eng) 63 58 == 1

/-- An instruction of a run: the word is the next one of the program, of the opcode, and passes the check on the engine
(R130, R132, R141). -/
def kInstr (op eng w : Nat) (p : KWord → Prog) : Prog := fun s =>
  let k := kWord w
  if kRuns s eng && kNext s eng == w && k.op == op && wordErr eng (coreOf s eng).stLen w == 0 then
    inOrder [kSpend eng k, kOn eng, if k.n = 0 then fun _ => [] else p k] s
  else []

/-- An instruction that writes its destination stage. -/
def kStage (op eng w : Nat) (f : State → Nat → KWord → KRes) : Prog :=
  kInstr op eng w fun k s =>
    let r := f s eng k
    thenDo (setCore eng r.core :: effIf (eng == 1 && romShares s k.dst) [updKe1 fun e => { e with rom := {} }])
      (kFlags eng k.dst r.limited r.clamped) s

/-- A result of one operand, or of two, at each position. -/
def kUn (g : Val → Val) (s : State) (eng : Nat) (k : KWord) : KRes :=
  kPut eng (coreOf s eng) k fun i => g (aVal s eng k i)
def kBin (g : Val → Val → Val) (s : State) (eng : Nat) (k : KWord) : KRes :=
  kPut eng (coreOf s eng) k fun i => g (aVal s eng k i) (bVal s eng k i)

/-- STS: an engine's slot is written (R125, R127, R147). -/
def storeSlot (eng : Nat) (osl : Bool) (n w : Nat) : Prog := fun s =>
  if eng = 0 then [.set (F.KE0_OSLOT_VAL n) w]
  else
    let add (r : Ke1Run) : Ke1Run :=
      if osl then (if n < 0xB0 then { r with out := tput r.out n w } else r) else { r with set := tput r.set n w }
    let two := s.b.ke1.cls == 2
    effIf osl [.set (F.KE1_OSLOT_VAL (n - 0x80)) w]
    ++ [updKe1 fun e => { e with run1 := if two then e.run1 else add e.run1,
                                 run2 := if two then add e.run2 else e.run2,
                                 setOwn := if osl then e.setOwn else e.setOwn.set (n - 0x40) w }]

def kSts (eng w : Nat) : Prog := kInstr 0x05 eng w fun k s =>
  inOrder ((kWords s eng k).map fun p =>
    storeSlot eng ((opAddr k.b).testBit 8) (opAddr k.b % 256 + p.1) p.2) s

/-- FLAG (R153): 0 to 31 urgent lines, 32 to 47 trip sources, 48 to 63 event bits of the engine. -/
def kFlag (eng w : Nat) : Prog := kInstr 0x02 eng w fun k s =>
  if !passes (coreOf s eng) k k.doff then []
  else if k.dst < 32 then (if s.curOn (F.FAD_URG_CFG_FLAG_EN k.dst) then urgentRaise k.dst s else [])
  else if k.dst < 48 then pulseSource (80 + k.dst - 32) s
  else if eng = 0 then raiseBit s F.FPM_KE0_EVT_FLAG (k.dst - 48)
  else raiseBit s F.KE1_EVT_FLAG (k.dst - 48)

/-- EXPECT (R153, R171). -/
def kExpect (eng w : Nat) : Prog := kInstr 0x24 eng w fun k s =>
  (kWords s eng k).map fun p => updFpmCh (k.dst + p.1) fun q => { q with fresh := some p.2 }

/-- SHE: without effect at run time on KE0 (R123). -/
def kSheStep (eng w : Nat) : Prog := fun s =>
  if eng = 0 then kInstr 0x15 0 w (fun _ _ => []) s
  else kStage 0x15 eng w (fun s e k => kShe (coreOf s e) k) s

/-! ### The output copy (R128, R129, R176) -/

/-- An output in 100 ps units, rounded and clamped, and whether it was clamped. -/
def outTicks (w : Nat) : Nat × Bool :=
  let x := roundRat (slotVal w)
  ((clampInt 0 4194303 x).toNat, decide (x < 0) || decide (4194303 < x))

/-- The outputs as they stand are converted. -/
def convert : Prog := fun s =>
  let xs := (List.range 98).map fun n => outTicks (s.get (F.KE0_OSLOT_VAL n))
  [updKe0 fun e => { e with conv := xs.map (·.1) }] ++ effIf (xs.any (·.2)) [.sticky F.KE0_STICKY_OUT_RANGE]

/-- OUTPUT_CONVERSION, from cycle W − 32. What it reads of a slot file may be corrected, also in ARMED and IDLE (R136). -/
def outputConversion : Prog := onlyIf (fun s => s.b.ke0.timer)
  (convert.andThen (onlyIf (fun s => s.get F.KE0_STATUS_STATE != 0) (eccCount 0)))

/-- One compare register takes its value, with what a shadow write commits (R128, R239, R240). -/
def copyOne (n v : Nat) : Prog :=
  let p := n / 2
  thenDo [.set (if n % 2 = 0 then F.PAIR_CMPA_C p else F.PAIR_CMPB_C p) v] (shadowWritten p (2 + n % 2))

/-- KE0 runs no program: OFF, IDLE or FAULT. -/
def ke0Stops (s : State) : Bool := kStopped (s.get F.KE0_STATUS_STATE)

/-- The shadow write at W, of the outputs as converted: held slots keep the values of the previous one (R176), but a stopped
KE0 shows its safe values in every slot; pairs that `own` names keep their values; then the selected groups are committed,
OSLOT 0x70 to 0x7F become the set that KE1 sees, and ISLOT 0xF6 is written (R126, R128, R170). -/
def shadowCopy (own : Nat → Bool) : Prog := fun s =>
  let e := s.b.ke0
  let held := if ke0Stops s then [] else (List.range 128).filter (fpmHolds s)
  inOrder
    ([ fun _ => held.map fun n => .set (F.KE0_OSLOT_VAL n) (e.prev.getD n 0) ]
      ++ ((List.range 98).filter fun n => !own (n / 2)).map (fun n =>
            copyOne n (if held.contains n then (outTicks (e.prev.getD n 0)).1 else e.conv.getD n 0))
      ++ (List.range 3).map (fun g => onlyIf (fun s => (s.get F.KE0_CTRL_COMMIT_PWM).testBit g) (pwmCommit g))
      ++ [ onlyIf (fun s => s.on F.KE0_CTRL_COMMIT_BRK) (commitPair 31 48),
           fun s =>
             let all := (List.range 128).map fun n => s.get (F.KE0_OSLOT_VAL n)
             [updKe0 fun e => { e with prev := all, feed := all.drop 0x70 }],
           writeSlot 0xF6 (intSlot ((List.range 64).filter fun k => e.satLast.testBit k).length) false ]) s

/-- SHADOW_WRITE: a KE0 that has stopped since the conversion carries its safe values too (R129, R166, R167). -/
def shadowWrite (own : Nat → Bool) : Prog := onlyIf (fun s => s.b.ke0.timer)
  ((onlyIf ke0Stops convert).andThen (shadowCopy own))

/-! ### Meanings -/

def execKe0Start (s : State) : Result := run (onMain ke0Start) s
def execOutputConversion (s : State) : Result := run (onMain outputConversion) s
def execNop (eng : Fin 2) (w : BitVec 64) (s : State) : Result :=
  run (onMain (kInstr 0 eng w.toNat fun _ _ => [])) s
def execFlag (eng : Fin 2) (w : BitVec 64) (s : State) : Result := run (onMain (kFlag eng w.toNat)) s
def execLds (eng : Fin 2) (w : BitVec 64) (s : State) : Result := run (onMain (kStage 0x04 eng w.toNat (kUn id))) s
def execSts (eng : Fin 2) (w : BitVec 64) (s : State) : Result := run (onMain (kSts eng w.toNat)) s
def execMac (eng : Fin 2) (w : BitVec 64) (s : State) : Result :=
  run (onMain (kStage 0x08 eng w.toNat fun s e k => kMac s e k false)) s
def execMul (eng : Fin 2) (w : BitVec 64) (s : State) : Result :=
  run (onMain (kStage 0x09 eng w.toNat fun s e k => kMac s e k true)) s
def execAdd (eng : Fin 2) (w : BitVec 64) (s : State) : Result := run (onMain (kStage 0x0A eng w.toNat (kBin vAdd))) s
def execSub (eng : Fin 2) (w : BitVec 64) (s : State) : Result := run (onMain (kStage 0x0B eng w.toNat (kBin vSub))) s
def execNeg (eng : Fin 2) (w : BitVec 64) (s : State) : Result := run (onMain (kStage 0x0C eng w.toNat (kUn vNeg))) s
def execAbs (eng : Fin 2) (w : BitVec 64) (s : State) : Result :=
  run (onMain (kStage 0x0D eng w.toNat (kUn fun v => ((v.1.natAbs : Nat), v.2)))) s
def execSat (eng : Fin 2) (w : BitVec 64) (s : State) : Result := run (onMain (kStage 0x10 eng w.toNat kSat)) s
def execClamp (eng : Fin 2) (w : BitVec 64) (s : State) : Result := run (onMain (kStage 0x11 eng w.toNat kClamp)) s
def execInteg (eng : Fin 2) (w : BitVec 64) (s : State) : Result := run (onMain (kStage 0x12 eng w.toNat kInteg)) s
def execNorm (eng : Fin 2) (w : BitVec 64) (s : State) : Result :=
  run (onMain (kStage 0x14 eng w.toNat fun s e k => kNorm (coreOf s e) k)) s
def execShe (eng : Fin 2) (w : BitVec 64) (s : State) : Result := run (onMain (kSheStep eng w.toNat)) s
def execTrig (eng : Fin 2) (w : BitVec 64) (s : State) : Result := run (onMain (kStage 0x18 eng w.toNat kTrig)) s
def execClk3 (eng : Fin 2) (w : BitVec 64) (s : State) : Result := run (onMain (kStage 0x19 eng w.toNat kClk3)) s
def execPark (eng : Fin 2) (w : BitVec 64) (s : State) : Result :=
  run (onMain (kStage 0x1A eng w.toNat fun s e k => kPark s e k false)) s
def execIpark (eng : Fin 2) (w : BitVec 64) (s : State) : Result :=
  run (onMain (kStage 0x1B eng w.toNat fun s e k => kPark s e k true)) s
def execCmp (eng : Fin 2) (w : BitVec 64) (s : State) : Result := run (onMain (kStage 0x1C eng w.toNat kCmp)) s
def execSel (eng : Fin 2) (w : BitVec 64) (s : State) : Result := run (onMain (kStage 0x1D eng w.toNat kSel)) s
def execRcp (eng : Fin 2) (w : BitVec 64) (s : State) : Result :=
  run (onMain (kStage 0x20 eng w.toNat fun s e k => kRecip s e k false)) s
def execRsq (eng : Fin 2) (w : BitVec 64) (s : State) : Result :=
  run (onMain (kStage 0x21 eng w.toNat fun s e k => kRecip s e k true)) s
def execExpect (eng : Fin 2) (w : BitVec 64) (s : State) : Result := run (onMain (kExpect eng w.toNat)) s
def execKe0CtrlWrite (v : Word) (s : State) : Result := run (onMain (ke0CtrlWrite v.toNat)) s
def execKe1CtrlWrite (v : Word) (s : State) : Result := run (onMain (ke1CtrlWrite v.toNat)) s
def execCheck (eng : Fin 2) (s : State) : Result := run (onMain (kCheckStart eng)) s
def execCheckDone (eng : Fin 2) (ecc : Option (BitVec 12)) (s : State) : Result :=
  run (onMain (kCheckDone eng (ecc.map (·.toNat)))) s
def execProgramWrite (eng : Fin 2) (k : BitVec 12) (hi : Bool) (v : Word) (s : State) : Result :=
  run (onMain (programWrite eng k.toNat hi v.toNat)) s
def execParameterWrite (eng : Fin 2) (i : BitVec 12) (v : Word) (s : State) : Result :=
  run (onMain (parameterWrite eng i.toNat v.toNat)) s
def execParamCopyDone (eng : Fin 2) (s : State) : Result := run (onMain (paramCopyDone eng)) s
def execKe0TimingCommit (s : State) : Result := run (onMain ke0TimingCommit) s
def execKe0ParamSwap (s : State) : Result := run (onMain (paramSwapCommit 0)) s
def execKe1EntryCommit (s : State) : Result := run (onMain ke1EntryCommit) s
def execKe1ParamSwap (s : State) : Result := run (onMain (paramSwapCommit 1)) s
def execRmaxClr (s : State) : Result := run (onMain rmaxClr) s
def execEngineFault (eng : Fin 2) (mem : Fin 4) (addr : BitVec 16) (s : State) : Result :=
  run (onMain (engineFault eng mem addr.toNat)) s
def execHeldEnableRelease (s : State) : Result := run (onMain heldRelease) s

end Sys2Proof.Machine
end

