-- ==== Sys2Proof/Machine/Mpt.lean ====
section
/-! DEFINITION. The maximum-power sequencer (R209, R210, R214 to R218) and the islanding decision (R219 to
R222, R226, R227). -/

namespace Sys2Proof.Machine

/-! ### Rounds and scans -/

/-- The round ends when no input is left. -/
def roundEnd : Prog := fun s =>
  effIf (s.on F.MPT_STATUS_ROUND && s.b.mpt.scan.isNone && s.b.mpt.todo.isEmpty) [.set F.MPT_STATUS_ROUND 0]

/-- The device stands by under Buttress: it starts no scan (R395). -/
def standsBy (s : State) : Bool := s.get F.BUT_STATUS_STATE != 0 && s.get F.BUT_STATUS_STATE != 3

/-- Milliseconds as coarse ticks. -/
def msTick (ms : Nat) : Nat := ms * 156250

/-- POINTS as the next scan has it: a committed scan group takes effect at its start (R214). -/
def nextPoints (s : State) : Nat :=
  if groupWaits s .mptScan then s.pend F.MPT_SCAN_CFG_POINTS else s.cur F.MPT_SCAN_CFG_POINTS

/-- A round begins (R215); with POINTS 0 it completes without scanning. -/
def roundStart : Prog := fun s =>
  if !s.on F.MPT_CTRL_ENABLE || s.on F.MPT_STATUS_ROUND || standsBy s then []
  else thenDo
    [.set F.MPT_STATUS_ROUND 1,
     updMpt fun m => { m with
       roundT := some 0
       todo := if nextPoints s = 0 then []
               else (List.finRange 12).filter fun j => (s.get F.MPT_SCAN_EN_IN).testBit j }]
    roundEnd s

/-- SCAN_ROUND_START: INTERVAL_S seconds of control periods have passed since the previous round began. -/
def periodicRound : Prog := fun s =>
  let n := s.get F.MPT_SCAN_ROUND_INTERVAL_S
  if n = 0 || s.b.mpt.roundT.any (· < msTick (1000 * n)) then [] else roundStart s

/-- MPT writes input slots at a sample instant; a class-1 run whose slot has opened at that instant sees them (R209). -/
def writeBeforeLatch (l : List (Nat × Nat)) : Prog := fun s =>
  thenDo
    (effIf (s.b.ke1.cls == 1 && s.b.ke1.run1.cyc == s.b.cyc)
      [updKe1 fun e => { e with run1 := { e.run1 with copy := l.foldl (fun c p => c.set p.1 p.2) e.run1.copy } }])
    (writeSlots l) s

/-- SCAN_START: the next input's scan starts at a sample instant, GAP_MS after the W with which the previous one ended, with
the committed scan group (R214 to R216). -/
def scanStart : Prog := onlyIf
  (fun s => atSample s && s.on F.MPT_STATUS_ROUND && s.b.mpt.scan.isNone && s.b.mpt.giveBack.isNone
    && s.get F.GRD_STATUS_STATE == 0 && !standsBy s
    && !s.b.mpt.gapT.any fun x : Int => decide (x < (2 * msTick (s.get F.MPT_SCAN_ROUND_GAP_MS) : Nat)))
  (inOrder
    [ fun s => effIf (groupDue s .mptScan) (adoptGroup .mptScan 0x73044 0x73058),
      fun s =>
        match s.b.mpt.todo with
        | [] => []
        | j :: rest =>
          if s.cur F.MPT_SCAN_CFG_POINTS = 0 then thenDo [updMpt fun m => { m with todo := [] }] roundEnd s
          else thenDo
            [updMpt (fun m => { m with
               todo := rest, curve := [],
               scan := some { input := j, cfg := forceWord s (pairBase (36 + j)), per := s.cur (F.PAIR_PER_TICKS (36 + j)) } }),
             .set F.MPT_STATUS_SCANNING 1, .set F.MPT_STATUS_SCAN_IN j, .set (F.PAIR_STAT_MPT_OWN (36 + j)) 1]
            (writeBeforeLatch [(0x9C, intSlot j)]) s ])

/-- The input slots of voltage and current of an input (R184, R208). -/
def voltSlot (j : Nat) : Nat := 4 * j + 2
def currSlot (j : Nat) : Nat := if j < 6 then 4 * j + 1 else 4 * (j + 2) + 1

/-- A sample instant ends a period of the point in progress; its last AVG periods are summed (R216 step 4). A point that has
had its DWELL periods waits for its SCAN_POINT. -/
def scanTick : Prog := fun s =>
  match s.b.mpt.scan with
  | none => []
  | some q =>
    let d := q.dwell + 1
    let last := s.cur F.MPT_SCAN_CFG_DWELL < d + s.cur F.MPT_SCAN_CFG_AVG
    if q.finished || decide (s.cur F.MPT_SCAN_CFG_DWELL ≤ q.dwell) then []
    else [updMpt fun m => { m with
      scan := some { q with
        dwell := d
        sumV := if last then q.sumV + slotVal (s.get (F.KE0_ISLOT_VAL (voltSlot q.input))) else q.sumV
        sumI := if last then q.sumI + slotVal (s.get (F.KE0_ISLOT_VAL (currSlot q.input))) else q.sumI } }]

/-- SCAN_POINT: a point's dwell ends at a sample instant (R216 step 4, R217). -/
def scanPoint : Prog := fun s =>
  match s.b.mpt.scan with
  | none => []
  | some q =>
    let v := q.sumV / s.cur F.MPT_SCAN_CFG_AVG
    let i := q.sumI / s.cur F.MPT_SCAN_CFG_AVG
    let early := decide (v < s.cur F.MPT_SCAN_LIM_VMIN) || decide ((s.cur F.MPT_SCAN_LIM_IMAX : Rat) < i)
    if q.finished || !atSample s || q.dwell != s.cur F.MPT_SCAN_CFG_DWELL then []
    else
      [updMpt fun m => { m with
        curve := m.curve ++ [(slotOf 11 v, slotOf (slotE (s.get (F.KE0_ISLOT_VAL (currSlot q.input)))) i)]
        scan := some { q with point := q.point + 1, dwell := 0, sumV := 0, sumI := 0
                              finished := early || q.point + 1 == s.cur F.MPT_SCAN_CFG_POINTS } }]
      ++ effIf early [.sticky F.MPT_STICKY_SCAN_END_EARLY]

/-- The better of two points: the higher power, of equal powers the higher voltage (R216 step 5). -/
def betterPoint (a b : Nat × Nat) : Nat × Nat :=
  let pa := slotVal a.1 * slotVal a.2
  let pb := slotVal b.1 * slotVal b.2
  if pa < pb ∨ (pa = pb ∧ slotVal a.1 < slotVal b.1) then b else a

/-- The completion code of ISLOT 0x9D (R209). -/
def scanCode (cnt j : Nat) : Nat := intSlot (16 * (cnt % 16) + j : Nat)

/-- The completion code as it stands. -/
def lastCode (s : State) : Nat :=
  if s.get F.MPT_CURVE_IN_IN = 0xF then 0 else scanCode (s.get F.MPT_SCAN_CNT_N) (s.get F.MPT_CURVE_IN_IN)

/-- SCAN_DONE, at a sample instant (R216 step 5): the pair returns at the next W. -/
def scanDone : Prog := fun s =>
  match s.b.mpt.scan, s.b.mpt.curve with
  | some q, p :: ps =>
    if !(q.finished && atSample s) then []
    else
      let best := ps.foldl betterPoint p
      let cnt := (s.get F.MPT_SCAN_CNT_N + 1) % 2 ^ 32
      thenDo
        ([.set (F.MPT_VGMP_V q.input) best.1, .set (F.MPT_PGMP_P q.input) (slotFit (slotVal best.1 * slotVal best.2)),
          .set F.MPT_SCAN_CNT_N cnt, .set F.MPT_CURVE_IN_IN q.input,
          .set F.MPT_STATUS_SCANNING 0, .set F.MPT_STATUS_SCAN_IN 0xF,
          .sticky F.MPT_STICKY_SCAN_DONE, .led 0x4840 0 [q.input, unsignedOf 32 (roundRat (slotVal best.1))],
          updMpt (fun m => { m with scan := none, curve := [], giveBack := some q })]
          ++ (List.range 64).flatMap fun k =>
              [.set (F.MPT_CURVE_V_V k) ((p :: ps).getD k (0, 0)).1, .set (F.MPT_CURVE_I_I k) ((p :: ps).getD k (0, 0)).2])
        (inOrder
          [ writeBeforeLatch [(0x90 + q.input, best.1), (0x9D, scanCode cnt q.input), (0x9C, intSlot (-1))], roundEnd ]) s
  | _, _ => []

/-- The period of point `k` in coarse ticks: the frequencies rise in equal steps (R216 step 3). -/
def pointPeriod (s : State) (k : Nat) : Nat :=
  let ps : Rat := s.cur F.MPT_SCAN_PER_PSTART
  let pe : Rat := s.cur F.MPT_SCAN_PER_PEND
  (roundRat (1 / (1 / ps + k * (1 / pe - 1 / ps) / (s.cur F.MPT_SCAN_CFG_POINTS - 1 : Nat)))).toNat

/-- At W, before the output copy: MPT writes and commits the pair it owns, at W of a point's first period, and the pair of an ended scan has the mode and
the period from before the scan again (R216 steps 2, 3 and 6, R246). -/
def mptAtW : Prog := inOrder
  [ fun s =>
      match s.b.mpt.giveBack with
      | none => []
      | some q => thenDo [.set (F.PAIR_STAT_MPT_OWN (36 + q.input)) 0, .set (F.PAIR_PER_TICKS (36 + q.input)) q.per]
          (writeFields (pairBase (36 + q.input)) q.cfg) s,
    fun s =>
      match s.b.mpt.scan with
      | none => []
      | some q =>
        let p := 36 + q.input
        if q.finished || q.dwell != 0 then []
        else thenDo
          [.set (F.PAIR_CFG_MODE p) 2, .set (F.PAIR_CFG_TERM_TYPE p) 0, .set (F.PAIR_PER_TICKS p) (pointPeriod s q.point),
           .set (F.PAIR_CMPA_C p) (64 * s.cur F.MPT_SCAN_TON_TICKS), .set (F.PAIR_CMPB_C p) 0]
          (commitPair 31 p) s ]

/-- At W, after the output copy: the pair of an ended scan, with KE0's compare values, is committed whatever COMMIT_PWM
holds (R216 step 6, R246). -/
def mptBack : Prog := fun s =>
  match s.b.mpt.giveBack with
  | none => []
  | some q => thenDo [updMpt fun m => { m with giveBack := none, gapT := some (-(s.cur F.KE0_WPHASE_W : Int)) }]
    (commitPair 15 (36 + q.input)) s

/-- The pairs whose compare values the output copy takes from MPT. -/
def mptOwns (s : State) (p : Nat) : Bool := s.b.mpt.scan.any fun q => p == 36 + q.input

/-- MPT_CMD.ABORT (R218). -/
def mptAbortCmd : Prog := fun s =>
  if s.b.mpt.scan.isSome then inOrder [mptAbort 4, roundEnd] s
  else thenDo [updMpt fun m => { m with todo := [] }] roundEnd s

/-! ### Islanding -/

/-- Active injection is on (R222). -/
def injecting (s : State) : Bool :=
  s.on F.MPT_CTRL_ENABLE
    && (s.cur F.MPT_ISL_CTRL_ACT_MODE == 2 || (s.cur F.MPT_ISL_CTRL_ACT_MODE == 1 && !s.on F.MPT_STATUS_PC_VALID))

/-- The methods enabled, by bit of MPT_ISL_SRC. -/
def methods (s : State) : Nat :=
  s.cur F.MPT_ISL_CTRL_PC_EN + 2 * s.cur F.MPT_ISL_CTRL_PCF_EN + 4 * s.cur F.MPT_ISL_CTRL_ROCOF_EN
    + 8 * s.cur F.MPT_ISL_CTRL_VS_EN + (if injecting s then 48 * s.cur F.MPT_ISL_CTRL_ACT_EN else 0)

/-- A record of the running control period gains bits in its parameter 0. -/
def Ldg.amend (l : Ldg) (code m : Nat) : Ldg :=
  let on (b : List LedgerRec) : List LedgerRec :=
    match b.reverse.findIdx? (·.code == code) with
    | some i => b.modify (b.length - 1 - i) fun r => { r with p0 := r.p0 ||| m }
    | none => b
  if l.hold.any (·.code == code) then { l with hold := on l.hold } else { l with buf := on l.buf }

/-- The control period of a CLK_FAB cycle is the running one. -/
def thisPeriod (s : State) (c : Nat) : Bool := !s.b.fad.trigAt.any (c < ·)

/-- Methods indicate an island: the decision latches, or gains a bit; those of one control period share the record, which
gains the bit where it still waits (R219, log entry 43). -/
def indicate (m : Nat) : Prog := fun s =>
  let new := m &&& methods s
  let src := s.get F.MPT_ISL_SRC_M ||| new
  if new = 0 ∨ s.on F.MPT_CTRL_ENABLE = false then []
  else if s.on F.MPT_STATUS_ISLAND then raise s F.MPT_ISL_SRC_M new
    ++ effIf (thisPeriod s s.b.mpt.latchedAt) [.upd fun b => { b with ldg := b.ldg.amend 0x4842 new }]
  else inOrder
    [ fun s => [.set F.MPT_STATUS_ISLAND 1, .sticky F.MPT_STICKY_ISLAND] ++ raise s F.MPT_ISL_SRC_M new
        ++ [updMpt (fun q => { q with latchedAt := s.b.cyc }), .led 0x4842 0 [src, unsignedOf 32 (deciDeg s.b.mpt.drift)]],
      writeSlots [(0x9E, 0), (0x9F, 0)],
      onlyIf (fun s => s.curOn F.MPT_ISL_CTRL_TRIP_EN) (setSource 106 true),
      crnEvent 3, mptAbort 5 ] s

/-- What a method indicates now changes. -/
def indicates (bitNo : Nat) (on : Bool) : Prog := fun s =>
  thenDo [updMpt fun m => { m with indicating := (if on then withBit else clearBit) m.indicating bitNo }]
    (onlyIf (fun _ => on) (indicate (2 ^ bitNo))) s

/-- A slot's signed fraction of a hertz beyond a limit in 1/1024 Hz. -/
def hertzBeyond (f : Rat) (lim : Nat) : Bool := decide ((lim : Rat) / 1024 < f ∨ f < -((lim : Rat) / 1024))

/-- A frame and a reference of one timestamp that wait for each other (R220). -/
def mptPair (s : State) : Option ((Nat × Nat × Nat) × (Nat × Nat × Nat)) :=
  s.b.mpt.frames.findSome? fun a => (s.b.mpt.refs.find? (·.1 == a.1)).map fun r => (a, r)

/-- The baseline that a frame is compared with, and whether B has been learned: the first frame of a learning time sets B,
unless the decision is latched (R220, R221, log entry 43). -/
def baseFor (s : State) (dphi : Int) : Int × Bool :=
  if s.b.mpt.baseSet || s.on F.MPT_STATUS_ISLAND then (s.b.mpt.base, s.b.mpt.baseSet) else (dphi * 2 ^ 40, true)

/-- An angle in 2^-64 π rad wrapped into [−π, π), and in 2^-24 π rad. -/
def wrapFine (a : Int) : Int := (a + 2 ^ 64) % 2 ^ 65 - 2 ^ 64
def coarse (a : Int) : Int := wrapAngle (roundDiv a (2 ^ 40))

/-- The baseline after a frame whose drift is `d`, both in 2^-64 π rad: it follows as a first-order average while the drift
is below half the threshold and nothing is latched (R220). -/
def baseNext (s : State) (base d : Int) : Int :=
  let n := s.cur F.PHS_RATE_FS * s.cur F.MPT_ISL_PC2_TAU
  if s.on F.MPT_STATUS_ISLAND || !decide (d.natAbs * 7200 < s.cur F.MPT_ISL_PC_ANG_THR * 33554432 * 2 ^ 40) then base
  else wrapFine (base + (if n = 0 then d else roundDiv d n))

/-- A frame of the set is compared with the reference of the same timestamp: drift, baseline and the counts of N
(R219 to R221). -/
def mptCompare : Prog := fun s =>
  match mptPair s with
  | none => []
  | some (a, r) =>
    let m := s.b.mpt
    let dphi := wrapAngle (angleFrac (slotVal a.2.1) - angleFrac (slotVal r.2.1))
    let base := baseFor s dphi
    let fine := wrapFine (dphi * 2 ^ 40 - base.1)
    let drift := coarse fine
    let next := baseNext s base.1 fine
    let valid := s.on F.MPT_STATUS_PC_VALID
    let nA := if valid && beyond drift (s.cur F.MPT_ISL_PC_ANG_THR) then m.nAng + 1 else 0
    let nF := if valid && hertzBeyond (slotVal a.2.2 - slotVal r.2.2) (s.cur F.MPT_ISL_PC_F_THR) then m.nFreq + 1 else 0
    if s.on F.SYS_GUAR_TIME_INVALID || !s.on F.TIM_STATUS_VALID || !s.on F.MPT_CTRL_ENABLE then []
    else
      [updMpt (fun m => { m with base := next, baseSet := base.2, drift := drift, nAng := nA, nFreq := nF }),
       .set F.MPT_ISL_BASE_B (angleSlot (coarse next)), .set F.MPT_ISL_DRIFT_D (angleSlot drift)]

/-- The ROCOF method takes a frame of its set (R225). -/
def mptRocof (e : PhasorEst) : Prog := fun s =>
  let r := slotVal e.rocof
  let lim : Rat := (s.cur F.MPT_ISL_ROCOF_THR : Rat) / 256
  effIf (s.on F.MPT_CTRL_ENABLE)
    [updMpt fun m => { m with nRocof := if lim < r ∨ r < -lim then m.nRocof + 1 else 0 }]

/-- The methods of a frame are judged together: those that have just been counted (R219). -/
def mptJudge (phasor rocof : Bool) : Prog := fun s =>
  let m := s.b.mpt
  let pc := s.cur F.MPT_ISL_PC_N
  let on : Nat := bit (phasor && decide (pc ≤ m.nAng)) + 2 * bit (phasor && decide (pc ≤ m.nFreq))
    + 4 * bit (rocof && decide (s.cur F.MPT_ISL_ROCOF_N ≤ m.nRocof))
  let judged : Nat := 3 * bit phasor + 4 * bit rocof
  thenDo [updMpt fun m => { m with indicating := clearMask m.indicating judged ||| on }] (indicate on) s

/-- The compared pair has gone; frames and references older than REF_AGE are skipped (R220). -/
def mptPrune (t : Option Nat) : Prog := fun s =>
  let keep (a : Nat × Nat × Nat) : Bool :=
    some a.1 != t && decide (s.b.tim.t / tuNs ≤ a.1 + s.cur F.MPT_ISL_PC2_REF_AGE * 1000000)
  [updMpt fun m => { m with frames := m.frames.filter keep, refs := m.refs.filter keep }]

/-- A frame or a reference has come: the pair of one timestamp, if there is one now, is compared; `e` is the new frame's
estimate for the ROCOF method (R219, R220, R225). -/
def mptArrived (e : Option PhasorEst) : Prog := inOrder
  [ mptPrune none,
    fun s =>
      let pair := mptPair s
      let counts := s.on F.MPT_CTRL_ENABLE
      inOrder
        [ mptCompare, (match e with | some e => mptRocof e | none => fun _ => []),
          mptJudge (counts && pair.isSome && s.on F.MPT_STATUS_PC_VALID && !s.on F.SYS_GUAR_TIME_INVALID
            && s.on F.TIM_STATUS_VALID) (counts && e.isSome),
          mptPrune (pair.map (·.1.1)) ] s ]

/-- A frame of the set named in MPT_ISL_CTRL.SET (R220). -/
def mptFrame (t : Nat) (e : PhasorEst) : Prog := fun s =>
  if e.set ≠ s.cur F.MPT_ISL_CTRL_SET then []
  else thenDo [updMpt fun m => { m with frames := m.frames ++ [(t / tuNs, e.ang, e.f)] }] (mptArrived (some e)) s

/-- A reference has been taken (R220). -/
def mptRef (r : PhasorRef) : Prog :=
  thenDo [updMpt fun m => { m with refs := m.refs ++ [(r.t / tuNs, r.ang, r.f)] }] (mptArrived none)

/-- A phase jump is recorded: the method indicates when it reaches the threshold (R225). -/
def mptVector (jump : Int) : Prog := fun s =>
  if s.cur F.MPT_ISL_VS_THR * 33554432 ≤ jump.natAbs * 3600 then indicate 8 s else []

/-- The conditions of PC_VALID; what fails: none, time, reference age (R221). -/
def pcFails (s : State) : Option Nat :=
  if s.on F.SYS_GUAR_TIME_INVALID || !s.on F.TIM_STATUS_VALID then some 0
  else if !refWithin s (s.cur F.MPT_ISL_PC2_REF_AGE) then some 1
  else none

/-- PC_VALID: the conditions have held for LEARN seconds. -/
def pcValid : Prog := fun s =>
  effIf (s.on F.MPT_CTRL_ENABLE && !s.on F.MPT_STATUS_PC_VALID && pcFails s == none && s.b.mpt.baseSet
      && s.b.mpt.pcT.any (msTick (1000 * s.cur F.MPT_ISL_PC2_LEARN) ≤ ·))
    [.set F.MPT_STATUS_PC_VALID 1, .led 0x4845 0 [unsignedOf 32 (deciDeg (coarse s.b.mpt.base)), 0]]

/-- PC_VALID is lost at the first sample instant at which a condition fails; learning starts anew, as it does while MPT is
disabled and learns nothing (R221). -/
def pcTick : Prog := fun s =>
  match pcFails s with
  | none =>
    if s.on F.MPT_CTRL_ENABLE then [updMpt fun m => { m with pcT := some (m.pcT.elim 0 (· + s.cur F.KE0_PERIOD_TICKS)) }]
    else effIf (!s.on F.MPT_STATUS_PC_VALID) [updMpt fun m => { m with pcT := none, baseSet := false }]
  | some c =>
    [updMpt (fun m => { m with pcT := none, baseSet := false, nAng := 0, nFreq := 0, indicating := m.indicating &&& 0x3C })]
    ++ effIf (s.on F.MPT_STATUS_PC_VALID)
        [.set F.MPT_STATUS_PC_VALID 0, .sticky F.MPT_STICKY_PC_LOST, .led 0x4844 0 [c, 0]]

/-- f_sel minus the nominal frequency of the terminal. -/
def selDeviation (s : State) : Rat :=
  slotVal (s.get F.GRD_FREQ_F) - (if s.on F.GRD_FNOM_F60 then 60 else 50)

/-- ACTIVE_FREQUENCY_TIMER: f_sel has stayed beyond ACTF.F for T_MS (R219). -/
def activeFrequency : Prog := fun s =>
  if hertzBeyond (selDeviation s) (s.cur F.MPT_ISL_ACTF_F) && injecting s
      && s.b.mpt.actfT.any (msTick (s.cur F.MPT_ISL_ACTF_T_MS) ≤ ·) then indicates 5 true s else []

/-- INJECTION_PULSE: a pulse starts when REP_MS have passed since the last one started, and ends when it has lasted ON_MS;
REP_MS, ON_MS or AMP of 0 means no pulse (R9, R222). -/
def injectionPulse (start : Bool) : Prog := fun s =>
  let rep := s.cur F.MPT_ISL_INJ_REP_MS
  let on := s.cur F.MPT_ISL_INJ_ON_MS
  if start then
    effIf (injecting s && rep != 0 && on != 0 && s.cur F.MPT_ISL_AMP_I != 0 && !s.b.mpt.pulseT.any (· < msTick rep))
      [updMpt fun m => { m with pulse := true, pulseT := some 0 }]
  else effIf (s.b.mpt.pulse && s.b.mpt.pulseT.any (msTick on ≤ ·)) [updMpt fun m => { m with pulse := false }]

/-- What the page writes to ISLOT 0x90 to 0x9F (R209, R222). -/
def mptSlots (s : State) : List (Nat × Nat) :=
  let out := injecting s && !s.on F.MPT_STATUS_ISLAND
  if s.on F.MPT_CTRL_ENABLE then
    (List.range 12).map (fun j => (0x90 + j, s.get (F.MPT_VGMP_V j)))
      ++ [(0x9C, if s.on F.MPT_STATUS_SCANNING then intSlot (s.get F.MPT_STATUS_SCAN_IN) else intSlot (-1)),
          (0x9D, lastCode s),
          (0x9E, if out then s.b.mpt.bias else 0),
          (0x9F, if out && s.b.mpt.pulse then slotOf 1 ((s.cur F.MPT_ISL_AMP_I : Rat) / 4096) else 0)]
  else (List.range 16).map fun k => (0x90 + k, if k = 12 then intSlot (-1) else 0)

/-- The times that run on control periods: the coarse ticks of the period that has passed are added (R215, R219, R222). -/
def mptTimes : Prog := fun s =>
  let d := s.cur F.KE0_PERIOD_TICKS
  let past := hertzBeyond (selDeviation s) (s.cur F.MPT_ISL_ACTF_F)
  [updMpt fun m => { m with
    roundT := m.roundT.map (· + d)
    gapT := m.gapT.map (· + (2 * d : Nat))
    pulseT := if injecting s then m.pulseT.map (· + d) else none
    pulse := m.pulse && injecting s
    actfT := if past then some (m.actfT.elim 0 (· + d)) else none }]

/-- MPT at a sample instant: the committed island group, PC_VALID, the scan's period, injection, and ISLOT 0x90 to
0x9F (R209, R221, R222, R227). -/
def mptSample : Prog := inOrder
  [ fun s => effIf (groupDue s .mptIsland)
      (adoptGroup .mptIsland 0x7305C 0x7307C
        ++ [updMpt fun m => { m with
              nAng := 0, nFreq := 0, nRocof := 0, indicating := m.indicating &&& 0x38
              frames := if s.cur F.MPT_ISL_CTRL_SET = s.pend F.MPT_ISL_CTRL_SET then m.frames else [] }]),
    pcTick, mptTimes, scanTick, roundEnd,
    fun s => if !hertzBeyond (selDeviation s) (s.cur F.MPT_ISL_ACTF_F) then indicates 5 false s else [],
    fun s => [.set F.MPT_STATUS_ACT_ON (bit (injecting s))],
    fun s => writeSlots (mptSlots s) s ]

/-- OSLOT 0xA0 to 0xAF at the END of a KE1 run (R210). -/
def mptDeliver (n w : Nat) : Prog := fun s =>
  if n < 0xAC then [.set (F.MPT_VOP_V (n - 0xA0)) w]
  else if n = 0xAC then
    if injecting s then indicates 4 (decide (slotVal w = 1)) s
    else [updMpt fun m => { m with indicating := clearBit m.indicating 4 }]
  else if n = 0xAD then [.set F.MPT_ISL_Z_Z w]
  else if n = 0xAE then [updMpt fun m => { m with bias := w }]
  else []

/-- The monitor compares ISLOT 0x9C as an abort of this cycle has written it (R171, R218). -/
def mptSlotDue : Prog := onlyIf (fun s => s.b.mpt.slotDue)
  (fun s => thenDo [updMpt fun m => { m with slotDue := false }] (writeSlot 0x9C (s.get (F.KE0_ISLOT_VAL 0x9C)) false) s)

/-- MPT_CMD.ISL_CLEAR (R226). -/
def islClear : Prog := fun s =>
  if s.b.mpt.indicating &&& methods s != 0 then [.sticky F.MPT_STICKY_ISL_CLR_REJECT]
  else if !s.on F.MPT_STATUS_ISLAND then []
  else thenDo [.set F.MPT_STATUS_ISLAND 0, .led 0x4843 0 [cycUs (s.b.cyc - s.b.mpt.latchedAt) / 1000, 0]]
    (setSource 106 false) s

/-- MPT_CTRL_WRITE: with ENABLE clear the slots read 0, and 0x9C −1 (R209, R218). -/
def mptCtrlWrite (v : Nat) : Prog := fun s =>
  thenDo [.set F.MPT_CTRL_ENABLE (bitsOf v 0 0)]
    (onlyIf (fun _ => !v.testBit 0)
      (inOrder [ mptAbort 3,
                 fun _ => [updMpt (fun m => { m with
                             todo := [], pulse := false, indicating := 0, nAng := 0, nFreq := 0, nRocof := 0 }), .set F.MPT_STATUS_ROUND 0,
                           .set F.MPT_STATUS_ACT_ON 0],
                 fun s => writeSlots (mptSlots s) s ])) s

/-- A commit is refused at a register offset. -/
def mptReject (off : Nat) : List Eff := [.sticky F.MPT_STICKY_CFG_REJECT, .led 0x4846 0 [off, 0]]

/-- The offset of the register that refuses a commit of the scan group (R214). -/
def scanFault (s : State) : Option Nat :=
  let pts := s.get F.MPT_SCAN_CFG_POINTS
  let avg := s.get F.MPT_SCAN_CFG_AVG
  let dwell := s.get F.MPT_SCAN_CFG_DWELL
  let ps := s.get F.MPT_SCAN_PER_PSTART
  let pe := s.get F.MPT_SCAN_PER_PEND
  let ticks := s.cur F.KE0_PERIOD_TICKS
  if pts = 1 ∨ 64 < pts ∨ avg = 0 ∨ dwell ≤ avg then some 0x44
  else if ps ≤ pe ∨ pe ≤ s.get F.MPT_SCAN_TON_TICKS + 64 ∨ avg * ticks < ps then some 0x50
  else if s.get F.MPT_SCAN_LIM_IMAX = 0 then some 0x54
  else if 3125000 < pts * dwell * ticks then some 0x44
  else none

/-- MPT_COMMIT bit 0. -/
def scanCommit : Prog := noted (.page 0x73000 0) fun s =>
  match scanFault s with
  | some off => mptReject off
  | none => takeGroup .mptScan 0x73044 0x73058

/-- The offset of the register that refuses a commit of the island group (R227). -/
def islandFault (s : State) : Option Nat :=
  let on f := s.get f != 0
  let zero f := s.get f == 0
  if s.get F.MPT_ISL_CTRL_ACT_MODE = 3 then some 0x5C
  else if (on F.MPT_ISL_CTRL_PC_EN && (zero F.MPT_ISL_PC_ANG_THR || zero F.MPT_ISL_PC_N))
      || (on F.MPT_ISL_CTRL_PCF_EN && (zero F.MPT_ISL_PC_F_THR || zero F.MPT_ISL_PC_N)) then some 0x60
  else if on F.MPT_ISL_CTRL_ROCOF_EN && (zero F.MPT_ISL_ROCOF_THR || zero F.MPT_ISL_ROCOF_N) then some 0x68
  else if on F.MPT_ISL_CTRL_VS_EN && zero F.MPT_ISL_VS_THR then some 0x6C
  else if on F.MPT_ISL_CTRL_ACT_EN && (zero F.MPT_ISL_ACTF_F || zero F.MPT_ISL_ACTF_T_MS) then some 0x70
  else none

/-- MPT_COMMIT bit 1. -/
def islandCommit : Prog := noted (.page 0x73000 1) fun s =>
  match islandFault s with
  | some off => mptReject off
  | none => takeGroup .mptIsland 0x7305C 0x7307C

def execScanRoundStart (s : State) : Result := run (onMain periodicRound) s
def execScanNow (s : State) : Result := run (onMain roundStart) s
def execScanStart (s : State) : Result := run (onMain scanStart) s
def execScanPoint (s : State) : Result := run (onMain scanPoint) s
def execScanDone (s : State) : Result := run (onMain scanDone) s
def execMptAbort (s : State) : Result := run (onMain mptAbortCmd) s
def execIslClear (s : State) : Result := run (onMain islClear) s
def execMptCtrlWrite (v : Word) (s : State) : Result := run (onMain (mptCtrlWrite v.toNat)) s
def execMptScanCommit (s : State) : Result := run (onMain scanCommit) s
def execMptIslandCommit (s : State) : Result := run (onMain islandCommit) s
def execPcValid (s : State) : Result := run (onMain pcValid) s
def execInjectionPulse (start : Bool) (s : State) : Result := run (onMain (injectionPulse start)) s
def execActiveFrequencyTimer (s : State) : Result := run (onMain activeFrequency) s

end Sys2Proof.Machine
end

