-- ==== Sys2Proof/Machine/Grd.lean ====
section
/-! DEFINITION. The ride-through supervisor: estimator, profile tables, states, the grid angle, phase jumps
(R186, R187, R193 to R207). -/

namespace Sys2Proof.Machine

/-- States of GRD_STATUS.STATE (R200). -/
def grdNormal : Nat := 0
def grdRide : Nat := 1
def grdCease : Nat := 2
def grdRecover : Nat := 3
def grdTripped : Nat := 4

/-! ### Profiles (R198, R199) -/

/-- A table entry: T_LIM, LEVEL in pu or Hz, ACT, SIDE. -/
structure GridEntry where
  tlim : Nat
  level : Rat
  act : Bool
  upper : Bool

/-- An entry from its word; `den` is the denominator of LEVEL. -/
def GridEntry.ofWord (den w : Nat) : GridEntry :=
  ⟨bitsOf w 31 16, (bitsOf w 15 4 : Rat) / den, w.testBit 1, w.testBit 0⟩

/-- The Category III preset: voltage and frequency entries (R199). -/
def preset3V : List GridEntry :=
  [⟨0xFFFF, 88 / 100, false, false⟩, ⟨2100, 70 / 100, false, false⟩, ⟨200, 50 / 100, true, false⟩,
   ⟨1300, 110 / 100, true, true⟩, ⟨16, 120 / 100, true, true⟩]
def preset3F : List GridEntry :=
  [⟨30000, 15 / 10, false, false⟩, ⟨16, 35 / 10, false, false⟩, ⟨30000, 12 / 10, false, true⟩,
   ⟨16, 2, false, true⟩]

/-- The unused entry. -/
def noEntry : GridEntry := ⟨0, 0, false, false⟩

/-- Entry `k` of the profile in force: 0 to 31 voltage, 32 to 63 frequency. -/
def gridEntry (s : State) (k : Nat) : GridEntry :=
  let den := if k < 32 then 2048 else 256
  match s.cur F.GRD_PROF_CAT with
  | 0 => .ofWord den (if k < 32 then s.cur (F.GRD_UVT_ENTRY k) else s.cur (F.GRD_UFT_ENTRY (k - 32)))
  | 3 => if k < 32 then preset3V.getD k noEntry else preset3F.getD (k - 32) noEntry
  | c => .ofWord den (Config.romProfile c k)

/-- The nominal frequency of the terminal. -/
def grdNom (s : State) : Nat := if s.on F.GRD_FNOM_F60 then 60 else 50

/-- Periods in the window of half a nominal cycle (R196). -/
def grdWindow (s : State) : Nat :=
  (roundDiv 156250000 (2 * grdNom s * s.cur F.KE0_PERIOD_TICKS)).toNat

/-- The mean squares of the phases over the window. -/
def meanSquares (h : List (Nat × Nat × Nat × Int)) : List Rat :=
  let ms (g : Nat × Nat × Nat × Int → Nat) : Rat := (h.foldl (fun n x => n + slotVal (g x) * slotVal (g x)) 0) / h.length
  [ms (·.1), ms (·.2.1), ms (·.2.2.1)]

/-- The lowest and the highest of three values. -/
def lowest (l : List Rat) : Rat := l.foldl (fun a b => if b < a then b else a) (l.headD 0)
def highest (l : List Rat) : Rat := l.foldl (fun a b => if a < b then b else a) (l.headD 0)

/-- The square root of a value as a slot word with e = 1, rounded to nearest. -/
def rootSlot (x : Rat) : Nat :=
  slotWord (min 8388607 ((Nat.sqrt (x * 4 * 17592186044416).floor.toNat + 1) / 2)) 1

/-- Whether an entry is active: once active it stays so until its quantity has returned past LEVEL by the
hysteresis (R198). Voltages are compared by their squares, each with the sign of its root. -/
def entryActive (e : GridEntry) (was isV : Bool) (hyst nom vn lo hi f : Rat) : Bool :=
  let d := if was then hyst else 0
  let sq (x : Rat) := if x < 0 then -((x * vn) * (x * vn)) else (x * vn) * (x * vn)
  if e.tlim = 0 then false
  else if isV then
    if e.upper then (if was then decide (sq (e.level - d) ≤ hi) else decide (sq e.level < hi))
    else (if was then decide (lo ≤ sq (e.level + d)) else decide (lo < sq e.level))
  else
    if e.upper then (if was then decide (nom + e.level - d ≤ f) else decide (nom + e.level < f))
    else (if was then decide (f ≤ nom - e.level + d) else decide (f < nom - e.level))

/-- The entries active now, by bit. -/
def activeEntries (s : State) (lo hi f : Rat) : Nat :=
  (List.range 64).foldl (fun n k =>
    if entryActive (gridEntry s k) (s.b.grd.active.testBit k) (decide (k < 32))
        (if k < 32 then (s.cur F.GRD_HYST_V : Rat) / 4096 else (s.cur F.GRD_HYST_F : Rat) / 1024)
        (grdNom s) (slotVal (s.get F.GRD_VNOM_V)) lo hi f
    then withBit n k else n) 0

/-- An active entry with an action. -/
def anyActive (s : State) (act : Bool) : Bool :=
  (List.range 64).any fun k => s.b.grd.active.testBit k && (gridEntry s k).act == act

/-- One entry is more severe than another: cessation first, then the shorter T_LIM (log entry 26). -/
def severer (s : State) (a b : Nat) : Bool :=
  let x := gridEntry s a
  let y := gridEntry s b
  if x.act != y.act then x.act else decide (x.tlim < y.tlim)

/-- The most severe of the entries of a mask. -/
def mostSevere (s : State) (mask : Nat) : Nat :=
  (((List.range 64).filter fun k => mask.testBit k).foldl
    (fun b k => match b with | none => some k | some j => if severer s k j then some k else some j) none).getD 0

/-! ### States (R200, R204) -/

/-- ρ, the recovery ramp factor. -/
def rampFactor (s : State) : Rat :=
  let st := s.get F.GRD_STATUS_STATE
  if st = grdCease ∨ st = grdTripped then 0
  else if st ≠ grdRecover then 1
  else if s.b.grd.recT = 0 then 0
  else
    let x : Rat := (s.b.grd.recT : Rat) * 64 / 10000000
    let r : Rat := s.cur F.GRD_MC_RAMP_MS
    if x < r then x / r else 1

/-- Milliseconds since a CLK_FAB cycle. -/
def msSince (s : State) (c : Nat) : Nat := cycUs (s.b.cyc - c) / 1000

/-- What entering a state records. -/
def enterRecords (st old cause : Nat) : Prog := fun s =>
  let e := s.get F.GRD_STATUS_ENTRY
  if st = grdRide then [.sticky F.GRD_STICKY_RT_ENTER, .led 0x4801 0 [e, s.get F.GRD_VMIN_V]]
  else if st = grdCease then
    [.sticky F.GRD_STICKY_CESSATION,
     .led 0x4802 0 [e, if (gridEntry s e).upper then s.get F.GRD_VMAX_V else s.get F.GRD_VMIN_V],
     updGrd fun g => { g with cessAt := s.b.cyc }]
  else if st = grdRecover then [.led 0x4803 0 [msSince s s.b.grd.cessAt, 0], updGrd fun g => { g with recT := 0 }]
  else if st = grdTripped then
    thenDo [.sticky F.GRD_STICKY_TRIP, .led 0x4804 0 [cause, e]] (inOrder [setSource 105 true, crnEvent 2]) s
  else effIf (old != grdNormal) [.led 0x4807 0 [msSince s s.b.grd.excAt, s.b.grd.worst]]

/-- GRD enters a state. -/
def grdEnter (st cause : Nat) : Prog := fun s =>
  let old := s.get F.GRD_STATUS_STATE
  if st = old then []
  else inOrder
    [ fun s => [.set F.GRD_STATUS_STATE st]
        ++ effIf (old == grdNormal)
            [updGrd fun g => { g with excAt := s.b.cyc, worst := s.get F.GRD_STATUS_ENTRY }],
      enterRecords st old cause,
      setCessation (st == grdCease || st == grdTripped),
      onlyIf (fun _ => old == grdNormal) (mptAbort 0), brakeThresholds ] s

/-- Coarse ticks in a number of milliseconds. -/
def msTicks (ms : Nat) : Nat := ms * 156250

/-- The timer of an active entry has reached T_LIM × 10 ms (R198). -/
def timerDue (s : State) (k : Nat) : Bool :=
  let t := (gridEntry s k).tlim
  s.b.grd.active.testBit k && t != 0 && t != 0xFFFF && decide (msTicks (10 * t) ≤ tget 0 s.b.grd.timers k)

/-- No cessation entry has been active for RESUME_MS (R200). -/
def resumeDue (s : State) : Bool := !anyActive s true && s.b.grd.calm.any (msTicks (s.cur F.GRD_MC_RESUME_MS) ≤ ·)

/-- The state at a sample instant: the first matching row of R200. -/
def grdEval : Prog := fun s =>
  let st := s.get F.GRD_STATUS_STATE
  let low := if anyActive s false then grdRide else grdNormal
  match (List.range 64).find? (timerDue s) with
  | some k => grdEnter grdTripped (if k < 32 then 0 else 1) s
  | none =>
  if st = grdTripped then []
  else if anyActive s true then grdEnter grdCease 0 s
  else if st = grdCease then (if resumeDue s then grdEnter grdRecover 0 s else [])
  else if st = grdRecover then (if rampFactor s < 1 then [] else grdEnter low 0 s)
  else grdEnter low 0 s

/-- GRD_ENTRY_TIMER: the timer of an active entry reaches T_LIM (R198). -/
def entryTimer (k : Nat) : Prog := onlyIf (fun s => timerDue s k) (grdEnter grdTripped (if k < 32 then 0 else 1))

/-- CESSATION_RESUME: no cessation entry has been active for RESUME_MS. -/
def cessationResume : Prog := fun s =>
  if s.get F.GRD_STATUS_STATE = grdCease ∧ resumeDue s = true then grdEnter grdRecover 0 s else []

/-- GRD_CMD.CLEAR: TRIPPED is left, and the trip source is released (R200, R204). -/
def grdClear : Prog := fun s =>
  if s.b.grd.active ≠ 0 then [.sticky F.GRD_STICKY_CLEAR_REJECT]
  else inOrder [onlyIf (fun s => s.get F.GRD_STATUS_STATE == grdTripped) (grdEnter grdNormal 0), setSource 105 false] s

/-! ### The grid angle (R193 to R195) -/

/-- The PLL's angle at this sample instant. -/
def pllNow (s : State) : Int :=
  angleFrac (slotVal s.b.grd.pllAng
    + 2 * slotVal s.b.grd.pllF * s.b.grd.pllAge * s.cur F.KE0_PERIOD_TICKS * 64 / 10000000000)

/-- The timed source's angle at this sample instant. -/
def timedNow (s : State) : Int := wrapAngle (thetaTimed s + s.b.grd.ofs)

/-- The angle of the source in use. -/
def sourceNow (s : State) : Int := if s.on F.GRD_STATUS_SRC_TIMED then timedNow s else pllNow s

/-- The conditions of the timed source but for OFS (R194). -/
def timedAllowed (s : State) : Bool :=
  s.curOn F.GRD_SYNC_TIMED_EN && !s.on F.SYS_GUAR_TIME_INVALID && refWithin s (s.cur F.GRD_SYNC_REF_AGE)

/-- The source changes at a sample instant: the difference is left to be slewed (R195). -/
def setSourceTimed (timed : Bool) : Prog := fun s =>
  if timed == s.on F.GRD_STATUS_SRC_TIMED then []
  else
    let old := wrapAngle (sourceNow s + s.b.grd.slew)
    let new := if timed then timedNow s else pllNow s
    [.set F.GRD_STATUS_SRC_TIMED (bit timed), .sticky F.GRD_STICKY_SRC_CHANGE,
     .led 0x4806 0 [bit timed, unsignedOf 32 (deciDeg (wrapAngle (new - old)))],
     updGrd fun g => { g with slew := wrapAngle (old - new) }]

/-- One difference of the sources more; where a condition fails, what was learned is given up (R194). -/
def learnTick : Prog := fun s =>
  let g := s.b.grd
  let d := wrapAngle (pllNow s - thetaTimed s)
  if !timedAllowed s then [updGrd fun g => { g with learnN := 0, learned := false }]
  else if g.learnN = 0 then [updGrd fun g => { g with learnRef := d, learnSum := 0, learnN := 1, learnAt := s.b.cyc }]
  else [updGrd fun g => { g with learnSum := g.learnSum + wrapAngle (d - g.learnRef), learnN := g.learnN + 1 }]

/-- The mean difference of the sources since the conditions began to hold. -/
def meanDiff (s : State) : Int := wrapAngle (s.b.grd.learnRef + roundDiv s.b.grd.learnSum s.b.grd.learnN)

/-- OFS takes a value. -/
def setOfs (a : Int) : List Eff :=
  [updGrd (fun g => { g with ofs := a, learned := true }), .set F.GRD_SYNC_OFS_OFS (angleSlot a)]

/-- TIMED_SOURCE_RETURN: the conditions have held for 1 s: OFS is learned, and the next sample instant returns to the timed
source (R194). -/
def timedReturn : Prog := fun s =>
  let g := s.b.grd
  if !timedAllowed s || s.on F.GRD_STATUS_SRC_TIMED || g.learnN = 0 || s.b.cyc < g.learnAt + usCyc 1000000 then []
  else setOfs (meanDiff s)

/-- RELEARN: OFS is to be learned anew, so the next sample instant returns to the PLL source (R194). -/
def relearn : Prog := fun _ => [updGrd fun g => { g with learned := false, learnN := 0 }]

/-- OFS is trimmed toward the mean difference of the sources while the timed source is in use (R194; the mean is that since
the conditions began to hold, log entry 43). -/
def trimTick : Prog := fun s =>
  let t : Int := s.cur F.GRD_SYNC_TRIM
  if !s.on F.GRD_STATUS_SRC_TIMED || t == 0 || s.b.grd.learnN == 0 then []
  else setOfs (wrapAngle (s.b.grd.ofs + clampInt (-t) t (wrapAngle (meanDiff s - s.b.grd.ofs))))

/-- f_sel: the PLL's frequency, or that of the extrapolated reference. -/
def freqNow (s : State) : Nat :=
  match s.on F.GRD_STATUS_SRC_TIMED, s.b.phs.ref with
  | true, some r => slotOf 7 (slotVal r.f + slotVal r.rocof * secondsOf ((s.b.tim.t : Int) - r.t))
  | _, _ => s.b.grd.pllF

/-- θ_sel and f_sel at a sample instant (R193 to R195). -/
def angleTick : Prog := inOrder
  [ fun _ => [updGrd fun g => { g with pllAge := g.pllAge + 1 }],
    fun s => setSourceTimed (timedAllowed s && s.b.grd.learned) s,
    learnTick, trimTick,
    fun s =>
      let step : Int := if s.cur F.GRD_SYNC_SLEW = 0xFFFF then turn else s.cur F.GRD_SYNC_SLEW
      let r := s.b.grd.slew - clampInt (-step) step s.b.grd.slew
      [updGrd fun g => { g with slew := r, theta := wrapAngle (sourceNow s + r) },
       .set F.GRD_STATUS_SLEWING (bit (decide (step < r.natAbs))), .set F.GRD_FREQ_F (freqNow s)] ]

/-! ### The estimator and phase jumps (R196, R203) -/

/-- The voltage vector of a period. -/
def gridVec (h : Nat × Nat × Nat × Int) : Rat × Rat := clarke (slotVal h.1) (slotVal h.2.1) (slotVal h.2.2.1)

/-- The voltage vector a quarter cycle before the newest period, interpolated linearly between periods; 0 before the window
began (R196, log entry 23). -/
def quarterBefore (s : State) (h : List (Nat × Nat × Nat × Int)) : Rat × Rat :=
  let n : Rat := 156250000 / ((4 * grdNom s * max 1 (s.cur F.KE0_PERIOD_TICKS) : Nat) : Rat)
  let k := n.floor.toNat
  let p := n - k
  let v (i : Nat) : Rat × Rat := ((h.map gridVec).getD i (0, 0))
  ((v k).1 * (1 - p) + (v (k + 1)).1 * p, (v k).2 * (1 - p) + (v (k + 1)).2 * p)

/-- The sequence vectors by delayed-signal cancellation: v+ = (v + j v') / 2, v− = (v − j v') / 2, with v' the vector a quarter
cycle before (R196). -/
def seqVectors (s : State) (h : List (Nat × Nat × Nat × Int)) : (Rat × Rat) × (Rat × Rat) :=
  let v := gridVec (h.headD (0, 0, 0, 0))
  let q := quarterBefore s h
  (((v.1 - q.2) / 2, (v.2 + q.1) / 2), ((v.1 + q.2) / 2, (v.2 - q.1) / 2))

/-- √2. -/
def rootTwo : Rat := 141421356237309504880 / 100000000000000000000

/-- The estimates of a period in pu of V_NOM: magnitudes, v− in the frame that turns at −θ_sel, the angle of v+. The spec
states no pu value where V_NOM is 0, and no angle of a zero vector: then they are free (R196, R202, log entry 3). -/
def gridEst (s : State) (h : List (Nat × Nat × Nat × Int)) : GridEst :=
  let v := seqVectors s h
  let vn := slotVal (s.get F.GRD_VNOM_V)
  let sq (x : Rat × Rat) : Rat := (x.1 * x.1 + x.2 * x.2) / (2 * vn * vn)
  let n := turnBy s.b.grd.theta v.2
  let pu (k : Nat) (w : Nat) : Nat := if vn = 0 then fresh s k % 2 ^ 32 else w
  { vpos := pu 1 (rootSlot (sq v.1)), vneg := pu 2 (rootSlot (sq v.2))
    vdn := pu 3 (slotOf 1 (n.1 / (rootTwo * vn))), vqn := pu 4 (slotOf 1 (n.2 / (rootTwo * vn)))
    ang := if v.1 = (0, 0) then signedOf 25 (fresh s 5) else wrapAngle (atan2Frac v.1.2 v.1.1) }

/-- A period's voltages enter the window: the phase RMS and the sequence vectors follow (R196). -/
def measTick : Prog := fun s =>
  let slots := s.get F.GRD_VSRC_SLOTS
  let v (k : Nat) := s.get (F.KE0_ISLOT_VAL (slots / 2 ^ (8 * k) % 256))
  let n := grdWindow s
  let h0 := ((v 0, v 1, v 2, 0) :: s.b.grd.hist).take n
  let e := gridEst s h0
  let h := ((v 0, v 1, v 2, wrapAngle (e.ang - s.b.grd.theta)) :: s.b.grd.hist).take n
  let ms := meanSquares h
  let vn := slotVal (s.get F.GRD_VNOM_V)
  let pu (x : Rat) : Nat := if vn = 0 then fresh s 0 % 2 ^ 32 else rootSlot (x / (vn * vn))
  if !s.on F.GRD_CTRL_ENABLE then []
  else
    [updGrd (fun g => { g with hist := h, est := e, filled := g.filled + 1 }), spend 6,
     .set F.GRD_VMIN_V (pu (lowest ms)), .set F.GRD_VMAX_V (pu (highest ms)), .set F.GRD_VPOS_V e.vpos,
     .set F.GRD_VNEG_V e.vneg, .set F.GRD_STATUS_MEAS_VALID (bit (decide (2 * n ≤ s.b.grd.filled)))]

/-- A phase jump is recorded. -/
def phaseJump (j : Int) : Prog := inOrder
  [ fun s => [.set F.GRD_PJ_LAST_ANG (angleSlot j), .sticky F.GRD_STICKY_PHASE_JUMP,
              .led 0x4805 0 [unsignedOf 32 (deciDeg j), s.get F.GRD_STATUS_SRC_TIMED]],
    mptVector j,
    onlyIf (fun s => s.cur F.GRD_PJ_TRIP_DEG != 0 && beyond j (s.cur F.GRD_PJ_TRIP_DEG)) (grdEnter grdTripped 2) ]

/-- The angle of v+ against θ_sel is compared with its value a window ago, or before the candidate; THR or N of 0 switches
the function off (R203, R9). -/
def jumpTick : Prog := fun s =>
  let g := s.b.grd
  match g.hist with
  | [] => []
  | h :: _ =>
    let d := h.2.2.2
    let ref := if g.pjN = 0 then (g.hist.getLastD h).2.2.2 else g.pjRef
    let j := wrapAngle (d - ref)
    let n := if beyond j (s.cur F.GRD_PJ_THR) then g.pjN + 1 else 0
    if !s.on F.GRD_STATUS_MEAS_VALID || s.cur F.GRD_PJ_THR == 0 || s.cur F.GRD_PJ_N == 0 then []
    else if s.cur F.GRD_PJ_N ≤ n then
      thenDo [updGrd fun g => { g with pjN := 0, hist := g.hist.map fun x => (x.1, x.2.1, x.2.2.1, d) }]
        (phaseJump j) s
    else [updGrd fun g => { g with pjN := n, pjRef := ref }]

/-- The entries are evaluated: the timer of one that becomes active restarts at 0, the others advance by the period that has
passed (R198). -/
def entryTick : Prog := fun s =>
  let ms := meanSquares s.b.grd.hist
  if !s.on F.GRD_STATUS_MEAS_VALID then []
  else
    let a := activeEntries s (lowest ms) (highest ms) (slotVal (s.get F.GRD_FREQ_F))
    thenDo [updGrd fun g => { g with
        active := a
        timers := ((List.range 64).filter fun k => a.testBit k).map fun k =>
          (k, if g.active.testBit k then tget 0 g.timers k + g.ticks else 0) },
      .set F.GRD_STATUS_ENTRY (mostSevere s a)]
      (fun s => [updGrd fun g => { g with
        worst := if a != 0 && severer s (s.get F.GRD_STATUS_ENTRY) g.worst then s.get F.GRD_STATUS_ENTRY else g.worst }])
      s

/-! ### The sample instant -/

/-- The reactive current of R201. -/
def rciNow (s : State) : Rat :=
  let v := slotVal s.b.grd.est.vpos
  let k : Rat := (s.cur F.GRD_RCI_K : Rat) / 256
  let db : Rat := (s.cur F.GRD_RCI_DB : Rat) / 4096
  let st := s.get F.GRD_STATUS_STATE
  if !s.on F.GRD_CTRL_RCI_EN || !anyActive s false || !(st == grdRide || st == grdRecover) then 0
  else if v < 1 - db then k * (1 - v - db) else if 1 + db < v then k * (1 - v + db) else 0

/-- The negative-sequence current of R202, d and q. -/
def negNow (s : State) : Rat × Rat :=
  let k : Rat := (s.cur F.GRD_NEG_K2 : Rat) / 256
  let st := s.get F.GRD_STATUS_STATE
  if !s.on F.GRD_CTRL_NEG_EN || st == grdCease || st == grdTripped then (0, 0)
  else (k * slotVal s.b.grd.est.vqn, -(k * slotVal s.b.grd.est.vdn))

/-- ISLOT 0x80 to 0x8F (R186). -/
def grdSlots : Prog := fun s =>
  writeSlots
    [(0x80, angleSlot s.b.grd.theta), (0x81, s.get F.GRD_FREQ_F), (0x82, intSlot (s.get F.GRD_STATUS_STATE)),
     (0x83, slotOf 1 (rciNow s)), (0x84, slotOf 1 (negNow s).1), (0x85, slotOf 1 (negNow s).2),
     (0x86, slotOf 1 (rampFactor s)), (0x87, s.get F.GRD_VPOS_V), (0x88, s.get F.GRD_VNEG_V),
     (0x89, s.get F.GRD_VMIN_V), (0x8A, s.get F.GRD_VMAX_V), (0x8B, flagSlot (s.on F.GRD_STATUS_SRC_TIMED)),
     (0x8C, s.get F.GRD_PJ_LAST_ANG), (0x8D, 0), (0x8E, 0), (0x8F, 0)] s

/-- The profile group comes into force. -/
def profileRanges (g : Nat → Nat → Eff) : List Eff :=
  [g (keyAt 0x72040) (keyAt 0x72044), g (keyAt 0x72400) (keyAt 0x72500)]

/-- GRD at a sample instant: committed groups first, then the measurement of the period that has passed, angle, jumps,
entries, state, slots. -/
def grdSample : Prog := inOrder
  [ fun s => effIf (groupDue s .grdProfile)
        (profileRanges .adopt ++ [.upd fun b => { b with waiting := b.waiting.filter (· != .grdProfile) }])
      ++ effIf (groupDue s .grdSettings) (adoptGroup .grdSettings 0x72050 0x72068),
    fun s => [updGrd fun g => { g with
      recT := if s.get F.GRD_STATUS_STATE = grdRecover then g.recT + g.ticks else g.recT }],
    measTick, angleTick, jumpTick, entryTick,
    fun s => [updGrd fun g => { g with calm := if anyActive s true then none else some (g.calm.elim 0 (· + g.ticks))
                                       ticks := s.cur F.KE0_PERIOD_TICKS }],
    onlyIf (fun s => s.on F.GRD_CTRL_ENABLE) grdEval, grdSlots ]

/-- OSLOT 0x90 to 0x92 at the END of a class-1 run (R187). -/
def grdDeliver (n w : Nat) : Prog := fun s =>
  if n = 0x90 then [updGrd fun g => { g with pllAng := w, pllAge := s.get F.KE1_SCHED_STAT_PHASE }]
  else if n = 0x91 then [updGrd fun g => { g with pllF := w }]
  else if n = 0x92 then [.set F.GRD_STATUS_PLL_LOCK (bit (decide (slotVal w = 1)))]
  else []

/-! ### Writes and commits -/

/-- A write or commit is refused at a register offset. -/
def grdReject (off : Nat) : List Eff := [.sticky F.GRD_STICKY_CFG_REJECT, .led 0x4808 0 [off, 0]]

/-- GRD_CTRL_WRITE (R196, R199): with ENABLE cleared the estimator stands empty; when it sets, STATE is NORMAL. -/
def grdCtrlWrite (v : Nat) : Prog := fun s =>
  if v.testBit 0 && !s.on F.GRD_CTRL_ENABLE && !s.on F.GRD_FNOM_F60 && s.cur F.GRD_PROF_CAT != 0 then grdReject 8
  else inOrder
    [ writeFields 0x72008 v,
      onlyIf (fun s => !s.on F.GRD_CTRL_ENABLE)
        (inOrder
          [ fun _ => [updGrd (fun g => { g with hist := [], filled := 0, active := 0, timers := [], pjN := 0 }),
                      .set F.GRD_STATUS_MEAS_VALID 0, .set F.GRD_STATUS_ENTRY 0],
            fun s => if s.get F.GRD_STATUS_STATE = grdTripped then [] else grdEnter grdNormal 0 s ]),
      onlyIf (fun _ => v.testBit 0 && !s.on F.GRD_CTRL_ENABLE) (grdEnter grdNormal 0), brakeThresholds ] s

/-- GRD_NOMINAL_WRITE: GRD_VNOM, GRD_FNOM or GRD_VSRC (R197). -/
def nominalWrite (k v : Nat) : Prog := fun s =>
  if s.on F.GRD_CTRL_ENABLE then grdReject (0x44 + 4 * k) else writeFields (0x72044 + 4 * k) v s

/-- The offset that refuses a commit of the profile group (R199). -/
def profileFault (s : State) : Option Nat :=
  if s.get F.GRD_STATUS_STATE ≠ grdNormal ∨ (s.get F.GRD_PROF_CAT ≠ 0 ∧ s.on F.GRD_FNOM_F60 = false) then some 0x40
  else ((List.range 64).find? fun k =>
      let w := if k < 32 then s.get (F.GRD_UVT_ENTRY k) else s.get (F.GRD_UFT_ENTRY (k - 32))
      bitsOf w 31 16 != 0 && bitsOf w 15 4 == 0).map fun k => 0x400 + 4 * k

/-- GRD_COMMIT bit 0. -/
def profileCommit : Prog := noted (.page 0x72000 0) fun s =>
  match profileFault s with
  | some off => grdReject off
  | none => profileRanges .take
      ++ [.upd fun b => { b with waiting := b.waiting.filter (· != .grdProfile) ++ [.grdProfile]
                                 commitNow := .grdProfile :: b.commitNow }]

/-- GRD_COMMIT bit 1 (R195). -/
def settingsCommit : Prog := noted (.page 0x72000 1) fun s =>
  if s.get F.GRD_SYNC_SLEW = 0 then grdReject 0x64 else takeGroup .grdSettings 0x72050 0x72068

def execGrdEntryTimer (k : Fin 64) (s : State) : Result := run (onMain (entryTimer k)) s
def execCessationResume (s : State) : Result := run (onMain cessationResume) s
def execGrdClear (s : State) : Result := run (onMain grdClear) s
def execRelearn (s : State) : Result := run (onMain relearn) s
def execGrdCtrlWrite (v : Word) (s : State) : Result := run (onMain (grdCtrlWrite v.toNat)) s
def execGrdNominalWrite (k : Fin 3) (v : Word) (s : State) : Result := run (onMain (nominalWrite k v.toNat)) s
def execGrdProfileCommit (s : State) : Result := run (onMain profileCommit) s
def execGrdSettingsCommit (s : State) : Result := run (onMain settingsCommit) s
def execTimedSourceReturn (s : State) : Result := run (onMain timedReturn) s

end Sys2Proof.Machine
end

