-- ==== Sys2Proof/Machine/But.lean ====
section
/-! DEFINITION. Buttress (R384 to R398): states, the mirror over L4, takeover and release, and the arbiter. -/

namespace Sys2Proof.Machine

/-- Lane L4 is ready. -/
def l4Ready (s : State) : Bool := s.on (F.LNK_STATUS_READY 4)

/-! ### The pair check word (R387) -/

/-- The values in force of the pages PWM0 to PWM2, PWX, TRP, GDP, CMP0 to CMP3 and FAD. -/
def pairGroups (s : State) : List Nat :=
  (s.act.filter fun p =>
    let page := p.1 / 32 / 0x1000
    (0x40 ≤ page && page ≤ 0x45) || (0x50 ≤ page && page ≤ 0x54)).flatMap fun p => [p.1, p.2]

/-- The ROM programs in force of an engine. -/
def romsInForce (s : State) (eng : Nat) : List Nat :=
  if eng = 0 then (if s.curOn F.KE0_PROG_SRC then [s.cur F.KE0_PROG_ROM_ID] else [])
  else ((List.range 9).filter fun k => s.curOn (F.KE1_ENTRY_EN k) && s.curOn (F.KE1_ENTRY_SRC k)).map
    fun k => s.cur (F.KE1_ENTRY_ROM_ID k)

/-- The words of the programs in force, those of the ROM included, and of the active banks. -/
def pairPrograms (s : State) : List Nat :=
  let prog := fun eng =>
    ((checkedOf s eng).flatMap fun p =>
      if (inForce s eng).contains p.1 then s.words (progBase eng + 2 * p.1) (2 * (p.2.1 + 1 - p.1)) else [])
      ++ (romsInForce s eng).flatMap Config.romCode
  prog 0 ++ prog 1 ++ s.words (bankAddr 0 (activeBank s 0)) 1024 ++ s.words (bankAddr 1 (activeBank s 1)) 4096

/-- BUT_CRC follows. -/
def pairCrcShow : Prog := fun s =>
  effIf (s.on F.BUT_CTRL_ENABLE) [.set F.BUT_CRC_CRC (Config.pairCrc (pairPrograms s ++ pairGroups s))]

/-! ### The mirror group (R393, R394) -/

/-- Entry `e` is mirrored with an engine's class, read by `rd` (shadow or in force). -/
def mirOf (rd : Fld → Nat) (eng e : Nat) : Bool := rd (F.BUT_MIR_EN e) != 0 && rd (F.BUT_MIR_ENG e) == eng

/-- The words an entry carries. -/
def mirLen (s : State) (rd : Fld → Nat) (eng e : Nat) : Nat :=
  if mirOf rd eng e then
    let n := (coreOf s eng).stLen (rd (F.BUT_MIR_STAGE e))
    if rd (F.BUT_MIR_RATE_EN e) != 0 then 2 * n else n
  else 0

/-- The frames of a class's set: ⌈w / 30⌉. -/
def mirFrames (s : State) (rd : Fld → Nat) (eng : Nat) : Nat :=
  (((List.range 32).map (mirLen s rd eng)).sum + 29) / 30

/-- An entry in error. -/
def mirBad (s : State) (e : Nat) : Bool :=
  let eng := s.get (F.BUT_MIR_ENG e)
  let st := s.get (F.BUT_MIR_STAGE e)
  let c := coreOf s eng
  s.on (F.BUT_MIR_EN e)
    && (c.stLen st == 0 || (eng == 0 && 63 < st)
      || (s.on (F.BUT_MIR_RATE_EN e) && c.stLen (s.get (F.BUT_MIR_RATE e)) != c.stLen st))

/-- The link time after W in 0.1 ns. -/
def mirTime (s : State) : Nat := s.cur F.KE0_PERIOD_TICKS * 64 - s.cur F.KE0_WPHASE_W * 32

/-- The set sizes do not fit (R394). -/
def mirTooLong (s : State) : Bool :=
  let f0 := mirFrames s s.get 0
  let f1 := mirFrames s s.get 1
  let m := s.cur F.KE1_SCHED_M
  let slots := mirTime s / 9552
  decide (mirTime s < (f0 + 1) * 9552)
    || (m != 0 && decide (m * slots < m * (f0 + 1) + f1 + 4)) || (m == 0 && decide (slots < f0 + 5))

/-- BUT_COMMIT: the mirror group waits for the next sample instant, or is refused; a refusal for the sets' length names no
entry, and the record's parameter is a free value (R394, log entry 3). -/
def butCommit : Prog := noted (.page 0x11000 0) fun s =>
  match (List.range 32).find? (mirBad s) with
  | some e => [.sticky F.BUT_STICKY_CFG_REJECT, .led 0x2808 0 [e, 0]]
  | none =>
    if mirTooLong s then [.sticky F.BUT_STICKY_CFG_REJECT, .led 0x2808 0 [fresh s 0, 0], spend 1]
    else takeGroup .but 0x11200 0x11280

/-! ### Sending (R391) -/

/-- A stage as slot words (log entry 35). -/
def stageWords (c : Core) (st : Nat) : List Nat := (c.els st).map fun m => slotWord m (c.stExp st)

/-- The words of a class's set, entry by entry. -/
def mirWords (s : State) (eng : Nat) : List Nat :=
  (List.range 32).flatMap fun e =>
    if mirOf s.cur eng e then
      let c := coreOf s eng
      stageWords c (s.cur (F.BUT_MIR_STAGE e))
        ++ (if s.curOn (F.BUT_MIR_RATE_EN e) then stageWords c (s.cur (F.BUT_MIR_RATE e)) else [])
    else []

/-- The 98 words of the hardware set (R393, log entry 35): GRD STATE, ENTRY, ρ and OFS; the entry timers; the round
position and scan state, MPT_VGMP, MPT_PGMP, MPT_SCAN_CNT and the islanding latch; TRP_LATCH0 and TRP_LATCH1. -/
def hwWords (s : State) : List Nat :=
  let g := s.b.grd
  let m := s.b.mpt
  [s.get F.GRD_STATUS_STATE, s.get F.GRD_STATUS_ENTRY, slotOf 1 (rampFactor s), angleSlot g.ofs]
  ++ (List.range 64).map (fun k => if g.active.testBit k then 1 + tget 0 g.timers k / 64 else 0)
  ++ [(m.todo.map Fin.val).foldl withBit 0,
      s.get F.MPT_STATUS_SCAN_IN + 16 * s.get F.MPT_STATUS_SCANNING + 32 * s.get F.MPT_STATUS_ROUND
        + 64 * s.get F.MPT_CURVE_IN_IN]
  ++ (List.range 12).map (fun j => s.get (F.MPT_VGMP_V j)) ++ (List.range 12).map (fun j => s.get (F.MPT_PGMP_P j))
  ++ [s.get F.MPT_SCAN_CNT_N, s.get F.MPT_STATUS_ISLAND + 2 * s.get F.MPT_ISL_SRC_M,
      s.get F.TRP_LATCH0_PAIR, s.get F.TRP_LATCH1_PAIR]

/-- A mirror frame: CLASS 4, DEST 0xFFF; SEQ is given when it is sent. -/
def mirFrame (s : State) (type : Nat) (data : List Nat) : Frame :=
  { cls := 4, dest := 0xFFF, src := s.get F.RDG_ADDR_ADDR, type := type, data := data }

/-- The frames of a set: 30 words each behind block 0, which carries the sample instant of the run. -/
def setFrames (s : State) (type count ns : Nat) (words : List Nat) : List Frame :=
  let n := (words.length + 29) / 30
  (List.range n).map fun i =>
    mirFrame s type ((count % 2 ^ 16 * 2 ^ 48 + i % 256 * 2 ^ 40 + n % 256 * 2 ^ 32 + ns % 2 ^ 32)
      :: pairWords ((words.drop (30 * i)).take 30))

/-- The status frame. -/
def statusFrame (s : State) : Frame :=
  mirFrame s 0x54
    [s.b.but.sampleNs % 2 ^ 32 * 2 ^ 32 + s.get F.BUT_STATUS_STATE * 2 ^ 29 + s.get F.BUT_CTRL_ROLE * 2 ^ 28
      + s.get F.BUT_STATUS_CODE * 2 ^ 26, s.get F.BUT_CRC_CRC]

/-- The next mirror frame goes out when none waits for its acknowledge. -/
def mirNext : Prog := fun s =>
  match s.b.but.out, s.b.but.txq with
  | none, f :: rest =>
    let g := { f with seq := s.b.but.seq }
    thenDo [updBut fun b => { b with out := some g, endAt := none, txq := rest, retry := 0, seq := (b.seq + 1) % 64 }]
      (sendOn 4 (.frame g)) s
  | _, _ => []

/-- Frames wait to be mirrored: a status frame and a class-0 set before all others, which have the link time that remains
(R391). -/
def mirSend (fs : List Frame) : Prog :=
  let first (f : Frame) : Bool := f.type == 0x50 || f.type == 0x54
  thenDo [updBut fun b => { b with txq := (b.txq ++ fs).filter first ++ (b.txq ++ fs).filter fun f => !first f }] mirNext

/-- The device mirrors. -/
def mirrors (s : State) : Bool := butIn s butActive && l4Ready s && !s.on F.BUT_STATUS_LINK_FAULT

/-- At W: the status frame and the class-0 set, and with M = 0 the hardware set (R391). -/
def butAtW : Prog := fun s =>
  if !mirrors s then []
  else
    let k := s.b.but.periods
    thenDo [updBut fun b => { b with periods := (b.periods + 1) % 2 ^ 16 }]
      (mirSend (statusFrame s :: setFrames s 0x50 k s.b.but.sampleNs (mirWords s 0)
        ++ (if s.cur F.KE1_SCHED_M = 0 then setFrames s 0x52 k s.b.but.sampleNs (hwWords s) else []))) s

/-- At the END of the class-1 run: the class-1 set, with the sample instant of its slot, and the hardware set. -/
def butAtEnd1 : Prog := fun s =>
  if !mirrors s then []
  else
    let k := s.b.but.runs1
    thenDo [updBut fun b => { b with runs1 := (b.runs1 + 1) % 2 ^ 16 }]
      (mirSend (setFrames s 0x51 k s.b.but.slotNs (mirWords s 1)
        ++ setFrames s 0x52 s.b.but.periods s.b.but.sampleNs (hwWords s))) s

/-- ACKNOWLEDGE: the frame in flight is acknowledged by its SEQ; the last frame of a class-0 set ends NOT_READY. -/
def acknowledge (f : Frame) : Prog := fun s =>
  match s.b.but.out with
  | none => []
  | some o =>
    if !(l4Ready s && f.good && f.cls == 4 && f.type == 0x53 && f.seq == o.seq) then []
    else
      let b0 := o.data.getD 0 0
      let last := o.type == 0x50 && bitsOf b0 47 40 + 1 == bitsOf b0 39 32
      inOrder
        [ fun _ => [updBut fun b => { b with out := none, retry := 0, notReady := b.notReady && !last }],
          butShow, mirNext ] s

/-- CLK_FAB cycles in 120 ns, rounded up. -/
def ackCyc : Nat := 19

/-- MIRROR_RETRY: no acknowledge 120 ns after END has left: at most 3 retries, then a link fault (R391). -/
def mirrorRetry : Prog := fun s =>
  match s.b.but.out with
  | none => []
  | some o =>
    if !s.b.but.endAt.any fun c => decide (c + ackCyc ≤ s.b.cyc) then []
    else if s.b.but.retry < 3 then
      thenDo [updBut fun b => { b with retry := b.retry + 1, endAt := none }, .inc F.BUT_CNT_RETRY_N 1] (sendOn 4 (.frame o)) s
    else
      thenDo [.sticky F.BUT_STICKY_LINK_FAULT, .set F.BUT_STATUS_LINK_FAULT 1,
        .led 0x2804 0 [o.seq, s.get F.BUT_CNT_RETRY_N],
        updBut fun b => { b with out := none, txq := [], retry := 0, notReady := true }] butShow s

/-! ### Receiving (R387, R391, R395) -/

/-- A frame arrives on the mirror lane: it passes its check and Buttress is enabled. -/
def mirTaken (s : State) (f : Frame) (type : Nat) : Bool :=
  s.on F.BUT_CTRL_ENABLE && l4Ready s && f.good && f.cls == 4 && f.type == type

/-- Each frame that passes its CRC is acknowledged by its SEQ. -/
def mirAck (f : Frame) : Prog := fun s => sendOn 4 (.frame { mirFrame s 0x53 [] with seq := f.seq }) s

/-- Periods of the receiver between a sample instant of the partner and the own last one. -/
def setAge (s : State) (ns : Nat) : Nat :=
  let d := signedOf 32 (s.b.but.sampleNs + 2 ^ 32 - ns % 2 ^ 32)
  (roundDiv (d * 10) (max 1 (s.cur F.KE0_PERIOD_TICKS * 64))).toNat

/-- Class-1 slots of the receiver that have opened since the run of a class-1 set (R395). -/
def slotAge (s : State) (ns : Nat) : Nat :=
  let d := signedOf 32 (s.b.but.slotNs + 2 ^ 32 - ns % 2 ^ 32)
  let n := (roundDiv (d * 10) (max 1 (s.cur F.KE0_PERIOD_TICKS * 64))).toNat
  let m := max 1 (s.cur F.KE1_SCHED_M)
  (n + m - 1) / m

/-- The words of the frames of a set in order. -/
def asmWords (m : MirrorAsm) : List Nat :=
  (List.range m.frames).flatMap fun i => tget [] m.got i

/-- AGE shows the age of the newest class-0 set. -/
def ageShow : Prog := fun s =>
  [.set F.BUT_STATUS_AGE (match s.b.but.sets.getD 0 none with
    | some m => min 255 m.age
    | none => 0)]

/-- A frame of a set of class `k` (0, 1, 2 = hardware) is stored; the set is complete with its last frame. -/
def mirStore (k : Nat) (f : Frame) : Prog := fun s =>
  let b0 := f.data.getD 0 0
  let count := bitsOf b0 63 48
  let n := bitsOf b0 39 32
  let old := match s.b.but.asms.getD k none with
    | some m => if m.count = count ∧ m.frames = n then m else { count := count, frames := n }
    | none => { count := count, frames := n }
  let m : MirrorAsm := { old with got := tput old.got (bitsOf b0 47 40) (blockWords f.data 30) }
  let done := (List.range n).all fun i => m.got.any fun p => p.1 == i
  let age := if k = 1 then slotAge s (b0 % 2 ^ 32) else setAge s (b0 % 2 ^ 32)
  if !done then [updBut fun b => { b with asms := setAt b.asms k (some m) none }]
  else inOrder
    [ fun _ => [updBut fun b => { b with
        asms := setAt b.asms k none none, got := withBit b.got k, missed := if k = 0 then 0 else b.missed
        sets := setAt b.sets k (some { count := count, words := asmWords m, age := age }) none }]
        ++ effIf (k == 0) [.set F.BUT_STATUS_MIRROR_LOST 0],
      ageShow, butShow ] s

/-- CLASS0_SET, CLASS1_SET, HARDWARE_SET: stored and acknowledged. -/
def mirSet (k : Nat) (f : Frame) : Prog := fun s =>
  if mirTaken s f (0x50 + k) then inOrder [mirStore k f, mirAck f] s else []

/-- STATUS_FRAME: the partner's state, its check word and its alignment. -/
def statusRx (f : Frame) : Prog := fun s =>
  let b0 := f.data.getD 0 0
  let ns := bitsOf b0 63 32
  if !mirTaken s f 0x54 then []
  else inOrder
    [ fun _ => [updBut fun b => { b with pState := bitsOf b0 31 29, heardAt := some s.b.cyc },
        .set F.BUT_PCRC_CRC (f.data.getD 1 0 % 2 ^ 32),
        .set F.BUT_ALIGN_NS ((ns + 2 ^ 32 - s.b.but.sampleNs % 2 ^ 32) % 2 ^ 32)],
      butShow, mirAck f ] s

/-- MIRROR_LOST: no complete class-0 set for 64 periods with L4 ready (R392). -/
def mirrorLost : Prog := fun s =>
  if butIn s butOff || butIn s butActive || !l4Ready s || s.b.but.missed < 64 || s.on F.BUT_STATUS_MIRROR_LOST then []
  else thenDo [.set F.BUT_STATUS_MIRROR_LOST 1, .sticky F.BUT_STICKY_MIRROR_LOST,
    .led 0x2805 0 [s.get F.BUT_STATUS_AGE, 0]] butShow s

/-! ### Applying sets (R395, R397) -/

/-- A stage takes slot words: its exponent and its elements. -/
def takeStage (c : Core) (st : Nat) (ws : List Nat) : Core :=
  match ws with
  | [] => c
  | w :: _ => ({ c with exp := tput c.exp st (slotE w) }).putEls st (ws.map slotM)

/-- A mirror set being applied: the engine's core, the words left, and the stages in which a result was limited. -/
structure MirTake where
  core : Core
  words : List Nat
  limited : List Nat := []

/-- One entry of a set: the stage overwrites the receiver's, its rate stage too; with `rate` the stage is taken as
stage + rate, written back under R120 or R121. -/
def takeEntry (s : State) (eng : Nat) (rate : Bool) (cw : MirTake) (e : Nat) : MirTake :=
  let c := cw.core
  let ws := cw.words
  let st := s.cur (F.BUT_MIR_STAGE e)
  let n := c.stLen st
  if !mirOf s.cur eng e then cw
  else
    let c1 := takeStage c st (ws.take n)
    if s.curOn (F.BUT_MIR_RATE_EN e) then
      let rs := (ws.drop n).take n
      let c2 := takeStage c1 (s.cur (F.BUT_MIR_RATE e)) rs
      let sums := rs.zipIdx.map fun p => (p.2, vAdd (c2.el st p.2, c2.stExp st - 23) (wordVal p.1))
      let r := if rate then c2.writeBack eng st sums else (c2, false)
      { core := r.1, words := ws.drop (2 * n), limited := if r.2 then cw.limited ++ [st] else cw.limited }
    else { cw with core := c1, words := ws.drop n }

/-- The stages of a set overwrite the receiver's, and with them what the ROM programs keep; no pump state is mirrored, so
PUMP_SPD keeps its own (R345); a limited result sets the flags of its stage (R120, R121). -/
def takeSet (eng : Nat) (rate : Bool) (ws : List Nat) : Prog := fun s =>
  let r := (List.range 32).foldl (takeEntry s eng rate) { core := coreOf s eng, words := ws }
  thenDo [(if eng = 0 then updKe0 fun e => { e with rom := {} } else updKe1 fun e => { e with rom := { pump := e.rom.pump } }),
      setCore eng r.core]
    (inOrder (r.limited.map fun st => kFlags eng st true false)) s

/-- GRD takes the mirrored words: STATE, ENTRY, ρ, OFS and the entries. -/
def takeGrd (ws : List Nat) : Prog := fun s =>
  let st := ws.getD 0 0 % 8
  let ramp := slotVal (ws.getD 2 0) * (s.cur F.GRD_MC_RAMP_MS : Nat) * 10000000
  inOrder
    [ fun _ => [.set F.GRD_STATUS_STATE st, .set F.GRD_STATUS_ENTRY (ws.getD 1 0),
        .set F.GRD_SYNC_OFS_OFS (ws.getD 3 0),
        updGrd fun g => { g with
          ofs := angleFrac (slotVal (ws.getD 3 0))
          recT := (roundRat (ramp / 64)).toNat
          active := (List.range 64).foldl (fun n k => if ws.getD (4 + k) 0 = 0 then n else withBit n k) 0
          timers := ((List.range 64).filter fun k => ws.getD (4 + k) 0 != 0).map fun k => (k, (ws.getD (4 + k) 0 - 1) * 64) }],
      setCessation (st == grdCease || st == grdTripped), setSource 105 (st == grdTripped) ] s

/-- MPT takes the mirrored round, scan state, results and islanding latch. -/
def takeMpt (ws : List Nat) : Prog := fun s =>
  let sc := ws.getD 69 0
  let isl := ws.getD 95 0
  inOrder
    [ fun _ => [.set F.MPT_STATUS_SCAN_IN sc, .set F.MPT_STATUS_SCANNING (sc / 16), .set F.MPT_STATUS_ROUND (sc / 32),
        .set F.MPT_CURVE_IN_IN (sc / 64), .set F.MPT_SCAN_CNT_N (ws.getD 94 0), .set F.MPT_STATUS_ISLAND isl, .set F.MPT_ISL_SRC_M (isl / 2),
        updMpt fun m => { m with todo := (List.finRange 12).filter fun j => (ws.getD 68 0).testBit j }]
      ++ (List.range 12).flatMap fun j => [.set (F.MPT_VGMP_V j) (ws.getD (70 + j) 0), .set (F.MPT_PGMP_P j) (ws.getD (82 + j) 0)],
      setSource 106 (isl.testBit 0 && s.curOn F.MPT_ISL_CTRL_TRIP_EN) ] s

/-- The mirrored trip latches are ORed into the receiver's. -/
def takeLatches (ws : List Nat) : Prog := fun s =>
  let all := ws.getD 96 0 + 2 ^ 32 * ws.getD 97 0
  let new := (List.range 49).filter fun p => all.testBit p && !hardLatched s p
  inOrder (new.map (latchPair true) ++ [trpStatus] ++ new.map applyPins) s

/-- The set of a class is newer than the one last applied. -/
def setNewer (s : State) (k : Nat) : Option MirrorSet :=
  match s.b.but.sets.getD k none with
  | none => none
  | some m => if s.b.but.applied.getD k none = some m.count then none else some m

/-- The run count of the set applied. -/
def noteApplied (k count : Nat) : Eff := updBut fun b => { b with applied := setAt b.applied k (some count) none }

/-- A device that is not ACTIVE applies the newest set of a class. -/
def applyNewest (k : Nat) (p : List Nat → Prog) : Prog := fun s =>
  match setNewer s k with
  | none => []
  | some m => if butIn s butOff || butIn s butActive then [] else thenDo [noteApplied k m.count] (p m.words) s

/-- The hardware set. -/
def takeHw (ws : List Nat) : Prog := inOrder [takeGrd ws, takeMpt ws, takeLatches ws]

/-- The ages of sets rise by one period. -/
def ageSets (ks : List Nat) : Eff :=
  updBut fun b => { b with sets := b.sets.mapIdx fun i m => if ks.contains i then m.map fun x => { x with age := x.age + 1 } else m }

/-- A sample instant, before KE0 starts: the mirror group, mirroring resumes, ages, the sets applied (R391, R394,
R395). -/
def butSample : Prog := inOrder
  [ fun s => effIf (groupDue s .but) (adoptGroup .but 0x11200 0x11280),
    fun s => [ageSets [0, 2], updBut fun b => { b with
        sampleNs := (stampOf s.b.tim.t).ns % 2 ^ 32 + (stampOf s.b.tim.t).sec * 1000000000 % 2 ^ 32,
        missed := if l4Ready s then b.missed + 1 else 0 }]
      ++ effIf (l4Ready s) [.set F.BUT_STATUS_LINK_FAULT 0],
    applyNewest 0 (takeSet 0 false), applyNewest 2 takeHw, pairCrcShow, ageShow, butFaultUpdate ]

/-- The takeover rule of a class: age 1 under R395, age 2 with the rates, age 3 or more keeps the own stages; without
a set there is no age, and nothing is applied (R397, log entry 47). -/
def takeoverSet (k : Nat) : Prog := fun s =>
  match s.b.but.sets.getD k none with
  | none => []
  | some m =>
    if m.age ≤ 1 then
      (if (setNewer s k).isSome then thenDo [noteApplied k m.count] (takeSet k false m.words) s else [])
    else if m.age = 2 then thenDo [noteApplied k m.count] (takeSet k true m.words) s
    else [.sticky F.BUT_STICKY_STALE]

/-- The class-1 slot opens: the set is applied, or the takeover rule holds (R395, R397). -/
def butSlot : Prog := fun s =>
  thenDo [ageSets [1], updBut fun b => { b with slotNs := b.sampleNs }]
    (if s.b.but.take1 then thenDo [updBut fun b => { b with take1 := false }] (takeoverSet 1)
     else applyNewest 1 (takeSet 1 false)) s

/-- The age of a set as a record shows it; the spec states none without a set (log entry 3). -/
def setAgeOf (s : State) (k : Nat) : Nat := match s.b.but.sets.getD k none with
  | some m => m.age
  | none => fresh s k

/-- BUT_TAKEOVER: a sample instant at least 1 µs after the grant was accepted (R397, R175, R218). -/
def butTakeover : Prog := fun s =>
  if !(s.b.but.takeoverDue && butIn s butStandby && s.on F.BUT_STATUS_GRANT && atSample s
      && decide (s.b.but.grantAt + usCyc 1 ≤ s.b.cyc)) then []
  else inOrder
    [ takeoverSet 0,
      fun s => [.set F.BUT_STATUS_STATE butActive, .inc F.BUT_CNT_TAKEOVER_N 1, .sticky F.BUT_STICKY_TAKEOVER,
        .led 0x2801 0 [setAgeOf s 0, setAgeOf s 1], spend 2,
        updBut fun b => { b with takeoverDue := false, reqCmd := false, reqAuto := false, activeAt := s.b.cyc,
                                 take1 := s.cur F.KE1_SCHED_M != 0, notReady := false, out := none, txq := [] }],
      fpmDiscard, mptAbort 6, setDrvEn true, crnEvent 4, butShow ] s

/-- ARB_GRANT_REMOVE: the pins are released, then STANDBY (R398); before the takeover instant there is no drive. -/
def grantRemove : Prog := fun s =>
  if butIn s butActive then inOrder
    [ fun _ => [.set F.BUT_STATUS_GRANT 0], setDrvEn false,
      fun s => [.set F.BUT_STATUS_STATE butStandby, .sticky F.BUT_STICKY_RELEASE,
        .led 0x2802 0 [cycUs (s.b.cyc - s.b.but.activeAt) / 1000000, 0],
        updBut fun b => { b with out := none, txq := [], notReady := false, missed := 0 }],
      mptAbort 6, butShow ] s
  else [.set F.BUT_STATUS_GRANT 0, updBut fun b => { b with takeoverDue := false }]

/-- ARB_GRANT_ACCEPT: a level has held for 100 ns (R384); a disabled Buttress ignores the pin. -/
def grantAccept (level : Bool) : Prog := fun s =>
  if !s.on F.BUT_CTRL_ENABLE then []
  else if !level then grantRemove s
  else
    let ready := butIn s butStandby && butReady s
    [.set F.BUT_STATUS_GRANT 1] ++
    (if butIn s butActive then []
     else if ready then [updBut fun b => { b with takeoverDue := true, grantAt := s.b.cyc }]
     else [.sticky F.BUT_STICKY_GRANT_NOT_READY, .led 0x2806 0 [s.get F.BUT_STATUS_STATE, 0]])

/-- BUT_CTRL_WRITE: ENABLE moves Buttress between OFF and SYNC; without it DRV_EN follows permission (R384, R494); a lane that
changes its role changes the guarantees (R27). -/
def butCtrlWrite (v : Nat) : Prog := fun s =>
  let on := v.testBit 0
  let was := s.on F.BUT_CTRL_ENABLE
  inOrder
    [ fun _ => [.set F.BUT_CTRL_AUTO_REVERT (bit (v.testBit 2)), .set F.BUT_CTRL_ROLE (bit (v.testBit 1)),
                .set F.BUT_CTRL_ENABLE (bit on)],
      onlyIf (fun _ => on != was) (inOrder
        [ fun _ => [.set F.BUT_STATUS_STATE (if on then butSync else butOff), .set F.BUT_STATUS_GRANT 0,
            .set F.BUT_STATUS_MIRROR_LOST 0, .set F.BUT_STATUS_LINK_FAULT 0, .set F.BUT_STATUS_AGE 0,
            updBut fun b =>
              { arbP := b.arbP, arbS := b.arbS, withdrawnAt := b.withdrawnAt, seq := b.seq, sampleNs := b.sampleNs
                slotNs := b.slotNs, readyAt := b.readyAt }],
          rolesUpdate, setDrvEn (!on && s.on F.SYS_STATUS_PERMIT) ]),
      pairCrcShow, butFaultUpdate, guarUpdate ] s

/-- BUT_READY: readiness is met in SYNC. -/
def butReadyEvent : Prog := inOrder
  [ butFaultUpdate,
    fun s => effIf (butIn s butSync && butReady s) [.set F.BUT_STATUS_STATE butStandby],
    butShow ]

/-- BUT_CMD.REQUEST (R388). -/
def butRequest : Prog := fun s =>
  if butIn s butStandby then
    thenDo [updBut fun b => { b with reqCmd := true, reqAt := s.b.cyc }, .led 0x2807 0 [1, 0]] butShow s
  else [.sticky F.BUT_STICKY_CMD_REJECT]

/-- REQUEST_EXPIRE: 100 ms after the last command (R388). -/
def requestExpire : Prog := onlyIf (fun s => s.b.but.reqCmd && decide (s.b.but.reqAt + usCyc 100000 ≤ s.b.cyc))
  (thenDo [updBut fun b => { b with reqCmd := false }] butShow)

/-- REVERT_HOLD: the primary has been ready for BUT_HOLD.S seconds (R396). -/
def revertHold : Prog := fun s =>
  if butIn s butStandby && !s.on F.BUT_CTRL_ROLE && s.on F.BUT_CTRL_AUTO_REVERT && butReady s && s.on F.BUT_STATUS_READY
      && !s.b.but.reqAuto && decide (s.b.but.readyAt + usCyc (1000000 * s.get F.BUT_HOLD_S) ≤ s.b.cyc) then
    thenDo [updBut fun b => { b with reqAuto := true }, .led 0x2807 0 [0, 0]] butShow s
  else []

/-! ### The arbiter (R389, R390) -/

/-- A HEALTH code from its high time in ns, as CODE. -/
def healthCode (ns : Nat) : Nat :=
  if 150 ≤ ns ∧ ns ≤ 350 then 1 else if 400 ≤ ns ∧ ns ≤ 600 then 2 else 3

/-- What the arbiter knows of a device: 0 the primary, 1 the secondary. -/
def arbPeer (s : State) (d : Nat) : ArbPeer := if d = 0 then s.b.but.arbP else s.b.but.arbS

/-- The arbiter learns of a device. -/
def arbLearn (d : Nat) (p : ArbPeer) : List Eff :=
  [updBut fun b => if d = 0 then { b with arbP := p } else { b with arbS := p },
   .set (if d = 0 then F.BUT_ARB_STATUS_CODE_P else F.BUT_ARB_STATUS_CODE_S) p.code]

/-- A device is alive: an edge of its HEALTH has come within the last 4 µs. -/
def arbAlive (s : State) (d : Nat) : Bool := (arbPeer s d).edgeAt.any fun c => decide (s.b.cyc < c + usCyc 4)

/-- A device is eligible. -/
def arbEligible (s : State) (d : Nat) : Bool := arbAlive s d && ((arbPeer s d).code == 1 || (arbPeer s d).code == 2)

/-- The grant is withdrawn. -/
def arbWithdraw (s : State) : List Eff :=
  effIf (s.get F.BUT_ARB_STATUS_GRANT != 0) [.set F.BUT_ARB_STATUS_GRANT 0, updBut fun b => { b with withdrawnAt := s.b.cyc }]

/-- ARB_HEALTH_EDGE: a high time of a device; `inhPin` is the level of TRIP13. The other device's REQUEST withdraws
the holder's grant while the reversion inhibit is released. -/
def arbEdge (d ns : Nat) (inhPin : Bool) : Prog := fun s =>
  if !s.on F.BUT_ARB_CTRL_EN then []
  else
    let code := healthCode ns
    let g := s.get F.BUT_ARB_STATUS_GRANT
    arbLearn d { edgeAt := some s.b.cyc, code := code }
      ++ effIf (g != 0 && g != d + 1 && code == 1 && !s.on F.BUT_ARB_CTRL_INH && !inhPin) (arbWithdraw s)

/-- ARB_HEALTH_TIMEOUT: 4 µs without an edge. -/
def arbTimeout (d : Nat) : Prog := fun s =>
  if !s.on F.BUT_ARB_CTRL_EN || arbAlive s d then []
  else arbLearn d {} ++ effIf (s.get F.BUT_ARB_STATUS_GRANT == d + 1) (arbWithdraw s)

/-- ARB_GRANT_ISSUE: no grant, and BBM has passed since the last withdrawal. -/
def arbIssue : Prog := fun s =>
  if !s.on F.BUT_ARB_CTRL_EN || s.get F.BUT_ARB_STATUS_GRANT != 0
      || decide (s.b.cyc < s.b.but.withdrawnAt + usCyc (s.get F.BUT_ARB_BBM_US)) then []
  else
    let order := [0, 1].filter (fun d => (arbPeer s d).code == 1) ++ [0, 1]
    match order.find? (arbEligible s) with
    | some d => [.set F.BUT_ARB_STATUS_GRANT (d + 1)]
    | none => []

/-- A write of BUT_ARB_CTRL: sources 13 to 15 read as not asserted while EN is set; without it there is no grant. -/
def arbCtrlWrite (v : Nat) : Prog := fun s =>
  let on := v.testBit 0
  thenDo ([.set F.BUT_ARB_CTRL_EN (bit on), .set F.BUT_ARB_CTRL_INH (bit (v.testBit 1))]
      ++ effIf on [.upd fun b => { b with met := { b.met with
          out := setAt (setAt b.met.out 2 false false) 3 false false
          edgeAt := (List.range 4).map fun p =>
            if 2 ≤ p && b.met.out.getD p false then b.cyc else b.met.edgeAt.getD p 0 } }])
    (if on then inOrder [setSource 13 false, setSource 14 false, setSource 15 false]
     else fun s => arbWithdraw s ++ arbLearn 0 {} ++ arbLearn 1 {}) s

/-- The level of a PULSE pin: a grant of the arbiter on PULSE2 and PULSE3, else the pulse of metrology, which is low while
MCLK is absent (R316, R390, R497). -/
def pulsePin (s : State) (p : Nat) : Bool :=
  if 2 ≤ p && s.on F.BUT_ARB_CTRL_EN then !s.b.sys.inReset && s.get F.BUT_ARB_STATUS_GRANT == p - 1
  else s.b.met.out.getD p false

def execButCtrlWrite (v : Word) (s : State) : Result := run (onMain (butCtrlWrite v.toNat)) s
def execButReady (s : State) : Result := run (onMain butReadyEvent) s
def execArbGrantAccept (level : Bool) (s : State) : Result := run (onMain (grantAccept level)) s
def execButTakeover (s : State) : Result := run (onMain butTakeover) s
def execArbGrantRemove (s : State) : Result := run (onMain grantRemove) s
def execButRequest (s : State) : Result := run (onMain butRequest) s
def execRequestExpire (s : State) : Result := run (onMain requestExpire) s
def execRevertHold (s : State) : Result := run (onMain revertHold) s
def execClass0Set (f : Frame) (s : State) : Result := run (onMain (mirSet 0 f)) s
def execClass1Set (f : Frame) (s : State) : Result := run (onMain (mirSet 1 f)) s
def execHardwareSet (f : Frame) (s : State) : Result := run (onMain (mirSet 2 f)) s
def execAcknowledge (f : Frame) (s : State) : Result := run (onMain (acknowledge f)) s
def execStatusFrame (f : Frame) (s : State) : Result := run (onMain (statusRx f)) s
def execMirrorRetry (s : State) : Result := run (onMain mirrorRetry) s
def execMirrorLost (s : State) : Result := run (onMain mirrorLost) s
def execButCommit (s : State) : Result := run (onMain butCommit) s
def execArbHealthEdge (d : Fin 2) (ns : Nat) (inhPin : Bool) (s : State) : Result := run (onMain (arbEdge d ns inhPin)) s
def execArbHealthTimeout (d : Fin 2) (s : State) : Result := run (onMain (arbTimeout d)) s
def execArbGrantIssue (s : State) : Result := run (onMain arbIssue) s

end Sys2Proof.Machine
end

