-- ==== Sys2Proof/Machine/Crn.lean ====
section
/-! DEFINITION. What a register shows, and the Cairn snapshot (R465 to R469). -/

namespace Sys2Proof.Machine

/-! ### What a register shows -/

/-- HST_STATUS: WRBUF_FREE, LINK_UP, IRQ_B, IRQ_A (R433, R437, R439). -/
def hstStatus (s : State) : Nat :=
  bit (irqALow s) + 2 * bit (irqBLow s)
    + 4 * bit (s.on F.HST_CTRL_LINK_EN && s.get (F.LNK_STATUS_ROLE 5) == 6 && s.on (F.LNK_STATUS_READY 5))
    + 256 * (64 - s.b.hst.wbuf.length)

/-- The word that the register at a byte address shows, read without the effects of a read (R450). -/
def viewWord (s : State) (addr : Nat) : Nat :=
  let o := addr % 0x1000
  let base := addr - o
  match RegTable.pageAt addr with
  | none => 0
  | some p =>
    if o = 0 then p.type * 2 ^ 16 + p.inst * 2 ^ 8 + 1
    else if o = 4 then Config.pageRev p.type % 2 ^ 16
    else if o = 0x20 then s.get (lockedFld base) + 2 * s.get (permFld base)
    else if o = 0x24 then s.get (snapSeqFld base)
    else if 0x100 ≤ o ∧ o < 0x200 then s.get ⟨keyAt addr, 32⟩
    else if addr = 0x700C then hstStatus s
    else if addr = 0x7044 then irqSummary s % 2 ^ 32
    else if addr = 0x7048 then irqSummary s / 2 ^ 32
    else regWord s addr

/-! ### Snapshots -/

/-- The page offset of a field's register. -/
def offOf (f : Fld) : Nat := f.key / 32 % 0x1000

/-- `n` registers from a field's register on. -/
def offsFrom (f : Fld) (n : Nat) : List Nat := (List.range n).map fun i => offOf f + 4 * i

/-- The registers that a page of a type copies beside its STATUS, by offset, in the order of their copies. -/
def snapMore (type : Nat) : List Nat :=
  match type with
  | 0x0201 => [offOf F.CLK_HO_TIME_US]
  | 0x0301 => offsFrom (F.MON_TEMP_T 0) 6
  | 0x0502 => [offOf F.CRN_CAUSE_SRC]
  | 0x0601 => [0x044, 0x048]
  | 0x0701 => [offOf F.QUE_WM_STAT_Q]
  | 0x0801 => [offOf (F.LNK_CDR_PHASE 0)]
  | 0x0901 => [offOf F.RDG_OFFSET_THETA, offOf F.RDG_PATHDLY_DLY]
  | 0x0A01 => [offOf F.BUT_FAULT_CAUSE]
  | 0x1001 => [offOf F.KE0_SATFLAGS0_STAGE, offOf F.KE0_SATFLAGS1_STAGE]
  | 0x1101 => offsFrom (F.KE1_CLAMPFLAGS_STAGE 0) 4
  | 0x1201 => [offOf F.GRD_VMIN_V, offOf F.GRD_VPOS_V, offOf F.GRD_FREQ_F]
  | 0x1202 => [offOf F.MPT_ISL_DRIFT_D, offOf F.MPT_SCAN_CNT_N]
  | 0x1401 => [offOf (F.PWM_SB_PAIR 0)]
  | 0x1501 => [offOf (F.CMP_STFAIL_WIN 0)]
  | 0x1502 => [offOf F.GDP_BRK_ON_TIME_US]
  | 0x1801 => [offOf F.FAD_LATE0_CH, offOf F.FAD_LATE1_CH]
  | 0x1802 => [offOf F.FAC_SUSPECT_FC]
  | 0x1A01 => [offOf (F.MET_VAL_VAL 28)]
  | 0x1C01 => offOf F.PHS_REF_AGE_US :: (List.range 4).map fun k => offOf (F.PHS_SET_POSA_A k)
  | 0x1C02 => [offOf F.TWV_CAP_WR_N]
  | 0x2001 => [offOf F.PMP_SPEED_RPM]
  | 0x2401 => [offOf F.PAR_FAULT_CAUSE]
  | 0x2802 => [offOf F.LDG_WR_IDX_SLOT]
  | _ => []

/-- The registers that a page copies, by offset. -/
def snapOffs (type : Nat) : List Nat :=
  match type with
  | 0x0101 => [0x200, 0x00C]
  | 0x1002 => [offOf F.FPM_EVT0_CH, offOf F.FPM_EVT1_CH, 0x00C]
  | 0x1403 => [offOf F.TRP_LATCH0_PAIR, offOf F.TRP_LATCH1_PAIR, offOf F.TRP_FIRST_PAIR, offOf F.TRP_GRP_ACT_GRP]
  | t => 0x00C :: snapMore t

/-- The words that a page's snapshot sources hold now: TIM copies the time, MET its accumulators 24 to 31 and BED the
operating seconds as they stand. -/
def snapWords (s : State) (p : PageInfo) : List Nat :=
  if p.type = 0x0202 then stampWords s ++ [stampFrac s]
  else (snapOffs p.type).map (fun o => viewWord s (p.base + o))
    ++ (if p.type = 0x1A01 then
          (List.range 8).flatMap fun a =>
            let v := s.b.met.keep.acc.getD (24 + a) 0
            [v % 2 ^ 32, v / 2 ^ 32 % 2 ^ 32, v / 2 ^ 64]
        else if p.type = 0x2801 then [s.b.bed.opsec % 2 ^ 32, s.b.bed.opsec / 2 ^ 32]
        else [])

/-- The registers at 0x100 and SNAP_SEQ of a page after a snapshot numbered `seq`. -/
def snapPage (s : State) (seq : Nat) (p : PageInfo) : List Eff :=
  (snapWords s p).zipIdx.map (fun q => Eff.set ⟨keyAt (p.base + 0x100 + 4 * q.2), 32⟩ q.1)
    ++ [.set (snapSeqFld p.base) seq]

/-- CLK_FAB cycles in 1 µs, rounded up. -/
def cycPerUs : Nat := 157

def updCrn (g : Crn → Crn) : Eff := .upd fun b => { b with crn := g b.crn }

/-- CAIRN_SNAPSHOT in a cycle that triggers have named (R465 to R469): the copies show the state before the cycle's own
changes. Triggers whose cycle comes while HELD is set are missed. -/
def cairnSnapshot : Prog := fun s =>
  match s.b.crn.due.find? fun d => decide (d.1 ≤ s.b.cyc) with
  | none => []
  | some (at', src, ev) =>
    let left := updCrn fun c => { c with due := c.due.filter (·.1 != at') }
    if s.on F.CRN_STATUS_HELD then thenDo [left] (crnMiss src (src.testBit 2)) s else
    let seq := if s.get F.CRN_STATUS_SEQ = 65535 then 1 else s.get F.CRN_STATUS_SEQ + 1
    let soon := s.b.crn.lastAt.any fun c => decide (s.b.cyc < c + cycPerUs)
    let miss := soon || s.on F.SYS_GUAR_DIE_LINK
    let w := stampWords s
    thenDo
      ((RegTable.pages.filter fun p => p.die == .main || !miss).flatMap (snapPage s seq)
      ++ [.set F.CRN_STATUS_SEQ seq, .set F.CRN_CAUSE_SRC src, .set F.CRN_CAUSE_FAULT ev,
          .set (F.CRN_TS_W_W 0) (w.getD 0 0), .set (F.CRN_TS_W_W 1) (w.getD 1 0), .set (F.CRN_TS_W_W 2) (w.getD 2 0),
          .set F.CRN_TS_FRAC_FRAC (stampFrac s), .sticky F.CRN_STICKY_SNAP,
          left, updCrn fun c => { c with lastAt := some s.b.cyc, pin := s.get F.CRN_CTRL_PIN_MODE == 2 }]
      ++ effIf miss [.sticky F.CRN_STICKY_PARTIAL]
      ++ effIf (s.on F.CRN_CTRL_HOLD) [.set F.CRN_STATUS_HELD 1])
      (onPower freeze) s

/-- CRN_TRIGGER. -/
def crnTrig : Prog := crnTrigger 1 0 false

/-- CAIRN_PIN_EDGE: the pin has stayed high for 20 ns (R466). -/
def crnPin : Prog := onlyIf (fun s => s.get F.CRN_CTRL_PIN_MODE == 1) (crnTrigger 2 0 false)

/-- CRN_RELEASE (R468). -/
def crnRelease : Prog := fun s => [.set F.CRN_STATUS_HELD 0, updCrn fun c => { c with releasedAt := some s.b.cyc }]

/-- CAIRN_PULSE_END: 1 µs after the last snapshot (R469). -/
def crnPulseEnd : Prog := fun s =>
  effIf (s.b.crn.pin && !s.b.crn.lastAt.any fun c => decide (s.b.cyc < c + cycPerUs)) [updCrn fun c => { c with pin := false }]

def execCrnTrigger (s : State) : Result := run (onMain crnTrig) s
def execCairnPinEdge (s : State) : Result := run (onMain crnPin) s
def execCairnSnapshot (s : State) : Result := run (onMain cairnSnapshot) s
def execCrnRelease (s : State) : Result := run (onMain crnRelease) s
def execCairnPulseEnd (s : State) : Result := run (onMain crnPulseEnd) s

end Sys2Proof.Machine
end

