-- ==== Sys2Proof/Machine/Mon.lean ====
section
/-! DEFINITION. Health monitoring: temperatures, rails, ring oscillators (R472 to R475, R484). -/

namespace Sys2Proof.Machine

def updMon (g : Mon → Mon) : Eff := .upd fun b => { b with mon := g b.mon }

/-- MON_TEMPn in 1/16 °C. -/
def tempOf (s : State) (n : Nat) : Int := s.int (F.MON_TEMP_T n)

/-- A temperature in 1/16 °C as a slot word in °C with e = 8 (R170). -/
def tempSlot (t : Int) : Nat := slotOf 8 ((t : Rat) / 16)

/-- The upper threshold is judged, with 2 °C of hysteresis (R472). -/
def tempHigh (n : Nat) (t : Int) : Prog := fun s =>
  let hi := s.curInt F.MON_TTHR_HI * 16
  let was := s.b.mon.hot.testBit n
  let on := if was then decide (hi - 32 < t) else decide (hi < t)
  let hot := if on then withBit s.b.mon.hot n else clearBit s.b.mon.hot n
  [updMon fun m => { m with hot := hot }, .set F.MON_STATUS_T_WARN (bit (hot != 0))]
    ++ effIf (on && !was) [.sticky F.MON_STICKY_T_HIGH, .led 0x0C01 0 [n, unsignedOf 32 t]]

/-- The lower threshold. -/
def tempLow (n : Nat) (t : Int) : Prog := fun s =>
  let lo := s.curInt F.MON_TTHR_LO * 16
  let was := s.b.mon.cold.testBit n
  let on := if was then decide (t < lo + 32) else decide (t < lo)
  [updMon fun m => { m with cold := if on then withBit m.cold n else clearBit m.cold n }]
    ++ effIf (on && !was) [.sticky F.MON_STICKY_T_LOW, .led 0x0C02 0 [n, unsignedOf 32 t]]

/-- TEMP_SAMPLE: sensor `n` reads `t` in 1/16 °C (R472). -/
def tempSample (n : Nat) (t : Int) : Prog := inOrder
  [ fun s => .set (F.MON_TEMP_T n) (unsignedOf 16 t)
      :: effIf (n == 4 && dieLinkOk s) [.set F.MTC_STATUS_TDIE (unsignedOf 8 (roundDiv t 16))],
    writeSlot (0xF0 + n) (tempSlot t) false,
    tempHigh n t, tempLow n t,
    fun s => [.set F.MON_STATUS_TJ_OUT
      (bit ((List.range 6).any fun k => decide (tempOf s k < -640) || decide (2000 < tempOf s k)))],
    guarUpdate, butFaultUpdate ]

/-- The window of a main-die rail in mV: VDD_CORE, VDD_LANE, VDDA_18, VDDIO_A, VDDIO_B (R474). -/
def railWindow (s : State) (n : Nat) : Nat × Nat :=
  if n = 0 then (760, 840)
  else if n = 1 then (855, 945)
  else if 3 ≤ n ∧ (s.get F.MON_IOSEL_BANK).testBit (n - 3) = true then (3135, 3465)
  else (1710, 1890)

/-- A main-die rail reads a voltage outside its window. -/
def railOutside (s : State) (n mv : Nat) : Bool := decide (mv < (railWindow s n).1 ∨ (railWindow s n).2 < mv)

/-- RAIL_WINDOW_CHANGE: rail `n` reads `mv`, on this side of its window for `ns` nanoseconds: it is outside once that has
lasted MON_RAIL_FILT, and inside again at once; VDD_PWR follows R404 alone (R474). -/
def railChange (n mv ns : Nat) : Prog := fun s =>
  let was := (s.get F.MON_STATUS_RAIL_OUT).testBit n
  let out := if n = 5 then !s.on F.BED_STATUS_VDD_PRESENT
    else railOutside s n mv && (was || decide (s.get F.MON_RAIL_FILT_NS ≤ ns))
  thenDo ([.set (F.MON_RAIL_MV n) mv, putBit s F.MON_STATUS_RAIL_OUT n out]
      ++ effIf (out && !was) [.sticky F.MON_STICKY_RAIL_OUT, .led 0x0C03 0 [n, mv]])
    (inOrder [guarUpdate, butFaultUpdate]) s

/-- MON_COMMIT: HI not above LO is refused. -/
def monLo : Nat := 0x3058
def monHi : Nat := 0x305C
def monCommit : Prog := noted (.page 0x3000 0) fun s =>
  if s.int F.MON_TTHR_HI ≤ s.int F.MON_TTHR_LO then [.sticky F.MON_STICKY_CFG_REJECT]
  else takeGroup .mon monLo monHi
def monAdopt : Prog := fun s => if groupDue s .mon then adoptGroup .mon monLo monHi else []

/-- A write of MON_RAIL_FILT (R474). -/
def railFilt (v : Nat) : Prog := fun _ =>
  let ns := bitsOf v 9 0
  if 100 ≤ ns ∧ ns ≤ 800 then [.set F.MON_RAIL_FILT_NS ns] else [.sticky F.MON_STICKY_CFG_REJECT]

/-- Seconds in a year of operation. -/
def yearS : Nat := 31557600

/-- The drift of a count from its baseline in ppm; without a baseline the spec states none (log entry 3). -/
def driftPpm (s : State) (k count : Nat) : Nat :=
  let base := s.get (F.MON_RO_BASE_N k)
  if base = 0 then fresh s k % 2 ^ 32
  else fieldOf s 32 (roundDiv (((count : Int) - base) * 1000000) base)

/-- The drift records, one per oscillator; which sensor stands nearest is not stated (log entry 3). -/
def driftRecords (counts : List Nat) : Prog := fun s =>
  (List.range 8).flatMap (fun k =>
    [Eff.set (F.MON_RO_N k) (counts.getD k 0),
     Eff.led 0x0C04 0 [k, counts.getD k 0, driftPpm s k (counts.getD k 0), fresh s (8 + k) % 2 ^ 32]])
  ++ [spend 16, .sticky F.MON_STICKY_RO_RECORD, .set F.MON_RO_NEXT_S ((s.b.bed.opsec / yearS + 1) * yearS),
      updMon fun m => { m with driftDue := false }]

/-- The records are written now, or at the next moment at which both dies work (R475). -/
def driftNow (counts : List Nat) : Prog := fun s =>
  if dieLinkOk s && !s.b.sys.pwrReset && !s.b.sys.inReset then driftRecords counts s else [updMon fun m => { m with driftDue := true }]

/-- RO_DRIFT: BED_OPSEC has passed a yearly multiple, the first after one year, or records wait. -/
def roDrift (counts : List Nat) : Prog :=
  onlyIf (fun s => s.b.mon.driftDue || decide (max yearS (s.get F.MON_RO_NEXT_S) ≤ s.b.bed.opsec % 2 ^ 32)) (driftNow counts)

/-- The power die keeps what its own sensor read, for metrology (R300). -/
def dieSensor (n : Nat) (t : Int) : Prog := onlyIf (fun _ => n == 4) fun _ => [.upd fun b => { b with met := { b.met with tdie := t } }]

def execTempSample (n : Fin 6) (t : BitVec 16) (s : State) : Result :=
  run (inOrder [onPower (dieSensor n t.toInt), onMain (tempSample n t.toInt)]) s
def execRailWindowChange (n : Fin 6) (mv ns : BitVec 16) (s : State) : Result :=
  run (onMain (railChange n mv.toNat ns.toNat)) s
def execMonCommit (s : State) : Result := run (onMain monCommit) s
def execRoDrift (counts : List Word) (s : State) : Result := run (roDrift (counts.map BitVec.toNat)) s
def execRoRecord (counts : List Word) (s : State) : Result := run (onMain (driftNow (counts.map BitVec.toNat))) s

end Sys2Proof.Machine
end

