-- ==== Sys2Proof/Machine/Que.lean ====
section
/-! DEFINITION. The queues' own commands and Ridgeline mail (R443 to R445, R448, R449). -/

namespace Sys2Proof.Machine

/-- FILL, NONEMPTY and WM_STAT of a queue follow; a rising WM_STAT bit sets WM (R440, R449). -/
def queShow (q : Nat) : Prog := fun s =>
  let t := s.qRefresh q
  [.set (F.QUE_Q_FILL_W q) (t.get (F.QUE_Q_FILL_W q)), .set F.QUE_STATUS_NONEMPTY (t.get F.QUE_STATUS_NONEMPTY),
   .set F.QUE_WM_STAT_Q (t.get F.QUE_WM_STAT_Q)]
  ++ effIf ((t.get F.QUE_WM_STAT_Q).testBit q && !(s.get F.QUE_WM_STAT_Q).testBit q) [.sticky F.QUE_STICKY_WM]

/-- The word a pop port returns: the word at CONS, 0 when the queue is empty or disabled (R440, R444). -/
def popWord (s : State) (q : Nat) : Nat :=
  if s.cur (F.QUE_Q_SIZE_W q) = 0 ∨ s.qFill q = 0 then 0 else s.word (s.qAddr q (s.get (F.QUE_Q_CONS_W q)))

/-- A pop advances CONS by 1; an empty queue advances nothing (R444). -/
def popAdvance (q : Nat) : Prog := fun s =>
  if s.cur (F.QUE_Q_SIZE_W q) = 0 ∨ s.qFill q = 0 then []
  else thenDo [.set (F.QUE_Q_CONS_W q) ((s.get (F.QUE_Q_CONS_W q) + 1) % 2 ^ 32)] (queShow q) s

/-- QUE_POP: the word goes out and CONS advances. -/
def quePop (q : Nat) : Prog := fun s =>
  thenDo [.upd fun b => { b with hst := { b.hst with out := [popWord s q] } }] (popAdvance q) s

/-- QUE_CONS_WRITE (R443). -/
def queCons (q c : Nat) : Prog := fun s =>
  if (c + 2 ^ 32 - s.get (F.QUE_Q_CONS_W q)) % 2 ^ 32 ≤ s.qFill q then
    thenDo [.set (F.QUE_Q_CONS_W q) c] (queShow q) s
  else [.sticky F.QUE_STICKY_IDX_REJECT]

/-- The regions of two queues overlap in the shadows. -/
def queOverlap (s : State) (q r : Nat) : Bool :=
  let b := fun k => s.get (F.QUE_Q_BASE_W k)
  let z := fun k => s.get (F.QUE_Q_SIZE_W k)
  z q != 0 && z r != 0 && decide (b q < b r + z r) && decide (b r < b q + z q)

/-- The refusals of a queue commit (R445). -/
def queBad (s : State) : Bool :=
  (List.range 32).any fun q =>
    decide (262144 < s.get (F.QUE_Q_BASE_W q) + s.get (F.QUE_Q_SIZE_W q))
      || decide (s.get (F.QUE_Q_SIZE_W q) < s.get (F.QUE_Q_CFG_WM q))
      || (List.range q).any (queOverlap s q)

/-- The byte addresses of the queue group. -/
def queLo : Nat := 0x12200
def queHi : Nat := 0x12600

/-- QUE_COMMIT (R445). -/
def queCommit : Prog := noted (.page 0x12000 0) fun s =>
  if queBad s then [.sticky F.QUE_STICKY_CFG_REJECT] else takeGroup .que queLo queHi

/-- The queue group comes into force; a queue whose BASE or SIZE changes is emptied (R445). -/
def queAdopt : Prog := fun s =>
  let moved := (List.range 32).filter fun q =>
    s.pend (F.QUE_Q_BASE_W q) != s.cur (F.QUE_Q_BASE_W q) || s.pend (F.QUE_Q_SIZE_W q) != s.cur (F.QUE_Q_SIZE_W q)
  if !groupDue s .que then []
  else thenDo (adoptGroup .que queLo queHi
      ++ moved.flatMap fun q => [Eff.set (F.QUE_Q_PROD_W q) 0, Eff.set (F.QUE_Q_CONS_W q) 0]
      ++ [.upd fun b => { b with queNow := b.queNow.filter fun r => !moved.contains r.1 }])
    (inOrder ((List.range 32).map queShow)) s

/-- QUE_IRQ_STAT.WM sets again while any watermark is reached (R449). -/
def wmAgain : Prog := fun s => effIf (s.get F.QUE_WM_STAT_Q != 0) [.set F.QUE_STICKY_WM.irq 1]

/-- MAIL_TX: a write of QUE_MAIL_TX (R448). -/
def mailTx (dest count : Nat) : Prog := fun s =>
  if s.on F.QUE_MAIL_STAT_BUSY || !s.on F.RDG_STATUS_JOINED then [.sticky F.QUE_STICKY_MAIL_REJECT]
  else if count = 0 ∨ 32 < count then []
  else thenDo [.set F.QUE_MAIL_STAT_BUSY 1]
    (originate 3 dest 0x38 (count :: pairWords ((List.range count).map fun k => s.get (F.QUE_MAIL_TXD_W k)))) s

/-- COUNT of a mail frame. -/
def mailCount (f : Frame) : Nat := bitsOf (f.data.getD 0 0) 5 0

/-- A mail frame whose COUNT is 0, exceeds 32 or does not match its LEN. -/
def mailBad (f : Frame) : Bool :=
  mailCount f == 0 || decide (32 < mailCount f) || f.data.length != 1 + (mailCount f + 1) / 2

/-- MAIL_RECEIVE (R448). -/
def mailReceive (n : Nat) (f : Frame) : Prog :=
  deliver n 3 0x38 f fun s =>
    if mailBad f then [.inc F.RDG_CNT_CRC_N 1]
    else effIf (s.on F.QUE_MAIL_EN)
      [.que (s.get F.QUE_MAIL_QUEUE) 6 ((f.src + 2 ^ 16 * mailCount f) :: blockWords f.data (mailCount f))]

def execQuePop (q : Fin 32) (s : State) : Result := run (onMain (quePop q)) s
def execQueConsWrite (q : Fin 32) (c : Word) (s : State) : Result := run (onMain (queCons q c.toNat)) s
def execQueCommit (s : State) : Result := run (onMain queCommit) s
def execMailTx (dest : BitVec 12) (count : BitVec 6) (s : State) : Result := run (onMain (mailTx dest.toNat count.toNat)) s
def execMailReceive (n : Fin 8) (f : Frame) (s : State) : Result := run (onMain (mailReceive n f)) s

end Sys2Proof.Machine
end

