-- ==== Sys2Proof/Machine/Sec.lean ====
section
/-! DEFINITION. Signing, fuses and the metrology lock (R476 to R482, R484). -/

namespace Sys2Proof.Machine

def updSec (g : Sec → Sec) : Eff := .upd fun b => { b with sec := g b.sec }

/-- SEC_STATUS, MTC_STATUS.LOCKED and SEC_IKEY follow the fuses and the locks. -/
def lockShow : Prog := fun s =>
  let c := s.b.sec
  [.set F.SEC_STATUS_MET_LOCK (bit c.metLock), .set F.SEC_STATUS_MET_PERM (bit c.metPerm),
   .set F.SEC_STATUS_ENFORCE (bit c.enforce), .set F.SEC_STATUS_IKEY_FUSED (bit c.ikey.isSome),
   .set F.MTC_STATUS_LOCKED (bit (c.metLock || c.metPerm))]
  ++ (match c.ikey with
      | none => []
      | some ws => (List.range 16).map fun k => .set (F.SEC_IKEY_W k) (ws.getD k 0))

/-- The 16 words of a signature over words (R476). -/
def signatureOf (words : List Nat) : List Nat := (List.range 16).map fun k => Config.sigWord words k % 2 ^ 32

/-- The header of a signed record as its queue would write it now (R441, R476). -/
def signedHeader (s : State) (j : SignJob) : Nat :=
  2 ^ 31 + 2 ^ 24 * (s.b.queSeq.getD j.q 0 % 128) + 2 ^ 16 * (j.type % 256) + (j.words.length + 17) % 0x10000

/-- The signer takes up the challenge when no record waits (R477, R478). -/
def chalNext (c : Sec) : Sec := { c with chalNow := c.jobs.isEmpty && c.chal.isSome }

/-- The challenge is signed. -/
def chalDone (ws : List Nat) : Prog := fun _ =>
  let sig := signatureOf ws
  [updSec fun c => { c with chal := none, chalNow := false }, .set F.SEC_STATUS_SIGN_BUSY 0]
    ++ (List.range 16).map fun k => .set (F.SEC_ATT_W k) (sig.getD k 0)

/-- SIGNATURE_DONE: the record that the signer works on is appended, or the challenge is done; records that come while it works
on the challenge wait (R477, R478). -/
def signatureDone : Prog := fun s =>
  match s.b.sec.jobs, s.b.sec.chal with
  | [], none => []
  | [], some ws => chalDone ws s
  | j :: _, c =>
    match s.b.sec.chalNow, c with
    | true, some ws => chalDone ws s
    | _, _ =>
      [updSec fun c => chalNext { c with jobs := c.jobs.drop 1 }, .inc F.SEC_CNT_SIGNED_N 1,
       .queDone j.q j.type (j.words ++ signatureOf (signedHeader s j :: j.words))]

/-- CHALLENGE (R478); one written while SIGN_BUSY is set takes the place of the other (DESIGN CHOICE, log entry 51). -/
def challenge : Prog := fun s =>
  let ws := s.get F.SEC_DEVID_LO_ID :: s.get F.SEC_DEVID_HI_ID :: (List.range 8).map fun k => s.get (F.SEC_CHAL_W k)
  [updSec fun c => chalNext { c with chal := some ws }, .set F.SEC_STATUS_SIGN_BUSY 1]

/-- The cause for which a fuse command is refused (R480, R484): 0 key, 1 PWM enabled, 2 busy, 3 order. -/
def fuseRefusal (s : State) (cmd key : Nat) : Option Nat :=
  if key ≠ 0x4655 then some 0
  else if (List.range 3).any fun pg => s.on (F.PWM_CTRL_ENABLE pg) then some 1
  else if s.b.sec.fuse.isSome then some 2
  else if (cmd = 1 ∧ s.b.sec.ikey.isSome = true) ∨ (cmd = 2 ∧ s.b.sec.ikey.isSome = false) then some 3
  else none

/-- A fuse command: 1 FUSE_IKEY, 2 FUSE_ENFORCE, 3 FUSE_MET_LOCK (R480). -/
def fuseStart (cmd key : Nat) : Prog := fun s =>
  match fuseRefusal s cmd key with
  | some c => [.sticky F.SEC_STICKY_CMD_REJECT, .led 0x1003 0 [2 ^ cmd, c]]
  | none => [updSec fun c => { c with
      fuse := some (cmd, (List.range 16).map fun k => s.get (F.SEC_IKEY_W k)), fuseAt := s.b.cyc }]

/-- FUSE_DONE, 10 ms after the operation began (R480). -/
def fuseDone : Prog := fun s =>
  match s.b.sec.fuse with
  | none => []
  | some (cmd, ws) => if s.b.cyc < s.b.sec.fuseAt + usCyc 10000 then [] else thenDo
      ([updSec fun c =>
          let d := { c with fuse := none }
          if cmd = 1 then { d with ikey := some ws }
          else if cmd = 2 then { d with enforce := true }
          else { d with metPerm := true },
        .sticky F.SEC_STICKY_FUSE_DONE, .led 0x1001 0 [cmd, 0]] ++ effIf (cmd == 3) [.led 0x1002 0 [1, 0]])
      lockShow s

/-- What MTC_COMMIT can change (R301). -/
def mtcScope : CommitScope := flagScope [F.MTC_STICKY_CFG_REJECT, F.MTC_STICKY_LOCK_REJECT] 0x61200 0x61800

/-- MET_LOCK; an MTC commit of the same CLK_FAB cycle is refused after all (R481). -/
def metLock : Prog := fun s =>
  let late := s.b.commitWas.filter fun w => w.of == .page 0x61000 0 && s.b.commitNow.contains .mtc
  if s.b.sec.metLock then []
  else inOrder
    ([ fun _ => [updSec fun c => { c with metLock := true }, .led 0x1002 0 [0, 0]] ]
      ++ late.reverse.map (fun w => undoCommit mtcScope w (· == .mtc))
      ++ [ fun _ => effIf (!late.isEmpty) (mtcRefuse 0x1C), lockShow ]) s

/-- The volatile lock ends when VDD_PWR has been absent for at least 10 ms (R481). -/
def metUnlock : Prog := thenDo [updSec fun c => { c with metLock := false }] lockShow

/-- VDD_PWR_PRESENT, once VDD_PWR has stood in its window for 1 ms, with the end of the volatile lock (R404, R481). -/
def vddPresentLock (mv us : Nat) : Prog := fun s =>
  let back := !s.on F.BED_STATUS_VDD_PRESENT
  let absent := absentLong s || s.b.bed.offStart || s.b.bed.src == .off
  if us < 1000 then []
  else inOrder [vddPresent mv, onlyIf (fun s => back && absent && s.on F.BED_STATUS_VDD_PRESENT) metUnlock] s

def execVddPwrPresent (mv us : BitVec 16) (s : State) : Result := run (vddPresentLock mv.toNat us.toNat) s
def execSignatureDone (s : State) : Result := run (onMain signatureDone) s
def execChallenge (s : State) : Result := run (onMain challenge) s
def execFuseIkey (key : BitVec 16) (s : State) : Result := run (onMain (fuseStart 1 key.toNat)) s
def execFuseEnforce (key : BitVec 16) (s : State) : Result := run (onMain (fuseStart 2 key.toNat)) s
def execFuseMetLock (key : BitVec 16) (s : State) : Result := run (onMain (fuseStart 3 key.toNat)) s
def execFuseDone (s : State) : Result := run (onMain fuseDone) s
def execMetLock (s : State) : Result := run (onMain metLock) s

end Sys2Proof.Machine
end

