-- ==== Sys2Proof/Machine/Twv.lean ====
section
/-! DEFINITION. The travelling-wave detectors: arrivals, captures, pairs (R335, R337 to R341); their
streams and triggers stand in Streams. -/

namespace Sys2Proof.Machine

/-- The converter of a channel runs in continuous mode on that channel alone (R335). -/
def streams (s : State) (ch : Nat) : Bool :=
  s.curOn (F.FAD_FC_SCAN_CONT (ch / 4)) && s.cur (F.FAD_FC_SCAN_MASK (ch / 4)) == 2 ^ (ch % 4)

/-- The detectors enabled, and those of them whose stream runs. -/
def detEnabled (s : State) : Nat :=
  if s.on F.TWV_CTRL_ENABLE then
    (List.range 8).foldl (fun n k => if s.curOn (F.TWV_DET_CFG_EN k) then withBit n k else n) 0
  else 0
def detStreams (s : State) : Nat :=
  (List.range 8).foldl (fun n k =>
    if (detEnabled s).testBit k && streams s (s.cur (F.TWV_DET_CFG_CH k)) then withBit n k else n) 0

/-- ACTIVE and SUSPENDED follow; each detector that is suspended is recorded (R335); the stream of one that does not act
ends. -/
def twvShow : Prog := fun s =>
  let susp := clearMask (detEnabled s) (detStreams s)
  let new := clearMask susp (s.get F.TWV_STATUS_SUSPENDED)
  [.set F.TWV_STATUS_ACTIVE (detStreams s), .set F.TWV_STATUS_SUSPENDED susp,
   updTwv fun w => { w with hist := w.hist.mapIdx fun k h => if (detStreams s).testBit k then h else [] }]
    ++ effIf (new != 0) [.sticky F.TWV_STICKY_STREAM_LOST]
    ++ ((List.range 8).filter fun k => new.testBit k).map
        fun k => .led 0x7042 0 [k, s.cur (F.TWV_DET_CFG_CH k) / 4]

/-- A segment's arrivals of both ends lie within its window. -/
def inWindow (s : State) (a b : Arrival) : Bool :=
  a.seg == b.seg && ((a.t : Int) - b.t).natAbs ≤ s.cur (F.TWV_SEG_WIN_NS a.seg) * 65536

/-- The earliest partner record that an own arrival can pair with. -/
def partnerOf (s : State) (a : Arrival) : Option Arrival :=
  (s.b.twv.theirs.filter (inWindow s a)).foldl
    (fun best p => match best with | none => some p | some q => if p.t < q.t then some p else some q) none

/-- An own arrival pairs when it can (R341). -/
def pairUp : Prog := fun s =>
  match s.b.twv.mine.find? fun a => (partnerOf s a).isSome with
  | none => []
  | some a =>
    match partnerOf s a with
    | none => []
    | some p =>
      let dt : Int := if s.curOn (F.TWV_SEG_CFG_END a.seg) then (p.t : Int) - a.t else (a.t : Int) - p.t
      [updTwv fun w => { w with mine := w.mine.erase a, theirs := w.theirs.erase p }]
      ++ (if a.valid && p.valid then
            [updTwv fun w => { w with due := w.due ++ [(a.seg, dt, decide (32 < a.hops ∨ 32 < p.hops))] }]
          else [.inc F.TWV_CNT_PAIRSKIP_N 1, .sticky F.TWV_STICKY_PAIR_SKIP])

/-- The segments that name a detector, in order. -/
def segsOf (s : State) (det : Nat) : List (Fin 8) :=
  (List.finRange 8).filter fun k => s.curOn (F.TWV_SEG_CFG_EN k) && s.cur (F.TWV_SEG_CFG_DET k) == det

/-- The words of an arrival record (R338); `num` is the capture's number. -/
def arrivalWords (s : State) (det peak num : Nat) (neg gap : Bool) (t : Nat) : List Nat :=
  let id := match segsOf s det with | k :: _ => s.cur (F.TWV_SEG_CFG_SEG_ID k) | [] => 0xFFFF
  [s.get F.RDG_ADDR_ADDR + det * 2 ^ 12 + 2 ^ 15 * bit neg + id * 2 ^ 16] ++ stampWordsAt s t
    ++ [(stampOf t).frac + s.get F.RDG_STATUS_GM_HOPS * 2 ^ 16 + 2 ^ 24 * bit gap,
        peak + num * 2 ^ 16]

/-- The sample of the largest |y| among the trigger sample, `i` places before the newest, and the following D + 2
(R337). -/
def peakAt (h : List (Int × Nat × Bool)) (d i : Nat) : Nat :=
  ((List.range (d + 3)).map (i - ·)).foldl
    (fun best j => if (frontAt h d best).natAbs < (frontAt h d j).natAbs then j else best) i

/-- The later of the two samples that bracket the first crossing of P / 2: back from the trigger sample while the sample
before it has reached P / 2 already, or on to the first sample that reaches it (R337, log entry 27). -/
def crossingAt (h : List (Int × Nat × Bool)) (d p i : Nat) : Nat → Nat
  | 0 => i
  | n + 1 =>
    let reached (j : Nat) : Bool := p ≤ 2 * (frontAt h d j).natAbs
    if !reached i then crossingAt h d p (i - 1) n
    else if i + 1 + d < h.length && reached (i + 1) then crossingAt h d p (i + 1) n
    else i

/-- The instant at which |y| crosses P / 2 between a sample and the one before it, interpolated linearly. -/
def crossTime (h : List (Int × Nat × Bool)) (d p i : Nat) : Rat :=
  let y (j : Nat) : Rat := (frontAt h d j).natAbs
  let t (j : Nat) : Rat := (h.getD j (0, 0, false)).2.1
  if y i ≤ y (i + 1) then t i else t (i + 1) + (t i - t (i + 1)) * ((p : Rat) / 2 - y (i + 1)) / (y i - y (i + 1))

/-- y at the peak of a detector's trigger `i` samples ago (R337). -/
def topOf (s : State) (det i : Nat) : Int :=
  let h := s.b.twv.hist.getD det []
  let d := s.cur (F.TWV_DET_CFG_D det)
  frontAt h d (peakAt h d i)

/-- A gap lies within the 256 samples before the trigger `i` samples ago, or after it (R338). -/
def gapBefore (s : State) (det i : Nat) : Bool := ((s.b.twv.hist.getD det []).take (i + 257)).any (·.2.2)

/-- How many of the 1,024 samples of the capture of the trigger `i` samples ago follow a gap (R340). -/
def gapsOf (s : State) (det i : Nat) : Nat := (((s.b.twv.hist.getD det []).drop (i - 767)).take 1024).countP (·.2.2)

/-- A trigger has gone on: it ends once its record has been produced and it has no capture to store. -/
def twDone (g g' : TwTrigger) (l : List TwTrigger) : List TwTrigger :=
  (l.map fun q => if q = g then g' else q).filter fun q => !q.told || q.stored

/-- TW_ARRIVAL: the peak of a detector's trigger is known, D + 2 samples after it; the arrival time, the record and what
follows from it (R337, R338). The command names what the detector has found: samples since the trigger, peak, polarity,
gap; it changes nothing where the stream shows otherwise (log entry 7). -/
def twArrival (det peak : Nat) (neg : Bool) (ago : Nat) (gap : Bool) : Prog := fun s =>
  let d := s.cur (F.TWV_DET_CFG_D det)
  let h := s.b.twv.hist.getD det []
  match (s.b.twv.trig.getD det []).find? fun g => !g.told && g.after == ago with
  | none => []
  | some g =>
    let y := topOf s det g.after
    let t := ((crossTime h d peak (crossingAt h d peak g.after h.length)).floor - d * 16777216
      - s.curInt (F.TWV_DET_DLY_DLY det) * 32768).toNat
    let words := arrivalWords s det peak g.num neg gap t
    let a : Fin 8 → Arrival := fun k =>
      { seg := k, t := t / 5, valid := s.on F.TIM_STATUS_VALID, hops := s.get F.RDG_STATUS_GM_HOPS }
    if !(s.get F.TWV_STATUS_ACTIVE).testBit det || ago < d + 2 || peak != y.natAbs
        || neg != decide (y < 0) || gap != gapBefore s det g.after then []
    else inOrder
      [ fun _ => [.set (F.TWV_DET_LAST_POL det) (bit neg), .set (F.TWV_DET_LAST_PEAK det) peak,
                  .sticky F.TWV_STICKY_ARRIVAL, .led 0x7040 0 [det, (stampOf t).ns],
                  updTwv (fun w => { w with
                    trig := modAt w.trig det (twDone g { g with told := true }) []
                    mine := w.mine ++ (segsOf s det).map a })]
          ++ effIf (s.on F.TWV_Q_ARR_EN) [.que (s.get F.TWV_Q_ARR_Q) 2 words],
        onlyIf (fun s => s.on F.TWV_CTRL_TX_EN) (originate 2 (s.get F.TWV_TX_DEST) 0x22 (pairWords words)),
        inOrder ((segsOf s det).map fun _ => pairUp) ] s

/-- Two codes to a word, oldest first. -/
def codeWords (codes : List Nat) : List Nat :=
  (List.range 512).map fun k => codes.getD (2 * k) 0 + codes.getD (2 * k + 1) 0 * 2 ^ 16

/-- TW_CAPTURE_DONE: the 767 samples after the trigger have come; the capture is stored, a sample that the stream does not
reach back to with a free code (R339, R340). -/
def captureDone (det : Nat) (codes : List Nat) (gaps ago : Nat) : Prog := fun s =>
  let h := s.b.twv.hist.getD det []
  match (s.b.twv.trig.getD det []).find? fun g => g.stored && g.after == ago with
  | none => []
  | some g =>
    let first := g.after + 256
    let code (i : Nat) : Nat := match h[first - i]? with
      | some q => unsignedOf 16 q.1
      | none => codes.getD i (fresh s i % 2 ^ 16)
    let t0 := match h[first]? with
      | some q => q.2.1
      | none => (h.getD g.after (0, 0, false)).2.1 - 256 * tuSlot
    let gap := decide (gaps ≠ 0)
    if ago < 767 || gaps != gapsOf s det g.after then []
    else
      [.mems (0xC0000 + 0x200 * (g.num % 128)) (codeWords ((List.range 1024).map code)), clrBit s F.TWV_STATUS_CAPTURING det,
       spend 1024,
       updTwv (fun w => { w with trig := modAt w.trig det (twDone g { g with stored := false }) [] })]
      ++ effIf (s.on F.TWV_Q_CAP_EN)
          [.que (s.get F.TWV_Q_CAP_Q) 3
            ((g.num % 128 + g.num * 2 ^ 8 + det * 2 ^ 16 + 2 ^ 24 * bit gap) :: stampWordsAt s t0)]

/-- TW_ARRIVAL_RECORD: a partner's record (R341). -/
def arrivalRecord (n : Nat) (f : Frame) : Prog :=
  deliver n 2 0x22 f fun s =>
    let w (k : Nat) : Nat := f.data.getD (k / 2) 0 / 2 ^ (32 * (k % 2)) % 2 ^ 32
    let t := timeOf (w 1 + w 2 % 2 ^ 16 * 2 ^ 32) (w 3 % 2 ^ 30) / 5 + w 4 % 2 ^ 16
    let segs : List (Fin 8) := (List.finRange 8).filter fun k =>
      s.curOn (F.TWV_SEG_CFG_EN k) && s.cur (F.TWV_SEG_PART_ADDR k) == f.src
        && s.cur (F.TWV_SEG_CFG_SEG_ID k) == w 0 / 2 ^ 16
    thenDo
      [updTwv fun q => { q with theirs := q.theirs ++ segs.map fun (k : Fin 8) =>
          { seg := k, t := t, valid := (w 2).testBit 31, hops := bitsOf (w 4) 23 16 } }]
      (inOrder (segs.map fun _ => pairUp)) s

/-- A pair is written at the next sample instant (R341). -/
def pairWrite1 (p : Fin 8 × Int × Bool) : Prog := fun s =>
  let n := s.b.twv.count + 1
  let ns : Rat := (p.2.1 : Rat) / 65536
  [.set (F.TWV_SEG_DT_DT p.1) (slotOf 17 ns), .sticky F.TWV_STICKY_PAIR, .led 0x7041 0 [p.1, unsignedOf 32 (roundRat (ns * 100))],
   updTwv fun w => { w with count := n
                            pairSlots := (slotOf 17 ns, intSlot (p.1 + 8 * bit p.2.2 + 16 * (n % 16) : Nat)) }]

/-- TWV at a sample instant; ISLOT 0xA6 and 0xA7 are written at every one (R334, R341). -/
def twvSample : Prog := fun s =>
  inOrder (s.b.twv.due.map pairWrite1 ++
    [fun _ => [updTwv fun w => { w with due := [] }],
     fun s => writeSlots [(0xA6, s.b.twv.pairSlots.1), (0xA7, s.b.twv.pairSlots.2)] s, twvShow]) s

/-- The offset that refuses a commit (R335): of an enabled detector or segment. -/
def twvFault (s : State) : Option Nat :=
  match (List.range 8).find? fun k => s.on (F.TWV_DET_CFG_EN k) &&
      (s.get (F.TWV_DET_CFG_D k) == 0 || 8 < s.get (F.TWV_DET_CFG_D k) || s.get (F.TWV_DET_CFG_THR k) == 0
        || !streams s (s.get (F.TWV_DET_CFG_CH k))) with
  | some k => some (0x200 + 0x10 * k)
  | none => ((List.range 8).find? fun k => s.on (F.TWV_SEG_CFG_EN k) && s.get (F.TWV_SEG_WIN_NS k) == 0).map
      fun k => 0x308 + 0x10 * k

/-- TWV_COMMIT bit 0. -/
def twvCommit : Prog := noted (.page 0x71000 0) fun s =>
  match twvFault s with
  | some off => [.sticky F.TWV_STICKY_CFG_REJECT, .led 0x7044 0 [off, 0]]
  | none => takeGroup .twv 0x71200 0x71380

/-- The next CLK_FAB cycle brings the group into force. -/
def twvAdopt : Prog := thenDo (adoptGroup .twv 0x71200 0x71380) twvShow

/-- TWV_CMD.CNT_CLR. -/
def twvCntClr : Prog := fun _ =>
  [.set F.TWV_CNT_GAP_N 0, .set F.TWV_CNT_CAPDROP_N 0, .set F.TWV_CNT_PAIRSKIP_N 0]

def execTwArrival (det : Fin 8) (peak : BitVec 16) (neg : Bool) (ago : Nat) (gap : Bool) (s : State) : Result :=
  run (onMain (twArrival det peak.toNat neg ago gap)) s
def execTwCaptureDone (det : Fin 8) (codes : List (BitVec 16)) (gaps ago : Nat) (s : State) : Result :=
  run (onMain (captureDone det (codes.map BitVec.toNat) gaps ago)) s
def execTwArrivalRecord (n : Fin 8) (f : Frame) (s : State) : Result := run (onMain (arrivalRecord n f)) s
def execTwvCommit (s : State) : Result := run (onMain twvCommit) s
def execTwvCntClr (s : State) : Result := run (onMain twvCntClr) s

end Sys2Proof.Machine
end

