-- ==== Sys2Proof/Machine/Sys.lean ====
section
/-! DEFINITION. Resets, start-up, permission, the die-to-die path and the test access port (R14, R483, R485 to
R495, R521). -/

namespace Sys2Proof.Machine

def updSys (g : Sys → Sys) : Eff := .upd fun b => { b with sys := g b.sys }

/-! ### The die-to-die path (R14) -/

/-- DIE_LINK sets: 16 consecutive transfers have failed, or the power die is in reset while the main die runs. -/
def dieLinkFail : Prog := fun s =>
  if s.on F.SYS_GUAR_DIE_LINK then []
  else thenDo ([.set F.SYS_GUAR_DIE_LINK 1, .led 0x0403 0 [16, 0]] ++ parDieLink true)
    (inOrder [pmpDieLink true, guarUpdate, butFaultUpdate]) s

/-- DIE_LINK clears: 256 consecutive transfers have passed; the records held are forwarded (R419). -/
def dieLinkRestore : Prog := fun s =>
  if !s.on F.SYS_GUAR_DIE_LINK || s.b.sys.pwrReset then []
  else thenDo ([.set F.SYS_GUAR_DIE_LINK 0] ++ parDieLink false)
    (inOrder [holdForward, pmpDieLink false, lockShow, guarUpdate, butFaultUpdate]) s

/-! ### Configuration registers -/

/-- The byte addresses of a row's fields on the page at `base`. -/
def rowAddrs (base : Nat) (r : Row) : List Nat :=
  (List.range r.n1).flatMap fun i => (List.range r.n2).map fun j => base + r.off + i * r.s1 + j * r.s2

/-- Every RW and RWS field of a page returns to its reset value: shadow, pending value and value in force. -/
def clearConfig (base : Nat) : List Eff :=
  ((RegTable.rowsOf (base / 0x1000)).filter fun r => r.acc == .rw || r.acc == .rws).flatMap fun r =>
    (rowAddrs base r).map fun a => Eff.clear (keyAt a + r.lo) (keyAt a + r.lo + 1)

/-- The lock of a page is released. -/
def clearLock (base : Nat) : List Eff := [.set (lockedFld base) 0, .set (permFld base) 0]

/-! ### Main-die reset (R485, R487, R489) -/

/-- Fields that a main-die reset keeps although their page is on the main die: the qualification of the references,
which continues in reset (R497), stored codes, fuses and test values, the yearly record, what the power die holds of
PMP and PAR. -/
def keptFields : List Fld :=
  [F.CLK_STATUS_REFA_QUAL, F.CLK_STATUS_REFB_QUAL, F.CLK_SEARCH_VALID_A, F.CLK_SEARCH_VALID_B, F.CLK_SEARCH_CODE_A, F.CLK_SEARCH_CODE_B, F.SEC_DEVID_LO_ID,
   F.SEC_DEVID_HI_ID, F.MON_RO_NEXT_S, F.PMP_STATUS_VM_OV, F.PMP_STATUS_VM_UV, F.PMP_STATUS_BOOT_HOLD,
   F.PMP_CNT_BOOT_N, F.PAR_TPS_CTRL_EN, F.PAR_CRC2_CRC, F.PAR_VSAFE_V, F.PAR_PINS_RAW]
  ++ (List.range 8).map F.MON_RO_BASE_N ++ (List.range 16).map F.SEC_PUBKEY_W

/-- The main-die pages at their reset values, but for the fields kept. -/
def clearPages : Prog := fun s =>
  ((RegTable.pages.filter fun p => p.die != .power).map fun p => Eff.clear (keyAt p.base) (keyAt (p.base + 0x1000)))
  ++ keptFields.map (fun f => Eff.set f (s.get f))
  ++ [.force F.PAR_TPS_CTRL_EN (s.cur F.PAR_TPS_CTRL_EN), .pend F.PAR_TPS_CTRL_EN (s.cur F.PAR_TPS_CTRL_EN)]

/-- The groups of the power-die pages MET and MTC. -/
def powerGroup : Group → Bool
  | .metMeasure | .metPulse | .metFreeze | .mtc => true
  | _ => false

/-- Of what both channels of Parapet keep, `n` places each, channel 2 keeps its own. -/
def keepSecond {α : Type} (n : Nat) (d : α) (l : List α) : List α := List.replicate n d ++ l.drop n

/-- What the main-die blocks hold returns to its reset state; a LOCK_FILT that stands below 0.9 V after the detector has
sourced current may stand above 0.6 V: which, a free value says (R44, log entry 54); the power die, Bedrock, the Ledger's own buffer, the
fuses, the locks and the test access port keep theirs. -/
def mainBlocks (b : Blocks) : Blocks :=
  { freeCtr := b.freeCtr + 1, cyc := b.cyc, setNow := b.setNow, waiting := b.waiting.filter powerGroup,
    commitNow := b.commitNow.filter powerGroup, commitWas := [],
    sys := { b.sys with inReset := true, cfgEnded := false, hostPermit := false, waitTmo := false, drvEn := false },
    plumb := { filtHigh := b.plumb.filtHigh || (b.plumb.filtRise && Config.freeNat b.freeCtr % 2 == 1) },
    bed := b.bed, ldg := { b.ldg with hold := [], holdLost := 0 },
    sec := { b.sec with jobs := [], chal := none, chalNow := false },
    mon := { driftDue := b.mon.driftDue }, jtag := b.jtag, met := b.met,
    par := { filt1 := b.par.filt1, filt2 := b.par.filt2, raw1 := b.par.raw1, raw2 := b.par.raw2, st2 := b.par.st2
             fault2 := b.par.fault2, vsafeOk := b.par.vsafeOk, vsafeAt := b.par.vsafeAt, frameAt := b.par.frameAt
             cfg2 := b.par.cfg2, discAt := keepSecond 8 none b.par.discAt, tpsAt := keepSecond 16 none b.par.tpsAt
             missed := keepSecond 16 0 b.par.missed, seen := keepSecond 16 0 b.par.seen
             readback := keepSecond 2 none b.par.readback } }

/-- The causes of a reset, a bit each: 0 POR, 1 BROWNOUT, 2 PIN, 3 SOFT, 4 JTAG. -/
def causeFld : Nat → Fld
  | 0 => F.SYS_RESET_CAUSE_POR
  | 1 => F.SYS_RESET_CAUSE_BROWNOUT
  | 2 => F.SYS_RESET_CAUSE_PIN
  | 3 => F.SYS_RESET_CAUSE_SOFT
  | _ => F.SYS_RESET_CAUSE_JTAG

/-- SYS_RESET_CAUSE as a word. -/
def resetCause (s : State) : Nat := (List.range 5).foldl (fun n c => n + 2 ^ c * s.get (causeFld c)) 0

/-- The main die enters reset by a cause, or another cause joins a reset that is in force; without a supply no reference
is qualified (R487, R489, R497). Parapet is out of RUN and holds the inhibit: its level stands at the output stage from
the reset on, without a record (R13, R367, log entry 54). ISLOT 0x9C reads −1 (R209). MCLK is absent from the reset on (R296). VALID and HOLDOVER clear with an anchor due (R57). -/
def mainReset (cause : Nat) : Prog := fun s =>
  let dark : List Eff := effIf (cause ≤ 1) [.set F.CLK_STATUS_REFA_QUAL 0, .set F.CLK_STATUS_REFB_QUAL 0]
  if s.b.sys.inReset then
    .set (causeFld cause) 1 :: dark ++ effIf (cause ≤ 1) [updSys fun y => { y with resetAt := s.b.cyc }]
  else
    let stage := s.get F.SYS_STATUS_STAGE
    clearPages s
    ++ [.memClear 0x80000 0xC0000, .upd mainBlocks, updSys (fun y => { y with stageBefore := stage, resetAt := s.b.cyc }),
        .set F.SYS_RESET_CAUSE_POR 0, .set (causeFld cause) 1, .set F.PWX_STATUS_INHIBIT 1,
        .set (F.KE0_ISLOT_VAL 0x9C) (intSlot (-1)), .set F.MET_STATUS_RUN 0,
        updMet fun m => { m.low s.b.cyc with mclk := false, mclkAt := if m.mclk then s.b.cyc else m.mclkAt }]
    ++ dark ++ effIf (s.on F.TIM_STATUS_VALID || s.on F.CLK_STATUS_HOLDOVER) anchorDue

/-- SOFT_RESET: SYS_CMD.SOFT_RESET with a key. -/
def softReset (key : Nat) : Prog := fun s =>
  if key = 0x5253 then mainReset 3 s else [.sticky F.SYS_STICKY_SOFT_REJECT, .led 0x0406 0 [key, 0]]

/-- How long a reset lasts at least, in µs: the rails stand for 1 ms, a software reset holds for 1 µs (R485, R487). -/
def resetHold (s : State) : Nat :=
  if s.on F.SYS_RESET_CAUSE_POR || s.on F.SYS_RESET_CAUSE_BROWNOUT then 1000 else bit (s.on F.SYS_RESET_CAUSE_SOFT)

/-- MAIN_RESET_RELEASE: the main die enters CLOCK (R485, R487, R489, R491). -/
def mainRelease : Prog := fun s =>
  if !s.b.sys.inReset || s.b.sys.jtagHold || decide (s.b.cyc < s.b.sys.resetAt + usCyc (resetHold s)) then []
  else inOrder
    [ fun s => [updSys fun y => { y with inReset := false, releaseAt := s.b.cyc }]
        ++ [.sticky F.SYS_STICKY_RESET] ++ effIf (!s.on F.BED_STATUS_VDD_PRESENT) [.set F.MON_STATUS_RAIL_OUT 32],
      lockShow, onlyIf (fun s => s.b.sys.pwrReset) dieLinkFail, guarCauseUpdate, leaveOff ] s

/-! ### Power-die reset (R486, R488) -/

/-- What MET_STATUS shows of the measurement, but for the watch, which Bedrock supplies (R317, R488, log entry 30). -/
def metShown : List Fld :=
  [F.MET_STATUS_RUN, F.MET_STATUS_CYCLE, F.MET_STATUS_SUSPECT, F.MET_STATUS_CHK_PARKED, F.MET_STATUS_SEQ,
   F.MET_STATUS_MISSING_N, F.MET_STATUS_NEUT_MISMATCH, F.MET_STATUS_F_HOLD, F.MET_STATUS_F_RANGE]

/-- POWER_DIE_RESET: VDD_PWR is not present. -/
def powerReset : Prog := fun s =>
  if s.on F.BED_STATUS_VDD_PRESENT || s.b.sys.pwrReset then []
  else inOrder
    [ fun _ => [updSys (fun y => { y with pwrReset := true }),
        updMet fun m => { keep := m.keep, saved := m.saved, mclk := m.mclk, mclkAt := m.mclkAt, watch := m.watch, watchCfg := m.watchCfg, asRem := m.asRem, tdie := m.tdie,
                          edgeAt := (m.low s.b.cyc).edgeAt, whRem := m.whRem, exceed := m.exceed, event := m.event, overSum := m.overSum },
        .upd (fun b => { b with waiting := b.waiting.filter fun g => !powerGroup g }),
        .set F.PMP_STATUS_VM_OV 0, .set F.PMP_STATUS_VM_UV 0, .set F.PMP_STATUS_BOOT_HOLD 0]
        ++ metShown.map (fun f => Eff.set f 0) ++ clearConfig 0x60000 ++ clearConfig 0x61000 ++ clearLock 0x60000 ++ clearLock 0x61000,
      parPowerReset, onMain dieLinkFail ] s

/-! ### Permission (R492 to R494, R521) -/

/-- The conditions of SYS_START.WAIT that do not hold. -/
def waitUnmet (s : State) : Nat :=
  let lanes := (List.range 8).all fun n => !s.on (F.LNK_CTRL_ENABLE n) || s.on (F.LNK_STATUS_READY n)
  s.get F.SYS_START_WAIT &&&
    (bit (!s.on F.SYS_STATUS_DIV_SYNC) + 2 * bit (!s.on F.TIM_STATUS_VALID) + 4 * bit (!lanes)
      + 8 * bit (!s.b.sys.hostPermit))

/-- SYS_START.TMO_MS has passed in WAIT, now or at a START_WAIT_TIMEOUT (R493). -/
def waitOver (s : State) : Bool :=
  s.b.sys.waitTmo || (s.get F.SYS_STATUS_STAGE == 2 && decide (s.b.sys.waitAt + usCyc (1000 * s.get F.SYS_START_TMO_MS) ≤ s.b.cyc))

/-- Permission may be granted (R493). -/
def mayPermit (s : State) : Bool :=
  let w := waitUnmet s
  !s.on F.SYS_STATUS_PERMIT && s.on F.CLK_STATUS_LOCK && s.b.sys.cfgEnded && s.on F.SYS_STATUS_PAR_INIT_DONE
    && !w.testBit 3 && (w % 8 == 0 || waitOver s || s.get F.SYS_START_TMO_MS == 0)

/-- Microseconds since the release of the main die, as a 32-bit counter that saturates. -/
def sinceRelease (s : State) : Nat := min (2 ^ 32 - 1) (cycUs (s.b.cyc - s.b.sys.releaseAt))

/-- PERMISSION_GRANT. -/
def permissionGrant : Prog := fun s =>
  if !mayPermit s then []
  else
    let w := waitUnmet s % 8
    inOrder
      [ fun s => [.set F.SYS_STATUS_PERMIT 1, .set F.SYS_STATUS_STAGE 3, .set F.SYS_T_PERMIT_US (sinceRelease s),
          .led 0x0405 0 [sinceRelease s, w]]
          ++ effIf (w != 0) [.sticky F.SYS_STICKY_PERMIT_TMO] ++ effIf (!s.on F.SYS_STATUS_DIV_SYNC) [.sticky F.CLK_STICKY_DIV_UNSYNC],
        fun s => setDrvEn (!s.on F.BUT_CTRL_ENABLE || s.get F.BUT_STATUS_STATE == butActive) s,
        butShow, guarCauseUpdate, guarOkUpdate 0 ] s

/-- START_WAIT_TIMEOUT: SYS_START.TMO_MS has passed in WAIT. -/
def waitTimeout : Prog := fun s => effIf (waitOver s) [updSys fun y => { y with waitTmo := true }]

/-- SYS_PERMIT: a write of SYS_CMD.PERMIT; while WAIT bit 3 is clear it is ignored. -/
def sysPermit : Prog := fun s =>
  effIf ((s.get F.SYS_START_WAIT).testBit 3) [updSys fun y => { y with hostPermit := true }]

/-- A write of SYS_START; WAIT keeps its value after permission. -/
def startWrite (v : Nat) : Prog := fun s =>
  [.set F.SYS_START_TMO_MS (bitsOf v 31 16)]
    ++ effIf (!s.on F.SYS_STATUS_PERMIT) [.set F.SYS_START_WAIT (bitsOf v 3 0)]

/-! ### Boundary scan (R483) -/

/-- The current boundary-scan instruction changes; EXTEST and HIGHZ hold the main die in reset. -/
def jtagSet (i : JtagInstr) (dr : Nat) (hold : Bool) : Prog := fun s =>
  [.upd fun b => { b with jtag := { b.jtag with instr := i, dr := dr } }, updSys fun y => { y with jtagHold := hold }]
  ++ (if hold then mainReset 4 s else [])

/-- The word of IDCODE: 0x0481_20D3 with the revision in [31:28] (R483, log entry 52). -/
def idcode : Nat := Config.idRevision % 16 * 2 ^ 28 + 0x048120D3

/-- SAMPLE/PRELOAD: `pins` are captured, `guarded` and `free` preloaded; a cell of an output that R483 guards drives
low or nothing, never high. -/
def samplePreload (pins : List Bool) (guarded free : List (Option Bool)) : Prog :=
  (jtagSet .sample 0 false).andThen fun _ => [.upd fun b => { b with jtag := { b.jtag with
    pins := pins, cells := (guarded.map fun c => if c = some true then none else c) ++ free } }]

def execPowerOnReset (s : State) : Result := run (mainReset 0) s
def execBrownout (s : State) : Result := run (mainReset 1) s
def execRstNReset (s : State) : Result := run (mainReset 2) s
def execSoftReset (key : BitVec 16) (s : State) : Result := run (onMain (softReset key.toNat)) s
def execPowerDieReset (s : State) : Result := run powerReset s
def execMainResetRelease (s : State) : Result := run mainRelease s
def execPermissionGrant (s : State) : Result := run (onMain permissionGrant) s
def execStartWaitTimeout (s : State) : Result := run (onMain waitTimeout) s
def execSysPermit (s : State) : Result := run (onMain sysPermit) s
def execDieLinkFail (s : State) : Result := run (onMain dieLinkFail) s
def execDieLinkRestore (s : State) : Result := run (onMain dieLinkRestore) s
def execBypass (s : State) : Result := run (jtagSet .bypass 0 false) s
def execIdcode (s : State) : Result := run (jtagSet .idcode idcode false) s
def execSamplePreload (pins : List Bool) (guarded free : List (Option Bool)) (s : State) : Result :=
  run (samplePreload pins guarded free) s
def execExtest (s : State) : Result := run (jtagSet .extest 0 true) s
def execHighz (s : State) : Result := run (jtagSet .highz 0 true) s

end Sys2Proof.Machine
end

