-- ==== Sys2Proof/Machine/Cfg.lean ====
section
/-! DEFINITION. The configuration images and their check (R456 to R460, R464). -/

namespace Sys2Proof.Machine

def updCfg (g : Cfg → Cfg) : Eff := .upd fun b => { b with cfg := g b.cfg }

/-- A record of an image: a write of words from an address on, or a fill (R457). -/
inductive ImgRec where
  | write (addr : Nat) (ws : List Nat)
  | fill (addr : Nat) (n v : Nat)
  deriving DecidableEq, Repr

/-- What a valid copy holds. -/
structure Img where
  gen : Nat := 0
  signed : Bool := false
  crc : Nat := 0
  recs : List ImgRec := []
  deriving DecidableEq, Repr

/-- The records of a body, which ends with its END record; none when a record is malformed (R457). -/
def parseRecs : Nat → List Nat → Option (List ImgRec)
  | 0, _ => none
  | fuel + 1, h :: n :: ws =>
    let type := h / 2 ^ 28
    let addr := h % 2 ^ 24
    if bitsOf h 27 24 ≠ 0 ∨ addr % 4 ≠ 0 ∨ 16376 < n then none
    else if type = 15 then (if addr = 0 ∧ n = 0 ∧ ws.isEmpty = true then some [] else none)
    else if type = 1 then
      if ws.length < n then none else (parseRecs fuel (ws.drop n)).map fun r => .write addr (ws.take n) :: r
    else if type = 2 then
      match ws with
      | v :: rest => (parseRecs fuel rest).map fun r => .fill addr n v :: r
      | [] => none
    else none
  | _ + 1, _ => none

/-- The word address of copy A (0) or B (1). -/
def imgBase (copy : Nat) : Nat := 0x140000 + 0x4000 * copy

/-- Words of a copy as the main die reads them (R14). -/
def imgWords (s : State) (copy n : Nat) : List Nat :=
  if dieLinkOk s then s.words (imgBase copy) n else List.replicate n 0

/-- The check of a copy: its cause of R471, or what it holds (R459). -/
def checkCopy (s : State) (copy : Nat) : Except Nat Img :=
  let hd := imgWords s copy 8
  let flags := hd.getD 4 0
  let len := hd.getD 3 0
  let signed := flags == 1
  if hd.getD 0 0 ≠ 0x48120CF0 ∨ hd.getD 1 0 ≠ 8 * 2 ^ 16 + 1 ∨ 1 < flags ∨ hd.getD 6 0 ≠ 0 ∨ hd.getD 7 0 ≠ 0 then
    .error 1
  else if len < 16 ∨ 16384 < len then .error 2
  else
    let ws := imgWords s copy len
    let crc := ws.getD (len - 1) 0
    let endAt := len - 1 - (if signed then 16 else 0)
    if crc32 (wordBytes (ws.take (len - 1))) ≠ crc then .error 3
    else match parseRecs len ((ws.take endAt).drop 8) with
      | none => .error 5
      | some recs =>
        let good := if signed then
            (match s.b.sec.ikey with
              | some key => Config.sigVerify (ws.take endAt) ((ws.drop endAt).take 16) key
              | none => false)
          else !s.b.sec.enforce
        if good then .ok { gen := hd.getD 2 0, signed := signed, crc := crc, recs := recs } else .error 4

/-- A copy passes its check. -/
def copyValid (s : State) (copy : Nat) : Bool :=
  match checkCopy s copy with
  | .ok _ => true
  | .error _ => false

/-- GEN of a copy, as it stands. -/
def copyGen (s : State) (copy : Nat) : Nat := (imgWords s copy 3).getD 2 0

def validFld (copy : Nat) : Fld := if copy = 0 then F.CFG_STATUS_VALID_A else F.CFG_STATUS_VALID_B
def genFld (copy : Nat) : Fld := if copy = 0 then F.CFG_GEN_A_GEN else F.CFG_GEN_B_GEN
def failFld (copy : Nat) : Fld := if copy = 0 then F.CFG_STICKY_CHECK_FAIL_A else F.CFG_STICKY_CHECK_FAIL_B
def wrFld (copy : Nat) : Fld := if copy = 0 then F.CFG_CTRL_WR_A else F.CFG_CTRL_WR_B

/-- The result of a check is shown. -/
def showCheck (copy : Nat) : Prog := fun s =>
  [.set (validFld copy) (bit (copyValid s copy)), .set (genFld copy) (copyGen s copy)]

/-- VERIFY_A and VERIFY_B: a verify written while one is running is ignored. -/
def verify (a b : Bool) : Prog := fun s =>
  effIf ((a || b) && !s.on F.CFG_STATUS_VERIFY_BUSY)
    [.set F.CFG_STATUS_VERIFY_BUSY 1, updCfg fun c => { c with verA := a, verB := b }]

/-- VERIFY_DONE: copy A, then copy B. -/
def verifyDone : Prog := fun s =>
  let c := s.b.cfg
  if c.verA then
    thenDo ([updCfg fun c => { c with verA := false }] ++ effIf (!c.verB) [.set F.CFG_STATUS_VERIFY_BUSY 0]) (showCheck 0) s
  else if c.verB then
    thenDo [updCfg (fun c => { c with verB := false }), .set F.CFG_STATUS_VERIFY_BUSY 0] (showCheck 1) s
  else []

/-- IMAGE_WINDOW_WRITE: word `k` of a copy (R413, R464). -/
def imageWrite (copy k v : Nat) : Prog := fun s =>
  let main := s.b.bed.src == .main
  if !dieLinkOk s then []
  else if main && s.on (wrFld copy) && (s.get F.CFG_STATUS_SRC != copy || s.on (validFld (1 - copy))) then
    [.mem (imgBase copy + k) v, .set (validFld copy) 0]
  else effIf (!main) [.sticky F.BED_STICKY_CFG_WR_REJECT] ++ [.sticky F.CFG_STICKY_WR_REJECT]

/-- Copy A is newer than copy B, or as new (R460). -/
def aFirst (s : State) : Bool :=
  let d := (copyGen s 0 + 2 ^ 32 - copyGen s 1) % 2 ^ 32
  d == 0 || decide (d < 2 ^ 31)

/-- An invalid copy at start-up. -/
def showInvalid (copy : Nat) : Prog := fun s =>
  match checkCopy s copy with
  | .ok _ => []
  | .error c => [.sticky (failFld copy), .led 0x1402 0 [copy, c]]

/-- CONFIG_LOAD: CONFIG begins at the end of CLOCK with VDD_PWR present, and both copies are checked (R460, R491). -/
def configLoad : Prog := fun s =>
  if s.get F.SYS_STATUS_STAGE ≠ 0 ∨ s.on F.CLK_STATUS_LOCK = false ∨ s.on F.BED_STATUS_VDD_PRESENT = false
      ∨ s.b.sys.pwrReset = true then []
  else
    let a := copyValid s 0
    let b := copyValid s 1
    inOrder
      [ fun s => [.set F.SYS_STATUS_STAGE 1, updCfg fun c => { c with
          chosen := if a && (!b || aFirst s) then some 0 else if b then some 1 else none, other := a && b }],
        showCheck 0, showCheck 1, showInvalid 0, showInvalid 1 ] s

def execVerifyA (s : State) : Result := run (onMain (verify true false)) s
def execVerifyB (s : State) : Result := run (onMain (verify false true)) s
def execVerifyDone (s : State) : Result := run (onMain verifyDone) s
def execImageWindowWrite (copy : Fin 2) (k : BitVec 14) (v : Word) (s : State) : Result :=
  run (onMain (imageWrite copy k.toNat v.toNat)) s
def execConfigLoad (s : State) : Result := run (onMain configLoad) s

end Sys2Proof.Machine
end

