-- ==== Sys2Proof/Machine/Fad.lean ====
section
/-! DEFINITION. The fast converters: results, urgent conversions (R277 to R286), and the rotation that calibrates
them (R287 to R294). One slot of 102.4 ns is 16 cycles of CLK_FAB. -/

namespace Sys2Proof.Machine

def updFac (g : Fac → Fac) : Eff := .upd fun b => { b with fac := g b.fac }

/-! ### Results (R277, R278, R285) -/

/-- The code of an input voltage in nanovolts, before its limits (R277). -/
def rawCode (nv : Int) : Int := roundDiv ((nv - 900000000) * 65536) 1800000000

/-- The corrected code of a physical converter (R278, log entry 28). -/
def corrected (s : State) (phys : Nat) (code : Int) : Int :=
  clampInt (-32768) 32767 (Config.adcCorrect (s.int (F.FAC_CAL_OFS_OFS phys)) (s.int (F.FAC_CAL_GAIN_DEV phys)) code)

/-- The slot word of channel `n` for a corrected code (R278). -/
def channelSlot (s : State) (n : Nat) (c : Int) : Nat :=
  let fs := s.cur (F.FAD_CH_FS_FS n)
  if fs = 0 then 0
  else slotWord (clampInt (-8388608) 8388607 (roundDiv ((c - s.curInt (F.FAD_CH_OFS_OFS n)) * slotM fs) 32768)) (slotE fs)

/-- The input slot of a channel is written, and its LATE bit with it. -/
def writeChannel (n : Nat) (c : Int) (late : Bool) : Prog := fun s =>
  thenDo [putBit s (if n < 32 then F.FAD_LATE0_CH else F.FAD_LATE1_CH) (n % 32) late]
    (writeSlot n (channelSlot s n c) late) s

/-- What a LATE result records (R285): cause 0 = urgent, 1 = repeat, 2 = moved. -/
def lateRecord (k input cause ago : Nat) : Prog := fun s =>
  let w := stampWordsAt s (s.b.tim.t - ago)
  [.sticky F.FAD_STICKY_LATE, .set F.FAD_LATE_CH_CAUSE cause, .set F.FAD_LATE_CH_INT (bit (decide (4 ≤ input))),
   .set F.FAD_LATE_CH_CH (4 * k + input % 4), .set (F.FAD_LATE_TS_W_W 0) (w.getD 0 0),
   .set (F.FAD_LATE_TS_W_W 1) (w.getD 1 0), .set (F.FAD_LATE_TS_W_W 2) (w.getD 2 0)]

/-! ### The overlaps (R288) -/

/-- States of FAC_STATUS.STATE. -/
def facIdle : Nat := 0
def facCheck : Nat := 1
def facOvl1 : Nat := 2
def facCal : Nat := 3
def facOvl2 : Nat := 4
def facWait : Nat := 5
def facStopped : Nat := 6
def facParked : Nat := 7

def facIn (s : State) (st : Nat) : Bool := s.get F.FAC_STATUS_STATE == st

/-- The converter being visited. -/
def visited (s : State) : Nat := s.get F.FAC_STATUS_VISIT

/-- The running phase of a visit has lasted a number of CLK_FAB cycles (R287). -/
def phaseLasted (s : State) (n : Nat) : Bool := s.b.fac.phaseAt.any fun c => decide (c + n ≤ s.b.cyc)

/-- FCk and FCS sample together: an overlap of its visit runs. -/
def overlaps (s : State) (k : Nat) : Bool :=
  (facIn s facOvl1 || facIn s facOvl2) && visited s == k && s.b.fac.due == 0 && s.b.fac.phaseAt.isSome

/-- The input that both convert in a slot without a conversion of FCk: its lowest enabled external one, or AIN(4k). -/
def extraInput (s : State) (k : Nat) : Nat :=
  ((List.range 4).find? fun i => (s.cur (F.FAD_FC_SCAN_MASK k)).testBit i).getD 0

/-- The corrected code of the other converter of a pair: FCS in OVL1, and in OVL2 FCk with the new coefficients
(R288, R289). -/
def partnerCode (s : State) (q : Sample) (nv : Int) : Int :=
  let code := clampInt (-32768) 32767 (rawCode nv)
  if q.phys = 16 then clampInt (-32768) 32767 (Config.adcCorrect s.b.fac.new.1 s.b.fac.new.2.1 code)
  else corrected s 16 code

/-- A valid pair is taken, of the corrected codes `a` and `b`: a mismatch where they differ by more than OVL_THR. The overlap
ends at the eighth mismatch in a row, or at 1,024 pairs (R288). -/
def overlapPair (k : Nat) (a b : Int) : Prog := fun s =>
  let d := (a - b).natAbs
  effIf (overlaps s k && decide (s.b.fac.pairs < 1024) && decide (s.b.fac.row < 8))
    [updFac fun f => { f with pairs := f.pairs + 1, worst := max f.worst d, diff := d
                              row := if s.cur F.FAC_CFG_OVL_THR < d then f.row + 1 else 0 }]

/-- The result of a sample of FCk at `nv` nanovolts, and at `other` on the converter that it is paired with. -/
def deliverResult (k : Nat) (q : Sample) (nv other : Int) : Prog := fun s =>
  let raw := rawCode nv
  let clip := decide (raw < -32768 ∨ 32767 < raw)
  let c := corrected s q.phys (clampInt (-32768) 32767 raw)
  let n := 4 * k + q.input
  let ext := decide (q.input < 4)
  let late := q.late
  let ago := (s.b.cyc - q.at') * tuFab
  let slotToo := q.kind != 4 && (q.kind != 1 || q.line.any fun u => s.curOn (F.FAD_URG_CFG_TO_SLOT u))
  inOrder
    [ fun s => effIf clip [.sticky F.FAD_STICKY_CLIP]
        ++ effIf (clip && ext) (raiseBit s (if n < 32 then F.FAD_CLIP0_CH else F.FAD_CLIP1_CH) (n % 32))
        ++ (if ext then
              [.set (F.FAD_RAW_CODE n) (unsignedOf 16 c), .set (F.FAD_RAW_CLIP n) (bit clip), .set (F.FAD_RAW_LATE n) (bit late)]
            else [.set (F.FAD_FC_INT_CODE k (q.input - 4)) (unsignedOf 16 c)])
        ++ (match q.line with
            | some u => [.set (F.FAD_URG_RES_CODE u) (unsignedOf 16 c)]
            | none => []),
      onlyIf (fun _ => late) (lateRecord k q.input (q.kind - 1) ago),
      onlyIf (fun _ => ext)
        (inOrder
          [ fun s => phsTake n (slotVal (channelSlot s n c)) (clip || (s.get F.FAC_SUSPECT_FC).testBit q.phys)
              (s.b.tim.t - ago) s,
            onlyIf (fun _ => q.kind == 2 || q.kind == 3) (streamGap n),
            fun s => twvTake n c late (s.b.tim.t - ago) s ]),
      onlyIf (fun _ => slotToo && ext) (writeChannel n c late),
      onlyIf (fun _ => q.pair && !late) (fun s => overlapPair k c (partnerCode s q other) s) ] s

/-- The internal inputs that FCS converts for itself: GND and CAL_P in CHECK, CAL_N too when it calibrates itself
(R288, R289). -/
def fcsConverts (s : State) (input : Nat) : Bool :=
  (facIn s facCheck && (input == 4 || input == 6))
    || (facIn s facCal && visited s == 16 && (input == 4 || input == 5 || input == 6))

/-- FAD_RESULT of FCk: its oldest sample, taken `ago` CLK_FAB cycles (512 ns or more) before, of this input and kind, gave
`nv` nanovolts, and `other` on the converter that it is paired with; it changes nothing where the oldest sample is another
(R279, R284, R288, log entry 7). `k` = 16 is FCS's own conversion of an internal input (R278). -/
def fadResult (k input kind : Nat) (nv other : Int) (ago : Nat) : Prog := fun s =>
  if !s.on F.FAD_CTRL_ENABLE || !s.b.ke0.timer || ago < 80 then []
  else if k = 16 then
    if kind = 0 ∧ fcsConverts s input ∧ phaseLasted s ago then deliverResult 16 { input := input, at' := s.b.cyc - ago, phys := 16 } nv nv s
    else []
  else match (convOf s k).pipe with
  | [] => []
  | q :: rest =>
    if q.at' + ago != s.b.cyc || q.input != input || q.kind != kind then []
    else thenDo [updConv k fun v => { v with pipe := rest }] (deliverResult k q nv other) s

/-! ### Slots (R279, R280, R284) -/

/-- The enabled inputs of FCk in scan order. -/
def scanInputs (s : State) (k : Nat) : List Nat := (List.range 8).filter fun i => (s.cur (F.FAD_FC_SCAN_MASK k)).testBit i

/-- FCk samples an input now; an urgent sample is counted once (R284, R286). -/
def takeSample (k input kind : Nat) (scan : Bool) : Prog := fun s =>
  let v := convOf s k
  let q : Sample := { input := input, at' := s.b.cyc, kind := kind, scan := scan, phys := carrier s k
                      line := if kind = 1 then v.urg.map (·.line) else none, pair := overlaps s k }
  thenDo
    ([updConv k fun v => { v with cur := some q, pipe := v.pipe ++ [q], next := s.b.cyc + 16,
                                  urg := if kind = 1 then none else v.urg }]
      ++ effIf (kind == 1 && !v.urg.any (·.counted)) [.inc F.FAD_CNT_URG_N 1])
    (onlyIf (fun _ => kind == 1) urgShow) s

/-- A slot without a conversion of FCk: in an overlap both converters convert an input (R288). -/
def extraStep (k : Nat) : Prog := fun s => if overlaps s k then takeSample k (extraInput s k) 4 false s else []

/-- The next slot of FCk: the next to sample, or the lowest enabled channel anew in continuous conversion (R279, R280). -/
def slotStep (k : Nat) : Prog := fun s =>
  let v := convOf s k
  if s.b.cyc < v.next then []
  else if !v.live then extraStep k s
  else match v.todo with
    | (i, kind, scan) :: rest => thenDo [updConv k fun v => { v with todo := rest }] (takeSample k i kind scan) s
    | [] =>
      match scanInputs s k with
      | i :: rest =>
        if s.curOn (F.FAD_FC_SCAN_CONT k) then
          thenDo [updConv k fun v => { v with todo := rest.map fun j => (j, 0, false) }] (takeSample k i 0 false) s
        else extraStep k s
      | [] => extraStep k s

/-- The continuous conversion that FCk would take in its next slot. -/
def nextContinuous (s : State) (k : Nat) : Option Nat :=
  match (convOf s k).todo with
  | (i, 0, false) :: _ => some i
  | [] => if s.curOn (F.FAD_FC_SCAN_CONT k) then (scanInputs s k).head? else none
  | _ => none

/-- The conversion in progress of FCk is abandoned without a result. -/
def abortSample (k : Nat) : Eff := updConv k fun v => { v with cur := none, pipe := v.pipe.dropLast }

/-- The positions of the scan move one slot later (R284). -/
def movedOn (l : List (Nat × Nat × Bool)) : List (Nat × Nat × Bool) :=
  l.map fun p => if p.2.2 && p.2.1 == 0 then (p.1, 3, true) else p

/-- URGENT_START: at tu the request of FCk takes effect (R284). In the first slot after a trigger its sample follows in the
second, where a continuous conversion is then missing; an idle converter samples now; a later or continuous conversion is
aborted and sampled again a slot later. The extra conversion of an overlap ends without a result. -/
def urgentStart (k : Nat) : Prog := fun s =>
  let v := convOf s k
  let placed : Urgent → Urgent := fun u => { u with placed := true }
  match v.urg with
  | none => []
  | some u =>
    let input := s.cur (F.FAD_URG_CFG_INPUT u.line)
    if u.placed || s.b.cyc < u.due then []
    else
      match s.b.fad.trigAt.filter (fun t => s.b.cyc < t + 16) with
      | some t =>
        (match nextContinuous s k with
         | some i => if i < 4 then streamGap (4 * k + i) s else []
         | none => [])
        ++ [updConv k fun v => { v with todo := (input, 1, false) :: movedOn v.todo, next := t + 16, live := true,
                                        urg := some (placed u) }]
      | none =>
        match v.cur.filter (fun q => s.b.cyc < q.at' + 16) with
        | some q =>
          let again := (q.input, 2, q.scan)
          if q.kind = 4 then thenDo [abortSample k] (takeSample k input 1 false) s
          else thenDo [abortSample k, updConv k fun v => { v with todo := again :: movedOn v.todo }] (takeSample k input 1 false) s
        | none => takeSample k input 1 false s

/-- A conversion is abandoned, or a position dropped, at a trigger (R280, R281, R294). -/
def scanDrop (k input : Nat) : Prog := fun s =>
  (if input < 4 then streamGap (4 * k + input) s else [])
    ++ [.inc F.FAD_CNT_DROP_N 1]
    ++ effIf (!s.on F.FAD_STICKY_SCAN_DROP)
        [.led 0x6002 0 [carrier s k, 4 * k + input % 4 + 64 * bit (decide (4 ≤ input))]]
    ++ [.sticky F.FAD_STICKY_SCAN_DROP]

/-- What a trigger ends of FCk: an urgent conversion in progress gives its request back, to take effect now; another one is
abandoned, or does not begin where its slot begins with the trigger; positions that have not been sampled are dropped
(R280, R281, R284). -/
def triggerEnds (k : Nat) : Prog := fun s =>
  let v := convOf s k
  inOrder
    ([ fun s =>
        if !inSlot s k then []
        else match v.cur with
          | some q =>
            if q.kind = 1 then
              let back : Urgent := { line := q.line.getD 0, raised := s.b.cyc, due := s.b.cyc, counted := true }
              [abortSample k, updConv k fun v => { v with urg := some back }]
            else if q.kind = 4 ∨ q.at' = s.b.cyc ∧ !q.scan then [abortSample k]
            else thenDo [abortSample k] (scanDrop k q.input) s
          | none => [] ]
      ++ (v.todo.filter (·.2.2)).map fun p => scanDrop k p.1) s

/-- What a trigger starts of FCk: position 1 is sampled, the later ones follow (R279). -/
def triggerStarts (k : Nat) : Prog := fun s =>
  let again : Conv → Conv := fun v => { v with
    todo := [], live := false, cur := none, urg := v.urg.map fun u => if u.placed then { u with placed := false, due := s.b.cyc } else u }
  match scanInputs s k with
  | [] => thenDo [updConv k again] (extraStep k) s
  | i :: rest => thenDo
      [updConv k fun v => { again v with live := true, todo := rest.map fun j => (j, 0, true) }] (takeSample k i 0 true) s

/-- The trigger ends what was in progress, before the mapping changes (R287). -/
def fadEnds : Prog := onlyIf (fun s => s.on F.FAD_CTRL_ENABLE) (inOrder ((List.range 16).map triggerEnds))

/-- The trigger (R279, R282): the committed group comes into force and the scans start. -/
def fadTrigger : Prog := inOrder
  [ fun s => [.set F.FAD_STATUS_TIMER 1, updFad fun f => { f with trigAt := some s.b.cyc }]
      ++ effIf (groupDue s .fad) (adoptGroup .fad 0x54200 0x54600),
    onlyIf (fun s => s.on F.FAD_CTRL_ENABLE) (inOrder ((List.range 16).map triggerStarts)), urgShow ]

/-- One coarse tick of the converters; without FAD_CTRL.ENABLE no conversion takes place (R279, R283). -/
def fadTick : Prog := fun s =>
  if !s.b.ke0.timer then []
  else if !s.on F.FAD_CTRL_ENABLE then
    effIf (s.b.fad.convs.any (· != {}))
      ([updFad fun f => { f with convs := f.convs.map fun _ => {} }, .set F.FAD_STATUS_URG_BUSY 0])
  else inOrder ((List.range 16).map slotStep ++ [onlyIf (fun s => s.get F.FAD_STATUS_URG_BUSY != 0) urgShow]) s

/-- FAD_COMMIT bit 0 (R282). -/
def fadCommit : Prog := noted (.page 0x54000 0) fun _ => takeGroup .fad 0x54200 0x54600

/-- FAD_CMD.CNT_CLR. -/
def fadCntClr : Prog := fun _ =>
  [.set F.FAD_CNT_URG_N 0, .set F.FAD_CNT_URG_DROP_N 0, .set F.FAD_CNT_DROP_N 0]

/-! ### The rotation -/

/-- FCS is suspect. -/
def fcsSuspect (s : State) : Bool := (s.get F.FAC_SUSPECT_FC).testBit 16

/-- A visit ends in a state. -/
def facEnd (st : Nat) : List Eff := [.set F.FAC_STATUS_STATE st, .set F.FAC_STATUS_VISIT 31]

/-- The next to visit after a converter: the named ones in ascending order, then FCS when it calibrates itself. -/
def facNext (s : State) (after : Option Nat) : Option Nat :=
  let from_ := match after with | some k => if k < 16 then k + 1 else 0 | none => 0
  let named := (List.range 16).filter fun k => (s.cur F.FAC_ROT_EN_FC).testBit k
  let rest := named.filter (from_ ≤ ·)
  match rest with
  | k :: _ => some k
  | [] => if s.on F.FAC_CTRL_SELF_CAL && after.any (· < 16) then some 16 else named.head?

/-- A rotation is complete when nothing is left before its first converter. -/
def rotationDone (s : State) (k : Nat) : Bool :=
  let named := (List.range 16).filter fun j => (s.cur F.FAC_ROT_EN_FC).testBit j
  k == 16 || (!s.on F.FAC_CTRL_SELF_CAL && (named.filter (k < ·)).isEmpty)

/-- A visit starts (R287): the committed group comes into force with it (R293). -/
def visitStart : Prog := inOrder
  [ fun s => effIf (groupDue s .fac) (adoptGroup .fac 0x55040 0x5504C),
    fun s => match facNext s s.b.fac.last with
      | some k => [.set F.FAC_STATUS_STATE facCheck, .set F.FAC_STATUS_VISIT k,
          updFac fun f => { f with last := some k, visitAt := some s.b.cyc, phaseAt := if s.b.fad.trigAt = some s.b.cyc then some s.b.cyc else none }]
      | none => [] ]

/-- A value of the rotation's group that a visit starting now uses: the one that waits comes into force with it (R293). -/
def facSet (s : State) (f : Fld) : Nat := if groupDue s .fac then s.pend f else s.cur f

/-- The settings give visits: neither VISIT_MS nor FAC_ROT_EN is 0 (R9, R293). -/
def givesVisits (s : State) : Bool := facSet s F.FAC_CFG_VISIT_MS != 0 && facSet s F.FAC_ROT_EN_FC != 0

/-- FAC_VISIT_START: at a sample instant, VISIT_MS or more after the start of the previous visit. -/
def facVisitStart : Prog := fun s =>
  if s.on F.FAC_CTRL_ENABLE && (facIn s facIdle || facIn s facWait) && s.b.ke0.timer && givesVisits s
      && s.b.fad.trigAt == some s.b.cyc && !s.b.fac.visitAt.any (s.b.cyc < · + usCyc (1000 * facSet s F.FAC_CFG_VISIT_MS))
  then visitStart s else []

/-- FCS is marked suspect and the rotation stops (R290): cause 0 = CHECK, 1 = second mismatch, 2 = itself. -/
def fcsFails (cause : Nat) : Prog := fun s =>
  [.set F.FAC_SUSPECT_FC (withBit (s.get F.FAC_SUSPECT_FC) 16), .sticky F.FAC_STICKY_FCS_SUSPECT,
   .led 0x6014 0 [cause, visited s]] ++ facEnd facStopped

/-- FCS_CHECK_DONE with the means of GND and CAL_P, over 64 conversions of each. -/
def checkDone (gnd calP : Int) : Prog := fun s =>
  let lim := s.cur F.FAC_FCS_LIM_CODES
  if !(facIn s facCheck && phaseLasted s 2048) then []
  else if decide (lim < (gnd - s.b.fac.gnd).natAbs) || decide (lim < (calP - s.b.fac.calP).natAbs) then fcsFails 0 s
  else [.set F.FAC_SUSPECT_FC (clearBit (s.get F.FAC_SUSPECT_FC) 16),
        .set F.FAC_STATUS_STATE (if visited s = 16 then facCal else facOvl1),
        updFac fun f => { f with phaseAt := some s.b.cyc, pairs := 0, row := 0, worst := 0 }]

/-- What FAC_OVL_LAST shows of the overlap. -/
def ovlLast (s : State) : List Eff :=
  [.set F.FAC_OVL_LAST_PAIRS s.b.fac.pairs, .set F.FAC_OVL_LAST_MAXDIFF s.b.fac.worst]

/-- OVL_DONE: after 1,024 valid pairs without a failure the mapping changes at the next sample instant (R287, R288). -/
def ovlDone : Prog := fun s =>
  if !(facIn s facOvl1 || facIn s facOvl2) || s.b.fac.due != 0 || s.b.fac.pairs != 1024 || s.b.fac.row == 8 then []
  else ovlLast s ++ [updFac fun f => { f with due := if facIn s facOvl1 then 1 else 2, dueK := visited s }]

/-- PARKED is entered for converter `k` (R290, R292): cause 0 = AUTO_PARK, 1 = CAL, 2 = OVL2, 3 = command. -/
def parkIn (k cause : Nat) : Prog := fun s =>
  facEnd facParked ++ [.sticky F.FAC_STICKY_PARK, .led 0x6012 0 [k, cause],
    updFac fun f => { f with parkAt := s.b.cyc, due := if f.due = 0 && cause != 0 && cause != 3 then 0 else 3, dueK := k }]

/-- Converter `k` is marked suspect. -/
def suspect (s : State) (k : Nat) : Eff := .set F.FAC_SUSPECT_FC (withBit (s.get F.FAC_SUSPECT_FC) k)

/-- OVL_MISMATCH: the last eight valid pairs differ by more than OVL_THR codes; the record tells the last difference
(R288, R290). -/
def ovlMismatch : Prog := fun s =>
  let k := visited s
  let second := facIn s facOvl1 && s.b.fac.mismatch.any (· != k)
  let marks : List Eff :=
    [suspect s k, .sticky F.FAC_STICKY_OVL_MISMATCH] ++ ovlLast s
      ++ [.led 0x6010 0 [k, s.b.fac.diff % 2 ^ 16 + 2 ^ 16 * bit (facIn s facOvl2)]]
  if s.b.fac.due != 0 || s.b.fac.row != 8 then []
  else if facIn s facOvl1 then
    thenDo (marks ++ [updFac fun f => { f with mismatch := some k }])
      (if second then fcsFails 1
       else if s.on F.FAC_CTRL_AUTO_PARK && !fcsSuspect s then parkIn k 0
       else fun _ => facEnd facStopped) s
  else if facIn s facOvl2 then thenDo marks (parkIn k 2) s
  else []

/-- The step at which a calibration fails its limits (R289): offset in 1/16 code, gain in 2^-24, the worst DAC weight
in 1/16 code, skew in 6.25 ps. -/
def calFault (ofs dev dac skew : Int) : Option Nat :=
  if 8192 < ofs.natAbs then some 0 else if 335544 < dev.natAbs then some 1
  else if 64 < dac.natAbs then some 2 else if 64 < skew.natAbs then some 3 else none

/-- The rotation goes on after a completed visit of `k`. -/
def visitDone (k : Nat) : Prog := fun s =>
  facEnd facWait
  ++ [.set F.FAC_SUSPECT_FC (clearBit (s.get F.FAC_SUSPECT_FC) k), updFac fun f => { f with mismatch := none }]
  ++ effIf (rotationDone s k)
      [.set F.FAC_ROT_CNT_N ((s.get F.FAC_ROT_CNT_N + 1) % 2 ^ 32), .sticky F.FAC_STICKY_ROT_DONE]

/-- Coefficients come into force. -/
def setCoefs (s : State) (k : Nat) (c : Int × Int × Int) : List Eff :=
  [.set (F.FAC_CAL_OFS_OFS k) (unsignedOf 16 c.1), .set (F.FAC_CAL_GAIN_DEV k) (unsignedOf 24 c.2.1),
   .set (F.FAC_CAL_SKEW_SKEW k) (unsignedOf 16 c.2.2), .set (F.FAC_CAL_AGE_ROT k) (s.get F.FAC_ROT_CNT_N)]

/-- CAL_DONE with what the calibration found, and with the means of GND and CAL_P that FCS records of itself
(R289, R290). -/
def calDone (ofs dev dac skew gnd calP : Int) : Prog := fun s =>
  let k := visited s
  if !(facIn s facCal && phaseLasted s (usCyc 29000)) then []
  else match calFault ofs dev dac skew with
    | none =>
      if k = 16 then
        thenDo (setCoefs s 16 (ofs, dev, skew) ++ [updFac fun f => { f with gnd := gnd, calP := calP }]) (visitDone 16) s
      else [.set F.FAC_STATUS_STATE facOvl2,
            updFac fun f => { f with new := (ofs, dev, skew), phaseAt := none, pairs := 0, row := 0, worst := 0 }]
    | some step =>
      if k = 16 then fcsFails 2 s
      else thenDo [suspect s k, .sticky F.FAC_STICKY_CAL_FAIL, .led 0x6011 0 [k, step]] (parkIn k 1) s

/-- The mapping at a sample instant (R287). -/
def facTrigger : Prog := fun s =>
  let f := s.b.fac
  let k := f.dueK
  let carry (on : Bool) : List Eff := [.set F.FAC_STATUS_CARRY (bit on), .set F.FAC_STATUS_CARRY_K (if on then k else 0)]
  if f.due = 0 then
    effIf ((facIn s facCheck || facIn s facOvl2) && f.phaseAt.isNone) [updFac fun f => { f with phaseAt := some s.b.cyc }]
  else inOrder
    [ fun s =>
        [updFac fun f => { f with due := 0 }]
        ++ (if f.due = 1 then carry true ++ [.set F.FAC_STATUS_STATE facCal, updFac fun f => { f with phaseAt := some s.b.cyc }]
            else if f.due = 2 then carry false ++ setCoefs s k f.new
            else carry (f.due == 3)),
      onlyIf (fun _ => f.due == 2) (visitDone k), urgShow ] s

/-- A command is refused. -/
def facRefuse : List Eff := [.sticky F.FAC_STICKY_CMD_REJECT]

/-- FAC_CMD.RESUME: the next visit starts; VISIT_MS or FAC_ROT_EN of 0 gives no visits (R292, R293, log entry 29). -/
def facResume : Prog := fun s =>
  if facIn s facStopped && !fcsSuspect s then
    (if s.on F.FAC_CTRL_ENABLE && givesVisits s then visitStart s
     else [.set F.FAC_STATUS_STATE facIdle])
  else facRefuse

/-- FAC_CMD.UNPARK. -/
def facUnpark : Prog := fun s =>
  let k := if s.b.fac.due = 3 then s.b.fac.dueK else s.get F.FAC_STATUS_CARRY_K
  if facIn s facParked then
    [.set F.FAC_STATUS_STATE facStopped, .led 0x6013 0 [k, cycUs (s.b.cyc - s.b.fac.parkAt) / 1000000],
     updFac fun f => { f with due := 4, dueK := k }]
  else facRefuse

/-- FAC_CMD.CLR_FCS. -/
def clrFcs : Prog := fun s =>
  if facIn s facStopped then [.set F.FAC_SUSPECT_FC (clearBit (s.get F.FAC_SUSPECT_FC) 16)] else facRefuse

/-- FAC_CMD.PARK. -/
def facPark (k : Nat) : Prog := fun s =>
  if (facIn s facIdle || facIn s facWait || facIn s facStopped) && !fcsSuspect s && k < 16 then parkIn k 3 s
  else facRefuse

/-- A write of FAC_CTRL (R291): cleared during a visit, ENABLE cancels a takeover and hands back. -/
def facCtrlWrite (v : Nat) : Prog := fun s =>
  let off := s.on F.FAC_CTRL_ENABLE && !v.testBit 0
  let parked := facIn s facParked
  inOrder
    [ writeFields 0x55008 v,
      fun s => effIf (off && !parked)
        (facEnd facIdle ++ [updFac fun f => { f with
          due := if s.on F.FAC_STATUS_CARRY then 4 else 0, dueK := s.get F.FAC_STATUS_CARRY_K }]) ] s

/-- FAC_COMMIT bit 0 (R293). -/
def facCommit : Prog := noted (.page 0x55000 0) fun s =>
  let ms := s.get F.FAC_CFG_VISIT_MS
  let bad := if (1 ≤ ms ∧ ms ≤ 29) ∨ s.get F.FAC_CFG_OVL_THR = 0 then some 0x44
    else if s.get F.FAC_FCS_LIM_CODES = 0 then some 0x48 else none
  match bad with
  | some off => [.sticky F.FAC_STICKY_CFG_REJECT, .led 0x6015 0 [off, 0]]
  | none => takeGroup .fac 0x55040 0x5504C

def execFadResult (k : Fin 17) (input : Fin 8) (kind : Fin 5) (nv other : Int) (ago : Nat) (s : State) : Result :=
  run (onMain (fadResult k input kind nv other ago)) s
/-- A request comes of FLAG u with FLAG_EN, or of trip source TSRC with TRIP_EN; another one is ignored (R283). -/
def execUrgentRequest (u : Fin 32) (s : State) : Result :=
  run (onMain (onlyIf (fun s => s.curOn (F.FAD_URG_CFG_FLAG_EN u) || s.curOn (F.FAD_URG_CFG_TRIP_EN u)) (urgentRaise u))) s
def execUrgentStart (k : Fin 16) (s : State) : Result := run (onMain (urgentStart k)) s
def execFadCommit (s : State) : Result := run (onMain fadCommit) s
def execFadCntClr (s : State) : Result := run (onMain fadCntClr) s
def execFacVisitStart (s : State) : Result := run (onMain facVisitStart) s
def execFcsCheckDone (gnd calP : Int) (s : State) : Result := run (onMain (checkDone gnd calP)) s
def execOvlDone (s : State) : Result := run (onMain ovlDone) s
def execOvlMismatch (s : State) : Result := run (onMain ovlMismatch) s
def execCalDone (ofs dev dac skew gnd calP : Int) (s : State) : Result :=
  run (onMain (calDone ofs dev dac skew gnd calP)) s
def execFacResume (s : State) : Result := run (onMain facResume) s
def execFacUnpark (s : State) : Result := run (onMain facUnpark) s
def execClrFcs (s : State) : Result := run (onMain clrFcs) s
def execFacPark (k : Fin 32) (s : State) : Result := run (onMain (facPark k)) s
def execFacEnableWrite (v : Word) (s : State) : Result := run (onMain (facCtrlWrite v.toNat)) s
def execFacCommit (s : State) : Result := run (onMain facCommit) s

end Sys2Proof.Machine
end

