-- ==== Sys2Proof/Machine/Phs.lean ====
section
/-! DEFINITION. The phasor sets: estimates, the C37.118.2 payload, the reference phasor, the PHS group
(R325 to R334). -/

namespace Sys2Proof.Machine

/-- The address of the reference node. -/
def refAddr (s : State) : Nat := if s.on F.PHS_CTRL_REF_TX then s.get F.RDG_ADDR_ADDR else s.cur F.PHS_REF_SRC

/-- REF_OK and TIMED_OK follow a reference that has just been taken (R332). -/
def refShow : Prog := fun s =>
  let ok := (refAge s).any fun a => decide (a < 32768000000000)
  [.set F.PHS_STATUS_TIMED_OK (bit (s.b.phs.ref.isSome && s.on F.TIM_STATUS_VALID))]
  ++ effIf ok [.set F.PHS_STATUS_REF_OK 1]
  ++ (match s.b.phs.lostAt with
      | some c => effIf ok [.led 0x7004 0 [refAddr s, cycUs (s.b.cyc - c) / 1000], updPhs fun p => { p with lostAt := none }]
      | none => [])

/-- A newer reference is taken (R332). -/
def takeRef (r : PhasorRef) : Prog := fun s =>
  if s.b.phs.ref.any (fun q => r.t ≤ q.t) then []
  else inOrder
    [ fun _ => [updPhs (fun p => { p with ref := some r }), .set (F.PHS_REF_W_W 0) (r.words.getD 0 0),
                .set (F.PHS_REF_W_W 1) (r.words.getD 1 0), .set (F.PHS_REF_W_W 2) (r.words.getD 2 0)],
      refShow, mptRef r ] s

/-- REF_PHASOR arrives (R331, R332). -/
def refPhasor (n : Nat) (f : Frame) : Prog :=
  deliver n 2 0x21 f fun s =>
    let w (k : Nat) : Nat := f.data.getD (k / 2) 0 / 2 ^ (32 * (k % 2)) % 2 ^ 32
    if f.src ≠ s.cur F.PHS_REF_SRC ∨ s.on F.PHS_CTRL_REF_TX = true then []
    else takeRef { words := [w 0, w 1, w 2], t := timeOf (w 0 + w 1 % 2 ^ 16 * 2 ^ 32) (w 2 % 2 ^ 30), mag := w 3,
                   ang := w 4, f := w 5, rocof := w 6 } s

/-- REF_LOST: the reference age reaches 100 ms. -/
def refPhasorLost : Prog := fun s =>
  let ms := (refAge s).map (fun a => (a / 327680000000).toNat)
  effIf (s.on F.PHS_STATUS_REF_OK && !(refAge s).any fun a => decide (a < 32768000000000))
    [.set F.PHS_STATUS_REF_OK 0, .sticky F.PHS_STICKY_REF_LOST, .led 0x7003 0 [refAddr s, ms.getD 0],
     updPhs fun p => { p with lostAt := some s.b.cyc }]

/-! ### A frame (R327 to R331) -/

/-- The big-endian bytes of a number. -/
def bigEndian : Nat → Nat → List Nat
  | 0, _ => []
  | n + 1, x => x / 2 ^ (8 * n) % 256 :: bigEndian n x

/-- The time quality of FRACSEC (R327). -/
def timeQuality (s : State) : Nat :=
  let hold := s.on F.CLK_STATUS_HOLDOVER
  16 * s.get F.TIM_STATUS_LEAP_PENDING
    + (if s.on F.TIM_STATUS_VALID && !hold then 0
       else if hold && !s.b.plumb.holdLong then s.get F.PHS_TQ_HOLD else 15)

/-- STAT of a set (R328). -/
def statWord (s : State) (e : PhasorEst) : Nat :=
  let inv := s.on F.SYS_GUAR_TIME_INVALID
  let secs := cycUs (s.b.cyc - s.b.phs.invAt) / 1000000
  let near := s.get F.RDG_STATUS_GM_HOPS ≤ 32 || s.on F.TIM_STATUS_GM
  (if s.on F.PHS_CTRL_TEST then 2 ^ 15 else if e.slow || e.fault then 2 ^ 14 else 0)
    + (if inv then 2 ^ 13 else 0)
    + (if inv then 7 * 64 else if near then 64 else 128)
    + (if !inv || secs < 10 then 0 else if secs < 100 then 16 else if secs < 1000 then 32 else 48)

/-- The bytes of a set: STAT, the channels of MASK, FREQ and DFREQ (R327). -/
def setBytes (s : State) (e : PhasorEst) : List Nat :=
  let chan (c : Nat) : List Nat :=
    let p := e.chans.getD c {}
    if !(s.cur (F.PHS_SET_CFG_MASK e.set)).testBit c then []
    else if s.curOn (F.PHS_SET_CFG_FORMAT e.set) then bigEndian 4 p.mag ++ bigEndian 4 p.ang
    else bigEndian 4 p.re ++ bigEndian 4 p.im
  bigEndian 2 (statWord s e) ++ chan 0 ++ chan 1 ++ chan 2 ++ chan 3 ++ bigEndian 4 e.fWord ++ bigEndian 4 e.rocofWord

/-- The payload of the reporting sets (R327). -/
def payload (s : State) (t : Nat) (es : List PhasorEst) : List Nat :=
  let p := stampOf t
  bigEndian 4 ((p.sec + 2 ^ 32 - s.get F.TIM_UTC_OFS_TAI_UTC) % 2 ^ 32)
    ++ bigEndian 4 (timeQuality s * 2 ^ 24 + p.ns / 1000) ++ es.flatMap (setBytes s)

/-- Bytes as words, byte 0 lowest, padded with zero. -/
def packLow (k : Nat) : Nat → List Nat → List Nat
  | 0, _ => []
  | n + 1, bs => ((List.range k).foldl (fun x i => x + bs.getD i 0 * 2 ^ (8 * i)) 0) :: packLow k n (bs.drop k)

/-- Bytes as 64-bit blocks, byte 0 highest, padded with zero (R330). -/
def packHigh : Nat → List Nat → List Nat
  | 0, _ => []
  | n + 1, bs => ((List.range 8).foldl (fun x i => x * 256 + bs.getD i 0) 0) :: packHigh n (bs.drop 8)

/-- The estimates of a set come into its registers. -/
def storeEst (t : Nat) (e : PhasorEst) : List Eff :=
  [updPhs (fun p => { p with sets := setAt p.sets e.set (some (t, e)) none }), .set (F.PHS_SET_POSM_M e.set) e.mag,
   .set (F.PHS_SET_POSA_A e.set) e.ang, .set (F.PHS_SET_F_F e.set) e.f, .set (F.PHS_SET_ROCOF_R e.set) e.rocof]
  ++ effIf e.slow [.sticky F.PHS_STICKY_INPUT_RATE] ++ effIf e.fault [.sticky F.PHS_STICKY_INPUT_FAULT]

/-- The node's own reference: taken and sent (R331, R332). -/
def ownRef (t : Nat) (es : List PhasorEst) : Prog := fun s =>
  match es.find? fun e => e.set == s.cur F.PHS_REF_SET with
  | none => []
  | some e =>
    let w := stampWordsAt s t ++ [e.mag, e.ang, e.f, e.rocof,
      e.set + 4 * s.cur (F.PHS_SET_CFG_CLASS e.set) + 8 * bit (e.slow || e.fault)]
    if !s.on F.PHS_CTRL_REF_TX then []
    else inOrder
      [ takeRef { words := w.take 3, t := t, mag := e.mag, ang := e.ang, f := e.f, rocof := e.rocof },
        originate 2 0xFFF 0x21 (pairWords w) ] s

/-- Reporting starts and stops at a frame instant (R326). -/
def runShow : Prog := fun s =>
  let old := s.get F.PHS_STATUS_RUN
  let new := s.get F.PHS_RUN_SET &&& phsActive s
  let sec := (stampOf s.b.tim.t).sec
  effIf (old != new)
    [.set F.PHS_STATUS_RUN new, updPhs fun p => { p with runWas := ((s.b.tim.t, old) :: p.runWas).take 256 }]
    ++ effIf (clearMask new old != 0) [.led 0x7001 0 [clearMask new old, sec]]
    ++ effIf (clearMask old new != 0) [.led 0x7002 0 [clearMask old new, sec]]

/-- A frame instant has passed: the instants lie at n / F_s after each second boundary (R325, R326). -/
def frameTick : Prog := fun s =>
  let n := s.b.tim.t * s.cur F.PHS_RATE_FS / tuSec
  if n = s.b.phs.frameNo then []
  else thenDo [updPhs fun p => { p with frameNo := n }] runShow s

/-- The sets that report the frame of an instant: those that did until the first change after it (R326). -/
def runAt (s : State) (t : Nat) : Nat :=
  ((s.b.phs.runWas.takeWhile fun r => decide (t < r.1)).getLast?.map (·.2)).getD (s.get F.PHS_STATUS_RUN)

/-- The frame of the reporting sets: queue record and M-class frame (R327, R329, R330). -/
def report (t frame run : Nat) (es : List PhasorEst) : Prog := fun s =>
  let bytes := payload s t (es.filter fun e => run.testBit e.set)
  let words := (bytes.length + run * 2 ^ 16 + frame * 2 ^ 24) :: stampWordsAt s t
    ++ packLow 4 ((bytes.length + 3) / 4) bytes
  let q := s.get F.PHS_Q_QUEUE
  if run = 0 then []
  else
    [.set F.PHS_FRAME_CNT_N ((s.get F.PHS_FRAME_CNT_N + 1) % 2 ^ 32)]
    ++ effIf (s.on F.PHS_Q_EN) [if s.on F.PHS_CTRL_SIGN then .queSign q 1 words else .que q 1 words]
    ++ (if !s.on F.PHS_TX_EN || !s.on F.RDG_CTRL_ENABLE then []
        else if !(ringLanes s).any (carriesRole s) then [.sticky F.PHS_STICKY_TX_DROP]
        else if !s.on F.RDG_STATUS_JOINED then []
        else originate 2 (s.get F.PHS_TX_DEST) 0x20
            (bytes.length * 2 ^ 48 :: packHigh ((bytes.length + 7) / 8) bytes) s)

/-- The estimates of a set for an instant, once they have come. -/
def estOf (s : State) (t : Nat) (k : Fin 4) : Option PhasorEst :=
  ((s.b.phs.sets.getD k none).filter fun p => p.1 == t).map (·.2)

/-- The last estimates of the sets that report an instant have come: their frame is assembled (R327). -/
def reportDue (t frame : Nat) (new : List (Fin 4)) : Prog := fun s =>
  let run := runAt s t
  let ks : List (Fin 4) := (List.finRange 4).filter fun (k : Fin 4) => run.testBit k.val
  if !new.any (fun k => run.testBit k) || !ks.all (fun k => (estOf s t k).isSome) then []
  else report t frame run (ks.filterMap (estOf s t)) s

/-- The estimates of the sets `ks` for an instant. -/
def newEstimates (s : State) (t : Nat) (ks : List (Fin 4)) : List PhasorEst := ks.map fun k => setEstimate s k t

/-- PHASOR_FRAME: the estimates of the sets `sets` for frame instant `frame` of second `sec` have become available, each set's
at its own time; the frame follows the last of the reporting sets (R322, R325, R326, R327). It is computed from the group
that was in force at the instant. -/
def phasorFrame (sec frame sets : Nat) : Prog := fun s0 =>
  let s := phsView s0 sec
  let fs := s.cur F.PHS_RATE_FS
  let t := sec * tuSec + frame * tuSec / fs
  let ks : List (Fin 4) := (List.finRange 4).filter fun (k : Fin 4) => sets.testBit k.val
  let due (k : Fin 4) : Bool := (phsActive s).testBit k && setReady s k t && !(s.b.phs.sets.getD k none).any fun p => decide (t ≤ p.1)
  if fs ≤ frame || ks.isEmpty || !ks.all due then []
  else inOrder
    [ fun _ => spend 64 :: (newEstimates s t ks).flatMap (storeEst t), ownRef t (newEstimates s t ks), reportDue t frame ks,
      inOrder ((newEstimates s t ks).map (mptFrame t)) ] s

/-! ### The sample instant -/

/-- ISLOT 0xA8 to 0xAD of set 0 and so on (R334). -/
def setSlots (s : State) (k : Nat) : List (Nat × Nat) :=
  let e := match s.b.phs.sets.getD k none with
    | some p => if (phsActive s).testBit k then p.2 else {}
    | none => {}
  let b := 0xA8 + 6 * k
  [(b, e.mag), (b + 1, e.ang), (b + 2, e.neg), (b + 3, e.zero), (b + 4, e.f), (b + 5, e.rocof)]

/-- PHS at a sample instant (R332 to R334): 0xA6 and 0xA7 belong to TWV. -/
def phsSample : Prog := fun s =>
  let r := s.b.phs.ref.getD {}
  let age := refAge s
  let ok := s.b.phs.ref.isSome && s.on F.TIM_STATUS_VALID
  thenDo
    [.set F.PHS_STATUS_TIMED_OK (bit ok),
     .set F.PHS_REF_AGE_US (match age with
       | some a => min (2 ^ 32 - 1) (a / 327680000).toNat
       | none => 2 ^ 32 - 1)]
    (writeSlots
      ([(0xA0, r.mag), (0xA1, r.ang), (0xA2, r.f),
        (0xA3, match age with | some a => slotOf 16 ((a : Rat) / 327680000000) | none => 0),
        (0xA4, angleSlot (thetaTimed s)), (0xA5, flagSlot ok)]
        ++ (List.range 4).flatMap (setSlots s))) s

/-! ### Commit and control (R325, R326) -/

/-- A write or commit is refused at a register offset. -/
def phsReject (off : Nat) : List Eff := [.sticky F.PHS_STICKY_CFG_REJECT, .led 0x7005 0 [off, 0]]

/-- The rates of R325. -/
def rateAllowed (s : State) (fs : Nat) : Bool :=
  (if s.on F.PHS_CTRL_F60 then [10, 12, 15, 20, 30, 60, 120, 240] else [10, 25, 50, 100, 200]).contains fs

/-- PHS_COMMIT bit 0: the group waits for the next second boundary. -/
def phsCommit : Prog := noted (.page 0x70000 0) fun s =>
  let fs := s.get F.PHS_RATE_FS
  let bad := (List.range 4).find? fun k =>
    s.on (F.PHS_SET_CFG_EN k) && s.on (F.PHS_SET_CFG_CLASS k) && (fs == 200 || fs == 240)
  if !rateAllowed s fs then phsReject 0x40
  else match bad with
    | some k => phsReject (0x200 + 0x20 * k)
    | none => takeGroup .phs 0x70040 0x70280

/-- ACTIVE follows; a set that computes no more stops reporting. -/
def phsShow : Prog := fun s =>
  let a := phsActive s
  let run := s.get F.PHS_STATUS_RUN
  [.set F.PHS_STATUS_ACTIVE a]
    ++ effIf (clearMask run a != 0)
        [.set F.PHS_STATUS_RUN (run &&& a), .led 0x7002 0 [clearMask run a, (stampOf s.b.tim.t).sec]]

/-- The second boundary brings the committed group into force; a set channel that changes begins a new stream. The group
before it is kept for the frames of earlier instants (R325). -/
def phsAdopt : Prog := fun s =>
  let same (i : Nat) : Bool :=
    s.pend (F.PHS_SET_CFG_EN (i / 3)) == s.cur (F.PHS_SET_CFG_EN (i / 3))
      && phsChannel s.pend (i / 3) (i % 3) == phsChannel s.cur (i / 3) (i % 3)
      && s.pend (F.PHS_SET_DLY_DLY (i / 3) (i % 3)) == s.cur (F.PHS_SET_DLY_DLY (i / 3) (i % 3))
  if groupDue s .phs then inOrder
    [ fun _ => adoptGroup .phs 0x70040 0x70280
        ++ [updPhs fun p => { p with
              old := some { till := nearestSec s.b.tim.t * tuSec, vals := phsFlds.map s.cur, buf := p.buf }
              buf := p.buf.mapIdx fun i l => if same i then l else [] }],
      phsShow ] s
  else []

/-- PHS_CTRL_WRITE. -/
def phsCtrlWrite (v : Nat) : Prog := fun s =>
  let stuck := s.on F.PHS_CTRL_ENABLE && bitsOf v 1 1 != s.get F.PHS_CTRL_F60
  inOrder
    [ writeFields 0x70008 v,
      fun _ => effIf stuck (.set F.PHS_CTRL_F60 (s.get F.PHS_CTRL_F60) :: phsReject 8)
        ++ effIf (!v.testBit 0)
            [updPhs fun p => { p with sets := [none, none, none, none], buf := List.replicate 12 [], old := none }],
      phsShow ] s

def execPhasorFrame (sec : BitVec 48) (frame : Fin 256) (sets : BitVec 4) (s : State) : Result :=
  run (onMain (phasorFrame sec.toNat frame sets.toNat)) s
def execRefPhasor (n : Fin 8) (f : Frame) (s : State) : Result := run (onMain (refPhasor n f)) s
def execRefLost (s : State) : Result := run (onMain refPhasorLost) s
def execPhsCommit (s : State) : Result := run (onMain phsCommit) s
def execPhsCtrlWrite (v : Word) (s : State) : Result := run (onMain (phsCtrlWrite v.toNat)) s

end Sys2Proof.Machine
end

