-- ==== Sys2Proof/Machine/Bus.lean ====
section
/-! DEFINITION. The 24-bit address space: the access rules of R10, R11, R14, R94, R301, R435, R450, R454, R455,
R517, R518, and what a write or a read of each address does. -/

namespace Sys2Proof.Machine

/-- Who accesses: the two host ports, each with the start address of its transaction; a remote node; the configuration
loader. -/
inductive Origin where
  | qspi (start : Nat) | link (start : Nat) | remote | loader
  deriving DecidableEq, Repr

/-- What lies at a byte address (R516 to R518). -/
inductive Region where
  | page (base o : Nat)
  | prog (eng k : Nat) (hi : Bool)
  | param (eng i : Nat)
  | main (a : Nat)
  | ledger (a : Nat)
  | image (copy k : Nat)
  | unmapped
  deriving DecidableEq, Repr

/-- The region of a word-aligned byte address. -/
def regionOf (a : Nat) : Region :=
  if a < 0x100000 then
    match RegTable.pageAt a with
    | some p => .page p.base (a % 0x1000)
    | none => .unmapped
  else if a < 0x104000 then .prog 0 ((a - 0x100000) / 8) (a / 4 % 2 == 1)
  else if 0x108000 ≤ a ∧ a < 0x109000 then .param 0 ((a - 0x108000) / 4)
  else if 0x110000 ≤ a ∧ a < 0x118000 then .prog 1 ((a - 0x110000) / 8) (a / 4 % 2 == 1)
  else if 0x118000 ≤ a ∧ a < 0x11C000 then .param 1 ((a - 0x118000) / 4)
  else if 0x120000 ≤ a ∧ a < 0x130000 then .main (a / 4)
  else if 0x200000 ≤ a ∧ a < 0x340000 then .main (a / 4)
  else if 0x400000 ≤ a ∧ a < 0x480000 then .ledger (a / 4)
  else if 0x500000 ≤ a ∧ a < 0x520000 then .image ((a - 0x500000) / 0x10000) (a % 0x10000 / 4)
  else .unmapped

/-- The pages of the power die that R14 makes absent. -/
def powerPage (base : Nat) : Bool := base == 0x60000 || base == 0x61000 || base == 0xA0000 || base == 0xA1000

/-- Pages and windows that answer as the power die does: MET, MTC, PMP, PAR, BED, LDG, the Ledger window and the image
windows (R430, R431). -/
def slowRegion : Region → Bool
  | .page base _ => powerPage base || base == 0x80000 || base == 0x90000
  | .ledger _ | .image _ _ => true
  | _ => false

/-- Pages whose CTRL.ENABLE reads 1 and ignores a write of 0. -/
def alwaysOn (base : Nat) : Bool :=
  [0x0, 0x1000, 0x2000, 0x3000, 0x4000, 0x6000, 0x7000, 0x44000, 0x90000, 0xA0000, 0xA1000].contains base

/-! ### Locks (R454, R455) -/

/-- LOCK with key 0x4C4B. -/
def lockPage (base : Nat) (perm : Bool) : Prog := fun s =>
  .set (lockedFld base) 1 :: effIf (perm && !s.on (permFld base)) [.set (permFld base) 1]

/-- LOCK with key 0x554C. -/
def unlockPage (base : Nat) : Prog := fun s =>
  if s.on (permFld base) then [.sticky F.CFG_STICKY_LOCK_REJECT] else [.set (lockedFld base) 0]

/-- LOCK with any other key. -/
def keyBad (base key : Nat) : Prog := fun _ => [.sticky F.CFG_STICKY_KEY_BAD, .led 0x1405 0 [base, key]]

/-- A write of LOCK. -/
def lockWrite (base v : Nat) : Prog :=
  let key := bitsOf v 31 16
  if key = 0x4C4B then lockPage base (v.testBit 1)
  else if key = 0x554C then unlockPage base
  else keyBad base key

/-- Every field of a register is W1C. -/
def allW1c (addr : Nat) : Bool :=
  let rs := fieldsAt addr
  !rs.isEmpty && rs.all fun r => r.acc == .w1c || r.acc == .ro

/-- A register that only reads: PAGE_ID, PAGE_REV, STATUS, SNAP_SEQ, a snapshot copy, or RO fields alone. -/
def readOnlyReg (base o : Nat) : Bool :=
  let rs := fieldsAt (base + o)
  o == 0 || o == 4 || o == 0xC || o == 0x24 || (0x100 ≤ o && o < 0x200)
    || (!rs.isEmpty && rs.all fun r => r.acc == .ro)

/-- A register that a lock protects: CTRL, COMMIT, and registers with RW, RWS or WO fields. -/
def lockedReg (base o : Nat) : Bool :=
  o == 0x1C || (o != 0x14 && o != 0x20 && !allW1c (base + o)
    && (fieldsAt (base + o)).any fun r => r.acc == .rw || r.acc == .rws || r.acc == .wo)

/-- The page whose lock governs a region. -/
def lockBase : Region → Option Nat
  | .page base o => if lockedReg base o then some base else none
  | .prog eng _ _ | .param eng _ => some (0x20000 + 0x10000 * eng)
  | _ => none

/-- The write is refused by a page lock. -/
def lockRefuses (s : State) (r : Region) : Bool := (lockBase r).any fun b => s.on (lockedFld b)

/-! ### COMMIT (R452) -/

/-- The groups of a page's COMMIT bits. -/
def commitsOf (base v : Nat) : List Prog :=
  let n := base / 0x1000 % 16
  match base with
  | 0x01000 => [clkPhaseCommit]
  | 0x02000 => [todCommit]
  | 0x03000 => [monCommit]
  | 0x10000 => [fun s => schedCommit (v % 256) s]
  | 0x11000 => [butCommit]
  | 0x12000 => [queCommit]
  | 0x20000 => [ke0TimingCommit, paramSwapCommit 0]
  | 0x21000 => [fpmCommit]
  | 0x30000 => [ke1EntryCommit, paramSwapCommit 1]
  | 0x40000 | 0x41000 | 0x42000 => [pwmCommit n]
  | 0x43000 => [commitPair 31 48, auxCommit]
  | 0x44000 => [trpCommit]
  | 0x45000 => [gdpProfileCommit, gdpBrakeCommit]
  | 0x50000 | 0x51000 | 0x52000 | 0x53000 => [cmpCommit n]
  | 0x54000 => [fadCommit]
  | 0x55000 => [facCommit]
  | 0x60000 => [metMeasureCommit, metPulseCommit, metFreezeCommit]
  | 0x61000 => [mtcCommit]
  | 0x70000 => [phsCommit]
  | 0x71000 => [twvCommit]
  | 0x72000 => [profileCommit, settingsCommit]
  | 0x73000 => [scanCommit, islandCommit]
  | 0x80000 => [pmpCommit]
  | 0x90000 => [parCommit]
  | _ => []

/-- A write of COMMIT: each bit that names a group commits it; RDG_COMMIT names its eight slots. -/
def commitWrite (base v : Nat) : Prog :=
  if base = 0x10000 then fun s => if v % 256 = 0 then [] else schedCommit (v % 256) s
  else inOrder ((commitsOf base v).zipIdx.map fun q => if v.testBit q.2 then q.1 else fun _ => [])

/-- The groups that a COMMIT bit of a page commits. -/
def groupsOf (base bit : Nat) : List Group :=
  match base, bit with
  | 0x01000, 0 => [.clkPhase]
  | 0x03000, 0 => [.mon]
  | 0x11000, 0 => [.but]
  | 0x12000, 0 => [.que]
  | 0x20000, 0 => [.ke0Timing]
  | 0x21000, 0 => [.fpm]
  | 0x30000, 0 => [.ke1Entry]
  | 0x43000, 1 => [.aux]
  | 0x44000, 0 => [.trp]
  | 0x45000, 0 => [.gdpProfile]
  | 0x45000, 1 => [.gdpBrake]
  | 0x54000, 0 => [.fad]
  | 0x55000, 0 => [.fac]
  | 0x60000, 0 => [.metMeasure]
  | 0x60000, 1 => [.metPulse]
  | 0x60000, 2 => [.metFreeze]
  | 0x61000, 0 => [.mtc]
  | 0x70000, 0 => [.phs]
  | 0x71000, 0 => [.twv]
  | 0x72000, 0 => [.grdProfile]
  | 0x72000, 1 => [.grdSettings]
  | 0x73000, 0 => [.mptScan]
  | 0x73000, 1 => [.mptIsland]
  | 0x80000, 0 => [.pmp]
  | 0x90000, 0 => [.par]
  | _, _ => if 0x50000 ≤ base ∧ base < 0x54000 then (List.range 16).map fun i => .cmp (16 * (base / 0x1000 % 16) + i) else []

/-- The commits of the running cycle on a page, as they were made. -/
def pageCommits (s : State) (base : Nat) : List (CommitWas × Nat) :=
  s.b.commitWas.filterMap fun w => match w.of with
    | .page b bit => if b = base then some (w, bit) else none
    | .pair _ _ => none

/-- A shadow of a page has been written: the commits of the page in the running cycle are judged anew (R452). -/
def rejudge (base : Nat) : Prog := fun s =>
  let l := pageCommits s base
  inOrder
    (l.reverse.map (fun q => undoCommit (pageScope base) q.1 fun g => (groupsOf base q.2).contains g)
      ++ l.map fun q => if base = 0x10000 then slotCommit q.2 else (commitsOf base 0).getD q.2 fun _ => []) s

/-! ### Registers with a meaning of their own -/

/-- Commands of a WO register: the meaning of each bit that is written as 1. -/
def cmdBits (v : Nat) (ps : List (Nat × Prog)) : Prog :=
  inOrder (ps.map fun q => if v.testBit q.1 then q.2 else fun _ => [])

/-- A plain write; CTRL.ENABLE of the pages that always run stays 1. -/
def plainWrite (base o v : Nat) : Prog :=
  writeFields (base + o) (if o = 8 ∧ alwaysOn base = true ∧ v % 2 = 0 then v + 1 else v)

/-- CTRL of the pages where it acts. -/
def ctrlWrite (base v : Nat) : Prog :=
  let n := base / 0x1000 % 16
  match base with
  | 0x02000 => timCtrlWrite v
  | 0x05000 => fun s =>
    let w := if bitsOf v 3 2 = 3 then v % 4 + 4 * s.get F.CRN_CTRL_PIN_MODE else v
    writeFields 0x5008 w s ++ effIf (bitsOf w 3 2 != 2) [.upd fun b => { b with crn := { b.crn with pin := false } }]
  | 0x07000 => (plainWrite base 8 v).andThen (inOrder [rolesUpdate, guarUpdate])
  | 0x08000 | 0x09000 | 0x0A000 | 0x0B000 | 0x0C000 | 0x0D000 | 0x0E000 | 0x0F000 => lnkCtrlWrite (n - 8) v
  | 0x10000 => rdgCtrlWrite v
  | 0x11000 => (butCtrlWrite v).andThen rolesUpdate
  | 0x20000 => ke0CtrlWrite v
  | 0x21000 => inOrder [writeFields 0x21008 v, onlyIf (fun s => !s.on F.FPM_CTRL_ENABLE) fpmOff, fpmStatus]
  | 0x30000 => ke1CtrlWrite v
  | 0x40000 | 0x41000 | 0x42000 | 0x43000 => pwmCtrlWrite n v
  | 0x45000 => gdpCtrlWrite v
  | 0x50000 | 0x51000 | 0x52000 | 0x53000 => cmpCtrlWrite n v
  | 0x55000 => facCtrlWrite v
  | 0x60000 => metCtrlWrite v
  | 0x70000 => phsCtrlWrite v
  | 0x71000 => (writeFields 0x71008 v).andThen twvShow
  | 0x72000 => grdCtrlWrite v
  | 0x73000 => mptCtrlWrite v
  | 0x80000 => pmpCtrlWrite v
  | 0xA0000 => (plainWrite base 8 v).andThen bedCtrl
  | _ => plainWrite base 8 v

/-- Registers of the pages SYS to HST. -/
def writeSystem (base o v : Nat) : Prog :=
  match base, o with
  | 0x0000, 0x40 => startWrite v
  | 0x0000, 0x44 => cmdBits v [(0, sysPermit), (1, softReset (bitsOf v 31 16))]
  | 0x1000, 0x4C => cmdBits v [(0, relockFull), (1, clkSwitch), (2, clearStored)]
  | 0x2000, 0x58 => cmdBits v [(0, invalidate), (1, if v.testBit 2 then fun _ => [] else leapSet), (2, leapClr)]
  | 0x3000, 0x5C => railFilt v
  | 0x3000, 0xC4 => cmdBits v [(0, fun s => driftNow ((List.range 8).map fun k => s.get (F.MON_RO_N k)) s)]
  | 0x4000, 0x48 =>
    let key := bitsOf v 31 16
    cmdBits v [(0, metLock), (1, fuseStart 1 key), (2, fuseStart 2 key), (3, fuseStart 3 key), (4, challenge)]
  | 0x5000, 0x40 => cmdBits v [(0, crnTrig)]
  | 0x5000, 0x44 => cmdBits v [(0, crnRelease)]
  | 0x6000, 0x4C => verify (v.testBit 0) (v.testBit 1)
  | _, _ =>
    if base = 0x4000 ∧ 0xC0 ≤ o ∧ o < 0x100 then onlyIf (fun s => s.b.sec.ikey.isNone) (plainWrite base o v)
    else plainWrite base o v

/-- Registers of a LNK page; LNK_TX and LNK_RX of the upper lane of a group ignore writes (R102), and EQ shows the
result of the automatic equaliser while EQ_AUTO is set. -/
def writeLane (n o v : Nat) : Prog :=
  match o with
  | 0x40 => onlyIf (fun s => !upperBonded s n) (plainWrite (0x8000 + 0x1000 * n) o v)
  | 0x44 => onlyIf (fun s => !upperBonded s n) fun s =>
    writeFields (0x8044 + 0x1000 * n) (if v.testBit 4 then v / 16 * 16 + s.get (F.LNK_RX_EQ n) else v) s
  | 0x48 => cmdBits v [(0, retrain n), (1, bitslip n), (2, prbsCntClr n), (3, prbsInject n)]
  | 0x4C => lnkLoopWrite n v
  | 0x50 => lnkPrbsWrite n v
  | _ => plainWrite (0x8000 + 0x1000 * n) o v

/-- Registers of RDG, BUT and QUE. -/
def writeRing (base o v : Nat) : Prog :=
  match base, o with
  | 0x10000, 0x40 => onlyIf (fun s => !s.on F.RDG_CTRL_ENABLE) (plainWrite base o v)
  | 0x10000, 0x78 => cmdBits v [(0, rdgCntClr), (1, recal)]
  | 0x10000, 0x7C => itCmd (v % 0x10000)
  | 0x10000, 0x88 => raccCmd (v.testBit 8) (v % 16)
  | 0x10000, 0xC4 => bulkCmd (bitsOf v 26 22) (bitsOf v 10 0)
  | 0x11000, 0x48 => cmdBits v [(0, butRequest)]
  | 0x11000, 0x80 => arbCtrlWrite v
  | 0x11000, 0x88 => if v % 256 = 0 then fun _ => [] else plainWrite base o v
  | 0x12000, 0x10 => (plainWrite base o v).andThen wmAgain
  | 0x12000, 0x4C => mailTx (bitsOf v 27 16) (v % 64)
  | _, _ =>
    if base = 0x10000 ∧ 0x44 ≤ o ∧ o < 0x5C then (plainWrite base o v).andThen (inOrder [rolesUpdate, ringShow, guarUpdate])
    else if base = 0x12000 ∧ 0x200 ≤ o ∧ o < 0x600 ∧ o % 0x20 = 0x10 then queCons ((o - 0x200) / 0x20) v
    else plainWrite base o v

/-- Registers of KE0, FPM, KE1, GRD and MPT. -/
def writeEngine (base o v : Nat) : Prog :=
  match base, o with
  | 0x20000, 0x4C => cmdBits v [(0, kCheckStart 0)]
  | 0x30000, 0x64 => cmdBits v [(0, kCheckStart 1), (1, rmaxClr)]
  | 0x20000, 0x58 | 0x20000, 0x5C => (plainWrite base o v).andThen satCleared
  | 0x21000, 0x48 => fpmRelease 0 v
  | 0x21000, 0x4C => fpmRelease 1 v
  | 0x21000, 0x68 => cmdBits v [(0, satRel)]
  | 0x72000, 0x44 => nominalWrite 0 v
  | 0x72000, 0x48 => nominalWrite 1 v
  | 0x72000, 0x4C => nominalWrite 2 v
  | 0x72000, 0x6C => cmdBits v [(0, grdClear), (1, relearn)]
  | 0x73000, 0x58 => cmdBits v [(0, roundStart), (1, mptAbortCmd), (2, islClear)]
  | _, _ =>
    if base = 0x20000 ∧ 0x400 ≤ o ∧ o < 0x600 then
      (plainWrite base o v).andThen (onlyIf (fun s => kStopped (s.get F.KE0_STATUS_STATE)) (safeValues 0))
    else if base = 0x30000 ∧ 0x400 ≤ o ∧ o < 0x700 then
      (plainWrite base o v).andThen (onlyIf (fun s => kStopped (s.get F.KE1_STATUS_STATE)) (safeValues 1))
    else plainWrite base o v

/-- Registers of PWM0 to PWM2, PWX, TRP, GDP, CMP0 to CMP3, FAD and FAC. Writes of TRP_SRC108 to 111 are ignored (R248). -/
def writePower (base o v : Nat) : Prog :=
  let n := base / 0x1000 % 16
  match base, o with
  | 0x43000, 0x40 => genHostWrite v
  | 0x43000, 0x44 => brkSrcWrite v
  | 0x44000, 0x48 => tripClear 0 v
  | 0x44000, 0x4C => tripClear 1 v
  | 0x54000, 0x5C => cmdBits v [(0, fadCntClr)]
  | 0x55000, 0x50 => cmdBits v [(0, facResume), (1, facUnpark), (2, facPark (bitsOf v 12 8)), (3, clrFcs)]
  | _, _ =>
    if n < 3 ∧ base < 0x43000 ∧ 0x200 ≤ o ∧ o < 0x400 then pairWrite (16 * n + (o - 0x200) / 0x20) (o % 0x20 / 4) v
    else if base = 0x43000 ∧ 0x200 ≤ o ∧ o < 0x220 then pairWrite 48 (o % 0x20 / 4) v
    else if base = 0x44000 ∧ 0x3B0 ≤ o ∧ o < 0x3C0 then fun _ => []
    else if 0x50000 ≤ base ∧ base < 0x54000 ∧ o = 0x40 then stfailClear n v
    else if 0x50000 ≤ base ∧ base < 0x54000 ∧ o = 0x4C then cmdBits v [(0, cmpCntClr n)]
    else plainWrite base o v

/-- Registers of MET, MTC, PHS, TWV, PMP, PAR, BED and LDG. -/
def writeOther (base o v : Nat) : Prog :=
  match base, o with
  | 0x60000, 0x5C => cmdBits v [(0, mcxUnpark), (1, freeze), (2, preset (bitsOf v 12 8))]
  | 0x61000, 0x40 => textWrite (v % 2 ^ 16)
  | 0x71000, 0x5C => cmdBits v [(0, twvCntClr)]
  | 0x80000, 0x6C => cmdBits v [(0, pmpClear)]
  | 0xA0000, 0x58 => bedConfig 0 v
  | 0xA0000, 0x5C => bedConfig 1 v
  | 0xA0000, 0x60 => bedConfig 2 v
  | 0xA1000, 0x5C => cmdBits v [(0, erase)]
  | _, _ => if base + o = (F.LDG_SEVQ_CODE).key / 32 then sevqLookup (v % 2 ^ 16) else plainWrite base o v

/-- The metrology calibration lock refuses a write to the MTC page, other than MTC_TEXT and the W1C bits (R301). -/
def mtcLocked (s : State) (base o : Nat) : Bool :=
  base == 0x61000 && s.on F.MTC_STATUS_LOCKED && o != 0x40 && !allW1c (base + o)

/-- A write of a word to the register at offset `o` of a page, once no lock refuses it. -/
def regWrite (base o v : Nat) : Prog :=
  if o = 0x1C then commitWrite base v
  else if o = 0x20 then lockWrite base v
  else if o = 8 then ctrlWrite base v
  else if base < 0x8000 then writeSystem base o v
  else if base < 0x10000 then writeLane ((base - 0x8000) / 0x1000) o v
  else if base < 0x20000 then writeRing base o v
  else if base < 0x40000 ∨ base = 0x72000 ∨ base = 0x73000 then writeEngine base o v
  else if base < 0x60000 then writePower base o v
  else writeOther base o v

/-! ### A write to the address space -/

/-- An HST_STICKY bit sets, and the start address of its transaction is kept (R434). -/
def hstErr (f : Fld) (start : Nat) : List Eff := [.sticky f, .set F.HST_ERR_ADDR_ADDR start]

/-- The two host ports set HST_STICKY; a remote node and the loader have their own reports. -/
def portErr (src : Origin) (f : Fld) : List Eff :=
  match src with
  | .qspi start | .link start => hstErr f start
  | _ => []

/-- The error code of a write (R94, R380, R438): 0, 3 a remote write to PAR, 4 refused by a lock, 5 unmapped. -/
def writeCode (s : State) (src : Origin) (addr : Nat) : Nat :=
  match regionOf addr with
  | .unmapped => 5
  | .page 0x4000 _ => if src = .remote then 4 else if lockRefuses s (regionOf addr) then 4 else 0
  | .page 0x90000 _ => if src = .remote then 3 else if lockRefuses s (regionOf addr) then 4 else 0
  | r => if lockRefuses s r then 4 else 0

/-- The effect of a write that no page lock refuses. -/
def regionWrite (src : Origin) (addr v : Nat) : Prog := fun s =>
  match regionOf addr with
  | .unmapped => []
  | .main _ | .ledger _ => portErr src F.HST_STICKY_RO_WRITE
  | .prog eng k hi => programWrite eng k hi v s
  | .param eng i => parameterWrite eng i v s
  | .image copy k => imageWrite copy k v s
  | .page base o =>
    if mtcLocked s base o then mtcRefuse o
    else if readOnlyReg base o || (base == 0x4000 && 0xC0 ≤ o && o < 0x100 && s.b.sec.ikey.isSome) then
      portErr src F.HST_STICKY_RO_WRITE
    else (regWrite base o v).andThen
      (onlyIf (fun _ => o != 0x1C && (fieldsAt (base + o)).any fun r => r.acc == .rws) (rejudge base)) s

/-- The region lies on the power die and the die-to-die path has failed (R14). -/
def absent (s : State) (r : Region) : Bool :=
  (!dieLinkOk s) && (match r with
    | .page base _ => powerPage base
    | .ledger _ | .image _ _ => true
    | _ => false)

/-- The place of a source in the order in which writes of one CLK_FAB cycle to one register apply; a scheduled action is
last (R436). The loader runs alone. -/
def Origin.rank : Origin → Nat
  | .qspi _ => 0
  | .link _ => 1
  | .remote => 2
  | .loader => 3

/-- A register that holds what is written to it, and does nothing else by the write: no W1C bit, no command. -/
def holdsOnly (addr : Nat) : Bool :=
  let rows := fieldsAt addr
  addr % 0x1000 != 0x1C && addr % 0x1000 != 0x20 && rows.any (fun r => r.acc == .rw || r.acc == .rws)
    && rows.all fun r => r.acc != .w1c && r.acc != .wo

/-- A source of higher rank has written the register in the running CLK_FAB cycle, and its word stands (R436). -/
def overtaken (s : State) (src : Origin) (addr : Nat) : Bool :=
  holdsOnly addr && s.b.wroteNow.any fun w => w.1 == addr && decide (src.rank < w.2.1)

/-- A write to a register is noted until the cycle ends; those of the loader fill cycles of their own (R461). -/
def noteWrite (src : Origin) (addr before : Nat) : List Eff :=
  match src, regionOf addr with
  | .loader, _ => []
  | _, .page _ _ => [.upd fun b => { b with wroteNow := b.wroteNow ++ [(addr, src.rank, before)] }]
  | _, _ => []

/-- A write of one word by an origin (R10, R14, R435, R436, R455). -/
def busWrite (src : Origin) (addr v : Nat) : Prog := fun s =>
  let r := regionOf addr
  if r = .unmapped then portErr src F.HST_STICKY_UNMAPPED
  else if absent s r then []
  else if writeCode s src addr = 3 then []
  else if writeCode s src addr = 4 then
    effIf (lockRefuses s r) [.sticky F.CFG_STICKY_LOCK_REJECT, .set F.CFG_LOCK_ADDR_ADDR addr]
  else if overtaken s src addr then []
  else thenDo (noteWrite src addr (viewWord s addr)) (regionWrite src addr v) s

/-! ### A read of the address space -/

/-- What a read of a page register changes before it shows: the latches of R59, R100, R115, R310, R414, and the pop
ports (R444), which advance. A read of BED_OPSEC_LO takes the oscillator's count, which no command gives, as a free
value (log entry 3). -/
def readLatch (base o : Nat) : Prog := fun s =>
  if base = 0x2000 ∧ o = 0x40 then timNowRead s
  else if 0x8000 ≤ base ∧ base < 0x10000 ∧ o = 0x58 then prbsBitsRead ((base - 0x8000) / 0x1000) s
  else if 0x8000 ≤ base ∧ base < 0x10000 ∧ o = 0x80 then
    spend 1 :: rawRxRead ((base - 0x8000) / 0x1000) (fresh s 0 % 2 ^ 64) s
  else if base = 0x60000 ∧ 0x400 ≤ o ∧ o < 0x600 ∧ o % 0x10 = 0 then accRead ((o - 0x400) / 0x10) s
  else if base = 0x60000 ∧ 0x600 ≤ o ∧ o < 0x800 ∧ o % 0x10 = 0 then frzRead ((o - 0x600) / 0x10) s
  else if base = 0xA0000 ∧ o = 0x40 then spend 1 :: opsecRead (fresh s 0 % 2 ^ 15) s
  else []

/-- The pop port at a byte address (R444). -/
def popPort (addr : Nat) : Option Nat :=
  if 0x12800 ≤ addr ∧ addr < 0x12880 then some ((addr - 0x12800) / 4) else none

/-- Fields of PMP and PAR that the power die holds read 0 while the path has failed (R361, R366). -/
def chTwoMask (addr w : Nat) : Nat :=
  if addr = 0x8000C then clearMask w 0x3E000000
  else if addr = 0x80080 ∨ addr = 0x90048 ∨ addr = 0x9005C ∨ addr = 0x9006C then 0
  else if addr = 0x90068 then w % 2 ^ 16
  else w

/-- The word that a read of an address returns in a state whose latches have been taken (R10, R14, R435). -/
def readWord (s : State) (addr : Nat) : Nat :=
  if absent s (regionOf addr) then 0
  else match regionOf addr with
    | .unmapped => 0
    | .prog _ _ _ | .main _ | .ledger _ | .image _ _ => s.word (addr / 4)
    | .param eng i => parameterRead s eng i
    | .page _ _ =>
      match popPort addr with
      | some q => popWord s q
      | none => if s.on F.SYS_GUAR_DIE_LINK then chTwoMask addr (viewWord s addr) else viewWord s addr

/-- The word that a read by an origin returns: where another source has written the register in the running cycle, the
word that stood before (R436). -/
def portWord (src : Origin) (s : State) (addr : Nat) : Nat :=
  match s.b.wroteNow.find? fun w => w.1 == addr && w.2.1 != src.rank with
  | some w => w.2.2
  | none => readWord s addr

/-- The latches that a read of an address takes. -/
def busLatch (addr : Nat) : Prog := fun s =>
  match regionOf addr with
  | .page base o => if absent s (regionOf addr) then [] else readLatch base o s
  | _ => []

/-- The engine whose slot files a page address shows (R126, R129). -/
def slotFile (base o : Nat) : Option Nat :=
  if base = 0x20000 ∧ 0x800 ≤ o ∧ o < 0xE00 then some 0
  else if base = 0x30000 ∧ 0xC00 ≤ o ∧ o < 0xE00 then some 1
  else none

/-- What a read of an address leaves behind once its word has been transferred (R136, R432, R435, R444). -/
def busAfter (src : Origin) (addr : Nat) : Prog := fun s =>
  match regionOf addr with
  | .unmapped => portErr src F.HST_STICKY_UNMAPPED
  | .page base o =>
    match popPort addr, slotFile base o with
    | some q, _ => popAdvance q s
    | none, some eng => if absent s (regionOf addr) then [] else eccCount eng s
    | none, none => []
  | .prog eng _ _ | .param eng _ => eccCount eng s
  | _ => []

/-! ### The commands of the locks and REGISTER_WRITE -/

/-- The base of page `n` in the order of R516. -/
def pageBase (n : Nat) : Nat := ((RegTable.pages[n]?).map PageInfo.base).getD 0

/-- A command on a page, by number: without effect on a power-die page while the path has failed (R14). -/
def onPage (n : Nat) (p : Nat → Prog) : Prog := fun s =>
  if absent s (.page (pageBase n) 0x20) then [] else p (pageBase n) s

/-- A write of a LOCK register: that of MTC is refused as the page's other writes are (R301). -/
def lockCmd (p : Nat → Prog) (base : Nat) : Prog := fun s => if mtcLocked s base 0x20 then mtcRefuse 0x20 else p base s

def execLockKeyLock (n : Fin 44) (perm : Bool) (s : State) : Result :=
  run (onMain (onPage n (lockCmd fun base => lockPage base perm))) s
def execLockKeyUnlock (n : Fin 44) (s : State) : Result := run (onMain (onPage n (lockCmd unlockPage))) s

/-- KEY_BAD: a write of LOCK with a key that is neither of the two. -/
def execKeyBad (n : Fin 44) (key : BitVec 16) (s : State) : Result :=
  run (onMain (onPage n <| lockCmd fun base =>
    if key.toNat = 0x4C4B ∨ key.toNat = 0x554C then fun _ => [] else keyBad base key.toNat)) s

/-- REGISTER_WRITE: a host write of one word, under locks and page rules (R10). -/
def execRegisterWrite (addr : BitVec 22) (v : Word) (s : State) : Result :=
  run (onMain (busWrite (.qspi (4 * addr.toNat)) (4 * addr.toNat) v.toNat)) s

end Sys2Proof.Machine
end

