-- ==== Sys2Proof/Machine/Load.lean ====
section
/-! DEFINITION. COMMIT_ADOPT, and the application of a configuration image (R452, R461 to R463, R489, R491, R495,
R496). -/

namespace Sys2Proof.Machine

/-! ### Groups whose update point is the next CLK_FAB cycle -/

/-- What the update point of a group does when it is the cycle after the commit; the other groups adopt in the events
that their pages name as update points. -/
def adoptOf : Group → Prog
  | .clkPhase => clkPhaseAdopt
  | .trp => trpAdopt
  | .aux => auxAdopt
  | .cmp c => cmpAdopt c
  | .gdpProfile => gdpProfileAdopt
  | .gdpBrake => gdpBrakeAdopt
  | .metFreeze => metFreezeAdopt
  | .twv => twvAdopt
  | .pmp => pmpAdopt
  | .que => queAdopt
  | .mon => monAdopt
  | _ => fun _ => []

/-- COMMIT_ADOPT. -/
def commitAdopt (g : Group) : Prog := onlyIf (fun s => groupDue s g) (adoptOf g)

/-- The cycle of a write of the loader ends, and every group that waits for the next cycle is adopted. -/
def adoptNext : Prog := inOrder
  [calRecord, fun _ => [.upd fun b => { b with commitNow := [], commitWas := [], setNow := [], queNow := [], ldg.now := 0 }], fun s => inOrder (s.b.waiting.map commitAdopt) s]

/-! ### Refusals -/

/-- The flags by which the pages report a refused write or commit. -/
def rejectFlds : List Fld :=
  [F.SYS_STICKY_SOFT_REJECT, F.TIM_STICKY_TOD_REJECT, F.MON_STICKY_CFG_REJECT, F.SEC_STICKY_CMD_REJECT,
   F.CFG_STICKY_KEY_BAD, F.CFG_STICKY_LOCK_REJECT, F.CFG_STICKY_WR_REJECT, F.RDG_STICKY_SCHED_LATE,
   F.BUT_STICKY_CMD_REJECT, F.BUT_STICKY_CFG_REJECT, F.QUE_STICKY_MAIL_REJECT, F.QUE_STICKY_CFG_REJECT,
   F.QUE_STICKY_IDX_REJECT, F.KE0_STICKY_PARAM_REJECT, F.KE0_STICKY_PROG_WR_REJECT, F.KE0_STICKY_PROG_REJECT,
   F.KE0_STICKY_TIMING_REJECT, F.KE1_STICKY_PARAM_REJECT, F.KE1_STICKY_PROG_WR_REJECT, F.KE1_STICKY_PROG_REJECT,
   F.FPM_STICKY_CFG_REJECT, F.FPM_STICKY_REL_REJECT, F.GRD_STICKY_CLEAR_REJECT, F.GRD_STICKY_CFG_REJECT,
   F.MPT_STICKY_ISL_CLR_REJECT, F.MPT_STICKY_CFG_REJECT, F.PWX_STICKY_CFG_REJECT, F.TRP_STICKY_CFG_REJECT,
   F.TRP_STICKY_TRIP_CLR_REJECT, F.GDP_STICKY_CFG_REJECT, F.FAC_STICKY_CFG_REJECT, F.FAC_STICKY_CMD_REJECT,
   F.MET_STICKY_CFG_REJECT, F.MTC_STICKY_LOCK_REJECT, F.MTC_STICKY_CFG_REJECT, F.PHS_STICKY_CFG_REJECT,
   F.TWV_STICKY_CFG_REJECT, F.PMP_STICKY_CFG_REJECT, F.PMP_STICKY_CLR_REJECT, F.PAR_STICKY_CFG_REJECT,
   F.BED_STICKY_CFG_WR_REJECT, F.BED_STICKY_CFG_REJECT, F.LDG_STICKY_CMD_REJECT]
  ++ (List.range 8).map F.LNK_STICKY_TEST_REJECT
  ++ (List.range 3).flatMap (fun n => [F.PWM_STICKY_OWN_REJECT n, F.PWM_STICKY_CFG_REJECT n])
  ++ (List.range 4).map F.CMP_STICKY_CFG_REJECT

/-- A meaning would refuse: run from clear reject flags, it sets one. -/
def wouldReject (s : State) (p : Prog) : Bool :=
  let s0 := rejectFlds.foldl (fun t f => t.put f 0) s
  rejectFlds.any fun f => (applyAll s0 (p s0)).on f

/-! ### The loader (R461, R496) -/

/-- A write of a word that the MTC page holds in force already; a commit of shadows equal to the values in force. -/
def mtcEqual (s : State) (o v : Nat) : Bool :=
  if o = 0x1C then
    ((RegTable.rowsOf 0x61).filter fun r => r.acc == .rws).all fun r =>
      (rowAddrs 0x61000 r).all fun a => s.get (rowFld a r) == s.cur (rowFld a r)
  else
    (fieldsAt (0x61000 + o)).all fun r =>
      let f := rowFld (0x61000 + o) r
      let x := v / 2 ^ r.lo % 2 ^ r.w
      match r.acc with
      | .rws => s.cur f == x
      | .rw => s.get f == x
      | _ => true

/-- A write that the lock of MTC would refuse is performed for a copy that has verified. -/
def mtcForce (o v : Nat) : Prog :=
  thenDo [.set F.MTC_STATUS_LOCKED 0] ((regWrite 0x61000 o v).andThen fun _ => [.set F.MTC_STATUS_LOCKED 1])

/-- The engine whose check a write starts. -/
def checkEngine (addr v : Nat) : Option Nat :=
  if v.testBit 0 = false then none else if addr = 0x2004C then some 0 else if addr = 0x30064 then some 1 else none

/-- PSTAT.VALID of an engine. -/
def pstatValid (s : State) (eng : Nat) : Bool := s.on (if eng = 0 then F.KE0_PSTAT_VALID else F.KE1_PSTAT_VALID)

/-- What one write of the loader does; `signed`: the copy is signed and has verified. -/
def loadWrite (signed : Bool) (addr v : Nat) : Prog := fun s =>
  match regionOf addr with
  | .param eng i =>
    if lockRefuses s (.param eng i) then busWrite .loader addr v s
    else [.mem (bankAddr eng 0 + i) v, .mem (bankAddr eng 1 + i) v]
  | .page base o =>
    if mtcLocked s base o then
      if mtcEqual s o v then [] else if signed then mtcForce o v s else busWrite .loader addr v s
    else match checkEngine addr v with
      | some eng => inOrder [busWrite .loader addr v, kCheckDone eng none, adoptNext] s
      | none => inOrder [busWrite .loader addr v, adoptNext] s
  | _ => inOrder [busWrite .loader addr v, adoptNext] s

/-- The cause for which a write of the loader fails (R462): 1 unmapped, 2 write refused, 3 commit refused, 4 check
failed. -/
def loadFails (signed : Bool) (addr v : Nat) (s : State) : Option Nat :=
  let p := loadWrite signed addr v
  let refused := if addr % 0x1000 = 0x1C then some 3 else some 2
  if regionOf addr = .unmapped then some 1
  else if writeCode s .loader addr = 4 then refused
  else if addr = 0x10008 ∧ v.testBit 0 = true ∧ s.get F.RDG_ADDR_ADDR = 0xFFF ∧ s.on F.RDG_CTRL_ENABLE = false then some 2
  else if wouldReject s p then refused
  else match checkEngine addr v with
    | some eng => if pstatValid (applyAll s (p s)) eng then none else some 4
    | none => none

/-- The address and value of every write of an image. -/
def imgWrites (i : Img) : List (Nat × Nat) :=
  i.recs.flatMap fun r =>
    match r with
    | .write a ws => ws.zipIdx.map fun q => (a + 4 * q.2, q.1)
    | .fill a n v => (List.range n).map fun k => (a + 4 * k, v)

/-- The writes in order up to the first that fails: their effects, and the address and cause of that one. -/
def loadAll (signed : Bool) : List (Nat × Nat) → State → List Eff × Option (Nat × Nat)
  | [], _ => ([], none)
  | (a, v) :: l, s =>
    let es := loadWrite signed a v s
    match loadFails signed a v s with
    | some c => (es, some (a, c))
    | none =>
      let r := loadAll signed l (applyAll s es)
      (es ++ r.1, r.2)

/-! ### The return to the reset configuration (R462) -/

/-- The pages whose configuration returns: not Bedrock and the Ledger, and MTC only without its lock. -/
def configPages (s : State) : List Nat :=
  (RegTable.pages.map PageInfo.base).filter fun b =>
    b != 0xA0000 && b != 0xA1000 && !(b == 0x61000 && s.on F.MTC_STATUS_LOCKED)

/-- The word of a page's CTRL at reset. -/
def ctrlReset (base : Nat) : Nat :=
  (fieldsAt (base + 8)).foldl (fun n r => n + r.rst * 2 ^ r.lo) 0

/-- The configuration returns to its reset state; running state stays. -/
def configReset : Prog := inOrder
  [ fun s => inOrder ((configPages s).map fun b => ctrlWrite b (ctrlReset b)) s,
    fun s => (configPages s).flatMap (fun b => clearConfig b ++ clearLock b)
      ++ [.upd fun b => { b with commitNow := [], commitWas := []
                                 waiting := b.waiting.filter fun g => g == .mtc && s.on F.MTC_STATUS_LOCKED
                                 pairs := b.pairs.map fun p => { p with pend := 0 } },
          updKe0 (fun k => { k with checked := [], check := none, swap := false }),
          updKe1 (fun k => { k with checked := [], check := none, swap := false }),
          .set F.KE0_STATUS_PBANK 0, .set F.KE1_STATUS_PBANK 0, .set F.KE0_STATUS_CHK_BUSY 0, .set F.KE1_STATUS_CHK_BUSY 0,
          .set F.RDG_SCHED_STAT_ARMED 0]
      ++ todDiscard ++ (List.range 32).flatMap fun q => [Eff.set (F.QUE_Q_PROD_W q) 0, Eff.set (F.QUE_Q_CONS_W q) 0],
    inOrder ((List.range 32).map queShow),
    onlyIf (fun s => kStopped (s.get F.KE0_STATUS_STATE)) (safeValues 0),
    onlyIf (fun s => kStopped (s.get F.KE1_STATUS_STATE)) (safeValues 1),
    lockShow, rolesUpdate, twvShow, phsShow, fpmStatus, parShow, guarUpdate ]

/-! ### The end of CONFIG -/

/-- CFG_APPLY_ERR as a word. -/
def applyErrWord (copy : Nat) (e : Nat × Nat) : Nat := e.2 * 2 ^ 28 + copy * 2 ^ 24 + e.1

/-- Factory defaults are in force (R463). -/
def applyDefaults : Prog := fun _ =>
  [.set F.SYS_STATUS_CFG_DEFAULTED 1, .set F.CFG_STATUS_DEFAULTED 1, .sticky F.CFG_STICKY_DEFAULTED,
   .set F.CFG_STATUS_SRC 2, .led 0x1404 0 [0, 0]]

/-- One copy is applied; when its application fails, `next` follows (R462). -/
def applyCopy (copy : Nat) (next : Prog) : Prog := fun s =>
  match checkCopy s copy with
  | .error _ => next s
  | .ok i =>
    let r := loadAll i.signed (imgWrites i) s
    match r.2 with
    | none => r.1 ++
      [.set F.CFG_STATUS_LOADED 1, .set F.CFG_STATUS_SRC copy, .set F.CFG_STATUS_SIGNED (bit i.signed),
       .set F.CFG_GEN_IN_FORCE_GEN i.gen, .set F.CFG_CRC_IN_FORCE_CRC i.crc, .led 0x1401 0 [copy, i.gen]]
    | some e => thenDo (r.1 ++
      [.set F.CFG_APPLY_ERR_CAUSE e.2, .set F.CFG_APPLY_ERR_COPY copy, .set F.CFG_APPLY_ERR_ADDR e.1,
       .sticky F.CFG_STICKY_APPLY_FAIL, .led 0x1403 0 [copy, applyErrWord copy e]])
      (configReset.andThen next) s

/-- The RESET record of a release from reset (R489, R499). -/
def resetRecord : Prog := fun s => [.led 0x0404 0 [resetCause s, s.b.sys.stageBefore]]

/-- CONFIG has ended: READY rises and WAIT begins (R491, R495). -/
def configEnd : Prog := inOrder
  [ fun s => [updSys (fun y => { y with cfgEnded := true, waitAt := s.b.cyc }), .set F.SYS_STATUS_READY 1, .set F.SYS_STATUS_STAGE 2,
      .set F.SYS_T_READY_US (sinceRelease s)],
    guarUpdate, butFaultUpdate ]

/-- CONFIG_APPLY_DONE: the copy chosen at CONFIG_LOAD is applied, or the other, or the defaults. Without LOCK the
loader pauses (R491). -/
def configApply : Prog := fun s =>
  if s.get F.SYS_STATUS_STAGE ≠ 1 ∨ s.on F.CLK_STATUS_LOCK = false then []
  else inOrder
    [ resetRecord,
      (match s.b.cfg.chosen with
       | none => applyDefaults
       | some c => applyCopy c (if s.b.cfg.other then applyCopy (1 - c) applyDefaults else applyDefaults)),
      onMain configEnd ] s

def execCommitAdopt (g : Group) (s : State) : Result := run (onMain (commitAdopt g)) s
def execConfigApplyDone (s : State) : Result := run (onMain configApply) s

end Sys2Proof.Machine
end

