-- ==== Sys2Proof/Machine/Host.lean ====
section
/-! DEFINITION. The two host ports: the QSPI target (R428 to R436) and the host link on L5 (R437, R438). -/

namespace Sys2Proof.Machine

/-- Change what the host interface holds. -/
def updHst (g : Hst → Hst) : Eff := .upd fun b => { b with hst := g b.hst }

/-! ### Words read in order -/

/-- Read words in order, none for a word beyond the limits of its burst, which reads 0: the words, and what the
reads leave behind (R431, R435, R444). -/
def readWords (src : Origin) : List (Option Nat) → State → List Nat × List Eff
  | [], _ => ([], [])
  | none :: l, s =>
    let es := portErr src F.HST_STICKY_BURST_END
    let r := readWords src l (applyAll s es)
    (0 :: r.1, es ++ r.2)
  | some a :: l, s =>
    let es := busLatch a s
    let s1 := applyAll s es
    let fs := busAfter src a s1
    let r := readWords src l (applyAll s1 fs)
    (portWord src s1 a :: r.1, es ++ fs ++ r.2)

/-- Consecutive word addresses in the 24-bit space. -/
def wordAddrs (a n : Nat) : List Nat := (List.range n).map fun i => (a + 4 * i) % 2 ^ 24

/-! ### QSPI (R428 to R436) -/

/-- The QSPI target answers: CONFIG has ended (R495) and QSPI_EN is set (R428). -/
def qspiOpen (s : State) : Bool := s.on F.SYS_STATUS_READY && s.on F.HST_CTRL_QSPI_EN

/-- The address of word `i` of a burst, none beyond its limits (R431). -/
def burstAddr (read : Bool) (a i : Nat) : Option Nat :=
  if i = 0 then some a
  else if read && slowRegion (regionOf a) then none
  else if (popPort a).isSome then some a
  else if (a + 4 * i) / 4096 = a / 4096 then some (a + 4 * i) else none

/-- HOST_WRITE_PERFORM: the oldest word leaves the buffer and is performed (R433). -/
def hostWritePerform : Prog := fun s =>
  match s.b.hst.wbuf with
  | [] => []
  | (start, a, v) :: l => thenDo [updHst fun h => { h with wbuf := l }] (busWrite (.qspi start) a v) s

/-- Every buffered word is performed, before a read (R436). -/
def flushWrites : Prog := fun s => inOrder (s.b.hst.wbuf.map fun _ => onMain hostWritePerform) s

/-- The word in which HCS_N rises is discarded (R432). -/
def partialEnd (a : Nat) (cut : Bool) : List Eff := effIf cut (hstErr F.HST_STICKY_PARTIAL a)

/-- The data phase of a read: the token, then `n` words, then the rise of HCS_N. -/
def readPhase (a n : Nat) (cut : Bool) : Prog := fun s =>
  let r := readWords (.qspi a) ((List.range n).map (burstAddr true a)) s
  r.2 ++ [updHst fun h => { h with token := if n = 0 && !cut then 0 else 0xA5, out := r.1 }] ++ partialEnd a cut

/-- A READ of either width: `n` whole words are clocked out; `cut`: HCS_N rises inside the next one. -/
def hostRead (a n : Nat) (cut : Bool) : Prog := fun s =>
  if !qspiOpen s then []
  else thenDo [updHst fun h => { h with token := 0, out := [] }]
    (if a % 4 = 0 then
      (if n = 0 ∧ cut = false then fun _ => [] else flushWrites.andThen (onMain (onlyIf qspiOpen (readPhase a n cut))))
     else fun _ => hstErr F.HST_STICKY_ALIGN a) s

/-- Word `i` of a write burst arrives (R431, R433). -/
def bufferWord (a i v : Nat) : Prog := fun s =>
  match burstAddr false a i with
  | none => hstErr F.HST_STICKY_BURST_END a
  | some x =>
    if s.b.hst.wbuf.length < 64 then [updHst fun h => { h with wbuf := h.wbuf ++ [(a, x, v)] }]
    else hstErr F.HST_STICKY_WR_OVF a

/-- A WRITE of either width: words `first` on of a burst arrive before the buffer's next word leaves. -/
def hostWrite (a first : Nat) (words : List Nat) (cut : Bool) : Prog := fun s =>
  if !qspiOpen s then []
  else thenDo [updHst fun h => { h with token := 0, out := [] }]
    (if a % 4 = 0 then
      inOrder (words.zipIdx.map (fun q => bufferWord a (first + q.2) q.1) ++ [fun _ => partialEnd a cut])
     else fun _ => hstErr F.HST_STICKY_ALIGN a ++ partialEnd a cut) s

/-- STATUS (R429). -/
def hostStatus : Prog := fun s =>
  if !qspiOpen s then []
  else [updHst fun h => { h with token := 0, out := [256 * (64 - h.wbuf.length) + viewWord s 0x7018 % 256] }]

/-- The command bytes of R429. -/
def knownCommands : List Nat := [0x0B, 0x6B, 0x02, 0x32, 0x05]

/-- UNKNOWN_COMMAND (R429). -/
def unknownCommand (code : Nat) : Prog := fun s =>
  if !qspiOpen s || knownCommands.contains code then []
  else [updHst fun h => { h with token := 0, out := [] }, .sticky F.HST_STICKY_ALIGN]

/-- RD_TMO: the read is discarded after token 0xE1 (R430). While the die-to-die path has failed, the pages and windows of the
power die, PMP and PAR are ready in 100 ns and never time out (R14, R430). -/
def readTmo (a : Nat) : Prog := fun s =>
  if !qspiOpen s || a % 4 ≠ 0 || (s.on F.SYS_GUAR_DIE_LINK && slowRegion (regionOf a)) then []
  else updHst (fun h => { h with token := 0xE1, out := [] }) :: hstErr F.HST_STICKY_RD_TMO a

/-! ### The host link (R437, R438) -/

/-- L5 is ready in the host-link role and the port is served. -/
def linkOpen (s : State) : Bool :=
  s.on F.SYS_STATUS_READY && s.on F.HST_CTRL_LINK_EN && s.get (F.LNK_STATUS_ROLE 5) == 6 && carriesRole s 5

/-- The request that a frame carries. -/
def linkReq (f : Frame) : LinkReq :=
  { type := f.type, tag := frameTag f, count := accessCount f, addr := accessAddr f,
    data := blockWords f.data (accessCount f), src := f.src }

/-- A request arrives on L5: a frame is subject to R66, R70 and R71; at most 8 requests wait. -/
def linkArrive (cls type : Nat) (f : Frame) : Prog := fun s =>
  if !linkOpen s || f.cls != cls || f.type != type then []
  else if frameLenBad f then [.inc F.RDG_CNT_CRC_N 1]
  else if f.hops = 0 then dropHop
  else if !f.good then crcFailed f
  else if s.b.hst.link.length < 8 then [updHst fun h => { h with link := h.link ++ [linkReq f] }]
  else .inc F.HST_CNT_LINK_ERR_N 1 :: hstErr F.HST_STICKY_LINK_ERR (accessAddr f)

/-- A response leaves on L5. -/
def linkSend (cls type dest : Nat) (data : List Nat) : Prog := fun s =>
  let f : Frame := { cls := cls, dest := dest, src := s.get F.RDG_ADDR_ADDR, hops := s.get F.RDG_HOPLIM_HOPS,
                     type := type, seq := s.b.rdg.seq, data := data }
  if f.hops = 0 then dropHop
  else thenDo [updRdg fun r => { r with seq := (r.seq + 1) % 64 }] (sendOn 5 (.frame f)) s

/-- The first refusal among writes: 0 when none (R94, R438). -/
def firstCode : List Nat → Nat
  | [] => 0
  | c :: l => if c = 0 then firstCode l else c

/-- Words written in order from an address, refused ones skipped: what the writes do, and each one's code. -/
def writeWords (src : Origin) : List (Nat × Nat) → State → List Nat × List Eff
  | [], _ => ([], [])
  | (a, v) :: l, s =>
    let es := busWrite src a v s
    let r := writeWords src l (applyAll s es)
    (writeCode s src a :: r.1, es ++ r.2)

/-- The error of a request before it accesses anything: COUNT beyond the limit, address not word-aligned. -/
def requestErr (limit count addr : Nat) : Nat := if limit < count then 9 else if addr % 4 ≠ 0 then 10 else 0

/-- A read meets an unmapped address. -/
def readCode (addrs : List Nat) : Nat := if addrs.any fun a => decide (regionOf a = .unmapped) then 5 else 0

/-- The words of an error response that carries data: nothing was accessed, and the spec states no contents
(log entry 3). -/
def freeWords (s : State) (n : Nat) : List Nat := (List.range n).map fun k => fresh s k % 2 ^ 32

/-- The served read request: response 0x31. -/
def linkRead (q : LinkReq) : Prog := fun s =>
  let addrs := wordAddrs q.addr q.count
  match requestErr 8 q.count q.addr with
  | 0 =>
    let r := readWords (.link q.addr) (addrs.map some) s
    thenDo r.2 (linkSend 3 0x31 q.src (accessBlock q.tag q.count (readCode addrs) 0 q.addr :: pairWords r.1)) s
  | e =>
    let n := if e = 9 then 0 else q.count
    thenDo [spend n]
      (linkSend 3 0x31 q.src (accessBlock q.tag q.count e 0 q.addr :: pairWords (freeWords s n))) s

/-- The served write request: response 0x33. -/
def linkWrite (q : LinkReq) : Prog := fun s =>
  match requestErr 8 q.count q.addr with
  | 0 =>
    let r := writeWords (.link q.addr) ((wordAddrs q.addr q.count).zip q.data) s
    thenDo r.2 (onMain (linkSend 3 0x33 q.src [accessBlock q.tag q.count (firstCode r.1) 0 q.addr])) s
  | e => linkSend 3 0x33 q.src [accessBlock q.tag q.count e 0 q.addr] s

/-- One fragment of a served bulk read: words `120 i` on. -/
def linkFragment (q : LinkReq) (i : Nat) : Prog := fun s =>
  let a := (q.addr + 480 * i) % 2 ^ 24
  let k := min 120 (q.count - 120 * i)
  let r := readWords (.link q.addr) ((wordAddrs a k).map some) s
  thenDo r.2 (linkSend 4 0x41 q.src
    (accessBlock q.tag k (readCode (wordAddrs a k)) i a :: pairWords r.1)) s

/-- The served bulk read request: fragments 0x41 of 120 words; one empty fragment for COUNT 0 or an error. -/
def linkBulk (q : LinkReq) : Prog :=
  let e := requestErr 1024 q.count q.addr
  if q.count = 0 ∨ e ≠ 0 then linkSend 4 0x41 q.src [accessBlock q.tag 0 (if q.count = 0 then 0 else e) 0 q.addr]
  else inOrder ((List.range ((q.count + 119) / 120)).map (linkFragment q))

/-- COUNT 0 accesses nothing and has ERR 0, whatever the address (R438). -/
def zeroAddr (q : LinkReq) : LinkReq := if q.count = 0 then { q with addr := q.addr / 4 * 4 } else q

/-- The oldest waiting request is served when it is of this type. -/
def linkServe (type : Nat) (p : LinkReq → Prog) : Prog := fun s =>
  match s.b.hst.link with
  | q :: l =>
    if linkOpen s && q.type == type then thenDo [updHst fun h => { h with link := l }] (p (zeroAddr q)) s else []
  | [] => []

/-- A row of the host link: a frame arrives, or (none) the oldest request, when it is of this kind, is served. -/
def linkRow (cls type : Nat) (p : LinkReq → Prog) (f : Option Frame) : Prog :=
  match f with
  | some f => linkArrive cls type f
  | none => linkServe type p

def execRead (a : BitVec 24) (n : Nat) (cut : Bool) (s : State) : Result := run (onMain (hostRead a.toNat n cut)) s
def execRead4 (a : BitVec 24) (n : Nat) (cut : Bool) (s : State) : Result := run (onMain (hostRead a.toNat n cut)) s
def execWrite (a : BitVec 24) (first : Nat) (words : List Word) (cut : Bool) (s : State) : Result :=
  run (onMain (hostWrite a.toNat first (words.map BitVec.toNat) cut)) s
def execWrite4 (a : BitVec 24) (first : Nat) (words : List Word) (cut : Bool) (s : State) : Result :=
  run (onMain (hostWrite a.toNat first (words.map BitVec.toNat) cut)) s
def execStatus (s : State) : Result := run (onMain hostStatus) s
def execUnknownCommand (code : BitVec 8) (s : State) : Result := run (onMain (unknownCommand code.toNat)) s
def execRdTmo (a : BitVec 24) (s : State) : Result := run (onMain (readTmo a.toNat)) s
def execHostWritePerform (s : State) : Result := run (onMain hostWritePerform) s
def execHostLinkReadRequest (f : Option Frame) (s : State) : Result := run (onMain (linkRow 3 0x30 linkRead f)) s
def execHostLinkWriteRequest (f : Option Frame) (s : State) : Result := run (onMain (linkRow 3 0x32 linkWrite f)) s
def execHostLinkBulkRequest (f : Option Frame) (s : State) : Result := run (onMain (linkRow 4 0x40 linkBulk f)) s

end Sys2Proof.Machine
end

