-- ==== Sys2Proof/Machine/Programs.lean ====
section
/-! DEFINITION. The standard program set (R182 to R192, R205, R211, R212, R223, R342, R354, R473). The manual states what
each ROM program computes and not its words, so a run of one acts at its END: it writes what the manual determines, free
values for the rest, and leaves the stages that it declares free (log entry 37). -/

namespace Sys2Proof.Machine

/-! ### Operands -/

/-- A word of the active parameter bank, as a word and as a value. -/
def parWord (s : State) (eng i : Nat) : Nat := s.word (bankAddr eng (activeBank s eng) + i)
def par (s : State) (eng i : Nat) : Rat := slotVal (parWord s eng i)

/-- An ISLOT as the run of KE1 sees it (R162), and an integer that it holds. -/
def runWord (s : State) (n : Nat) : Nat := (ke1Run s).copy.getD n 0
def runVal (s : State) (n : Nat) : Rat := slotVal (runWord s n)
def runInt (s : State) (n : Nat) : Int := roundRat (runVal s n)

/-- Limit a value to a range. -/
def limitRat (lo hi x : Rat) : Rat := if x < lo then lo else if hi < x then hi else x

/-- A free value: the value of a free slot word. -/
def freeVal (s : State) (k : Nat) : Rat := slotVal (fresh s k)

/-- A quotient; for a divisor of 0 the manual states none. -/
def ratio (free a b : Rat) : Rat := if b = 0 then free else a / b

/-- A slot that a ROM program of KE1 writes with a free word. -/
def freeSlot (osl : Bool) (n : Nat) : Prog := fun s =>
  thenDo [spend 1] (storeSlot 1 osl n (fresh s 0 % 2 ^ 32)) s

/-- After a run, the mantissas and the exponents of the stages that its program declares are free. -/
def romTouch (eng id : Nat) : Prog := fun s =>
  let c := coreOf s eng
  let r := romStages id
  let sts := (List.range (r.2 + 1 - r.1)).map (r.1 + ·)
  let els := sts.flatMap fun st => (List.range (c.stLen st)).map fun i => 64 * st + i
  [setCore eng { c with
      elem := (els.zipIdx).foldl (fun l p => tput l p.1 (signedOf 24 (fresh s p.2))) c.elem
      exp := if eng = 0 then c.exp
        else sts.zipIdx.foldl (fun l p => tput l p.1 (signedOf 8 (fresh s (els.length + p.2)))) c.exp },
   spend (els.length + sts.length)]

/-! ### Class 0: GFL_DQ and GFM_VI -/

/-- The parameters of a bridge, of its virtual impedance, and of a DC input (R206). -/
def brPar (s : State) (b k : Nat) : Rat := par s 0 (0x20 * b + k)
def viPar (s : State) (b k : Nat) : Rat := par s 0 (0x100 + 0x10 * b + k)
def dcPar (s : State) (j k : Nat) : Rat := par s 0 (0x80 + 8 * j + k)

/-- An ISLOT as KE0 reads it. -/
def inVal (s : State) (n : Nat) : Rat := slotVal (s.get (F.KE0_ISLOT_VAL n))

/-- The measurements of R184: the phase currents of a bridge, the grid voltages, the DC link, the current of an input. -/
def bridgeCurrent (s : State) (b x : Nat) : Rat := inVal s (4 * (3 * b + x))
def gridVolt (s : State) (x : Nat) : Rat := inVal s (0x30 + 4 * x)
def linkVolt (s : State) : Rat := inVal s 0x19
def dcCurrentSlot (j : Nat) : Nat := if j < 6 then 4 * j + 1 else 4 * (j + 2) + 1

/-- The control period in seconds. -/
def periodSec (s : State) : Rat := (s.cur F.KE0_PERIOD_TICKS : Rat) * 64 / 10000000000

def keptOf (s : State) : Kept := s.b.ke0.rom.kept
def updRom0 (g : Rom0 → Rom0) : Eff := updKe0 fun e => { e with rom := g e.rom }
def updKept (g : Kept → Kept) : Eff := updRom0 fun r => { r with kept := g r.kept }

/-- A duty as a compare value: A = B = d × T, with T from the parameter block in 100 ps units (R128, R236). -/
def dutyWord (s : State) (d : Rat) : Nat := slotFit (d * par s 0 0xE0 * 10000000000)

/-- Both compare slots of a pair. -/
def pairOut (p w : Nat) : List Eff := [.set (F.KE0_OSLOT_VAL (2 * p)) w, .set (F.KE0_OSLOT_VAL (2 * p + 1)) w]

/-- An output of a bridge or an input that is not enabled has its safe value (R189). -/
def slotSafe (s : State) (n : Nat) : Eff := .set (F.KE0_OSLOT_VAL n) (s.get (F.KE0_OSAFE_VAL n))
def pairSafe (s : State) (p : Nat) : List Eff := [slotSafe s (2 * p), slotSafe s (2 * p + 1)]

/-- A prediction that the program writes to a channel (R171, R182). -/
def romExpect (n : Nat) (x : Rat) : Eff := updFpmCh n fun q => { q with fresh := some (slotFit x) }

/-! #### References (R188, R190) -/

/-- The supervisor is in CESSATION or TRIPPED: references are 0 and integrators hold (R188). -/
def romHeld (s : State) : Bool :=
  let st := roundRat (inVal s 0x82)
  st == 2 || st == 4

/-- The magnitude of a vector, and what a component leaves of a magnitude. -/
def magnitude (v : Rat × Rat) : Rat := ratSqrt (v.1 * v.1 + v.2 * v.2)
def remains (m x : Rat) : Rat := ratSqrt (m * m - x * x)

/-- A vector scaled down, when needed, to a magnitude. -/
def scaleTo (m : Rat) (v : Rat × Rat) : Rat × Rat :=
  let a := magnitude v
  if a ≤ m then v else (v.1 * m / a, v.2 * m / a)

/-- The references of a bridge in pu: i_d+ and i_q+, and i−. `d0` is i_d+* under the ramp, `rt` the injection, `n0` the
negative sequence, `q0` the i_q+* of class 1; with Q_PRIO clear steps 1 and 3 exchange their priority (R188). -/
def limitRefs (prio : Bool) (m d0 rt q0 : Rat) (n0 : Rat × Rat) : (Rat × Rat) × (Rat × Rat) :=
  let first := limitRat (-m) m (if prio then rt else d0)
  let n := scaleTo (if first < 0 then m + first else m - first) n0
  let left := m - magnitude n
  let second := limitRat (-(remains left first)) (remains left first) (if prio then d0 else rt)
  let d := if prio then second else first
  let q := if prio then first else second
  ((d, limitRat (-(remains left d)) (remains left d) (q + q0)), n)

/-- The references of a grid-following bridge, with the additions of R223. -/
def gflRefs (s : State) (b : Nat) : (Rat × Rat) × (Rat × Rat) :=
  let pu (k n : Nat) : Rat := ratio (freeVal s k) (inVal s n) (brPar s b 8)
  if romHeld s then ((0, 0), (0, 0))
  else limitRefs (s.on F.GRD_CTRL_Q_PRIO) (brPar s b 9) (inVal s 0x86 * pu 0 (0x40 + 2 * b)) (inVal s 0x83)
    (pu 1 (0x41 + 2 * b) + inVal s 0x9E) (inVal s 0x84 + inVal s 0x9F, inVal s 0x85)

/-! #### Current control -/

/-- A PI loop: the integrator after this run and the output; the integrator is clamped, or held (R122, R188). -/
def piStep (hold : Bool) (kp ki lim e integ : Rat) : Rat × Rat :=
  let i := if hold then integ else limitRat (-lim) lim (integ + ki * e)
  (i, kp * e + i)

/-- One frame of the current controller: the integrators at keys `k` and `k + 1`, and the voltage. `w` is ωL, signed. -/
def frameControl (c : Kept) (hold : Bool) (k : Nat) (kp ki lim w : Rat) (free : Rat × Rat) (ref i v : Rat × Rat) :
    Kept × (Rat × Rat) :=
  let d := piStep hold kp ki lim (ref.1 - i.1) (c.at free.1 k)
  let q := piStep hold kp ki lim (ref.2 - i.2) (c.at free.2 (k + 1))
  ((c.put k (some d.1)).put (k + 1) (some q.1), (d.2 + v.1 - w * i.2, q.2 + v.2 + w * i.1))

/-- ωL of a bridge: ω is the angular frequency of the block (log entry 37). -/
def omegaL (s : State) (b : Nat) : Rat := par s 0 0xE3 * brPar s b 1

/-- The voltage of a grid-following bridge in the stationary frame, with what it keeps and i_d+. How the notch and the
separation of the voltages work in detail is not stated: the notched currents and the voltages of the two frames are
free. -/
def gflVoltage (s : State) (b : Nat) : Kept × (Rat × Rat) × Rat :=
  let r := gflRefs s b
  let a := angleFrac (inVal s 0x80)
  let rated (v : Rat × Rat) : Rat × Rat := (v.1 * brPar s b 8, v.2 * brPar s b 8)
  let two (k : Nat) : Rat × Rat := (freeVal s k, freeVal s (k + 1))
  let p := frameControl (keptOf s) (romHeld s) (16 * b) (brPar s b 3) (brPar s b 4) (brPar s b 7) (omegaL s b) (two 2)
    (rated r.1) (two 4) (two 6)
  let n := frameControl p.1 (romHeld s) (16 * b + 2) (brPar s b 5) (brPar s b 6) (brPar s b 7) (-(omegaL s b)) (two 8)
    (rated r.2) (two 10) (two 12)
  let x := turnBy a p.2
  let y := turnBy (-a) n.2
  (n.1, (x.1 + y.1, x.2 + y.2), freeVal s 4)

/-- The voltage of a grid-forming bridge: the angle advanced from the slot's sample instant, the virtual impedance, the
voltage loop, the current limit, the current loop (R190). -/
def gfmVoltage (s : State) (b : Nat) : Kept × (Rat × Rat) × Rat :=
  let a := angleFrac (inVal s 0x41 + 2 * inVal s 0x42 * ((s.b.ke0.age : Nat) * periodSec s))
  let i := turnBy (-a) (clarke (bridgeCurrent s b 0) (bridgeCurrent s b 1) (bridgeCurrent s b 2))
  let v := turnBy (-a) (clarke (gridVolt s 0) (gridVolt s 1) (gridVolt s 2))
  let pu (k : Nat) (x : Rat) : Rat := ratio (freeVal s k) x (brPar s b 8)
  let above := pu 0 (magnitude i) - viPar s b 2
  let rv := viPar s b 0 + (if 0 < above then viPar s b 3 * above else 0)
  let xv := viPar s b 1
  let c := keptOf s
  let d := piStep (romHeld s) (viPar s b 4) (viPar s b 5) (viPar s b 6) (inVal s 0x40 - rv * i.1 + xv * i.2 - v.1)
    (c.at (freeVal s 1) (16 * b + 8))
  let q := piStep (romHeld s) (viPar s b 4) (viPar s b 5) (viPar s b 6) (-(rv * i.2) - xv * i.1 - v.2)
    (c.at (freeVal s 2) (16 * b + 9))
  let r := if romHeld s then (0, 0)
    else (limitRefs (s.on F.GRD_CTRL_Q_PRIO) (brPar s b 9) (inVal s 0x86 * pu 3 d.2) (pu 4 q.2) 0 (0, 0)).1
  let p := frameControl ((c.put (16 * b + 8) (some d.1)).put (16 * b + 9) (some q.1)) (romHeld s) (16 * b)
    (brPar s b 3) (brPar s b 4) (brPar s b 7) (omegaL s b) (freeVal s 5, freeVal s 6)
    (r.1 * brPar s b 8, r.2 * brPar s b 8) i v
  (p.1, turnBy a p.2, i.1)

/-! #### Modulation (R191, R192) -/

/-- The three phase values of a vector in the stationary frame. -/
def phaseValue (v : Rat × Rat) (x : Nat) : Rat :=
  let h := v.2 * (86602540378443864676 / 100000000000000000000)
  if x = 0 then v.1 else if x = 1 then h - v.1 / 2 else -h - v.1 / 2

/-- The zero-sequence offset of a bridge and the integrator of PI_0; the manual states no clamp for it: beyond the limit of
the offset it is not known. P_b is the sum of voltage times current over the phases (R192, log entry 37). -/
def zeroSequence (s : State) (b : Nat) : Option Rat × Rat :=
  let sum (f : Nat → Rat) : Rat := f 0 + f 1 + f 2
  let i0 := sum (bridgeCurrent s b) / 3
  let p := sum fun x => gridVolt s x * bridgeCurrent s b x
  let sgn : Rat := if 0 < p then 1 else if p < 0 then -1 else 0
  let lo := inVal s 0x1D
  let was := (keptOf s).at (limitRat (-1 / 20) (1 / 20) (freeVal s 14)) (16 * b + 7)
  let integ := if romHeld s then was else was - brPar s b 0x0D * i0
  let u := -(brPar s b 0x0B) * ratio (freeVal s 15) (linkVolt s - lo - lo) (linkVolt s) * sgn - brPar s b 0x0C * i0 + integ
  (if -1 / 20 ≤ integ ∧ integ ≤ 1 / 20 then some integ else none, limitRat (-1 / 20) (1 / 20) u)

/-- The duty of an outer pair of a phase leg: one below DMIN is written as 0 (R191). -/
def outerDuty (dmin x : Rat) : Rat :=
  let d := if 0 < x then x else 0
  if d < dmin then 0 else d

/-- The state that the inner pair is due to have: S2 on or S3 on (R191). -/
def innerDue (hys r : Rat) (due : Bool) : Bool := if hys ≤ r then true else if r ≤ -hys then false else due

/-- A phase leg with reference `r`: the three pairs, a due change of the inner pair only while both outer duties are 0
(R191). -/
def romLeg (b p : Nat) (r : Rat) : Prog := fun s =>
  let d0 := outerDuty (brPar s b 0x0F) r
  let d1 := outerDuty (brPar s b 0x0F) (-r)
  let was := tget ((fresh s 0).testBit 0) s.b.ke0.rom.inner p
  let due := innerDue (brPar s b 0x10) r (tget was s.b.ke0.rom.due p)
  let s2 := if d0 == 0 && d1 == 0 then due else was
  [spend 1, updRom0 fun q => { q with inner := tput q.inner p s2, due := tput q.due p due }]
    ++ pairOut (3 * p) (dutyWord s d0) ++ pairOut (3 * p + 1) (dutyWord s d1)
    ++ pairOut (3 * p + 2) (dutyWord s (if s2 then 1 else 0))

/-- The observer of an inductor current: `drive` is u − v (R182). -/
def observe (s : State) (free l r k drive i x : Rat) : Rat := x + ratio free (par s 0 0xE0) l * (drive - r * x) + k * (i - x)

/-- A phase of an enabled bridge: its leg, its observer and its prediction; the reference is a fraction of V_dc/2, limited
to ±RLIM (R182, R191). -/
def romPhase (b : Nat) (u : Rat × Rat) (u0 : Rat) (x : Nat) : Prog := fun s =>
  let lim := brPar s b 0x0E
  let r := limitRat (-lim) lim (ratio (freeVal s 0) (2 * phaseValue u x) (linkVolt s) + u0)
  let e := observe s (freeVal s 1) (brPar s b 1) (brPar s b 2) (brPar s b 0x0A) (r * linkVolt s / 2 - gridVolt s x)
    (bridgeCurrent s b x) ((keptOf s).at (freeVal s 2) (16 * b + 4 + x))
  thenDo
    [spend 3, updKept fun c => (c.put (16 * b + 10 + x) (some r)).put (16 * b + 4 + x) (some e), romExpect (3 * b + x) e]
    (romLeg b (3 * b + x) r) s

/-- A bridge: its leg pairs, its predictions, and its active current in OSLOT 0x70 to 0x73 (R182, R189, R205). -/
def romBridge (gfm : Bool) (b : Nat) : Prog := fun s =>
  if brPar s b 0 = 0 then ((List.range 9).flatMap fun k => pairSafe s (9 * b + k)) ++ [slotSafe s (0x70 + b)]
  else
    let v := if gfm then gfmVoltage s b else gflVoltage s b
    let z := zeroSequence s b
    thenDo
      [spend 16, updKept fun _ => v.1.put (16 * b + 7) z.1, .set (F.KE0_OSLOT_VAL (0x70 + b)) (slotFit v.2.2)]
      (inOrder ((List.range 3).map (romPhase b v.2.1 z.2))) s

/-- A DC input: its current loop, whose integrator holds while the input is under scan, its observer and its prediction.
What the boost stage applies to its inductor is not stated: it is free (R182, R189, R212, log entry 37). -/
def romInput (j : Nat) : Prog := fun s =>
  let i := inVal s (dcCurrentSlot j)
  let e := inVal s (0x48 + j) - i
  let was := (keptOf s).at (limitRat 0 1 (freeVal s 0)) (64 + 2 * j)
  let integ := if roundRat (inVal s 0x9C) = j then was else limitRat 0 1 (was + dcPar s j 4 * e)
  let x := observe s (freeVal s 1) (dcPar s j 1) (dcPar s j 2) (dcPar s j 6) (freeVal s 2) i
    ((keptOf s).at (freeVal s 3) (65 + 2 * j))
  if dcPar s j 0 = 0 then pairSafe s (36 + j)
  else pairOut (36 + j) (dutyWord s (limitRat 0 1 (dcPar s j 3 * e + integ)))
    ++ [spend 4, updKept fun c => (c.put (64 + 2 * j) (some integ)).put (65 + 2 * j) (some x), romExpect (12 + j) x]

/-- The observer of the DC link: the output currents of the boost stages are not measured, their sum is free (R182). -/
def romLink : Prog := fun s =>
  let drawn : Rat := ((List.range 12).filter fun p => brPar s (p / 3) 0 ≠ 0).foldl
    (fun n p => n + (keptOf s).at 0 (16 * (p / 3) + 10 + p % 3) * bridgeCurrent s (p / 3) (p % 3)) 0
  let v := (keptOf s).at (freeVal s 0) 96
  let x := v + ratio (freeVal s 1) (par s 0 0xE0) (par s 0 0xE1) * (freeVal s 2 - drawn / 2)
    + par s 0 0xE2 * (linkVolt s - v)
  [spend 3, updKept fun c => c.put 96 (some x), romExpect 24 x]

/-- A run of GFL_DQ or GFM_VI: BRK and the other slots are not written. -/
def romClass0 (gfm : Bool) : Prog := inOrder
  ((List.range 4).map (romBridge gfm) ++ (List.range 12).map romInput ++ [romLink])

/-! ### Class 1: GFL_OUTER and GFM_OUTER -/

/-- What perturb and observe holds for an input. -/
def poOf (s : State) (j : Nat) : PerturbObserve := tget {} s.b.ke1.rom.po j
def updRom (g : RomState → RomState) : Eff := updKe1 fun e => { e with rom := g e.rom }
def updPo (j : Nat) (g : PerturbObserve → PerturbObserve) : Eff :=
  updRom fun r => { r with po := tput r.po j (g (tget {} r.po j)) }

/-- The parameters of the MPPT step of an input (R213). -/
def poPar (s : State) (j k : Nat) : Rat := par s 1 (0x100 + 0x10 * j + k)

/-- V_op as it stands; one that is not known is free within V_min to V_max. -/
def vopNow (s : State) (j : Nat) : Rat := (poOf s j).vop.getD (limitRat (poPar s j 5) (poPar s j 6) (freeVal s 0))

/-- One decision (R211): from the change of the mean, the step and the direction; without an earlier mean the change is
free. -/
def poDecide (s : State) (j : Nat) (mean : Rat) : PerturbObserve :=
  let q := poOf s j
  let dp := match q.prev with
    | none => freeVal s 1
    | some m => mean - m
  let mag := if dp < 0 then -dp else dp
  let was := q.up.getD ((fresh s 2).testBit 0)
  let inc := if mag < poPar s j 4 then poPar s j 1 else limitRat (poPar s j 1) (poPar s j 2) (poPar s j 3 * mag)
  let up := if mag < poPar s j 4 then was else if dp < 0 then !was else was
  { vop := some (limitRat (poPar s j 5) (poPar s j 6) (vopNow s j + (if up then inc else -inc)))
    up := some up
    prev := some mean }

/-- Perturb and observe of an input in one run (R211, R212): a completed scan sets V_op and restarts the history, an
input under scan holds, and a decision comes every N_PO runs. -/
def poRun (j : Nat) : Prog := fun s =>
  let q := poOf s j
  let n := (roundRat (poPar s j 9)).toNat
  let was := s.b.ke1.rom.code.getD (fresh s 3 % 256)
  let done := (runInt s 0x9D).toNat != was && (runInt s 0x9D).toNat % 16 == j
  let sum := q.sum + runVal s (4 * j + 2) * runVal s (dcCurrentSlot j)
  if poPar s j 0 ≠ 1 then []
  else
    let q' : PerturbObserve :=
      if done then { vop := some (runVal s (0x90 + j)), up := q.up }
      else if runInt s 0x9C = j then { q with vop := some (vopNow s j) }
      else if n ≤ q.n + 1 then poDecide s j (sum / ((max n 1 : Nat) : Rat))
      else { q with vop := some (vopNow s j), sum := sum, n := q.n + 1 }
    thenDo [updPo j fun _ => q', spend 3]
      (storeSlot 1 true (0xA0 + j) (slotOf 11 (q'.vop.getD 0))) s

/-- An integrator stands at one of its limits: the flag of its stage, which the manual does not name, is set (R122). -/
def clampAny (hit : Bool) : Prog := onlyIf (fun _ => hit)
  fun s => thenDo [spend 1] (clampFlags (fresh s 0 % 64)) s

/-- The voltage loop of an input: its integrator, clamped at 0 and at the current limit of the input, and the set-point
before the limit of R205; an input whose EN is not 1 has a free one (R211). -/
def dcLoop (s : State) (j : Nat) : Option Rat × Rat :=
  let e := runVal s (4 * j + 2) - vopNow s j
  let lim := dcPar s j 5
  let was := s.b.ke1.rom.kept.at (limitRat 0 lim (freeVal s (20 + j))) (16 + j)
  let integ := limitRat 0 lim (was + poPar s j 8 * e)
  if poPar s j 0 ≠ 1 then (none, freeVal s (20 + j)) else (some integ, poPar s j 7 * e + integ)

/-- Reduce set-points so that the power of the inputs falls by `need`: of each entry the set-point, the voltage and a free
value; how the inputs share the reduction is free (R205). -/
def cutPower : Rat → List (Rat × Rat × Rat) → List Rat
  | _, [] => []
  | need, (x, v, f) :: l =>
    let power (y w : Rat) : Rat := if 0 < y * w then y * w else 0
    let rest := l.foldl (fun n q => n + power q.1 q.2.1) 0
    let least := if rest < need then need - rest else 0
    let most := if power x v < need then power x v else need
    let c := limitRat least most f
    (if v = 0 then x else x - c / v) :: cutPower (need - c) l

/-- The active power that class 0 reports: 1.5 × |v+| × Σ i_d, with |v+| of ISLOT 0x87 in pu of the phase peak that the
block of class 0 holds (R205, log entry 37). -/
def acPower (s : State) : Rat :=
  let i : Rat := ((List.range 4).map fun b => slotVal ((ke1Run s).feed.getD b 0)).foldl (· + ·) 0
  let p := 3 / 2 * runVal s 0x87 * par s 0 0xE4 * i
  if 0 < p then p else 0

/-- The current set-points of the inputs: 0 in CESSATION and TRIPPED; in RIDE_THROUGH and RECOVERY limited so that the DC
power does not exceed the AC power; else as the voltage loops give them (R205, R211). -/
def dcSetpoints : Prog := fun s =>
  let st := runInt s 0x82
  let raw := (List.range 12).map fun j => (dcLoop s j).2
  let volts := (List.range 12).map fun j => runVal s (4 * j + 2)
  let total : Rat := (raw.zip volts).foldl (fun n q => if 0 < q.1 * q.2 then n + q.1 * q.2 else n) 0
  let limited := if acPower s < total then
      cutPower (total - acPower s) ((raw.zip volts).zipIdx.map fun p => (p.1.1, p.1.2, freeVal s p.2))
    else raw
  let sets : List Rat := if st = 2 ∨ st = 4 then List.replicate 12 0 else if st = 1 ∨ st = 3 then limited else raw
  thenDo
    [updRom fun r => { r with kept := (List.range 12).foldl (fun c j => c.put (16 + j) (dcLoop s j).1) r.kept }, spend 40]
    (inOrder ((List.range 12).map (fun j => clampAny ((dcLoop s j).1.any fun i => i == 0 || i == dcPar s j 5))
      ++ sets.zipIdx.map fun p => storeSlot 1 false (0x48 + p.2) (slotFit p.1))) s

/-- The virtual synchronous machine: E*, and angle and frequency from run to run. The powers P and Q are not stated in terms
of measurements: they are free, as are an angle and a frequency not known yet (R190, log entry 37). -/
def vsmRun : Prog := fun s =>
  let k := s.b.ke1.rom.kept
  let p (n : Nat) : Rat := par s 1 (0x200 + n)
  let known (n : Nat) (free : Rat) : Rat := (tget none k.val n).getD free
  let f := known 0 (freeVal s 0)
  let a := angleFrac (known 1 (freeVal s 1) + 2 * f * p 8)
  let e := limitRat (p 4) (p 5) (p 3 + p 2 * ratio (freeVal s 2) (par s 1 0x21 - freeVal s 3) (p 6))
  let slope := ratio (freeVal s 4) (par s 1 0x20 - freeVal s 5) (p 6)
    - p 1 * ratio (freeVal s 6) (f - runVal s 0x81) (p 7)
  let f' := f + p 8 * ratio (freeVal s 7) slope (2 * p 0)
  thenDo
    [updRom fun r => { r with kept := (r.kept.put 0 (some f')).put 1 (some ((a : Rat) / 16777216)) }, spend 8]
    (inOrder [storeSlot 1 false 0x40 (slotFit e), storeSlot 1 false 0x41 (angleSlot a), storeSlot 1 false 0x42 (slotFit f')])
    s

/-- The PLL: its angle and its phase error are free; a PI of the error, both limited, gives the frequency, and it is locked
while the error lies within the lock band (R187, R206; how the parameters act: DESIGN CHOICE, log entry 37). -/
def pllRun : Prog := fun s =>
  let p (n : Nat) : Rat := par s 1 n
  let e := freeVal s 1
  let integ := limitRat (p 2) (p 3) (s.b.ke1.rom.kept.at (freeVal s 2) 33 + p 1 * e)
  thenDo [spend 3, updRom fun r => { r with kept := r.kept.put 33 (some integ) }]
    (inOrder
      [ clampAny (decide (integ = p 2 ∨ integ = p 3)),
        storeSlot 1 true 0x90 (slotWord (signedOf 24 (fresh s 0)) 0),
        storeSlot 1 true 0x91 (slotOf 7 (limitRat (p 2) (p 3) (p 0 * e + integ))),
        storeSlot 1 true 0x92 (flagSlot (decide (p 4 ≠ 0 ∧ -p 4 ≤ e ∧ e ≤ p 4))) ]) s

/-- The DC-link integrator of class 1, which clamps at its limits (R205, R206). What GFL_OUTER makes of its output, of V_min
and of the dispatch words the manual does not state (log entry 37). -/
def linkLoop : Prog := fun s =>
  let p (n : Nat) : Rat := par s 1 (0x10 + n)
  let integ := limitRat (p 4) (p 5) (s.b.ke1.rom.kept.at (limitRat (p 4) (p 5) (freeVal s 0)) 32 + p 3 * (runVal s 0x19 - p 0))
  thenDo [spend 1, updRom fun r => { r with kept := r.kept.put 32 (some integ) }]
    (clampAny (decide (integ = p 4 ∨ integ = p 5))) s

/-- A run of GFL_OUTER or GFM_OUTER: the PLL (R187), the set-points of class 0 (R185), perturb and observe (R211). -/
def romClass1 (gfm : Bool) : Prog := inOrder
  ([ pllRun, linkLoop ]
    ++ (if gfm then [vsmRun] else (List.range 8).map fun k => freeSlot false (0x40 + k))
    ++ (List.range 12).map poRun
    ++ [ fun s => [updRom fun r => { r with code := some (runInt s 0x9D).toNat }], dcSetpoints ])

/-! ### Class 2 -/

/-- Milliseconds of pump time since an earlier run (R355). -/
def pumpMs (s : State) (t : Nat) : Nat := ((runInt s 0xE5).toNat + 65536 - t) % 65536

/-- A reference moves toward a set-point by at most what its rates allow. -/
def moveTo (up down x target : Rat) : Rat :=
  if x ≤ target then (if x + up < target then x + up else target)
  else if target < x - down then x - down else target

/-- A run of PUMP_SPD (R354): outside RUN it follows the pump; in RUN its PI loop gives the duty, its integrator clamped
between the duty limits under R122. -/
def romPump : Prog := fun s =>
  let speed := runVal s 0xE0
  let now := (runInt s 0xE5).toNat
  if par s 1 0x400 = 0 then []
  else if runInt s 0xE2 ≠ 3 then
    thenDo [updRom fun r => { r with pump := some (speed, runVal s 0xE3, now) }] (storeSlot 1 true 0x80 (runWord s 0xE3)) s
  else match s.b.ke1.rom.pump with
    | none => freeSlot true 0x80 s
    | some (ref, integ, t) =>
      let dt : Rat := (pumpMs s t : Rat) / 1000
      let demand := slotVal (s.get (F.KE1_OSLOT_VAL 1))
      let target := if par s 1 0x401 < demand then demand else par s 1 0x401
      let ref' := moveTo (par s 1 0x402 * dt) (par s 1 0x403 * dt) ref target
      let lo := par s 1 0x406
      let hi := par s 1 0x407
      let raw := integ + par s 1 0x405 * (ref' - speed) * dt
      let integ' := limitRat lo hi raw
      inOrder
        [ fun _ => [updRom fun r => { r with pump := some (ref', integ', now) }],
          fun s => if integ' = lo ∨ integ' = hi then thenDo [spend 1] (clampFlags (96 + fresh s 0 % 4)) s else [],
          storeSlot 1 true 0x80 (slotOf 1 (par s 1 0x404 * (ref' - speed) + integ')) ] s

/-- The hottest sensor of the mask (R473); none where the mask names none. -/
def hottest (s : State) : Option Rat :=
  let m := (roundRat (par s 1 0x441)).toNat
  ((List.range 6).filter fun n => m.testBit n).foldl
    (fun o n => match o with
      | none => some (runVal s (0xF0 + n))
      | some t => some (if t < runVal s (0xF0 + n) then runVal s (0xF0 + n) else t)) none

/-- A run of THERM_DERATE (R473). The filtered temperature moves by a free part of the way toward the hottest sensor. -/
def romTherm : Prog := fun s =>
  let t0 := par s 1 0x442
  let t1 := par s 1 0x443
  let part := limitRat 0 1 (freeVal s 0)
  let t := match hottest s, s.b.ke1.rom.therm with
    | some h, some (f, _) => f + part * (h - f)
    | _, _ => slotVal (fresh s 1)
  let x := if t1 = t0 then limitRat 0 1 (slotVal (fresh s 2)) else limitRat 0 1 ((t - t0) / (t1 - t0))
  if par s 1 0x440 = 0 then []
  else inOrder
    [ fun s => [updRom (fun r => { r with therm := some (t, (runInt s 0xE5).toNat) }), spend 3],
      storeSlot 1 true 0xB0 (slotOf 1 (1 - x * (1 - par s 1 0x444))),
      storeSlot 1 true 0x81 (slotOf 14 (par s 1 0x445 + x * (par s 1 0x446 - par s 1 0x445))) ] s

/-- A run of ISLAND_ACT (R223, R224): the drift bias; and in the first run after a pulse a new impedance, from the last run
in the pulse and this one; the verdict after N_Z pulses in a row above the threshold (log entry 37). With N_Z or Z_THR zero
it judges nothing (R9). -/
def romIsland : Prog := fun s =>
  let r := s.b.ke1.rom
  let inj := runVal s 0x9F
  let mag := runVal s 0x87
  let ends := inj == 0 && r.pulse.isSome
  let z := match r.pulse with
    | some p => ratio (freeVal s 0) (p.1 - mag) p.2
    | none => 0
  let w := if ends then slotOf 1 z else r.zWord.getD 0
  let nz := roundRat (par s 1 0x4C4)
  let judges := decide (par s 1 0x4C3 ≠ 0) && decide (0 < nz)
  let n := if !judges then 0 else if ends then (if par s 1 0x4C3 < z then r.zRun + 1 else 0) else r.zRun
  let bias := limitRat (-(par s 1 0x4C1)) (par s 1 0x4C1) (-(par s 1 0x4C0) * (runVal s 0x81 - par s 1 0x4C2))
  inOrder
    [ fun _ => [updRom (fun r => { r with
          pulse := if inj = 0 then none else some (mag, inj)
          zRun := n
          zWord := if ends then some w else r.zWord }), spend 1],
      storeSlot 1 true 0xAE (slotOf 1 bias),
      onlyIf (fun _ => ends || r.zWord.isSome) (storeSlot 1 true 0xAD w),
      storeSlot 1 true 0xAC (flagSlot (judges && decide (nz ≤ n))) ] s

/-- A run of TW_LOCATE (R342): when the pair count has changed, the distance from end A of the pair's segment. -/
def romLocate : Prog := fun s =>
  let w := (runInt s 0xA7).toNat
  let sg := w % 8
  let p := 0x580 + 8 * sg
  let new := w / 16 != s.b.ke1.rom.pairs.getD (fresh s 0 % 16)
  let x := (par s 1 (p + 1) + par s 1 (p + 2) * (runVal s 0xA6 + par s 1 (p + 3))) / 2
  inOrder
    [ fun _ => [updRom (fun r => { r with pairs := some (w / 16) }), spend 1],
      onlyIf (fun _ => new && decide (par s 1 p ≠ 0))
        (inOrder [storeSlot 1 true (0xF0 + sg) (slotOf 16 x), storeSlot 1 true 0xF8 (runWord s 0xA7)]) ] s

/-! ### A run of a ROM program -/

/-- What a ROM program does in a run. -/
def romLaw (id : Nat) : Prog :=
  match id with
  | 0x01 => romClass0 false
  | 0x02 => romClass0 true
  | 0x10 => romClass1 false
  | 0x11 => romClass1 true
  | 0x20 => romPump
  | 0x21 => romTherm
  | 0x22 => romIsland
  | 0x23 => romLocate
  | _ => fun _ => []

/-- Which stages of a ROM program's run saturate or reach a limit is not known: each may, and its flags follow (R120, R122).
The limit of PUMP_SPD is stated (R354). -/
def romFlags (eng id : Nat) : Prog := fun s =>
  let r := romStages id
  let sts := ((List.range (r.2 + 1 - r.1)).map (r.1 + ·)).filter fun st => (coreOf s eng).stLen st != 0
  thenDo [spend (2 * sts.length)]
    (inOrder (sts.zipIdx.map fun p =>
      kFlags eng p.1 ((fresh s (2 * p.2)).testBit 0) (id != 0x20 && (fresh s (2 * p.2 + 1)).testBit 0))) s

/-- The END of a run of a ROM program: its cycles count, its effect takes place, its stages are free. -/
def romEnd (eng : Nat) : Prog := fun s =>
  let runs := if eng = 0 then s.b.ke0.running else s.b.ke1.cls != 0
  match kRom s eng with
  | none => []
  | some id =>
    if runs then inOrder [roundAdd eng ((romLen eng id).getD 0), romLaw id, romTouch eng id, romFlags eng id] s else []

end Sys2Proof.Machine
end

