-- ==== Sys2Proof/Machine/Late.lean ====
section
/-! DEFINITION. The events in which many blocks act together: the sample instant, the shadow write, the end of a
program run, the local second boundary and the scheduled instant; and remote access at the target (R94 to R96). -/

namespace Sys2Proof.Machine

/-! ### The control period (R130) -/

/-- SAMPLE_INSTANT: set-points swap, groups committed for the sample instant take effect, the converters are
triggered, and the supervisors run once; the stages that Buttress loads are loaded after KE0 has entered RUN (R124). -/
def sampleInstant (mv : Nat) : Prog := onlyIf (fun s => s.b.ke0.timer)
  (inOrder
    [ fpmAdopt, fadEnds, facTrigger, fadTrigger, ke0Sample, butSample, startDuePairs,
      mptSample, grdSample, phsSample, twvSample, metSample, pmpSlots mv, fpmSlots, brakeThresholds,
      ke1Sample butSlot ])

/-- SHADOW_WRITE at cycle W: the pair under scan keeps its compare values (R128, R217, R395). -/
def shadowPhase : Prog := fun s =>
  if !s.b.ke0.timer then []
  else inOrder [mptAtW, fun s => shadowWrite (mptOwns s) s, mptBack, butAtW] s

/-- Where an output of KE1 goes at END (R127): pump, ride-through, maximum-power commands. -/
def slotDeliver (n w : Nat) : Prog :=
  if n = 0x80 then pmpDeliver w
  else if 0x90 ≤ n ∧ n < 0xA0 then grdDeliver n w
  else if 0xA0 ≤ n ∧ n < 0xB0 then mptDeliver n w
  else fun _ => []

/-- END of a run of an engine, with what its ROM program has done (R127, R130, R163). -/
def engineEnd (eng : Nat) : Prog := fun s =>
  if !kAtEnd s eng then []
  else if eng = 0 then inOrder [romEnd 0, onlyIf (fun s => s.b.ke0.running) (eccCount 0), ke0End] s
  else inOrder [romEnd 1, onlyIf (fun s => s.b.ke1.cls != 0) (eccCount 1), ke1End slotDeliver,
    onlyIf (fun _ => s.b.ke1.cls == 1) butAtEnd1] s

/-! ### The local second boundary -/

/-- TIM_IRQ_STAT.PPS_EDGE, which has no STICKY bit (R451). -/
def ppsEdgeFld : Fld := ⟨keyAt 0x2010 + 8, 1⟩

/-- The local second that begins. -/
def boundarySec (s : State) : Nat := nearestSec s.b.tim.t

/-- The boundary's freeze on the power die (R311). -/
def boundaryFreeze : Prog := fun s =>
  let n := s.cur F.MET_FRZ_INT_S
  if n = 0 ∨ boundarySec s % n ≠ 0 then [] else onPower freeze s

/-- The dividers re-synchronise at a boundary after VALID when no PPS_IN is present (R39). -/
def boundarySync : Prog :=
  onlyIf (fun s => s.on F.TIM_STATUS_VALID && !s.on F.TIM_STATUS_PPS_IN_PRESENT) dividerSync

/-- LOCAL_SECOND_BOUNDARY (R58, R39, R311, R325, R451). -/
def secondBoundary : Prog := onlyIf (fun s => s.b.tim.counting)
  (inOrder
    [ fun s => raise s ppsEdgeFld 1, ppsOutRise, boundarySync, phsAdopt, boundaryFreeze, guarUpdate ])

/-! ### Scheduled actions (R92) -/

/-- The armed slots whose time has come. -/
def dueSlots (s : State) : List Nat :=
  (List.range 8).filter fun n => (s.get F.RDG_SCHED_STAT_ARMED).testBit n && armedTime s n ≤ s.b.tim.t

/-- The parameter bits [3:0] of the due slots with an action, together. -/
def dueParam (s : State) (a : Nat) : Nat :=
  (dueSlots s).foldl (fun m n => if s.cur (F.RDG_SCHED_ACT_ACTION n) = a then m ||| s.cur (F.RDG_SCHED_ACT_PARAM n) % 16 else m) 0

/-- Some due slot has an action. -/
def dueAction (s : State) (a : Nat) : Bool := (dueSlots s).any fun n => s.cur (F.RDG_SCHED_ACT_ACTION n) == a

/-- The groups after the enables and disables that fall due: a disable prevails. -/
def dueGroups (s : State) : Nat := clearMask (s.get F.PWX_GEN_GRP ||| dueParam s 2) (dueParam s 3)

/-- The bits that the due actions fix: group enables and disables, and phasor sets started. -/
def dueBits (s : State) : List (Nat × Bool) :=
  ((List.range 4).filter fun i => (dueParam s 2 ||| dueParam s 3).testBit i).map
      (fun i => (F.PWX_GEN_GRP.key + i, (dueGroups s).testBit i))
    ++ ((List.range 4).filter fun i => (dueParam s 4).testBit i).map fun i => (F.PHS_RUN_SET.key + i, true)

/-- SCHED_DONE: every armed slot whose time has come acts, and prevails over a host write of the same cycle (R92). -/
def schedDone : Prog := fun s =>
  let due := dueSlots s
  let mask := due.foldl (fun m n => m ||| 2 ^ n) 0
  let groups := dueGroups s
  if due.isEmpty then []
  else inOrder
    [ fun _ => [.set F.RDG_SCHED_STAT_ARMED (clearMask (s.get F.RDG_SCHED_STAT_ARMED) mask),
                .set F.RDG_SCHED_STAT_DONE (s.get F.RDG_SCHED_STAT_DONE ||| mask),
                .set F.PHS_RUN_SET (s.get F.PHS_RUN_SET ||| dueParam s 4),
                .upd fun b => { b with schedNow := dueBits s ++ b.schedNow }]
        ++ due.map fun n => .led 0x2408 0 [n, s.cur (F.RDG_SCHED_ACT_ACTION n)],
      onlyIf (fun _ => dueAction s 2 || dueAction s 3) (genWrite groups),
      onlyIf (fun _ => dueAction s 1) (crnTrigger 4 0 true) ] s

/-! ### Trip sources -/

/-- The condition of a trip source, as far as the part itself holds it; the level of a TRIP pin, an engine's FLAG and a
Ridgeline intertrip come with the command (R248). -/
def sourceHolds (s : State) (n : Nat) : Bool :=
  if n < 16 then true
  else if n < 80 then cmpTrips s (n - 16)
  else if n < 96 then true
  else if n < 104 then fpmLine s (n - 96)
  else if n = 104 then s.get F.KE0_STATUS_STATE == 4
  else if n = 105 then s.get F.GRD_STATUS_STATE == grdTripped
  else if n = 106 then s.on F.MPT_STATUS_ISLAND && s.curOn F.MPT_ISL_CTRL_TRIP_EN
  else if n = 107 then (List.range 49).any fun p => (pairOf s p).blocked && s.on (F.PAIR_CFG_SB_TRIP p)
  else 112 ≤ n

/-- TRIP_SOURCE_ASSERT: a source whose condition holds is asserted, engine flags, the interlock and intertrips for one coarse
tick (R248, R249). -/
def tripAssert (n : Nat) : Prog := onlyIf (fun s => sourceHolds s n)
  (if n < 80 || (96 ≤ n && n < 107) then setSource n true else pulseSource n)

/-! ### Remote access at the target (R94 to R96) -/

/-- The frame is for this node alone: a broadcast read or bulk read is not served. -/
def toMe (s : State) (f : Frame) : Bool := f.dest == s.get F.RDG_ADDR_ADDR

/-- REMOTE_READ_REQUEST. -/
def remoteRead (n : Nat) (f : Frame) : Prog := deliver n 3 0x30 f fun s =>
  let k := accessCount f
  let a := accessAddr f
  let e := if !s.on F.RDG_CTRL_REMOTE_RD_EN then 3 else requestErr 8 k a
  let answer (err : Nat) (words : List Nat) : Prog :=
    originate 3 f.src 0x31 (accessBlock (frameTag f) words.length err 0 a :: pairWords words)
  if !toMe s f then []
  else if k = 0 ∧ e ≠ 3 then answer 0 [] s
  else if e = 0 then
    let r := readWords .remote ((wordAddrs a k).map some) s
    thenDo r.2 (answer (readCode (wordAddrs a k)) r.1) s
  else
    let m := if 8 < k then 0 else k
    thenDo [spend m] (answer e (freeWords s m)) s

/-- REMOTE_WRITE_REQUEST: a broadcast is applied and not answered. -/
def remoteWrite (n : Nat) (f : Frame) : Prog := deliver n 3 0x32 f fun s =>
  let k := accessCount f
  let a := accessAddr f
  let e := if !s.on F.RDG_CTRL_REMOTE_WR_EN then 3 else requestErr 8 k a
  let me := toMe s f
  let answer (err : Nat) : Prog :=
    onlyIf (fun _ => me) (onMain (originate 3 f.src 0x33 [accessBlock (frameTag f) k err 0 a]))
  if k = 0 ∧ e ≠ 3 then answer 0 s
  else if e = 0 then
    let r := writeWords .remote ((wordAddrs a k).zip (blockWords f.data k)) s
    thenDo r.2 (answer (firstCode r.1)) s
  else answer e s

/-- BULK_READ_REQUEST: accepted, the words are read and sent in fragments; an error is answered at once with an
empty fragment. -/
def bulkRequest (n : Nat) (f : Frame) : Prog := deliver n 4 0x40 f fun s =>
  let k := accessCount f
  let a := accessAddr f
  let e := if !s.on F.RDG_CTRL_REMOTE_RD_EN then 3 else if k = 0 then 0 else requestErr 1024 k a
  if !toMe s f then []
  else if e ≠ 0 ∨ k = 0 then originate 4 f.src 0x41 [accessBlock (frameTag f) 0 e 0 a] s
  else [updRdg fun r => { r with serving := r.serving ++ [{ src := f.src, tag := frameTag f, addr := a, left := k, frag := 0 }] }]

/-- BULK_FRAGMENT_SEND: the oldest bulk read that is served sends its next fragment. -/
def bulkFragmentSend : Prog := fun s =>
  match s.b.rdg.serving with
  | [] => []
  | j :: l =>
    let k := min 120 j.left
    let addrs := wordAddrs j.addr k
    let r := readWords .remote (addrs.map some) s
    let rest := if j.left ≤ 120 then l
      else { j with addr := (j.addr + 480) % 2 ^ 24, left := j.left - 120, frag := j.frag + 1 } :: l
    thenDo (r.2 ++ [updRdg fun g => { g with serving := rest }])
      (originate 4 j.src 0x41 (accessBlock j.tag k (readCode addrs) j.frag j.addr :: pairWords r.1)) s

def execSampleInstant (volts : Fin 128) (mv : Fin 1000) (s : State) : Result :=
  run (onMain (sampleInstant (1000 * volts + mv))) s
def execShadowWrite (s : State) : Result := run (onMain shadowPhase) s
def execEnd (eng : Fin 2) (s : State) : Result := run (onMain (engineEnd eng)) s
def execTripSourceAssert (n : Fin 128) (s : State) : Result := run (onMain (tripAssert n)) s
def execLocalSecondBoundary (s : State) : Result := run (onMain secondBoundary) s
def execSchedDone (s : State) : Result := run (onMain schedDone) s
def execRemoteReadRequest (n : Fin 8) (f : Frame) (s : State) : Result := run (onMain (remoteRead n f)) s
def execRemoteWriteRequest (n : Fin 8) (f : Frame) (s : State) : Result := run (onMain (remoteWrite n f)) s
def execBulkReadRequest (n : Fin 8) (f : Frame) (s : State) : Result := run (onMain (bulkRequest n f)) s
def execBulkFragmentSend (s : State) : Result := run (onMain bulkFragmentSend) s

end Sys2Proof.Machine
end

