-- ==== Sys2Proof/Machine/Dispatch.lean ====
section
/-! DEFINITION. The dispatcher: one arm per command. -/

namespace Sys2Proof.Machine

/-- The effect of a command on everything but the queue. -/
def exec (i : Instr) (s : State) : Host.Outcome State Fault Refusal :=
  match i with
  | .softReset key => Sys2Proof.Machine.execSoftReset key s
  | .refQualified r => Sys2Proof.Machine.execRefQualified r s
  | .refLoss r => Sys2Proof.Machine.execRefLoss r s
  | .lineLock code phase => Sys2Proof.Machine.execLineLock code phase s
  | .ppsInEdge phase settled => Sys2Proof.Machine.execPpsInEdge phase settled s
  | .timCtrlWrite v => Sys2Proof.Machine.execTimCtrlWrite v s
  | .rdgCtrlWrite v => Sys2Proof.Machine.execRdgCtrlWrite v s
  | .keepalive n k => Sys2Proof.Machine.execKeepalive n k s
  | .frameForward lane f => Sys2Proof.Machine.execFrameForward lane f s
  | .intertrip n f => Sys2Proof.Machine.execIntertrip n f s
  | .itCmd groups => Sys2Proof.Machine.execItCmd groups s
  | .nodeLost n f => Sys2Proof.Machine.execNodeLost n f s
  | .exchangeStart phase => Sys2Proof.Machine.execExchangeStart phase s
  | .delayReq n f phase turn => Sys2Proof.Machine.execDelayReq n f phase turn s
  | .delayResp n f phase => Sys2Proof.Machine.execDelayResp n f phase s
  | .echo n probe own rt => Sys2Proof.Machine.execEcho n probe own rt s
  | .recalDone n passed corr => Sys2Proof.Machine.execRecalDone n passed corr s
  | .neighbourLost n => Sys2Proof.Machine.execNeighbourLost n s
  | .unwrap n => Sys2Proof.Machine.execUnwrap n s
  | .schedCommit mask => Sys2Proof.Machine.execSchedCommit mask s
  | .raccCmd write count => Sys2Proof.Machine.execRaccCmd write count s
  | .remoteReadRequest n f => Sys2Proof.Machine.execRemoteReadRequest n f s
  | .remoteWriteRequest n f => Sys2Proof.Machine.execRemoteWriteRequest n f s
  | .readResponse n f => Sys2Proof.Machine.execReadResponse n f s
  | .writeResponse n f => Sys2Proof.Machine.execWriteResponse n f s
  | .bulkCmd queue count => Sys2Proof.Machine.execBulkCmd queue count s
  | .bulkReadRequest n f => Sys2Proof.Machine.execBulkReadRequest n f s
  | .bulkFragment n f => Sys2Proof.Machine.execBulkFragment n f s
  | .lnkCtrlWrite n v => Sys2Proof.Machine.execLnkCtrlWrite n v s
  | .signalDetect n => Sys2Proof.Machine.execSignalDetect n s
  | .bitLock n phase freq => Sys2Proof.Machine.execBitLock n phase freq s
  | .blockLock n => Sys2Proof.Machine.execBlockLock n s
  | .polarity n inverted => Sys2Proof.Machine.execPolarity n inverted s
  | .laneReversal n swapped partnerLane skew => Sys2Proof.Machine.execLaneReversal n swapped partnerLane skew s
  | .delayMeasurement n measured corr rt => Sys2Proof.Machine.execDelayMeasurement n measured corr rt s
  | .laneReady n => Sys2Proof.Machine.execLaneReady n s
  | .train n w => Sys2Proof.Machine.execTrain n w s
  | .stageTmo n => Sys2Proof.Machine.execStageTmo n s
  | .linkDown n cause => Sys2Proof.Machine.execLinkDown n cause s
  | .cdrRange n => Sys2Proof.Machine.execCdrRange n s
  | .bitslip n => Sys2Proof.Machine.execBitslip n s
  | .retrain n => Sys2Proof.Machine.execRetrain n s
  | .prbsErrInject n => Sys2Proof.Machine.execPrbsErrInject n s
  | .prbsCntClr n => Sys2Proof.Machine.execPrbsCntClr n s
  | .lnkLoopWrite n v => Sys2Proof.Machine.execLnkLoopWrite n v s
  | .lnkPrbsCtrlWrite n v => Sys2Proof.Machine.execLnkPrbsCtrlWrite n v s
  | .prbsLock n => Sys2Proof.Machine.execPrbsLock n s
  | .prbsResync n => Sys2Proof.Machine.execPrbsResync n s
  | .prbsSat n errors => Sys2Proof.Machine.execPrbsSat n errors s
  | .prbsBitsRead n => Sys2Proof.Machine.execPrbsBitsRead n s
  | .rawRxRead n w => Sys2Proof.Machine.execRawRxRead n w s
  | .sampleInstant volts mv => Sys2Proof.Machine.execSampleInstant volts mv s
  | .nop eng w => Sys2Proof.Machine.execNop eng w s
  | .endRun eng => Sys2Proof.Machine.execEnd eng s
  | .flag eng w => Sys2Proof.Machine.execFlag eng w s
  | .lds eng w => Sys2Proof.Machine.execLds eng w s
  | .sts eng w => Sys2Proof.Machine.execSts eng w s
  | .mac eng w => Sys2Proof.Machine.execMac eng w s
  | .mul eng w => Sys2Proof.Machine.execMul eng w s
  | .add eng w => Sys2Proof.Machine.execAdd eng w s
  | .sub eng w => Sys2Proof.Machine.execSub eng w s
  | .neg eng w => Sys2Proof.Machine.execNeg eng w s
  | .abs eng w => Sys2Proof.Machine.execAbs eng w s
  | .sat eng w => Sys2Proof.Machine.execSat eng w s
  | .clamp eng w => Sys2Proof.Machine.execClamp eng w s
  | .integ eng w => Sys2Proof.Machine.execInteg eng w s
  | .norm eng w => Sys2Proof.Machine.execNorm eng w s
  | .she eng w => Sys2Proof.Machine.execShe eng w s
  | .trig eng w => Sys2Proof.Machine.execTrig eng w s
  | .clk3 eng w => Sys2Proof.Machine.execClk3 eng w s
  | .park eng w => Sys2Proof.Machine.execPark eng w s
  | .ipark eng w => Sys2Proof.Machine.execIpark eng w s
  | .cmp eng w => Sys2Proof.Machine.execCmp eng w s
  | .sel eng w => Sys2Proof.Machine.execSel eng w s
  | .rcp eng w => Sys2Proof.Machine.execRcp eng w s
  | .rsq eng w => Sys2Proof.Machine.execRsq eng w s
  | .expect eng w => Sys2Proof.Machine.execExpect eng w s
  | .ke0CtrlWrite v => Sys2Proof.Machine.execKe0CtrlWrite v s
  | .ke1CtrlWrite v => Sys2Proof.Machine.execKe1CtrlWrite v s
  | .check eng => Sys2Proof.Machine.execCheck eng s
  | .checkDone eng ecc => Sys2Proof.Machine.execCheckDone eng ecc s
  | .programWrite eng k hi v => Sys2Proof.Machine.execProgramWrite eng k hi v s
  | .parameterWrite eng k v => Sys2Proof.Machine.execParameterWrite eng k v s
  | .paramCopyDone eng => Sys2Proof.Machine.execParamCopyDone eng s
  | .engineFault eng mem addr => Sys2Proof.Machine.execEngineFault eng mem addr s
  | .fpmRelease k mask => Sys2Proof.Machine.execFpmRelease k mask s
  | .grdEntryTimer k => Sys2Proof.Machine.execGrdEntryTimer k s
  | .grdCtrlWrite v => Sys2Proof.Machine.execGrdCtrlWrite v s
  | .grdNominalWrite k v => Sys2Proof.Machine.execGrdNominalWrite k v s
  | .mptCtrlWrite v => Sys2Proof.Machine.execMptCtrlWrite v s
  | .injectionPulse start => Sys2Proof.Machine.execInjectionPulse start s
  | .pwmCtrlWrite n v => Sys2Proof.Machine.execPwmCtrlWrite n v s
  | .pairPeriodBoundary p => Sys2Proof.Machine.execPairPeriodBoundary p s
  | .pairMidPeriod p => Sys2Proof.Machine.execPairMidPeriod p s
  | .pairEdge p t => Sys2Proof.Machine.execPairEdge p t s
  | .deadTimeEnd p isH => Sys2Proof.Machine.execDeadTimeEnd p isH s
  | .cftMaxOn p => Sys2Proof.Machine.execCftMaxOn p s
  | .pwmCommit n => Sys2Proof.Machine.execPwmCommit n s
  | .autoCommitWrite p r v => Sys2Proof.Machine.execAutoCommitWrite p r v s
  | .tripSourceAssert n => Sys2Proof.Machine.execTripSourceAssert n s
  | .auxWindowEnd k => Sys2Proof.Machine.execAuxWindowEnd k s
  | .tripClear k mask => Sys2Proof.Machine.execTripClear k mask s
  | .brkSrcWrite v => Sys2Proof.Machine.execBrkSrcWrite v s
  | .pwxGenWrite v => Sys2Proof.Machine.execPwxGenWrite v s
  | .comparatorCrossing c v phase => Sys2Proof.Machine.execComparatorCrossing c v phase s
  | .comparatorSample c v phase => Sys2Proof.Machine.execComparatorSample c v phase s
  | .cmpCommit n => Sys2Proof.Machine.execCmpCommit n s
  | .cmpCntClr n => Sys2Proof.Machine.execCmpCntClr n s
  | .selfTest c => Sys2Proof.Machine.execSelfTest c s
  | .selfTestEnd c high low => Sys2Proof.Machine.execSelfTestEnd c high low s
  | .stfailClear n mask => Sys2Proof.Machine.execStfailClear n mask s
  | .slewPhaseEnd p isH => Sys2Proof.Machine.execSlewPhaseEnd p isH s
  | .softOffEnd p isH => Sys2Proof.Machine.execSoftOffEnd p isH s
  | .fadResult k input kind nv other ago => Sys2Proof.Machine.execFadResult k input kind nv other ago s
  | .urgentRequest u => Sys2Proof.Machine.execUrgentRequest u s
  | .urgentStart k => Sys2Proof.Machine.execUrgentStart k s
  | .fcsCheckDone gnd calP => Sys2Proof.Machine.execFcsCheckDone gnd calP s
  | .calDone ofs dev dac skew gnd calP => Sys2Proof.Machine.execCalDone ofs dev dac skew gnd calP s
  | .facEnableWrite v => Sys2Proof.Machine.execFacEnableWrite v s
  | .metrologySubinterval nv => Sys2Proof.Machine.execMetrologySubinterval nv s
  | .metrologyCycleEnd first last => Sys2Proof.Machine.execMetrologyCycleEnd first last s
  | .mclkGap ms => Sys2Proof.Machine.execMclkGap ms s
  | .preset a => Sys2Proof.Machine.execPreset a s
  | .accRead a => Sys2Proof.Machine.execAccRead a s
  | .frzRead a => Sys2Proof.Machine.execFrzRead a s
  | .metrologySave mv => Sys2Proof.Machine.execMetrologySave mv s
  | .pulseStart p => Sys2Proof.Machine.execPulseStart p s
  | .pulseEnd p => Sys2Proof.Machine.execPulseEnd p s
  | .watchTick a b c => Sys2Proof.Machine.execWatchTick a b c s
  | .phasorFrame sec frame sets => Sys2Proof.Machine.execPhasorFrame sec frame sets s
  | .refPhasor n f => Sys2Proof.Machine.execRefPhasor n f s
  | .phsCtrlWrite v => Sys2Proof.Machine.execPhsCtrlWrite v s
  | .twArrival det peak neg ago gap => Sys2Proof.Machine.execTwArrival det peak neg ago gap s
  | .twCaptureDone det codes gaps ago => Sys2Proof.Machine.execTwCaptureDone det codes gaps ago s
  | .twArrivalRecord n f => Sys2Proof.Machine.execTwArrivalRecord n f s
  | .pmpCtrlWrite v => Sys2Proof.Machine.execPmpCtrlWrite v s
  | .pumpPwmPeriod above crossed => Sys2Proof.Machine.execPumpPwmPeriod above crossed s
  | .vmPumpOv mv => Sys2Proof.Machine.execVmPumpOv mv s
  | .bootUv ph under => Sys2Proof.Machine.execBootUv ph under s
  | .bootHoldTimeout ph => Sys2Proof.Machine.execBootHoldTimeout ph s
  | .xcmpFrame wire len1 len2 khz => Sys2Proof.Machine.execXcmpFrame wire len1 len2 khz s
  | .safetyInputChange ch pin level => Sys2Proof.Machine.execSafetyInputChange ch pin level s
  | .discTimeout x => Sys2Proof.Machine.execDiscTimeout x s
  | .tpsSample ch pin before inside after => Sys2Proof.Machine.execTpsSample ch pin before inside after s
  | .switchOverload sw => Sys2Proof.Machine.execSwitchOverload sw s
  | .vsafeOut mv => Sys2Proof.Machine.execVsafeOut mv s
  | .readbackCheck ch out hs ls vsafe => Sys2Proof.Machine.execReadbackCheck ch out hs ls vsafe s
  | .darkTestEnd level vsafe => Sys2Proof.Machine.execDarkTestEnd level vsafe s
  | .resetSafeEdge us1 us2 => Sys2Proof.Machine.execResetSafeEdge us1 us2 s
  | .parapetInitDone passed => Sys2Proof.Machine.execParapetInitDone passed s
  | .butCtrlWrite v => Sys2Proof.Machine.execButCtrlWrite v s
  | .arbGrantAccept level => Sys2Proof.Machine.execArbGrantAccept level s
  | .class0Set f => Sys2Proof.Machine.execClass0Set f s
  | .class1Set f => Sys2Proof.Machine.execClass1Set f s
  | .hardwareSet f => Sys2Proof.Machine.execHardwareSet f s
  | .acknowledge f => Sys2Proof.Machine.execAcknowledge f s
  | .statusFrame f => Sys2Proof.Machine.execStatusFrame f s
  | .arbHealthEdge d ns inhPin => Sys2Proof.Machine.execArbHealthEdge d ns inhPin s
  | .arbHealthTimeout d => Sys2Proof.Machine.execArbHealthTimeout d s
  | .vddPwrPresent mv us => Sys2Proof.Machine.execVddPwrPresent mv us s
  | .vddPwrLoss mv => Sys2Proof.Machine.execVddPwrLoss mv s
  | .vbatLow mv => Sys2Proof.Machine.execVbatLow mv s
  | .storeThreshold mv harv => Sys2Proof.Machine.execStoreThreshold mv harv s
  | .harvestProbe mv => Sys2Proof.Machine.execHarvestProbe mv s
  | .harvestSample voc => Sys2Proof.Machine.execHarvestSample voc s
  | .coldStart secs mv => Sys2Proof.Machine.execColdStart secs mv s
  | .ledgerRecordWrite mv => Sys2Proof.Machine.execLedgerRecordWrite mv s
  | .deferSummary mv => Sys2Proof.Machine.execDeferSummary mv s
  | .counterCheckpoint mv => Sys2Proof.Machine.execCounterCheckpoint mv s
  | .roDrift counts => Sys2Proof.Machine.execRoDrift counts s
  | .roRecord counts => Sys2Proof.Machine.execRoRecord counts s
  | .bedrockStart mv vbat badCp badMet => Sys2Proof.Machine.execBedrockStart mv vbat badCp badMet s
  | .opsecRead n => Sys2Proof.Machine.execOpsecRead n s
  | .bedConfigWrite k v => Sys2Proof.Machine.execBedConfigWrite k v s
  | .sevqLookup code => Sys2Proof.Machine.execSevqLookup code s
  | .read a n cut => Sys2Proof.Machine.execRead a n cut s
  | .read4 a n cut => Sys2Proof.Machine.execRead4 a n cut s
  | .write a first words cut => Sys2Proof.Machine.execWrite a first words cut s
  | .write4 a first words cut => Sys2Proof.Machine.execWrite4 a first words cut s
  | .unknownCommand code => Sys2Proof.Machine.execUnknownCommand code s
  | .rdTmo a => Sys2Proof.Machine.execRdTmo a s
  | .hostLinkReadRequest f => Sys2Proof.Machine.execHostLinkReadRequest f s
  | .hostLinkWriteRequest f => Sys2Proof.Machine.execHostLinkWriteRequest f s
  | .hostLinkBulkRequest f => Sys2Proof.Machine.execHostLinkBulkRequest f s
  | .quePop q => Sys2Proof.Machine.execQuePop q s
  | .queConsWrite q c => Sys2Proof.Machine.execQueConsWrite q c s
  | .mailTx dest count => Sys2Proof.Machine.execMailTx dest count s
  | .mailReceive n f => Sys2Proof.Machine.execMailReceive n f s
  | .fuseIkey key => Sys2Proof.Machine.execFuseIkey key s
  | .fuseEnforce key => Sys2Proof.Machine.execFuseEnforce key s
  | .fuseMetLock key => Sys2Proof.Machine.execFuseMetLock key s
  | .lockKeyLock n perm => Sys2Proof.Machine.execLockKeyLock n perm s
  | .lockKeyUnlock n => Sys2Proof.Machine.execLockKeyUnlock n s
  | .keyBad n key => Sys2Proof.Machine.execKeyBad n key s
  | .imageWindowWrite copy k v => Sys2Proof.Machine.execImageWindowWrite copy k v s
  | .commitAdopt g => Sys2Proof.Machine.execCommitAdopt g s
  | .tempSample n t => Sys2Proof.Machine.execTempSample n t s
  | .railWindowChange n mv ns => Sys2Proof.Machine.execRailWindowChange n mv ns s
  | .samplePreload pins guarded free => Sys2Proof.Machine.execSamplePreload pins guarded free s
  | .registerWrite addr v => Sys2Proof.Machine.execRegisterWrite addr v s
  | .facPark k => Sys2Proof.Machine.execFacPark k s
  | .tripPinRelease n => Sys2Proof.Machine.execTripPinRelease n s
  | .vsafeReturn mv => Sys2Proof.Machine.execVsafeReturn mv s
  | .vbatPresentChange mv => Sys2Proof.Machine.execVbatPresentChange mv s
  | .powerOnReset => Sys2Proof.Machine.execPowerOnReset s
  | .brownout => Sys2Proof.Machine.execBrownout s
  | .rstNReset => Sys2Proof.Machine.execRstNReset s
  | .powerDieReset => Sys2Proof.Machine.execPowerDieReset s
  | .mainResetRelease => Sys2Proof.Machine.execMainResetRelease s
  | .configLoad => Sys2Proof.Machine.execConfigLoad s
  | .configApplyDone => Sys2Proof.Machine.execConfigApplyDone s
  | .permissionGrant => Sys2Proof.Machine.execPermissionGrant s
  | .startWaitTimeout => Sys2Proof.Machine.execStartWaitTimeout s
  | .sysPermit => Sys2Proof.Machine.execSysPermit s
  | .heldEnableRelease => Sys2Proof.Machine.execHeldEnableRelease s
  | .dieLinkFail => Sys2Proof.Machine.execDieLinkFail s
  | .dieLinkRestore => Sys2Proof.Machine.execDieLinkRestore s
  | .lockRawLost => Sys2Proof.Machine.execLockRawLost s
  | .hopMiss => Sys2Proof.Machine.execHopMiss s
  | .phaseMoveStep => Sys2Proof.Machine.execPhaseMoveStep s
  | .lockDeclare => Sys2Proof.Machine.execLockDeclare s
  | .lockClear => Sys2Proof.Machine.execLockClear s
  | .lockFiltFault => Sys2Proof.Machine.execLockFiltFault s
  | .hoTrained => Sys2Proof.Machine.execHoTrained s
  | .holdoverLong => Sys2Proof.Machine.execHoldoverLong s
  | .clkPhaseCommit => Sys2Proof.Machine.execClkPhaseCommit s
  | .clearStored => Sys2Proof.Machine.execClearStored s
  | .switch => Sys2Proof.Machine.execSwitch s
  | .relockFull => Sys2Proof.Machine.execRelockFull s
  | .ppsMissing => Sys2Proof.Machine.execPpsMissing s
  | .localSecondBoundary => Sys2Proof.Machine.execLocalSecondBoundary s
  | .ppsOutEnd => Sys2Proof.Machine.execPpsOutEnd s
  | .todCommit => Sys2Proof.Machine.execTodCommit s
  | .invalidate => Sys2Proof.Machine.execInvalidate s
  | .leapSet => Sys2Proof.Machine.execLeapSet s
  | .leapClr => Sys2Proof.Machine.execLeapClr s
  | .timNowRead => Sys2Proof.Machine.execTimNowRead s
  | .keepaliveSend => Sys2Proof.Machine.execKeepaliveSend s
  | .exchangeTimeout => Sys2Proof.Machine.execExchangeTimeout s
  | .echoCheck => Sys2Proof.Machine.execEchoCheck s
  | .recal => Sys2Proof.Machine.execRecal s
  | .rdgCntClr => Sys2Proof.Machine.execRdgCntClr s
  | .schedDone => Sys2Proof.Machine.execSchedDone s
  | .raccTimeout => Sys2Proof.Machine.execRaccTimeout s
  | .bulkFragmentSend => Sys2Proof.Machine.execBulkFragmentSend s
  | .bulkTimeout => Sys2Proof.Machine.execBulkTimeout s
  | .ke0Start => Sys2Proof.Machine.execKe0Start s
  | .outputConversion => Sys2Proof.Machine.execOutputConversion s
  | .shadowWrite => Sys2Proof.Machine.execShadowWrite s
  | .ke0TimingCommit => Sys2Proof.Machine.execKe0TimingCommit s
  | .ke0ParamSwap => Sys2Proof.Machine.execKe0ParamSwap s
  | .ke1EntryCommit => Sys2Proof.Machine.execKe1EntryCommit s
  | .ke1ParamSwap => Sys2Proof.Machine.execKe1ParamSwap s
  | .rmaxClr => Sys2Proof.Machine.execRmaxClr s
  | .satRel => Sys2Proof.Machine.execSatRel s
  | .fpmCommit => Sys2Proof.Machine.execFpmCommit s
  | .cessationResume => Sys2Proof.Machine.execCessationResume s
  | .grdClear => Sys2Proof.Machine.execGrdClear s
  | .relearn => Sys2Proof.Machine.execRelearn s
  | .grdProfileCommit => Sys2Proof.Machine.execGrdProfileCommit s
  | .grdSettingsCommit => Sys2Proof.Machine.execGrdSettingsCommit s
  | .timedSourceReturn => Sys2Proof.Machine.execTimedSourceReturn s
  | .scanRoundStart => Sys2Proof.Machine.execScanRoundStart s
  | .scanNow => Sys2Proof.Machine.execScanNow s
  | .scanStart => Sys2Proof.Machine.execScanStart s
  | .scanPoint => Sys2Proof.Machine.execScanPoint s
  | .scanDone => Sys2Proof.Machine.execScanDone s
  | .mptAbort => Sys2Proof.Machine.execMptAbort s
  | .islClear => Sys2Proof.Machine.execIslClear s
  | .mptScanCommit => Sys2Proof.Machine.execMptScanCommit s
  | .mptIslandCommit => Sys2Proof.Machine.execMptIslandCommit s
  | .pcValid => Sys2Proof.Machine.execPcValid s
  | .activeFrequencyTimer => Sys2Proof.Machine.execActiveFrequencyTimer s
  | .trpCommit => Sys2Proof.Machine.execTrpCommit s
  | .brkCommit => Sys2Proof.Machine.execBrkCommit s
  | .auxCommit => Sys2Proof.Machine.execAuxCommit s
  | .gdpProfileCommit => Sys2Proof.Machine.execGdpProfileCommit s
  | .gdpBrakeCommit => Sys2Proof.Machine.execGdpBrakeCommit s
  | .brakeMinTimer => Sys2Proof.Machine.execBrakeMinTimer s
  | .brkLong => Sys2Proof.Machine.execBrkLong s
  | .fadCommit => Sys2Proof.Machine.execFadCommit s
  | .fadCntClr => Sys2Proof.Machine.execFadCntClr s
  | .facVisitStart => Sys2Proof.Machine.execFacVisitStart s
  | .ovlDone => Sys2Proof.Machine.execOvlDone s
  | .ovlMismatch => Sys2Proof.Machine.execOvlMismatch s
  | .facResume => Sys2Proof.Machine.execFacResume s
  | .facUnpark => Sys2Proof.Machine.execFacUnpark s
  | .clrFcs => Sys2Proof.Machine.execClrFcs s
  | .facCommit => Sys2Proof.Machine.execFacCommit s
  | .mclkLoss => Sys2Proof.Machine.execMclkLoss s
  | .freeze => Sys2Proof.Machine.execFreeze s
  | .mcxUnpark => Sys2Proof.Machine.execMcxUnpark s
  | .metMeasurementCommit => Sys2Proof.Machine.execMetMeasurementCommit s
  | .metPulseCommit => Sys2Proof.Machine.execMetPulseCommit s
  | .metFreezeCommit => Sys2Proof.Machine.execMetFreezeCommit s
  | .mtcCommit => Sys2Proof.Machine.execMtcCommit s
  | .textStale => Sys2Proof.Machine.execTextStale s
  | .refLost => Sys2Proof.Machine.execRefLost s
  | .phsCommit => Sys2Proof.Machine.execPhsCommit s
  | .twvCommit => Sys2Proof.Machine.execTwvCommit s
  | .twvCntClr => Sys2Proof.Machine.execTwvCntClr s
  | .pumpStart => Sys2Proof.Machine.execPumpStart s
  | .alignEnd => Sys2Proof.Machine.execAlignEnd s
  | .rampStep => Sys2Proof.Machine.execRampStep s
  | .pumpCommutation => Sys2Proof.Machine.execPumpCommutation s
  | .stall => Sys2Proof.Machine.execStall s
  | .wdog => Sys2Proof.Machine.execWdog s
  | .vmPumpUv => Sys2Proof.Machine.execVmPumpUv s
  | .faultAutoClear => Sys2Proof.Machine.execFaultAutoClear s
  | .pmpClear => Sys2Proof.Machine.execPmpClear s
  | .pmpCommit => Sys2Proof.Machine.execPmpCommit s
  | .pumpBrakeEnd => Sys2Proof.Machine.execPumpBrakeEnd s
  | .attemptReset => Sys2Proof.Machine.execAttemptReset s
  | .xcmpTimeout => Sys2Proof.Machine.execXcmpTimeout s
  | .darkTest => Sys2Proof.Machine.execDarkTest s
  | .resetStuck => Sys2Proof.Machine.execResetStuck s
  | .parCommit => Sys2Proof.Machine.execParCommit s
  | .butReady => Sys2Proof.Machine.execButReady s
  | .butTakeover => Sys2Proof.Machine.execButTakeover s
  | .arbGrantRemove => Sys2Proof.Machine.execArbGrantRemove s
  | .butRequest => Sys2Proof.Machine.execButRequest s
  | .requestExpire => Sys2Proof.Machine.execRequestExpire s
  | .revertHold => Sys2Proof.Machine.execRevertHold s
  | .mirrorRetry => Sys2Proof.Machine.execMirrorRetry s
  | .mirrorLost => Sys2Proof.Machine.execMirrorLost s
  | .butCommit => Sys2Proof.Machine.execButCommit s
  | .arbGrantIssue => Sys2Proof.Machine.execArbGrantIssue s
  | .xtalFail => Sys2Proof.Machine.execXtalFail s
  | .xtalRestore => Sys2Proof.Machine.execXtalRestore s
  | .opsecTick => Sys2Proof.Machine.execOpsecTick s
  | .ledgerScanDone => Sys2Proof.Machine.execLedgerScanDone s
  | .erase => Sys2Proof.Machine.execErase s
  | .eraseDone => Sys2Proof.Machine.execEraseDone s
  | .status => Sys2Proof.Machine.execStatus s
  | .hostWritePerform => Sys2Proof.Machine.execHostWritePerform s
  | .queCommit => Sys2Proof.Machine.execQueCommit s
  | .signatureDone => Sys2Proof.Machine.execSignatureDone s
  | .challenge => Sys2Proof.Machine.execChallenge s
  | .fuseDone => Sys2Proof.Machine.execFuseDone s
  | .metLock => Sys2Proof.Machine.execMetLock s
  | .verifyA => Sys2Proof.Machine.execVerifyA s
  | .verifyB => Sys2Proof.Machine.execVerifyB s
  | .verifyDone => Sys2Proof.Machine.execVerifyDone s
  | .crnTrigger => Sys2Proof.Machine.execCrnTrigger s
  | .cairnPinEdge => Sys2Proof.Machine.execCairnPinEdge s
  | .cairnSnapshot => Sys2Proof.Machine.execCairnSnapshot s
  | .crnRelease => Sys2Proof.Machine.execCrnRelease s
  | .cairnPulseEnd => Sys2Proof.Machine.execCairnPulseEnd s
  | .monCommit => Sys2Proof.Machine.execMonCommit s
  | .bypass => Sys2Proof.Machine.execBypass s
  | .idcode => Sys2Proof.Machine.execIdcode s
  | .extest => Sys2Proof.Machine.execExtest s
  | .highz => Sys2Proof.Machine.execHighz s
  | .fullSearchFail => Sys2Proof.Machine.execFullSearchFail s
  | .vmPumpReturn => Sys2Proof.Machine.execVmPumpReturn s

end Sys2Proof.Machine
end

