-- ==== Sys2Proof/Machine/Tick.lean ====
section
/-! DEFINITION. What one CLK_FAB cycle does when no command waits (log entry 1): the counts that run on the clock, and
one item that leaves each lane. -/

namespace Sys2Proof.Machine

/-- A frame that passes a test waits on some lane, or has not left it whole. -/
def frameWaits (s : State) (t : Frame → Bool) : Bool :=
  let item : TxItem → Bool
    | .frame f => t f
    | _ => false
  (List.range 8).any fun n =>
    let l := laneOf s n
    l.tx.any item || l.cur.any (fun c => t c.1) || l.curS.any (fun c => t c.1)

/-- QUE_MAIL_STAT.BUSY lasts while an own mail frame waits (R448). -/
def mailBusy : Prog := fun s =>
  effIf (s.on F.QUE_MAIL_STAT_BUSY && !frameWaits s fun f => f.type == 0x38 && f.src == s.get F.RDG_ADDR_ADDR)
    [.set F.QUE_MAIL_STAT_BUSY 0]

/-- A broadcast remote write is done when its frame has left (R94). -/
def raccLeft : Prog := fun s =>
  let own (f : Frame) : Bool := f.type == 0x32 && f.src == s.get F.RDG_ADDR_ADDR && f.dest == 0xFFF
  effIf (s.on F.RDG_RACC_STATUS_BUSY && s.b.rdg.mailbox.any (fun m => m.bcast) && !frameWaits s own) (raccDone 0)

/-- The END block of the mirror frame in flight has left (R391). -/
def mirLeft : Prog := fun s =>
  effIf (s.b.but.out.isSome && s.b.but.endAt.isNone && (laneOf s 4).tx.isEmpty && (laneOf s 4).cur.isNone && (laneOf s 4).curS.isNone)
    [updBut fun b => { b with endAt := some s.b.cyc }]

/-- The timebase advances by one cycle (R51, R523). -/
def timeTick : Prog := fun s =>
  effIf s.b.tim.counting [.upd fun b => { b with tim := { b.tim with t := b.tim.t + tuFab - b.tim.lag, lag := 0 } }]

/-- What one cycle does on a lane: its turn of the delay measurement, what it sends, its generator and its checker. -/
def laneTick (n : Nat) : Prog :=
  inOrder [turnTick n (sendHop n 0x10 []), laneOut n, prbsTick n, hdrTick n]

/-- The lengths shown of a holdover and of a brake request that last (CLK_HO_TIME, GDP_BRK_ON_TIME). -/
def lengthTick : Prog := fun s =>
  effIf (s.on F.CLK_STATUS_HOLDOVER) [.set F.CLK_HO_TIME_US (min (cycUs (s.b.cyc - s.b.plumb.holdAt)) (2 ^ 32 - 1))]
  ++ effIf s.b.pwm.brkReq
      [.set F.GDP_BRK_ON_TIME_US (min (cycUs (s.b.cyc - s.b.pwm.brkAt)) (2 ^ F.GDP_BRK_ON_TIME_US.w - 1))]

/-- A coarse tick of the PWM counters (R230) and of the AUX windows, and the ramps that follow them (R252, R264). -/
def pwmTick : Prog := inOrder
  [ fun s => ((List.range 49).filter fun p => (pairOf s p).started).map (fun p =>
        .set (F.PAIR_STAT_CNT p) (min ((s.b.cyc * 64 - (pairOf s p).start) / 64)
          (if s.cur (F.PAIR_CFG_MODE p) = 3 then 65535 else s.cur (F.PAIR_PER_TICKS p) - 1)))
      ++ ((List.range 8).filter fun k => s.on (F.AUX_STAT_RUN k)).map fun k =>
        .set (F.AUX_STAT_REMAIN k) (s.b.pwm.auxTill.getD k 0 - s.b.cyc * 64),
    rampTick ]

/-- A coarse tick of the pump outputs (R360). -/
def pumpTick : Prog := onlyIf (fun s => !(pmpIn s pmpOff || pmpIn s pmpFault)) (inOrder [crossEnds, pmpDrive])

/-- A wrap is complete in the CLK_FAB cycle after the loss of the neighbour (R87, log entry 60). -/
def turnsEnd : Prog := onlyIf (fun s => s.b.lanes.any (·.turning))
  (thenDo [.upd fun b => { b with lanes := b.lanes.map fun l => { l with turning := false } }] guarUpdate)

/-- One CLK_FAB cycle ends and the next begins; the main die's counts stand in reset. -/
def tick : Prog := calRecord.andThen (thenDo [.upd fun b => { b with cyc := b.cyc + 1, setNow := [], schedNow := [], commitNow := [], commitWas := [], wroteNow := [], queNow := [], ldg.now := 0 }]
  (onMain (inOrder
    ([turnsEnd, mptSlotDue, pulsesEnd, timeTick, slewTick, ppsTick, frameTick, lengthTick, pwmTick, pumpTick, fadTick] ++ (List.range 8).map laneTick ++ [mailBusy, raccLeft, mirLeft]))))

/-- The state one idle cycle later. -/
def idle (s : State) : State := applyAll s (tick s)

end Sys2Proof.Machine
end

