-- ==== Sys2Proof/Safety.lean ====
section
/-! DEFINITION. The terms that claims use: a sound state, whose stores are in canonical form; a die out of reset; what
a command's outcome holds. -/

namespace Sys2Proof.Machine

/-- The memories are in canonical form: addresses strictly rising, no entry equal to what an unlisted word
reads as. -/
abbrev Memory.wf (m : Store) : Prop := Store.wf memDefault m = true

/-- The registers, the values in force, the pending sets and the memories are in canonical form. -/
structure State.Sound (s : State) : Prop where
  regs : Store.wf RegTable.resetVal s.regs = true
  act : Store.wf RegTable.resetVal s.act = true
  pnd : Store.wf RegTable.resetVal s.pnd = true
  mem : Memory.wf s.mem

/-- The main die is out of reset. -/
abbrev Live (s : State) : Prop := s.b.sys.inReset = false

/-- The power-die logic is out of reset. -/
abbrev PowerLive (s : State) : Prop := s.b.sys.pwrReset = false

/-- A command completes: it answers a next state, of which `P` holds. -/
def Ends (r : Result) (P : State → Prop) : Prop := ∃ t, r = .next t ∧ P t

/-- The state after a meaning. -/
def after (p : Prog) (s : State) : State := applyAll s (p s)

/-- The page of a register key: its byte address divided by 0x1000 (R516). -/
def pageOfKey (k : Nat) : Nat := k / 131072

/-! ### Frames -/

/-- What a command may change: single register fields, whole pages, the pages whose values in force and whose pending
sets it may change, and the words of memory it may store to. -/
structure Reach where
  fields : List Fld := []
  pages : List Nat := []
  force : List Nat := []
  pend : List Nat := []
  words : Nat → Prop := fun _ => False

/-- A command keeps within its reach: every register field, value in force, pending value and word of memory outside
it, and the queue, are as they were. -/
structure Within (r : Reach) (s t : State) : Prop where
  regs : ∀ f : Fld, pageOfKey f.key ∉ r.pages → f.key ∉ r.fields.map Fld.key → t.get f = s.get f
  force : ∀ f : Fld, pageOfKey f.key ∉ r.force → t.cur f = s.cur f
  pend : ∀ f : Fld, pageOfKey f.key ∉ r.pend → t.pend f = s.pend f
  words : ∀ a, ¬ r.words a → t.word a = s.word a
  queue : t.pending = s.pending

/-- Flags that hardware sets: the STICKY bits and the IRQ_STAT bits of the same positions (R451). -/
def flags (fs : List Fld) : List Fld := fs ++ fs.map Fld.irq

/-- What losing a record shows (R419). -/
def ledgerFlds : List Fld := [F.LDG_CNT_LOST_N, F.LDG_DEFER_LOST] ++ flags [F.LDG_STICKY_LOST]

/-- What a Cairn trigger shows: a missed trigger and its record (R468). -/
def causeFlds : List Fld := ledgerFlds ++ [F.CRN_CNT_MISSED_N] ++ flags [F.CRN_STICKY_MISSED]

/-- What a record shows that goes unsigned because the signer is full (R477). -/
def signFlds : List Fld := ledgerFlds ++ [F.SEC_CNT_UNSIGNED_N] ++ flags [F.SEC_STICKY_UNSIGNED]

/-- What the guarantees show (R27, R29, R521). -/
def guarFlds : List Fld :=
  causeFlds ++ [F.SYS_GUAR_CFG_DEFAULT, F.SYS_GUAR_G1_OK, F.SYS_GUAR_G2_OK, F.SYS_GUAR_G3_OK, F.SYS_GUAR_G4_OK,
  F.SYS_GUAR_KE0_IDLE, F.SYS_GUAR_KE0_STOPPED, F.SYS_GUAR_PATH_DOWN, F.SYS_GUAR_RAIL_OUT, F.SYS_GUAR_TIME_INVALID,
  F.SYS_GUAR_TJ_OUT] ++ flags [F.SYS_STICKY_GUAR_CHANGE]

/-- What the pins of the pairs show, and what a change of them releases: interlock flags, AUX windows, skipped
self-tests. -/
def pinFlds : List Fld :=
  ledgerFlds ++ [F.PWX_STATUS_AUX_RUN, F.TRP_GRP_ACT_GRP] ++ flags [F.GDP_STICKY_SOFT_OFF, F.PWX_STICKY_BRK_SB]
  ++ (List.range 8).map F.AUX_STAT_REMAIN ++ (List.range 8).map F.AUX_STAT_RUN
  ++ (List.range 4).map F.CMP_CNT_SKIP_N ++ flags ((List.range 4).map F.CMP_STICKY_TEST_SKIP)
  ++ (List.range 49).map F.PAIR_STAT_H ++ (List.range 49).map F.PAIR_STAT_L ++ (List.range 3).map F.PWM_SB_PAIR
  ++ (List.range 3).map F.PWM_STATUS_ACTIVE ++ flags ((List.range 3).map F.PWM_STICKY_SHOOT_BLOCK)

/-- What a trip shows: sources, latches, first cause, pins, the abort of a scan, intertrip frames, requests
that end with the frames that they sent, urgent requests. -/
def tripFlds : List Fld :=
  pinFlds ++ causeFlds ++ [F.FAD_CNT_URG_DROP_N, F.FAD_STATUS_URG_BUSY, F.KE0_ISLOT_VAL 0x9C, F.MPT_STATUS_SCANNING,
  F.MPT_STATUS_SCAN_IN, F.RDG_BULK_STATUS_BUSY, F.RDG_BULK_STATUS_DONE, F.RDG_BULK_STATUS_ERR, F.RDG_CNT_HOPDROP_N,
  F.RDG_CNT_UNREACH_N, F.RDG_RACC_STATUS_BUSY, F.RDG_RACC_STATUS_DONE, F.RDG_RACC_STATUS_ERR, F.TRP_FIRST_PAIR,
  F.TRP_FIRST_SRC, F.TRP_FIRST_VALID, F.TRP_LATCH0_PAIR, F.TRP_LATCH1_PAIR, F.TRP_STATUS_ANY, F.TRP_STATUS_CYCLE,
  F.TRP_STATUS_LATCHED] ++ flags [F.FAD_STICKY_URG_DROP, F.MPT_STICKY_SCAN_ABORT, F.RDG_STICKY_HOP_DROP,
  F.RDG_STICKY_RACC_ERR, F.RDG_STICKY_UNREACH_DROP, F.TRP_STICKY_IT_REQ, F.TRP_STICKY_TRIP]
  ++ (List.range 4).map F.TRP_ACT_SRC ++ (List.range 4).map F.TRP_SEEN_SRC

/-- The LOCK fields of every page (R454). -/
def allLocks : List Fld := RegTable.pages.flatMap fun p => [lockedFld p.base, permFld p.base]

/-- The snapshot copies and the SNAP_SEQ field of every page (R467). -/
def allSnaps : List Fld := RegTable.pages.flatMap fun p =>
  snapSeqFld p.base :: (List.range 64).map fun k => ⟨keyAt (p.base + 0x100 + 4 * k), 32⟩

/-- What a queue shows (R440, R442, R449). -/
def queueFlds (q : Nat) : List Fld :=
  [F.QUE_Q_PROD_W q, F.QUE_Q_CONS_W q, F.QUE_Q_FILL_W q, F.QUE_Q_DROP_N q,
  F.QUE_STATUS_NONEMPTY, F.QUE_WM_STAT_Q] ++ flags [F.QUE_STICKY_OVF, F.QUE_STICKY_TOO_BIG, F.QUE_STICKY_WM]

/-- The positions of a queue's stream in memory (R440). -/
def queueWord (s : State) (q a : Nat) : Prop := ∃ w, a = s.qAddr q w

/-- Commands of the main die: while it is held in reset they do nothing. The others are those of the supplies,
Bedrock, the power-die logic, the references, the resets and the test access port (R486, R487). -/
def onMainDie : Instr → Bool
  | .vddPwrLoss _ | .vbatLow _ | .vbatPresentChange _ | .storeThreshold _ _ | .harvestProbe _
  | .harvestSample _ | .coldStart _ _ | .ledgerRecordWrite _ | .deferSummary _ | .counterCheckpoint _
  | .metrologySave _ | .xtalFail | .xtalRestore | .opsecTick | .bedrockStart _ _ _ _ | .ledgerScanDone
  | .eraseDone | .refQualified _ | .refLoss _ | .lockClear | .vddPwrPresent _ _ | .metrologySubinterval _
  | .metrologyCycleEnd _ _ | .mclkLoss | .mclkGap _ | .pulseStart _ | .pulseEnd _ | .textStale
  | .watchTick _ _ _ | .powerOnReset | .brownout | .rstNReset | .powerDieReset | .mainResetRelease | .bypass
  | .idcode | .samplePreload _ _ _ | .extest | .highz | .roDrift _ | .xcmpFrame _ _ _ _ | .xcmpTimeout
  | .safetyInputChange _ _ _ | .discTimeout _ | .tpsSample _ _ _ _ _ | .readbackCheck _ _ _ _ _ | .switchOverload _
  | .vsafeOut _ | .vsafeReturn _ | .parapetInitDone _
  | .vmPumpOv _ | .vmPumpUv | .vmPumpReturn | .bootUv _ _ => false
  | _ => true

/-- The commands that may change an energy accumulator: the sub-interval, and the stops and starts of Bedrock
(R301, R415). -/
def metersEnergy : Instr → Bool
  | .metrologySubinterval _ | .vbatPresentChange _ | .storeThreshold _ _ | .bedrockStart _ _ _ _
  | .vddPwrPresent _ _ => true
  | _ => false

end Sys2Proof.Machine
end

