-- ==== Sys2Proof/Certificates/Slice0/Obligations.lean ====
section
/-! DEFINITION. The statements about the model, for the provers: first what holds of every command and of the machine as a
whole, then what each family of commands does, then what each leaves unchanged. `Ends r P` says that `r` is a next state of
which `P` holds. -/

open Sys2Proof Sys2Proof.Machine

/-- When the queue is c followed by rest, step is exec of c on the state whose queue is rest. Commands are taken in the
order in which they were queued (log entry 1). -/
def Obligations.StepRunsFront : Prop :=
  ∀ (c : Instr) (rest : List Instr) (s : State), s.pending = c :: rest →
  step s = exec c { s with pending := rest }

/-- On an empty queue step answers a next state in which one more CLK_FAB cycle has been counted, the queue is empty, no
memory word and no value in force has changed, and a counting timebase of a main die out of reset has advanced by 6.4
ns, less what the last exact alignment left of its cycle, and off the grandmaster by its share of a slew in progress,
at most 32 units of 2^-15 of 0.1 ns (one fine step of 6.25 ps in 256 CLK_SER cycles). -/
def Obligations.IdleStep : Prop :=
  ∀ s : State, s.pending = [] → ∃ t, step s = .next t ∧ t.pending = [] ∧ t.b.cyc = s.b.cyc + 1 ∧ t.mem = s.mem ∧
  t.act = s.act ∧ (Live s → t.b.tim.t =
  (((if s.b.tim.counting then s.b.tim.t + 2097152 - s.b.tim.lag else s.b.tim.t : Nat) : Int) +
  (if s.on F.TIM_STATUS_GM then 0 else clampInt (-32) 32 s.b.rdg.slew)).toNat)

/-- For every command and every state, exec answers a next state (no command of the part faults or is refused), and the
queue of that state is the queue before it: a command neither adds to, reorders nor drops the commands that wait. -/
def Obligations.CommandsCompleteAndKeepQueue : Prop :=
  ∀ (c : Instr) (s : State), ∃ t, exec c s = .next t ∧ t.pending = s.pending

/-- At State.reset the registers, the values in force, the pending sets and the memories are in canonical form. -/
def Obligations.ResetIsSound : Prop :=
  State.reset.Sound

/-- From every state whose four stores are in canonical form (keys strictly rising, no entry equal to what an unlisted
key reads as), a step, idle or of any command, leads to a state whose stores are in canonical form. -/
def Obligations.StepKeepsSound : Prop :=
  ∀ s t : State, s.Sound → step s = .next t → t.Sound

/-- For every command but those of the supplies, Bedrock, the power-die logic, the references, the resets and the test
access port, exec on a state whose main die is held in reset answers that same state (log entry 7). -/
def Obligations.MainDieHeldInReset : Prop :=
  ∀ (c : Instr) (s : State), s.b.sys.inReset = true → onMainDie c = true → exec c s = .next s

/-- From every state in which SYS_STATUS.PERMIT is set and the main die is out of reset, whatever command is executed,
either the main die is in reset afterwards or PERMIT is still set. -/
def Obligations.PermissionHolds : Prop :=
  ∀ (c : Instr) (s t : State), exec c s = .next t → Live s → s.on F.SYS_STATUS_PERMIT = true →
  t.b.sys.inReset = true ∨ t.on F.SYS_STATUS_PERMIT = true

/-- For every command but METROLOGY_SUBINTERVAL and the commands that stop or start the Bedrock domain, the accumulators
after exec are those before it: no reset, register write, remote access, configuration image or freeze changes one.
-/
def Obligations.EnergyIsolated : Prop :=
  ∀ (c : Instr) (s t : State), exec c s = .next t → metersEnergy c = false →
  t.b.met.keep.acc = s.b.met.keep.acc

/-- For every choice of fields that fit their widths, the encoded program word has 64 bits and its fields read back as
given; for every 64-bit word, encoding the fields read from it gives the word. -/
def Obligations.KeystoneWordRoundTrip : Prop :=
  (∀ k : KWord, kFits k = true → kEncode k < 2 ^ 64 ∧ kWord (kEncode k) = k) ∧
  (∀ w : Nat, w < 2 ^ 64 → kFits (kWord w) = true ∧ kEncode (kWord w) = w)

/-- For every 24-bit mantissa m and 8-bit exponent e, the slot word made of them has 32 bits, its bits [31:8] read as m
and its bits [7:0] as e, and it is 0 only for m = 0 and e = 0. The rounded quotient q of n by d > 0 lies within half
a unit of n / d; at exactly half a unit it lies farther from zero than n / d; and a term smaller than half a unit
rounds to 0. -/
def Obligations.KeystoneArithmetic : Prop :=
  (∀ m e : Int, -8388608 ≤ m → m ≤ 8388607 → -128 ≤ e → e ≤ 127 →
  slotWord m e < 2 ^ 32 ∧ slotM (slotWord m e) = m ∧ slotE (slotWord m e) = e ∧
  (slotWord m e = 0 → m = 0 ∧ e = 0)) ∧
  (∀ (n : Int) (d : Nat), 0 < d →
  (2 * (n - d * roundDiv n d)).natAbs ≤ d ∧
  ((2 * (n - d * roundDiv n d)).natAbs = d → n.natAbs < (d * roundDiv n d).natAbs) ∧
  (2 * n.natAbs < d → roundDiv n d = 0))

/-- After its pins have been brought up to date, a pair's H and L show what the rank of the state gives: both low while
the main die is in reset, DRV_EN is low or the global inhibit is set; the pair's safe state while a trip is latched;
both low while the interlock blocks it or it is not enabled; the commanded levels otherwise. At no rank are H and L
high together. -/
def Obligations.PinsFollowRank : Prop :=
  ∀ (p : Nat) (s : State), p < 49 →
  ((after (applyPins p) s).on (F.PAIR_STAT_H p), (after (applyPins p) s).on (F.PAIR_STAT_L p)) = pairPins s p (pairRank s p) ∧
  ((s.b.sys.inReset = true ∨ s.b.sys.drvEn = false ∨ s.on F.PWX_STATUS_INHIBIT = true) →
  pairPins s p (pairRank s p) = (false, false)) ∧
  ((s.b.sys.inReset = false ∧ s.b.sys.drvEn = true ∧ s.on F.PWX_STATUS_INHIBIT = false ∧ latched s p = true) →
  pairPins s p (pairRank s p) = ((pairOf s p).safe == 1, (pairOf s p).safe == 2)) ∧
  ((pairOf s p).drvH = true → (pairOf s p).drvL = true → latched s p = false → pairPins s p (pairRank s p) = (false, false)) ∧
  ¬((pairPins s p (pairRank s p)).1 = true ∧ (pairPins s p (pairRank s p)).2 = true)

/-- A host write to a register that the lock of its page protects changes nothing but CFG_STICKY.LOCK_REJECT with its
interrupt bit and CFG_LOCK_ADDR, which takes the address; so does one to a program or parameter window of a locked
engine page. IRQ_EN, LOCK and registers of W1C fields alone are protected on no page. -/
def Obligations.LockedPageRefuses : Prop :=
  (∀ (a : BitVec 22) (v : Word) (s : State), Live s → absent s (regionOf (4 * a.toNat)) = false →
  lockRefuses s (regionOf (4 * a.toNat)) = true →
  exec (.registerWrite a v) s =
  .next ((s.stick F.CFG_STICKY_LOCK_REJECT).put F.CFG_LOCK_ADDR_ADDR (4 * a.toNat))) ∧
  (∀ (base o : Nat) (s : State), o = 0x14 ∨ o = 0x20 ∨ (o ≠ 0x1C ∧ allW1c (base + o) = true) →
  lockRefuses s (.page base o) = false)

/-- When a queue is enabled, has a SIZE, FILL + LEN does not exceed SIZE, and no record of a higher TYPE has come in the
running cycle, appending a record advances PROD by LEN, leaves CONS, and stores the header and the words at the
stream positions PROD onward; every word of memory outside those positions is unchanged. The header carries SIGNED,
the queue's sequence number, TYPE and LEN. A record of a lower TYPE that comes in the same CLK_FAB cycle as one of a
higher TYPE stands before it. -/
def Obligations.QueueAppendsRecord : Prop :=
  (∀ (q ty : Nat) (sg : Bool) (ws : List Nat) (s : State), q < 32 → s.on F.QUE_CTRL_ENABLE = true → s.qLater q ty = [] →
  s.cur (F.QUE_Q_SIZE_W q) ≠ 0 → s.qFill q + (ws.length + 1) ≤ s.cur (F.QUE_Q_SIZE_W q) →
  (s.qAppend q ty sg ws).get (F.QUE_Q_PROD_W q) = (s.get (F.QUE_Q_PROD_W q) + (ws.length + 1)) % 2 ^ 32 ∧
  (s.qAppend q ty sg ws).get (F.QUE_Q_CONS_W q) = s.get (F.QUE_Q_CONS_W q) ∧
  (s.qAppend q ty sg ws).word (s.qAddr q (s.get (F.QUE_Q_PROD_W q))) =
  (2 ^ 31 * bit sg + 2 ^ 24 * (s.b.queSeq.getD q 0 % 128) + 2 ^ 16 * (ty % 256) + (ws.length + 1) % 2 ^ 16) % 2 ^ 32 ∧
  (∀ i, i < ws.length →
  (s.qAppend q ty sg ws).word (s.qAddr q (s.get (F.QUE_Q_PROD_W q) + 1 + i)) = ws.getD i 0 % 2 ^ 32) ∧
  (∀ a, (∀ i, i < ws.length + 1 → a ≠ s.qAddr q (s.get (F.QUE_Q_PROD_W q) + i)) →
  (s.qAppend q ty sg ws).word a = s.word a)) ∧
  (∀ (q ty1 ty2 : Nat) (sg1 sg2 : Bool) (ws1 ws2 : List Nat) (s : State), q < 32 → s.on F.QUE_CTRL_ENABLE = true →
  ty1 < ty2 → s.qLater q ty1 = [] → ws1.length + ws2.length < 65534 →
  s.qFill q + (ws1.length + 1) + (ws2.length + 1) ≤ s.cur (F.QUE_Q_SIZE_W q) →
  ((s.qAppend q ty2 sg2 ws2).qAppend q ty1 sg1 ws1).get (F.QUE_Q_PROD_W q) =
  (s.get (F.QUE_Q_PROD_W q) + (ws1.length + 1) + (ws2.length + 1)) % 2 ^ 32 ∧
  ((s.qAppend q ty2 sg2 ws2).qAppend q ty1 sg1 ws1).word (s.qAddr q ((s.get (F.QUE_Q_PROD_W q) + (ws1.length + 1)) % 2 ^ 32)) / 2 ^ 16 % 2 ^ 8 =
  ty2 % 256 ∧
  (s.get (F.QUE_Q_PROD_W q) + (ws1.length + 1) + (ws2.length + 1) < 2 ^ 32 →
  ((s.qAppend q ty2 sg2 ws2).qAppend q ty1 sg1 ws1).word (s.qAddr q (s.get (F.QUE_Q_PROD_W q))) / 2 ^ 16 % 2 ^ 8 = ty1 % 256))

/-- For each of the 32 queues and every value c: when (c − CONS) modulo 2^32 is at most FILL, CONS becomes c, whether or
not it falls on a record boundary; otherwise the write changes nothing but QUE_STICKY.IDX_REJECT with its interrupt
bit. For each queue with a SIZE: when FILL is not 0 a pop answers the word at CONS and CONS advances by 1 modulo
2^32; when FILL is 0 it answers 0 and changes nothing else. A record's header word is never 0, because its LEN is
never 0. -/
def Obligations.QueueConsumerRules : Prop :=
  (∀ (q : Fin 32) (c : Word) (s : State), Live s →
  ((c.toNat + 2 ^ 32 - s.get (F.QUE_Q_CONS_W q)) % 2 ^ 32 ≤ s.qFill q →
  Ends (exec (.queConsWrite q c) s) fun t => t.get (F.QUE_Q_CONS_W q) = c.toNat) ∧
  (s.qFill q < (c.toNat + 2 ^ 32 - s.get (F.QUE_Q_CONS_W q)) % 2 ^ 32 →
  exec (.queConsWrite q c) s = .next (s.stick F.QUE_STICKY_IDX_REJECT))) ∧
  (∀ (q : Fin 32) (s : State), Live s → s.cur (F.QUE_Q_SIZE_W q) ≠ 0 → s.qFill q ≠ 0 →
  Ends (exec (.quePop q) s) fun t => t.b.hst.out = [s.word (s.qAddr q (s.get (F.QUE_Q_CONS_W q)))] ∧
  t.get (F.QUE_Q_CONS_W q) = (s.get (F.QUE_Q_CONS_W q) + 1) % 2 ^ 32) ∧
  (∀ (q : Fin 32) (s : State), Live s → s.qFill q = 0 →
  exec (.quePop q) s = .next (s.updB fun b => { b with hst := { b.hst with out := [0] } })) ∧
  (∀ (q ty : Nat) (sg : Bool) (ws : List Nat) (s : State), q < 32 → ws.length < 65535 → s.qLater q ty = [] →
  s.on F.QUE_CTRL_ENABLE = true → s.cur (F.QUE_Q_SIZE_W q) ≠ 0 →
  s.qFill q + (ws.length + 1) ≤ s.cur (F.QUE_Q_SIZE_W q) →
  (s.qAppend q ty sg ws).word (s.qAddr q (s.get (F.QUE_Q_PROD_W q))) ≠ 0)

/-- With the die-to-die path working: a write of BED_RES with WRITE at least 30 and KEEP at least 50 sets both fields,
any other write of it changes nothing but BED_STICKY.CFG_REJECT; a write of BED_STORE with CAP_UF from 100 to 4,700
sets it, any other changes nothing but CFG_REJECT. -/
def Obligations.ConfigurationRanges : Prop :=
  ∀ (v : Word) (s : State), dieLinkOk s = true →
  exec (.bedConfigWrite 2 v) s = .next
  (if 30 ≤ v.toNat % 65536 ∧ 50 ≤ v.toNat / 65536
  then (s.put F.BED_RES_WRITE (v.toNat % 65536)).put F.BED_RES_KEEP (v.toNat / 65536)
  else s.stick F.BED_STICKY_CFG_REJECT) ∧
  exec (.bedConfigWrite 1 v) s = .next
  (if 100 ≤ v.toNat % 65536 ∧ v.toNat % 65536 ≤ 4700 then s.put F.BED_STORE_CAP_UF (v.toNat % 65536)
  else s.stick F.BED_STICKY_CFG_REJECT)

/-- With the die-to-die path working, a window write outside MAIN stores nothing and sets BED_STICKY.CFG_WR_REJECT; in
MAIN no window write sets it. No window write changes a word outside the two copies. -/
def Obligations.ConfigurationStoreInMain : Prop :=
  ∀ (copy : Fin 2) (k : BitVec 14) (v : Word) (s : State), dieLinkOk s = true →
  Ends (exec (.imageWindowWrite copy k v) s) fun t =>
  (s.b.bed.src ≠ .main → t.mem = s.mem ∧ t.on F.BED_STICKY_CFG_WR_REJECT = true) ∧
  (s.b.bed.src = .main → t.on F.BED_STICKY_CFG_WR_REJECT = s.on F.BED_STICKY_CFG_WR_REJECT) ∧
  (∀ a, a < 0x140000 ∨ 0x148000 ≤ a → t.word a = s.word a)

/-- A receiver whose L4 is ready and that has missed 64 periods sets BUT_STATUS.MIRROR_LOST and BUT_STICKY.MIRROR_LOST; a
class-0 set of one frame that arrives whole clears the status bit. -/
def Obligations.MirrorLostRule : Prop :=
  (∀ s : State, Live s → butIn s 0 = false → butIn s 3 = false → l4Ready s = true → 64 ≤ s.b.but.missed →
  s.on F.BUT_STATUS_MIRROR_LOST = false →
  Ends (exec .mirrorLost s) fun t => t.on F.BUT_STATUS_MIRROR_LOST = true ∧ t.on F.BUT_STICKY_MIRROR_LOST = true) ∧
  (∀ (f : Frame) (s : State), Live s → mirTaken s f 0x50 = true → bitsOf (f.data.getD 0 0) 47 40 = 0 →
  bitsOf (f.data.getD 0 0) 39 32 = 1 →
  Ends (exec (.class0Set f) s) fun t => t.on F.BUT_STATUS_MIRROR_LOST = false ∧ t.b.but.missed = 0)

/-- CHALLENGE takes the words of SEC_DEVID_LO, SEC_DEVID_HI and SEC_CHAL0 to SEC_CHAL7 in that order and sets SIGN_BUSY;
while a record waits in the signer a finished signature leaves the challenge waiting; with none waiting it puts the
16 words of the signature over the words taken into SEC_ATT0 to SEC_ATT15 and clears SIGN_BUSY. The signature's words
are free values (log entry 5). -/
def Obligations.ChallengeRule : Prop :=
  (∀ s : State, Live s → Ends (exec .challenge s) fun t => t.on F.SEC_STATUS_SIGN_BUSY = true ∧
  t.b.sec.chal = some (s.get F.SEC_DEVID_LO_ID :: s.get F.SEC_DEVID_HI_ID ::
  [s.get (F.SEC_CHAL_W 0), s.get (F.SEC_CHAL_W 1), s.get (F.SEC_CHAL_W 2), s.get (F.SEC_CHAL_W 3),
  s.get (F.SEC_CHAL_W 4), s.get (F.SEC_CHAL_W 5), s.get (F.SEC_CHAL_W 6), s.get (F.SEC_CHAL_W 7)])) ∧
  (∀ s : State, Live s → s.b.sec.jobs ≠ [] → s.b.sec.chalNow = false → Ends (exec .signatureDone s) fun t => t.b.sec.chal = s.b.sec.chal) ∧
  (∀ (ws : List Nat) (s : State), Live s → s.b.sec.jobs = [] ∨ s.b.sec.chalNow = true → s.b.sec.chal = some ws →
  Ends (exec .signatureDone s) fun t => t.on F.SEC_STATUS_SIGN_BUSY = false ∧
  ∀ k : Fin 16, t.get (F.SEC_ATT_W k) = Config.sigWord ws k % 2 ^ 32)

/-- The codes that the table names have severity 4, 3, 2 or 0 as it says, every other code has severity 1, and byte 3 of
every record the part makes carries that severity in its low three bits, whatever the state. -/
def Obligations.SeverityTable : Prop :=
  (∀ code ∈ [0x5006, 0x9001, 0x9002, 0x9005, 0x9006], severity code = 4) ∧
  (∀ code ∈ [0x0401, 0x0403, 0x0805, 0x0C01, 0x0C03, 0x1402, 0x1403, 0x1404, 0x2003, 0x2402, 0x2404, 0x2801, 0x2803,
  0x2804, 0x4003, 0x4402, 0x4020, 0x4022, 0x4023, 0x4804, 0x4842, 0x5001, 0x5004, 0x5401, 0x5402, 0x6010,
  0x6011, 0x6014, 0x6801, 0x6809, 0x680B, 0x680F, 0x7042, 0x8002, 0x8006, 0xA008, 0xA00A], severity code = 3) ∧
  (∀ code ∈ [0x0801, 0x0802, 0x0806, 0x0811, 0x0813, 0x0C02, 0x1003, 0x1004, 0x1405, 0x2002, 0x2006, 0x2007, 0x2401, 0x2405, 0x2407, 0x2409, 0x240A, 0x240B, 0x2805, 0x2806, 0x4002, 0x4004, 0x4403, 0x4410, 0x4802, 0x4805, 0x4841, 0x4844, 0x5003, 0x5005, 0x5404, 0x6001, 0x6002, 0x6012, 0x6803, 0x6804, 0x6805, 0x6806, 0x680A, 0x6810, 0x7003, 0x7043, 0x8004, 0x8005, 0x9004, 0x9009, 0xA003, 0xA004, 0xA005], severity code = 2) ∧ (∀ code ∈ [0x0402, 0x0405, 0x0803, 0x0804, 0x0810, 0x0812, 0x0C04, 0x1401, 0x2001, 0x2403, 0x2406, 0x2408, 0x4021, 0x4803, 0x4807, 0x4840, 0x4843, 0x4845, 0x6013, 0x6802, 0x680C, 0x680D, 0x7001, 0x7002, 0x7004, 0x7040, 0x7041, 0x8001, 0x8003, 0x9003, 0xA002, 0xA006, 0xA010], severity code = 0) ∧
  (∀ code, code ∉ severity4 → code ∉ severity3 → code ∉ severity2 → code ∉ severity0 → severity code = 1) ∧
  (∀ (s : State) (code inst : Nat) (ps : List Nat) (d : Bool), (s.mkRecord code inst ps d).sev % 8 = severity code)

/-- An event leaves a buffer of at most 16 records at no more than 16. While Bedrock runs and the record does not wait on
the main die, it enters a buffer of fewer than 16, at the end unless the main die has entered another record in the
same cycle; a full buffer of which none is of this cycle stays as it is, and LDG_CNT_LOST and LDG_DEFER.LOST rise by
1 unless saturated, with LDG_STICKY.LOST set. -/
def Obligations.LedgerBufferBound : Prop :=
  ∀ (s : State) (code inst : Nat) (ps : List Nat),
  (s.b.ldg.buf.length ≤ 16 → (s.postRecord code inst ps).b.ldg.buf.length ≤ 16) ∧
  (s.b.bed.src ≠ .off → s.on F.SYS_GUAR_DIE_LINK = false →
  (s.b.ldg.buf.length < 16 →
  (s.postRecord code inst ps).b.ldg.buf.Perm (s.mkRecord code inst ps false :: s.b.ldg.buf) ∧
  (s.b.ldg.now = 0 ∨ powerDieCode code = true →
  (s.postRecord code inst ps).b.ldg.buf = s.b.ldg.buf ++ [s.mkRecord code inst ps false])) ∧
  (s.b.ldg.buf.length = 16 →
  (s.b.ldg.now = 0 ∨ powerDieCode code = true → (s.postRecord code inst ps).b.ldg.buf = s.b.ldg.buf) ∧
  (s.postRecord code inst ps).get F.LDG_CNT_LOST_N = min (s.get F.LDG_CNT_LOST_N + 1) (2 ^ F.LDG_CNT_LOST_N.w - 1) ∧
  (s.postRecord code inst ps).get F.LDG_DEFER_LOST = min (s.get F.LDG_DEFER_LOST + 1) (2 ^ F.LDG_DEFER_LOST.w - 1) ∧
  (s.postRecord code inst ps).on F.LDG_STICKY_LOST = true))

/-- The values that come into force at the update point of a group are the shadows at its commit: writes of shadows
between the two change nothing of them. Fields outside the group keep the value in force they had, and the shadows
are read back unchanged. -/
def Obligations.ShadowsAdoptTogether : Prop :=
  ∀ (g : Group) (lo hi : Nat) (ws : List (Fld × Nat)) (f : Fld) (s : State),
  let t := applyAll s (takeGroup g lo hi ++ ws.map (fun p => Eff.set p.1 p.2) ++ adoptGroup g lo hi)
  (keyAt lo ≤ f.key → f.key < keyAt hi → t.cur f = s.get f) ∧
  (f.key < keyAt lo ∨ keyAt hi ≤ f.key → t.cur f = s.cur f) ∧
  (f.key ∉ ws.map (fun p => p.1.key) → t.get f = s.get f)

/-- After RST_N on a running main die: every field of a main-die page outside SYS_RESET_CAUSE and the fields that the
reset keeps reads its reset value, as does its value in force, but for the inhibit, which is asserted (log entry 54),
and ISLOT 0x9C, which reads −1; the pages MET, MTC, BED and LDG are unchanged but for MET_STATUS.RUN, which is clear,
as MCLK is absent; the queue memory reads 0; the program stores, the parameter banks, the Ledger and the
configuration store are unchanged. -/
def Obligations.MainResetClears : Prop :=
  ∀ s : State, Live s → Ends (exec .rstNReset s) fun t =>
  (∀ f : Fld, (RegTable.pages.any fun p => p.die == .main && p.base / 0x1000 == pageOfKey f.key) = true →
  f.key ∉ keptFields.map Fld.key → f.key ∉ (List.range 5).map (fun c => (causeFld c).key) →
  f.key ≠ F.PWX_STATUS_INHIBIT.key → f.key ≠ (F.KE0_ISLOT_VAL 0x9C).key →
  t.get f = RegTable.resetVal f.key % 2 ^ f.w ∧ t.cur f = RegTable.resetVal f.key % 2 ^ f.w) ∧
  t.on F.PWX_STATUS_INHIBIT = true ∧ t.get (F.KE0_ISLOT_VAL 0x9C) = intSlot (-1) ∧ t.on F.MET_STATUS_RUN = false ∧
  (∀ f : Fld, pageOfKey f.key ∈ [0x60, 0x61, 0xA0, 0xA1] → f.key ≠ F.MET_STATUS_RUN.key → t.get f = s.get f ∧ t.cur f = s.cur f) ∧
  (∀ a, 0x80000 ≤ a → a < 0xC0000 → t.word a = 0) ∧
  (∀ a, a < 0x80000 ∨ 0xC0000 ≤ a → t.word a = s.word a)

/-- In a main die out of reset each of the commands completes and its next state is the state with exactly the listed
effects: a missed hop starts the full search with STORED_MISS; a full search that fails during a relock returns to
holdover; one phase step moves CLK_PHASE_NOW, modulo 256, and the timebase together; LOCK is declared where the
detector sources current, and nowhere else; a long disagreement of LOCK and LOCK_RAW is flagged and recorded; a
locked line becomes trained; 100 ms of holdover set HOLDOVER_LONG, cancel the armed slots and update the guarantees;
CLK_COMMIT takes the phase group; CLEAR_STORED clears both codes. A qualified reference shows as qualified and a lost
one does not, with its sticky flag; LINE_LOCK of a search ends the search, sets LOCK_RAW, makes the searched
reference the active one and the line locked, and the timebase counts; LOCK_RAW_LOST and SWITCH put a locked line
into holdover, SWITCH with a relock to the other reference, LOCK_RAW_LOST with a relock to the active one while it is
qualified; RELOCK_FULL before permission enters SEARCH without a hop, or waits there without a qualified reference,
and withdraws DIV_SYNC; LOCK_CLEAR clears LOCK. Each completes, that is exec answers a next state with the command's
own effect, for every state and operands that meet the hypotheses: hopMiss, fullSearchFail, phaseMoveStep,
lockDeclare, lockFiltFault, hoTrained, holdoverLong, clkPhaseCommit, clearStored, refQualified, refLoss, lockClear,
lineLock, lockRawLost, switch, relockFull. -/
def Obligations.PlumbCommands : Prop :=
  (∀ (s : State),
    Live s → s.on F.CLK_STATUS_SEARCHING = true → s.b.plumb.hop = true →
    exec .hopMiss s = .next (applyAll s [.sticky F.CLK_STICKY_STORED_MISS, .upd fun b =>
      { b with plumb := { b.plumb with hop := false, cause := 1, searchAt := b.cyc } }])) ∧
  (∀ (s : State),
    Live s → s.on F.CLK_STATUS_SEARCHING = true → s.b.plumb.hop = false → s.b.plumb.mode = .relock →
    exec .fullSearchFail s = .next (applyAll s [.set F.CLK_STATUS_SEARCHING 0, .sticky F.CLK_STICKY_STORED_MISS, .upd
      fun b => { b with plumb := { b.plumb with mode := .holdover } }])) ∧
  (∀ (s : State),
    Live s → s.b.plumb.mode = .locked → 0 < s.b.plumb.left →
    exec .phaseMoveStep s = .next (applyAll s [.set F.CLK_PHASE_NOW_PHASE ((s.get F.CLK_PHASE_NOW_PHASE + 1) % 256),
      .upd fun b =>
      { b with tim := { b.tim with t := b.tim.t + 2048 }, plumb := { b.plumb with left := b.plumb.left - 1 } }])) ∧
  (∀ (s : State),
    Live s → s.b.plumb.mode = .locked → s.b.plumb.left < 0 →
    exec .phaseMoveStep s = .next (applyAll s [.set F.CLK_PHASE_NOW_PHASE ((s.get F.CLK_PHASE_NOW_PHASE + 255) % 256),
      .upd fun b =>
      { b with tim := { b.tim with t := b.tim.t - 2048 }, plumb := { b.plumb with left := b.plumb.left + 1 } }])) ∧
  (∀ (s : State),
    Live s → filtDrive s = .source →
    exec .lockDeclare s = .next (applyAll s [.set F.CLK_STATUS_LOCK 1, .upd fun b =>
      { b with plumb := { b.plumb with filtHigh := true } }])) ∧
  (∀ (s : State),
    Live s → filtDrive s ≠ .source →
    exec .lockDeclare s = .next (s)) ∧
  (∀ (s : State),
    Live s → s.on F.CLK_STATUS_LOCK_RAW = true → s.on F.CLK_STATUS_LOCK = false →
    exec .lockFiltFault s = .next (applyAll s [.sticky F.CLK_STICKY_LOCK_FILT_FAULT, .led 0x0805 0 [s.get
      F.CLK_STATUS_LOCK, s.get F.CLK_STATUS_LOCK_RAW]])) ∧
  (∀ (s : State),
    Live s → s.b.plumb.mode = .locked →
    exec .hoTrained s = .next (applyAll s [.set F.CLK_STATUS_HO_TRAINED 1])) ∧
  (∀ (s : State),
    Live s → s.on F.CLK_STATUS_HOLDOVER = true →
    exec .holdoverLong s = .next (after (inOrder [schedCancel, guarUpdate]) (applyAll s [.sticky
      F.CLK_STICKY_HOLDOVER_LONG, .led 0x0806 0 [s.b.plumb.lostRef, 0], .upd fun b =>
      { b with plumb := { b.plumb with holdLong := true } }]))) ∧
  (∀ (s : State),
    Live s →
    ∃ t, exec .clkPhaseCommit s = .next t ∧ t = after (noted (.page 0x1000 0) fun s => takeGroup .clkPhase 0x1040
      0x1044) s ∧ groupWaits t .clkPhase = true) ∧
  (∀ (s : State),
    Live s →
    exec .clearStored s = .next (applyAll s [.set F.CLK_SEARCH_VALID_A 0, .set F.CLK_SEARCH_VALID_B 0])) ∧
  (∀ (r : Fin 2) (s : State), ∃ t, exec (.refQualified r) s = .next t ∧ t.on (refQualFld r) = true) ∧
  (∀ (r : Fin 2) (s : State),
    Live s →
    ∃ t, exec (.refLoss r) s = .next t ∧ t.on (refQualFld r) = false ∧ t.on (refLossFld r) = true) ∧
  (∀ (s : State),
    ∃ t, exec .lockClear s = .next t ∧ t.on F.CLK_STATUS_LOCK = false ∧ t.b.plumb.filtHigh = false) ∧
  (∀ (code : Fin 4096) (phase : Fin 256) (s : State),
    Live s → s.on F.CLK_STATUS_SEARCHING = true → s.b.plumb.mode = .search →
    ∃ t, exec (.lineLock code phase) s = .next t ∧ t.on F.CLK_STATUS_SEARCHING = false ∧ t.on F.CLK_STATUS_LOCK_RAW =
      true ∧ t.b.plumb.mode = .locked ∧ t.b.tim.counting = true ∧ t.get F.CLK_STATUS_ACTIVE_REF = s.b.plumb.searchRef
      % 2) ∧
  (∀ (s : State),
    Live s → s.b.plumb.mode = .locked →
    ∃ t, exec .lockRawLost s = .next t ∧ t.on F.CLK_STICKY_LOCK_LOST = true ∧ t.on F.CLK_STATUS_LOCK_RAW = false ∧ t.on
      F.CLK_STATUS_HOLDOVER = true) ∧
  (∀ (s : State),
    Live s → s.b.plumb.mode = .locked → refQual s (s.get F.CLK_STATUS_ACTIVE_REF) = true →
    ∃ t, exec .lockRawLost s = .next t ∧ t.b.plumb.mode = .relock ∧ t.b.plumb.searchRef = s.get F.CLK_STATUS_ACTIVE_REF) ∧
  (∀ (s : State),
    Live s → s.b.plumb.mode = .locked → refQual s (1 - s.get F.CLK_STATUS_ACTIVE_REF) = true →
    ∃ t, exec .switch s = .next t ∧ t.on F.CLK_STATUS_HOLDOVER = true ∧ t.b.plumb.mode = .relock ∧ t.b.plumb.searchRef =
      1 - s.get F.CLK_STATUS_ACTIVE_REF) ∧
  (∀ (s : State),
    Live s → s.on F.SYS_STATUS_PERMIT = false → (refQual s 0 || refQual s 1) = true → s.b.plumb.mode ≠ .off →
    ∃ t, exec .relockFull s = .next t ∧ t.on F.CLK_STATUS_SEARCHING = true ∧ t.on F.CLK_STATUS_LOCK_RAW = false ∧
      t.b.plumb.mode = .search ∧ t.b.plumb.hop = false ∧ t.on F.SYS_STATUS_DIV_SYNC = false) ∧
  (∀ (s : State),
    Live s → s.on F.SYS_STATUS_PERMIT = false → refQual s 0 = false → refQual s 1 = false → s.b.plumb.mode ≠ .off →
    ∃ t, exec .relockFull s = .next t ∧ t.on F.CLK_STATUS_SEARCHING = false ∧ t.on F.CLK_STATUS_LOCK_RAW = false ∧
      t.b.plumb.mode = .search ∧ t.on F.SYS_STATUS_DIV_SYNC = false)

/-- In a main die out of reset each completes with exactly the listed effects: 1.1 s without PPS_IN clears PPS_IN_PRESENT
with PPS_MISSING; PPS_OUT ends once its width has passed, and not before; TIM_COMMIT arms the shadowed seconds on the
grandmaster and is refused elsewhere with the armed value discarded; INVALIDATE clears VALID and updates the
guarantees; LEAP_SET and LEAP_CLR set and clear LEAP_PENDING; a read of TIM_NOW_W0 latches the stamp of the cycle.
Each completes, that is exec answers a next state with the command's own effect, for every state and operands that
meet the hypotheses: ppsMissing, ppsOutEnd, todCommit, invalidate, leapSet, leapClr, timNowRead. -/
def Obligations.TimebaseCommands : Prop :=
  (∀ (s : State),
    Live s → s.on F.TIM_STATUS_PPS_IN_PRESENT = true →
    exec .ppsMissing s = .next (after guarUpdate (applyAll s [.set F.TIM_STATUS_PPS_IN_PRESENT 0, .sticky
      F.TIM_STICKY_PPS_MISSING]))) ∧
  (∀ (s : State),
    Live s → s.b.tim.ppsFall < (s.b.tim.t : Int) + tuFab →
    exec .ppsOutEnd s = .next (applyAll s [.upd fun b => { b with tim := { b.tim with ppsOut := false } }])) ∧
  (∀ (s : State),
    Live s → (s.b.tim.t : Int) + tuFab ≤ s.b.tim.ppsFall →
    exec .ppsOutEnd s = .next (s)) ∧
  (∀ (s : State),
    Live s → s.on F.TIM_STATUS_GM = true →
    ∃ t, exec .todCommit s = .next t ∧ t = after (noted (.page 0x2000 0) fun s => [.commit (keyAt 0x2050) (keyAt
      0x2058), .set F.TIM_STATUS_TOD_ARMED 1, .upd fun b =>
      { b with tim := { b.tim with armed := some (s.get F.TIM_TOD_LO_SEC + 2 ^ 32 * s.get F.TIM_TOD_HI_SEC) } }]) s ∧
      t.on F.TIM_STATUS_TOD_ARMED = true) ∧
  (∀ (s : State),
    Live s → s.on F.TIM_STATUS_GM = false →
    ∃ t, exec .todCommit s = .next t ∧ t = after (noted (.page 0x2000 0) fun s => [.sticky F.TIM_STICKY_TOD_REJECT, .set
      F.TIM_STATUS_TOD_ARMED 0, .upd fun b => { b with tim := { b.tim with armed := none } }]) s ∧ t.b.tim.armed =
      none) ∧
  (∀ (s : State),
    Live s →
    exec .invalidate s = .next (after (inOrder [validClear 0, guarUpdate]) s)) ∧
  (∀ (s : State),
    Live s →
    exec .leapSet s = .next (applyAll s [.set F.TIM_STATUS_LEAP_PENDING 1])) ∧
  (∀ (s : State),
    Live s →
    exec .leapClr s = .next (applyAll s [.set F.TIM_STATUS_LEAP_PENDING 0])) ∧
  (∀ (s : State),
    Live s →
    ∃ t, exec .timNowRead s = .next t ∧ t.get F.TIM_NOW_W0_SEC_LO = s.b.tim.t / 327680000000000 % 2 ^ 32 ∧ t.get
      F.TIM_NOW_W2_W2 = s.b.tim.t / 327680 % 1000000000 ∧ t.get F.TIM_NOW_FRAC_FRAC = s.b.tim.t % 327680 / 5)

/-- An edge on a counting timebase shows PPS_IN present; on a node that is not grandmaster it moves no time; on the
grandmaster an armed time of day becomes the time at the edge, and is armed no longer. A write of TIM_CTRL sets GM,
the PPS_OUT fields and TIM_STATUS.GM from its bits, and a change of GM clears VALID. A local second boundary sets
TIM_IRQ_STAT.PPS_EDGE, and raises PPS_OUT when it is enabled and not gated. Each completes, that is exec answers a
next state with the command's own effect, for every state and operands that meet the hypotheses: ppsInEdge,
timCtrlWrite, localSecondBoundary. -/
def Obligations.TimebaseEdges : Prop :=
  (∀ (phase : Fin 64) (settled : Bool) (s : State),
    Live s → s.b.tim.counting = true →
    ∃ t, exec (.ppsInEdge phase settled) s = .next t ∧ t.on F.TIM_STATUS_PPS_IN_PRESENT = true) ∧
  (∀ (phase : Fin 64) (settled : Bool) (s : State),
    Live s → s.b.tim.counting = true → s.on F.TIM_STATUS_GM = false →
    ∃ t, exec (.ppsInEdge phase settled) s = .next t ∧ t.b.tim = s.b.tim) ∧
  (∀ (phase : Fin 64) (n : Nat) (s : State),
    Live s → s.b.tim.counting = true → s.on F.TIM_STATUS_GM = true → s.b.tim.armed = some n →
    ∃ t, exec (.ppsInEdge phase true) s = .next t ∧ t.b.tim.t = n * tuSec - phase.val * tu100ps ∧ t.b.tim.armed = none ∧
      t.on F.TIM_STATUS_TOD_ARMED = false ∧ t.get F.TIM_PPS_ERR_ERR = 0) ∧
  (∀ (v : Word) (s : State),
    Live s →
    ∃ t, exec (.timCtrlWrite v) s = .next t ∧ t.on F.TIM_CTRL_GM = v.toNat.testBit 1 ∧ t.on F.TIM_STATUS_GM =
      v.toNat.testBit 1 ∧ t.on F.TIM_CTRL_PPS_OUT_EN = v.toNat.testBit 3 ∧ t.on F.TIM_CTRL_PPS_OUT_GATE =
      v.toNat.testBit 4) ∧
  (∀ (v : Word) (s : State),
    Live s → v.toNat.testBit 1 ≠ s.on F.TIM_CTRL_GM →
    ∃ t, exec (.timCtrlWrite v) s = .next t ∧ t.on F.TIM_STATUS_VALID = false) ∧
  (∀ (s : State),
    Live s → s.b.tim.counting = true →
    ∃ t, exec .localSecondBoundary s = .next t ∧ t.on ⟨32 * 0x2010 + 8, 1⟩ = true) ∧
  (∀ (s : State),
    Live s → s.b.tim.counting = true → s.on F.TIM_CTRL_PPS_OUT_EN = true → s.on F.TIM_CTRL_PPS_OUT_GATE = false → 0 ≤
      s.int F.TIM_PPS_OUT_OFS_OFS → ppsInstant s (nearestSec s.b.tim.t * tuSec) < (s.b.tim.t + tuFab : Nat) →
    ∃ t, exec .localSecondBoundary s = .next t ∧ t.b.tim.ppsOut = true ∧ t.b.tim.ppsRise = ppsInstant s (nearestSec
      s.b.tim.t * tuSec)) ∧
  (∀ (s : State),
    Live s → s.b.tim.counting = true → s.on F.TIM_CTRL_PPS_OUT_EN = true → s.on F.TIM_CTRL_PPS_OUT_GATE = false → 0 ≤
      s.int F.TIM_PPS_OUT_OFS_OFS → ¬ ppsInstant s (nearestSec s.b.tim.t * tuSec) < (s.b.tim.t + tuFab : Nat) →
    ∃ t, exec .localSecondBoundary s = .next t ∧ t.b.tim.ppsDue = some (nearestSec s.b.tim.t * tuSec))

/-- In a main die out of reset each completes with exactly the listed effects: signal detection, bit lock and block lock
complete their stages; 64 control headers complete stage 5 and 64 inverted ones flip the polarity with POL_CORRECTED
and a record; a lane reversal is recorded and the skew of a group is stored, or beyond 1,056 bits flagged and
recorded; in stage 7 the own turn of the delay measurement, once its 64 exchanges are done, hands its result to the
TRAIN blocks, and the partner's result is stored; a TRAIN block shows its word and what the partner reports, and one
that comes back through the loop starts its count; a lane in stage 7 that is done becomes ready with LANE_READY, and
on L4 the mirror sets that readiness asks for count anew; a ready lane that goes down falls back to stage 2 with
LINK_DOWN, on L4 with PARTNER_LOST after readiness, and after a loss of block lock with at least 16 invalid headers
counted; bit slips, error injection, counter clears, PRBS lock, resync and saturation, and the latching reads of the
PRBS and raw words are as R100 to R115 say. Each completes, that is exec answers a next state with the command's own
effect, for every state and operands that meet the hypotheses: signalDetect, bitLock, blockLock, polarity,
laneReversal, delayMeasurement, laneReady, train, linkDown, cdrRange, bitslip, prbsErrInject, prbsCntClr, prbsLock,
prbsResync, prbsSat, prbsBitsRead, rawRxRead. -/
def Obligations.LaneBringUpCommands : Prop :=
  (∀ (n : Fin 8) (s : State),
    Live s → inStage s n 2 = true → s.on (F.LNK_CTRL_ENABLE (govLane s n)) = true →
    ∃ t, exec (.signalDetect n) s = .next t ∧ t = applyAll s (.set (F.LNK_STATUS_SIG_DET n) 1 :: toStage n 3) ∧ t.get
      (F.LNK_STATUS_STAGE n) = 3) ∧
  (∀ (n : Fin 8) (phase : BitVec 8) (freq : BitVec 16) (s : State),
    Live s → inStage s n 3 = true →
    ∃ t, exec (.bitLock n phase freq) s = .next t ∧ t = applyAll s ([.set (F.LNK_STATUS_BIT_LOCK n) 1, .set
      (F.LNK_CDR_PHASE n) phase.toNat, .set (F.LNK_CDR_FREQ n) freq.toNat] ++ toStage n (landing s n 4)) ∧ t.get
      (F.LNK_STATUS_STAGE n) = landing s n 4) ∧
  (∀ (n : Fin 8) (s : State),
    Live s → inStage s n 4 = true →
    ∃ t, exec (.blockLock n) s = .next t ∧ t = applyAll s (.set (F.LNK_STATUS_BLOCK_LOCK n) 1 :: toStage n (landing s n
      5)) ∧ t.get (F.LNK_STATUS_STAGE n) = landing s n 5) ∧
  (∀ (n : Fin 8) (s : State),
    Live s → inStage s n 5 = true →
    ∃ t, exec (.polarity n false) s = .next t ∧ t = applyAll s (toStage n (landing s n 6)) ∧ t.get (F.LNK_STATUS_STAGE
      n) = landing s n 6) ∧
  (∀ (n : Fin 8) (s : State),
    Live s → inStage s n 5 = true → s.on (F.LNK_CTRL_POL_AUTO n) = true →
    exec (.polarity n true) s = .next (applyAll s [.set (F.LNK_STATUS_POL_INV n) (1 - s.get (F.LNK_STATUS_POL_INV n)),
      .sticky (F.LNK_STICKY_POL_CORRECTED n), .led 0x2004 n [n, 0]])) ∧
  (∀ (n : Fin 8) (swapped : Bool) (partnerLane : Fin 8) (skew : Nat) (s : State),
    Live s → bonded s n = true → govLane s n = n.val → nearLoop s n = false → inStage s n 6 = true → inStage s (n + 1) 6
      = true → skew ≤ 1056 →
    exec (.laneReversal n swapped partnerLane skew) s = .next (applyAll s (effIf swapped [.set (F.LNK_STATUS_REVERSED n)
      1, .sticky (F.LNK_STICKY_REVERSAL_CORRECTED n), .led 0x2005 n [n, partnerLane]] ++ [.set (F.LNK_SKEW_BITS n)
      skew] ++ toStage n 7 ++ toStage (n + 1) 7))) ∧
  (∀ (n : Fin 8) (swapped : Bool) (partnerLane : Fin 8) (skew : Nat) (s : State),
    Live s → bonded s n = true → govLane s n = n.val → nearLoop s n = false → inStage s n 6 = true → inStage s (n + 1) 6
      = true → 1056 < skew →
    exec (.laneReversal n swapped partnerLane skew) s = .next (applyAll s (effIf swapped [.set (F.LNK_STATUS_REVERSED n)
      1, .sticky (F.LNK_STICKY_REVERSAL_CORRECTED n), .led 0x2005 n [n, partnerLane]] ++ [.sticky
      (F.LNK_STICKY_DESKEW_FAIL n), .led 0x2007 n [n, skew]]))) ∧
  (∀ (n : Fin 8) (corr : BitVec 16) (rt : Nat) (s : State),
    Live s → inStage s n 7 = true → ringLane s n = true → ownTurn s n = true → 64 ≤ (laneOf s n).exN →
    ∃ t, exec (.delayMeasurement n true corr rt) s = .next t ∧ t = applyAll s [updLane n fun l =>
      { l with sentCorr := true, corrOut := some (fieldOf s 16 (corrOf (laneOf s n) rt)), loopRt := rt, exRun := false },
      spend 1]) ∧
  (∀ (n : Fin 8) (corr : BitVec 16) (rt : Nat) (s : State),
    Live s → inStage s n 7 = true → ringLane s n = true → ((laneOf s n).sentCorr || decide ((laneOf s n).pAddr < s.get
      F.RDG_ADDR_ADDR)) = true →
    exec (.delayMeasurement n false corr rt) s = .next (after guarUpdate (applyAll s (storeCorr n corr.toNat)))) ∧
  (∀ (n : Fin 8) (s : State),
    Live s → inStage s n 7 = true → stage7Done s n = true → (laneOf s n).partner = true → n.val ≠ 4 →
    ∃ t, exec (.laneReady n) s = .next t ∧ t = after guarUpdate (applyAll s (toStage n 8 ++ [.set (F.LNK_STATUS_READY n)
      1, .set (F.LNK_STATUS_RETRIES n) 0, .led 0x2001 n [n, cycUs (s.b.cyc - (laneOf s n).bringAt)]])) ∧ t.on
      (F.LNK_STATUS_READY n) = true) ∧
  (∀ (s : State),
    Live s → inStage s 4 7 = true → stage7Done s 4 = true → (laneOf s 4).partner = true →
    ∃ t, exec (.laneReady 4) s = .next t ∧ t = after (inOrder [mirrorUp, guarUpdate]) (applyAll s (toStage 4 8 ++ [.set
      (F.LNK_STATUS_READY 4) 1, .set (F.LNK_STATUS_RETRIES 4) 0, .led 0x2001 4 [4, cycUs (s.b.cyc - (laneOf s
      4).bringAt)]])) ∧ t.on (F.LNK_STATUS_READY 4) = true) ∧
  (∀ (n : Fin 8) (w : BitVec 56) (s : State),
    Live s → 4 ≤ s.get (F.LNK_STATUS_STAGE n) → (s.on (F.LNK_STATUS_READY n) && decide (6 ≤ bitsOf w.toNat 55 53)) =
      false → s.on (F.LNK_CTRL_MODE (govLane s n)) = false → (((laneOf s n).loopReq || (laneOf s n).loopLeft != 0) &&
      bitsOf w.toNat 47 36 == trainAddr s) = false →
    exec (.train n w) s = .next (after (turnStart n) (applyAll s ([.set (F.LNK_TRAIN_RX_W n) (bitsOf w.toNat 55 24),
      updLane n (fun l => { l with pStage := bitsOf w.toNat 55 53, pAddr := bitsOf w.toNat 47 36 })] ++ loopRequest n
      (w.toNat.testBit 52) s ++ effIf (6 ≤ bitsOf w.toNat 55 53) [updLane n fun l => { l with partner := true }] ++
      effIf (w.toNat.testBit 35 && inStage s n 7 && ringLane s n) (storeCorr n (bitsOf w.toNat 34 19)))))) ∧
  (∀ (n : Fin 8) (w : BitVec 56) (s : State),
    Live s → s.on (F.LNK_CTRL_MODE (govLane s n)) = false → 4 ≤ s.get (F.LNK_STATUS_STAGE n) → s.on (F.LNK_STATUS_READY
      n) = true → 6 ≤ bitsOf w.toNat 55 53 →
    exec (.train n w) s = .next (applyAll s [.set (F.LNK_TRAIN_RX_W n) (bitsOf w.toNat 55 24)])) ∧
  (∀ (n : Fin 8) (w : BitVec 56) (s : State),
    Live s → s.on (F.LNK_CTRL_MODE (govLane s n)) = true →
    ∃ t, exec (.train n w) s = .next t ∧ t = s) ∧
  (∀ (n : Fin 8) (w : BitVec 56) (s : State),
    Live s → 4 ≤ s.get (F.LNK_STATUS_STAGE n) → s.on (F.LNK_STATUS_READY n) = false → (laneOf s n).loopReq = true →
      bitsOf w.toNat 47 36 = trainAddr s → (laneOf s n).loopLeft = 0 →
    exec (.train n w) s = .next (applyAll s [.set (F.LNK_TRAIN_RX_W n) (bitsOf w.toNat 55 24), updLane n fun l =>
      { l with loopLeft := 320 }])) ∧
  (∀ (n : Fin 8) (cause : Fin 4) (s : State),
    Live s → s.on (F.LNK_STATUS_READY n) = true → n.val ≠ 4 → cause.val ≠ 1 →
    exec (.linkDown n cause) s = .next (after guarUpdate (applyAll s ([updLane n (stopTx (ringLane s n))] ++
      backToStage2 n ++ [updLane n (fun l => { l with bringAt := s.b.cyc }), .sticky (F.LNK_STICKY_LINK_DOWN n), .led
      0x2002 n [n, cause]])))) ∧
  (∀ (n : Fin 8) (s : State),
    Live s → s.on (F.LNK_STATUS_READY n) = true →
    ∃ t, exec (.linkDown n 1) s = .next t ∧ t.get (F.LNK_STATUS_STAGE n) = 2 ∧ t.on (F.LNK_STATUS_READY n) = false ∧
      t.on (F.LNK_STICKY_LINK_DOWN n) = true ∧ min (s.get (F.LNK_CNT_HDR_ERR_N n) + 16) (2 ^ (F.LNK_CNT_HDR_ERR_N n).w
      - 1) ≤ t.get (F.LNK_CNT_HDR_ERR_N n)) ∧
  (∀ (cause : Fin 4) (s : State),
    Live s → s.on (F.LNK_STATUS_READY 4) = true → cause.val ≠ 1 →
    exec (.linkDown 4 cause) s = .next (after (inOrder [mirrorDown, guarUpdate]) (applyAll s ([updLane 4 (stopTx
      (ringLane s 4))] ++ backToStage2 4 ++ [updLane 4 (fun l => { l with bringAt := s.b.cyc }), .sticky
      (F.LNK_STICKY_LINK_DOWN 4), .led 0x2002 4 [4, cause]])))) ∧
  (∀ (n : Fin 8) (s : State),
    Live s → 3 ≤ s.get (F.LNK_STATUS_STAGE n) → s.on (F.LNK_STATUS_READY n) = false →
    exec (.cdrRange n) s = .next (applyAll s (.sticky (F.LNK_STICKY_CDR_RANGE n) :: backToStage2 n))) ∧
  (∀ (n : Fin 8) (s : State),
    Live s → s.on (F.LNK_CTRL_MODE n) = true →
    exec (.bitslip n) s = .next (applyAll s [updLane n fun l => { l with slip := (l.slip + 1) % 64 }])) ∧
  (∀ (n : Fin 8) (s : State),
    Live s → s.on (F.LNK_CTRL_MODE n) = false → s.on (F.LNK_CTRL_AUTO_ALIGN n) = false →
    exec (.bitslip n) s = .next (applyAll s [updLane n fun l => { l with slip := (l.slip + 1) % 66 }])) ∧
  (∀ (n : Fin 8) (s : State),
    Live s → s.on (F.LNK_CTRL_MODE n) = false → s.on (F.LNK_CTRL_AUTO_ALIGN n) = true →
    exec (.bitslip n) s = .next (applyAll s [.sticky (F.LNK_STICKY_SLIP_IGNORED n)])) ∧
  (∀ (n : Fin 8) (s : State),
    Live s → s.get (F.LNK_PRBS_CTRL_GEN n) ≠ 0 →
    exec (.prbsErrInject n) s = .next (applyAll s [updLane n fun l => { l with inject := l.inject + 1 }])) ∧
  (∀ (n : Fin 8) (s : State),
    Live s →
    exec (.prbsCntClr n) s = .next (applyAll s [updLane n fun l =>
      { l with bits := 0, errs := 0, clrAt := some s.b.cyc }, .set (F.LNK_PRBS_STATUS_SAT n) 0, .set
      (F.LNK_PRBS_BITS_LO_N n) 0])) ∧
  (∀ (n : Fin 8) (s : State),
    Live s → s.get (F.LNK_PRBS_CTRL_CHK n) ≠ 0 → s.on (F.LNK_STATUS_BIT_LOCK n) = true → nearLoop s n = true → s.get
      (F.LNK_PRBS_CTRL_CHK n) = s.get (F.LNK_PRBS_CTRL_GEN n) →
    exec (.prbsLock n) s = .next (applyAll s [.set (F.LNK_PRBS_STATUS_LOCK n) 1, updLane n fun l =>
      { l with wordBits := 0, wordErrs := 0, badWords := 0, chkReg := l.genReg }])) ∧
  (∀ (n : Fin 8) (s : State),
    Live s → s.get (F.LNK_PRBS_CTRL_CHK n) ≠ 0 → s.on (F.LNK_STATUS_BIT_LOCK n) = true → nearLoop s n = false →
    ∃ t, exec (.prbsLock n) s = .next t ∧ t.on (F.LNK_PRBS_STATUS_LOCK n) = true ∧ (laneOf t n).badWords = 0) ∧
  (∀ (n : Fin 8) (s : State),
    Live s → s.on (F.LNK_PRBS_STATUS_LOCK n) = true → 4 ≤ (laneOf s n).badWords →
    exec (.prbsResync n) s = .next (applyAll s [.set (F.LNK_PRBS_STATUS_LOCK n) 0, .sticky (F.LNK_STICKY_PRBS_RESYNC
      n)])) ∧
  (∀ (n : Fin 8) (errors : Bool) (s : State),
    Live s → s.on (F.LNK_PRBS_STATUS_LOCK n) = true → (if errors then (laneOf s n).errs = 2 ^ 32 - 1 else (laneOf s
      n).bits = 2 ^ 48 - 1) →
    exec (.prbsSat n errors) s = .next (applyAll s [.set (F.LNK_PRBS_STATUS_SAT n) 1, .sticky (F.LNK_STICKY_PRBS_SAT
      n)])) ∧
  (∀ (n : Fin 8) (s : State),
    Live s →
    exec (.prbsBitsRead n) s = .next (applyAll s [.set (F.LNK_PRBS_BITS_LO_N n) (laneOf s n).bits, .set
      (F.LNK_PRBS_BITS_HI_N n) ((laneOf s n).bits / 2 ^ 32), .set (F.LNK_PRBS_ERR_N n) (laneOf s n).errs])) ∧
  (∀ (n : Fin 8) (w : BitVec 64) (s : State),
    Live s →
    exec (.rawRxRead n w) s = .next (applyAll s [.set (F.LNK_RAW_RX_LO_W n) w.toNat, .set (F.LNK_RAW_RX_HI_W n) (w.toNat
      / 2 ^ 32)]))

/-- A write of LNK_CTRL on a lane that governs itself and is not refused leaves its fields; MODE set on a lane that
serves a role is refused with TEST_REJECT and changes nothing else, and the same holds of LOOP and of PRBS. A stage
time-out in a stage of 3 to 7 that is not complete counts one retry, and at RETRY_LIM the lane waits in stage 1 with
RETRY_EXHAUSTED; before that it returns to stage 2; in a complete stage it does nothing. RETRAIN clears the retries.
A frame for another node is routed with its hop limit lowered by one, an S frame only when no copy of it was
forwarded within 10 µs, one whose check fails with END_ABORT and counted; at hop limit 0 it is dropped and counted. A
keep-alive enters the queue of every ring or branch lane that carries role traffic. Each completes, that is exec
answers a next state with the command's own effect, for every state and operands that meet the hypotheses:
lnkCtrlWrite, lnkLoopWrite, lnkPrbsCtrlWrite, stageTmo, retrain, frameForward, keepaliveSend. -/
def Obligations.LaneControlCommands : Prop :=
  (∀ (n : Fin 8) (v : Word) (s : State),
    Live s → upperBonded s n = false → v.toNat.testBit 3 = false →
    ∃ t, exec (.lnkCtrlWrite n v) s = .next t ∧ t.get (F.LNK_CTRL_RATE n) = v.toNat / 2 % 4 ∧ t.on (F.LNK_CTRL_ENABLE n)
      = v.toNat.testBit 0 ∧ t.get (F.LNK_CTRL_RETRY_LIM n) = v.toNat / 2 ^ 12 % 16 ∧ t.on (F.LNK_CTRL_MODE n) = false) ∧
  (∀ (n : Fin 8) (v : Word) (s : State),
    Live s → upperBonded s n = false → v.toNat.testBit 3 = true → serves s n = true →
    ∃ t, exec (.lnkCtrlWrite n v) s = .next t ∧ t = s.stick (F.LNK_STICKY_TEST_REJECT n)) ∧
  (∀ (n : Fin 8) (v : Word) (s : State),
    Live s → upperBonded s n = false → v.toNat % 4 = 0 →
    ∃ t, exec (.lnkLoopWrite n v) s = .next t ∧ t.get (F.LNK_LOOP_MODE n) = 0 ∧ t.on (F.LNK_LOOP_TX_QUIET n) =
      v.toNat.testBit 2) ∧
  (∀ (n : Fin 8) (v : Word) (s : State),
    Live s → upperBonded s n = false → serves s n = false →
    ∃ t, exec (.lnkLoopWrite n v) s = .next t ∧ t.get (F.LNK_LOOP_MODE n) = v.toNat % 4) ∧
  (∀ (n : Fin 8) (v : Word) (s : State),
    Live s → v.toNat % 4 ≠ 0 → serves s n = true →
    ∃ t, exec (.lnkPrbsCtrlWrite n v) s = .next t ∧ t = s.stick (F.LNK_STICKY_TEST_REJECT n)) ∧
  (∀ (n : Fin 8) (v : Word) (s : State),
    Live s → serves s n = false →
    ∃ t, exec (.lnkPrbsCtrlWrite n v) s = .next t ∧ t.get (F.LNK_PRBS_CTRL_GEN n) = v.toNat % 4 ∧ t.get
      (F.LNK_PRBS_CTRL_CHK n) = v.toNat / 16 % 4) ∧
  (∀ (n : Fin 8) (s : State),
    Live s → stageOpen s n = true → stageOver s n = true → (s.get (F.LNK_STATUS_STAGE n) == 4 && inFarLoop s n) = false
      → s.get (F.LNK_CTRL_RETRY_LIM (govLane s n)) ≤ s.get (F.LNK_STATUS_RETRIES n) + 1 →
    ∃ t, exec (.stageTmo n) s = .next t ∧ t.get (F.LNK_STATUS_STAGE n) = 1 ∧ t.on (F.LNK_STICKY_STAGE_TMO n) = true ∧
      t.on (F.LNK_STICKY_RETRY_EXHAUSTED n) = true ∧ t.get (F.LNK_STATUS_RETRIES n) = (s.get (F.LNK_STATUS_RETRIES n)
      + 1) % 256 ∧ (laneOf t n).exhausted = true) ∧
  (∀ (n : Fin 8) (s : State),
    Live s → stageOpen s n = true → stageOver s n = true → (s.get (F.LNK_STATUS_STAGE n) == 4 && inFarLoop s n) = false
      → s.get (F.LNK_STATUS_RETRIES n) + 1 < s.get (F.LNK_CTRL_RETRY_LIM (govLane s n)) → s.get (F.LNK_CTRL_RETRY_LIM
      (govLane s n)) ≤ 15 →
    ∃ t, exec (.stageTmo n) s = .next t ∧ t.get (F.LNK_STATUS_STAGE n) = 2 ∧ t.on (F.LNK_STICKY_STAGE_TMO n) = true ∧
      t.get (F.LNK_STATUS_RETRIES n) = s.get (F.LNK_STATUS_RETRIES n) + 1 ∧ t.on (F.LNK_STICKY_RETRY_EXHAUSTED n) =
      s.on (F.LNK_STICKY_RETRY_EXHAUSTED n)) ∧
  (∀ (n : Fin 8) (s : State),
    Live s → stageOpen s n = false →
    exec (.stageTmo n) s = .next (s)) ∧
  (∀ (n : Fin 8) (s : State),
    Live s →
    ∃ t, exec (.retrain n) s = .next t ∧ t.get (F.LNK_STATUS_RETRIES n) = 0 ∧ t.on (F.LNK_STATUS_READY n) = false) ∧
  (∀ (lane : Fin 8) (f : Frame) (s : State),
    Live s → s.on F.RDG_CTRL_ENABLE = true → ringLane s lane = true → carriesRole s lane = true → (laneOf s
      lane).noForward = false → frameLenBad f = false → f.dest ≠ s.get F.RDG_ADDR_ADDR → returned s lane f = false → 2
      ≤ f.cls → f.cls ≤ 4 → f.hops ≠ 0 → f.crcOk = true →
    ∃ t, exec (.frameForward lane f) s = .next t ∧ t = after (route (some lane)
      { f with hops := f.hops - 1, abort := false }) s) ∧
  (∀ (lane : Fin 8) (f : Frame) (s : State),
    Live s → s.on F.RDG_CTRL_ENABLE = true → ringLane s lane = true → carriesRole s lane = true → (laneOf s
      lane).noForward = false → frameLenBad f = false → f.dest ≠ s.get F.RDG_ADDR_ADDR → returned s lane f = false → 2
      ≤ f.cls → f.cls ≤ 4 → f.hops ≠ 0 → f.crcOk = false →
    ∃ t, exec (.frameForward lane f) s = .next t ∧ t = after (route (some lane)
      { f with hops := f.hops - 1, abort := true }) (applyAll s [.inc F.RDG_CNT_CRC_N 1, .sticky
      F.RDG_STICKY_CRC_ERR])) ∧
  (∀ (lane : Fin 8) (f : Frame) (s : State),
    Live s → s.on F.RDG_CTRL_ENABLE = true → ringLane s lane = true → carriesRole s lane = true → (laneOf s
      lane).noForward = false → frameLenBad f = false → f.dest ≠ s.get F.RDG_ADDR_ADDR → returned s lane f = false →
      f.cls = 0 → f.hops ≠ 0 → f.crcOk = true → seenIn s s.b.rdg.fwdSeen f = false →
    ∃ t, exec (.frameForward lane f) s = .next t ∧ t = after (route (some lane)
      { f with hops := f.hops - 1, abort := false }) (applyAll s [updRdg fun r =>
      { r with fwdSeen := seenAdd s r.fwdSeen f }])) ∧
  (∀ (lane : Fin 8) (f : Frame) (s : State),
    Live s → s.on F.RDG_CTRL_ENABLE = true → ringLane s lane = true → carriesRole s lane = true → frameLenBad f = false
      → f.dest ≠ s.get F.RDG_ADDR_ADDR → f.cls ≠ 1 → f.cls ≤ 4 → f.hops = 0 →
    ∃ t, exec (.frameForward lane f) s = .next t ∧ t = applyAll s dropHop) ∧
  (∀ (n : Fin 8) (s : State),
    Live s → ringLane s n = true → govLane s n = n.val → carriesRole s n = true →
    ∃ t, exec .keepaliveSend s = .next t ∧ (laneOf t n).tx = txInsert (.keepalive (keepaliveOn s n)) (laneOf s n).tx)

/-- RDG_CTRL takes its four bits, but with ADDR 0xFFF a write that sets ENABLE changes nothing. A keep-alive with another
node's address becomes the lane's advertisement. A lost neighbour sets NEIGHBOUR_LOST and loses its advertisement; a
qualified returning lane goes UP. The first copy of an intertrip with no enabled group only marks the copy seen, and
one with groups sets IT_RX; a write of RDG_IT_CMD with groups sends them as originated frame 1; a first NODE_LOST
copy sets NODE_LOST_RX. An accepted slot commit arms the slot and takes its shadows; a refused one sets SCHED_LATE.
An echo check and a recalibration that does not run yet start the sums of every ring lane anew with their 16 and 64
probes; a neighbour's probe is returned and an own echo is summed; 64 passed echoes clear CAL_FAIL and set CAL_DONE;
CNT_CLR clears the three counters. Each completes, that is exec answers a next state with the command's own effect,
for every state and operands that meet the hypotheses: rdgCtrlWrite, keepalive, neighbourLost, unwrap, intertrip,
itCmd, nodeLost, schedCommit, echoCheck, recal, echo, recalDone, rdgCntClr. -/
def Obligations.RingCommands : Prop :=
  (∀ (v : Word) (s : State),
    Live s → (v.toNat.testBit 0 && !s.on F.RDG_CTRL_ENABLE && s.get F.RDG_ADDR_ADDR == 0xFFF) = false →
    ∃ t, exec (.rdgCtrlWrite v) s = .next t ∧ t.on F.RDG_CTRL_ENABLE = v.toNat.testBit 0 ∧ t.on F.RDG_CTRL_REMOTE_RD_EN
      = v.toNat.testBit 1 ∧ t.on F.RDG_CTRL_REMOTE_WR_EN = v.toNat.testBit 2 ∧ t.on F.RDG_CTRL_IT_PARAPET =
      v.toNat.testBit 3) ∧
  (∀ (v : Word) (s : State),
    Live s → v.toNat.testBit 0 = true → s.on F.RDG_CTRL_ENABLE = false → s.get F.RDG_ADDR_ADDR = 0xFFF →
    ∃ t, exec (.rdgCtrlWrite v) s = .next t ∧ t = s) ∧
  (∀ (n : Fin 8) (k : Keepalive) (s : State),
    Live s → ringCarries s n = true → k.addr ≠ s.get F.RDG_ADDR_ADDR →
    ∃ t, exec (.keepalive n k) s = .next t ∧ (laneOf t n).advert = some k ∧ (laneOf t n).noForward = (laneOf s
      n).noForward) ∧
  (∀ (n : Fin 8) (k : Keepalive) (s : State),
    Live s → ringCarries s n = true → k.addr = s.get F.RDG_ADDR_ADDR → (laneOf s n).noForward = false →
    ∃ t, exec (.keepalive n k) s = .next t ∧ (laneOf t n).noForward = true ∧ t.on F.RDG_STICKY_ADDR_CONFLICT = true) ∧
  (∀ (n : Fin 8) (s : State),
    Live s → s.on F.RDG_CTRL_ENABLE = true → ringLane s n = true → (laneOf s n).advert.isSome = true →
    ∃ t, exec (.neighbourLost n) s = .next t ∧ t.on F.RDG_STICKY_NEIGHBOUR_LOST = true ∧ (laneOf t n).advert = none ∧
      (laneOf t n).up = false) ∧
  (∀ (n : Fin 8) (s : State),
    Live s → ringCarries s n = true → (laneOf s n).advert.isSome = true → s.on (F.RDG_LANE_CAL_DONE n) = true → s.on
      (F.RDG_LANE_CAL_FAIL n) = false → n.val = eastLane s → s.on F.RDG_STATUS_WRAP_E = true →
    ∃ t, exec (.unwrap n) s = .next t ∧ (laneOf t n).up = true ∧ t.on F.RDG_STATUS_WRAP_E = false ∧ t.on
      F.RDG_STATUS_JOINED = true) ∧
  (∀ (n : Fin 8) (f : Frame) (s : State),
    Live s → ringCarries s n = true → f.cls = 0 → f.type = 1 → f.dest = 0xFFF → f.data.length = 1 → f.hops ≠ 0 → f.crcOk
      = true → f.src ≠ s.get F.RDG_ADDR_ADDR → seenIn s s.b.rdg.rxSeen f = false → f.data.getD 0 0 % 2 ^ 16 &&& s.get
      F.RDG_IT_RX_EN_GROUPS ≠ 0 →
    ∃ t, exec (.intertrip n f) s = .next t ∧ t.on F.RDG_STICKY_IT_RX = true ∧ t.b.rdg.rxSeen = seenAdd s s.b.rdg.rxSeen
      f) ∧
  (∀ (groups : BitVec 16) (s : State),
    Live s → groups.toNat ≠ 0 →
    ∃ t, exec (.itCmd groups) s = .next t ∧ t = after (originate 0 (s.get F.RDG_IT_DEST_ADDR) 1 [groups.toNat]) s) ∧
  (∀ (n : Fin 8) (f : Frame) (s : State),
    Live s → ringCarries s n = true → f.cls = 0 → f.type = 2 → f.dest = 0xFFF → f.data.length ≤ 2 → f.hops ≠ 0 → f.crcOk
      = true → f.src ≠ s.get F.RDG_ADDR_ADDR → seenIn s s.b.rdg.rxSeen f = false →
    ∃ t, exec (.nodeLost n f) s = .next t ∧ t.on F.RDG_STICKY_NODE_LOST_RX = true ∧ t.b.rdg.rxSeen = seenAdd s
      s.b.rdg.rxSeen f) ∧
  (∀ (n : Fin 8) (mask : BitVec 8) (s : State),
    Live s → mask.toNat = 2 ^ n.val → slotAccepted s n = true →
    ∃ t, exec (.schedCommit mask) s = .next t ∧ (t.get F.RDG_SCHED_STAT_ARMED).testBit n = (s.get
      (F.RDG_SCHED_ACT_ACTION n) != 0) ∧ (t.get F.RDG_SCHED_STAT_DONE).testBit n = false ∧ t.cur (F.RDG_SCHED_NS_NS n)
      = s.get (F.RDG_SCHED_NS_NS n) ∧ t.cur (F.RDG_SCHED_ACT_ACTION n) = s.get (F.RDG_SCHED_ACT_ACTION n)) ∧
  (∀ (n : Fin 8) (mask : BitVec 8) (s : State),
    Live s → mask.toNat = 2 ^ n.val → slotAccepted s n = false →
    ∃ t, exec (.schedCommit mask) s = .next t ∧ t = after (noted (.page 0x10000 n) fun _ => [.sticky
      F.RDG_STICKY_SCHED_LATE]) s ∧ t.on F.RDG_STICKY_SCHED_LATE = true) ∧
  (∀ (n : Fin 8) (s : State),
    Live s → ringLane s n = true → govLane s n = n.val →
    ∃ t, exec .echoCheck s = .next t ∧ (laneOf t n).echoN = 0 ∧ (laneOf t n).echoSum = 0 ∧ (laneOf t n).echoOut.length =
      16) ∧
  (∀ (n : Fin 8) (s : State),
    Live s → ringLane s n = true → govLane s n = n.val → (laneOf s n).recal = false →
    ∃ t, exec .recal s = .next t ∧ (laneOf t n).recal = true ∧ (laneOf t n).recalN = 0 ∧ (laneOf t n).recalSum = 0 ∧
      (laneOf t n).recalOut.length = 64) ∧
  (∀ (n : Fin 8) (probe : BitVec 56) (rt : Nat) (s : State),
    Live s → ringCarries s n = true →
    ∃ t, exec (.echo n probe false rt) s = .next t ∧ (laneOf t n).tx = txInsert (.echo probe.toNat) (laneOf s n).tx) ∧
  (∀ (n : Fin 8) (probe : BitVec 56) (rt : Nat) (s : State),
    Live s → ringCarries s n = true → (laneOf s n).echoOut.contains probe.toNat = true → (laneOf s n).echoN ≠ 15 →
    ∃ t, exec (.echo n probe true rt) s = .next t ∧ (laneOf t n).echoN = (laneOf s n).echoN + 1 ∧ (laneOf t n).echoSum =
      (laneOf s n).echoSum + rt ∧ (laneOf t n).echoOut = (laneOf s n).echoOut.erase probe.toNat) ∧
  (∀ (n : Fin 8) (probe : BitVec 56) (rt : Nat) (s : State),
    Live s → ringCarries s n = true → (laneOf s n).echoOut.contains probe.toNat = false → (laneOf s n).recalOut.contains
      probe.toNat = true →
    ∃ t, exec (.echo n probe true rt) s = .next t ∧ (laneOf t n).recalN = (laneOf s n).recalN + 1 ∧ (laneOf t
      n).recalSum = (laneOf s n).recalSum + rt) ∧
  (∀ (n : Fin 8) (corr : BitVec 16) (s : State),
    Live s → (laneOf s n).recal = true → 64 ≤ (laneOf s n).recalN →
    ∃ t, exec (.recalDone n true corr) s = .next t ∧ t.on (F.RDG_LANE_CAL_FAIL n) = false ∧ t.on (F.RDG_LANE_CAL_DONE n)
      = true ∧ t.get (F.RDG_LANE_CAL_RXCORR n) = corr.toNat ∧ (laneOf t n).recal = false ∧ (laneOf t n).loopRt =
      (laneOf s n).recalSum / (laneOf s n).recalN) ∧
  (∀ (s : State),
    Live s →
    ∃ t, exec .rdgCntClr s = .next t ∧ t = applyAll s [.set F.RDG_CNT_HOPDROP_N 0, .set F.RDG_CNT_UNREACH_N 0, .set
      F.RDG_CNT_CRC_N 0])

/-- EXCHANGE_START keeps t1 and the lane. DELAY_REQ answers with DELAY_RESP on the lane. A DELAY_RESP for the open
exchange on the upstream of a node that is not grandmaster ends the exchange; on a lane in stage 7 it counts one
exchange of the delay measurement. A time-out of the exchange clears TIME_CONV and VALID. A mailbox command that is
not refused becomes outstanding under its TAG with BUSY, a broadcast write too, until its frame has left; one with
the time-out 0, no words or too many ends at once with its error. A matching read response stores its words and ends
the command with its ERR, a matching write response ends it, a time-out ends it with ERR 1. Bulk commands likewise; a
fragment of the running transfer that fills it ends it. Each completes, that is exec answers a next state with the
command's own effect, for every state and operands that meet the hypotheses: exchangeStart, delayReq, delayResp,
exchangeTimeout, raccCmd, readResponse, writeResponse, raccTimeout, bulkCmd, bulkFragment, bulkTimeout. -/
def Obligations.RingTimeAndAccessCommands : Prop :=
  (∀ (phase : Fin 1024) (s : State),
    Live s → s.on F.RDG_STATUS_UP_VALID = true → ringCarries s (s.get F.RDG_STATUS_UP_LANE) = true →
    ∃ t, exec (.exchangeStart phase) s = .next t ∧ t.b.rdg.t1 = some (s.b.tim.t + phase.val * 2048, s.get
      F.RDG_STATUS_UP_LANE)) ∧
  (∀ (n : Fin 8) (f : Frame) (phase : Fin 1024) (turn : Nat) (s : State),
    Live s → ringCarries s n = true → f.cls = 1 → f.type = 0x10 → f.dest = s.get F.RDG_ADDR_ADDR → f.data.length ≤ 3 →
      f.hops ≠ 0 → f.crcOk = true →
    ∃ t, exec (.delayReq n f phase turn) s = .next t ∧ t = after (sendHop n 0x11 (delayBlocks s (stampAt s phase)
      (stampAt s (phase + turn)))) s) ∧
  (∀ (n : Fin 8) (f : Frame) (phase : Fin 1024) (t1 : Nat) (s : State),
    Live s → ringCarries s n = true → f.cls = 1 → f.type = 0x11 → f.dest = s.get F.RDG_ADDR_ADDR → f.data.length ≤ 3 →
      f.hops ≠ 0 → f.crcOk = true → s.on F.TIM_STATUS_GM = false → s.get (F.LNK_STATUS_STAGE n) ≠ 7 → s.on
      F.RDG_STATUS_UP_VALID = true → s.get F.RDG_STATUS_UP_LANE = n.val → s.b.rdg.t1 = some (t1, n.val) →
    ∃ t, exec (.delayResp n f phase) s = .next t ∧ t.b.rdg.t1 = none ∧ t.b.rdg.conv ≤ 16 ∧ t.b.freeCtr = s.b.freeCtr + 1
      ∧ t.get F.RDG_OFFSET_THETA < 2 ^ 32) ∧
  (∀ (n : Fin 8) (f : Frame) (phase : Fin 1024) (s : State),
    Live s → s.on F.RDG_CTRL_ENABLE = true → ringLane s n = true → carriesT s n = true → f.cls = 1 → f.type = 0x11 →
      f.dest = s.get F.RDG_ADDR_ADDR → f.data.length ≤ 3 → f.hops ≠ 0 → f.crcOk = true → s.get (F.LNK_STATUS_STAGE n)
      = 7 → (laneOf s n).exAt.isSome = true →
    ∃ t, exec (.delayResp n f phase) s = .next t ∧ t = applyAll s [updLane n fun l =>
      { l with exAt := none, exN := l.exN + 1, exSum := l.exSum + roundTrip s f phase ((laneOf s n).exAt.getD 0) }]) ∧
  (∀ (s : State),
    Live s → s.on F.TIM_STATUS_GM = false →
    ∃ t, exec .exchangeTimeout s = .next t ∧ t.on F.RDG_STATUS_TIME_CONV = false ∧ t.on F.TIM_STATUS_VALID = false ∧
      t.b.rdg.conv = 0 ∧ t.b.rdg.t1 = none) ∧
  (∀ (write : Bool) (count : Fin 16) (s : State),
    Live s → s.on F.RDG_RACC_STATUS_BUSY = false → s.get F.RDG_RACC_TMO_US ≠ 0 → 1 ≤ count.val → count.val ≤ 8 → s.get
      F.RDG_RACC_DEST_ADDR ≠ 0xFFF → (s.on F.RDG_CTRL_ENABLE && s.get F.RDG_HOPLIM_HOPS == 0) = false →
    ∃ t, exec (.raccCmd write count) s = .next t ∧ t.on F.RDG_RACC_STATUS_BUSY = true ∧ t.on F.RDG_RACC_STATUS_DONE =
      false ∧ t.b.rdg.mailbox = some { tag := s.b.rdg.tag, write := write } ∧ t.b.rdg.tag = (s.b.rdg.tag + 1) % 256) ∧
  (∀ (count : Fin 16) (s : State),
    Live s → s.on F.RDG_RACC_STATUS_BUSY = false → s.get F.RDG_RACC_TMO_US ≠ 0 → 1 ≤ count.val → count.val ≤ 8 → s.get
      F.RDG_RACC_DEST_ADDR = 0xFFF → (s.on F.RDG_CTRL_ENABLE && s.get F.RDG_HOPLIM_HOPS == 0) = false →
    ∃ t, exec (.raccCmd true count) s = .next t ∧ t.on F.RDG_RACC_STATUS_BUSY = true ∧ t.on F.RDG_RACC_STATUS_DONE =
      false ∧ t.b.rdg.mailbox = some { tag := s.b.rdg.tag, write := true, bcast := true }) ∧
  (∀ (write : Bool) (count : Fin 16) (s : State),
    Live s → s.on F.RDG_RACC_STATUS_BUSY = false → s.get F.RDG_RACC_TMO_US ≠ 0 → 8 < count.val →
    ∃ t, exec (.raccCmd write count) s = .next t ∧ t = applyAll s (raccDone 9)) ∧
  (∀ (n : Fin 8) (f : Frame) (s : State),
    Live s → ringCarries s n = true → f.dest = s.get F.RDG_ADDR_ADDR → f.cls = 3 → f.type = 0x31 → f.data.length ≤ 17 →
      f.hops ≠ 0 → f.crcOk = true → raccMatches s false f = true →
    ∃ t, exec (.readResponse n f) s = .next t ∧ t.on F.RDG_RACC_STATUS_BUSY = false ∧ t.on F.RDG_RACC_STATUS_DONE = true
      ∧ t.get F.RDG_RACC_STATUS_ERR = accessErr f ∧ t.b.rdg.mailbox = none) ∧
  (∀ (n : Fin 8) (f : Frame) (k : Fin 8) (s : State),
    Live s → ringCarries s n = true → f.dest = s.get F.RDG_ADDR_ADDR → f.cls = 3 → f.type = 0x31 → f.data.length ≤ 17 →
      f.hops ≠ 0 → f.crcOk = true → raccMatches s false f = true → k.val < accessCount f →
    ∃ t, exec (.readResponse n f) s = .next t ∧ t.get (F.RDG_RACC_DATA_DATA k) = (blockWords f.data 8).getD k 0 % 2 ^ 32) ∧
  (∀ (n : Fin 8) (f : Frame) (s : State),
    Live s → ringCarries s n = true → f.dest = s.get F.RDG_ADDR_ADDR → f.cls = 3 → f.type = 0x33 → f.data.length ≤ 17 →
      f.hops ≠ 0 → f.crcOk = true → raccMatches s true f = true →
    ∃ t, exec (.writeResponse n f) s = .next t ∧ t = applyAll s (raccDone (accessErr f))) ∧
  (∀ (s : State),
    Live s → s.on F.RDG_RACC_STATUS_BUSY = true →
    ∃ t, exec .raccTimeout s = .next t ∧ t = applyAll s (raccDone 1)) ∧
  (∀ (queue : Fin 32) (count : Fin 2048) (s : State),
    Live s → s.on F.RDG_BULK_STATUS_BUSY = false → s.get F.RDG_RACC_TMO_US ≠ 0 → 1 ≤ count.val → count.val ≤ 1024 →
      s.get F.RDG_RACC_DEST_ADDR ≠ 0xFFF → (s.on F.RDG_CTRL_ENABLE && s.get F.RDG_HOPLIM_HOPS == 0) = false →
    ∃ t, exec (.bulkCmd queue count) s = .next t ∧ t.on F.RDG_BULK_STATUS_BUSY = true ∧ t.b.rdg.bulk = some
      { tag := s.b.rdg.tag, queue := queue, left := count }) ∧
  (∀ (queue : Fin 32) (count : Fin 2048) (s : State),
    Live s → s.on F.RDG_BULK_STATUS_BUSY = false → s.get F.RDG_RACC_TMO_US ≠ 0 → 1024 < count.val →
    ∃ t, exec (.bulkCmd queue count) s = .next t ∧ t = applyAll s (bulkDone 9)) ∧
  (∀ (n : Fin 8) (f : Frame) (m : Request) (s : State),
    Live s → ringCarries s n = true → f.dest = s.get F.RDG_ADDR_ADDR → f.cls = 4 → f.type = 0x41 → f.data.length ≤ 63 →
      f.hops ≠ 0 → f.crcOk = true → s.b.rdg.bulk = some m → f.src = s.get F.RDG_RACC_DEST_ADDR → frameTag f = m.tag →
      m.left ≤ accessCount f →
    ∃ t, exec (.bulkFragment n f) s = .next t ∧ t.on F.RDG_BULK_STATUS_BUSY = false ∧ t.on F.RDG_BULK_STATUS_DONE = true
      ∧ t.b.rdg.bulk = none) ∧
  (∀ (s : State),
    Live s → s.on F.RDG_BULK_STATUS_BUSY = true →
    ∃ t, exec .bulkTimeout s = .next t ∧ t = applyAll s (bulkDone 1))

/-- A page write takes ENABLE and AUTO, and enabling makes the page's counters wait for the next sample instant. At the
boundary that its counter has reached a running pair adopts the pending registers whose commit lies a coarse tick
back and starts its period; a mid-period update of a pair in mode 0 or 1 with UPD adopts its compare values; an edge
shows its time in CNT and is commanded by the intervals of the period; a dead time that ends turns its output on; a
constant-frequency period that ends at its limit marks MAX_ON and begins the next. A commit takes all five registers
of each pair that is not refused, and BRK refused is marked and recorded without becoming pending; a write in
auto-commit mode commits its register. A source of continuous kind stays asserted, a pulse source does not, a
released pin is not. The AUX window ends. A clear takes a hard latch off a pair that no source holds. TRP_COMMIT
takes the group unless a SAFE field is 3; AUX commits likewise; BRK_SRC takes 0 to 2 and refuses 3; PWX_GEN takes its
groups and all pins follow. Each completes, that is exec answers a next state with the command's own effect, for
every state and operands that meet the hypotheses: pwmCtrlWrite, pairPeriodBoundary, pairMidPeriod, pairEdge,
deadTimeEnd, cftMaxOn, brkCommit, pwmCommit, autoCommitWrite, tripSourceAssert, tripPinRelease, auxWindowEnd,
tripClear, trpCommit, auxCommit, brkSrcWrite, pwxGenWrite. -/
def Obligations.PwmAndTripCommands : Prop :=
  (∀ (n : Fin 3) (v : Word) (s : State),
    Live s →
    ∃ t, exec (.pwmCtrlWrite ⟨n, by omega⟩ v) s = .next t ∧ t.on (F.PWM_CTRL_ENABLE n) = v.toNat.testBit 0 ∧ t.on
      (F.PWM_CTRL_AUTO n) = v.toNat.testBit 1) ∧
  (∀ (v : Word) (s : State),
    Live s →
    ∃ t, exec (.pwmCtrlWrite 3 v) s = .next t ∧ t.on F.PWX_CTRL_ENABLE = v.toNat.testBit 0) ∧
  (∀ (n : Fin 4) (v : Word) (s : State),
    Live s → pageEnabled s n = false → v.toNat.testBit 0 = true →
    ∃ t, exec (.pwmCtrlWrite n v) s = .next t ∧ t.b.pwm.startDue = s.b.pwm.startDue.filter (· != n.val) ++ [n.val]) ∧
  (∀ (p : Fin 49) (s : State),
    Live s → (boundaryAt s p).isSome = true → reached s ((boundaryAt s p).getD 0) = true →
    ∃ t, exec (.pairPeriodBoundary p) s = .next t ∧ t = after (beginPeriod p ((boundaryAt s p).getD 0)) s ∧ (pairOf t
      p).start = (boundaryAt s p).getD 0 ∧ (pairOf t p).pend = clearMask (pairOf s p).pend (adoptMask s p 31
      ((boundaryAt s p).getD 0)) ∧ (pairOf t p).started = (t.cur (F.PAIR_PER_TICKS p) != 0) ∧ t.get (F.PAIR_STAT_CNT
      p) = 0) ∧
  (∀ (p : Fin 49) (s : State),
    Live s → (pairOf s p).started = true → s.curOn (F.PAIR_CFG_UPD p) = true → s.cur (F.PAIR_CFG_MODE p) ≤ 1 → adoptMask
      s p 12 ((pairOf s p).start + s.cur (F.PAIR_PER_TICKS p) * 32) ≠ 0 → inCycle s ((pairOf s p).start + s.cur
      (F.PAIR_PER_TICKS p) * 32) = true →
    ∃ t, exec (.pairMidPeriod p) s = .next t ∧ t.get (F.PAIR_STAT_CNT p) = s.cur (F.PAIR_PER_TICKS p) * 32 / 64 % 2 ^ 16
      ∧ (pairOf t p).pend = clearMask (pairOf s p).pend (adoptMask s p 12 ((pairOf s p).start + s.cur
      (F.PAIR_PER_TICKS p) * 32)) ∧ t.get (F.PAIR_STAT_PEND p) = bit ((pairOf t p).pend != 0)) ∧
  (∀ (p : Fin 49) (time : BitVec 22) (s : State),
    Live s → (pairOf s p).started = true → inCycle s ((pairOf s p).start + time.toNat) = true →
    ∃ t, exec (.pairEdge p time) s = .next t ∧ t.get (F.PAIR_STAT_CNT p) = time.toNat / 64 % 2 ^ 16 ∧ (pairOf t p).geoH
      = (decide ((pairOf s p).hLo ≤ time.toNat) && decide (time.toNat < (pairOf s p).hHi))) ∧
  (∀ (p : Fin 49) (s : State),
    Live s → (pairOf s p).deadH = true → reached s (pairOf s p).deadAtH = true → stillOn s p (pairOf s p).deadAtH true =
      true →
    ∃ t, exec (.deadTimeEnd p true) s = .next t ∧ t = after (atInstant (pairOf s p).deadAtH (thenDo [updPair p fun q =>
      { q with deadH := false, drvH := true }] (drivePair p))) s ∧ (pairOf t p).deadH = false ∧ (pairOf t p).drvH =
      true) ∧
  (∀ (p : Fin 49) (s : State),
    Live s → (pairOf s p).deadL = true → reached s (pairOf s p).deadAtL = true → stillOn s p (pairOf s p).deadAtL false
      = true →
    ∃ t, exec (.deadTimeEnd p false) s = .next t ∧ t = after (atInstant (pairOf s p).deadAtL (thenDo [updPair p fun q =>
      { q with deadL := false, drvL := true }] (drivePair p))) s ∧ (pairOf t p).deadL = false ∧ (pairOf t p).drvL =
      true) ∧
  (∀ (p : Fin 48) (s : State),
    Live s → (pairOf s p).started = true → s.cur (F.PAIR_CFG_MODE p) = 3 → reached s ((pairOf s p).start + max 64
      (appliedA s p + appliedB s p)) = true →
    ∃ t, exec (.cftMaxOn ⟨p, by omega⟩) s = .next t ∧ t = after (beginPeriod p ((pairOf s p).start + max 64 (appliedA s
      p + appliedB s p))) (applyAll s (raiseBit s (F.PWM_MAXON_PAIR (p / 16)) (p % 16) ++ [.sticky
      (F.PWM_STICKY_MAX_ON (p / 16))])) ∧ (pairOf t p).start = (pairOf s p).start + max 64 (appliedA s p + appliedB s
      p) ∧ t.on (F.PWM_STICKY_MAX_ON (p / 16)) = true) ∧
  (∀ (s : State),
    Live s → pairRefused s 48 31 = false →
    ∃ t, exec .brkCommit s = .next t ∧ (pairNow s 48 = false → (pairOf t 48).pend = (pairOf s 48).pend ||| 31) ∧ t.on
      (F.PAIR_STAT_PEND 48) = true ∧ t.pend (F.PAIR_CMPA_C 48) = s.get (F.PAIR_CMPA_C 48)) ∧
  (∀ (s : State),
    Live s → pairRefused s 48 31 = true →
    ∃ t, exec .brkCommit s = .next t ∧ t.on F.PWX_STICKY_CFG_REJECT = true ∧ (pairNow s 48 = false → t = applyAll s
      [.sticky F.PWX_STICKY_CFG_REJECT, .led 0x5007 0 [3, 48], .upd fun b =>
      { b with commitWas := b.commitWas ++ [commitWas (.pair 48 31) ((pairOf s 48).pend, (pairOf s 48).commitAt) (pairTake 31 48 s) s] }])) ∧
  (∀ (n : Fin 3) (k : Fin 16) (s : State),
    Live s → pairRefused s (16 * n + k) 31 = false →
    ∃ t, exec (.pwmCommit n) s = .next t ∧ t = after (inOrder ((List.range 16).map fun k => commitPair 31 (16 * n + k)))
      s ∧ (pairNow s (16 * n + k) = false → (pairOf t (16 * n + k)).pend = (pairOf s (16 * n + k)).pend ||| 31) ∧ t.on
      (F.PAIR_STAT_PEND (16 * n + k)) = true ∧ t.pend (F.PAIR_CMPB_C (16 * n + k)) = s.get (F.PAIR_CMPB_C (16 * n +
      k))) ∧
  (∀ (p : Fin 48) (r : Fin 5) (v : Word) (s : State),
    Live s → s.on (F.PWM_CTRL_AUTO (p / 16)) = true → s.on (F.PAIR_STAT_MPT_OWN p) = false →
    ∃ t, exec (.autoCommitWrite p r v) s = .next t ∧ t = after (inOrder [writeFields (pairBase p + 4 * r) v.toNat,
      onlyIf (fun _ => r.val == 0) (inOrder [drivePair p, guarUpdate]), commitPair (2 ^ r.val) p]) s) ∧
  (∀ (n : Fin 128) (s : State),
    Live s → (80 ≤ n.val ∧ n.val < 96) ∨ 112 ≤ n.val →
    ∃ t, exec (.tripSourceAssert n) s = .next t ∧ t = after (pulseSource n) s ∧ isAsserted t n = true ∧
      t.b.pwm.pulses.contains n.val = true) ∧
  (∀ (n : Fin 80) (s : State),
    Live s → isAsserted s n = false → sourceHolds s n = true → s.on F.BUT_ARB_CTRL_EN = false →
    ∃ t, exec (.tripSourceAssert ⟨n, by omega⟩) s = .next t ∧ isAsserted t n = true) ∧
  (∀ (n : Fin 128) (s : State),
    Live s → sourceHolds s n = false →
    ∃ t, exec (.tripSourceAssert n) s = .next t ∧ t = s) ∧
  (∀ (n : Fin 16) (s : State),
    Live s →
    ∃ t, exec (.tripPinRelease n) s = .next t ∧ isAsserted t n = false) ∧
  (∀ (k : Fin 8) (s : State),
    Live s → s.on (F.AUX_STAT_RUN k) = true → reached s (s.b.pwm.auxTill.getD k 0) = true →
    ∃ t, exec (.auxWindowEnd k) s = .next t ∧ t = after tripEval (applyAll s [.set (F.AUX_STAT_RUN k) 0, .set
      (F.AUX_STAT_REMAIN k) 0, clrBit s F.PWX_STATUS_AUX_RUN k])) ∧
  (∀ (mask : Word) (s : State),
    Live s → s.get F.TRP_LATCH0_PAIR = 1 → mask.toNat = 1 → heldBy s 0 true = none →
    ∃ t, exec (.tripClear 0 mask) s = .next t ∧ t.get F.TRP_LATCH0_PAIR = 0 ∧ t.on F.TRP_STATUS_ANY = (s.get
      F.TRP_LATCH1_PAIR != 0)) ∧
  (∀ (p : Fin 32) (mask : Word) (s : State),
    Live s → (s.get F.TRP_LATCH0_PAIR).testBit p = true → mask.toNat.testBit p = true → heldBy s p true = none →
    ∃ t, exec (.tripClear 0 mask) s = .next t ∧ (t.get F.TRP_LATCH0_PAIR).testBit p = false) ∧
  (∀ (p : Fin 17) (mask : Word) (s : State),
    Live s → (s.get F.TRP_LATCH1_PAIR).testBit p = true → mask.toNat.testBit p = true → heldBy s (p + 32) true = none →
    ∃ t, exec (.tripClear 1 mask) s = .next t ∧ (t.get F.TRP_LATCH1_PAIR).testBit p = false) ∧
  (∀ (s : State),
    Live s → ∀ p : Fin 49, s.get (F.TRP_PMASK_SAFE p) ≠ 3 →
    ∃ t, exec .trpCommit s = .next t ∧ t = after (noted (.page 0x44000 0) fun s => takeGroup .trp 0x44078 0x44800) s ∧
      groupWaits t .trp = true) ∧
  (∀ (p : Fin 49) (s : State),
    Live s → s.get (F.TRP_PMASK_SAFE p) = 3 →
    ∃ t, exec .trpCommit s = .next t ∧ t.on F.TRP_STICKY_CFG_REJECT = true ∧ t.pnd = s.pnd ∧ t.act = s.act ∧ t.b.waiting
      = s.b.waiting) ∧
  (∀ (s : State),
    Live s →
    ∃ t, exec .auxCommit s = .next t ∧ t = after (noted (.page 0x43000 1) fun s => takeGroup .aux 0x43300 0x43340) s ∧
      groupWaits t .aux = true) ∧
  (∀ (v : Word) (s : State),
    Live s → v.toNat % 4 ≠ 3 →
    ∃ t, exec (.brkSrcWrite v) s = .next t ∧ t.get F.PWX_BRK_SRC_SRC = v.toNat % 4) ∧
  (∀ (v : Word) (s : State),
    Live s → v.toNat % 4 = 3 →
    ∃ t, exec (.brkSrcWrite v) s = .next t ∧ t = applyAll s [.sticky F.PWX_STICKY_CFG_REJECT, .led 0x5007 0 [3, 0x44]]) ∧
  (∀ (v : Word) (s : State),
    Live s →
    ∃ t, exec (.pwxGenWrite v) s = .next t ∧ t = after applyAllPins (applyAll s [.set F.PWX_GEN_GRP (schedFix s
      F.PWX_GEN_GRP v.toNat)]) ∧ t.get F.PWX_GEN_GRP = schedFix s F.PWX_GEN_GRP v.toNat % 16)

/-- A write of PMP_CTRL takes its four bits; clearing ENABLE turns a running sequencer OFF, and clearing RUN with
STOP_BRAKE and a BRAKE_MS brakes it. An enabled pump in OFF that is asked to run and whose outputs have been low for
COAST_MS starts an attempt in ALIGN (or RAMP with ALIGN_MS 0); ALIGN ends in RAMP after ALIGN_MS; an open-loop step
that is due goes to the next of the six steps, hands over to RUN with 8 crossings at F_HAND, and fails as START_FAIL
at FMAX after the last retry; a commutation in RUN that is due goes to the next step; a PWM period takes the on-time
of the ramp's duty, and in RUN of the duty delivered, full on from DMAX. STALL and WDOG in RUN after their times
enter FAULT with causes 4 and 6; AUTO_RESTART leaves it for OFF after STALL; the supply monitors set and clear VM_OV
and VM_UV, causes 2 and 8; a bootstrap hold follows its comparator, and one that lasts 1 ms enters FAULT with cause
5. An automatic cause that is over for 10 ms, and CLEAR where nothing persists, leave FAULT for OFF. A commit outside
OFF and FAULT is refused, one that is not refused is taken. BRAKE ends in OFF, and 10 s of RUN clear ATTEMPTS. Each
completes, that is exec answers a next state with the command's own effect, for every state and operands that meet
the hypotheses: pmpCtrlWrite, pumpStart, alignEnd, rampStep, pumpCommutation, pumpPwmPeriod, stall, wdog, vmPumpOv,
vmPumpUv, vmPumpReturn, bootUv, bootHoldTimeout, faultAutoClear, pmpClear, pmpCommit, pumpBrakeEnd, attemptReset. -/
def Obligations.PumpCommands : Prop :=
  (∀ (v : Word) (s : State),
    Live s →
    ∃ t, exec (.pmpCtrlWrite v) s = .next t ∧ t.on F.PMP_CTRL_ENABLE = v.toNat.testBit 0 ∧ t.on F.PMP_CTRL_RUN =
      v.toNat.testBit 1 ∧ t.on F.PMP_CTRL_AUTO_RESTART = v.toNat.testBit 2 ∧ t.on F.PMP_CTRL_STOP_BRAKE =
      v.toNat.testBit 3) ∧
  (∀ (v : Word) (s : State),
    Live s → v.toNat.testBit 0 = false → pmpIn s 3 = true →
    ∃ t, exec (.pmpCtrlWrite v) s = .next t ∧ t.get F.PMP_STATUS_STATE = 0) ∧
  (∀ (v : Word) (s : State),
    Live s → v.toNat.testBit 0 = true → v.toNat.testBit 1 = false → v.toNat.testBit 3 = true → s.cur
      F.PMP_COAST_BRAKE_MS ≠ 0 → (pmpIn s 1 || pmpIn s 2 || pmpIn s 3) = true →
    ∃ t, exec (.pmpCtrlWrite v) s = .next t ∧ t.get F.PMP_STATUS_STATE = 4 ∧ t.b.pmp.brakeAt = s.b.cyc ∧ t.b.pmp.onTime
      = 0) ∧
  (∀ (s : State),
    Live s → s.on F.PMP_CTRL_ENABLE = true → s.on F.PMP_CTRL_RUN = true → pmpIn s 0 = true → s.cur F.PMP_PWM_PER ≠ 0 →
      s.b.pmp.lowAt + usCyc (1000 * s.cur F.PMP_COAST_COAST_MS) ≤ s.b.cyc →
    ∃ t, exec .pumpStart s = .next t ∧ t.get F.PMP_STATUS_STATE = (if s.cur F.PMP_ALIGN_MS = 0 then 2 else 1) ∧ t.get
      F.PMP_ATTEMPTS_N = min (s.get F.PMP_ATTEMPTS_N + 1) (2 ^ F.PMP_ATTEMPTS_N.w - 1) ∧ t.get F.PMP_STATUS_STEP = 0 ∧
      t.get F.PMP_T60_TICKS = 0) ∧
  (∀ (s : State),
    Live s → pmpIn s 1 = true → s.b.pmp.alignAt + usCyc (1000 * s.cur F.PMP_ALIGN_MS) ≤ s.b.cyc →
    ∃ t, exec .alignEnd s = .next t ∧ t.get F.PMP_STATUS_STATE = 2 ∧ t.b.pmp.rampAt = s.b.cyc ∧ t.b.pmp.steps = 0) ∧
  (∀ (s : State),
    Live s → pmpIn s 2 = true → rampDue s = true → s.cur F.PMP_HAND_F_HAND * 156250000 ≤ rampF s → s.b.pmp.seen = true →
      7 ≤ s.b.pmp.steps →
    ∃ t, exec .rampStep s = .next t ∧ t.b.pmp.duty = rampDuty s ∧ t.b.pmp.feedAt = s.b.cyc ∧ t.get F.PMP_STATUS_STATE =
      3 ∧ t.get F.PMP_STATUS_STEP = (s.get F.PMP_STATUS_STEP + 1) % 6) ∧
  (∀ (s : State),
    Live s → pmpIn s 2 = true → rampDue s = true → rampF s < s.cur F.PMP_HAND_F_HAND * 156250000 → rampF s < s.cur
      F.PMP_HAND_FMAX * 156250000 →
    ∃ t, exec .rampStep s = .next t ∧ t.get F.PMP_STATUS_STATE = 2 ∧ t.get F.PMP_STATUS_STEP = (s.get F.PMP_STATUS_STEP
      + 1) % 6 ∧ t.b.pmp.steps = (if s.b.pmp.seen then s.b.pmp.steps + 1 else 0)) ∧
  (∀ (s : State),
    Live s → pmpIn s 2 = true → rampF s < s.cur F.PMP_HAND_F_HAND * 156250000 → s.cur F.PMP_HAND_FMAX * 156250000 ≤
      rampF s → s.cur F.PMP_LIMIT_RETRIES < s.b.pmp.tries →
    ∃ t, exec .rampStep s = .next t ∧ t.get F.PMP_STATUS_STATE = 5 ∧ t.get F.PMP_STATUS_CAUSE = 3 ∧ t.on
      F.PMP_STICKY_START_FAIL = true) ∧
  (∀ (s : State),
    Live s → pmpIn s 3 = true → s.b.pmp.seen = true → (s.b.pmp.zcAt.any fun z => decide (z * 256 + s.cur F.PMP_MOTOR_ADV
      * s.get F.PMP_T60_TICKS ≤ s.b.cyc * 256)) = true →
    ∃ t, exec .pumpCommutation s = .next t ∧ t.get F.PMP_STATUS_STEP = (s.get F.PMP_STATUS_STEP + 1) % 6 ∧ t.b.pmp.seen
      = false ∧ t.b.pmp.commAt = s.b.cyc ∧ t.get F.PMP_STATUS_STATE = 3) ∧
  (∀ (above : Bool) (crossed : BitVec 3) (s : State),
    Live s → pmpIn s 2 = true → s.cur F.PMP_PWM_PER ≠ 0 → (s.b.pmp.periodAt.any fun c => decide (s.b.cyc < c + s.cur
      F.PMP_PWM_PER)) = false →
    ∃ t, exec (.pumpPwmPeriod above crossed) s = .next t ∧ t.b.pmp.duty = rampDuty s ∧ t.b.pmp.onTime = onTimeOf s
      (rampDuty s) ∧ t.b.pmp.full = false ∧ t.b.pmp.limited = false ∧ t.b.pmp.periodAt = some s.b.cyc) ∧
  (∀ (above : Bool) (crossed : BitVec 3) (s : State),
    Live s → pmpIn s 3 = true → s.cur F.PMP_PWM_PER ≠ 0 → s.b.pmp.periodAt = none →
    ∃ t, exec (.pumpPwmPeriod above crossed) s = .next t ∧ t.b.pmp.onTime = (if dMax s ≤ s.b.pmp.duty then s.cur
      F.PMP_PWM_PER * 64 else onTimeOf s s.b.pmp.duty) ∧ t.b.pmp.full = decide (dMax s ≤ s.b.pmp.duty) ∧
      t.b.pmp.crossed = crossed.toNat ∧ t.b.pmp.periodAt = some s.b.cyc) ∧
  (∀ (s : State),
    Live s → runLapse s (max s.b.pmp.runAt (s.b.pmp.zcAt.getD 0)) (s.cur F.PMP_TIMEOUT_STALL_MS) = true → s.on
      F.PMP_CTRL_AUTO_RESTART = false →
    ∃ t, exec .stall s = .next t ∧ t.get F.PMP_STATUS_STATE = 5 ∧ t.get F.PMP_STATUS_CAUSE = 4 ∧ t.on F.PMP_STICKY_STALL
      = true) ∧
  (∀ (s : State),
    Live s → runLapse s (max s.b.pmp.runAt (s.b.pmp.zcAt.getD 0)) (s.cur F.PMP_TIMEOUT_STALL_MS) = true → s.on
      F.PMP_CTRL_AUTO_RESTART = true →
    ∃ t, exec .stall s = .next t ∧ t.get F.PMP_STATUS_STATE = 0 ∧ t.get F.PMP_STATUS_CAUSE = 0 ∧ t.on F.PMP_STICKY_STALL
      = true) ∧
  (∀ (s : State),
    Live s → runLapse s s.b.pmp.feedAt (s.cur F.PMP_TIMEOUT_WDOG_MS) = true →
    ∃ t, exec .wdog s = .next t ∧ t.get F.PMP_STATUS_STATE = 5 ∧ t.get F.PMP_STATUS_CAUSE = 6 ∧ t.on F.PMP_STICKY_WDOG =
      true) ∧
  (∀ (mv : BitVec 17) (s : State),
    PowerLive s → Live s → pmpIn s 5 = false → s.on F.PMP_STATUS_VM_OV = false → s.cur F.PMP_VM_OV_HI * 250 < mv.toNat →
    ∃ t, exec (.vmPumpOv mv) s = .next t ∧ t.on F.PMP_STATUS_VM_OV = true ∧ t.get F.PMP_STATUS_STATE = 5 ∧ t.get
      F.PMP_STATUS_CAUSE = 2 ∧ t.b.pmp.vm = some mv.toNat) ∧
  (∀ (mv : BitVec 17) (s : State),
    PowerLive s → s.on F.PMP_STATUS_VM_OV = true → mv.toNat < s.cur F.PMP_VM_OV_LO * 250 →
    ∃ t, exec (.vmPumpOv mv) s = .next t ∧ t.on F.PMP_STATUS_VM_OV = false ∧ t.get F.PMP_STATUS_STATE = s.get
      F.PMP_STATUS_STATE ∧ t.b.pmp.endAt.getD 0 0 = s.b.cyc) ∧
  (∀ (s : State),
    PowerLive s → Live s → pmpIn s 5 = false → s.on F.PMP_STATUS_VM_UV = false →
    ∃ t, exec .vmPumpUv s = .next t ∧ t.on F.PMP_STATUS_VM_UV = true ∧ t.get F.PMP_STATUS_STATE = 5 ∧ t.get
      F.PMP_STATUS_CAUSE = 8) ∧
  (∀ (s : State),
    PowerLive s →
    ∃ t, exec .vmPumpReturn s = .next t ∧ t.on F.PMP_STATUS_VM_UV = false ∧ t.get F.PMP_STATUS_STATE = s.get
      F.PMP_STATUS_STATE ∧ t.b.pmp.endAt.getD 1 0 = s.b.cyc) ∧
  (∀ (ph : Fin 3) (under : Bool) (s : State),
    PowerLive s → (s.get F.PMP_STATUS_BOOT_HOLD).testBit ph = !under →
    ∃ t, exec (.bootUv ph under) s = .next t ∧ t.get F.PMP_CNT_BOOT_N = (if under then min (s.get F.PMP_CNT_BOOT_N + 1)
      (2 ^ F.PMP_CNT_BOOT_N.w - 1) else s.get F.PMP_CNT_BOOT_N) ∧ (t.get F.PMP_STATUS_BOOT_HOLD).testBit ph = under) ∧
  (∀ (ph : Fin 3) (s : State),
    Live s → (s.get F.PMP_STATUS_BOOT_HOLD).testBit ph = true → s.b.pmp.holdAt.getD ph 0 + usCyc 1000 ≤ s.b.cyc → pmpIn
      s 5 = false →
    ∃ t, exec (.bootHoldTimeout ph) s = .next t ∧ t.get F.PMP_STATUS_STATE = 5 ∧ t.get F.PMP_STATUS_CAUSE = 5) ∧
  (∀ (s : State),
    Live s → pmpIn s 5 = true → s.get F.PMP_STATUS_CAUSE = 2 → s.on F.PMP_STATUS_VM_OV = false → s.b.pmp.endAt.getD 0 0
      + usCyc 10000 ≤ s.b.cyc →
    ∃ t, exec .faultAutoClear s = .next t ∧ t.get F.PMP_STATUS_STATE = 0 ∧ t.get F.PMP_STATUS_CAUSE = 0 ∧ t.b.pmp.oc =
      false) ∧
  (∀ (s : State),
    Live s → pmpIn s 5 = true → pmpOcHigh s = false → [2, 7, 8].any (autoPersists s) = false →
    ∃ t, exec .pmpClear s = .next t ∧ t.get F.PMP_STATUS_STATE = 0 ∧ t.get F.PMP_STATUS_CAUSE = 0 ∧ t.b.pmp.oc = false) ∧
  (∀ (s : State),
    Live s → pmpIn s 5 = true → (pmpOcHigh s || autoPersists s (s.get F.PMP_STATUS_CAUSE)) = true →
    ∃ t, exec .pmpClear s = .next t ∧ t = s.stick F.PMP_STICKY_CLR_REJECT) ∧
  (∀ (s : State),
    Live s → pmpRefused s = none →
    ∃ t, exec .pmpCommit s = .next t ∧ t = after (noted (.page 0x80000 0) fun s => takeGroup .pmp 0x80040 0x80074) s ∧
      groupWaits t .pmp = true) ∧
  (∀ (s : State),
    Live s → pmpIn s 3 = true →
    ∃ t, exec .pmpCommit s = .next t ∧ t.on F.PMP_STICKY_CFG_REJECT = true ∧ t.pnd = s.pnd ∧ t.act = s.act ∧ t.b.waiting
      = s.b.waiting) ∧
  (∀ (s : State),
    Live s → pmpIn s 4 = true → s.b.pmp.brakeAt + usCyc (1000 * s.cur F.PMP_COAST_BRAKE_MS) ≤ s.b.cyc →
    ∃ t, exec .pumpBrakeEnd s = .next t ∧ t.get F.PMP_STATUS_STATE = 0) ∧
  (∀ (s : State),
    Live s → pmpIn s 3 = true → s.b.pmp.runAt + usCyc 10000000 ≤ s.b.cyc →
    ∃ t, exec .attemptReset s = .next t ∧ t = applyAll s [.set F.PMP_ATTEMPTS_N 0, updPmp fun p =>
      { p with tries := 0 }])

/-- At a crossing a continuous comparator, and at a sample INTERVAL coarse ticks after its last a sampled one, decides on
the voltage: HIGH sets above the effective high threshold and clears below it less the hysteresis, LOW sets below LO
and clears above it plus the hysteresis, and outside a test they show in WIN_STAT. A commit takes the group of every
comparator that is not refused. CNT_CLR clears the skip counter. A due self-test begins and keeps the half that its
tie needs; a test that passes ends with FAILCNT 0, one that fails counts in FAILCNT. STFAIL_CLEAR clears the bits of
its mask. A SLEW sequence whose time has passed goes from strong to weak drive and ends; a soft turn-off ends. The
profile group is taken, and the brake group unless RT_HI is below RT_LO. MIN_ON and MIN_OFF end, and a HIGH that
stands then requests the brake; a long brake request is flagged and recorded once. Each completes, that is exec
answers a next state with the command's own effect, for every state and operands that meet the hypotheses:
comparatorCrossing, comparatorSample, cmpCommit, cmpCntClr, selfTest, selfTestEnd, stfailClear, slewPhaseEnd,
softOffEnd, gdpProfileCommit, gdpBrakeCommit, brakeMinTimer, brkLong. -/
def Obligations.ComparatorAndGateCommands : Prop :=
  (∀ (c : Fin 64) (v : BitVec 25) (phase : Fin 64) (s : State),
    Live s → cmpUsable s c = true → (cmpOf s c).testing = false →
    ∃ t, exec (.comparatorCrossing c v phase) s = .next t ∧ (cmpOf t c).volt = v.toNat ∧ (cmpOf t c).high = (if (cmpOf s
      c).high then !decide (v.toNat + hysV s c < s.get (F.WIN_STAT_HEFF c) * codeV) else decide (s.get
      (F.WIN_STAT_HEFF c) * codeV < v.toNat)) ∧ (cmpOf t c).low = (if (cmpOf s c).low then !decide (thrLo s c * codeV
      + hysV s c < v.toNat) else decide (v.toNat < thrLo s c * codeV)) ∧ t.on (F.WIN_STAT_HIGH c) = (cmpOf t c).high ∧
      t.on (F.WIN_STAT_LOW c) = (cmpOf t c).low) ∧
  (∀ (c : Fin 64) (v : BitVec 25) (phase : Fin 64) (s : State),
    Live s → cmpEnabled s c = true → s.cur (F.WIN_CFG_MODE c) = 1 → s.cur (F.WIN_CFG_INTERVAL c) ≠ 0 → (cmpOf s
      c).testing = false → ((cmpOf s c).sampleAt.any fun a => decide (s.b.cyc < a + s.cur (F.WIN_CFG_INTERVAL c))) =
      false →
    ∃ t, exec (.comparatorSample c v phase) s = .next t ∧ (cmpOf t c).sampleAt = some s.b.cyc ∧ (cmpOf t c).high = (if
      (cmpOf s c).high then !decide (v.toNat + hysV s c < s.get (F.WIN_STAT_HEFF c) * codeV) else decide (s.get
      (F.WIN_STAT_HEFF c) * codeV < v.toNat)) ∧ (cmpOf t c).low = (if (cmpOf s c).low then !decide (thrLo s c * codeV
      + hysV s c < v.toNat) else decide (v.toNat < thrLo s c * codeV)) ∧ t.on (F.WIN_STAT_HIGH c) = (cmpOf t c).high ∧
      t.on (F.WIN_STAT_LOW c) = (cmpOf t c).low) ∧
  (∀ (n : Fin 4) (i : Fin 16) (s : State),
    Live s → ∀ j : Fin 16, cmpRefused s (16 * n + j) = false →
    ∃ t, exec (.cmpCommit n) s = .next t ∧ (t.b.waiting.contains (.cmp (16 * n + i))) = true ∧ t.pend (F.WIN_THR_HI (16
      * n + i)) = s.get (F.WIN_THR_HI (16 * n + i)) ∧ t.regs = s.regs) ∧
  (∀ (n : Fin 4) (i : Fin 16) (s : State),
    Live s → cmpRefused s (16 * n + i) = true → (s.b.waiting.contains (.cmp (16 * n + i))) = false →
    ∃ t, exec (.cmpCommit n) s = .next t ∧ t.on (F.CMP_STICKY_CFG_REJECT n) = true ∧ (t.b.waiting.contains (.cmp (16 * n
      + i))) = false ∧ t.pend (F.WIN_THR_HI (16 * n + i)) = s.pend (F.WIN_THR_HI (16 * n + i))) ∧
  (∀ (n : Fin 4) (s : State),
    Live s →
    ∃ t, exec (.cmpCntClr n) s = .next t ∧ t = applyAll s [.set (F.CMP_CNT_SKIP_N n) 0]) ∧
  (∀ (c : Fin 64) (s : State),
    Live s → (cmpOf s c).due = true → (cmpOf s c).testing = false → cmpUsable s c = true → reached s (cmpOf s c).testAt
      = true →
    ∃ t, exec (.selfTest c) s = .next t ∧ t = applyAll s [updCmp c fun q =>
      { q with due := false, testing := true, below := tieBelow s c }]) ∧
  (∀ (c : Fin 64) (s : State),
    Live s → (cmpOf s c).testing = true → reached s ((cmpOf s c).testAt + 640) = true → s.cur (F.WIN_TEST_MODE c) = 1 →
    ∃ t, exec (.selfTestEnd c (!(cmpOf s c).below) (cmpOf s c).below) s = .next t ∧ t.get (F.WIN_STAT_FAILCNT c) = 0 ∧
      (cmpOf t c).testing = false ∧ t.on (F.WIN_STAT_HALF c) = !(cmpOf s c).below) ∧
  (∀ (c : Fin 64) (s : State),
    Live s → (cmpOf s c).testing = true → reached s ((cmpOf s c).testAt + 640) = true → s.cur (F.WIN_TEST_MODE c) = 1 →
    ∃ t, exec (.selfTestEnd c (cmpOf s c).below (!(cmpOf s c).below)) s = .next t ∧ t.get (F.WIN_STAT_FAILCNT c) = min
      (s.get (F.WIN_STAT_FAILCNT c) + 1) 15 ∧ (cmpOf t c).testing = false) ∧
  (∀ (n : Fin 4) (mask : Word) (s : State),
    Live s → s.get (F.CMP_STFAIL_WIN n) < 2 ^ 16 →
    ∃ t, exec (.stfailClear n mask) s = .next t ∧ t.get (F.CMP_STFAIL_WIN n) = clearMask (s.get (F.CMP_STFAIL_WIN n))
      (mask.toNat % 2 ^ 16)) ∧
  (∀ (p : Fin 48) (s : State),
    Live s → (slewOf s p true).phase = 1 → (slewOf s p true).t2 ≠ 0 → reached s (slewOf s p true).till = true →
    ∃ t, exec (.slewPhaseEnd p true) s = .next t ∧ t = applyAll s [updPair p fun a =>
      { a with slewH := ⟨2, (slewOf s p true).t2, (slewOf s p true).till + (slewOf s p true).t2⟩ }]) ∧
  (∀ (p : Fin 48) (s : State),
    Live s → (slewOf s p false).phase = 2 → reached s (slewOf s p false).till = true →
    ∃ t, exec (.slewPhaseEnd p false) s = .next t ∧ t = applyAll s [updPair p fun a => { a with slewL := {} }]) ∧
  (∀ (p : Fin 48) (s : State),
    Live s → (slewOf s p true).phase = 3 → reached s (slewOf s p true).till = true →
    ∃ t, exec (.softOffEnd p true) s = .next t ∧ t = applyAll s [updPair p fun a => { a with slewH := {} }]) ∧
  (∀ (s : State),
    Live s →
    ∃ t, exec .gdpProfileCommit s = .next t ∧ t = after (noted (.page 0x45000 0) fun s => takeGroup .gdpProfile 0x45040
      0x4505C ++ [.take (keyAt 0x45200) (keyAt 0x45280)]) s ∧ groupWaits t .gdpProfile = true) ∧
  (∀ (s : State),
    Live s → s.get F.GDP_BRK_RT_LO ≤ s.get F.GDP_BRK_RT_HI →
    ∃ t, exec .gdpBrakeCommit s = .next t ∧ t = after (noted (.page 0x45000 1) fun s => takeGroup .gdpBrake 0x4505C
      0x45068) s ∧ groupWaits t .gdpBrake = true) ∧
  (∀ (s : State),
    Live s → s.get F.GDP_BRK_RT_HI < s.get F.GDP_BRK_RT_LO →
    ∃ t, exec .gdpBrakeCommit s = .next t ∧ t = after (noted (.page 0x45000 1) fun s => [.sticky
      F.GDP_STICKY_CFG_REJECT, .led 0x5403 0 [4, 0x64]]) s ∧ t.on F.GDP_STICKY_CFG_REJECT = true ∧ t.pnd = s.pnd ∧
      t.b.waiting = s.b.waiting) ∧
  (∀ (s : State),
    Live s → s.b.pwm.brkHeld = true → s.b.pwm.brkTill ≤ s.b.cyc →
    ∃ t, exec .brakeMinTimer s = .next t ∧ t = after brakeEval (applyAll s [updPwm fun w =>
      { w with brkHeld := false }])) ∧
  (∀ (s : State),
    Live s → s.b.pwm.brkHeld = true → s.b.pwm.brkTill ≤ s.b.cyc → s.b.pwm.brkReq = false → s.curOn F.GDP_BRK_CFG_EN =
      true → cmpHigh s (s.cur F.GDP_BRK_CFG_CMP) = true →
    ∃ t, exec .brakeMinTimer s = .next t ∧ t.b.pwm.brkReq = true ∧ t.on F.GDP_STATUS_BRK_REQ = true ∧ t.on
      F.PWX_STATUS_BRK_HW = true ∧ t.get F.GDP_BRK_ON_TIME_US = 0) ∧
  (∀ (s : State),
    Live s → s.b.pwm.brkReq = true → s.cur F.GDP_BRK_CFG_LONG_MS ≠ 0 → s.b.pwm.brkTold = false → s.b.pwm.brkAt + usCyc
      (1000 * s.cur F.GDP_BRK_CFG_LONG_MS) ≤ s.b.cyc →
    ∃ t, exec .brkLong s = .next t ∧ t.on F.GDP_STICKY_BRK_LONG = true ∧ t = applyAll s [.sticky F.GDP_STICKY_BRK_LONG,
      updPwm fun w => { w with brkTold := true }, .led 0x5404 0 [cycUs (s.b.cyc - s.b.pwm.brkAt) / 1000, s.get
      F.GDP_STATUS_RT_SET]])

/-- A release of a channel whose COUNT is 0 ends its held outputs, trip lines and takeover request; a channel whose COUNT
is not 0 keeps them and sets REL_REJECT. SAT_REL ends the saturation action unless a masked flag is still set. A
commit takes the channel group unless a channel's settings are refused, and then nothing becomes pending. Each
completes, that is exec answers a next state with the command's own effect, for every state and operands that meet
the hypotheses: fpmRelease, satRel, fpmCommit. -/
def Obligations.PlausibilityCommands : Prop :=
  (∀ (c : Fin 64) (k : Fin 2) (mask : Word) (s : State),
    Live s → mask.toNat = 2 ^ (c.val % 32) → k.val = c.val / 32 → s.get (F.FPM_CH_HOLD_COUNT c) = 0 →
    ∃ t, exec (.fpmRelease k mask) s = .next t ∧ (fpmOf t c).hold = [] ∧ (fpmOf t c).trips = [] ∧ (fpmOf t c).take =
      false) ∧
  (∀ (c : Fin 64) (k : Fin 2) (mask : Word) (s : State),
    Live s → mask.toNat = 2 ^ (c.val % 32) → k.val = c.val / 32 → s.get (F.FPM_CH_HOLD_COUNT c) ≠ 0 →
    ∃ t, exec (.fpmRelease k mask) s = .next t ∧ fpmOf t c = fpmOf s c ∧ t.on F.FPM_STICKY_REL_REJECT = true) ∧
  (∀ (s : State),
    Live s → satFlags s &&& satMask s = 0 →
    ∃ t, exec .satRel s = .next t ∧ t.b.fpm.satLines = [] ∧ t.b.fpm.satTake = false) ∧
  (∀ (s : State),
    Live s → satFlags s &&& satMask s ≠ 0 →
    ∃ t, exec .satRel s = .next t ∧ t = s.stick F.FPM_STICKY_REL_REJECT) ∧
  (∀ (s : State),
    Live s → ∀ c : Fin 64, fpmRefused s c = false →
    ∃ t, exec .fpmCommit s = .next t ∧ t = after (noted (.page 0x21000 0) fun s => takeGroup .fpm 0x21200 0x21600) s ∧
      groupWaits t .fpm = true) ∧
  (∀ (c : Fin 64) (s : State),
    Live s → fpmRefused s c = true →
    ∃ t, exec .fpmCommit s = .next t ∧ t.on F.FPM_STICKY_CFG_REJECT = true ∧ t.pnd = s.pnd ∧ t.act = s.act ∧ t.b.waiting
      = s.b.waiting)

/-- In a run of a store program the next word, of the opcode and passing the check, leaves the stages, accumulators and
predicates that the opcode's row of R146 to R153 gives, computed from the state before it; its saturations go to the
flags of R120 to R123. NOP only spends its cycles. FLAG 48 to 63 sets the engine's event bit. STS of one element on
KE0 writes the OSLOT with the element's slot word. SHE is without effect on KE0 at run time and sets the exponent on
KE1. EXPECT keeps the words as predictions of its channels. Each completes, that is exec answers a next state with
the command's own effect, for every state and operands that meet the hypotheses: lds, mac, mul, add, sub, neg, abs,
sat, clamp, integ, norm, trig, clk3, park, ipark, cmp, sel, rcp, rsq, nop, flag, sts, she, expect. -/
def Obligations.KeystoneOpcodeCommands : Prop :=
  (∀ (eng : Fin 2) (w : BitVec 64) (s : State),
    Live s → kRuns s eng = true → kNext s eng = w.toNat → (kWord w.toNat).op = 4 → wordErr eng (coreOf s eng).stLen
      w.toNat = 0 → (kWord w.toNat).n ≠ 0 →
    ∃ t, exec (.lds eng w) s = .next t ∧ coreOf t eng = (kUn id s eng (kWord w.toNat)).core) ∧
  (∀ (eng : Fin 2) (w : BitVec 64) (s : State),
    Live s → kRuns s eng = true → kNext s eng = w.toNat → (kWord w.toNat).op = 8 → wordErr eng (coreOf s eng).stLen
      w.toNat = 0 → (kWord w.toNat).n ≠ 0 →
    ∃ t, exec (.mac eng w) s = .next t ∧ coreOf t eng = (kMac s eng (kWord w.toNat) false).core) ∧
  (∀ (eng : Fin 2) (w : BitVec 64) (s : State),
    Live s → kRuns s eng = true → kNext s eng = w.toNat → (kWord w.toNat).op = 9 → wordErr eng (coreOf s eng).stLen
      w.toNat = 0 → (kWord w.toNat).n ≠ 0 →
    ∃ t, exec (.mul eng w) s = .next t ∧ coreOf t eng = (kMac s eng (kWord w.toNat) true).core) ∧
  (∀ (eng : Fin 2) (w : BitVec 64) (s : State),
    Live s → kRuns s eng = true → kNext s eng = w.toNat → (kWord w.toNat).op = 10 → wordErr eng (coreOf s eng).stLen
      w.toNat = 0 → (kWord w.toNat).n ≠ 0 →
    ∃ t, exec (.add eng w) s = .next t ∧ coreOf t eng = (kBin vAdd s eng (kWord w.toNat)).core) ∧
  (∀ (eng : Fin 2) (w : BitVec 64) (s : State),
    Live s → kRuns s eng = true → kNext s eng = w.toNat → (kWord w.toNat).op = 11 → wordErr eng (coreOf s eng).stLen
      w.toNat = 0 → (kWord w.toNat).n ≠ 0 →
    ∃ t, exec (.sub eng w) s = .next t ∧ coreOf t eng = (kBin vSub s eng (kWord w.toNat)).core) ∧
  (∀ (eng : Fin 2) (w : BitVec 64) (s : State),
    Live s → kRuns s eng = true → kNext s eng = w.toNat → (kWord w.toNat).op = 12 → wordErr eng (coreOf s eng).stLen
      w.toNat = 0 → (kWord w.toNat).n ≠ 0 →
    ∃ t, exec (.neg eng w) s = .next t ∧ coreOf t eng = (kUn vNeg s eng (kWord w.toNat)).core) ∧
  (∀ (eng : Fin 2) (w : BitVec 64) (s : State),
    Live s → kRuns s eng = true → kNext s eng = w.toNat → (kWord w.toNat).op = 13 → wordErr eng (coreOf s eng).stLen
      w.toNat = 0 → (kWord w.toNat).n ≠ 0 →
    ∃ t, exec (.abs eng w) s = .next t ∧ coreOf t eng = (kUn (fun v => ((v.1.natAbs : Nat), v.2)) s eng (kWord
      w.toNat)).core) ∧
  (∀ (eng : Fin 2) (w : BitVec 64) (s : State),
    Live s → kRuns s eng = true → kNext s eng = w.toNat → (kWord w.toNat).op = 16 → wordErr eng (coreOf s eng).stLen
      w.toNat = 0 → (kWord w.toNat).n ≠ 0 →
    ∃ t, exec (.sat eng w) s = .next t ∧ coreOf t eng = (kSat s eng (kWord w.toNat)).core) ∧
  (∀ (eng : Fin 2) (w : BitVec 64) (s : State),
    Live s → kRuns s eng = true → kNext s eng = w.toNat → (kWord w.toNat).op = 17 → wordErr eng (coreOf s eng).stLen
      w.toNat = 0 → (kWord w.toNat).n ≠ 0 →
    ∃ t, exec (.clamp eng w) s = .next t ∧ coreOf t eng = (kClamp s eng (kWord w.toNat)).core) ∧
  (∀ (eng : Fin 2) (w : BitVec 64) (s : State),
    Live s → kRuns s eng = true → kNext s eng = w.toNat → (kWord w.toNat).op = 18 → wordErr eng (coreOf s eng).stLen
      w.toNat = 0 → (kWord w.toNat).n ≠ 0 →
    ∃ t, exec (.integ eng w) s = .next t ∧ coreOf t eng = (kInteg s eng (kWord w.toNat)).core) ∧
  (∀ (eng : Fin 2) (w : BitVec 64) (s : State),
    Live s → kRuns s eng = true → kNext s eng = w.toNat → (kWord w.toNat).op = 20 → wordErr eng (coreOf s eng).stLen
      w.toNat = 0 → (kWord w.toNat).n ≠ 0 →
    ∃ t, exec (.norm eng w) s = .next t ∧ coreOf t eng = (kNorm (coreOf s eng) (kWord w.toNat)).core) ∧
  (∀ (eng : Fin 2) (w : BitVec 64) (s : State),
    Live s → kRuns s eng = true → kNext s eng = w.toNat → (kWord w.toNat).op = 24 → wordErr eng (coreOf s eng).stLen
      w.toNat = 0 → (kWord w.toNat).n ≠ 0 →
    ∃ t, exec (.trig eng w) s = .next t ∧ coreOf t eng = (kTrig s eng (kWord w.toNat)).core) ∧
  (∀ (eng : Fin 2) (w : BitVec 64) (s : State),
    Live s → kRuns s eng = true → kNext s eng = w.toNat → (kWord w.toNat).op = 25 → wordErr eng (coreOf s eng).stLen
      w.toNat = 0 → (kWord w.toNat).n ≠ 0 →
    ∃ t, exec (.clk3 eng w) s = .next t ∧ coreOf t eng = (kClk3 s eng (kWord w.toNat)).core) ∧
  (∀ (eng : Fin 2) (w : BitVec 64) (s : State),
    Live s → kRuns s eng = true → kNext s eng = w.toNat → (kWord w.toNat).op = 26 → wordErr eng (coreOf s eng).stLen
      w.toNat = 0 → (kWord w.toNat).n ≠ 0 →
    ∃ t, exec (.park eng w) s = .next t ∧ coreOf t eng = (kPark s eng (kWord w.toNat) false).core) ∧
  (∀ (eng : Fin 2) (w : BitVec 64) (s : State),
    Live s → kRuns s eng = true → kNext s eng = w.toNat → (kWord w.toNat).op = 27 → wordErr eng (coreOf s eng).stLen
      w.toNat = 0 → (kWord w.toNat).n ≠ 0 →
    ∃ t, exec (.ipark eng w) s = .next t ∧ coreOf t eng = (kPark s eng (kWord w.toNat) true).core) ∧
  (∀ (eng : Fin 2) (w : BitVec 64) (s : State),
    Live s → kRuns s eng = true → kNext s eng = w.toNat → (kWord w.toNat).op = 28 → wordErr eng (coreOf s eng).stLen
      w.toNat = 0 → (kWord w.toNat).n ≠ 0 →
    ∃ t, exec (.cmp eng w) s = .next t ∧ coreOf t eng = (kCmp s eng (kWord w.toNat)).core) ∧
  (∀ (eng : Fin 2) (w : BitVec 64) (s : State),
    Live s → kRuns s eng = true → kNext s eng = w.toNat → (kWord w.toNat).op = 29 → wordErr eng (coreOf s eng).stLen
      w.toNat = 0 → (kWord w.toNat).n ≠ 0 →
    ∃ t, exec (.sel eng w) s = .next t ∧ coreOf t eng = (kSel s eng (kWord w.toNat)).core) ∧
  (∀ (eng : Fin 2) (w : BitVec 64) (s : State),
    Live s → kRuns s eng = true → kNext s eng = w.toNat → (kWord w.toNat).op = 32 → wordErr eng (coreOf s eng).stLen
      w.toNat = 0 → (kWord w.toNat).n ≠ 0 →
    ∃ t, exec (.rcp eng w) s = .next t ∧ coreOf t eng = (kRecip s eng (kWord w.toNat) false).core) ∧
  (∀ (eng : Fin 2) (w : BitVec 64) (s : State),
    Live s → kRuns s eng = true → kNext s eng = w.toNat → (kWord w.toNat).op = 33 → wordErr eng (coreOf s eng).stLen
      w.toNat = 0 → (kWord w.toNat).n ≠ 0 →
    ∃ t, exec (.rsq eng w) s = .next t ∧ coreOf t eng = (kRecip s eng (kWord w.toNat) true).core) ∧
  (∀ (eng : Fin 2) (w : BitVec 64) (s : State),
    Live s → kRuns s eng = true → kNext s eng = w.toNat → (kWord w.toNat).op = 0 → wordErr eng (coreOf s eng).stLen
      w.toNat = 0 →
    ∃ t, exec (.nop eng w) s = .next t ∧ t = after (inOrder [kSpend eng (kWord w.toNat), kOn eng]) s) ∧
  (∀ (w : BitVec 64) (s : State),
    Live s → kRuns s 0 = true → kNext s 0 = w.toNat → (kWord w.toNat).op = 2 → wordErr 0 (coreOf s 0).stLen w.toNat = 0
      → (kWord w.toNat).pm = 0 → 48 ≤ (kWord w.toNat).dst →
    ∃ t, exec (.flag 0 w) s = .next t ∧ (t.get F.FPM_KE0_EVT_FLAG).testBit ((kWord w.toNat).dst - 48) = true) ∧
  (∀ (w : BitVec 64) (s : State),
    Live s → kRuns s 1 = true → kNext s 1 = w.toNat → (kWord w.toNat).op = 2 → wordErr 1 (coreOf s 1).stLen w.toNat = 0
      → (kWord w.toNat).pm = 0 → 48 ≤ (kWord w.toNat).dst →
    ∃ t, exec (.flag 1 w) s = .next t ∧ (t.get F.KE1_EVT_FLAG).testBit ((kWord w.toNat).dst - 48) = true) ∧
  (∀ (w : BitVec 64) (s : State),
    Live s → kRuns s 0 = true → kNext s 0 = w.toNat → (kWord w.toNat).op = 5 → wordErr 0 (coreOf s 0).stLen w.toNat = 0
      → (kWord w.toNat).pm = 0 → (kWord w.toNat).n = 1 →
    ∃ t, exec (.sts 0 w) s = .next t ∧ t.get (F.KE0_OSLOT_VAL (opAddr (kWord w.toNat).b % 256)) = slotWord ((coreOf s
      0).el (opAddr (kWord w.toNat).a / 64) (opAddr (kWord w.toNat).a % 64)) ((coreOf s 0).stExp (opAddr (kWord
      w.toNat).a / 64)) % 2 ^ 32) ∧
  (∀ (w : BitVec 64) (s : State),
    Live s → kRuns s 0 = true → kNext s 0 = w.toNat → (kWord w.toNat).op = 21 → wordErr 0 (coreOf s 0).stLen w.toNat = 0
      →
    ∃ t, exec (.she 0 w) s = .next t ∧ t = applyAll s [updKe0 fun e => { e with next := e.next + 1 }]) ∧
  (∀ (w : BitVec 64) (s : State),
    Live s → kRuns s 1 = true → kNext s 1 = w.toNat → (kWord w.toNat).op = 21 → wordErr 1 (coreOf s 1).stLen w.toNat = 0
      → (kWord w.toNat).n ≠ 0 →
    ∃ t, exec (.she 1 w) s = .next t ∧ coreOf t 1 = (kShe (coreOf s 1) (kWord w.toNat)).core) ∧
  (∀ (w : BitVec 64) (s : State),
    Live s → kRuns s 0 = true → kNext s 0 = w.toNat → (kWord w.toNat).op = 36 → wordErr 0 (coreOf s 0).stLen w.toNat = 0
      → (kWord w.toNat).n = 1 → (kWord w.toNat).pm = 0 →
    ∃ t, exec (.expect 0 w) s = .next t ∧ (fpmOf t (kWord w.toNat).dst).fresh = some (slotWord ((coreOf s 0).el (opAddr
      (kWord w.toNat).a / 64) (opAddr (kWord w.toNat).a % 64)) ((coreOf s 0).stExp (opAddr (kWord w.toNat).a / 64))))

/-- A write of KE0_CTRL that sets ENABLE arms KE0 and starts the timer after permission without Buttress and is held
before that; a held enable takes effect after permission, and under Buttress at its aligned instant. KE1_CTRL arms or
stops KE1. CHECK begins a check and CHECK_DONE ends it; a program without error and untouched is then checked at its
start word, one whose word has an uncorrectable error ends with ERR 8 and its address. A program word is written
unless it lies in a checked program in force; a parameter goes to the inactive bank unless a copy runs. Timing and
entry groups are taken when R15, R133 and R160 allow it, and else refused. The swaps become due; a copy ends with
PCOPY clear. RMAX clears. An uncorrectable error in ARMED, RUN or IDLE enters FAULT with its place. The class-0 run
starts, and its outputs are converted to 100 ps units. Each completes, that is exec answers a next state with the
command's own effect, for every state and operands that meet the hypotheses: ke0CtrlWrite, heldEnableRelease,
ke1CtrlWrite, check, checkDone, programWrite, parameterWrite, paramCopyDone, ke0TimingCommit, ke0ParamSwap,
ke1ParamSwap, ke1EntryCommit, rmaxClr, engineFault, ke0Start, outputConversion. -/
def Obligations.KeystoneControlCommands : Prop :=
  (∀ (v : Word) (s : State),
    Live s → v.toNat.testBit 0 = true → s.on F.KE0_CTRL_ENABLE = false → s.on F.SYS_STATUS_PERMIT = false →
    ∃ t, exec (.ke0CtrlWrite v) s = .next t ∧ t.on F.KE0_STATUS_EN_HELD = true ∧ t.b.ke0.held = true ∧ t.on
      F.KE0_CTRL_ENABLE = false ∧ t.get F.KE0_CTRL_COMMIT_PWM = v.toNat / 4 % 8) ∧
  (∀ (v : Word) (s : State),
    Live s → v.toNat.testBit 0 = true → s.on F.KE0_CTRL_ENABLE = false → s.on F.SYS_STATUS_PERMIT = true → s.on
      F.BUT_CTRL_ENABLE = false →
    ∃ t, exec (.ke0CtrlWrite v) s = .next t ∧ t.on F.KE0_CTRL_ENABLE = true ∧ t.b.ke0.timer = true ∧ t.get
      F.KE0_STATUS_STATE = 1) ∧
  (∀ (s : State),
    Live s → s.b.ke0.held = true → s.on F.SYS_STATUS_PERMIT = true → s.on F.BUT_CTRL_ENABLE = false →
    ∃ t, exec .heldEnableRelease s = .next t ∧ t.on F.KE0_CTRL_ENABLE = true ∧ t.on F.KE0_STATUS_EN_HELD = false ∧
      t.b.ke0.timer = true ∧ t.get F.KE0_STATUS_STATE = 1) ∧
  (∀ (s : State),
    Live s → s.b.ke0.held = true → s.on F.SYS_STATUS_PERMIT = true → s.on F.BUT_CTRL_ENABLE = true → alignedAhead s =
      true →
    ∃ t, exec .heldEnableRelease s = .next t ∧ t.on F.KE0_CTRL_ENABLE = true ∧ t.on F.KE0_STATUS_EN_HELD = false ∧
      t.b.ke0.timer = true) ∧
  (∀ (v : Word) (s : State),
    Live s → v.toNat.testBit 0 ≠ s.on F.KE1_CTRL_ENABLE →
    ∃ t, exec (.ke1CtrlWrite v) s = .next t ∧ t.on F.KE1_CTRL_ENABLE = v.toNat.testBit 0 ∧ t.get F.KE1_STATUS_STATE =
      (if v.toNat.testBit 0 then 1 else 0)) ∧
  (∀ (eng : Fin 2) (s : State),
    Live s → s.on (kBusy eng) = false →
    ∃ t, exec (.check eng) s = .next t ∧ t.on (kBusy eng) = true ∧ (checkOf t eng).isSome = true) ∧
  (∀ (eng : Fin 2) (j : CheckJob) (s : State),
    Live s → checkOf s eng = some j → j.dirty = none → (kCheck s eng j.start none).err = 0 →
    ∃ t, exec (.checkDone eng none) s = .next t ∧ t.on (kBusy eng) = false ∧ checkOf t eng = none ∧ checkedAt t eng
      j.start = some ((kCheck s eng j.start none).last, (kCheck s eng j.start none).cycles)) ∧
  (∀ (a : BitVec 12) (j : CheckJob) (s : State),
    Live s → checkOf s 0 = some j → j.dirty = none → (kCheck s 0 j.start (some a.toNat)).err = 8 →
    ∃ t, exec (.checkDone 0 (some a)) s = .next t ∧ t.on F.KE0_STATUS_CHK_BUSY = false ∧ checkOf t 0 = none ∧ t.get
      F.KE0_PSTAT_ERR = 8 ∧ t.get F.KE0_PSTAT_ERR_ADDR = a.toNat) ∧
  (∀ (eng : Fin 2) (k : BitVec 12) (hi : Bool) (v : Word) (s : State),
    Live s → k.toNat < progSize eng → checkOf s eng = none → (checkedOf s eng).any (fun p => within p k.toNat &&
      (inForce s eng).contains p.1) = false →
    ∃ t, exec (.programWrite eng k hi v) s = .next t ∧ t.word (progBase eng + 2 * k.toNat + bit hi) = v.toNat ∧
      checkedOf t eng = (checkedOf s eng).filter (fun p => !within p k.toNat) ∧ t.regs = s.regs) ∧
  (∀ (eng : Fin 2) (k : BitVec 12) (hi : Bool) (v : Word) (s : State),
    Live s → k.toNat < progSize eng → (checkedOf s eng).any (fun p => within p k.toNat && (inForce s eng).contains p.1)
      = true →
    ∃ t, exec (.programWrite eng k hi v) s = .next t ∧ t = s.stick (kProgWrReject eng)) ∧
  (∀ (eng : Fin 2) (i : BitVec 12) (v : Word) (s : State),
    Live s → i.toNat < kParams eng → s.on (kPcopy eng) = false →
    ∃ t, exec (.parameterWrite eng i v) s = .next t ∧ t = s.putWord (bankAddr eng (1 - activeBank s eng) + i.toNat)
      v.toNat) ∧
  (∀ (eng : Fin 2) (i : BitVec 12) (v : Word) (s : State),
    Live s → s.on (kPcopy eng) = true →
    ∃ t, exec (.parameterWrite eng i v) s = .next t ∧ t = s.stick (kParamReject eng)) ∧
  (∀ (eng : Fin 2) (s : State),
    Live s → s.on (kPcopy eng) = true →
    ∃ t, exec (.paramCopyDone eng) s = .next t ∧ t = after (eccCount eng) (applyAll s [.mems (bankAddr eng (1 -
      activeBank s eng)) (s.words (bankAddr eng (activeBank s eng)) (kParams eng)), .set (kPcopy eng) 0]) ∧ t.on
      (kPcopy eng) = false) ∧
  (∀ (l : Nat) (s : State),
    Live s → 800 ≤ s.get F.KE0_PERIOD_TICKS → s.get F.KE0_PERIOD_TICKS ≤ 32768 → 256 ≤ s.get F.KE0_WPHASE_W → s.get
      F.KE0_WPHASE_W ≤ 8000 → selLen s 0 (s.on F.KE0_PROG_SRC) (s.get F.KE0_PROG_ROM_ID) (s.get F.KE0_PROG_START) =
      some l → l + 192 ≤ s.get F.KE0_WPHASE_W → s.get F.KE0_WPHASE_W < 2 * s.get F.KE0_PERIOD_TICKS → slotTooLong
      (schedCommitted s) (slotCommitted s) (s.get F.KE0_PERIOD_TICKS) = false →
    ∃ t, exec .ke0TimingCommit s = .next t ∧ t = after (noted (.page 0x20000 0) fun s => takeGroup .ke0Timing 0x20040
      0x2004C) s ∧ groupWaits t .ke0Timing = true) ∧
  (∀ (s : State),
    Live s → s.get F.KE0_PERIOD_TICKS < 800 →
    ∃ t, exec .ke0TimingCommit s = .next t ∧ t.on F.KE0_STICKY_TIMING_REJECT = true ∧ t.pnd = s.pnd ∧ t.act = s.act ∧
      t.b.waiting = s.b.waiting) ∧
  (∀ (s : State),
    Live s →
    ∃ t, exec .ke0ParamSwap s = .next t ∧ t = (if s.on F.KE0_STATUS_PCOPY then s.stick F.KE0_STICKY_PARAM_REJECT else
      applyAll s [updKe0 fun k => { k with swap := true }])) ∧
  (∀ (s : State),
    Live s →
    ∃ t, exec .ke1ParamSwap s = .next t ∧ t = (if s.on F.KE1_STATUS_PCOPY then s.stick F.KE1_STICKY_PARAM_REJECT else
      applyAll s [updKe1 fun k => { k with swap := true }])) ∧
  (∀ (s : State),
    Live s → ∀ k : Fin 9, s.on (F.KE1_ENTRY_EN k) = false → s.get F.KE1_SCHED_M ≤ 64 → slotTooLong (s.get F.KE1_SCHED_M)
      19 (if groupWaits s .ke0Timing then s.pend F.KE0_PERIOD_TICKS else s.cur F.KE0_PERIOD_TICKS) = false →
    ∃ t, exec .ke1EntryCommit s = .next t ∧ t = after (noted (.page 0x30000 0) fun s => takeGroup .ke1Entry 0x30040
      0x30064 ++ [.take (keyAt 0x30080) (keyAt 0x30084), updKe1 fun e => { e with entPend := 511 }]) s ∧ groupWaits t
      .ke1Entry = true ∧ t.b.ke1.entPend = 511) ∧
  (∀ (s : State),
    Live s → 64 < s.get F.KE1_SCHED_M →
    ∃ t, exec .ke1EntryCommit s = .next t ∧ t = after (noted (.page 0x30000 0) fun _ => [.sticky
      F.KE1_STICKY_PROG_REJECT]) s ∧ t.on F.KE1_STICKY_PROG_REJECT = true ∧ t.pnd = s.pnd ∧ t.b.waiting = s.b.waiting
      ∧ t.b.ke1.entPend = s.b.ke1.entPend) ∧
  (∀ (s : State),
    Live s →
    ∃ t, exec .rmaxClr s = .next t ∧ t = s.put F.KE1_C2_RMAX_N 0) ∧
  (∀ (mem : Fin 4) (addr : BitVec 16) (s : State),
    Live s → 1 ≤ s.get F.KE0_STATUS_STATE → s.get F.KE0_STATUS_STATE ≤ 3 →
    ∃ t, exec (.engineFault 0 mem addr) s = .next t ∧ t.get F.KE0_STATUS_STATE = 4 ∧ t.get F.KE0_FAULT_INFO_MEM =
      mem.val % 2 ^ F.KE0_FAULT_INFO_MEM.w ∧ t.get F.KE0_FAULT_INFO_ADDR = addr.toNat % 2 ^ F.KE0_FAULT_INFO_ADDR.w ∧
      t.on F.KE0_STICKY_FAULT = true) ∧
  (∀ (mem : Fin 4) (addr : BitVec 16) (s : State),
    Live s → 1 ≤ s.get F.KE1_STATUS_STATE → s.get F.KE1_STATUS_STATE ≤ 3 →
    ∃ t, exec (.engineFault 1 mem addr) s = .next t ∧ t.get F.KE1_STATUS_STATE = 4 ∧ t.on F.KE1_STICKY_FAULT = true) ∧
  (∀ (s : State),
    Live s → ke0Run s = true → s.b.ke0.timer = true → s.b.ke0.running = false →
    ∃ t, exec .ke0Start s = .next t ∧ t.b.ke0.running = true ∧ t.b.ke0.satRun = 0 ∧ t.b.ke0.core = s.b.ke0.core.fresh) ∧
  (∀ (s : State),
    Live s → s.b.ke0.timer = true →
    ∃ t, exec .outputConversion s = .next t ∧ t.b.ke0.conv = (List.range 98).map (fun n => (outTicks (s.get
      (F.KE0_OSLOT_VAL n))).1))

/-- A round begins with the enabled inputs, a periodic one when its interval has passed; a scan starts for the next input
of the round once the gap has passed, shows in SCAN_IN and takes its pair; a point whose dwell is over is added to
the curve with its means, and the first or last point may finish the scan; a finished scan stores its best voltage,
counts, and gives its pair back; ABORT ends a scan with SCAN_ABORT, and without one drops the rest of the round.
ISL_CLEAR ends the decision and its trip source when no enabled method indicates. A write of MPT_CTRL takes ENABLE;
the two groups are taken unless a setting is out of range. PC_VALID sets when its conditions have held for LEARN
seconds; an injection pulse begins after REP_MS and ends after ON_MS; a frequency deviation that has lasted T_MS
under injection indicates an island. Each completes, that is exec answers a next state with the command's own effect,
for every state and operands that meet the hypotheses: scanNow, scanRoundStart, scanStart, scanPoint, scanDone,
mptAbort, islClear, mptCtrlWrite, mptScanCommit, mptIslandCommit, pcValid, injectionPulse, activeFrequencyTimer. -/
def Obligations.MaximumPowerAndIslandCommands : Prop :=
  (∀ (s : State),
    Live s → s.on F.MPT_CTRL_ENABLE = true → s.on F.MPT_STATUS_ROUND = false → standsBy s = false → nextPoints s ≠ 0 →
      (s.get F.MPT_SCAN_EN_IN).testBit 0 = true →
    ∃ t, exec .scanNow s = .next t ∧ t.on F.MPT_STATUS_ROUND = true ∧ t.b.mpt.todo = (List.finRange 12).filter fun j =>
      (s.get F.MPT_SCAN_EN_IN).testBit j.val) ∧
  (∀ (s : State),
    Live s → s.get F.MPT_SCAN_ROUND_INTERVAL_S ≠ 0 → (s.b.mpt.roundT.any fun a => decide (a < msTick (1000 * s.get
      F.MPT_SCAN_ROUND_INTERVAL_S))) = false → s.on F.MPT_CTRL_ENABLE = true → s.on F.MPT_STATUS_ROUND = false →
      standsBy s = false → nextPoints s ≠ 0 → (s.get F.MPT_SCAN_EN_IN).testBit 11 = true →
    ∃ t, exec .scanRoundStart s = .next t ∧ t.on F.MPT_STATUS_ROUND = true ∧ t.b.mpt.roundT = some 0 ∧ t.b.mpt.todo =
      (List.finRange 12).filter fun j => (s.get F.MPT_SCAN_EN_IN).testBit j.val) ∧
  (∀ (j : Fin 12) (rest : List (Fin 12)) (s : State),
    Live s → s.b.mpt.todo = j :: rest → s.on F.MPT_STATUS_ROUND = true → atSample s = true → s.b.mpt.scan = none →
      s.b.mpt.giveBack = none → s.get F.GRD_STATUS_STATE = 0 → standsBy s = false → groupWaits s .mptScan = false →
      s.cur F.MPT_SCAN_CFG_POINTS ≠ 0 → (s.b.mpt.gapT.any fun x : Int => decide (x < (2 * msTick (s.get
      F.MPT_SCAN_ROUND_GAP_MS) : Nat))) = false →
    ∃ t, exec .scanStart s = .next t ∧ t.get F.MPT_STATUS_SCAN_IN = j ∧ t.on F.MPT_STATUS_SCANNING = true ∧ t.on
      (F.PAIR_STAT_MPT_OWN (36 + j)) = true ∧ t.b.mpt.scan = some
      { input := j, cfg := forceWord s (pairBase (36 + j)), per := s.cur (F.PAIR_PER_TICKS (36 + j)) } ∧ t.b.mpt.todo
      = rest) ∧
  (∀ (q : Scan) (s : State),
    Live s → s.b.mpt.scan = some q → atSample s = true → q.finished = false → q.dwell = s.cur F.MPT_SCAN_CFG_DWELL →
      q.point + 1 = s.cur F.MPT_SCAN_CFG_POINTS →
    ∃ t, exec .scanPoint s = .next t ∧ t.b.mpt.scan.all (·.finished) = true ∧ t.b.mpt.curve.length =
      s.b.mpt.curve.length + 1 ∧ (t.b.mpt.curve.getLast?.map (·.1)) = some (slotOf 11 (q.sumV / s.cur
      F.MPT_SCAN_CFG_AVG))) ∧
  (∀ (q : Scan) (s : State),
    Live s → s.b.mpt.scan = some q → atSample s = true → q.finished = true → s.b.mpt.curve ≠ [] →
    ∃ t, exec .scanDone s = .next t ∧ t.b.mpt.scan = none ∧ t.b.mpt.giveBack = some q ∧ t.on F.MPT_STATUS_SCANNING =
      false ∧ t.get F.MPT_SCAN_CNT_N = (s.get F.MPT_SCAN_CNT_N + 1) % 2 ^ 32 ∧ t.get F.MPT_CURVE_IN_IN = q.input ∧
      t.get (F.MPT_VGMP_V q.input) = (s.b.mpt.curve.tail.foldl betterPoint (s.b.mpt.curve.headD (0, 0))).1 % 2 ^ 32 ∧
      t.on F.MPT_STICKY_SCAN_DONE = true) ∧
  (∀ (q : Scan) (s : State),
    Live s → s.b.mpt.scan = some q →
    ∃ t, exec .mptAbort s = .next t ∧ t.b.mpt.scan = none ∧ t.b.mpt.giveBack = some q ∧ t.on F.MPT_STATUS_SCANNING =
      false ∧ t.on F.MPT_STICKY_SCAN_ABORT = true ∧ t.get (F.MPT_VGMP_V q.input) = s.get (F.MPT_VGMP_V q.input) ∧
      t.get F.MPT_SCAN_CNT_N = s.get F.MPT_SCAN_CNT_N) ∧
  (∀ (s : State),
    Live s → s.b.mpt.scan = none →
    ∃ t, exec .mptAbort s = .next t ∧ t.b.mpt.todo = [] ∧ t.on F.MPT_STATUS_ROUND = false) ∧
  (∀ (s : State),
    Live s → s.b.mpt.indicating &&& methods s = 0 → s.on F.MPT_STATUS_ISLAND = true →
    ∃ t, exec .islClear s = .next t ∧ t.on F.MPT_STATUS_ISLAND = false ∧ isAsserted t 106 = false ∧ t.get
      F.MPT_ISL_SRC_M = s.get F.MPT_ISL_SRC_M) ∧
  (∀ (s : State),
    Live s → s.b.mpt.indicating &&& methods s ≠ 0 →
    ∃ t, exec .islClear s = .next t ∧ t = s.stick F.MPT_STICKY_ISL_CLR_REJECT) ∧
  (∀ (v : Word) (s : State),
    Live s →
    ∃ t, exec (.mptCtrlWrite v) s = .next t ∧ t.on F.MPT_CTRL_ENABLE = v.toNat.testBit 0) ∧
  (∀ (s : State),
    Live s → scanFault s = none →
    ∃ t, exec .mptScanCommit s = .next t ∧ t = after (noted (.page 0x73000 0) fun s => takeGroup .mptScan 0x73044
      0x73058) s ∧ groupWaits t .mptScan = true) ∧
  (∀ (off : Nat) (s : State),
    Live s → scanFault s = some off →
    ∃ t, exec .mptScanCommit s = .next t ∧ t = after (noted (.page 0x73000 0) fun s => mptReject off) s ∧ t.on
      F.MPT_STICKY_CFG_REJECT = true ∧ t.pnd = s.pnd ∧ t.b.waiting = s.b.waiting) ∧
  (∀ (s : State),
    Live s → islandFault s = none →
    ∃ t, exec .mptIslandCommit s = .next t ∧ t = after (noted (.page 0x73000 1) fun s => takeGroup .mptIsland 0x7305C
      0x7307C) s ∧ groupWaits t .mptIsland = true) ∧
  (∀ (off : Nat) (s : State),
    Live s → islandFault s = some off →
    ∃ t, exec .mptIslandCommit s = .next t ∧ t = after (noted (.page 0x73000 1) fun s => mptReject off) s ∧ t.on
      F.MPT_STICKY_CFG_REJECT = true ∧ t.pnd = s.pnd ∧ t.b.waiting = s.b.waiting) ∧
  (∀ (s : State),
    Live s → s.on F.MPT_CTRL_ENABLE = true → s.on F.MPT_STATUS_PC_VALID = false → pcFails s = none → s.b.mpt.baseSet =
      true → (s.b.mpt.pcT.any fun a => decide (msTick (1000 * s.cur F.MPT_ISL_PC2_LEARN) ≤ a)) = true →
    ∃ t, exec .pcValid s = .next t ∧ t.on F.MPT_STATUS_PC_VALID = true) ∧
  (∀ (s : State),
    Live s → injecting s = true → s.cur F.MPT_ISL_INJ_REP_MS ≠ 0 → s.cur F.MPT_ISL_INJ_ON_MS ≠ 0 → s.cur F.MPT_ISL_AMP_I
      ≠ 0 → (s.b.mpt.pulseT.any fun a => decide (a < msTick (s.cur F.MPT_ISL_INJ_REP_MS))) = false →
    ∃ t, exec (.injectionPulse true) s = .next t ∧ t.b.mpt.pulse = true ∧ t.b.mpt.pulseT = some 0 ∧ t.regs = s.regs) ∧
  (∀ (s : State),
    Live s → s.b.mpt.pulse = true → (s.b.mpt.pulseT.any fun a => decide (msTick (s.cur F.MPT_ISL_INJ_ON_MS) ≤ a)) = true
      →
    ∃ t, exec (.injectionPulse false) s = .next t ∧ t.b.mpt.pulse = false ∧ t.regs = s.regs) ∧
  (∀ (s : State),
    Live s → hertzBeyond (selDeviation s) (s.cur F.MPT_ISL_ACTF_F) = true → injecting s = true → s.curOn
      F.MPT_ISL_CTRL_ACT_EN = true → (s.b.mpt.actfT.any fun a => decide (msTick (s.cur F.MPT_ISL_ACTF_T_MS) ≤ a)) =
      true →
    ∃ t, exec .activeFrequencyTimer s = .next t ∧ t.on F.MPT_STATUS_ISLAND = true ∧ (t.get F.MPT_ISL_SRC_M).testBit 5 =
      true)

/-- The timer of an active entry that has reached its limit trips the device: TRIPPED, trip source 105 is asserted and
the cessation line. Cessation ends in RECOVERY when no cessation entry has been active for RESUME_MS. CLEAR returns a
tripped supervisor to NORMAL and releases source 105 when no entry is active, and is refused otherwise. RELEARN drops
what was learned; after 1 s of held conditions OFS takes the mean difference of the sources. GRD_CTRL takes its bits,
and clearing ENABLE forgets the window and every entry; the nominal registers are written only while ENABLE is clear;
the profile and settings groups are taken unless R195 and R199 refuse them. Each completes, that is exec answers a
next state with the command's own effect, for every state and operands that meet the hypotheses: grdEntryTimer,
cessationResume, grdClear, relearn, timedSourceReturn, grdCtrlWrite, grdNominalWrite, grdProfileCommit,
grdSettingsCommit. -/
def Obligations.RideThroughCommands : Prop :=
  (∀ (k : Fin 64) (s : State),
    Live s → timerDue s k = true → s.get F.GRD_STATUS_STATE ≠ 4 →
    ∃ t, exec (.grdEntryTimer k) s = .next t ∧ t.get F.GRD_STATUS_STATE = 4 ∧ t.on F.GRD_STICKY_TRIP = true ∧ isAsserted
      t 105 = true ∧ t.on F.PWX_STATUS_CESSATION = true) ∧
  (∀ (s : State),
    Live s → s.get F.GRD_STATUS_STATE = 2 → resumeDue s = true →
    ∃ t, exec .cessationResume s = .next t ∧ t.get F.GRD_STATUS_STATE = 3 ∧ t.b.grd.recT = 0 ∧ t.on
      F.PWX_STATUS_CESSATION = false) ∧
  (∀ (s : State),
    Live s → s.b.grd.active = 0 → s.get F.GRD_STATUS_STATE = 4 →
    ∃ t, exec .grdClear s = .next t ∧ t.get F.GRD_STATUS_STATE = 0 ∧ isAsserted t 105 = false ∧ t.on
      F.PWX_STATUS_CESSATION = false) ∧
  (∀ (s : State),
    Live s → s.b.grd.active ≠ 0 →
    ∃ t, exec .grdClear s = .next t ∧ t = s.stick F.GRD_STICKY_CLEAR_REJECT) ∧
  (∀ (s : State),
    Live s →
    exec .relearn s = .next (applyAll s [updGrd fun g => { g with learned := false, learnN := 0 }])) ∧
  (∀ (s : State),
    Live s → timedAllowed s = true → s.on F.GRD_STATUS_SRC_TIMED = false → s.b.grd.learnN ≠ 0 → s.b.grd.learnAt + usCyc
      1000000 ≤ s.b.cyc →
    ∃ t, exec .timedSourceReturn s = .next t ∧ t.b.grd.learned = true ∧ t.b.grd.ofs = meanDiff s ∧ t.get
      F.GRD_SYNC_OFS_OFS = angleSlot (meanDiff s) % 2 ^ 32 ∧ t.get F.GRD_STATUS_SRC_TIMED = s.get
      F.GRD_STATUS_SRC_TIMED) ∧
  (∀ (v : Word) (s : State),
    Live s → v.toNat.testBit 0 = false →
    ∃ t, exec (.grdCtrlWrite v) s = .next t ∧ t.on F.GRD_CTRL_ENABLE = false ∧ t.b.grd.active = 0 ∧ t.b.grd.hist = [] ∧
      t.on F.GRD_STATUS_MEAS_VALID = false ∧ t.get F.GRD_STATUS_STATE = (if s.get F.GRD_STATUS_STATE = 4 then 4 else
      0)) ∧
  (∀ (v : Word) (s : State),
    Live s → v.toNat.testBit 0 = true → s.on F.GRD_FNOM_F60 = true →
    ∃ t, exec (.grdCtrlWrite v) s = .next t ∧ t.on F.GRD_CTRL_ENABLE = true ∧ t.get F.GRD_STATUS_STATE = (if s.on
      F.GRD_CTRL_ENABLE then s.get F.GRD_STATUS_STATE else 0)) ∧
  (∀ (v : Word) (s : State),
    Live s → s.on F.GRD_CTRL_ENABLE = false →
    ∃ t, exec (.grdNominalWrite 0 v) s = .next t ∧ t.get F.GRD_VNOM_V = v.toNat) ∧
  (∀ (k : Fin 3) (v : Word) (s : State),
    Live s → s.on F.GRD_CTRL_ENABLE = true →
    ∃ t, exec (.grdNominalWrite k v) s = .next t ∧ t = applyAll s (grdReject (0x44 + 4 * k))) ∧
  (∀ (s : State),
    Live s → profileFault s = none →
    ∃ t, exec .grdProfileCommit s = .next t ∧ t = after (noted (.page 0x72000 0) fun _ => profileRanges .take ++ [.upd
      fun b =>
      { b with waiting := b.waiting.filter (· != .grdProfile) ++ [.grdProfile], commitNow := .grdProfile :: b.commitNow }])
      s ∧ groupWaits t .grdProfile = true) ∧
  (∀ (off : Nat) (s : State),
    Live s → profileFault s = some off →
    ∃ t, exec .grdProfileCommit s = .next t ∧ t = after (noted (.page 0x72000 0) fun s => grdReject off) s ∧ t.on
      F.GRD_STICKY_CFG_REJECT = true ∧ t.pnd = s.pnd ∧ t.b.waiting = s.b.waiting) ∧
  (∀ (s : State),
    Live s → s.get F.GRD_SYNC_SLEW ≠ 0 →
    ∃ t, exec .grdSettingsCommit s = .next t ∧ t = after (noted (.page 0x72000 1) fun s => takeGroup .grdSettings
      0x72050 0x72068) s ∧ groupWaits t .grdSettings = true) ∧
  (∀ (s : State),
    Live s → s.get F.GRD_SYNC_SLEW = 0 →
    ∃ t, exec .grdSettingsCommit s = .next t ∧ t = after (noted (.page 0x72000 1) fun s => grdReject 0x64) s ∧ t.on
      F.GRD_STICKY_CFG_REJECT = true ∧ t.pnd = s.pnd ∧ t.b.waiting = s.b.waiting)

/-- A frame whose estimates are available brings the estimates of every active set into its registers and RUN follows the
sets asked for. A reference phasor from the reference node that is newer is taken with its three words. A reference
that is 100 ms old clears REF_OK with REF_LOST. PHS_COMMIT takes the group when the rate is one of R325 and no
M-class set is too fast. PHS_CTRL takes ENABLE. The arrival of an active detector's trigger, D + 2 samples after it,
shows the peak and polarity of the stream; a capture whose 767 samples have come is stored and CAPTURING ends; a
partner's record is kept for the segments that name the partner. TWV_COMMIT takes the group unless a detector or
segment is out of range; CNT_CLR clears the three counters. Each completes, that is exec answers a next state with
the command's own effect, for every state and operands that meet the hypotheses: phasorFrame, refPhasor, refLost,
phsCommit, phsCtrlWrite, twArrival, twCaptureDone, twArrivalRecord, twvCommit, twvCntClr. -/
def Obligations.PhasorCommands : Prop :=
  (∀ (sec : BitVec 48) (frame : Fin 256) (sets : BitVec 4) (k : Fin 4) (s : State),
    Live s → sets.toNat.testBit k = true → frame.val < (phsView s sec.toNat).cur F.PHS_RATE_FS → ∀ j : Fin 4,
      sets.toNat.testBit j = true → (phsActive (phsView s sec.toNat)).testBit j = true ∧ setReady (phsView s
      sec.toNat) j (sec.toNat * tuSec + frame.val * tuSec / (phsView s sec.toNat).cur F.PHS_RATE_FS) = true ∧
      (((phsView s sec.toNat).b.phs.sets.getD j none).any fun p => decide ((sec.toNat * tuSec + frame.val * tuSec /
      (phsView s sec.toNat).cur F.PHS_RATE_FS) ≤ p.1)) = false →
    ∃ t, exec (.phasorFrame sec frame sets) s = .next t ∧ t.b.phs.sets.getD k none = some ((sec.toNat * tuSec +
      frame.val * tuSec / (phsView s sec.toNat).cur F.PHS_RATE_FS), (setEstimate (phsView s sec.toNat) k (sec.toNat *
      tuSec + frame.val * tuSec / (phsView s sec.toNat).cur F.PHS_RATE_FS))) ∧ t.get (F.PHS_SET_POSM_M k) =
      (setEstimate (phsView s sec.toNat) k (sec.toNat * tuSec + frame.val * tuSec / (phsView s sec.toNat).cur
      F.PHS_RATE_FS)).mag % 2 ^ 32 ∧ t.get (F.PHS_SET_F_F k) = (setEstimate (phsView s sec.toNat) k (sec.toNat * tuSec
      + frame.val * tuSec / (phsView s sec.toNat).cur F.PHS_RATE_FS)).f % 2 ^ 32 ∧ t.get F.PHS_STATUS_RUN = s.get
      F.PHS_STATUS_RUN) ∧
  (∀ (n : Fin 8) (f : Frame) (s : State),
    Live s → ringCarries s n = true → f.cls = 2 → f.type = 0x21 → f.dest = 0xFFF → f.data.length = 4 → f.hops ≠ 0 →
      f.crcOk = true → f.src = s.cur F.PHS_REF_SRC → s.on F.PHS_CTRL_REF_TX = false → s.b.phs.ref = none →
    ∃ t, exec (.refPhasor n f) s = .next t ∧ t.get (F.PHS_REF_W_W 0) = f.data.getD 0 0 % 2 ^ 32 ∧ t.get (F.PHS_REF_W_W
      2) = f.data.getD 1 0 % 2 ^ 32 ∧ t.b.phs.ref.isSome = true) ∧
  (∀ (s : State),
    Live s → s.on F.PHS_STATUS_REF_OK = true → ((refAge s).any fun a => decide (a < 32768000000000)) = false →
    ∃ t, exec .refLost s = .next t ∧ t.on F.PHS_STATUS_REF_OK = false ∧ t.on F.PHS_STICKY_REF_LOST = true ∧
      t.b.phs.lostAt = some s.b.cyc) ∧
  (∀ (s : State),
    Live s → rateAllowed s (s.get F.PHS_RATE_FS) = true → s.get F.PHS_RATE_FS < 200 →
    ∃ t, exec .phsCommit s = .next t ∧ t = after (noted (.page 0x70000 0) fun s => takeGroup .phs 0x70040 0x70280) s ∧
      groupWaits t .phs = true) ∧
  (∀ (s : State),
    Live s → rateAllowed s (s.get F.PHS_RATE_FS) = false →
    ∃ t, exec .phsCommit s = .next t ∧ t = after (noted (.page 0x70000 0) fun s => phsReject 0x40) s ∧ t.on
      F.PHS_STICKY_CFG_REJECT = true ∧ t.pnd = s.pnd ∧ t.b.waiting = s.b.waiting) ∧
  (∀ (v : Word) (s : State),
    Live s → v.toNat.testBit 0 = false →
    ∃ t, exec (.phsCtrlWrite v) s = .next t ∧ t.on F.PHS_CTRL_ENABLE = false ∧ t.get F.PHS_STATUS_ACTIVE = 0 ∧
      t.b.phs.sets = [none, none, none, none]) ∧
  (∀ (v : Word) (s : State),
    Live s → v.toNat.testBit 0 = true →
    ∃ t, exec (.phsCtrlWrite v) s = .next t ∧ t.on F.PHS_CTRL_ENABLE = true) ∧
  (∀ (det : Fin 8) (peak : BitVec 16) (neg gap : Bool) (g : TwTrigger) (s : State),
    Live s → (s.get F.TWV_STATUS_ACTIVE).testBit det = true → (s.b.twv.trig.getD det []).find? (fun q => !q.told &&
      q.after == g.after) = some g → s.cur (F.TWV_DET_CFG_D det) + 2 ≤ g.after → peak.toNat = (topOf s det
      g.after).natAbs → neg = decide (topOf s det g.after < 0) → gap = gapBefore s det g.after →
    ∃ t, exec (.twArrival det peak neg g.after gap) s = .next t ∧ t.get (F.TWV_DET_LAST_PEAK det) = (topOf s det
      g.after).natAbs ∧ t.on (F.TWV_DET_LAST_POL det) = decide (topOf s det g.after < 0) ∧ t.on F.TWV_STICKY_ARRIVAL =
      true ∧ t.b.twv.trig.getD det [] = twDone g { g with told := true } (s.b.twv.trig.getD det [])) ∧
  (∀ (det : Fin 8) (codes : List (BitVec 16)) (g : TwTrigger) (s : State),
    Live s → (s.b.twv.trig.getD det []).find? (fun q => q.stored && q.after == g.after) = some g → 767 ≤ g.after →
    ∃ t, exec (.twCaptureDone det codes (gapsOf s det g.after) g.after) s = .next t ∧ (t.get
      F.TWV_STATUS_CAPTURING).testBit det = false ∧ t.b.twv.trig.getD det [] = twDone g { g with stored := false }
      (s.b.twv.trig.getD det []) ∧ t.b.twv.hist = s.b.twv.hist) ∧
  (∀ (n : Fin 8) (f : Frame) (s : State),
    Live s → ringCarries s n = true → f.cls = 2 → f.type = 0x22 → f.dest = s.get F.RDG_ADDR_ADDR → f.data.length = 3 →
      f.hops ≠ 0 → f.crcOk = true → s.b.twv.mine = [] →
    ∃ t, exec (.twArrivalRecord n f) s = .next t ∧ t.b.twv.theirs.length = s.b.twv.theirs.length + ((List.range
      8).filter fun k => s.curOn (F.TWV_SEG_CFG_EN k) && s.cur (F.TWV_SEG_PART_ADDR k) == f.src && s.cur
      (F.TWV_SEG_CFG_SEG_ID k) == f.data.getD 0 0 % 2 ^ 32 / 2 ^ 16).length) ∧
  (∀ (s : State),
    Live s → twvFault s = none →
    ∃ t, exec .twvCommit s = .next t ∧ t = after (noted (.page 0x71000 0) fun s => takeGroup .twv 0x71200 0x71380) s ∧
      groupWaits t .twv = true) ∧
  (∀ (off : Nat) (s : State),
    Live s → twvFault s = some off →
    ∃ t, exec .twvCommit s = .next t ∧ t = after (noted (.page 0x71000 0) fun s => [.sticky F.TWV_STICKY_CFG_REJECT,
      .led 0x7044 0 [off, 0]]) s ∧ t.on F.TWV_STICKY_CFG_REJECT = true ∧ t.pnd = s.pnd ∧ t.b.waiting = s.b.waiting) ∧
  (∀ (s : State),
    Live s →
    ∃ t, exec .twvCntClr s = .next t ∧ t = applyAll s [.set F.TWV_CNT_GAP_N 0, .set F.TWV_CNT_CAPDROP_N 0, .set
      F.TWV_CNT_PAIRSKIP_N 0])

/-- A result of a converter's oldest sample, 512 ns after it, shows its corrected code and clip in FAD_RAW, and an
internal one in FAD_FC_INT, and leaves the pipe. An urgent line of a converter that holds none waits for its instant;
at it the converter samples for the line and counts, or places the sample in the second slot after a trigger. A
commit waits for the trigger; CNT_CLR clears the three counters. A visit that is due at a sample instant starts in
CHECK; after its time means of GND and CAL_P within their limits lead on, means outside stop the rotation with FCS
suspect; 1,024 valid pairs end an overlap and a mismatch marks its converter; a calibration within its limits goes to
OVL2, one outside marks the converter and parks. RESUME, UNPARK, CLR_FCS and PARK act in their states; RESUME is
refused in others. Clearing ENABLE outside PARKED ends the visit. A commit is taken, and refused with a setting out
of range. Each completes, that is exec answers a next state with the command's own effect, for every state and
operands that meet the hypotheses: fadResult, urgentRequest, urgentStart, fadCommit, fadCntClr, facVisitStart,
fcsCheckDone, ovlDone, ovlMismatch, calDone, facResume, facUnpark, clrFcs, facPark, facEnableWrite, facCommit. -/
def Obligations.FastConverterCommands : Prop :=
  (∀ (k : Fin 16) (input : Fin 8) (nv other : Int) (ago : Nat) (q : Sample) (s : State),
    Live s → s.on F.FAD_CTRL_ENABLE = true → s.b.ke0.timer = true → (convOf s k).pipe.head? = some q → q.at' + ago =
      s.b.cyc → 80 ≤ ago → q.input = input → q.input < 4 → q.kind = 0 →
    ∃ t, exec (.fadResult ⟨k.val, by omega⟩ input 0 nv other ago) s = .next t ∧ t.get (F.FAD_RAW_CODE (4 * k + q.input))
      = unsignedOf 16 (corrected s q.phys (clampInt (-32768) 32767 (rawCode nv))) % 2 ^ 16 ∧ (t.on (F.FAD_RAW_CLIP (4
      * k + q.input)) = decide (rawCode nv < -32768 ∨ 32767 < rawCode nv)) ∧ t.on (F.FAD_RAW_LATE (4 * k + q.input)) =
      false ∧ (convOf t k).pipe = (convOf s k).pipe.tail) ∧
  (∀ (k : Fin 16) (input : Fin 8) (nv other : Int) (ago : Nat) (q : Sample) (s : State),
    Live s → s.on F.FAD_CTRL_ENABLE = true → s.b.ke0.timer = true → (convOf s k).pipe.head? = some q → q.at' + ago =
      s.b.cyc → 80 ≤ ago → q.input = input → 4 ≤ q.input → q.kind = 0 → q.line = none →
    ∃ t, exec (.fadResult ⟨k.val, by omega⟩ input 0 nv other ago) s = .next t ∧ t.get (F.FAD_FC_INT_CODE k (q.input -
      4)) = unsignedOf 16 (corrected s q.phys (clampInt (-32768) 32767 (rawCode nv))) % 2 ^ 16 ∧ t.get
      (F.KE0_ISLOT_VAL 0) = s.get (F.KE0_ISLOT_VAL 0) ∧ (convOf t k).pipe = (convOf s k).pipe.tail) ∧
  (∀ (input : Fin 8) (nv other : Int) (ago : Nat) (s : State),
    Live s → s.on F.FAD_CTRL_ENABLE = true → s.b.ke0.timer = true → 80 ≤ ago → 4 ≤ input.val → fcsConverts s input =
      true → phaseLasted s ago = true →
    ∃ t, exec (.fadResult 16 input 0 nv other ago) s = .next t ∧ t.get (F.FAD_FC_INT_CODE 16 (input - 4)) = unsignedOf
      16 (corrected s 16 (clampInt (-32768) 32767 (rawCode nv))) % 2 ^ 16) ∧
  (∀ (k : Fin 16) (input : Fin 8) (nv other : Int) (ago : Nat) (q : Sample) (s : State),
    Live s → s.on F.FAD_CTRL_ENABLE = true → s.b.ke0.timer = true → (convOf s k).pipe.head? = some q → q.at' + ago =
      s.b.cyc → 80 ≤ ago → q.input = input → q.kind = 0 → q.pair = true → overlaps s k = true → s.b.fac.pairs < 1024 →
      s.b.fac.row < 8 →
    ∃ t, exec (.fadResult ⟨k.val, by omega⟩ input 0 nv other ago) s = .next t ∧ t.b.fac.pairs = s.b.fac.pairs + 1 ∧
      t.b.fac.diff = ((corrected s q.phys (clampInt (-32768) 32767 (rawCode nv))) - partnerCode s q other).natAbs ∧
      t.b.fac.worst = max s.b.fac.worst ((corrected s q.phys (clampInt (-32768) 32767 (rawCode nv))) - partnerCode s q
      other).natAbs ∧ t.b.fac.row = (if s.cur F.FAC_CFG_OVL_THR < ((corrected s q.phys (clampInt (-32768) 32767
      (rawCode nv))) - partnerCode s q other).natAbs then s.b.fac.row + 1 else 0)) ∧
  (∀ (u : Fin 32) (s : State),
    Live s → (s.curOn (F.FAD_URG_CFG_FLAG_EN u) || s.curOn (F.FAD_URG_CFG_TRIP_EN u)) = true → s.curOn (F.FAD_URG_CFG_EN
      u) = true → s.on F.FAD_CTRL_ENABLE = true → s.b.ke0.timer = true → s.cur (F.FAD_URG_CFG_FC u) < 16 → urgHeld s
      (s.cur (F.FAD_URG_CFG_FC u)) = false →
    ∃ t, exec (.urgentRequest u) s = .next t ∧ (convOf t (s.cur (F.FAD_URG_CFG_FC u))).urg = some
      { line := u, raised := s.b.cyc, due := s.b.cyc + 1 + bit (decide (s.b.pwm.fine ≠ 0)) } ∧ t.get
      F.FAD_CNT_URG_DROP_N = s.get F.FAD_CNT_URG_DROP_N) ∧
  (∀ (k : Fin 16) (u : Urgent) (s : State),
    Live s → (convOf s k).urg = some u → u.placed = false → u.counted = false → u.due ≤ s.b.cyc → (s.b.fad.trigAt.any
      fun a => decide (s.b.cyc < a + 16)) = false →
    ∃ t, exec (.urgentStart k) s = .next t ∧ (convOf t k).urg = none ∧ (convOf t k).cur = some
      { input := s.cur (F.FAD_URG_CFG_INPUT u.line), at' := s.b.cyc, kind := 1, scan := false, phys := carrier s k, line := some u.line, pair := overlaps s k }
      ∧ t.get F.FAD_CNT_URG_N = min (s.get F.FAD_CNT_URG_N + 1) (2 ^ 32 - 1)) ∧
  (∀ (k : Fin 16) (u : Urgent) (s : State),
    Live s → (convOf s k).urg = some u → u.placed = false → u.due ≤ s.b.cyc → (s.b.fad.trigAt.any fun a => decide
      (s.b.cyc < a + 16)) = true →
    ∃ t, exec (.urgentStart k) s = .next t ∧ (convOf t k).urg = some { u with placed := true } ∧ (convOf t k).todo.head?
      = some (s.cur (F.FAD_URG_CFG_INPUT u.line), 1, false) ∧ some (convOf t k).next = s.b.fad.trigAt.map (· + 16)) ∧
  (∀ (s : State),
    Live s →
    ∃ t, exec .fadCommit s = .next t ∧ t = after (noted (.page 0x54000 0) fun s => takeGroup .fad 0x54200 0x54600) s ∧
      groupWaits t .fad = true) ∧
  (∀ (s : State),
    Live s →
    ∃ t, exec .fadCntClr s = .next t ∧ t = applyAll s [.set F.FAD_CNT_URG_N 0, .set F.FAD_CNT_URG_DROP_N 0, .set
      F.FAD_CNT_DROP_N 0]) ∧
  (∀ (s : State),
    Live s → s.on F.FAC_CTRL_ENABLE = true → facIn s 5 = true → s.b.ke0.timer = true → groupWaits s .fac = false → s.cur
      F.FAC_CFG_VISIT_MS ≠ 0 → s.cur F.FAC_ROT_EN_FC ≠ 0 → (facNext s s.b.fac.last).isSome = true → s.b.fad.trigAt =
      some s.b.cyc → (s.b.fac.visitAt.any fun a => decide (s.b.cyc < a + usCyc (1000 * s.cur F.FAC_CFG_VISIT_MS))) =
      false →
    ∃ t, exec .facVisitStart s = .next t ∧ t.get F.FAC_STATUS_STATE = 1 ∧ some (t.get F.FAC_STATUS_VISIT) = (facNext s
      s.b.fac.last).map (· % 32) ∧ t.b.fac.last = facNext s s.b.fac.last) ∧
  (∀ (gnd calP : Int) (s : State),
    Live s → facIn s 1 = true → phaseLasted s 2048 = true → visited s ≠ 16 → (gnd - s.b.fac.gnd).natAbs ≤ s.cur
      F.FAC_FCS_LIM_CODES → (calP - s.b.fac.calP).natAbs ≤ s.cur F.FAC_FCS_LIM_CODES →
    ∃ t, exec (.fcsCheckDone gnd calP) s = .next t ∧ t.get F.FAC_STATUS_STATE = 2 ∧ fcsSuspect t = false) ∧
  (∀ (gnd calP : Int) (s : State),
    Live s → facIn s 1 = true → phaseLasted s 2048 = true → s.cur F.FAC_FCS_LIM_CODES < (gnd - s.b.fac.gnd).natAbs →
    ∃ t, exec (.fcsCheckDone gnd calP) s = .next t ∧ t.get F.FAC_STATUS_STATE = 6 ∧ t.get F.FAC_STATUS_VISIT = 31 ∧
      fcsSuspect t = true ∧ t.on F.FAC_STICKY_FCS_SUSPECT = true) ∧
  (∀ (s : State),
    Live s → facIn s 2 = true → s.b.fac.due = 0 → s.b.fac.pairs = 1024 → s.b.fac.row ≠ 8 →
    ∃ t, exec .ovlDone s = .next t ∧ t.get F.FAC_OVL_LAST_PAIRS = 1024 ∧ t.get F.FAC_OVL_LAST_MAXDIFF = s.b.fac.worst %
      2 ^ 16 ∧ t.b.fac.due = 1 ∧ t.b.fac.dueK = visited s) ∧
  (∀ (s : State),
    Live s → facIn s 4 = true → s.b.fac.due = 0 → s.b.fac.row = 8 → visited s < 16 →
    ∃ t, exec .ovlMismatch s = .next t ∧ (t.get F.FAC_SUSPECT_FC).testBit (visited s) = true ∧ t.on
      F.FAC_STICKY_OVL_MISMATCH = true ∧ t.get F.FAC_OVL_LAST_MAXDIFF = s.b.fac.worst % 2 ^ 16 ∧ t.get
      F.FAC_OVL_LAST_PAIRS = s.b.fac.pairs % 2 ^ 16 ∧ t.get F.FAC_STATUS_STATE = 7) ∧
  (∀ (ofs dev dac skew gnd calP : Int) (s : State),
    Live s → facIn s 3 = true → phaseLasted s (usCyc 29000) = true → visited s ≠ 16 → calFault ofs dev dac skew = none →
    ∃ t, exec (.calDone ofs dev dac skew gnd calP) s = .next t ∧ t.get F.FAC_STATUS_STATE = 4 ∧ t.b.fac.new = (ofs, dev,
      skew)) ∧
  (∀ (ofs dev dac skew gnd calP : Int) (step : Nat) (s : State),
    Live s → facIn s 3 = true → phaseLasted s (usCyc 29000) = true → visited s < 16 → calFault ofs dev dac skew = some
      step →
    ∃ t, exec (.calDone ofs dev dac skew gnd calP) s = .next t ∧ t.get F.FAC_STATUS_STATE = 7 ∧ t.on
      F.FAC_STICKY_CAL_FAIL = true ∧ (t.get F.FAC_SUSPECT_FC).testBit (visited s) = true) ∧
  (∀ (s : State),
    Live s → facIn s 6 = true → fcsSuspect s = false → s.on F.FAC_CTRL_ENABLE = false →
    ∃ t, exec .facResume s = .next t ∧ t.get F.FAC_STATUS_STATE = 0) ∧
  (∀ (s : State),
    Live s → facIn s 6 = true → fcsSuspect s = false → s.on F.FAC_CTRL_ENABLE = true → groupWaits s .fac = false → s.cur
      F.FAC_CFG_VISIT_MS ≠ 0 → s.cur F.FAC_ROT_EN_FC ≠ 0 → (facNext s s.b.fac.last).isSome = true →
    ∃ t, exec .facResume s = .next t ∧ t.get F.FAC_STATUS_STATE = 1 ∧ t.b.fac.last = facNext s s.b.fac.last ∧
      t.b.fac.visitAt = some s.b.cyc) ∧
  (∀ (s : State),
    Live s → facIn s 6 = false →
    ∃ t, exec .facResume s = .next t ∧ t = s.stick F.FAC_STICKY_CMD_REJECT) ∧
  (∀ (s : State),
    Live s → facIn s 7 = true →
    ∃ t, exec .facUnpark s = .next t ∧ t.get F.FAC_STATUS_STATE = 6 ∧ t.b.fac.due = 4) ∧
  (∀ (s : State),
    Live s → facIn s 6 = true →
    ∃ t, exec .clrFcs s = .next t ∧ fcsSuspect t = false) ∧
  (∀ (k : Fin 16) (s : State),
    Live s → facIn s 5 = true → fcsSuspect s = false →
    ∃ t, exec (.facPark ⟨k, by omega⟩) s = .next t ∧ t.get F.FAC_STATUS_STATE = 7 ∧ t.b.fac.due = 3 ∧ t.b.fac.dueK =
      k.val) ∧
  (∀ (v : Word) (s : State),
    Live s → s.on F.FAC_CTRL_ENABLE = true → v.toNat.testBit 0 = false → facIn s 7 = false →
    ∃ t, exec (.facEnableWrite v) s = .next t ∧ t.on F.FAC_CTRL_ENABLE = false ∧ t.get F.FAC_STATUS_STATE = 0) ∧
  (∀ (v : Word) (s : State),
    Live s → v.toNat.testBit 0 = true →
    ∃ t, exec (.facEnableWrite v) s = .next t ∧ t.on F.FAC_CTRL_ENABLE = true ∧ t.get F.FAC_STATUS_STATE = s.get
      F.FAC_STATUS_STATE) ∧
  (∀ (s : State),
    Live s → s.get F.FAC_CFG_VISIT_MS = 0 ∨ 30 ≤ s.get F.FAC_CFG_VISIT_MS → s.get F.FAC_CFG_OVL_THR ≠ 0 → s.get
      F.FAC_FCS_LIM_CODES ≠ 0 →
    ∃ t, exec .facCommit s = .next t ∧ t = after (noted (.page 0x55000 0) fun s => takeGroup .fac 0x55040 0x5504C) s ∧
      groupWaits t .fac = true) ∧
  (∀ (s : State),
    Live s → (1 ≤ s.get F.FAC_CFG_VISIT_MS ∧ s.get F.FAC_CFG_VISIT_MS ≤ 29) ∨ s.get F.FAC_CFG_OVL_THR = 0 →
    ∃ t, exec .facCommit s = .next t ∧ t = after (noted (.page 0x55000 0) fun s => [.sticky F.FAC_STICKY_CFG_REJECT,
      .led 0x6015 0 [0x44, 0]]) s ∧ t.on F.FAC_STICKY_CFG_REJECT = true)

/-- A sub-interval of running metrology takes its samples and counts among the 256 of the cycle; the cycle end after them
advances CYCLE and holds the values of the cycle. The loss of the metrology clock clears RUN, and its return sets it
as ENABLE has it. A freeze copies the accumulators and counts. A preset waits with its value unless the calibration
page is locked. Unparking ends CHK_PARKED. Reads of the accumulators and of the freeze bank latch their words. A
pulse begins with one pending count less once the output has been low for its time, and ends after its high time. The
measurement and freeze groups are taken; the pulse group unless a setting is out of range; the calibration group
unless it is locked or its table is out of order. An external temperature not written for 10 s is shown as stale. A
second of the watch counts. Each completes, that is exec answers a next state with the command's own effect, for
every state and operands that meet the hypotheses: metrologySubinterval, metrologyCycleEnd, mclkLoss, mclkGap,
freeze, preset, mcxUnpark, accRead, frzRead, pulseStart, pulseEnd, metMeasurementCommit, metPulseCommit,
metFreezeCommit, mtcCommit, textStale, watchTick. -/
def Obligations.MetrologyCommands : Prop :=
  (∀ (nv : List Int) (s : State),
    PowerLive s → metRuns s = true → s.b.met.subs < 256 →
    ∃ t, exec (.metrologySubinterval nv) s = .next t ∧ t.b.met.subs = s.b.met.subs + 1 ∧ t.b.met.subPassed = true ∧
      t.b.met.frozen = false ∧ t.b.met.hist.length = 8) ∧
  (∀ (first last : Nat) (s : State),
    PowerLive s → metRuns s = true → s.b.met.subs = 256 →
    ∃ t, exec (.metrologyCycleEnd first last) s = .next t ∧ t.get F.MET_STATUS_CYCLE = (s.get F.MET_STATUS_CYCLE + 1) %
      256 ∧ t.b.met.vals.isSome = true ∧ t.b.met.subPassed = false ∧ t.b.met.subs = 0) ∧
  (∀ (s : State),
    PowerLive s → s.b.met.mclk = true →
    ∃ t, exec .mclkLoss s = .next t ∧ t.on F.MET_STATUS_RUN = false ∧ t.b.met.mclk = false) ∧
  (∀ (ms : BitVec 32) (s : State),
    PowerLive s → s.b.met.mclk = false → s.b.sys.inReset = false → ms.toNat = cycUs (s.b.cyc - s.b.met.mclkAt) / 1000 ∨
      ms.toNat = (cycUs (s.b.cyc - s.b.met.mclkAt) + 999) / 1000 →
    ∃ t, exec (.mclkGap ms) s = .next t ∧ t.b.met.mclk = true ∧ t.on F.MET_STATUS_RUN = s.on F.MET_CTRL_ENABLE) ∧
  (∀ (s : State),
    dieLinkOk s = true → s.b.met.frozen = false →
    ∃ t, exec .freeze s = .next t ∧ t.b.met.keep.frz = s.b.met.keep.acc ∧ t.b.met.frozen = true ∧ t.get F.MET_FRZ_CNT_N
      = (s.get F.MET_FRZ_CNT_N + 1) % 2 ^ 32 ∧ t.get (F.MET_FRZ_TS_W_W 2) = (stampOf s.b.tim.t).ns) ∧
  (∀ (a : Fin 32) (s : State),
    dieLinkOk s = true → s.on F.MTC_STATUS_LOCKED = false →
    ∃ t, exec (.preset a) s = .next t ∧ t.b.met.presets = s.b.met.presets ++ [(a.val, s.get F.MET_PRESET_LO_A + 2 ^ 32 *
      s.get F.MET_PRESET_HI_A + 2 ^ 64 * s.get F.MET_PRESET_W_W)] ∧ t.b.met.keep = s.b.met.keep) ∧
  (∀ (a : Fin 32) (s : State),
    dieLinkOk s = true → s.on F.MTC_STATUS_LOCKED = true →
    ∃ t, exec (.preset a) s = .next t ∧ t = applyAll s (mtcRefuse 0x5C)) ∧
  (∀ (s : State),
    dieLinkOk s = true → s.on F.MET_STATUS_CHK_PARKED = true →
    ∃ t, exec .mcxUnpark s = .next t ∧ t.on F.MET_STATUS_CHK_PARKED = false ∧ t.b.met.unpark = true ∧ t.b.met.mcx =
      s.b.met.mcx) ∧
  (∀ (a : Fin 32) (s : State),
    dieLinkOk s = true →
    ∃ t, exec (.accRead a) s = .next t ∧ t.get (F.MET_ACC_LO_A a) = s.b.met.keep.acc.getD a 0 % 2 ^ 32 ∧ t.get
      (F.MET_ACC_HI_A a) = s.b.met.keep.acc.getD a 0 / 2 ^ 32 % 2 ^ 32) ∧
  (∀ (a : Fin 32) (s : State),
    dieLinkOk s = true →
    ∃ t, exec (.frzRead a) s = .next t ∧ t.get (F.MET_FRZ_LO_A a) = s.b.met.keep.frz.getD a 0 % 2 ^ 32 ∧ t.get
      (F.MET_FRZ_HI_A a) = s.b.met.keep.frz.getD a 0 / 2 ^ 32 % 2 ^ 32) ∧
  (∀ (p : Fin 4) (s : State),
    PowerLive s → s.get (F.MET_PULSE_PEND_N p) ≠ 0 → s.get (F.MET_PULSE_PEND_N p) < 2 ^ 32 → s.curOn (F.MET_PULSE_CFG_EN
      p) = true → mclkOn s = true → s.b.met.out.getD p false = false → s.b.met.edgeAt.getD p 0 + pulseHigh s p ≤
      s.b.cyc → p.val < 2 ∨ s.on F.BUT_ARB_CTRL_EN = false →
    ∃ t, exec (.pulseStart p) s = .next t ∧ t.get (F.MET_PULSE_PEND_N p) = s.get (F.MET_PULSE_PEND_N p) - 1 ∧
      t.b.met.out.getD p false = true ∧ t.b.met.high.getD p 0 = pulseHigh s p ∧ t.b.met.edgeAt.getD p 0 = s.b.cyc) ∧
  (∀ (p : Fin 4) (s : State),
    PowerLive s → s.b.met.out.getD p false = true → s.b.met.edgeAt.getD p 0 + s.b.met.high.getD p 0 ≤ s.b.cyc →
    ∃ t, exec (.pulseEnd p) s = .next t ∧ t.b.met.out.getD p false = false ∧ t.b.met.edgeAt.getD p 0 = s.b.cyc ∧ t.regs
      = s.regs) ∧
  (∀ (s : State),
    dieLinkOk s = true →
    ∃ t, exec .metMeasurementCommit s = .next t ∧ t = after (noted (.page 0x60000 0) fun s => takeGroup .metMeasure
      0x60040 0x60050) s ∧ groupWaits t .metMeasure = true) ∧
  (∀ (s : State),
    dieLinkOk s = true → ∀ p : Fin 4, s.get (F.MET_PULSE_CFG_IDX p) % 8 ≠ 7 ∧ 10 ≤ s.get (F.MET_PULSE_CFG_WIDTH p) ∧
      s.get (F.MET_PULSE_CFG_WIDTH p) ≤ 80 →
    ∃ t, exec .metPulseCommit s = .next t ∧ t = after (noted (.page 0x60000 1) fun s => takeGroup .metPulse 0x60080
      0x600A0) s ∧ groupWaits t .metPulse = true) ∧
  (∀ (s : State),
    dieLinkOk s = true → s.get (F.MET_PULSE_CFG_IDX 0) % 8 = 7 →
    ∃ t, exec .metPulseCommit s = .next t ∧ t = after (noted (.page 0x60000 1) fun s => metReject 0 0x80) s ∧ t.on
      F.MET_STICKY_CFG_REJECT = true ∧ t.pnd = s.pnd ∧ t.b.waiting = s.b.waiting) ∧
  (∀ (s : State),
    dieLinkOk s = true →
    ∃ t, exec .metFreezeCommit s = .next t ∧ t = after (noted (.page 0x60000 2) fun s => takeGroup .metFreeze 0x60050
      0x6005C) s ∧ groupWaits t .metFreeze = true) ∧
  (∀ (s : State),
    dieLinkOk s = true → s.on F.MTC_STATUS_LOCKED = false → ∀ c : Fin 8, s.get (F.MTC_CAL_TC_N c) ≤ 32 ∧ ascends s c
      (s.get (F.MTC_CAL_TC_N c)) = true →
    ∃ t, exec .mtcCommit s = .next t ∧ t = after (noted (.page 0x61000 0) fun s => takeGroup .mtc 0x61200 0x61800) s ∧
      groupWaits t .mtc = true) ∧
  (∀ (c : Fin 8) (s : State),
    dieLinkOk s = true → s.on F.MTC_STATUS_LOCKED = false → ascends s c (s.get (F.MTC_CAL_TC_N c)) = false →
    ∃ t, exec .mtcCommit s = .next t ∧ t.on F.MTC_STICKY_CFG_REJECT = true ∧ t.pnd = s.pnd ∧ t.act = s.act ∧ t.b.waiting
      = s.b.waiting) ∧
  (∀ (s : State),
    dieLinkOk s = true → s.on F.MTC_STATUS_LOCKED = true →
    ∃ t, exec .mtcCommit s = .next t ∧ t = after (noted (.page 0x61000 0) fun s => mtcRefuse 0x1C) s ∧ t.on
      F.MTC_STICKY_LOCK_REJECT = true ∧ t.pnd = s.pnd) ∧
  (∀ (s : State),
    PowerLive s → s.b.met.textAt + usCyc 10000000 ≤ s.b.cyc →
    ∃ t, exec .textStale s = .next t ∧ t.on F.MTC_STATUS_TEXT_STALE = true ∧ (s.on F.MTC_STATUS_TEXT_STALE = false →
      t.on F.MTC_STICKY_TEXT_STALE = true)) ∧
  (∀ (x y z : BitVec 24) (s : State),
    s.b.met.watch = true →
    ∃ t, exec (.watchTick x y z) s = .next t ∧ t.get F.MET_WATCH_SEC_S = (s.get F.MET_WATCH_SEC_S + 1) % 2 ^ 32 ∧ t.get
      (F.MET_WATCH_AS_AS 0) = (s.get (F.MET_WATCH_AS_AS 0) + (s.b.met.asRem.getD 0 0 + x.toNat) / 10) % 2 ^ 32)

/-- A frame exchanged between two running channels shows the clock of channel 2. A frame that does not come for 1.5 ms,
pins that disagree for longer than DISC, a missed test pulse in two frames running, an overload, VSAFE outside its
window, a readback fault, and a failed dark test each enter FAULT with their cause. An input change is shown in
PAR_PINS at once and taken by its channel after FILT outside the mask. VSAFE back in its window is shown; a normal
readback is remembered; a dark test that is due turns off the next of the four switches, and one that passes ends
after DARK_W. A RESET pulse within its length with a reset due waits for the frame boundary, any other is refused
with RESET_REJECT; a stuck RESET is flagged. INIT ends in STOPPED when both dies left reset together. A commit takes
the group unless R380 refuses it. Each completes, that is exec answers a next state with the command's own effect,
for every state and operands that meet the hypotheses: xcmpFrame, xcmpTimeout, safetyInputChange, discTimeout,
tpsSample, switchOverload, vsafeOut, vsafeReturn, readbackCheck, darkTest, darkTestEnd, resetSafeEdge, resetStuck,
parapetInitDone, parCommit. -/
def Obligations.ParapetCommands : Prop :=
  (∀ (wire : BitVec 19) (len1 len2 khz : BitVec 16) (s : State),
    Live s → PowerLive s →
    ∃ t, exec (.xcmpFrame wire len1 len2 khz) s = .next t ∧ t.get F.PAR_CLK2_KHZ = khz.toNat) ∧
  (∀ (s : State),
    Live s → s.b.par.frameAt + usCyc 1500 ≤ s.b.cyc →
    ∃ t, exec .xcmpTimeout s = .next t ∧ t.get F.PAR_STATUS_STATE = 3 ∧ (t.get F.PAR_FAULT_CAUSE).testBit 4 = true ∧
      t.b.par.good = 0) ∧
  (∀ (pin : Fin 16) (high : Bool) (us : BitVec 16) (s : State),
    Live s → s.b.par.raw1 < 65536 → s.b.par.raw2 < 65536 → 100 * s.cur (F.PAR_SIN_CFG_FILT (pin % 8)) ≤ us.toNat →
      pinMasked s pin = false →
    ∃ t, exec (.safetyInputChange 0 pin (high, us)) s = .next t ∧ (t.get F.PAR_PINS_RAW).testBit pin = high ∧
      t.b.par.filt1.testBit pin = high ∧ t.b.par.filt2 = s.b.par.filt2) ∧
  (∀ (pin : Fin 16) (high : Bool) (us : BitVec 16) (s : State),
    Live s → s.b.par.raw1 < 65536 → s.b.par.raw2 < 65536 → us.toNat < 100 * s.cur (F.PAR_SIN_CFG_FILT (pin % 8)) →
    ∃ t, exec (.safetyInputChange 0 pin (high, us)) s = .next t ∧ (t.get F.PAR_PINS_RAW).testBit pin = high ∧
      t.b.par.filt1 = s.b.par.filt1 ∧ t.get F.PAR_STATUS_STATE = s.get F.PAR_STATUS_STATE) ∧
  (∀ (pin : Fin 16) (high : Bool) (us : BitVec 16) (s : State),
    Live s → s.b.par.raw1 < 65536 → s.b.par.raw2 < 65536 → 100 * (chanView s 1).cur (F.PAR_SIN_CFG_FILT (pin % 8)) ≤
      us.toNat → pinMasked (chanView s 1) pin = false →
    ∃ t, exec (.safetyInputChange 1 pin (high, us)) s = .next t ∧ (t.get F.PAR_PINS_RAW).testBit (16 + pin) = high ∧
      t.b.par.filt2.testBit pin = high ∧ t.b.par.filt1 = s.b.par.filt1) ∧
  (∀ (pin : Fin 16) (high : Bool) (us : BitVec 16) (s : State),
    Live s → s.b.par.raw1 < 65536 → s.b.par.raw2 < 65536 → us.toNat < 100 * (chanView s 1).cur (F.PAR_SIN_CFG_FILT (pin
      % 8)) →
    ∃ t, exec (.safetyInputChange 1 pin (high, us)) s = .next t ∧ (t.get F.PAR_PINS_RAW).testBit (16 + pin) = high ∧
      t.b.par.filt2 = s.b.par.filt2 ∧ t.get F.PAR_STATUS_STATE = s.get F.PAR_STATUS_STATE) ∧
  (∀ (ch : Fin 2) (x : Fin 8) (s : State),
    Live s → discLong s ch x = true →
    ∃ t, exec (.discTimeout x) s = .next t ∧ t.get F.PAR_STATUS_STATE = 3 ∧ (t.get F.PAR_FAULT_CAUSE).testBit 0 = true ∧
      (t.get F.PAR_FAULT_IN).testBit x = true) ∧
  (∀ (x : Fin 8) (s : State),
    Live s → discLong s 0 x = false → discLong s 1 x = false →
    ∃ t, exec (.discTimeout x) s = .next t ∧ t = s) ∧
  (∀ (ch : Fin 2) (pin : Fin 16) (k : Nat) (s : State),
    Live s → PowerLive s → pinTps (chanView s ch) pin = true → tpsStart (chanView s ch) pin + usCyc 500 ≤ tpsPhase s →
      s.b.par.tpsAt.getD (16 * ch + pin) none = some k → k + 1 = tpsFrame s → 1 ≤ s.b.par.missed.getD (16 * ch + pin)
      0 →
    ∃ t, exec (.tpsSample ch pin true true true) s = .next t ∧ t.get F.PAR_STATUS_STATE = 3 ∧ (t.get
      F.PAR_FAULT_CAUSE).testBit 1 = true ∧ (t.get F.PAR_FAULT_IN).testBit (pin % 8) = true) ∧
  (∀ (ch : Fin 2) (pin : Fin 16) (s : State),
    Live s → PowerLive s → pinTps (chanView s ch) pin = true → tpsStart (chanView s ch) pin + usCyc 500 ≤ tpsPhase s →
      ((s.b.par.tpsAt.getD (16 * ch + pin) none).any fun k => decide (tpsFrame s ≤ k)) = false →
    ∃ t, exec (.tpsSample ch pin true false true) s = .next t ∧ t.b.par.missed.getD (16 * ch + pin) 0 = 0 ∧
      t.b.par.tpsAt.getD (16 * ch + pin) none = some (tpsFrame s) ∧ 1 ≤ t.b.par.seen.getD (16 * ch + pin) 0 ∧ t.get
      F.PAR_STATUS_STATE = s.get F.PAR_STATUS_STATE) ∧
  (∀ (ch : Fin 2) (pin : Fin 16) (k : Nat) (s : State),
    Live s → PowerLive s → pinTps (chanView s ch) pin = true → tpsStart (chanView s ch) pin + usCyc 500 ≤ tpsPhase s →
      s.b.par.tpsAt.getD (16 * ch + pin) none = some k → k + 1 < tpsFrame s →
    ∃ t, exec (.tpsSample ch pin true true true) s = .next t ∧ t.b.par.missed.getD (16 * ch + pin) 0 = 1 ∧ t.get
      F.PAR_STATUS_STATE = s.get F.PAR_STATUS_STATE) ∧
  (∀ (sw : Fin 4) (s : State),
    Live s →
    ∃ t, exec (.switchOverload sw) s = .next t ∧ t.get F.PAR_STATUS_STATE = 3 ∧ (t.get F.PAR_FAULT_CAUSE).testBit 9 =
      true ∧ (t.get F.PAR_FAULT_SW).testBit sw = true) ∧
  (∀ (mv : BitVec 16) (s : State),
    Live s → PowerLive s → vsafeIn mv.toNat = false →
    ∃ t, exec (.vsafeOut mv) s = .next t ∧ t.get F.PAR_STATUS_STATE = 3 ∧ (t.get F.PAR_FAULT_CAUSE).testBit 7 = true ∧
      t.b.par.vsafeOk = false ∧ t.get F.PAR_VSAFE_V = min 1023 (mv.toNat / 100)) ∧
  (∀ (mv : BitVec 16) (s : State),
    PowerLive s → vsafeIn mv.toNat = true →
    ∃ t, exec (.vsafeReturn mv) s = .next t ∧ t.b.par.vsafeOk = true ∧ t.get F.PAR_VSAFE_V = mv.toNat / 100 ∧ t.get
      F.PAR_STATUS_STATE = s.get F.PAR_STATUS_STATE) ∧
  (∀ (ch out : Fin 2) (hs ls vsafe : BitVec 16) (s : State),
    Live s → chanLive s ch = true → darkWindow s = false → (readbackOf (s.on F.PAR_STATUS_OUT_ON) hs.toNat ls.toNat
      vsafe.toNat).1 = 0 →
    ∃ t, exec (.readbackCheck ch out hs ls vsafe) s = .next t ∧ t.b.par.readback.getD (2 * ch + out) none = some 0 ∧
      t.get F.PAR_STATUS_STATE = s.get F.PAR_STATUS_STATE) ∧
  (∀ (ch out : Fin 2) (hs ls vsafe : BitVec 16) (s : State),
    Live s → chanLive s ch = true → darkWindow s = false → (readbackOf (s.on F.PAR_STATUS_OUT_ON) hs.toNat ls.toNat
      vsafe.toNat).1 = 2 →
    ∃ t, exec (.readbackCheck ch out hs ls vsafe) s = .next t ∧ t.get F.PAR_STATUS_STATE = 3 ∧ (t.get
      F.PAR_FAULT_CAUSE).testBit 2 = true) ∧
  (∀ (s : State),
    Live s → parIn s 2 = true → s.b.par.dark = none → s.cur F.PAR_CFG_DARK_S ≠ 0 → darkDue s = true →
    ∃ t, exec .darkTest s = .next t ∧ t.b.par.dark = some s.b.par.darkNext ∧ t.b.par.darkNext = (s.b.par.darkNext + 1) %
      4 ∧ t.b.par.darkAt = s.b.cyc ∧ safeSwitch t s.b.par.darkNext = false ∧ t.regs = s.regs) ∧
  (∀ (level vsafe : BitVec 16) (k : Nat) (s : State),
    Live s → s.b.par.dark = some k → s.b.par.darkAt + usCyc (10 * s.cur F.PAR_CFG_DARK_W) ≤ s.b.cyc → k % 2 = 0 →
      level.toNat < 5000 →
    ∃ t, exec (.darkTestEnd level vsafe) s = .next t ∧ t.b.par.dark = none ∧ t.b.par.darkEndAt = some s.b.cyc ∧ t.get
      F.PAR_STATUS_STATE = s.get F.PAR_STATUS_STATE) ∧
  (∀ (level vsafe : BitVec 16) (k : Nat) (s : State),
    Live s → s.b.par.dark = some k → s.b.par.darkAt + usCyc (10 * s.cur F.PAR_CFG_DARK_W) ≤ s.b.cyc → k < 4 → k % 2 = 0
      → 5000 ≤ level.toNat →
    ∃ t, exec (.darkTestEnd level vsafe) s = .next t ∧ t.get F.PAR_STATUS_STATE = 3 ∧ (t.get F.PAR_FAULT_CAUSE).testBit
      3 = true ∧ (t.get F.PAR_FAULT_SW).testBit k = true) ∧
  (∀ (us1 us2 : Nat) (s : State),
    Live s → resetRefused s us1 us2 = none →
    ∃ t, exec (.resetSafeEdge us1 us2) s = .next t ∧ t.get F.PAR_RESET_LAST_MS = min 65535 (us1 / 1000) ∧ t.on
      F.PAR_STATUS_RESET_HIGH = false ∧ t.b.par.accepted = some (us1 / 1000, s.get F.PAR_STATUS_STATE)) ∧
  (∀ (us1 us2 c : Nat) (s : State),
    Live s → resetRefused s us1 us2 = some c →
    ∃ t, exec (.resetSafeEdge us1 us2) s = .next t ∧ t.on F.PAR_STICKY_RESET_REJECT = true ∧ t.b.par.accepted =
      s.b.par.accepted ∧ t.get F.PAR_STATUS_STATE = s.get F.PAR_STATUS_STATE) ∧
  (∀ (s : State),
    Live s →
    ∃ t, exec .resetStuck s = .next t ∧ t = applyAll s [.set F.PAR_STATUS_RESET_HIGH 1, .sticky
      F.PAR_STICKY_RESET_STUCK, .led 0x9005 0 [0, 0]]) ∧
  (∀ (s : State),
    Live s → PowerLive s → parIn s 0 = true → s.b.par.st2 = 0 → diesTogether s = true →
    ∃ t, exec (.parapetInitDone true) s = .next t ∧ t.get F.PAR_STATUS_STATE = 1 ∧ t.b.par.st2 = 1 ∧ t.on
      F.SYS_STATUS_PAR_INIT_DONE = true) ∧
  (∀ (s : State),
    Live s → PowerLive s → parIn s 0 = true →
    ∃ t, exec (.parapetInitDone false) s = .next t ∧ t.get F.PAR_STATUS_STATE = 3 ∧ (t.get F.PAR_FAULT_CAUSE).testBit 8
      = true) ∧
  (∀ (s : State),
    Live s → parRefused s = none →
    ∃ t, exec .parCommit s = .next t ∧ t = after (noted (.page 0x90000 0) fun s => takeGroup .par 0x90044 0x90220) s ∧
      groupWaits t .par = true) ∧
  (∀ (off : Nat) (s : State),
    Live s → parRefused s = some off →
    ∃ t, exec .parCommit s = .next t ∧ t = after (noted (.page 0x90000 0) fun s => [.sticky F.PAR_STICKY_CFG_REJECT,
      .led 0x9008 0 [off, s.get F.PAR_STATUS_STATE], spend 1]) s ∧ t.on F.PAR_STICKY_CFG_REJECT = true ∧ t.pnd = s.pnd
      ∧ t.b.waiting = s.b.waiting)

/-- A change of ENABLE moves Buttress between OFF and SYNC; a ready device in SYNC becomes STANDBY, a grant in STANDBY
while ready makes a takeover due and is shown, and the takeover makes the device ACTIVE with DRV_EN high. A removed
grant releases the drive and returns an ACTIVE device to STANDBY. REQUEST is shown in STANDBY and refused elsewhere,
expires, and comes from the held revert. Mirror frames of the three sets that pass their check are stored and
acknowledged; an acknowledge of the frame in flight ends its wait, and without one it is sent at most three times
more; a status frame shows the partner's check word; 64 periods without a set are flagged. The arbiter learns codes
from the health pins, forgets a silent device and withdraws its grant, and grants an eligible device. Each completes,
that is exec answers a next state with the command's own effect, for every state and operands that meet the
hypotheses: butCtrlWrite, butReady, arbGrantAccept, butTakeover, arbGrantRemove, butRequest, requestExpire,
revertHold, class0Set, class1Set, hardwareSet, acknowledge, statusFrame, mirrorRetry, mirrorLost, butCommit,
arbHealthEdge, arbHealthTimeout, arbGrantIssue. -/
def Obligations.ButtressCommands : Prop :=
  (∀ (v : Word) (s : State),
    Live s → s.on F.BUT_CTRL_ENABLE = false → v.toNat.testBit 0 = true → butFaults s = 0 →
    ∃ t, exec (.butCtrlWrite v) s = .next t ∧ t.on F.BUT_CTRL_ENABLE = true ∧ t.get F.BUT_STATUS_STATE = 1 ∧ t.on
      F.BUT_CTRL_ROLE = v.toNat.testBit 1 ∧ t.on F.BUT_CTRL_AUTO_REVERT = v.toNat.testBit 2 ∧ t.b.sys.drvEn = false) ∧
  (∀ (v : Word) (s : State),
    Live s → v.toNat.testBit 0 = false → s.on F.BUT_CTRL_ENABLE = true →
    ∃ t, exec (.butCtrlWrite v) s = .next t ∧ t.on F.BUT_CTRL_ENABLE = false ∧ t.get F.BUT_STATUS_STATE = 0 ∧
      t.b.sys.drvEn = s.on F.SYS_STATUS_PERMIT) ∧
  (∀ (s : State),
    Live s → butIn s 1 = true → butFaults s = 0 → butReady (after butFaultUpdate s) = true →
    ∃ t, exec .butReady s = .next t ∧ t.get F.BUT_STATUS_STATE = 2 ∧ t.on F.BUT_STATUS_READY = true) ∧
  (∀ (s : State),
    Live s → s.on F.BUT_CTRL_ENABLE = true → butIn s 2 = true → butReady s = true →
    ∃ t, exec (.arbGrantAccept true) s = .next t ∧ t.on F.BUT_STATUS_GRANT = true ∧ t.b.but.takeoverDue = true ∧
      t.b.but.grantAt = s.b.cyc) ∧
  (∀ (s : State),
    Live s → s.on F.BUT_CTRL_ENABLE = true → butIn s 1 = true →
    ∃ t, exec (.arbGrantAccept true) s = .next t ∧ t.on F.BUT_STATUS_GRANT = true ∧ t.on F.BUT_STICKY_GRANT_NOT_READY =
      true ∧ t.b.but.takeoverDue = s.b.but.takeoverDue) ∧
  (∀ (s : State),
    Live s → s.b.but.takeoverDue = true → butIn s 2 = true → s.on F.BUT_STATUS_GRANT = true → s.b.fad.trigAt = some
      s.b.cyc → s.b.but.grantAt + usCyc 1 ≤ s.b.cyc → butFaults s = 0 → s.b.fpm.satTake = false → (s.b.fpm.ch.any fun
      q => q.take) = false →
    ∃ t, exec .butTakeover s = .next t ∧ t.get F.BUT_STATUS_STATE = 3 ∧ t.b.sys.drvEn = true ∧ t.on
      F.BUT_STICKY_TAKEOVER = true ∧ t.get F.BUT_CNT_TAKEOVER_N = min (s.get F.BUT_CNT_TAKEOVER_N + 1) (2 ^ 32 - 1)) ∧
  (∀ (s : State),
    Live s → butIn s 3 = true → s.on F.BUT_STATUS_MIRROR_LOST = false →
    ∃ t, exec .arbGrantRemove s = .next t ∧ t.on F.BUT_STATUS_GRANT = false ∧ t.b.sys.drvEn = false ∧ t.on
      F.BUT_STICKY_RELEASE = true ∧ t.get F.BUT_STATUS_STATE = (if t.on F.BUT_STATUS_READY then 2 else 1)) ∧
  (∀ (s : State),
    Live s → butIn s 2 = true →
    ∃ t, exec .butRequest s = .next t ∧ t = after butShow (applyAll s [updBut fun b =>
      { b with reqCmd := true, reqAt := s.b.cyc }, .led 0x2807 0 [1, 0]])) ∧
  (∀ (s : State),
    Live s → butIn s 2 = false →
    ∃ t, exec .butRequest s = .next t ∧ t = s.stick F.BUT_STICKY_CMD_REJECT) ∧
  (∀ (s : State),
    Live s → s.b.but.reqCmd = true → s.b.but.reqAt + usCyc 100000 ≤ s.b.cyc →
    ∃ t, exec .requestExpire s = .next t ∧ t.b.but.reqCmd = false) ∧
  (∀ (s : State),
    Live s → s.b.cyc < s.b.but.reqAt + usCyc 100000 →
    exec .requestExpire s = .next (s)) ∧
  (∀ (s : State),
    Live s → butIn s 2 = true → s.on F.BUT_CTRL_ROLE = false → s.on F.BUT_CTRL_AUTO_REVERT = true → butReady s = true →
      s.on F.BUT_STATUS_READY = true → s.b.but.readyAt + usCyc (1000000 * s.get F.BUT_HOLD_S) ≤ s.b.cyc →
      s.b.but.reqAuto = false →
    ∃ t, exec .revertHold s = .next t ∧ t.b.but.reqAuto = true ∧ t.get F.BUT_STATUS_CODE = 1) ∧
  (∀ (f : Frame) (s : State),
    Live s → mirTaken s f 0x50 = true →
    ∃ t, exec (.class0Set f) s = .next t ∧ t = after (inOrder [mirStore 0 f, mirAck f]) s) ∧
  (∀ (f : Frame) (s : State),
    Live s → mirTaken s f 0x50 = true → bitsOf (f.data.getD 0 0) 47 40 = 0 → bitsOf (f.data.getD 0 0) 39 32 = 1 →
    ∃ t, exec (.class0Set f) s = .next t ∧ (t.b.but.sets.getD 0 none).any (fun m => m.count == bitsOf (f.data.getD 0 0)
      63 48) = true ∧ t.b.but.missed = 0 ∧ t.on F.BUT_STATUS_MIRROR_LOST = false) ∧
  (∀ (f : Frame) (s : State),
    Live s → mirTaken s f 0x51 = true →
    ∃ t, exec (.class1Set f) s = .next t ∧ t = after (inOrder [mirStore 1 f, mirAck f]) s) ∧
  (∀ (f : Frame) (s : State),
    Live s → mirTaken s f 0x52 = true →
    ∃ t, exec (.hardwareSet f) s = .next t ∧ t = after (inOrder [mirStore 2 f, mirAck f]) s) ∧
  (∀ (f o : Frame) (s : State),
    Live s → s.b.but.out = some o → s.b.but.txq = [] → l4Ready s = true → f.crcOk = true → f.cls = 4 → f.type = 0x53 →
      f.seq = o.seq →
    ∃ t, exec (.acknowledge f) s = .next t ∧ t.b.but.out = none ∧ t.b.but.retry = 0) ∧
  (∀ (f : Frame) (s : State),
    Live s → mirTaken s f 0x54 = true →
    ∃ t, exec (.statusFrame f) s = .next t ∧ t.get F.BUT_PCRC_CRC = f.data.getD 1 0 % 2 ^ 32 ∧ t.b.but.heardAt = some
      s.b.cyc ∧ t.b.but.pState = bitsOf (f.data.getD 0 0) 31 29) ∧
  (∀ (o : Frame) (s : State),
    Live s → s.b.but.out = some o → (s.b.but.endAt.any fun c => decide (c + ackCyc ≤ s.b.cyc)) = true → s.b.but.retry <
      3 →
    ∃ t, exec .mirrorRetry s = .next t ∧ t.b.but.retry = s.b.but.retry + 1 ∧ t.get F.BUT_CNT_RETRY_N = min (s.get
      F.BUT_CNT_RETRY_N + 1) (2 ^ 32 - 1) ∧ t.b.but.out = some o ∧ t.b.but.endAt = none) ∧
  (∀ (o : Frame) (s : State),
    Live s → s.b.but.out = some o → (s.b.but.endAt.any fun c => decide (c + ackCyc ≤ s.b.cyc)) = true → 3 ≤
      s.b.but.retry →
    ∃ t, exec .mirrorRetry s = .next t ∧ t.b.but.out = none ∧ t.on F.BUT_STATUS_LINK_FAULT = true ∧ t.on
      F.BUT_STICKY_LINK_FAULT = true ∧ t.b.but.txq = []) ∧
  (∀ (s : State),
    Live s → butIn s 1 = true → l4Ready s = true → 64 ≤ s.b.but.missed → s.on F.BUT_STATUS_MIRROR_LOST = false →
    ∃ t, exec .mirrorLost s = .next t ∧ t.on F.BUT_STATUS_MIRROR_LOST = true ∧ t.on F.BUT_STICKY_MIRROR_LOST = true) ∧
  (∀ (s : State),
    Live s → ∀ e : Fin 32, mirBad s e = false → mirTooLong s = false →
    ∃ t, exec .butCommit s = .next t ∧ t = after (noted (.page 0x11000 0) fun s => takeGroup .but 0x11200 0x11280) s ∧
      groupWaits t .but = true) ∧
  (∀ (d : Fin 2) (ns : Nat) (inhPin : Bool) (s : State),
    Live s → s.on F.BUT_ARB_CTRL_EN = true →
    ∃ t, exec (.arbHealthEdge d ns inhPin) s = .next t ∧ arbPeer t d = { edgeAt := some s.b.cyc, code := healthCode ns }) ∧
  (∀ (d : Fin 2) (s : State),
    Live s → s.on F.BUT_ARB_CTRL_EN = true → arbAlive s d = false →
    ∃ t, exec (.arbHealthTimeout d) s = .next t ∧ (arbPeer t d).edgeAt = none ∧ t.get F.BUT_ARB_STATUS_GRANT = (if s.get
      F.BUT_ARB_STATUS_GRANT = d + 1 then 0 else s.get F.BUT_ARB_STATUS_GRANT)) ∧
  (∀ (s : State),
    Live s → s.on F.BUT_ARB_CTRL_EN = true → s.get F.BUT_ARB_STATUS_GRANT = 0 → arbEligible s 0 = true →
      s.b.but.arbS.code ≠ 1 → s.b.but.withdrawnAt + usCyc (s.get F.BUT_ARB_BBM_US) ≤ s.b.cyc →
    ∃ t, exec .arbGrantIssue s = .next t ∧ t.get F.BUT_ARB_STATUS_GRANT = 1)

/-- A loss of VDD_PWR in MAIN clears VDD_PRESENT, sets VDD_LOSS, makes the checkpoint and the metrology save due, and
changes the source to BAT or HARV; the return of VDD_PWR makes it MAIN and counts a power cycle when VDD_PWR was
absent for 10 ms. VBAT and V_STORE thresholds are shown and change the source as R405 says; below 1.80 V without VBAT
the domain stops. In BAT, after a new open-circuit sample while the harvester runs, a probe that holds 2.40 V changes
to HARV, a lower one stays in BAT. A sample is shown while the harvester runs, at most every 16 s; a first cold start
is flagged. The crystal's failure and, 1 s later at the earliest, its return are shown. A tick adds one to the
operating seconds, and a read latches them. A start from OFF depends on VBAT or V_STORE. A value of BED_HARV,
BED_STORE or BED_RES in range is taken, any other is refused with CFG_REJECT; SEVQ_LOOKUP shows a code's severity.
Each completes, that is exec answers a next state with the command's own effect, for every state and operands that
meet the hypotheses: vddPwrLoss, vbatLow, vbatPresentChange, storeThreshold, harvestProbe, harvestSample, coldStart,
xtalFail, xtalRestore, opsecTick, opsecRead, bedrockStart, bedConfigWrite, sevqLookup. -/
def Obligations.BedrockCommands : Prop :=
  (∀ (mv : BitVec 16) (s : State),
    s.b.bed.src = .main →
    ∃ t, exec (.vddPwrLoss mv) s = .next t ∧ t.on F.BED_STATUS_VDD_PRESENT = false ∧ t.on F.BED_STICKY_VDD_LOSS = true ∧
      t.b.bed.cpDue = true ∧ t.b.bed.savDue = true ∧ t.b.bed.absentAt = some s.b.bed.opsec ∧ t.b.bed.src = (if
      vbatUsable s && decide (mv.toNat < 2200) then BedSrc.bat else BedSrc.harv)) ∧
  (∀ (mv : BitVec 16) (s : State),
    s.b.bed.src ≠ .off → s.on F.BED_STATUS_VBAT_LOW = false → mv.toNat < 2600 →
    ∃ t, exec (.vbatLow mv) s = .next t ∧ t = applyAll s [updBed fun b => { b with vbat := mv.toNat }, .set
      F.BED_VBAT_MV mv.toNat, .set F.BED_STATUS_VBAT_LOW 1, .sticky F.BED_STICKY_VBAT_LOW, .led 0xA004 0 [mv.toNat]]) ∧
  (∀ (mv : BitVec 16) (s : State),
    s.b.bed.src ≠ .off → 2600 ≤ mv.toNat →
    exec (.vbatLow mv) s = .next (applyAll s [updBed fun b => { b with vbat := mv.toNat }, .set F.BED_VBAT_MV mv.toNat,
      .set F.BED_STATUS_VBAT_LOW 0])) ∧
  (∀ (mv : BitVec 16) (s : State),
    s.b.bed.src = .bat → mv.toNat < 2000 →
    ∃ t, exec (.vbatPresentChange mv) s = .next t ∧ t.on F.BED_STATUS_VBAT_PRESENT = false ∧ t.b.bed.src = .harv ∧ t.on
      F.BED_STICKY_SRC_CHANGE = true ∧ t.get F.BED_STATUS_SRC = 1) ∧
  (∀ (mv : BitVec 16) (s : State),
    s.b.bed.src = .off → 1850 ≤ s.b.bed.vstore → 2000 ≤ mv.toNat →
    ∃ t, exec (.vbatPresentChange mv) s = .next t ∧ t.b.bed.src = .bat ∧ t.on F.LDG_STATUS_SCANNING = true) ∧
  (∀ (mv : BitVec 16) (s : State),
    s.b.bed.src = .off → s.b.bed.vstore < 1850 ∨ mv.toNat < 2000 →
    ∃ t, exec (.vbatPresentChange mv) s = .next t ∧ t = applyAll s [updBed fun b => { b with vbat := mv.toNat }]) ∧
  (∀ (mv harv : BitVec 16) (s : State),
    s.b.bed.src = .harv → mv.toNat < 1800 →
    ∃ t, exec (.storeThreshold mv harv) s = .next t ∧ t.b.bed.src = .off ∧ t.b.ldg.buf = []) ∧
  (∀ (mv harv : BitVec 16) (s : State),
    s.b.bed.src = .harv → 1800 ≤ mv.toNat → mv.toNat < 2200 → vbatUsable s = true →
    ∃ t, exec (.storeThreshold mv harv) s = .next t ∧ t.b.bed.src = .bat ∧ t.get F.BED_VSTORE_MV = mv.toNat) ∧
  (∀ (mv : BitVec 16) (s : State),
    s.b.bed.src = .bat → s.on F.BED_STATUS_HARV_RUN = true → s.b.bed.vocNew = true → 2400 ≤ mv.toNat →
    ∃ t, exec (.harvestProbe mv) s = .next t ∧ t.b.bed.src = .harv ∧ t.b.bed.vocNew = false ∧ t.get F.BED_STATUS_SRC = 1
      ∧ t.get F.BED_VSTORE_MV = mv.toNat) ∧
  (∀ (mv : BitVec 16) (s : State),
    s.b.bed.src = .bat → s.on F.BED_STATUS_HARV_RUN = true → s.b.bed.vocNew = true → mv.toNat < 2400 →
    ∃ t, exec (.harvestProbe mv) s = .next t ∧ t.b.bed.src = .bat ∧ t.b.bed.vocNew = false ∧ t.get F.BED_VSTORE_MV =
      mv.toNat) ∧
  (∀ (mv : BitVec 16) (s : State),
    s.b.bed.src ≠ .bat ∨ s.on F.BED_STATUS_HARV_RUN = false ∨ s.b.bed.vocNew = false →
    exec (.harvestProbe mv) s = .next (s)) ∧
  (∀ (voc : BitVec 16) (s : State),
    s.on F.BED_STATUS_HARV_RUN = true → (s.b.bed.vocAt.all fun o => decide (o + 16 ≤ s.b.bed.opsec)) = true →
    exec (.harvestSample voc) s = .next (applyAll s [.set F.BED_HARV_VOC voc.toNat, updBed fun b =>
      { b with vocAt := some b.opsec, vocNew := true }])) ∧
  (∀ (voc : BitVec 16) (o : Nat) (s : State),
    s.b.bed.vocAt = some o → s.b.bed.opsec < o + 16 →
    exec (.harvestSample voc) s = .next (s)) ∧
  (∀ (secs : BitVec 32) (mv : BitVec 16) (s : State),
    s.b.bed.src ≠ .off → s.on F.BED_CTRL_HARV_EN = true → s.on F.BED_STATUS_VDD_PRESENT = false → 2000 ≤ mv.toNat →
      s.b.bed.coldRan = false →
    ∃ t, exec (.coldStart secs mv) s = .next t ∧ t.on F.BED_STATUS_COLD = false ∧ t.on F.BED_STATUS_HARV_RUN = true ∧
      t.b.bed.coldRan = true ∧ t.on F.BED_STICKY_COLD_START = true) ∧
  (∀ (s : State),
    s.on F.BED_STATUS_XTAL_OK = true → s.b.bed.src ≠ .off →
    exec .xtalFail s = .next (applyAll s [.set F.BED_STATUS_XTAL_OK 0, .sticky F.BED_STICKY_XTAL_FAIL, updBed (fun b =>
      { b with xtalAt := s.b.cyc }), .led 0xA005 0 [0]])) ∧
  (∀ (s : State),
    s.on F.BED_STATUS_XTAL_OK = false → s.b.bed.src ≠ .off → s.b.bed.xtalAt + usCyc 1000000 ≤ s.b.cyc →
    exec .xtalRestore s = .next (applyAll s [.set F.BED_STATUS_XTAL_OK 1, .led 0xA005 0 [1]])) ∧
  (∀ (s : State),
    s.b.bed.src ≠ .off →
    ∃ t, exec .opsecTick s = .next t ∧ t.b.bed.opsec = (s.b.bed.opsec + 1) % 2 ^ 40 ∧ t.get F.BED_PWRCYC_N = s.get
      F.BED_PWRCYC_N) ∧
  (∀ (s : State),
    s.b.bed.src = .off →
    exec .opsecTick s = .next (s)) ∧
  (∀ (n : BitVec 15) (s : State),
    dieLinkOk s = true →
    exec (.opsecRead n) s = .next (applyAll s [.set F.BED_OPSEC_LO_S (s.b.bed.opsec % 2 ^ 32), .set F.BED_OPSEC_HI_S
      (s.b.bed.opsec / 2 ^ 32), .set F.BED_SUBSEC_N n.toNat])) ∧
  (∀ (mv vbat : BitVec 16) (a m : Fin 3) (s : State),
    s.b.bed.src = .off → 1850 ≤ mv.toNat → 2000 ≤ vbat.toNat →
    ∃ t, exec (.bedrockStart mv vbat a m) s = .next t ∧ t.b.bed.src = .bat ∧ t.on F.LDG_STATUS_SCANNING = true ∧ t.get
      F.BED_VBAT_MV = vbat.toNat) ∧
  (∀ (mv vbat : BitVec 16) (a m : Fin 3) (s : State),
    s.b.bed.src = .off → vbat.toNat < 2000 → 1850 ≤ mv.toNat →
    ∃ t, exec (.bedrockStart mv vbat a m) s = .next t ∧ t.b.bed.src = .harv ∧ t.on F.LDG_STATUS_SCANNING = true) ∧
  (∀ (mv vbat : BitVec 16) (a m : Fin 3) (s : State),
    s.b.bed.src = .off → mv.toNat < 1850 →
    ∃ t, exec (.bedrockStart mv vbat a m) s = .next t ∧ t = applyAll s [updBed fun b =>
      { b with vbat := vbat.toNat, vstore := mv.toNat }]) ∧
  (∀ (k : Fin 3) (v : Word) (s : State),
    dieLinkOk s = true → k = 0 → 50 ≤ v.toNat / 65536 % 256 → v.toNat / 65536 % 256 ≤ 90 →
    exec (.bedConfigWrite k v) s = .next (s.put F.BED_HARV_FRAC (v.toNat / 65536 % 256))) ∧
  (∀ (k : Fin 3) (v : Word) (s : State),
    dieLinkOk s = true → k = 1 → 100 ≤ v.toNat % 65536 → v.toNat % 65536 ≤ 4700 →
    exec (.bedConfigWrite k v) s = .next (s.put F.BED_STORE_CAP_UF (v.toNat % 65536))) ∧
  (∀ (k : Fin 3) (v : Word) (s : State),
    dieLinkOk s = true → k = 2 → 30 ≤ v.toNat % 65536 → 50 ≤ v.toNat / 65536 →
    exec (.bedConfigWrite k v) s = .next ((s.put F.BED_RES_WRITE (v.toNat % 65536)).put F.BED_RES_KEEP (v.toNat /
      65536))) ∧
  (∀ (v : Word) (s : State),
    dieLinkOk s = true → v.toNat % 65536 < 100 ∨ 4700 < v.toNat % 65536 →
    exec (.bedConfigWrite 1 v) s = .next (s.stick F.BED_STICKY_CFG_REJECT)) ∧
  (∀ (code : BitVec 16) (s : State),
    dieLinkOk s = true →
    exec (.sevqLookup code) s = .next ((s.put F.LDG_SEVQ_CODE code.toNat).put F.LDG_SEVQ_SEV (severity code.toNat)))

/-- A record at the head of the buffer whose reservation is met is written in ring mode at the write index, which
advances by one modulo 16384, and SEQ advances modulo 256; below the reservation it is deferred and counted. At twice
the reservation the summary ends the deferring. A checkpoint that is due (after a loss of VDD_PWR, or 60 s after the
last, 61 s with records waiting) and whose reservation is met copies the counters; below it the checkpoint waits; the
metrology save likewise. The end of the scan clears SCANNING and flags RESTORED, with the operating seconds moved
past both the newest record and the copy. Erase is accepted in MAIN while unlocked, refused elsewhere with
CMD_REJECT; its end leaves one record. Each completes, that is exec answers a next state with the command's own
effect, for every state and operands that meet the hypotheses: ledgerRecordWrite, deferSummary, counterCheckpoint,
metrologySave, ledgerScanDone, erase, eraseDone. -/
def Obligations.LedgerCommands : Prop :=
  (∀ (r : LedgerRec) (rest : List LedgerRec) (mv : BitVec 16) (s : State),
    s.b.bed.src ≠ .off → s.b.ldg.buf = r :: rest → s.on F.LDG_STATUS_SCANNING = false → s.b.ldg.erasing = false →
      saveFirst s (energyPj s mv.toNat) = false → s.on F.LDG_STATUS_DEFERRING = false → writeNeeds s ≤ energyPj s
      mv.toNat → s.on F.LDG_CTRL_MODE = false → s.on F.LDG_Q_EN = false →
    ∃ t, exec (.ledgerRecordWrite mv) s = .next t ∧ t.b.ldg.buf = rest ∧ t.get F.LDG_WR_IDX_SLOT = (s.get
      F.LDG_WR_IDX_SLOT + 1) % 16384 ∧ t.get F.LDG_SEQ_SEQ = (s.get F.LDG_SEQ_SEQ + 1) % 256 ∧ t.words (slotAddr
      (s.get F.LDG_WR_IDX_SLOT)) 8 = (recWords r (s.get F.LDG_SEQ_SEQ)).map (· % 2 ^ 32) ∧ t.on F.LDG_STICKY_RECORD =
      true) ∧
  (∀ (r : LedgerRec) (rest : List LedgerRec) (mv : BitVec 16) (s : State),
    s.b.bed.src ≠ .off → s.b.ldg.buf = r :: rest → s.on F.LDG_STATUS_SCANNING = false → s.b.ldg.erasing = false →
      saveFirst s (energyPj s mv.toNat) = false → s.on F.LDG_STATUS_DEFERRING = false → energyPj s mv.toNat <
      writeNeeds s →
    ∃ t, exec (.ledgerRecordWrite mv) s = .next t ∧ t.b.ldg.buf = rest ∧ t.on F.LDG_STATUS_DEFERRING = true ∧ t.on
      F.LDG_STICKY_DEFER = true ∧ t.b.ldg.defLast = some (r.code, r.opsec) ∧ t.get F.LDG_WR_IDX_SLOT = s.get
      F.LDG_WR_IDX_SLOT) ∧
  (∀ (mv : BitVec 16) (s : State),
    s.b.bed.src ≠ .off → s.on F.LDG_STATUS_DEFERRING = true → s.b.ldg.erasing = false → saveFirst s (energyPj s
      mv.toNat) = false → 2 * writeNeeds s ≤ energyPj s mv.toNat →
    ∃ t, exec (.deferSummary mv) s = .next t ∧ t.on F.LDG_STATUS_DEFERRING = false ∧ t.b.ldg.defFirst = none) ∧
  (∀ (mv : BitVec 16) (s : State),
    s.b.bed.src ≠ .off → s.b.ldg.erasing = false → s.b.bed.cpDue = true ∨ (s.b.bed.cpAt + 60 ≤ s.b.bed.opsec ∧
      s.b.ldg.buf = []) ∨ s.b.bed.cpAt + 61 ≤ s.b.bed.opsec → opNeeds s 10 ≤ energyPj s mv.toNat →
    ∃ t, exec (.counterCheckpoint mv) s = .next t ∧ t.b.bed.cpDue = false ∧ t.b.bed.cpAt = s.b.bed.opsec ∧
      (t.b.bed.cps[0]?).any (fun c => c.opsec == s.b.bed.opsec && c.pwrcyc == s.get F.BED_PWRCYC_N && c.lost == s.get
      F.LDG_CNT_LOST_N) = true ∧ t.b.bed.cps.length ≤ 2) ∧
  (∀ (mv : BitVec 16) (s : State),
    s.b.bed.src ≠ .off → energyPj s mv.toNat < opNeeds s 10 →
    ∃ t, exec (.counterCheckpoint mv) s = .next t ∧ t.b.bed.cpDue = s.b.bed.cpDue ∧ t.b.bed.cps = s.b.bed.cps) ∧
  (∀ (mv : BitVec 16) (s : State),
    s.b.bed.src ≠ .off → s.b.bed.cpDue = false → s.b.bed.opsec < s.b.bed.cpAt + 60 →
    exec (.counterCheckpoint mv) s = .next (applyAll s (storeShow mv.toNat s))) ∧
  (∀ (mv : BitVec 16) (s : State),
    s.b.bed.src ≠ .off → s.b.ldg.erasing = false → s.b.bed.savDue = true ∨ (s.b.bed.savAt + 60 ≤ s.b.bed.opsec ∧
      s.b.ldg.buf = []) ∨ s.b.bed.savAt + 61 ≤ s.b.bed.opsec → opNeeds s 400 ≤ energyPj s mv.toNat →
    ∃ t, exec (.metrologySave mv) s = .next t ∧ t.b.bed.savDue = false ∧ t.b.bed.savAt = s.b.bed.opsec ∧ t.b.met.saved =
      (metCopy s :: s.b.met.saved).take 2) ∧
  (∀ (mv : BitVec 16) (s : State),
    s.b.bed.src ≠ .off → energyPj s mv.toNat < opNeeds s 400 →
    ∃ t, exec (.metrologySave mv) s = .next t ∧ t.b.bed.savDue = s.b.bed.savDue ∧ t.b.met.saved = s.b.met.saved) ∧
  (∀ (mv : BitVec 16) (s : State),
    s.b.bed.src ≠ .off → s.b.bed.savDue = false → s.b.bed.opsec < s.b.bed.savAt + 60 →
    exec (.metrologySave mv) s = .next (applyAll s (storeShow mv.toNat s))) ∧
  (∀ (s : State),
    s.on F.LDG_STATUS_SCANNING = true →
    ∃ t, exec .ledgerScanDone s = .next t ∧ t.on F.LDG_STATUS_SCANNING = false ∧ t.on F.BED_STICKY_RESTORED = true ∧
      t.get F.LDG_WR_IDX_SLOT < 16384) ∧
  (∀ (s : State),
    dieLinkOk s = true → s.b.bed.src = .main → s.on F.MTC_STATUS_LOCKED = false → s.b.ldg.erasing = false →
    ∃ t, exec .erase s = .next t ∧ t.on F.LDG_STATUS_BUSY = true ∧ t.b.ldg.erasing = true ∧ t.b.ldg.eraseN = s.get
      F.LDG_COUNT_N) ∧
  (∀ (s : State),
    dieLinkOk s = true → s.b.bed.src ≠ .main ∨ s.on F.MTC_STATUS_LOCKED = true ∨ s.b.ldg.erasing = true →
    exec .erase s = .next (s.stick F.LDG_STICKY_CMD_REJECT)) ∧
  (∀ (s : State),
    s.b.ldg.erasing = true → (if s.on F.LDG_STATUS_DEFERRING then 2 * writeNeeds s else writeNeeds s) ≤ energyPj s
      (s.get F.BED_VSTORE_MV) →
    ∃ t, exec .eraseDone s = .next t ∧ t.b.ldg.erasing = false ∧ t.on F.LDG_STATUS_BUSY = false ∧ t.get
      F.LDG_WR_IDX_SLOT = 1 ∧ t.get F.LDG_COUNT_N = 1 ∧ t.get F.LDG_WRAPS_N = 0) ∧
  (∀ (s : State),
    s.b.ldg.erasing = true → energyPj s (s.get F.BED_VSTORE_MV) < (if s.on F.LDG_STATUS_DEFERRING then 2 * writeNeeds s
      else writeNeeds s) →
    ∃ t, exec .eraseDone s = .next t ∧ t.b.ldg.erasing = false ∧ t.on F.LDG_STATUS_BUSY = false ∧ t.get
      F.LDG_WR_IDX_SLOT = 0 ∧ t.get F.LDG_COUNT_N = 0 ∧ t.on F.LDG_STATUS_DEFERRING = true)

/-- A pop of a queue that is enabled and not empty answers the word at CONS and advances CONS by 1 modulo 2^32; a pop of
an empty or disabled queue answers 0 and moves nothing. A write of CONS within the words held is taken, any other is
refused with IDX_REJECT. A commit is refused with CFG_REJECT when a region leaves the memory, else the group waits
for its update point. A mail write while busy or not joined is refused with MAIL_REJECT, an accepted one makes the
mailbox busy. A mail frame addressed to this node appends one record of type 6 to its queue when mail is enabled.
Each completes, that is exec answers a next state with the command's own effect, for every state and operands that
meet the hypotheses: quePop, queConsWrite, queCommit, mailTx, mailReceive. -/
def Obligations.QueueCommands : Prop :=
  (∀ (q : Fin 32) (s : State),
    Live s → s.cur (F.QUE_Q_SIZE_W q) ≠ 0 → s.qFill q ≠ 0 →
    ∃ t, exec (.quePop q) s = .next t ∧ t.b.hst.out = [s.word (s.qAddr q (s.get (F.QUE_Q_CONS_W q)))] ∧ t.get
      (F.QUE_Q_CONS_W q) = (s.get (F.QUE_Q_CONS_W q) + 1) % 2 ^ 32 ∧ t.get (F.QUE_Q_PROD_W q) = s.get (F.QUE_Q_PROD_W
      q) ∧ t.mem = s.mem) ∧
  (∀ (q : Fin 32) (s : State),
    Live s → s.cur (F.QUE_Q_SIZE_W q) = 0 ∨ s.qFill q = 0 →
    exec (.quePop q) s = .next (s.updB fun b => { b with hst := { b.hst with out := [0] } })) ∧
  (∀ (q : Fin 32) (c : Word) (s : State),
    Live s → (c.toNat + 2 ^ 32 - s.get (F.QUE_Q_CONS_W q)) % 2 ^ 32 ≤ s.qFill q →
    ∃ t, exec (.queConsWrite q c) s = .next t ∧ t.get (F.QUE_Q_CONS_W q) = c.toNat ∧ t.get (F.QUE_Q_PROD_W q) = s.get
      (F.QUE_Q_PROD_W q) ∧ t.mem = s.mem) ∧
  (∀ (q : Fin 32) (c : Word) (s : State),
    Live s → s.qFill q < (c.toNat + 2 ^ 32 - s.get (F.QUE_Q_CONS_W q)) % 2 ^ 32 →
    exec (.queConsWrite q c) s = .next (s.stick F.QUE_STICKY_IDX_REJECT)) ∧
  (∀ (s : State),
    Live s → queBad s = false →
    ∃ t, exec .queCommit s = .next t ∧ t = after (noted (.page 0x12000 0) fun s => takeGroup .que 0x12200 0x12600) s ∧
      groupWaits t .que = true) ∧
  (∀ (q : Fin 32) (s : State),
    Live s → 262144 < s.get (F.QUE_Q_BASE_W q) + s.get (F.QUE_Q_SIZE_W q) →
    ∃ t, exec .queCommit s = .next t ∧ t = after (noted (.page 0x12000 0) fun _ => [.sticky F.QUE_STICKY_CFG_REJECT]) s
      ∧ t.on F.QUE_STICKY_CFG_REJECT = true ∧ t.pnd = s.pnd ∧ t.b.waiting = s.b.waiting) ∧
  (∀ (dest : BitVec 12) (count : BitVec 6) (s : State),
    Live s → s.on F.QUE_MAIL_STAT_BUSY = true ∨ s.on F.RDG_STATUS_JOINED = false →
    exec (.mailTx dest count) s = .next (s.stick F.QUE_STICKY_MAIL_REJECT)) ∧
  (∀ (dest : BitVec 12) (count : BitVec 6) (s : State),
    Live s → s.on F.QUE_MAIL_STAT_BUSY = false → s.on F.RDG_STATUS_JOINED = true → 1 ≤ count.toNat → count.toNat ≤ 32 →
    ∃ t, exec (.mailTx dest count) s = .next t ∧ t = after (originate 3 dest.toNat 0x38 (count.toNat :: pairWords
      ((List.range count.toNat).map fun k => s.get (F.QUE_MAIL_TXD_W k)))) (s.put F.QUE_MAIL_STAT_BUSY 1)) ∧
  (∀ (n : Fin 8) (f : Frame) (s : State),
    Live s → ringCarries s n = true → f.cls = 3 → f.type = 0x38 → f.dest = s.get F.RDG_ADDR_ADDR → frameLenBad f = false
      → f.hops ≠ 0 → f.crcOk = true → mailBad f = false → s.on F.QUE_MAIL_EN = true →
    exec (.mailReceive n f) s = .next (s.qAppend (s.get F.QUE_MAIL_QUEUE) 6 false ((f.src + 2 ^ 16 * mailCount f) ::
      blockWords f.data (mailCount f))))

/-- A finished signature appends the record at the head of the signer's queue with its 16 signature words and counts it;
with no record waiting it ends the challenge and shows SEC_ATT. A challenge takes DEVID and the eight challenge words
and makes the signer busy. A fuse command with the key, no PWM page enabled, no command running and the order kept
starts; any other is refused with CMD_REJECT. The end of a fuse command, 10 ms after its start, blows its fuse and
shows it. MET_LOCK locks once. The return of VDD_PWR takes 1 ms and ends the volatile lock only after an absence of
10 ms. Each completes, that is exec answers a next state with the command's own effect, for every state and operands
that meet the hypotheses: signatureDone, challenge, fuseIkey, fuseEnforce, fuseMetLock, fuseDone, metLock,
vddPwrPresent. -/
def Obligations.SecurityCommands : Prop :=
  (∀ (j : SignJob) (rest : List SignJob) (s : State),
    Live s → s.b.sec.jobs = j :: rest →
    ∃ t, exec .signatureDone s = .next t ∧ t.b.sec.jobs = rest ∧ t.get F.SEC_CNT_SIGNED_N = min (s.get
      F.SEC_CNT_SIGNED_N + 1) (2 ^ 32 - 1)) ∧
  (∀ (ws : List Nat) (s : State),
    Live s → s.b.sec.jobs = [] → s.b.sec.chal = some ws →
    ∃ t, exec .signatureDone s = .next t ∧ t.b.sec.chal = none ∧ t.on F.SEC_STATUS_SIGN_BUSY = false ∧ t.get
      (F.SEC_ATT_W 0) = Config.sigWord ws 0 % 2 ^ 32 ∧ t.get (F.SEC_ATT_W 15) = Config.sigWord ws 15 % 2 ^ 32) ∧
  (∀ (s : State),
    Live s →
    ∃ t, exec .challenge s = .next t ∧ t.on F.SEC_STATUS_SIGN_BUSY = true ∧ t.b.sec.chal = some (s.get F.SEC_DEVID_LO_ID
      :: s.get F.SEC_DEVID_HI_ID :: (List.range 8).map fun k => s.get (F.SEC_CHAL_W k)) ∧ t.b.sec.jobs = s.b.sec.jobs) ∧
  (∀ (s : State),
    Live s → ∀ p : Fin 3, s.on (F.PWM_CTRL_ENABLE p) = false → s.b.sec.fuse = none → s.b.sec.ikey = none →
    ∃ t, exec (.fuseIkey 0x4655) s = .next t ∧ (t.b.sec.fuse).map (·.1) = some 1 ∧ t.b.sec.fuseAt = s.b.cyc ∧ t.regs =
      s.regs) ∧
  (∀ (s : State),
    Live s → ∀ p : Fin 3, s.on (F.PWM_CTRL_ENABLE p) = false → s.b.sec.fuse = none → s.b.sec.ikey.isSome = true →
    ∃ t, exec (.fuseEnforce 0x4655) s = .next t ∧ (t.b.sec.fuse).map (·.1) = some 2 ∧ t.b.sec.fuseAt = s.b.cyc ∧ t.regs
      = s.regs) ∧
  (∀ (s : State),
    Live s → ∀ p : Fin 3, s.on (F.PWM_CTRL_ENABLE p) = false → s.b.sec.fuse = none →
    ∃ t, exec (.fuseMetLock 0x4655) s = .next t ∧ (t.b.sec.fuse).map (·.1) = some 3 ∧ t.b.sec.fuseAt = s.b.cyc ∧ t.regs
      = s.regs) ∧
  (∀ (key : BitVec 16) (s : State),
    Live s → key.toNat ≠ 0x4655 →
    exec (.fuseIkey key) s = .next (applyAll s [.sticky F.SEC_STICKY_CMD_REJECT, .led 0x1003 0 [2, 0]])) ∧
  (∀ (p : Fin 3) (s : State),
    Live s → s.on (F.PWM_CTRL_ENABLE p) = true →
    exec (.fuseMetLock 0x4655) s = .next (applyAll s [.sticky F.SEC_STICKY_CMD_REJECT, .led 0x1003 0 [8, 1]])) ∧
  (∀ (s : State),
    Live s → ∀ p : Fin 3, s.on (F.PWM_CTRL_ENABLE p) = false → s.b.sec.fuse = none → s.b.sec.ikey = none →
    exec (.fuseEnforce 0x4655) s = .next (applyAll s [.sticky F.SEC_STICKY_CMD_REJECT, .led 0x1003 0 [4, 3]])) ∧
  (∀ (ws : List Nat) (s : State),
    Live s → s.b.sec.fuse = some (1, ws) → s.b.sec.fuseAt + usCyc 10000 ≤ s.b.cyc →
    ∃ t, exec .fuseDone s = .next t ∧ t.b.sec.fuse = none ∧ t.b.sec.ikey = some ws ∧ t.on F.SEC_STATUS_IKEY_FUSED = true
      ∧ t.on F.SEC_STICKY_FUSE_DONE = true ∧ t.get (F.SEC_IKEY_W 3) = ws.getD 3 0 % 2 ^ 32) ∧
  (∀ (ws : List Nat) (s : State),
    Live s → s.b.sec.fuse = some (2, ws) → s.b.sec.fuseAt + usCyc 10000 ≤ s.b.cyc →
    ∃ t, exec .fuseDone s = .next t ∧ t.b.sec.fuse = none ∧ t.b.sec.enforce = true ∧ t.on F.SEC_STATUS_ENFORCE = true ∧
      t.b.sec.ikey = s.b.sec.ikey) ∧
  (∀ (ws : List Nat) (s : State),
    Live s → s.b.sec.fuse = some (3, ws) → s.b.sec.fuseAt + usCyc 10000 ≤ s.b.cyc →
    ∃ t, exec .fuseDone s = .next t ∧ t.b.sec.fuse = none ∧ t.b.sec.metPerm = true ∧ t.on F.MTC_STATUS_LOCKED = true ∧
      t.on F.SEC_STATUS_MET_PERM = true) ∧
  (∀ (s : State),
    Live s → s.b.cyc < s.b.sec.fuseAt + usCyc 10000 →
    exec .fuseDone s = .next (s)) ∧
  (∀ (s : State),
    Live s →
    ∃ t, exec .metLock s = .next t ∧ t.b.sec.metLock = true ∧ t.b.sec.metPerm = s.b.sec.metPerm) ∧
  (∀ (s : State),
    Live s → s.b.sec.metLock = false →
    ∃ t, exec .metLock s = .next t ∧ t.on F.MTC_STATUS_LOCKED = true ∧ t.on F.SEC_STATUS_MET_LOCK = true) ∧
  (∀ (mv us : BitVec 16) (s : State),
    1000 ≤ us.toNat → s.b.bed.src = .harv → s.on F.BED_STATUS_VDD_PRESENT = false → s.b.bed.lossAt + usCyc 10000 ≤
      s.b.cyc →
    ∃ t, exec (.vddPwrPresent mv us) s = .next t ∧ t.b.sec.metLock = false ∧ t.b.bed.src = .main ∧ t.on
      F.BED_STATUS_VDD_PRESENT = true ∧ t.b.sys.pwrReset = false ∧ t.get F.BED_PWRCYC_N = min (s.get F.BED_PWRCYC_N +
      1) (2 ^ 24 - 1)) ∧
  (∀ (mv us : BitVec 16) (s : State),
    1000 ≤ us.toNat → s.b.bed.src = .harv → s.b.bed.offStart = false → s.on F.BED_STATUS_VDD_PRESENT = false →
      s.b.bed.lossAt + usCyc 1000 ≤ s.b.cyc → s.b.cyc < s.b.bed.lossAt + usCyc 10000 →
    ∃ t, exec (.vddPwrPresent mv us) s = .next t ∧ t.b.sec.metLock = s.b.sec.metLock ∧ t.b.bed.src = .main ∧ t.get
      F.BED_PWRCYC_N = s.get F.BED_PWRCYC_N) ∧
  (∀ (mv us : BitVec 16) (s : State),
    1000 ≤ us.toNat → s.b.bed.src = .harv → s.on F.BED_STATUS_VDD_PRESENT = false → s.b.cyc < s.b.bed.lossAt + usCyc
      1000 →
    exec (.vddPwrPresent mv us) s = .next (s)) ∧
  (∀ (mv us : BitVec 16) (s : State),
    us.toNat < 1000 →
    exec (.vddPwrPresent mv us) s = .next (s))

/-- A temperature sample is shown in MON_TEMP of its sensor, and one above the upper threshold in force sets T_HIGH and
T_WARN. A main-die rail outside its window for MON_RAIL_FILT is shown in MON_STATUS.RAIL_OUT with RAIL_OUT set, for a
shorter time it is not; one back inside is cleared. MON_COMMIT is refused with CFG_REJECT when HI is not above LO,
else the group waits. A due drift record, and a commanded one, is written while both dies work and moves MON_RO_NEXT
to the next yearly multiple; else it waits. Each completes, that is exec answers a next state with the command's own
effect, for every state and operands that meet the hypotheses: tempSample, railWindowChange, monCommit, roDrift,
roRecord. -/
def Obligations.HealthCommands : Prop :=
  (∀ (n : Fin 6) (x : BitVec 16) (s : State),
    Live s →
    ∃ t, exec (.tempSample n x) s = .next t ∧ t.get (F.MON_TEMP_T n) = x.toNat) ∧
  (∀ (n : Fin 6) (x : BitVec 16) (s : State),
    Live s → s.b.mon.hot = 0 → s.curInt F.MON_TTHR_HI * 16 < x.toInt →
    ∃ t, exec (.tempSample n x) s = .next t ∧ t.on F.MON_STICKY_T_HIGH = true ∧ t.on F.MON_STATUS_T_WARN = true ∧
      t.b.mon.hot.testBit n = true) ∧
  (∀ (n : Fin 6) (mv ns : BitVec 16) (s : State),
    Live s → n ≠ 5 → railOutside s n mv.toNat = true → s.get F.MON_RAIL_FILT_NS ≤ ns.toNat → (s.get
      F.MON_STATUS_RAIL_OUT).testBit n = false →
    ∃ t, exec (.railWindowChange n mv ns) s = .next t ∧ t.get (F.MON_RAIL_MV n) = mv.toNat ∧ (t.get
      F.MON_STATUS_RAIL_OUT).testBit n = true ∧ t.on F.MON_STICKY_RAIL_OUT = true) ∧
  (∀ (n : Fin 6) (mv ns : BitVec 16) (s : State),
    Live s → n ≠ 5 → ns.toNat < s.get F.MON_RAIL_FILT_NS → (s.get F.MON_STATUS_RAIL_OUT).testBit n = false →
    ∃ t, exec (.railWindowChange n mv ns) s = .next t ∧ t.get (F.MON_RAIL_MV n) = mv.toNat ∧ (t.get
      F.MON_STATUS_RAIL_OUT).testBit n = false ∧ t.on F.MON_STICKY_RAIL_OUT = s.on F.MON_STICKY_RAIL_OUT) ∧
  (∀ (n : Fin 6) (mv ns : BitVec 16) (s : State),
    Live s → n ≠ 5 → railOutside s n mv.toNat = false →
    ∃ t, exec (.railWindowChange n mv ns) s = .next t ∧ t.get (F.MON_RAIL_MV n) = mv.toNat ∧ (t.get
      F.MON_STATUS_RAIL_OUT).testBit n = false) ∧
  (∀ (mv ns : BitVec 16) (s : State),
    Live s →
    ∃ t, exec (.railWindowChange 5 mv ns) s = .next t ∧ (t.get F.MON_STATUS_RAIL_OUT).testBit 5 = !s.on
      F.BED_STATUS_VDD_PRESENT ∧ t.get (F.MON_RAIL_MV 5) = mv.toNat) ∧
  (∀ (s : State),
    Live s → s.int F.MON_TTHR_LO < s.int F.MON_TTHR_HI →
    ∃ t, exec .monCommit s = .next t ∧ t = after (noted (.page 0x3000 0) fun s => takeGroup .mon 0x3058 0x305C) s ∧
      groupWaits t .mon = true) ∧
  (∀ (s : State),
    Live s → s.int F.MON_TTHR_HI ≤ s.int F.MON_TTHR_LO →
    ∃ t, exec .monCommit s = .next t ∧ t = after (noted (.page 0x3000 0) fun _ => [.sticky F.MON_STICKY_CFG_REJECT]) s ∧
      t.on F.MON_STICKY_CFG_REJECT = true ∧ t.pnd = s.pnd ∧ t.b.waiting = s.b.waiting) ∧
  (∀ (counts : List Word) (s : State),
    Live s → dieLinkOk s = true → PowerLive s → s.b.mon.driftDue = true ∨ s.get F.MON_RO_NEXT_S ≤ s.b.bed.opsec % 2 ^ 32
      →
    ∃ t, exec (.roDrift counts) s = .next t ∧ t.b.mon.driftDue = false ∧ t.on F.MON_STICKY_RO_RECORD = true ∧ t.get
      (F.MON_RO_N 7) = (counts.map BitVec.toNat).getD 7 0) ∧
  (∀ (counts : List Word) (s : State),
    dieLinkOk s = true → PowerLive s →
    ∃ t, exec (.roRecord counts) s = .next t ∧ t.b.mon.driftDue = false ∧ t.on F.MON_STICKY_RO_RECORD = true ∧ t.get
      (F.MON_RO_N 0) = (counts.map BitVec.toNat).getD 0 0 ∧ t.get F.MON_RO_NEXT_S = (s.b.bed.opsec / 31557600 + 1) *
      31557600 % 2 ^ 32) ∧
  (∀ (counts : List Word) (s : State),
    Live s → dieLinkOk s = false →
    ∃ t, exec (.roRecord counts) s = .next t ∧ t.b.mon.driftDue = true ∧ t.regs = s.regs)

/-- A commanded trigger, and a pin edge in the input mode, makes a snapshot due with its source one and two cycles later
when none is due and the block is not held; while held it is missed and counted; a pin edge in another mode does
nothing. A snapshot whose cycle has come takes the next number, 1 after 65535, shows it in every main-die page, names
its cause, sets SNAP, and is marked PARTIAL when the die-to-die path has failed. Release clears HELD; the end of a
pulse lowers the pin 1 µs after the last snapshot. Each completes, that is exec answers a next state with the
command's own effect, for every state and operands that meet the hypotheses: crnTrigger, cairnPinEdge, cairnSnapshot,
crnRelease, cairnPulseEnd. -/
def Obligations.CairnCommands : Prop :=
  (∀ (s : State),
    Live s → s.on F.CRN_CTRL_ENABLE = true → s.on F.CRN_STATUS_HELD = false → s.b.crn.releasedAt ≠ some s.b.cyc →
      s.b.crn.due = [] →
    exec .crnTrigger s = .next (s.updB fun b => { b with crn := { b.crn with due := [(b.cyc + 1, 1, 0)] } })) ∧
  (∀ (s : State),
    Live s → s.on F.CRN_CTRL_ENABLE = true → s.on F.CRN_STATUS_HELD = true →
    ∃ t, exec .crnTrigger s = .next t ∧ t.get F.CRN_CNT_MISSED_N = min (s.get F.CRN_CNT_MISSED_N + 1) (2 ^
      F.CRN_CNT_MISSED_N.w - 1) ∧ t.on F.CRN_STICKY_MISSED = true ∧ t.b.crn = s.b.crn) ∧
  (∀ (s : State),
    Live s → s.on F.CRN_CTRL_ENABLE = true → s.on F.CRN_STATUS_HELD = false → s.b.crn.releasedAt ≠ some s.b.cyc →
      s.b.crn.due = [] → s.get F.CRN_CTRL_PIN_MODE = 1 →
    exec .cairnPinEdge s = .next (s.updB fun b => { b with crn := { b.crn with due := [(b.cyc + 2, 2, 0)] } })) ∧
  (∀ (s : State),
    s.get F.CRN_CTRL_PIN_MODE ≠ 1 →
    exec .cairnPinEdge s = .next (s)) ∧
  (∀ (d src ev : Nat) (rest : List (Nat × Nat × Nat)) (s : State),
    Live s → s.b.crn.due = (d, src, ev) :: rest → d ≤ s.b.cyc → s.on F.CRN_STATUS_HELD = false → src < 16 →
    ∃ t, exec .cairnSnapshot s = .next t ∧ t.get F.CRN_STATUS_SEQ = (if s.get F.CRN_STATUS_SEQ = 65535 then 1 else s.get
      F.CRN_STATUS_SEQ + 1) % 65536 ∧ t.get (snapSeqFld 0x5000) = t.get F.CRN_STATUS_SEQ ∧ t.get F.CRN_CAUSE_SRC = src
      ∧ t.on F.CRN_STICKY_SNAP = true ∧ t.b.crn.due = rest.filter (·.1 != d) ∧ t.b.crn.lastAt = some s.b.cyc ∧ t.on
      F.CRN_STATUS_HELD = s.on F.CRN_CTRL_HOLD) ∧
  (∀ (s : State),
    Live s → (∀ x ∈ s.b.crn.due, s.b.cyc < x.1) →
    exec .cairnSnapshot s = .next (s)) ∧
  (∀ (d src ev : Nat) (rest : List (Nat × Nat × Nat)) (s : State),
    Live s → s.b.crn.due = (d, src, ev) :: rest → d ≤ s.b.cyc → s.on F.CRN_STATUS_HELD = false → s.on
      F.SYS_GUAR_DIE_LINK = true →
    ∃ t, exec .cairnSnapshot s = .next t ∧ t.on F.CRN_STICKY_PARTIAL = true ∧ t.get (snapSeqFld 0x60000) = s.get
      (snapSeqFld 0x60000)) ∧
  (∀ (s : State),
    Live s →
    exec .crnRelease s = .next (applyAll s [.set F.CRN_STATUS_HELD 0, updCrn fun c =>
      { c with releasedAt := some s.b.cyc }])) ∧
  (∀ (s : State),
    Live s → (s.b.crn.lastAt.any fun c => decide (s.b.cyc < c + cycPerUs)) = false →
    ∃ t, exec .cairnPulseEnd s = .next t ∧ t.b.crn.pin = false ∧ t.regs = s.regs) ∧
  (∀ (s : State),
    Live s → (s.b.crn.lastAt.any fun c => decide (s.b.cyc < c + cycPerUs)) = true →
    exec .cairnPulseEnd s = .next (s))

/-- A power-on reset, a brown-out, the RST_N pin and a soft reset with its key hold the main die in reset with their
cause and without drive, and keep the power die, the Ledger, the fuses and the accumulators; a soft reset with
another key is refused with SOFT_REJECT. POWER_DIE_RESET without VDD_PWR holds the power-die logic in reset and stops
metrology's RUN. The release ends a reset that has lasted its time (1 ms after a power-on reset or brown-out, 1 µs
after a soft reset) and that no boundary-scan instruction holds, and sets SYS_STICKY.RESET. BYPASS, IDCODE and SAMPLE
leave the main die running, IDCODE holds the part's word below its revision, SAMPLE captures the pins, EXTEST and
HIGHZ hold the main die in reset. Each completes, that is exec answers a next state with the command's own effect,
for every state and operands that meet the hypotheses: powerOnReset, brownout, rstNReset, softReset, powerDieReset,
mainResetRelease, bypass, idcode, samplePreload, extest, highz. -/
def Obligations.ResetCommands : Prop :=
  (∀ (s : State),
    Live s →
    ∃ t, exec .powerOnReset s = .next t ∧ t.b.sys.inReset = true ∧ t.on F.SYS_RESET_CAUSE_POR = true ∧ t.b.sys.drvEn =
      false ∧ t.b.bed.src = s.b.bed.src ∧ t.b.bed.opsec = s.b.bed.opsec ∧ t.b.ldg.buf = s.b.ldg.buf ∧ t.b.met.keep =
      s.b.met.keep ∧ t.b.met.saved = s.b.met.saved ∧ t.b.met.mclk = false ∧ t.b.sec.ikey = s.b.sec.ikey) ∧
  (∀ (s : State),
    Live s →
    ∃ t, exec .brownout s = .next t ∧ t.b.sys.inReset = true ∧ t.on F.SYS_RESET_CAUSE_BROWNOUT = true ∧ t.on
      F.SYS_RESET_CAUSE_POR = false ∧ t.b.sys.stageBefore = s.get F.SYS_STATUS_STAGE) ∧
  (∀ (s : State),
    Live s →
    ∃ t, exec .rstNReset s = .next t ∧ t.b.sys.inReset = true ∧ t.on F.SYS_RESET_CAUSE_PIN = true ∧ t.get
      F.LDG_WR_IDX_SLOT = s.get F.LDG_WR_IDX_SLOT ∧ t.word 0x100000 = s.word 0x100000) ∧
  (∀ (s : State),
    s.b.sys.inReset = true →
    exec .rstNReset s = .next (s.put F.SYS_RESET_CAUSE_PIN 1)) ∧
  (∀ (s : State),
    Live s →
    ∃ t, exec (.softReset 0x5253) s = .next t ∧ t.b.sys.inReset = true ∧ t.on F.SYS_RESET_CAUSE_SOFT = true ∧
      t.b.sys.pwrReset = s.b.sys.pwrReset) ∧
  (∀ (key : BitVec 16) (s : State),
    Live s → key.toNat ≠ 0x5253 →
    exec (.softReset key) s = .next (applyAll s [.sticky F.SYS_STICKY_SOFT_REJECT, .led 0x0406 0 [key.toNat, 0]])) ∧
  (∀ (s : State),
    s.on F.BED_STATUS_VDD_PRESENT = false → PowerLive s →
    ∃ t, exec .powerDieReset s = .next t ∧ t.b.sys.pwrReset = true ∧ t.on F.MET_STATUS_RUN = false ∧ t.b.met.keep =
      s.b.met.keep ∧ t.b.met.saved = s.b.met.saved) ∧
  (∀ (s : State),
    s.on F.BED_STATUS_VDD_PRESENT = true →
    exec .powerDieReset s = .next (s)) ∧
  (∀ (s : State),
    s.b.sys.inReset = true → s.b.sys.jtagHold = false → s.b.sys.resetAt + usCyc (resetHold s) ≤ s.b.cyc →
    ∃ t, exec .mainResetRelease s = .next t ∧ t.b.sys.inReset = false ∧ t.on F.SYS_STICKY_RESET = true ∧
      t.b.sys.releaseAt = s.b.cyc) ∧
  (∀ (s : State),
    s.b.sys.inReset = true → s.b.cyc < s.b.sys.resetAt + usCyc (resetHold s) →
    exec .mainResetRelease s = .next (s)) ∧
  (∀ (s : State),
    s.b.sys.jtagHold = true →
    exec .mainResetRelease s = .next (s)) ∧
  (∀ (s : State),
    ∃ t, exec .bypass s = .next t ∧ t.b.jtag.instr = .bypass ∧ t.b.sys.jtagHold = false ∧ t.regs = s.regs) ∧
  (∀ (s : State),
    ∃ t, exec .idcode s = .next t ∧ t.b.jtag.instr = .idcode ∧ t.b.jtag.dr % 2 ^ 28 = 0x048120D3 ∧ t.regs = s.regs) ∧
  (∀ (pins : List Bool) (g f : List (Option Bool)) (s : State),
    ∃ t, exec (.samplePreload pins g f) s = .next t ∧ t.b.jtag.instr = .sample ∧ t.b.jtag.pins = pins ∧
      t.b.jtag.cells.length = g.length + f.length ∧ t.regs = s.regs) ∧
  (∀ (s : State),
    ∃ t, exec .extest s = .next t ∧ t.b.jtag.instr = .extest ∧ t.b.sys.inReset = true ∧ t.b.sys.jtagHold = true ∧ t.on
      F.SYS_RESET_CAUSE_JTAG = true) ∧
  (∀ (s : State),
    ∃ t, exec .highz s = .next t ∧ t.b.jtag.instr = .highz ∧ t.b.sys.inReset = true ∧ t.b.sys.jtagHold = true ∧ t.on
      F.SYS_RESET_CAUSE_JTAG = true)

/-- Permission is granted when R493's conditions hold: SYS_STATUS.PERMIT is set in stage RUN and the time since release
is shown; else nothing changes. The wait limit is noted in WAIT once it has passed. SYS_CMD.PERMIT counts only while
SYS_START.WAIT bit 3 is set. DIE_LINK sets when the path fails, stops the pump's availability and makes channel 2 of
Parapet unavailable; it clears when the path recovers, and the records held are forwarded. Each completes, that is
exec answers a next state with the command's own effect, for every state and operands that meet the hypotheses:
permissionGrant, startWaitTimeout, sysPermit, dieLinkFail, dieLinkRestore. -/
def Obligations.PermissionCommands : Prop :=
  (∀ (s : State),
    Live s → mayPermit s = true →
    ∃ t, exec .permissionGrant s = .next t ∧ t.on F.SYS_STATUS_PERMIT = true ∧ t.get F.SYS_STATUS_STAGE = 3 ∧ t.get
      F.SYS_T_PERMIT_US = sinceRelease s) ∧
  (∀ (s : State),
    mayPermit s = false →
    exec .permissionGrant s = .next (s)) ∧
  (∀ (s : State),
    Live s → s.get F.SYS_STATUS_STAGE = 2 → s.b.sys.waitAt + usCyc (1000 * s.get F.SYS_START_TMO_MS) ≤ s.b.cyc →
    ∃ t, exec .startWaitTimeout s = .next t ∧ t.b.sys.waitTmo = true ∧ t.regs = s.regs) ∧
  (∀ (s : State),
    Live s → s.b.cyc < s.b.sys.waitAt + usCyc (1000 * s.get F.SYS_START_TMO_MS) →
    exec .startWaitTimeout s = .next (s)) ∧
  (∀ (s : State),
    Live s → (s.get F.SYS_START_WAIT).testBit 3 = true →
    ∃ t, exec .sysPermit s = .next t ∧ t.b.sys.hostPermit = true ∧ t.regs = s.regs) ∧
  (∀ (s : State),
    (s.get F.SYS_START_WAIT).testBit 3 = false →
    exec .sysPermit s = .next (s)) ∧
  (∀ (s : State),
    Live s → s.on F.SYS_GUAR_DIE_LINK = false →
    ∃ t, exec .dieLinkFail s = .next t ∧ t.on F.SYS_GUAR_DIE_LINK = true ∧ t.on F.PAR_STATUS_CH2_UNAVAIL = true ∧ t.on
      F.PAR_STICKY_CH2_UNAVAIL = true ∧ t.on F.PMP_STATUS_UNAVAIL = true) ∧
  (∀ (s : State),
    Live s → s.on F.SYS_GUAR_DIE_LINK = true → PowerLive s →
    ∃ t, exec .dieLinkRestore s = .next t ∧ t.on F.SYS_GUAR_DIE_LINK = false ∧ t.on F.PAR_STATUS_CH2_UNAVAIL = false ∧
      t.on F.PMP_STATUS_UNAVAIL = false) ∧
  (∀ (s : State),
    s.on F.SYS_GUAR_DIE_LINK = false ∨ s.b.sys.pwrReset = true →
    exec .dieLinkRestore s = .next (s))

/-- VERIFY of a copy starts when none runs; its end shows whether the copy passes and its generation. A word written to a
copy that its write enable opens in MAIN is stored and the copy counts as invalid until verified; a closed copy, or
one outside MAIN, refuses it with WR_REJECT; a failed die-to-die path ignores it. CONFIG begins in CLOCK once the
clock is locked with VDD_PWR present, shows both copies' checks, and chooses the newer valid one. Each completes,
that is exec answers a next state with the command's own effect, for every state and operands that meet the
hypotheses: verifyA, verifyB, verifyDone, imageWindowWrite, configLoad. -/
def Obligations.ImageCommands : Prop :=
  (∀ (s : State),
    Live s → s.on F.CFG_STATUS_VERIFY_BUSY = false →
    ∃ t, exec .verifyA s = .next t ∧ t.on F.CFG_STATUS_VERIFY_BUSY = true ∧ t.b.cfg.verA = true ∧ t.b.cfg.verB = false) ∧
  (∀ (s : State),
    Live s → s.on F.CFG_STATUS_VERIFY_BUSY = false →
    ∃ t, exec .verifyB s = .next t ∧ t.on F.CFG_STATUS_VERIFY_BUSY = true ∧ t.b.cfg.verB = true ∧ t.b.cfg.verA = false) ∧
  (∀ (s : State),
    Live s → s.b.cfg.verA = true → s.b.cfg.verB = false →
    ∃ t, exec .verifyDone s = .next t ∧ t.on F.CFG_STATUS_VERIFY_BUSY = false ∧ t.on F.CFG_STATUS_VALID_A = copyValid s
      0 ∧ t.b.cfg.verA = false) ∧
  (∀ (s : State),
    Live s → s.b.cfg.verA = false → s.b.cfg.verB = true →
    ∃ t, exec .verifyDone s = .next t ∧ t.on F.CFG_STATUS_VERIFY_BUSY = false ∧ t.on F.CFG_STATUS_VALID_B = copyValid s
      1 ∧ t.b.cfg.verB = false) ∧
  (∀ (copy : Fin 2) (k : BitVec 14) (v : Word) (s : State),
    dieLinkOk s = true → s.b.bed.src = .main → s.on (wrFld copy) = true → s.get F.CFG_STATUS_SRC ≠ copy ∨ s.on (validFld
      (1 - copy)) = true →
    exec (.imageWindowWrite copy k v) s = .next ((s.putWord (0x140000 + 0x4000 * copy + k.toNat) v.toNat).put (validFld
      copy) 0)) ∧
  (∀ (copy : Fin 2) (k : BitVec 14) (v : Word) (s : State),
    dieLinkOk s = true → s.on (wrFld copy) = false →
    ∃ t, exec (.imageWindowWrite copy k v) s = .next t ∧ t.mem = s.mem ∧ t.on F.CFG_STICKY_WR_REJECT = true) ∧
  (∀ (copy : Fin 2) (k : BitVec 14) (v : Word) (s : State),
    dieLinkOk s = false →
    exec (.imageWindowWrite copy k v) s = .next (s)) ∧
  (∀ (s : State),
    Live s → PowerLive s → s.get F.SYS_STATUS_STAGE = 0 → s.on F.CLK_STATUS_LOCK = true → s.on F.BED_STATUS_VDD_PRESENT
      = true →
    ∃ t, exec .configLoad s = .next t ∧ t.get F.SYS_STATUS_STAGE = 1 ∧ t.on F.CFG_STATUS_VALID_A = copyValid s 0 ∧ t.on
      F.CFG_STATUS_VALID_B = copyValid s 1 ∧ t.b.cfg.chosen = (if copyValid s 0 && (!copyValid s 1 || aFirst s) then
      some 0 else if copyValid s 1 then some 1 else none))

/-- With the target open, a read of either width at an aligned address with no write waiting answers token 0xA5 and its
words after the latches of the first one; a misaligned one sets ALIGN with its address and answers nothing. A write
of either width enters the buffer while it holds fewer than 64 words, else sets WR_OVF. STATUS answers the free room
and the low status byte. An unknown command byte sets ALIGN; a timed-out read answers token 0xE1 and sets RD_TMO, but
for a page that the failed die-to-die path hides. The oldest buffered word is performed as a write. On the host link
a request frame enters the queue of 8, or sets LINK_ERR when it is full; the oldest is served in its turn. Each
completes, that is exec answers a next state with the command's own effect, for every state and operands that meet
the hypotheses: read, read4, write, write4, status, unknownCommand, rdTmo, hostWritePerform, hostLinkReadRequest,
hostLinkWriteRequest, hostLinkBulkRequest. -/
def Obligations.HostPortCommands : Prop :=
  (∀ (a : BitVec 24) (s : State),
    Live s → qspiOpen s = true → s.b.hst.wbuf = [] → a.toNat % 4 = 0 →
    ∃ t, exec (.read a 1 false) s = .next t ∧ t.b.hst.token = 0xA5 ∧ t.b.hst.out = [portWord (.qspi a.toNat) (after
      (busLatch a.toNat) (s.updB fun b => { b with hst := { b.hst with token := 0, out := [] } })) a.toNat]) ∧
  (∀ (a : BitVec 24) (s : State),
    Live s → qspiOpen s = true → s.b.hst.wbuf = [] → a.toNat % 4 = 0 →
    ∃ t, exec (.read4 a 1 true) s = .next t ∧ t.b.hst.token = 0xA5 ∧ t.b.hst.out.length = 1 ∧ t.on F.HST_STICKY_PARTIAL
      = true ∧ t.get F.HST_ERR_ADDR_ADDR = a.toNat) ∧
  (∀ (a : BitVec 24) (n : Nat) (cut : Bool) (s : State),
    Live s → qspiOpen s = true → a.toNat % 4 ≠ 0 →
    exec (.read4 a n cut) s = .next (applyAll s [updHst (fun h => { h with token := 0, out := [] }), .sticky
      F.HST_STICKY_ALIGN, .set F.HST_ERR_ADDR_ADDR a.toNat])) ∧
  (∀ (a : BitVec 24) (v : Word) (s : State),
    Live s → qspiOpen s = true → a.toNat % 4 = 0 → s.b.hst.wbuf.length < 64 →
    ∃ t, exec (.write a 0 [v] false) s = .next t ∧ t.b.hst.wbuf = s.b.hst.wbuf ++ [(a.toNat, a.toNat, v.toNat)] ∧ t.regs
      = s.regs ∧ t.mem = s.mem) ∧
  (∀ (a : BitVec 24) (v : Word) (s : State),
    Live s → qspiOpen s = true → a.toNat % 4 = 0 → s.b.hst.wbuf.length < 64 →
    ∃ t, exec (.write4 a 0 [v] false) s = .next t ∧ t.b.hst.wbuf = s.b.hst.wbuf ++ [(a.toNat, a.toNat, v.toNat)] ∧
      t.regs = s.regs ∧ t.mem = s.mem) ∧
  (∀ (a : BitVec 24) (v : Word) (s : State),
    Live s → qspiOpen s = true → a.toNat % 4 = 0 → 64 ≤ s.b.hst.wbuf.length →
    ∃ t, exec (.write a 0 [v] false) s = .next t ∧ t.b.hst.wbuf = s.b.hst.wbuf ∧ t.on F.HST_STICKY_WR_OVF = true ∧ t.get
      F.HST_ERR_ADDR_ADDR = a.toNat) ∧
  (∀ (s : State),
    Live s → qspiOpen s = true →
    ∃ t, exec .status s = .next t ∧ t.b.hst.out = [256 * (64 - s.b.hst.wbuf.length) + viewWord s 0x7018 % 256] ∧ t.regs
      = s.regs) ∧
  (∀ (code : BitVec 8) (s : State),
    Live s → qspiOpen s = true → code ≠ 0x0B → code ≠ 0x6B → code ≠ 0x02 → code ≠ 0x32 → code ≠ 0x05 →
    ∃ t, exec (.unknownCommand code) s = .next t ∧ t.on F.HST_STICKY_ALIGN = true ∧ t.b.hst.out = [] ∧ t.get
      F.HST_ERR_ADDR_ADDR = s.get F.HST_ERR_ADDR_ADDR) ∧
  (∀ (a : BitVec 24) (s : State),
    Live s → qspiOpen s = true → a.toNat % 4 = 0 → absent s (regionOf a.toNat) = false →
    ∃ t, exec (.rdTmo a) s = .next t ∧ t.b.hst.token = 0xE1 ∧ t.on F.HST_STICKY_RD_TMO = true ∧ t.get
      F.HST_ERR_ADDR_ADDR = a.toNat) ∧
  (∀ (a : BitVec 24) (s : State),
    Live s → absent s (regionOf a.toNat) = true →
    exec (.rdTmo a) s = .next (s)) ∧
  (∀ (w : Nat × Nat × Nat) (l : List (Nat × Nat × Nat)) (s : State),
    Live s → s.b.hst.wbuf = w :: l →
    ∃ t, exec .hostWritePerform s = .next t ∧ t = after (busWrite (.qspi w.1) w.2.1 w.2.2) (s.updB fun b =>
      { b with hst := { b.hst with wbuf := l } })) ∧
  (∀ (f : Frame) (s : State),
    Live s → linkOpen s = true → f.cls = 3 → f.type = 0x30 → frameLenBad f = false → f.hops ≠ 0 → f.crcOk = true →
      s.b.hst.link.length < 8 →
    ∃ t, exec (.hostLinkReadRequest (some f)) s = .next t ∧ t.b.hst.link = s.b.hst.link ++ [linkReq f] ∧ t.regs = s.regs) ∧
  (∀ (f : Frame) (s : State),
    Live s → linkOpen s = true → f.cls = 3 → f.type = 0x32 → frameLenBad f = false → f.hops ≠ 0 → f.crcOk = true → 8 ≤
      s.b.hst.link.length →
    ∃ t, exec (.hostLinkWriteRequest (some f)) s = .next t ∧ t.b.hst.link = s.b.hst.link ∧ t.on F.HST_STICKY_LINK_ERR =
      true ∧ t.get F.HST_ERR_ADDR_ADDR = accessAddr f) ∧
  (∀ (f : Frame) (s : State),
    Live s → linkOpen s = true → f.cls = 3 → f.type = 0x32 → frameLenBad f = false → f.hops ≠ 0 → f.crcOk = true →
      s.b.hst.link.length < 8 →
    ∃ t, exec (.hostLinkWriteRequest (some f)) s = .next t ∧ t.b.hst.link = s.b.hst.link ++ [linkReq f] ∧ t.regs =
      s.regs) ∧
  (∀ (f : Frame) (s : State),
    Live s → linkOpen s = true → f.cls = 4 → f.type = 0x40 → frameLenBad f = false → f.hops ≠ 0 → f.crcOk = true →
      s.b.hst.link.length < 8 →
    ∃ t, exec (.hostLinkBulkRequest (some f)) s = .next t ∧ t.b.hst.link = s.b.hst.link ++ [linkReq f] ∧ t.regs = s.regs) ∧
  (∀ (q : LinkReq) (l : List LinkReq) (s : State),
    Live s → linkOpen s = true → s.b.hst.link = q :: l → q.type = 0x30 →
    ∃ t, exec (.hostLinkReadRequest none) s = .next t ∧ t = after (linkRead (zeroAddr q)) (s.updB fun b =>
      { b with hst := { b.hst with link := l } })) ∧
  (∀ (q : LinkReq) (l : List LinkReq) (s : State),
    Live s → linkOpen s = true → s.b.hst.link = q :: l → q.type = 0x32 → q.count ≠ 0 → q.addr % 4 ≠ 0 → q.count ≤ 8 →
    ∃ t, exec (.hostLinkWriteRequest none) s = .next t ∧ t = after (linkSend 3 0x33 q.src [accessBlock q.tag q.count 10
      0 q.addr]) (s.updB fun b => { b with hst := { b.hst with link := l } })) ∧
  (∀ (q : LinkReq) (l : List LinkReq) (s : State),
    Live s → linkOpen s = true → s.b.hst.link = q :: l → q.type = 0x40 → 1024 < q.count →
    ∃ t, exec (.hostLinkBulkRequest none) s = .next t ∧ t = after (linkSend 4 0x41 q.src [accessBlock q.tag 0 9 0
      q.addr]) (s.updB fun b => { b with hst := { b.hst with link := l } }))

/-- A write to an unmapped address sets HST_STICKY.UNMAPPED with its address; one to a page register that its lock
protects is refused with its address kept; a plain RW register takes the word, unless a source of higher rank has
written it in the same cycle; a word of the main-die memories is not written and sets RO_WRITE. The lock key locks
its page, the unlock key unlocks it unless it is locked until reset, any other key sets KEY_BAD. A group that waits
comes into force from the cycle after its commit on. CONFIG without a valid copy ends with the factory defaults,
READY and WAIT; with a copy whose writes all succeed it ends with that copy in force. Each completes, that is exec
answers a next state with the command's own effect, for every state and operands that meet the hypotheses:
registerWrite, lockKeyLock, lockKeyUnlock, keyBad, commitAdopt, configApplyDone. -/
def Obligations.AccessCommands : Prop :=
  (∀ (a : BitVec 22) (v : Word) (s : State),
    Live s → regionOf (4 * a.toNat) = .unmapped →
    exec (.registerWrite a v) s = .next (applyAll s [.sticky F.HST_STICKY_UNMAPPED, .set F.HST_ERR_ADDR_ADDR (4 *
      a.toNat)])) ∧
  (∀ (v : Word) (s : State),
    Live s → s.on (lockedFld 0x5000) = true →
    exec (.registerWrite (BitVec.ofNat 22 (F.CRN_FAULT_EN_EV.key / 128)) v) s = .next (applyAll s [.sticky
      F.CFG_STICKY_LOCK_REJECT, .set F.CFG_LOCK_ADDR_ADDR (F.CRN_FAULT_EN_EV.key / 32)])) ∧
  (∀ (v : Word) (s : State),
    Live s → s.on (lockedFld 0x5000) = false → overtaken s (.qspi 0) (F.CRN_FAULT_EN_EV.key / 32) = false →
    exec (.registerWrite (BitVec.ofNat 22 (F.CRN_FAULT_EN_EV.key / 128)) v) s = .next ((s.updB fun b =>
      { b with wroteNow := b.wroteNow ++ [((F.CRN_FAULT_EN_EV.key / 32), 0, viewWord s (F.CRN_FAULT_EN_EV.key / 32))] }).put
      F.CRN_FAULT_EN_EV v.toNat)) ∧
  (∀ (v : Word) (w : Nat) (s : State),
    Live s → s.on (lockedFld 0x5000) = false → s.b.wroteNow = [((F.CRN_FAULT_EN_EV.key / 32), 2, w)] →
    exec (.registerWrite (BitVec.ofNat 22 (F.CRN_FAULT_EN_EV.key / 128)) v) s = .next (s)) ∧
  (∀ (a : BitVec 22) (v : Word) (s : State),
    Live s → 0x200000 ≤ 4 * a.toNat → 4 * a.toNat < 0x300000 →
    exec (.registerWrite a v) s = .next (applyAll s [.sticky F.HST_STICKY_RO_WRITE, .set F.HST_ERR_ADDR_ADDR (4 *
      a.toNat)])) ∧
  (∀ (n : Fin 44) (perm : Bool) (s : State),
    Live s → absent s (.page (pageBase n) 0x20) = false →
    ∃ t, exec (.lockKeyLock n perm) s = .next t ∧ t.on (lockedFld (pageBase n)) = true ∧ t.on (permFld (pageBase n)) =
      (perm || s.on (permFld (pageBase n)))) ∧
  (∀ (n : Fin 44) (s : State),
    Live s → absent s (.page (pageBase n) 0x20) = false → s.on (permFld (pageBase n)) = false →
    exec (.lockKeyUnlock n) s = .next (s.put (lockedFld (pageBase n)) 0)) ∧
  (∀ (n : Fin 44) (s : State),
    Live s → absent s (.page (pageBase n) 0x20) = false → s.on (permFld (pageBase n)) = true →
    exec (.lockKeyUnlock n) s = .next (s.stick F.CFG_STICKY_LOCK_REJECT)) ∧
  (∀ (n : Fin 44) (key : BitVec 16) (s : State),
    Live s → absent s (.page (pageBase n) 0x20) = false → key ≠ 0x4C4B → key ≠ 0x554C →
    exec (.keyBad n key) s = .next (applyAll s [.sticky F.CFG_STICKY_KEY_BAD, .led 0x1405 0 [pageBase n, key.toNat]])) ∧
  (∀ (s : State),
    Live s → groupWaits s .mon = true → s.b.commitNow.contains .mon = false →
    ∃ t, exec (.commitAdopt .mon) s = .next t ∧ t = applyAll s (adoptGroup .mon 0x3058 0x305C) ∧ groupWaits t .mon =
      false ∧ t.cur F.MON_TTHR_HI = s.pend F.MON_TTHR_HI) ∧
  (∀ (g : Group) (s : State),
    Live s → groupWaits s g = false ∨ s.b.commitNow.contains g = true →
    exec (.commitAdopt g) s = .next (s)) ∧
  (∀ (s : State),
    Live s → s.get F.SYS_STATUS_STAGE = 1 → s.on F.CLK_STATUS_LOCK = true → s.b.cfg.chosen = none →
    ∃ t, exec .configApplyDone s = .next t ∧ t.on F.SYS_STATUS_READY = true ∧ t.get F.SYS_STATUS_STAGE = 2 ∧
      t.b.sys.cfgEnded = true ∧ t.on F.CFG_STATUS_DEFAULTED = true ∧ t.get F.CFG_STATUS_SRC = 2 ∧ t.get
      F.SYS_T_READY_US = sinceRelease s) ∧
  (∀ (c : Fin 2) (i : Img) (s : State),
    Live s → s.get F.SYS_STATUS_STAGE = 1 → s.on F.CLK_STATUS_LOCK = true → s.b.cfg.chosen = some c.val → s.b.cfg.other
      = false → (checkCopy (after resetRecord s) c).toOption = some i → (loadAll i.signed (imgWrites i) (after
      resetRecord s)).2 = none →
    ∃ t, exec .configApplyDone s = .next t ∧ t.on F.CFG_STATUS_LOADED = true ∧ t.get F.CFG_STATUS_SRC = c ∧ t.get
      F.CFG_GEN_IN_FORCE_GEN = i.gen % 2 ^ 32 ∧ t.get F.CFG_CRC_IN_FORCE_CRC = i.crc % 2 ^ 32)

/-- At a sample instant with the timer running the blocks act once in R130's order; at W the scan's pair, the shadows and
the mirror act in order; with the timer stopped neither does anything. END ends the class-0 run; END of class 1
resumes a suspended class 2. A run of TW_LOCATE writes the distance of a new pair's segment, one of PUMP_SPD outside
RUN hands on ISLOT 0xE3, one of GFL_OUTER or GFM_OUTER under cessation or trip sets the inputs' set-points to 0, one
of GFL_DQ or GFM_VI gives a disabled bridge its safe values (the model's reading, log entry 37). Every due armed slot
is disarmed and shown done. A remote read or write that its enable refuses is answered with error 3; an enabled one
performs its accesses and is answered; a broadcast write is not answered. An accepted bulk read is queued, and its
last fragment ends it. Each completes, that is exec answers a next state with the command's own effect, for every
state and operands that meet the hypotheses: sampleInstant, shadowWrite, endRun, schedDone, remoteReadRequest,
remoteWriteRequest, bulkReadRequest, bulkFragmentSend. -/
def Obligations.LateCommands : Prop :=
  (∀ (volts : Fin 128) (mv : Fin 1000) (s : State),
    Live s → s.b.ke0.timer = true →
    exec (.sampleInstant volts mv) s = .next (after (inOrder [fpmAdopt, fadEnds, facTrigger, fadTrigger, ke0Sample,
      butSample, startDuePairs, mptSample, grdSample, phsSample, twvSample, metSample, pmpSlots (1000 * volts + mv),
      fpmSlots, brakeThresholds, ke1Sample butSlot]) s)) ∧
  (∀ (volts : Fin 128) (mv : Fin 1000) (s : State),
    s.b.ke0.timer = false →
    exec (.sampleInstant volts mv) s = .next (s)) ∧
  (∀ (s : State),
    Live s → s.b.ke0.timer = true →
    exec .shadowWrite s = .next (after (inOrder [mptAtW, fun s => shadowWrite (mptOwns s) s, mptBack, butAtW]) s)) ∧
  (∀ (s : State),
    s.b.ke0.timer = false →
    exec .shadowWrite s = .next (s)) ∧
  (∀ (s : State),
    Live s → s.b.ke0.running = true → kRom s 0 = none → bitsOf (kNext s 0) 63 58 = 1 →
    ∃ t, exec (.endRun 0) s = .next t ∧ t.b.ke0.running = false ∧ t.b.ke0.satLast = s.b.ke0.satRun) ∧
  (∀ (s : State),
    Live s → kRom s 0 = none → bitsOf (kNext s 0) 63 58 ≠ 1 →
    exec (.endRun 0) s = .next (s)) ∧
  (∀ (sv : List (Nat × Int × Int) × List Nat) (s : State),
    Live s → s.b.ke1.cls = 1 → s.b.ke1.saved = some sv → kRom s 1 = none → bitsOf (kNext s 1) 63 58 = 1 → (ke1Run s).out
      = [] →
    ∃ t, exec (.endRun 1) s = .next t ∧ t.b.ke1.cls = 2 ∧ t.b.ke1.saved = none ∧ t.b.ke1.core.acc = sv.1 ∧ t.on
      F.KE1_SCHED_STAT_C1_RUN = false ∧ t.on F.KE1_SCHED_STAT_C2_RUN = true) ∧
  (∀ (sg c : Nat) (s : State),
    Live s → s.b.ke1.cls = 2 → kRom s 1 = some 0x23 → sg < 8 → runInt s 0xA7 = ((16 * c + sg : Nat) : Int) →
      s.b.ke1.rom.pairs = some (c + 1) → par s 1 (0x580 + 8 * sg) ≠ 0 →
    ∃ t, exec (.endRun 1) s = .next t ∧ t.get (F.KE1_OSLOT_VAL (0x70 + sg)) = slotOf 16 ((par s 1 (0x581 + 8 * sg) + par
      s 1 (0x582 + 8 * sg) * (runVal s 0xA6 + par s 1 (0x583 + 8 * sg))) / 2)) ∧
  (∀ (s : State),
    Live s → s.b.ke1.cls = 2 → kRom s 1 = some 0x20 → par s 1 0x400 ≠ 0 → runInt s 0xE2 ≠ 3 →
    ∃ t, exec (.endRun 1) s = .next t ∧ t.get (F.KE1_OSLOT_VAL 0) = runWord s 0xE3 % 2 ^ 32) ∧
  (∀ (gfm : Bool) (j : Fin 12) (s : State),
    Live s → s.b.ke1.cls = 1 → kRom s 1 = some (0x10 + bit gfm) → (runInt s 0x82 = 2 ∨ runInt s 0x82 = 4) →
    ∃ t, exec (.endRun 1) s = .next t ∧ (t.b.ke1.setNew.any fun r => r.words.contains (0x48 + j.val, 0)) = true) ∧
  (∀ (r b : Nat) (k : Nat) (s : State),
    Live s → s.b.ke0.running = true → kRom s 0 = some r → (r = 1 ∨ r = 2) → b < 4 → brPar s b 0 = 0 → k < 18 →
    ∃ t, exec (.endRun 0) s = .next t ∧ t.get (F.KE0_OSLOT_VAL (18 * b + k)) = s.get (F.KE0_OSAFE_VAL (18 * b + k))) ∧
  (∀ (n : Fin 8) (s : State),
    Live s → (dueSlots s).contains n.val = true →
    ∃ t, exec .schedDone s = .next t ∧ (t.get F.RDG_SCHED_STAT_ARMED).testBit n = false ∧ (t.get
      F.RDG_SCHED_STAT_DONE).testBit n = true) ∧
  (∀ (s : State),
    dueSlots s = [] →
    exec .schedDone s = .next (s)) ∧
  (∀ (n : Fin 8) (f : Frame) (s : State),
    Live s → ringCarries s n = true → f.cls = 3 → f.type = 0x30 → f.dest = s.get F.RDG_ADDR_ADDR → frameLenBad f = false
      → f.hops ≠ 0 → f.crcOk = true → s.on F.RDG_CTRL_REMOTE_RD_EN = true → accessCount f = 0 →
    exec (.remoteReadRequest n f) s = .next (after (originate 3 f.src 0x31 [accessBlock (frameTag f) 0 0 0 (accessAddr
      f)]) s)) ∧
  (∀ (n : Fin 8) (f : Frame) (s : State),
    Live s → ringCarries s n = true → f.cls = 3 → f.type = 0x30 → f.dest = s.get F.RDG_ADDR_ADDR → frameLenBad f = false
      → f.hops ≠ 0 → f.crcOk = true → s.on F.RDG_CTRL_REMOTE_RD_EN = true → 1 ≤ accessCount f → accessCount f ≤ 8 →
      accessAddr f % 4 = 0 →
    exec (.remoteReadRequest n f) s = .next (after (originate 3 f.src 0x31 (accessBlock (frameTag f) (accessCount f)
      (readCode (wordAddrs (accessAddr f) (accessCount f))) 0 (accessAddr f) :: pairWords (readWords .remote
      ((wordAddrs (accessAddr f) (accessCount f)).map some) s).1)) (applyAll s (readWords .remote ((wordAddrs
      (accessAddr f) (accessCount f)).map some) s).2))) ∧
  (∀ (n : Fin 8) (f : Frame) (s : State),
    Live s → ringCarries s n = true → f.cls = 3 → f.type = 0x32 → f.dest = s.get F.RDG_ADDR_ADDR → frameLenBad f = false
      → f.hops ≠ 0 → f.crcOk = true → s.on F.RDG_CTRL_REMOTE_WR_EN = false →
    exec (.remoteWriteRequest n f) s = .next (after (originate 3 f.src 0x33 [accessBlock (frameTag f) (accessCount f) 3
      0 (accessAddr f)]) s)) ∧
  (∀ (n : Fin 8) (f : Frame) (s : State),
    Live s → ringCarries s n = true → f.cls = 3 → f.type = 0x32 → f.dest = 0xFFF → s.get F.RDG_ADDR_ADDR ≠ 0xFFF →
      frameLenBad f = false → f.hops ≠ 0 → f.crcOk = true → s.on F.RDG_CTRL_REMOTE_WR_EN = true → 1 ≤ accessCount f →
      accessCount f ≤ 8 → accessAddr f % 4 = 0 →
    exec (.remoteWriteRequest n f) s = .next (applyAll s (writeWords .remote ((wordAddrs (accessAddr f) (accessCount
      f)).zip (blockWords f.data (accessCount f))) s).2)) ∧
  (∀ (n : Fin 8) (f : Frame) (s : State),
    Live s → ringCarries s n = true → f.cls = 4 → f.type = 0x40 → f.dest = s.get F.RDG_ADDR_ADDR → frameLenBad f = false
      → f.hops ≠ 0 → f.crcOk = true → s.on F.RDG_CTRL_REMOTE_RD_EN = true → 1 ≤ accessCount f → accessCount f ≤ 1024 →
      accessAddr f % 4 = 0 →
    ∃ t, exec (.bulkReadRequest n f) s = .next t ∧ t.b.rdg.serving = s.b.rdg.serving ++
      [{ src := f.src, tag := frameTag f, addr := accessAddr f, left := accessCount f, frag := 0 }] ∧ t.regs = s.regs) ∧
  (∀ (n : Fin 8) (f : Frame) (s : State),
    Live s → ringCarries s n = true → f.cls = 4 → f.type = 0x40 → f.dest = s.get F.RDG_ADDR_ADDR → frameLenBad f = false
      → f.hops ≠ 0 → f.crcOk = true → s.on F.RDG_CTRL_REMOTE_RD_EN = false →
    exec (.bulkReadRequest n f) s = .next (after (originate 4 f.src 0x41 [accessBlock (frameTag f) 0 3 0 (accessAddr
      f)]) s)) ∧
  (∀ (j : BulkJob) (l : List BulkJob) (s : State),
    Live s → s.b.rdg.serving = j :: l → j.left ≤ 120 →
    ∃ t, exec .bulkFragmentSend s = .next t ∧ t.b.rdg.serving = l)

/-- For each command of the references, the timebase, the lanes and the ring and every state and operand: the next state
differs from the state before it at most in the register fields listed for the command (its destinations, the flags
it may set with their interrupt bits, and what the spec makes follow them at once: the Ledger's loss counters, the
guarantees, the pins), in the pages whose shadowed or pending values it may adopt, and in the block state named.
Every other register, value in force, pending value and word of memory, and the queue, are unchanged. The commands
that store to memory (localSecondBoundary, bulkFragment) change no word but those at the addresses the statement
computes. -/
def Obligations.FrameTimeAndLinks : Prop :=
  (∀ (r : Fin 2) (s t : State), exec (.refQualified r) s = .next t →
      Within {
          fields := guarFlds ++ [F.CLK_HO_TIME_US, F.CLK_STATUS_HOLDOVER, F.CLK_STATUS_LOCK_RAW, F.CLK_STATUS_REFA_QUAL,
            F.CLK_STATUS_REFB_QUAL, F.CLK_STATUS_SEARCHING, F.TIM_STATUS_HOLDOVER] ++ flags
            [F.CLK_STICKY_HOLDOVER_UNTRAINED] } s t ∧ t.b = { s.b with
          setNow := t.b.setNow, sys := t.b.sys, plumb := t.b.plumb, bed := t.b.bed, ldg := t.b.ldg, crn := t.b.crn, phs :=
          t.b.phs }) ∧
  (∀ (r : Fin 2) (s t : State), exec (.refLoss r) s = .next t →
      Within {
          fields := guarFlds ++ [F.CLK_HO_TIME_US, F.CLK_STATUS_HOLDOVER, F.CLK_STATUS_LOCK_RAW, F.CLK_STATUS_REFA_QUAL,
            F.CLK_STATUS_REFB_QUAL, F.CLK_STATUS_SEARCHING, F.TIM_STATUS_HOLDOVER] ++ flags
            [F.CLK_STICKY_HOLDOVER_UNTRAINED, F.CLK_STICKY_LOSS_REFA, F.CLK_STICKY_LOSS_REFB] } s t ∧
      t.b = { s.b with
          setNow := t.b.setNow, sys := t.b.sys, plumb := t.b.plumb, bed := t.b.bed, ldg := t.b.ldg, crn := t.b.crn, phs :=
          t.b.phs }) ∧
  (∀ (s t : State), exec .lockRawLost s = .next t →
      Within {
          fields := guarFlds ++ [F.CLK_HO_TIME_US, F.CLK_STATUS_HOLDOVER, F.CLK_STATUS_LOCK_RAW, F.CLK_STATUS_SEARCHING,
            F.TIM_STATUS_HOLDOVER] ++ flags [F.CLK_STICKY_HOLDOVER_UNTRAINED, F.CLK_STICKY_LOCK_LOST] } s t ∧
      t.b = { s.b with
          setNow := t.b.setNow, sys := t.b.sys, plumb := t.b.plumb, bed := t.b.bed, ldg := t.b.ldg, crn := t.b.crn, phs :=
          t.b.phs }) ∧
  (∀ (code : Fin 4096) (phase : Fin 256) (s t : State), exec (.lineLock code phase) s = .next t →
      Within {
          fields := guarFlds ++ [F.CLK_HO_TIME_US, F.CLK_PHASE_NOW_PHASE, F.CLK_SEARCH_CODE_A, F.CLK_SEARCH_CODE_B,
            F.CLK_SEARCH_VALID_A, F.CLK_SEARCH_VALID_B, F.CLK_STATUS_ACTIVE_REF, F.CLK_STATUS_HOLDOVER,
            F.CLK_STATUS_LOCK_RAW, F.CLK_STATUS_SEARCHING, F.TIM_STATUS_HOLDOVER] ++ flags [F.CLK_STICKY_SWITCHOVER] } s t ∧
      t.b = { s.b with
          setNow := t.b.setNow, sys := t.b.sys, plumb := t.b.plumb, tim := t.b.tim, bed := t.b.bed, ldg := t.b.ldg, crn :=
          t.b.crn, phs := t.b.phs }) ∧
  (∀ (s t : State), exec .hopMiss s = .next t →
      Within { fields := flags [F.CLK_STICKY_STORED_MISS] } s t ∧
      t.b = { s.b with setNow := t.b.setNow, plumb := t.b.plumb }) ∧
  (∀ (s t : State), exec .phaseMoveStep s = .next t →
      Within { fields := [F.CLK_PHASE_NOW_PHASE] } s t ∧ t.b = { s.b with plumb := t.b.plumb, tim := t.b.tim }) ∧
  (∀ (s t : State), exec .lockDeclare s = .next t →
      Within { fields := [F.CLK_STATUS_LOCK] } s t ∧ t.b = { s.b with plumb := t.b.plumb }) ∧
  (∀ (s t : State), exec .lockClear s = .next t →
      Within { fields := [F.CLK_STATUS_LOCK, F.CLK_STATUS_SEARCHING] } s t ∧
      t.b = { s.b with plumb := t.b.plumb }) ∧
  (∀ (s t : State), exec .lockFiltFault s = .next t →
      Within { fields := ledgerFlds ++ flags [F.CLK_STICKY_LOCK_FILT_FAULT] } s t ∧
      t.b = { s.b with setNow := t.b.setNow, ldg := t.b.ldg }) ∧
  (∀ (s t : State), exec .hoTrained s = .next t →
      Within { fields := [F.CLK_STATUS_HO_TRAINED] } s t ∧ t.b = s.b) ∧
  (∀ (s t : State), exec .holdoverLong s = .next t →
      Within {
          fields := guarFlds ++ [F.RDG_SCHED_STAT_ARMED] ++ flags [F.CLK_STICKY_HOLDOVER_LONG, F.RDG_STICKY_SCHED_CANCEL] } s t ∧
      t.b = { s.b with
          setNow := t.b.setNow, sys := t.b.sys, plumb := t.b.plumb, ldg := t.b.ldg, crn := t.b.crn, phs := t.b.phs }) ∧
  (∀ (s t : State), exec .clkPhaseCommit s = .next t →
      Within { fields := ledgerFlds, pend := [0x01] } s t ∧ t.b = { s.b with
          setNow := t.b.setNow, commitNow := t.b.commitNow, commitWas := t.b.commitWas, waiting := t.b.waiting, ldg := t.b.ldg }) ∧
  (∀ (s t : State), exec .clearStored s = .next t →
      Within { fields := [F.CLK_SEARCH_VALID_A, F.CLK_SEARCH_VALID_B] } s t ∧ t.b = s.b) ∧
  (∀ (s t : State), exec .switch s = .next t →
      Within {
          fields := guarFlds ++ [F.CLK_HO_TIME_US, F.CLK_STATUS_HOLDOVER, F.CLK_STATUS_LOCK_RAW, F.CLK_STATUS_SEARCHING,
            F.TIM_STATUS_HOLDOVER] ++ flags [F.CLK_STICKY_HOLDOVER_UNTRAINED] } s t ∧ t.b = { s.b with
          setNow := t.b.setNow, sys := t.b.sys, plumb := t.b.plumb, bed := t.b.bed, ldg := t.b.ldg, crn := t.b.crn, phs :=
          t.b.phs }) ∧
  (∀ (s t : State), exec .relockFull s = .next t →
      Within {
          fields := guarFlds ++ [F.CLK_STATUS_LOCK_RAW, F.CLK_STATUS_SEARCHING, F.SYS_STATUS_DIV_SYNC] ++ flags
            [F.CLK_STICKY_LOCK_LOST] } s t ∧ t.b = { s.b with
          setNow := t.b.setNow, sys := t.b.sys, plumb := t.b.plumb, ldg := t.b.ldg, crn := t.b.crn, phs := t.b.phs }) ∧
  (∀ (phase : Fin 64) (settled : Bool) (s t : State), exec (.ppsInEdge phase settled) s = .next t →
      Within {
          fields := guarFlds ++ [F.SYS_STATUS_DIV_SYNC, F.TIM_PPS_ERR_ERR, F.TIM_STATUS_PPS_IN_PRESENT,
            F.TIM_STATUS_TOD_ARMED, F.TIM_STATUS_VALID] ++ flags [F.TIM_STICKY_PPS_STEP] } s t ∧
      t.b = { s.b with
          freeCtr := t.b.freeCtr, setNow := t.b.setNow, sys := t.b.sys, tim := t.b.tim, bed := t.b.bed, ldg := t.b.ldg, sec :=
          t.b.sec, crn := t.b.crn, phs := t.b.phs }) ∧
  (∀ (s t : State), exec .ppsMissing s = .next t →
      Within { fields := guarFlds ++ [F.TIM_STATUS_PPS_IN_PRESENT] ++ flags [F.TIM_STICKY_PPS_MISSING] } s t ∧
      t.b = { s.b with setNow := t.b.setNow, sys := t.b.sys, ldg := t.b.ldg, crn := t.b.crn, phs := t.b.phs }) ∧
  (∀ (s t : State), exec .localSecondBoundary s = .next t →
      Within {
          fields := guarFlds ++ signFlds ++ [F.MET_FRZ_CNT_N, F.MET_FRZ_TS_W_W 0, F.MET_FRZ_TS_W_W 1, F.MET_FRZ_TS_W_W 2,
            F.PHS_STATUS_ACTIVE, F.PHS_STATUS_RUN, F.RDG_BULK_STATUS_BUSY, F.RDG_BULK_STATUS_DONE,
            F.RDG_BULK_STATUS_ERR, F.RDG_CNT_HOPDROP_N, F.RDG_CNT_UNREACH_N, F.RDG_RACC_STATUS_BUSY,
            F.RDG_RACC_STATUS_DONE, F.RDG_RACC_STATUS_ERR, F.SYS_STATUS_DIV_SYNC] ++ flags [F.RDG_STICKY_HOP_DROP,
            F.RDG_STICKY_RACC_ERR, F.RDG_STICKY_UNREACH_DROP] ++ [ppsEdgeFld] ++ queueFlds (s.get F.QUE_MET_QUEUE),
          force := [0x70],
          words := queueWord s (s.get F.QUE_MET_QUEUE) } s t ∧ t.b = { s.b with
          setNow := t.b.setNow, waiting := t.b.waiting, sys := t.b.sys, tim := t.b.tim, ldg := t.b.ldg, sec := t.b.sec, queSeq
          := t.b.queSeq, queNow := t.b.queNow, crn := t.b.crn, lanes := t.b.lanes, rdg := t.b.rdg, phs := t.b.phs, met
          := t.b.met }) ∧
  (∀ (s t : State), exec .ppsOutEnd s = .next t →
      Within {} s t ∧ t.b = { s.b with tim := t.b.tim }) ∧
  (∀ (s t : State), exec .todCommit s = .next t →
      Within {
          fields := ledgerFlds ++ [F.TIM_STATUS_TOD_ARMED] ++ flags [F.TIM_STICKY_TOD_REJECT],
          force := [0x02],
          pend := [0x02] } s t ∧ t.b = { s.b with
          setNow := t.b.setNow, commitWas := t.b.commitWas, tim := t.b.tim, ldg := t.b.ldg, sec := t.b.sec }) ∧
  (∀ (v : Word) (s t : State), exec (.timCtrlWrite v) s = .next t →
      Within {
          fields := guarFlds ++ [F.RDG_SCHED_STAT_ARMED, F.RDG_STATUS_GM_HOPS, F.RDG_STATUS_UP_VALID, F.TIM_CTRL_GM,
            F.TIM_CTRL_PPS_IN_POL, F.TIM_CTRL_PPS_OUT_EN, F.TIM_CTRL_PPS_OUT_GATE, F.TIM_CTRL_PPS_W, F.TIM_STATUS_GM,
            F.TIM_STATUS_TOD_ARMED, F.TIM_STATUS_VALID] ++ flags [F.RDG_STICKY_SCHED_CANCEL, F.TIM_STICKY_VALID_LOST] } s t ∧
      t.b = { s.b with
          setNow := t.b.setNow, sys := t.b.sys, tim := t.b.tim, bed := t.b.bed, ldg := t.b.ldg, crn := t.b.crn, phs := t.b.phs }) ∧
  (∀ (s t : State), exec .invalidate s = .next t →
      Within {
          fields := guarFlds ++ [F.RDG_SCHED_STAT_ARMED, F.TIM_STATUS_VALID] ++ flags [F.RDG_STICKY_SCHED_CANCEL,
            F.TIM_STICKY_VALID_LOST] } s t ∧ t.b = { s.b with
          setNow := t.b.setNow, sys := t.b.sys, tim := t.b.tim, bed := t.b.bed, ldg := t.b.ldg, crn := t.b.crn, phs := t.b.phs }) ∧
  (∀ (s t : State), exec .leapSet s = .next t →
      Within { fields := [F.TIM_STATUS_LEAP_PENDING] } s t ∧ t.b = s.b) ∧
  (∀ (s t : State), exec .leapClr s = .next t →
      Within { fields := [F.TIM_STATUS_LEAP_PENDING] } s t ∧ t.b = s.b) ∧
  (∀ (s t : State), exec .timNowRead s = .next t →
      Within { fields := [F.TIM_NOW_FRAC_FRAC, F.TIM_NOW_W0_SEC_LO, F.TIM_NOW_W1_W1, F.TIM_NOW_W2_W2] } s t ∧
      t.b = s.b) ∧
  (∀ (v : Word) (s t : State), exec (.rdgCtrlWrite v) s = .next t →
      Within {
          fields := guarFlds ++ [F.RDG_CTRL_ENABLE, F.RDG_CTRL_IT_PARAPET, F.RDG_CTRL_REMOTE_RD_EN, F.RDG_CTRL_REMOTE_WR_EN,
            F.RDG_STATUS_GM_HOPS, F.RDG_STATUS_JOINED, F.RDG_STATUS_UP_LANE, F.RDG_STATUS_UP_VALID,
            F.RDG_STATUS_WRAP_E, F.RDG_STATUS_WRAP_W] ++ flags [F.BUT_STICKY_PARTNER_LOST, F.RDG_STICKY_ADDR_CONFLICT,
            F.RDG_STICKY_HOP_EXCEED, F.RDG_STICKY_UPSTREAM_CHANGE] ++ (List.range 8).map F.LNK_STATUS_BIT_LOCK ++
            (List.range 8).map F.LNK_STATUS_BLOCK_LOCK ++ (List.range 8).map F.LNK_STATUS_BONDED ++ (List.range 8).map
            F.LNK_STATUS_LOOP_REMOTE ++ (List.range 8).map F.LNK_STATUS_POL_INV ++ (List.range 8).map
            F.LNK_STATUS_READY ++ (List.range 8).map F.LNK_STATUS_REVERSED ++ (List.range 8).map F.LNK_STATUS_ROLE ++
            (List.range 8).map F.LNK_STATUS_SIG_DET ++ (List.range 8).map F.LNK_STATUS_STAGE ++ flags ((List.range
            8).map F.LNK_STICKY_ROLE_CONFLICT) } s t ∧ t.b = { s.b with
          setNow := t.b.setNow, sys := t.b.sys, ldg := t.b.ldg, crn := t.b.crn, lanes := t.b.lanes, rdg := t.b.rdg, phs :=
          t.b.phs }) ∧
  (∀ (s t : State), exec .keepaliveSend s = .next t →
      Within {
          fields := guarFlds ++ [F.RDG_STATUS_GM_HOPS, F.RDG_STATUS_JOINED, F.RDG_STATUS_UP_LANE, F.RDG_STATUS_UP_VALID] ++
            flags [F.RDG_STICKY_ADDR_CONFLICT, F.RDG_STICKY_HOP_EXCEED, F.RDG_STICKY_UPSTREAM_CHANGE] } s t ∧
      t.b = { s.b with
          setNow := t.b.setNow, sys := t.b.sys, ldg := t.b.ldg, crn := t.b.crn, lanes := t.b.lanes, rdg := t.b.rdg, phs :=
          t.b.phs }) ∧
  (∀ (n : Fin 8) (k : Keepalive) (s t : State), exec (.keepalive n k) s = .next t →
      Within {
          fields := guarFlds ++ [F.RDG_STATUS_GM_HOPS, F.RDG_STATUS_JOINED, F.RDG_STATUS_UP_LANE, F.RDG_STATUS_UP_VALID] ++
            flags [F.RDG_STICKY_ADDR_CONFLICT, F.RDG_STICKY_HOP_EXCEED, F.RDG_STICKY_UPSTREAM_CHANGE] } s t ∧
      t.b = { s.b with
          setNow := t.b.setNow, sys := t.b.sys, ldg := t.b.ldg, crn := t.b.crn, lanes := t.b.lanes, rdg := t.b.rdg, phs :=
          t.b.phs }) ∧
  (∀ (lane : Fin 8) (f : Frame) (s t : State), exec (.frameForward lane f) s = .next t →
      Within {
          fields := [F.RDG_BULK_STATUS_BUSY, F.RDG_BULK_STATUS_DONE, F.RDG_BULK_STATUS_ERR, F.RDG_CNT_CRC_N,
            F.RDG_CNT_HOPDROP_N, F.RDG_CNT_UNREACH_N, F.RDG_RACC_STATUS_BUSY, F.RDG_RACC_STATUS_DONE,
            F.RDG_RACC_STATUS_ERR] ++ flags [F.RDG_STICKY_CRC_ERR, F.RDG_STICKY_HOP_DROP, F.RDG_STICKY_RACC_ERR,
            F.RDG_STICKY_UNREACH_DROP] } s t ∧
      t.b = { s.b with setNow := t.b.setNow, lanes := t.b.lanes, rdg := t.b.rdg }) ∧
  (∀ (n : Fin 8) (f : Frame) (s t : State), exec (.intertrip n f) s = .next t →
      Within {
          fields := tripFlds ++ [F.RDG_CNT_CRC_N] ++ flags [F.RDG_STICKY_CRC_ERR, F.RDG_STICKY_IT_RX] } s t ∧
      t.b = { s.b with
          setNow := t.b.setNow, ldg := t.b.ldg, crn := t.b.crn, lanes := t.b.lanes, rdg := t.b.rdg, pairs := t.b.pairs, pwm :=
          t.b.pwm, cmps := t.b.cmps, mpt := t.b.mpt, fad := t.b.fad }) ∧
  (∀ (groups : BitVec 16) (s t : State), exec (.itCmd groups) s = .next t →
      Within {
          fields := [F.RDG_BULK_STATUS_BUSY, F.RDG_BULK_STATUS_DONE, F.RDG_BULK_STATUS_ERR, F.RDG_CNT_HOPDROP_N,
            F.RDG_CNT_UNREACH_N, F.RDG_RACC_STATUS_BUSY, F.RDG_RACC_STATUS_DONE, F.RDG_RACC_STATUS_ERR] ++ flags
            [F.RDG_STICKY_HOP_DROP, F.RDG_STICKY_RACC_ERR, F.RDG_STICKY_UNREACH_DROP] } s t ∧
      t.b = { s.b with setNow := t.b.setNow, lanes := t.b.lanes, rdg := t.b.rdg }) ∧
  (∀ (n : Fin 8) (f : Frame) (s t : State), exec (.nodeLost n f) s = .next t →
      Within {
          fields := causeFlds ++ [F.RDG_CNT_CRC_N, F.RDG_CNT_HOPDROP_N] ++ flags [F.RDG_STICKY_CRC_ERR, F.RDG_STICKY_HOP_DROP,
            F.RDG_STICKY_NODE_LOST_RX] } s t ∧
      t.b = { s.b with setNow := t.b.setNow, ldg := t.b.ldg, crn := t.b.crn, rdg := t.b.rdg }) ∧
  (∀ (phase : Fin 1024) (s t : State), exec (.exchangeStart phase) s = .next t →
      Within { fields := [F.RDG_CNT_HOPDROP_N] ++ flags [F.RDG_STICKY_HOP_DROP] } s t ∧
      t.b = { s.b with setNow := t.b.setNow, lanes := t.b.lanes, rdg := t.b.rdg }) ∧
  (∀ (n : Fin 8) (f : Frame) (phase : Fin 1024) (turn : Nat) (s t : State), exec (.delayReq n f phase turn) s = .next
      t →
      Within {
          fields := [F.RDG_CNT_CRC_N, F.RDG_CNT_HOPDROP_N] ++ flags [F.RDG_STICKY_CRC_ERR, F.RDG_STICKY_HOP_DROP] } s t ∧
      t.b = { s.b with setNow := t.b.setNow, lanes := t.b.lanes, rdg := t.b.rdg }) ∧
  (∀ (n : Fin 8) (f : Frame) (phase : Fin 1024) (s t : State), exec (.delayResp n f phase) s = .next t →
      Within {
          fields := guarFlds ++ [F.RDG_CNT_CRC_N, F.RDG_CNT_HOPDROP_N, F.RDG_OFFSET_THETA, F.RDG_PATHDLY_DLY,
            F.RDG_SCHED_STAT_ARMED, F.RDG_STATUS_TIME_CONV, F.TIM_STATUS_VALID] ++ flags [F.RDG_STICKY_CRC_ERR,
            F.RDG_STICKY_HOP_DROP, F.RDG_STICKY_SCHED_CANCEL, F.RDG_STICKY_TIME_STEP, F.TIM_STICKY_VALID_LOST] } s t ∧
      t.b = { s.b with
          freeCtr := t.b.freeCtr, setNow := t.b.setNow, sys := t.b.sys, tim := t.b.tim, bed := t.b.bed, ldg := t.b.ldg, crn :=
          t.b.crn, lanes := t.b.lanes, rdg := t.b.rdg, phs := t.b.phs }) ∧
  (∀ (s t : State), exec .exchangeTimeout s = .next t →
      Within {
          fields := guarFlds ++ [F.RDG_SCHED_STAT_ARMED, F.RDG_STATUS_TIME_CONV, F.TIM_STATUS_VALID] ++ flags
            [F.RDG_STICKY_SCHED_CANCEL, F.TIM_STICKY_VALID_LOST] } s t ∧ t.b = { s.b with
          setNow := t.b.setNow, sys := t.b.sys, tim := t.b.tim, bed := t.b.bed, ldg := t.b.ldg, crn := t.b.crn, rdg :=
          t.b.rdg, phs := t.b.phs }) ∧
  (∀ (s t : State), exec .echoCheck s = .next t →
      Within {
          fields := guarFlds ++ [F.LDG_STATUS_BUSY] ++ flags [F.LDG_STICKY_CMD_REJECT, F.RDG_STICKY_CAL_FAIL] ++ (List.range
            8).map F.RDG_LANE_CAL_FAIL } s t ∧ t.b = { s.b with
          setNow := t.b.setNow, sys := t.b.sys, ldg := t.b.ldg, crn := t.b.crn, lanes := t.b.lanes, rdg := t.b.rdg, phs :=
          t.b.phs }) ∧
  (∀ (n : Fin 8) (probe : BitVec 56) (own : Bool) (rt : Nat) (s t : State), exec (.echo n probe own rt) s = .next t →
      Within {
          fields := guarFlds ++ [F.LDG_STATUS_BUSY, F.RDG_LANE_CAL_FAIL n] ++ flags [F.LDG_STICKY_CMD_REJECT,
            F.RDG_STICKY_CAL_FAIL] } s t ∧ t.b = { s.b with
          setNow := t.b.setNow, sys := t.b.sys, ldg := t.b.ldg, crn := t.b.crn, lanes := t.b.lanes, rdg := t.b.rdg, phs :=
          t.b.phs }) ∧
  (∀ (s t : State), exec .recal s = .next t →
      Within {
          fields := guarFlds ++ [F.LDG_STATUS_BUSY] ++ flags [F.LDG_STICKY_CMD_REJECT, F.RDG_STICKY_CAL_FAIL] ++ (List.range
            8).map F.RDG_LANE_CAL_FAIL } s t ∧ t.b = { s.b with
          setNow := t.b.setNow, sys := t.b.sys, ldg := t.b.ldg, crn := t.b.crn, lanes := t.b.lanes, rdg := t.b.rdg, phs :=
          t.b.phs }) ∧
  (∀ (n : Fin 8) (passed : Bool) (corr : BitVec 16) (s t : State), exec (.recalDone n passed corr) s = .next t →
      Within {
          fields := guarFlds ++ [F.LDG_STATUS_BUSY, F.RDG_LANE_CAL_DONE n, F.RDG_LANE_CAL_FAIL n, F.RDG_LANE_CAL_RXCORR n] ++
            flags [F.LDG_STICKY_CMD_REJECT, F.RDG_STICKY_CAL_FAIL] } s t ∧ t.b = { s.b with
          setNow := t.b.setNow, sys := t.b.sys, ldg := t.b.ldg, crn := t.b.crn, lanes := t.b.lanes, rdg := t.b.rdg, phs :=
          t.b.phs }) ∧
  (∀ (s t : State), exec .rdgCntClr s = .next t →
      Within { fields := [F.RDG_CNT_CRC_N, F.RDG_CNT_HOPDROP_N, F.RDG_CNT_UNREACH_N] } s t ∧ t.b = s.b) ∧
  (∀ (n : Fin 8) (s t : State), exec (.neighbourLost n) s = .next t →
      Within {
          fields := guarFlds ++ [F.RDG_BULK_STATUS_BUSY, F.RDG_BULK_STATUS_DONE, F.RDG_BULK_STATUS_ERR, F.RDG_CNT_HOPDROP_N,
            F.RDG_CNT_UNREACH_N, F.RDG_RACC_STATUS_BUSY, F.RDG_RACC_STATUS_DONE, F.RDG_RACC_STATUS_ERR,
            F.RDG_STATUS_GM_HOPS, F.RDG_STATUS_JOINED, F.RDG_STATUS_UP_LANE, F.RDG_STATUS_UP_VALID,
            F.RDG_STATUS_WRAP_E, F.RDG_STATUS_WRAP_W] ++ flags [F.RDG_STICKY_HOP_DROP, F.RDG_STICKY_HOP_EXCEED,
            F.RDG_STICKY_NEIGHBOUR_LOST, F.RDG_STICKY_RACC_ERR, F.RDG_STICKY_UNREACH_DROP,
            F.RDG_STICKY_UPSTREAM_CHANGE, F.RDG_STICKY_WRAP] } s t ∧ t.b = { s.b with
          setNow := t.b.setNow, waiting := t.b.waiting, sys := t.b.sys, ldg := t.b.ldg, crn := t.b.crn, lanes := t.b.lanes,
          rdg := t.b.rdg, phs := t.b.phs }) ∧
  (∀ (n : Fin 8) (s t : State), exec (.unwrap n) s = .next t →
      Within {
          fields := guarFlds ++ [F.RDG_STATUS_GM_HOPS, F.RDG_STATUS_JOINED, F.RDG_STATUS_UP_LANE, F.RDG_STATUS_UP_VALID,
            F.RDG_STATUS_WRAP_E, F.RDG_STATUS_WRAP_W] ++ flags [F.RDG_STICKY_HOP_EXCEED, F.RDG_STICKY_UPSTREAM_CHANGE] } s t ∧
      t.b = { s.b with
          setNow := t.b.setNow, sys := t.b.sys, ldg := t.b.ldg, crn := t.b.crn, lanes := t.b.lanes, rdg := t.b.rdg, phs :=
          t.b.phs }) ∧
  (∀ (mask : BitVec 8) (s t : State), exec (.schedCommit mask) s = .next t →
      Within {
          fields := ledgerFlds ++ [F.RDG_SCHED_STAT_ARMED, F.RDG_SCHED_STAT_DONE] ++ flags [F.RDG_STICKY_SCHED_LATE],
          force := [0x10],
          pend := [0x10] } s t ∧
      t.b = { s.b with setNow := t.b.setNow, commitWas := t.b.commitWas, ldg := t.b.ldg }) ∧
  (∀ (s t : State), exec .schedDone s = .next t →
      Within {
          fields := tripFlds ++ [F.PHS_RUN_SET, F.PWX_GEN_GRP, F.RDG_SCHED_STAT_ARMED, F.RDG_SCHED_STAT_DONE] } s t ∧
      t.b = { s.b with
          setNow := t.b.setNow, schedNow := t.b.schedNow, ldg := t.b.ldg, crn := t.b.crn, lanes := t.b.lanes, rdg := t.b.rdg,
          pairs := t.b.pairs, pwm := t.b.pwm, cmps := t.b.cmps, mpt := t.b.mpt, fad := t.b.fad }) ∧
  (∀ (write : Bool) (count : Fin 16) (s t : State), exec (.raccCmd write count) s = .next t →
      Within {
          fields := [F.RDG_BULK_STATUS_BUSY, F.RDG_BULK_STATUS_DONE, F.RDG_BULK_STATUS_ERR, F.RDG_CNT_HOPDROP_N,
            F.RDG_CNT_UNREACH_N, F.RDG_RACC_STATUS_BUSY, F.RDG_RACC_STATUS_DONE, F.RDG_RACC_STATUS_ERR] ++ flags
            [F.RDG_STICKY_HOP_DROP, F.RDG_STICKY_RACC_ERR, F.RDG_STICKY_UNREACH_DROP] } s t ∧
      t.b = { s.b with setNow := t.b.setNow, lanes := t.b.lanes, rdg := t.b.rdg }) ∧
  (∀ (n : Fin 8) (f : Frame) (s t : State), exec (.remoteReadRequest n f) s = .next t →
      Within {
          fields := [F.BED_OPSEC_HI_S, F.BED_OPSEC_LO_S, F.BED_SUBSEC_N, F.HST_ERR_ADDR_ADDR, F.KE0_ECC_CNT_N,
            F.KE1_ECC_CNT_N, F.QUE_STATUS_NONEMPTY, F.QUE_WM_STAT_Q, F.RDG_BULK_STATUS_BUSY, F.RDG_BULK_STATUS_DONE,
            F.RDG_BULK_STATUS_ERR, F.RDG_CNT_CRC_N, F.RDG_CNT_HOPDROP_N, F.RDG_CNT_UNREACH_N, F.RDG_RACC_STATUS_BUSY,
            F.RDG_RACC_STATUS_DONE, F.RDG_RACC_STATUS_ERR, F.TIM_NOW_FRAC_FRAC, F.TIM_NOW_W0_SEC_LO, F.TIM_NOW_W1_W1,
            F.TIM_NOW_W2_W2] ++ flags [F.HST_STICKY_BURST_END, F.HST_STICKY_UNMAPPED, F.KE0_STICKY_ECC_CORR,
            F.KE1_STICKY_ECC_CORR, F.QUE_STICKY_WM, F.RDG_STICKY_CRC_ERR, F.RDG_STICKY_HOP_DROP,
            F.RDG_STICKY_RACC_ERR, F.RDG_STICKY_UNREACH_DROP] ++ (List.range 8).map F.LNK_PRBS_BITS_HI_N ++
            (List.range 8).map F.LNK_PRBS_BITS_LO_N ++ (List.range 8).map F.LNK_PRBS_ERR_N ++ (List.range 8).map
            F.LNK_RAW_RX_HI_W ++ (List.range 8).map F.LNK_RAW_RX_LO_W ++ (List.range 32).map F.MET_ACC_HI_A ++
            (List.range 32).map F.MET_ACC_LO_A ++ (List.range 32).map F.MET_ACC_WRAP_W ++ (List.range 32).map
            F.MET_FRZ_HI_A ++ (List.range 32).map F.MET_FRZ_LO_A ++ (List.range 32).map F.MET_FRZ_WRAP_W ++
            (List.range 32).map F.QUE_Q_CONS_W ++ (List.range 32).map F.QUE_Q_FILL_W } s t ∧
      t.b = { s.b with freeCtr := t.b.freeCtr, setNow := t.b.setNow, lanes := t.b.lanes, rdg := t.b.rdg }) ∧
  (∀ (n : Fin 8) (f : Frame) (s t : State), exec (.readResponse n f) s = .next t →
      Within {
          fields := [F.RDG_CNT_CRC_N, F.RDG_CNT_HOPDROP_N, F.RDG_RACC_STATUS_BUSY, F.RDG_RACC_STATUS_DONE,
            F.RDG_RACC_STATUS_ERR] ++ flags [F.RDG_STICKY_CRC_ERR, F.RDG_STICKY_HOP_DROP, F.RDG_STICKY_RACC_ERR] ++
            (List.range 8).map F.RDG_RACC_DATA_DATA } s t ∧
      t.b = { s.b with setNow := t.b.setNow, rdg := t.b.rdg }) ∧
  (∀ (n : Fin 8) (f : Frame) (s t : State), exec (.writeResponse n f) s = .next t →
      Within {
          fields := [F.RDG_CNT_CRC_N, F.RDG_CNT_HOPDROP_N, F.RDG_RACC_STATUS_BUSY, F.RDG_RACC_STATUS_DONE,
            F.RDG_RACC_STATUS_ERR] ++ flags [F.RDG_STICKY_CRC_ERR, F.RDG_STICKY_HOP_DROP, F.RDG_STICKY_RACC_ERR] } s t ∧
      t.b = { s.b with setNow := t.b.setNow, rdg := t.b.rdg }) ∧
  (∀ (s t : State), exec .raccTimeout s = .next t →
      Within {
          fields := [F.RDG_RACC_STATUS_BUSY, F.RDG_RACC_STATUS_DONE, F.RDG_RACC_STATUS_ERR] ++ flags [F.RDG_STICKY_RACC_ERR] } s t ∧
      t.b = { s.b with setNow := t.b.setNow, rdg := t.b.rdg }) ∧
  (∀ (queue : Fin 32) (count : Fin 2048) (s t : State), exec (.bulkCmd queue count) s = .next t →
      Within {
          fields := [F.RDG_BULK_STATUS_BUSY, F.RDG_BULK_STATUS_DONE, F.RDG_BULK_STATUS_ERR, F.RDG_CNT_HOPDROP_N,
            F.RDG_CNT_UNREACH_N, F.RDG_RACC_STATUS_BUSY, F.RDG_RACC_STATUS_DONE, F.RDG_RACC_STATUS_ERR] ++ flags
            [F.RDG_STICKY_HOP_DROP, F.RDG_STICKY_RACC_ERR, F.RDG_STICKY_UNREACH_DROP] } s t ∧
      t.b = { s.b with setNow := t.b.setNow, lanes := t.b.lanes, rdg := t.b.rdg }) ∧
  (∀ (n : Fin 8) (f : Frame) (s t : State), exec (.bulkReadRequest n f) s = .next t →
      Within {
          fields := [F.RDG_BULK_STATUS_BUSY, F.RDG_BULK_STATUS_DONE, F.RDG_BULK_STATUS_ERR, F.RDG_CNT_CRC_N,
            F.RDG_CNT_HOPDROP_N, F.RDG_CNT_UNREACH_N, F.RDG_RACC_STATUS_BUSY, F.RDG_RACC_STATUS_DONE,
            F.RDG_RACC_STATUS_ERR] ++ flags [F.RDG_STICKY_CRC_ERR, F.RDG_STICKY_HOP_DROP, F.RDG_STICKY_RACC_ERR,
            F.RDG_STICKY_UNREACH_DROP] } s t ∧
      t.b = { s.b with setNow := t.b.setNow, lanes := t.b.lanes, rdg := t.b.rdg }) ∧
  (∀ (s t : State), exec .bulkFragmentSend s = .next t →
      Within {
          fields := [F.BED_OPSEC_HI_S, F.BED_OPSEC_LO_S, F.BED_SUBSEC_N, F.HST_ERR_ADDR_ADDR, F.KE0_ECC_CNT_N,
            F.KE1_ECC_CNT_N, F.QUE_STATUS_NONEMPTY, F.QUE_WM_STAT_Q, F.RDG_BULK_STATUS_BUSY, F.RDG_BULK_STATUS_DONE,
            F.RDG_BULK_STATUS_ERR, F.RDG_CNT_HOPDROP_N, F.RDG_CNT_UNREACH_N, F.RDG_RACC_STATUS_BUSY,
            F.RDG_RACC_STATUS_DONE, F.RDG_RACC_STATUS_ERR, F.TIM_NOW_FRAC_FRAC, F.TIM_NOW_W0_SEC_LO, F.TIM_NOW_W1_W1,
            F.TIM_NOW_W2_W2] ++ flags [F.HST_STICKY_BURST_END, F.HST_STICKY_UNMAPPED, F.KE0_STICKY_ECC_CORR,
            F.KE1_STICKY_ECC_CORR, F.QUE_STICKY_WM, F.RDG_STICKY_HOP_DROP, F.RDG_STICKY_RACC_ERR,
            F.RDG_STICKY_UNREACH_DROP] ++ (List.range 8).map F.LNK_PRBS_BITS_HI_N ++ (List.range 8).map
            F.LNK_PRBS_BITS_LO_N ++ (List.range 8).map F.LNK_PRBS_ERR_N ++ (List.range 8).map F.LNK_RAW_RX_HI_W ++
            (List.range 8).map F.LNK_RAW_RX_LO_W ++ (List.range 32).map F.MET_ACC_HI_A ++ (List.range 32).map
            F.MET_ACC_LO_A ++ (List.range 32).map F.MET_ACC_WRAP_W ++ (List.range 32).map F.MET_FRZ_HI_A ++
            (List.range 32).map F.MET_FRZ_LO_A ++ (List.range 32).map F.MET_FRZ_WRAP_W ++ (List.range 32).map
            F.QUE_Q_CONS_W ++ (List.range 32).map F.QUE_Q_FILL_W } s t ∧
      t.b = { s.b with freeCtr := t.b.freeCtr, setNow := t.b.setNow, lanes := t.b.lanes, rdg := t.b.rdg }) ∧
  (∀ (n : Fin 8) (f : Frame) (s t : State), exec (.bulkFragment n f) s = .next t →
      Within {
          fields := [F.RDG_BULK_STATUS_BUSY, F.RDG_BULK_STATUS_DONE, F.RDG_BULK_STATUS_ERR, F.RDG_CNT_CRC_N,
            F.RDG_CNT_HOPDROP_N] ++ flags [F.RDG_STICKY_CRC_ERR, F.RDG_STICKY_HOP_DROP, F.RDG_STICKY_RACC_ERR] ++
            queueFlds (s.b.rdg.bulk.elim 0 fun m => m.queue),
          words := queueWord s (s.b.rdg.bulk.elim 0 fun m => m.queue) } s t ∧
      t.b = { s.b with setNow := t.b.setNow, queSeq := t.b.queSeq, queNow := t.b.queNow, rdg := t.b.rdg }) ∧
  (∀ (s t : State), exec .bulkTimeout s = .next t →
      Within {
          fields := [F.RDG_BULK_STATUS_BUSY, F.RDG_BULK_STATUS_DONE, F.RDG_BULK_STATUS_ERR] ++ flags [F.RDG_STICKY_RACC_ERR] } s t ∧
      t.b = { s.b with setNow := t.b.setNow, rdg := t.b.rdg }) ∧
  (∀ (n : Fin 8) (v : Word) (s t : State), exec (.lnkCtrlWrite n v) s = .next t →
      Within {
          fields := guarFlds ++ flags [F.BUT_STICKY_PARTNER_LOST, F.RDG_STICKY_ADDR_CONFLICT] ++ (List.range 8).map
            F.LNK_CTRL_AUTO_ALIGN ++ (List.range 8).map F.LNK_CTRL_BOND ++ (List.range 8).map F.LNK_CTRL_ENABLE ++
            (List.range 8).map F.LNK_CTRL_MODE ++ (List.range 8).map F.LNK_CTRL_POL_AUTO ++ (List.range 8).map
            F.LNK_CTRL_RATE ++ (List.range 8).map F.LNK_CTRL_RETRY_LIM ++ (List.range 8).map F.LNK_CTRL_RX_INV ++
            (List.range 8).map F.LNK_CTRL_TX_INV ++ (List.range 8).map F.LNK_STATUS_BIT_LOCK ++ (List.range 8).map
            F.LNK_STATUS_BLOCK_LOCK ++ (List.range 8).map F.LNK_STATUS_BONDED ++ (List.range 8).map
            F.LNK_STATUS_LOOP_REMOTE ++ (List.range 8).map F.LNK_STATUS_POL_INV ++ (List.range 8).map
            F.LNK_STATUS_READY ++ (List.range 8).map F.LNK_STATUS_REVERSED ++ (List.range 8).map F.LNK_STATUS_ROLE ++
            (List.range 8).map F.LNK_STATUS_SIG_DET ++ (List.range 8).map F.LNK_STATUS_STAGE ++ flags ((List.range
            8).map F.LNK_STICKY_ROLE_CONFLICT) ++ flags ((List.range 8).map F.LNK_STICKY_TEST_REJECT) } s t ∧
      t.b = { s.b with
          setNow := t.b.setNow, sys := t.b.sys, ldg := t.b.ldg, crn := t.b.crn, lanes := t.b.lanes, phs := t.b.phs }) ∧
  (∀ (n : Fin 8) (s t : State), exec (.signalDetect n) s = .next t →
      Within { fields := [F.LNK_STATUS_SIG_DET n, F.LNK_STATUS_STAGE n] } s t ∧
      t.b = { s.b with lanes := t.b.lanes }) ∧
  (∀ (n : Fin 8) (phase : BitVec 8) (freq : BitVec 16) (s t : State), exec (.bitLock n phase freq) s = .next t →
      Within {
          fields := [F.LNK_CDR_FREQ n, F.LNK_CDR_PHASE n, F.LNK_STATUS_BIT_LOCK n, F.LNK_STATUS_STAGE n] } s t ∧
      t.b = { s.b with lanes := t.b.lanes }) ∧
  (∀ (n : Fin 8) (s t : State), exec (.blockLock n) s = .next t →
      Within { fields := [F.LNK_STATUS_BLOCK_LOCK n, F.LNK_STATUS_STAGE n] } s t ∧
      t.b = { s.b with lanes := t.b.lanes }) ∧
  (∀ (n : Fin 8) (inverted : Bool) (s t : State), exec (.polarity n inverted) s = .next t →
      Within {
          fields := ledgerFlds ++ [F.LNK_STATUS_POL_INV n, F.LNK_STATUS_STAGE n] ++ flags [F.LNK_STICKY_POL_CORRECTED n] } s t ∧
      t.b = { s.b with setNow := t.b.setNow, ldg := t.b.ldg, lanes := t.b.lanes }) ∧
  (∀ (n : Fin 8) (swapped : Bool) (partnerLane : Fin 8) (skew : Nat) (s t : State), exec (.laneReversal n swapped
      partnerLane skew) s = .next t →
      Within {
          fields := ledgerFlds ++ [F.LNK_SKEW_BITS n, F.LNK_STATUS_REVERSED n] ++ flags [F.LNK_STICKY_DESKEW_FAIL n,
            F.LNK_STICKY_REVERSAL_CORRECTED n] ++ (List.range 8).map F.LNK_STATUS_STAGE } s t ∧
      t.b = { s.b with setNow := t.b.setNow, ldg := t.b.ldg, lanes := t.b.lanes }) ∧
  (∀ (n : Fin 8) (measured : Bool) (corr : BitVec 16) (rt : Nat) (s t : State), exec (.delayMeasurement n measured
      corr rt) s = .next t →
      Within { fields := guarFlds ++ [F.RDG_LANE_CAL_DONE n, F.RDG_LANE_CAL_RXCORR n] } s t ∧ t.b = { s.b with
          freeCtr := t.b.freeCtr, setNow := t.b.setNow, sys := t.b.sys, ldg := t.b.ldg, crn := t.b.crn, lanes := t.b.lanes,
          phs := t.b.phs }) ∧
  (∀ (n : Fin 8) (s t : State), exec (.laneReady n) s = .next t →
      Within {
          fields := guarFlds ++ [F.BUT_STATUS_CODE, F.BUT_STATUS_DRV_EN, F.BUT_STATUS_READY, F.BUT_STATUS_STATE,
            F.LNK_STATUS_READY n, F.LNK_STATUS_RETRIES n, F.LNK_STATUS_STAGE n] } s t ∧ t.b = { s.b with
          setNow := t.b.setNow, sys := t.b.sys, ldg := t.b.ldg, crn := t.b.crn, lanes := t.b.lanes, but := t.b.but, phs :=
          t.b.phs }) ∧
  (∀ (n : Fin 8) (w : BitVec 56) (s t : State), exec (.train n w) s = .next t →
      Within {
          fields := [F.LNK_STATUS_LOOP_REMOTE n, F.LNK_TRAIN_RX_W n, F.RDG_LANE_CAL_DONE n, F.RDG_LANE_CAL_RXCORR n] } s t ∧
      t.b = { s.b with lanes := t.b.lanes }) ∧
  (∀ (n : Fin 8) (s t : State), exec (.stageTmo n) s = .next t →
      Within {
          fields := ledgerFlds ++ [F.LNK_CNT_RETRAIN_N n, F.LNK_STATUS_BIT_LOCK n, F.LNK_STATUS_BLOCK_LOCK n,
            F.LNK_STATUS_LOOP_REMOTE n, F.LNK_STATUS_POL_INV n, F.LNK_STATUS_READY n, F.LNK_STATUS_RETRIES n,
            F.LNK_STATUS_REVERSED n, F.LNK_STATUS_SIG_DET n, F.LNK_STATUS_STAGE n] ++ flags
            [F.LNK_STICKY_RETRY_EXHAUSTED n, F.LNK_STICKY_STAGE_TMO n] } s t ∧
      t.b = { s.b with setNow := t.b.setNow, ldg := t.b.ldg, lanes := t.b.lanes }) ∧
  (∀ (n : Fin 8) (cause : Fin 4) (s t : State), exec (.linkDown n cause) s = .next t →
      Within {
          fields := guarFlds ++ [F.LNK_CNT_HDR_ERR_N n, F.LNK_CNT_RETRAIN_N n, F.LNK_STATUS_BIT_LOCK n,
            F.LNK_STATUS_BLOCK_LOCK n, F.LNK_STATUS_LOOP_REMOTE n, F.LNK_STATUS_POL_INV n, F.LNK_STATUS_READY n,
            F.LNK_STATUS_REVERSED n, F.LNK_STATUS_SIG_DET n, F.LNK_STATUS_STAGE n] ++ flags
            [F.BUT_STICKY_PARTNER_LOST, F.LNK_STICKY_LINK_DOWN n] } s t ∧ t.b = { s.b with
          freeCtr := t.b.freeCtr, setNow := t.b.setNow, sys := t.b.sys, ldg := t.b.ldg, crn := t.b.crn, lanes := t.b.lanes,
          phs := t.b.phs }) ∧
  (∀ (n : Fin 8) (s t : State), exec (.cdrRange n) s = .next t →
      Within {
          fields := guarFlds ++ [F.LNK_CNT_HDR_ERR_N n, F.LNK_CNT_RETRAIN_N n, F.LNK_STATUS_BIT_LOCK n,
            F.LNK_STATUS_BLOCK_LOCK n, F.LNK_STATUS_LOOP_REMOTE n, F.LNK_STATUS_POL_INV n, F.LNK_STATUS_READY n,
            F.LNK_STATUS_REVERSED n, F.LNK_STATUS_SIG_DET n, F.LNK_STATUS_STAGE n] ++ flags
            [F.BUT_STICKY_PARTNER_LOST, F.LNK_STICKY_CDR_RANGE n, F.LNK_STICKY_LINK_DOWN n] } s t ∧
      t.b = { s.b with
          freeCtr := t.b.freeCtr, setNow := t.b.setNow, sys := t.b.sys, ldg := t.b.ldg, crn := t.b.crn, lanes := t.b.lanes,
          phs := t.b.phs }) ∧
  (∀ (n : Fin 8) (s t : State), exec (.bitslip n) s = .next t →
      Within { fields := flags [F.LNK_STICKY_SLIP_IGNORED n] } s t ∧
      t.b = { s.b with setNow := t.b.setNow, lanes := t.b.lanes }) ∧
  (∀ (n : Fin 8) (s t : State), exec (.retrain n) s = .next t →
      Within {
          fields := guarFlds ++ flags [F.BUT_STICKY_PARTNER_LOST] ++ (List.range 8).map F.LNK_STATUS_BIT_LOCK ++ (List.range
            8).map F.LNK_STATUS_BLOCK_LOCK ++ (List.range 8).map F.LNK_STATUS_LOOP_REMOTE ++ (List.range 8).map
            F.LNK_STATUS_POL_INV ++ (List.range 8).map F.LNK_STATUS_READY ++ (List.range 8).map F.LNK_STATUS_RETRIES
            ++ (List.range 8).map F.LNK_STATUS_REVERSED ++ (List.range 8).map F.LNK_STATUS_SIG_DET ++ (List.range
            8).map F.LNK_STATUS_STAGE } s t ∧ t.b = { s.b with
          setNow := t.b.setNow, sys := t.b.sys, ldg := t.b.ldg, crn := t.b.crn, lanes := t.b.lanes, phs := t.b.phs }) ∧
  (∀ (n : Fin 8) (s t : State), exec (.prbsErrInject n) s = .next t →
      Within {} s t ∧ t.b = { s.b with lanes := t.b.lanes }) ∧
  (∀ (n : Fin 8) (s t : State), exec (.prbsCntClr n) s = .next t →
      Within { fields := [F.LNK_PRBS_BITS_LO_N n, F.LNK_PRBS_STATUS_SAT n] } s t ∧
      t.b = { s.b with lanes := t.b.lanes }) ∧
  (∀ (n : Fin 8) (v : Word) (s t : State), exec (.lnkLoopWrite n v) s = .next t →
      Within {
          fields := flags [F.BUT_STICKY_PARTNER_LOST] ++ (List.range 8).map F.LNK_LOOP_MODE ++ (List.range 8).map
            F.LNK_LOOP_TX_QUIET ++ (List.range 8).map F.LNK_STATUS_BIT_LOCK ++ (List.range 8).map
            F.LNK_STATUS_BLOCK_LOCK ++ (List.range 8).map F.LNK_STATUS_LOOP_REMOTE ++ (List.range 8).map
            F.LNK_STATUS_POL_INV ++ (List.range 8).map F.LNK_STATUS_READY ++ (List.range 8).map F.LNK_STATUS_REVERSED
            ++ (List.range 8).map F.LNK_STATUS_SIG_DET ++ (List.range 8).map F.LNK_STATUS_STAGE ++ flags ((List.range
            8).map F.LNK_STICKY_TEST_REJECT) } s t ∧
      t.b = { s.b with setNow := t.b.setNow, lanes := t.b.lanes }) ∧
  (∀ (n : Fin 8) (v : Word) (s t : State), exec (.lnkPrbsCtrlWrite n v) s = .next t →
      Within {
          fields := guarFlds ++ [F.LNK_PRBS_CTRL_CHK n, F.LNK_PRBS_CTRL_GEN n, F.LNK_PRBS_STATUS_LOCK n,
            F.LNK_STATUS_BLOCK_LOCK n, F.LNK_STATUS_READY n, F.LNK_STATUS_STAGE n] ++ flags
            [F.BUT_STICKY_PARTNER_LOST, F.LNK_STICKY_TEST_REJECT n] } s t ∧ t.b = { s.b with
          setNow := t.b.setNow, sys := t.b.sys, ldg := t.b.ldg, crn := t.b.crn, lanes := t.b.lanes, phs := t.b.phs }) ∧
  (∀ (n : Fin 8) (s t : State), exec (.prbsLock n) s = .next t →
      Within { fields := [F.LNK_PRBS_STATUS_LOCK n] } s t ∧
      t.b = { s.b with freeCtr := t.b.freeCtr, lanes := t.b.lanes }) ∧
  (∀ (n : Fin 8) (s t : State), exec (.prbsResync n) s = .next t →
      Within { fields := [F.LNK_PRBS_STATUS_LOCK n] ++ flags [F.LNK_STICKY_PRBS_RESYNC n] } s t ∧
      t.b = { s.b with setNow := t.b.setNow }) ∧
  (∀ (n : Fin 8) (errors : Bool) (s t : State), exec (.prbsSat n errors) s = .next t →
      Within { fields := [F.LNK_PRBS_STATUS_SAT n] ++ flags [F.LNK_STICKY_PRBS_SAT n] } s t ∧
      t.b = { s.b with setNow := t.b.setNow }) ∧
  (∀ (n : Fin 8) (s t : State), exec (.prbsBitsRead n) s = .next t →
      Within { fields := [F.LNK_PRBS_BITS_HI_N n, F.LNK_PRBS_BITS_LO_N n, F.LNK_PRBS_ERR_N n] } s t ∧ t.b = s.b) ∧
  (∀ (n : Fin 8) (w : BitVec 64) (s t : State), exec (.rawRxRead n w) s = .next t →
      Within { fields := [F.LNK_RAW_RX_HI_W n, F.LNK_RAW_RX_LO_W n] } s t ∧ t.b = s.b) ∧
  (∀ (s t : State), exec .fullSearchFail s = .next t →
      Within { fields := [F.CLK_STATUS_SEARCHING] ++ flags [F.CLK_STICKY_STORED_MISS] } s t ∧
      t.b = { s.b with setNow := t.b.setNow, plumb := t.b.plumb })

/-- For each command of PWM, trips, the pump, the comparators and the gate protection and every state and operand: the
next state differs from the state before it at most in the register fields listed for the command (its destinations,
the flags it may set with their interrupt bits, and what the spec makes follow them at once: the Ledger's loss
counters, the guarantees, the pins), in the pages whose shadowed or pending values it may adopt, and in the block
state named. Every other register, value in force, pending value and word of memory, and the queue, are unchanged. -/
def Obligations.FramePower : Prop :=
  (∀ (n : Fin 4) (v : Word) (s t : State), exec (.pwmCtrlWrite n v) s = .next t →
      Within {
          fields := tripFlds ++ guarFlds ++ [F.PWX_CTRL_ENABLE] ++ (List.range 3).map F.PWM_CTRL_AUTO ++ (List.range 3).map
            F.PWM_CTRL_ENABLE } s t ∧ t.b = { s.b with
          setNow := t.b.setNow, sys := t.b.sys, ldg := t.b.ldg, crn := t.b.crn, lanes := t.b.lanes, rdg := t.b.rdg, pairs :=
          t.b.pairs, pwm := t.b.pwm, cmps := t.b.cmps, mpt := t.b.mpt, fad := t.b.fad, phs := t.b.phs }) ∧
  (∀ (p : Fin 49) (s t : State), exec (.pairPeriodBoundary p) s = .next t →
      Within {
          fields := tripFlds ++ [F.PAIR_STAT_CNT p, F.PAIR_STAT_PEND p, F.PWM_CLAMP_PAIR (p / 16)] ++ flags
            [F.PWM_STICKY_DUTY_CLAMP (p / 16), F.PWX_STICKY_BRK_CLAMP] ++ (List.range 64).map F.WIN_STAT_HEFF,
          force := [0x40, 0x41, 0x42, 0x43] } s t ∧ t.b = { s.b with
          setNow := t.b.setNow, ldg := t.b.ldg, crn := t.b.crn, lanes := t.b.lanes, rdg := t.b.rdg, pairs := t.b.pairs, pwm :=
          t.b.pwm, cmps := t.b.cmps, mpt := t.b.mpt, fad := t.b.fad }) ∧
  (∀ (p : Fin 49) (s t : State), exec (.pairMidPeriod p) s = .next t →
      Within {
          fields := tripFlds ++ [F.PAIR_STAT_CNT p, F.PAIR_STAT_PEND p, F.PWM_CLAMP_PAIR (p / 16)] ++ flags
            [F.PWM_STICKY_DUTY_CLAMP (p / 16), F.PWX_STICKY_BRK_CLAMP],
          force := [0x40, 0x41, 0x42, 0x43] } s t ∧ t.b = { s.b with
          setNow := t.b.setNow, ldg := t.b.ldg, crn := t.b.crn, lanes := t.b.lanes, rdg := t.b.rdg, pairs := t.b.pairs, pwm :=
          t.b.pwm, cmps := t.b.cmps, mpt := t.b.mpt, fad := t.b.fad }) ∧
  (∀ (p : Fin 49) (t1 : BitVec 22) (s t : State), exec (.pairEdge p t1) s = .next t →
      Within { fields := tripFlds ++ [F.PAIR_STAT_CNT p] ++ (List.range 64).map F.WIN_STAT_HEFF } s t ∧
      t.b = { s.b with
          setNow := t.b.setNow, ldg := t.b.ldg, crn := t.b.crn, lanes := t.b.lanes, rdg := t.b.rdg, pairs := t.b.pairs, pwm :=
          t.b.pwm, cmps := t.b.cmps, mpt := t.b.mpt, fad := t.b.fad }) ∧
  (∀ (p : Fin 49) (isH : Bool) (s t : State), exec (.deadTimeEnd p isH) s = .next t →
      Within { fields := tripFlds } s t ∧ t.b = { s.b with
          setNow := t.b.setNow, ldg := t.b.ldg, crn := t.b.crn, lanes := t.b.lanes, rdg := t.b.rdg, pairs := t.b.pairs, pwm :=
          t.b.pwm, cmps := t.b.cmps, mpt := t.b.mpt, fad := t.b.fad }) ∧
  (∀ (p : Fin 49) (s t : State), exec (.cftMaxOn p) s = .next t →
      Within {
          fields := tripFlds ++ [F.PAIR_STAT_CNT p, F.PAIR_STAT_PEND p, F.PWM_CLAMP_PAIR (p / 16), F.PWM_MAXON_PAIR (p / 16)]
            ++ flags [F.PWM_STICKY_DUTY_CLAMP (p / 16), F.PWM_STICKY_MAX_ON (p / 16), F.PWX_STICKY_BRK_CLAMP] ++
            (List.range 64).map F.WIN_STAT_HEFF,
          force := [0x40, 0x41, 0x42, 0x43] } s t ∧ t.b = { s.b with
          setNow := t.b.setNow, ldg := t.b.ldg, crn := t.b.crn, lanes := t.b.lanes, rdg := t.b.rdg, pairs := t.b.pairs, pwm :=
          t.b.pwm, cmps := t.b.cmps, mpt := t.b.mpt, fad := t.b.fad }) ∧
  (∀ (n : Fin 3) (s t : State), exec (.pwmCommit n) s = .next t →
      Within {
          fields := ledgerFlds ++ [F.LDG_STATUS_BUSY, F.PWM_CFGREJ_PAIR n] ++ flags [F.LDG_STICKY_CMD_REJECT,
            F.PWM_STICKY_CFG_REJECT n, F.PWX_STICKY_CFG_REJECT] ++ flags ((List.range 4).map
            F.CMP_STICKY_MODE_CONFLICT) ++ (List.range 49).map F.PAIR_STAT_PEND,
          pend := [0x40 + n] } s t ∧ t.b = { s.b with
          setNow := t.b.setNow, commitNow := t.b.commitNow, commitWas := t.b.commitWas, waiting := t.b.waiting, ldg :=
          t.b.ldg, pairs := t.b.pairs, ke1 := t.b.ke1 }) ∧
  (∀ (p : Fin 48) (r : Fin 5) (v : Word) (s t : State), exec (.autoCommitWrite p r v) s = .next t →
      Within {
          fields := tripFlds ++ guarFlds ++ [F.LDG_STATUS_BUSY, F.PAIR_CFG_EN p, F.PAIR_CFG_MODE p, F.PAIR_CFG_OUT p,
            F.PAIR_CFG_SB_TRIP p, F.PAIR_CFG_TERM_CMP p, F.PAIR_CFG_TERM_TYPE p, F.PAIR_CFG_UPD p, F.PAIR_CMPA_C p,
            F.PAIR_CMPB_C p, F.PAIR_DT_DTF p, F.PAIR_DT_DTR p, F.PAIR_PER_TICKS p, F.PAIR_STAT_PEND p,
            F.PWM_CFGREJ_PAIR (p / 16)] ++ flags [F.LDG_STICKY_CMD_REJECT, F.PWM_STICKY_CFG_REJECT (p / 16),
            F.PWM_STICKY_OWN_REJECT (p / 16), F.PWX_STICKY_CFG_REJECT] ++ flags ((List.range 4).map
            F.CMP_STICKY_MODE_CONFLICT),
          pend := [0x40 + p / 16] } s t ∧ t.b = { s.b with
          setNow := t.b.setNow, commitNow := t.b.commitNow, commitWas := t.b.commitWas, waiting := t.b.waiting, sys :=
          t.b.sys, ldg := t.b.ldg, crn := t.b.crn, lanes := t.b.lanes, rdg := t.b.rdg, pairs := t.b.pairs, pwm :=
          t.b.pwm, cmps := t.b.cmps, mpt := t.b.mpt, fad := t.b.fad, ke1 := t.b.ke1, phs := t.b.phs }) ∧
  (∀ (n : Fin 128) (s t : State), exec (.tripSourceAssert n) s = .next t →
      Within { fields := tripFlds } s t ∧ t.b = { s.b with
          setNow := t.b.setNow, ldg := t.b.ldg, crn := t.b.crn, lanes := t.b.lanes, rdg := t.b.rdg, pairs := t.b.pairs, pwm :=
          t.b.pwm, cmps := t.b.cmps, mpt := t.b.mpt, fad := t.b.fad }) ∧
  (∀ (k : Fin 8) (s t : State), exec (.auxWindowEnd k) s = .next t →
      Within {
          fields := pinFlds ++ causeFlds ++ [F.KE0_ISLOT_VAL 0x9C, F.MPT_STATUS_SCANNING, F.MPT_STATUS_SCAN_IN,
            F.RDG_BULK_STATUS_BUSY, F.RDG_BULK_STATUS_DONE, F.RDG_BULK_STATUS_ERR, F.RDG_CNT_HOPDROP_N,
            F.RDG_CNT_UNREACH_N, F.RDG_RACC_STATUS_BUSY, F.RDG_RACC_STATUS_DONE, F.RDG_RACC_STATUS_ERR,
            F.TRP_FIRST_PAIR, F.TRP_FIRST_SRC, F.TRP_FIRST_VALID, F.TRP_LATCH0_PAIR, F.TRP_LATCH1_PAIR,
            F.TRP_STATUS_ANY, F.TRP_STATUS_CYCLE, F.TRP_STATUS_LATCHED] ++ flags [F.MPT_STICKY_SCAN_ABORT,
            F.RDG_STICKY_HOP_DROP, F.RDG_STICKY_RACC_ERR, F.RDG_STICKY_UNREACH_DROP, F.TRP_STICKY_IT_REQ,
            F.TRP_STICKY_TRIP] ++ (List.range 4).map F.TRP_SEEN_SRC } s t ∧ t.b = { s.b with
          setNow := t.b.setNow, ldg := t.b.ldg, crn := t.b.crn, lanes := t.b.lanes, rdg := t.b.rdg, pairs := t.b.pairs, pwm :=
          t.b.pwm, cmps := t.b.cmps, mpt := t.b.mpt }) ∧
  (∀ (k : Fin 2) (mask : Word) (s t : State), exec (.tripClear k mask) s = .next t →
      Within { fields := tripFlds ++ flags [F.TRP_STICKY_TRIP_CLR_REJECT] } s t ∧ t.b = { s.b with
          setNow := t.b.setNow, ldg := t.b.ldg, crn := t.b.crn, lanes := t.b.lanes, rdg := t.b.rdg, pairs := t.b.pairs, pwm :=
          t.b.pwm, cmps := t.b.cmps, mpt := t.b.mpt, fad := t.b.fad }) ∧
  (∀ (s t : State), exec .trpCommit s = .next t →
      Within { fields := ledgerFlds ++ flags [F.TRP_STICKY_CFG_REJECT], pend := [0x44] } s t ∧ t.b = { s.b with
          setNow := t.b.setNow, commitNow := t.b.commitNow, commitWas := t.b.commitWas, waiting := t.b.waiting, ldg := t.b.ldg }) ∧
  (∀ (s t : State), exec .brkCommit s = .next t →
      Within {
          fields := ledgerFlds ++ [F.LDG_STATUS_BUSY] ++ flags [F.LDG_STICKY_CMD_REJECT, F.PWX_STICKY_CFG_REJECT] ++ flags
            ((List.range 4).map F.CMP_STICKY_MODE_CONFLICT) ++ (List.range 49).map F.PAIR_STAT_PEND ++ (List.range
            3).map F.PWM_CFGREJ_PAIR ++ flags ((List.range 3).map F.PWM_STICKY_CFG_REJECT),
          pend := [0x40, 0x41, 0x42, 0x43] } s t ∧ t.b = { s.b with
          setNow := t.b.setNow, commitNow := t.b.commitNow, commitWas := t.b.commitWas, waiting := t.b.waiting, ldg :=
          t.b.ldg, pairs := t.b.pairs, ke1 := t.b.ke1 }) ∧
  (∀ (s t : State), exec .auxCommit s = .next t →
      Within { fields := ledgerFlds, pend := [0x43] } s t ∧ t.b = { s.b with
          setNow := t.b.setNow, commitNow := t.b.commitNow, commitWas := t.b.commitWas, waiting := t.b.waiting, ldg := t.b.ldg }) ∧
  (∀ (v : Word) (s t : State), exec (.brkSrcWrite v) s = .next t →
      Within { fields := tripFlds ++ [F.PWX_BRK_SRC_SRC] ++ flags [F.PWX_STICKY_CFG_REJECT] } s t ∧
      t.b = { s.b with
          setNow := t.b.setNow, ldg := t.b.ldg, crn := t.b.crn, lanes := t.b.lanes, rdg := t.b.rdg, pairs := t.b.pairs, pwm :=
          t.b.pwm, cmps := t.b.cmps, mpt := t.b.mpt, fad := t.b.fad }) ∧
  (∀ (v : Word) (s t : State), exec (.pwxGenWrite v) s = .next t →
      Within { fields := tripFlds ++ [F.PWX_GEN_GRP] } s t ∧ t.b = { s.b with
          setNow := t.b.setNow, ldg := t.b.ldg, crn := t.b.crn, lanes := t.b.lanes, rdg := t.b.rdg, pairs := t.b.pairs, pwm :=
          t.b.pwm, cmps := t.b.cmps, mpt := t.b.mpt, fad := t.b.fad }) ∧
  (∀ (c : Fin 64) (v : BitVec 25) (phase : Fin 64) (s t : State), exec (.comparatorCrossing c v phase) s = .next t →
      Within {
          fields := tripFlds ++ [F.CMP_EVT_WIN (c / 16), F.CMP_STATUS_HIGH (c / 16), F.CMP_STATUS_LOW (c / 16),
            F.GDP_BRK_ON_TIME_US, F.GDP_STATUS_BRK_REQ, F.PMP_STATUS_CAUSE, F.PMP_STATUS_STATE, F.PWX_STATUS_BRK_HW,
            F.WIN_STAT_HEFF c, F.WIN_STAT_HIGH c, F.WIN_STAT_LOW c] ++ flags [F.CMP_STICKY_EVENT (c / 16),
            F.PMP_STICKY_OC, F.PMP_STICKY_OV, F.PMP_STICKY_SHOOT_BLOCK, F.PMP_STICKY_STALL, F.PMP_STICKY_START_FAIL,
            F.PMP_STICKY_WDOG, F.PWX_STICKY_BRK_CLAMP] ++ (List.range 49).map F.PAIR_STAT_CNT ++ (List.range 49).map
            F.PAIR_STAT_PEND ++ (List.range 3).map F.PWM_CLAMP_PAIR ++ flags ((List.range 3).map
            F.PWM_STICKY_DUTY_CLAMP),
          force := [0x40, 0x41, 0x42, 0x43] } s t ∧ t.b = { s.b with
          setNow := t.b.setNow, ldg := t.b.ldg, crn := t.b.crn, lanes := t.b.lanes, rdg := t.b.rdg, pairs := t.b.pairs, pwm :=
          t.b.pwm, cmps := t.b.cmps, mpt := t.b.mpt, fad := t.b.fad, pmp := t.b.pmp }) ∧
  (∀ (c : Fin 64) (v : BitVec 25) (phase : Fin 64) (s t : State), exec (.comparatorSample c v phase) s = .next t →
      Within {
          fields := tripFlds ++ [F.CMP_EVT_WIN (c / 16), F.CMP_STATUS_HIGH (c / 16), F.CMP_STATUS_LOW (c / 16),
            F.GDP_BRK_ON_TIME_US, F.GDP_STATUS_BRK_REQ, F.PMP_STATUS_CAUSE, F.PMP_STATUS_STATE, F.PWX_STATUS_BRK_HW,
            F.WIN_STAT_HEFF c, F.WIN_STAT_HIGH c, F.WIN_STAT_LOW c] ++ flags [F.CMP_STICKY_EVENT (c / 16),
            F.PMP_STICKY_OC, F.PMP_STICKY_OV, F.PMP_STICKY_SHOOT_BLOCK, F.PMP_STICKY_STALL, F.PMP_STICKY_START_FAIL,
            F.PMP_STICKY_WDOG, F.PWX_STICKY_BRK_CLAMP] ++ (List.range 49).map F.PAIR_STAT_CNT ++ (List.range 49).map
            F.PAIR_STAT_PEND ++ (List.range 3).map F.PWM_CLAMP_PAIR ++ flags ((List.range 3).map
            F.PWM_STICKY_DUTY_CLAMP),
          force := [0x40, 0x41, 0x42, 0x43] } s t ∧ t.b = { s.b with
          setNow := t.b.setNow, ldg := t.b.ldg, crn := t.b.crn, lanes := t.b.lanes, rdg := t.b.rdg, pairs := t.b.pairs, pwm :=
          t.b.pwm, cmps := t.b.cmps, mpt := t.b.mpt, fad := t.b.fad, pmp := t.b.pmp }) ∧
  (∀ (n : Fin 4) (s t : State), exec (.cmpCommit n) s = .next t →
      Within { fields := ledgerFlds ++ flags [F.CMP_STICKY_CFG_REJECT n], pend := [0x50 + n] } s t ∧
      t.b = { s.b with
          setNow := t.b.setNow, commitNow := t.b.commitNow, commitWas := t.b.commitWas, waiting := t.b.waiting, ldg := t.b.ldg }) ∧
  (∀ (n : Fin 4) (s t : State), exec (.cmpCntClr n) s = .next t →
      Within { fields := [F.CMP_CNT_SKIP_N n] } s t ∧ t.b = s.b) ∧
  (∀ (c : Fin 64) (s t : State), exec (.selfTest c) s = .next t →
      Within {} s t ∧ t.b = { s.b with cmps := t.b.cmps }) ∧
  (∀ (c : Fin 64) (high : Bool) (low : Bool) (s t : State), exec (.selfTestEnd c high low) s = .next t →
      Within {
          fields := tripFlds ++ [F.CMP_EVT_WIN (c / 16), F.CMP_STATUS_HIGH (c / 16), F.CMP_STATUS_LOW (c / 16),
            F.CMP_STFAIL_WIN (c / 16), F.GDP_BRK_ON_TIME_US, F.GDP_STATUS_BRK_REQ, F.PMP_STATUS_CAUSE,
            F.PMP_STATUS_STATE, F.PWX_STATUS_BRK_HW, F.WIN_STAT_FAILCNT c, F.WIN_STAT_HALF c, F.WIN_STAT_HEFF c,
            F.WIN_STAT_HIGH c, F.WIN_STAT_LOW c] ++ flags [F.CMP_STICKY_EVENT (c / 16), F.CMP_STICKY_SELFTEST_FAIL (c
            / 16), F.PMP_STICKY_OC, F.PMP_STICKY_OV, F.PMP_STICKY_SHOOT_BLOCK, F.PMP_STICKY_STALL,
            F.PMP_STICKY_START_FAIL, F.PMP_STICKY_WDOG, F.PWX_STICKY_BRK_CLAMP] ++ (List.range 49).map F.PAIR_STAT_CNT
            ++ (List.range 49).map F.PAIR_STAT_PEND ++ (List.range 3).map F.PWM_CLAMP_PAIR ++ flags ((List.range
            3).map F.PWM_STICKY_DUTY_CLAMP),
          force := [0x40, 0x41, 0x42, 0x43] } s t ∧ t.b = { s.b with
          setNow := t.b.setNow, ldg := t.b.ldg, crn := t.b.crn, lanes := t.b.lanes, rdg := t.b.rdg, pairs := t.b.pairs, pwm :=
          t.b.pwm, cmps := t.b.cmps, mpt := t.b.mpt, fad := t.b.fad, pmp := t.b.pmp }) ∧
  (∀ (n : Fin 4) (mask : Word) (s t : State), exec (.stfailClear n mask) s = .next t →
      Within { fields := tripFlds ++ [F.CMP_STFAIL_WIN n] } s t ∧ t.b = { s.b with
          setNow := t.b.setNow, ldg := t.b.ldg, crn := t.b.crn, lanes := t.b.lanes, rdg := t.b.rdg, pairs := t.b.pairs, pwm :=
          t.b.pwm, cmps := t.b.cmps, mpt := t.b.mpt, fad := t.b.fad }) ∧
  (∀ (p : Fin 48) (isH : Bool) (s t : State), exec (.slewPhaseEnd p isH) s = .next t →
      Within {} s t ∧ t.b = { s.b with pairs := t.b.pairs }) ∧
  (∀ (p : Fin 48) (isH : Bool) (s t : State), exec (.softOffEnd p isH) s = .next t →
      Within {} s t ∧ t.b = { s.b with pairs := t.b.pairs }) ∧
  (∀ (s t : State), exec .gdpProfileCommit s = .next t →
      Within { fields := ledgerFlds, pend := [0x45] } s t ∧ t.b = { s.b with
          setNow := t.b.setNow, commitNow := t.b.commitNow, commitWas := t.b.commitWas, waiting := t.b.waiting, ldg := t.b.ldg }) ∧
  (∀ (s t : State), exec .gdpBrakeCommit s = .next t →
      Within { fields := ledgerFlds ++ flags [F.GDP_STICKY_CFG_REJECT], pend := [0x45] } s t ∧ t.b = { s.b with
          setNow := t.b.setNow, commitNow := t.b.commitNow, commitWas := t.b.commitWas, waiting := t.b.waiting, ldg := t.b.ldg }) ∧
  (∀ (s t : State), exec .brakeMinTimer s = .next t →
      Within { fields := tripFlds ++ [F.GDP_BRK_ON_TIME_US, F.GDP_STATUS_BRK_REQ, F.PWX_STATUS_BRK_HW] } s t ∧
      t.b = { s.b with
          setNow := t.b.setNow, ldg := t.b.ldg, crn := t.b.crn, lanes := t.b.lanes, rdg := t.b.rdg, pairs := t.b.pairs, pwm :=
          t.b.pwm, cmps := t.b.cmps, mpt := t.b.mpt, fad := t.b.fad }) ∧
  (∀ (s t : State), exec .brkLong s = .next t →
      Within { fields := ledgerFlds ++ flags [F.GDP_STICKY_BRK_LONG] } s t ∧
      t.b = { s.b with setNow := t.b.setNow, ldg := t.b.ldg, pwm := t.b.pwm }) ∧
  (∀ (v : Word) (s t : State), exec (.pmpCtrlWrite v) s = .next t →
      Within {
          fields := ledgerFlds ++ [F.PMP_CTRL_AUTO_RESTART, F.PMP_CTRL_ENABLE, F.PMP_CTRL_RUN, F.PMP_CTRL_STOP_BRAKE,
            F.PMP_STATUS_CAUSE, F.PMP_STATUS_STATE] ++ flags [F.PMP_STICKY_SHOOT_BLOCK] } s t ∧
      t.b = { s.b with freeCtr := t.b.freeCtr, setNow := t.b.setNow, ldg := t.b.ldg, pmp := t.b.pmp }) ∧
  (∀ (s t : State), exec .pumpStart s = .next t →
      Within {
          fields := ledgerFlds ++ [F.PMP_ATTEMPTS_N, F.PMP_STATUS_STATE, F.PMP_STATUS_STEP, F.PMP_T60_TICKS] ++ flags
            [F.PMP_STICKY_SHOOT_BLOCK] } s t ∧
      t.b = { s.b with setNow := t.b.setNow, ldg := t.b.ldg, pmp := t.b.pmp }) ∧
  (∀ (s t : State), exec .alignEnd s = .next t →
      Within { fields := ledgerFlds ++ [F.PMP_STATUS_STATE] ++ flags [F.PMP_STICKY_SHOOT_BLOCK] } s t ∧
      t.b = { s.b with setNow := t.b.setNow, ldg := t.b.ldg, pmp := t.b.pmp }) ∧
  (∀ (s t : State), exec .rampStep s = .next t →
      Within {
          fields := ledgerFlds ++ [F.PMP_STATUS_CAUSE, F.PMP_STATUS_STATE, F.PMP_STATUS_STEP] ++ flags [F.PMP_STICKY_OC,
            F.PMP_STICKY_OV, F.PMP_STICKY_SHOOT_BLOCK, F.PMP_STICKY_STALL, F.PMP_STICKY_START_FAIL, F.PMP_STICKY_WDOG] } s t ∧
      t.b = { s.b with freeCtr := t.b.freeCtr, setNow := t.b.setNow, ldg := t.b.ldg, pmp := t.b.pmp }) ∧
  (∀ (s t : State), exec .pumpCommutation s = .next t →
      Within { fields := ledgerFlds ++ [F.PMP_STATUS_STEP] ++ flags [F.PMP_STICKY_SHOOT_BLOCK] } s t ∧
      t.b = { s.b with freeCtr := t.b.freeCtr, setNow := t.b.setNow, ldg := t.b.ldg, pmp := t.b.pmp }) ∧
  (∀ (above : Bool) (crossed : BitVec 3) (s t : State), exec (.pumpPwmPeriod above crossed) s = .next t →
      Within {
          fields := pinFlds ++ causeFlds ++ [F.BUT_FAULT_CAUSE, F.BUT_STATUS_CODE, F.BUT_STATUS_DRV_EN, F.BUT_STATUS_READY,
            F.BUT_STATUS_STATE, F.FAD_CNT_URG_DROP_N, F.FAD_STATUS_URG_BUSY, F.FPM_CNT_SKIP_N, F.FPM_EVT0_CH,
            F.FPM_EVT1_CH, F.FPM_STATUS_ACTIVE, F.FPM_STATUS_HOLD_ACTIVE, F.FPM_STATUS_IN_EVENT,
            F.FPM_STATUS_TAKEOVER_REQ, F.FPM_STATUS_TRIP_ASSERTED, F.MPT_STATUS_SCANNING, F.MPT_STATUS_SCAN_IN,
            F.PMP_SPEED_RPM, F.PMP_T60_TICKS, F.RDG_BULK_STATUS_BUSY, F.RDG_BULK_STATUS_DONE, F.RDG_BULK_STATUS_ERR,
            F.RDG_CNT_HOPDROP_N, F.RDG_CNT_UNREACH_N, F.RDG_RACC_STATUS_BUSY, F.RDG_RACC_STATUS_DONE,
            F.RDG_RACC_STATUS_ERR, F.TRP_FIRST_PAIR, F.TRP_FIRST_SRC, F.TRP_FIRST_VALID, F.TRP_LATCH0_PAIR,
            F.TRP_LATCH1_PAIR, F.TRP_STATUS_ANY, F.TRP_STATUS_CYCLE, F.TRP_STATUS_LATCHED] ++ flags
            [F.BUT_STICKY_FAILED, F.FAD_STICKY_URG_DROP, F.FPM_STICKY_EVENT, F.FPM_STICKY_LATE_SKIP,
            F.FPM_STICKY_NO_PRED, F.FPM_STICKY_TAKEOVER_NA, F.MPT_STICKY_SCAN_ABORT, F.PMP_STICKY_SHOOT_BLOCK,
            F.RDG_STICKY_HOP_DROP, F.RDG_STICKY_RACC_ERR, F.RDG_STICKY_UNREACH_DROP, F.TRP_STICKY_IT_REQ,
            F.TRP_STICKY_TRIP] ++ (List.range 64).map F.FPM_CH_HOLD_COUNT ++ (List.range 64).map F.FPM_CH_RES_RES ++
            (List.range 256).map F.KE0_ISLOT_VAL ++ (List.range 4).map F.TRP_ACT_SRC ++ (List.range 4).map
            F.TRP_SEEN_SRC } s t ∧ t.b = { s.b with
          freeCtr := t.b.freeCtr, setNow := t.b.setNow, sys := t.b.sys, ldg := t.b.ldg, crn := t.b.crn, lanes := t.b.lanes,
          rdg := t.b.rdg, pairs := t.b.pairs, pwm := t.b.pwm, cmps := t.b.cmps, mpt := t.b.mpt, fad := t.b.fad, fpm :=
          t.b.fpm, pmp := t.b.pmp, but := t.b.but }) ∧
  (∀ (s t : State), exec .stall s = .next t →
      Within {
          fields := ledgerFlds ++ [F.PMP_STATUS_CAUSE, F.PMP_STATUS_STATE] ++ flags [F.PMP_STICKY_OC, F.PMP_STICKY_OV,
            F.PMP_STICKY_SHOOT_BLOCK, F.PMP_STICKY_STALL, F.PMP_STICKY_START_FAIL, F.PMP_STICKY_WDOG] } s t ∧
      t.b = { s.b with setNow := t.b.setNow, ldg := t.b.ldg, pmp := t.b.pmp }) ∧
  (∀ (s t : State), exec .wdog s = .next t →
      Within {
          fields := ledgerFlds ++ [F.PMP_STATUS_CAUSE, F.PMP_STATUS_STATE] ++ flags [F.PMP_STICKY_OC, F.PMP_STICKY_OV,
            F.PMP_STICKY_SHOOT_BLOCK, F.PMP_STICKY_STALL, F.PMP_STICKY_START_FAIL, F.PMP_STICKY_WDOG] } s t ∧
      t.b = { s.b with setNow := t.b.setNow, ldg := t.b.ldg, pmp := t.b.pmp }) ∧
  (∀ (mv : BitVec 17) (s t : State), exec (.vmPumpOv mv) s = .next t →
      Within {
          fields := ledgerFlds ++ [F.PMP_STATUS_CAUSE, F.PMP_STATUS_STATE, F.PMP_STATUS_VM_OV] ++ flags [F.PMP_STICKY_OC,
            F.PMP_STICKY_OV, F.PMP_STICKY_SHOOT_BLOCK, F.PMP_STICKY_STALL, F.PMP_STICKY_START_FAIL, F.PMP_STICKY_WDOG] } s t ∧
      t.b = { s.b with setNow := t.b.setNow, ldg := t.b.ldg, pmp := t.b.pmp }) ∧
  (∀ (s t : State), exec .vmPumpUv s = .next t →
      Within {
          fields := ledgerFlds ++ [F.PMP_STATUS_CAUSE, F.PMP_STATUS_STATE, F.PMP_STATUS_VM_UV] ++ flags [F.PMP_STICKY_OC,
            F.PMP_STICKY_OV, F.PMP_STICKY_SHOOT_BLOCK, F.PMP_STICKY_STALL, F.PMP_STICKY_START_FAIL, F.PMP_STICKY_WDOG] } s t ∧
      t.b = { s.b with setNow := t.b.setNow, ldg := t.b.ldg, pmp := t.b.pmp }) ∧
  (∀ (ph : Fin 3) (under : Bool) (s t : State), exec (.bootUv ph under) s = .next t →
      Within {
          fields := ledgerFlds ++ [F.PMP_CNT_BOOT_N, F.PMP_STATUS_BOOT_HOLD] ++ flags [F.PMP_STICKY_BOOT_UV,
            F.PMP_STICKY_SHOOT_BLOCK] } s t ∧
      t.b = { s.b with setNow := t.b.setNow, ldg := t.b.ldg, pmp := t.b.pmp }) ∧
  (∀ (ph : Fin 3) (s t : State), exec (.bootHoldTimeout ph) s = .next t →
      Within {
          fields := ledgerFlds ++ [F.PMP_STATUS_CAUSE, F.PMP_STATUS_STATE] ++ flags [F.PMP_STICKY_OC, F.PMP_STICKY_OV,
            F.PMP_STICKY_SHOOT_BLOCK, F.PMP_STICKY_STALL, F.PMP_STICKY_START_FAIL, F.PMP_STICKY_WDOG] } s t ∧
      t.b = { s.b with setNow := t.b.setNow, ldg := t.b.ldg, pmp := t.b.pmp }) ∧
  (∀ (s t : State), exec .faultAutoClear s = .next t →
      Within {
          fields := ledgerFlds ++ [F.PMP_STATUS_CAUSE, F.PMP_STATUS_STATE] ++ flags [F.PMP_STICKY_SHOOT_BLOCK] } s t ∧
      t.b = { s.b with setNow := t.b.setNow, ldg := t.b.ldg, pmp := t.b.pmp }) ∧
  (∀ (s t : State), exec .pmpClear s = .next t →
      Within {
          fields := ledgerFlds ++ [F.PMP_STATUS_CAUSE, F.PMP_STATUS_STATE] ++ flags [F.PMP_STICKY_CLR_REJECT,
            F.PMP_STICKY_SHOOT_BLOCK] } s t ∧
      t.b = { s.b with setNow := t.b.setNow, ldg := t.b.ldg, pmp := t.b.pmp }) ∧
  (∀ (s t : State), exec .pmpCommit s = .next t →
      Within { fields := ledgerFlds ++ flags [F.PMP_STICKY_CFG_REJECT], pend := [0x80] } s t ∧ t.b = { s.b with
          freeCtr := t.b.freeCtr, setNow := t.b.setNow, commitNow := t.b.commitNow, commitWas := t.b.commitWas, waiting :=
          t.b.waiting, ldg := t.b.ldg }) ∧
  (∀ (s t : State), exec .pumpBrakeEnd s = .next t →
      Within { fields := ledgerFlds ++ [F.PMP_STATUS_STATE] ++ flags [F.PMP_STICKY_SHOOT_BLOCK] } s t ∧
      t.b = { s.b with setNow := t.b.setNow, ldg := t.b.ldg, pmp := t.b.pmp }) ∧
  (∀ (s t : State), exec .attemptReset s = .next t →
      Within { fields := [F.PMP_ATTEMPTS_N] } s t ∧ t.b = { s.b with pmp := t.b.pmp }) ∧
  (∀ (n : Fin 16) (s t : State), exec (.tripPinRelease n) s = .next t →
      Within { fields := tripFlds } s t ∧ t.b = { s.b with
          setNow := t.b.setNow, ldg := t.b.ldg, crn := t.b.crn, lanes := t.b.lanes, rdg := t.b.rdg, pairs := t.b.pairs, pwm :=
          t.b.pwm, cmps := t.b.cmps, mpt := t.b.mpt, fad := t.b.fad }) ∧
  (∀ (s t : State), exec .vmPumpReturn s = .next t →
      Within {
          fields := ledgerFlds ++ [F.PMP_STATUS_CAUSE, F.PMP_STATUS_STATE, F.PMP_STATUS_VM_UV] ++ flags [F.PMP_STICKY_OC,
            F.PMP_STICKY_OV, F.PMP_STICKY_SHOOT_BLOCK, F.PMP_STICKY_STALL, F.PMP_STICKY_START_FAIL, F.PMP_STICKY_WDOG] } s t ∧
      t.b = { s.b with setNow := t.b.setNow, ldg := t.b.ldg, pmp := t.b.pmp })

/-- For each command of the engines, the plausibility monitor, MPT and GRD and every state and operand: the next state
differs from the state before it at most in the register fields listed for the command (its destinations, the flags
it may set with their interrupt bits, and what the spec makes follow them at once: the Ledger's loss counters, the
guarantees, the pins), in the pages whose shadowed or pending values it may adopt, and in the block state named.
Every other register, value in force, pending value and word of memory, and the queue, are unchanged. The commands
that store to memory (programWrite, parameterWrite, paramCopyDone) change no word but those at the addresses the
statement computes. -/
def Obligations.FrameEnginesAndGrid : Prop :=
  (∀ (s t : State), exec .heldEnableRelease s = .next t →
      Within {
          fields := tripFlds ++ guarFlds ++ [F.BUT_FAULT_CAUSE, F.BUT_STATUS_CODE, F.BUT_STATUS_DRV_EN, F.BUT_STATUS_READY,
            F.BUT_STATUS_STATE, F.FAD_STATUS_TIMER, F.FPM_STATUS_ACTIVE, F.FPM_STATUS_HOLD_ACTIVE,
            F.FPM_STATUS_IN_EVENT, F.FPM_STATUS_TAKEOVER_REQ, F.FPM_STATUS_TRIP_ASSERTED, F.KE0_CTRL_ENABLE,
            F.KE0_STATUS_EN_HELD, F.KE0_STATUS_STATE] ++ flags [F.BUT_STICKY_FAILED] ++ (List.range 64).map
            F.FPM_CH_HOLD_COUNT ++ (List.range 128).map F.KE0_OSLOT_VAL ++ (List.range 128).map F.KE1_OSLOT_VAL } s t ∧
      t.b = { s.b with
          freeCtr := t.b.freeCtr, setNow := t.b.setNow, sys := t.b.sys, ldg := t.b.ldg, crn := t.b.crn, lanes := t.b.lanes,
          rdg := t.b.rdg, pairs := t.b.pairs, pwm := t.b.pwm, cmps := t.b.cmps, mpt := t.b.mpt, fad := t.b.fad, ke0 :=
          t.b.ke0, fpm := t.b.fpm, but := t.b.but, phs := t.b.phs }) ∧
  (∀ (volts : Fin 128) (mv : Fin 1000) (s t : State), exec (.sampleInstant volts mv) s = .next t →
      Within {
          fields := guarFlds ++ pinFlds ++ [F.BUT_CRC_CRC, F.BUT_FAULT_CAUSE, F.BUT_STATUS_AGE, F.BUT_STATUS_CODE,
            F.BUT_STATUS_DRV_EN, F.BUT_STATUS_LINK_FAULT, F.BUT_STATUS_READY, F.BUT_STATUS_STATE, F.FAC_ROT_CNT_N,
            F.FAC_STATUS_CARRY, F.FAC_STATUS_CARRY_K, F.FAC_STATUS_STATE, F.FAC_STATUS_VISIT, F.FAC_SUSPECT_FC,
            F.FAD_CNT_DROP_N, F.FAD_CNT_URG_DROP_N, F.FAD_CNT_URG_N, F.FAD_STATUS_TIMER, F.FAD_STATUS_URG_BUSY,
            F.FPM_CNT_SKIP_N, F.FPM_EVT0_CH, F.FPM_EVT1_CH, F.FPM_STATUS_ACTIVE, F.FPM_STATUS_HOLD_ACTIVE,
            F.FPM_STATUS_IN_EVENT, F.FPM_STATUS_TAKEOVER_REQ, F.FPM_STATUS_TRIP_ASSERTED, F.GDP_BRK_ON_TIME_US,
            F.GDP_STATUS_BRK_REQ, F.GDP_STATUS_RT_SET, F.GRD_FREQ_F, F.GRD_PJ_LAST_ANG, F.GRD_STATUS_ENTRY,
            F.GRD_STATUS_MEAS_VALID, F.GRD_STATUS_SLEWING, F.GRD_STATUS_SRC_TIMED, F.GRD_STATUS_STATE,
            F.GRD_SYNC_OFS_OFS, F.GRD_VMAX_V, F.GRD_VMIN_V, F.GRD_VNEG_V, F.GRD_VPOS_V, F.KE0_SATFLAGS0_STAGE,
            F.KE0_SATFLAGS1_STAGE, F.KE0_STATUS_LEN, F.KE0_STATUS_PBANK, F.KE0_STATUS_PCOPY, F.KE0_STATUS_STATE,
            F.KE1_EXP_STAGE_STAGE, F.KE1_SCHED_STAT_C1_RUN, F.KE1_SCHED_STAT_C2_ENTRY, F.KE1_SCHED_STAT_C2_RUN,
            F.KE1_SCHED_STAT_C2_SUSP, F.KE1_SCHED_STAT_PHASE, F.KE1_SCHED_STAT_SLOT, F.KE1_STATUS_PBANK,
            F.KE1_STATUS_PCOPY, F.KE1_STATUS_STATE, F.MPT_CURVE_IN_IN, F.MPT_ISL_SRC_M, F.MPT_SCAN_CNT_N,
            F.MPT_STATUS_ACT_ON, F.MPT_STATUS_ISLAND, F.MPT_STATUS_PC_VALID, F.MPT_STATUS_ROUND,
            F.MPT_STATUS_SCANNING, F.MPT_STATUS_SCAN_IN, F.PHS_REF_AGE_US, F.PHS_STATUS_TIMED_OK, F.PMP_STATUS_CAUSE,
            F.PMP_STATUS_STATE, F.PWX_STATUS_BRK_HW, F.PWX_STATUS_CESSATION, F.RDG_BULK_STATUS_BUSY,
            F.RDG_BULK_STATUS_DONE, F.RDG_BULK_STATUS_ERR, F.RDG_CNT_HOPDROP_N, F.RDG_CNT_UNREACH_N,
            F.RDG_RACC_STATUS_BUSY, F.RDG_RACC_STATUS_DONE, F.RDG_RACC_STATUS_ERR, F.TRP_FIRST_PAIR, F.TRP_FIRST_SRC,
            F.TRP_FIRST_VALID, F.TRP_LATCH0_PAIR, F.TRP_LATCH1_PAIR, F.TRP_STATUS_ANY, F.TRP_STATUS_CYCLE,
            F.TRP_STATUS_LATCHED, F.TWV_CNT_GAP_N, F.TWV_STATUS_ACTIVE, F.TWV_STATUS_SUSPENDED] ++ flags
            [F.BUT_STICKY_FAILED, F.BUT_STICKY_STALE, F.FAC_STICKY_ROT_DONE, F.FAD_STICKY_SCAN_DROP,
            F.FAD_STICKY_URG_DROP, F.FPM_STICKY_EVENT, F.FPM_STICKY_LATE_SKIP, F.FPM_STICKY_NO_PRED,
            F.FPM_STICKY_TAKEOVER_NA, F.GRD_STICKY_CESSATION, F.GRD_STICKY_PHASE_JUMP, F.GRD_STICKY_RT_ENTER,
            F.GRD_STICKY_SRC_CHANGE, F.GRD_STICKY_TRIP, F.KE0_STICKY_SAT, F.KE1_STICKY_CLAMP, F.KE1_STICKY_EXP_OVF,
            F.MPT_STICKY_ISLAND, F.MPT_STICKY_PC_LOST, F.MPT_STICKY_SCAN_ABORT, F.PMP_STICKY_OC, F.PMP_STICKY_OV,
            F.PMP_STICKY_SHOOT_BLOCK, F.PMP_STICKY_STALL, F.PMP_STICKY_START_FAIL, F.PMP_STICKY_WDOG,
            F.PWX_STICKY_BRK_CLAMP, F.PWX_STICKY_CESSATION, F.RDG_STICKY_HOP_DROP, F.RDG_STICKY_RACC_ERR,
            F.RDG_STICKY_UNREACH_DROP, F.TRP_STICKY_IT_REQ, F.TRP_STICKY_TRIP, F.TWV_STICKY_GAP, F.TWV_STICKY_PAIR,
            F.TWV_STICKY_STREAM_LOST] ++ (List.range 4).map F.CMP_EVT_WIN ++ (List.range 4).map F.CMP_STATUS_HIGH ++
            (List.range 4).map F.CMP_STATUS_LOW ++ flags ((List.range 4).map F.CMP_STICKY_EVENT) ++ (List.range
            17).map F.FAC_CAL_AGE_ROT ++ (List.range 17).map F.FAC_CAL_GAIN_DEV ++ (List.range 17).map
            F.FAC_CAL_OFS_OFS ++ (List.range 17).map F.FAC_CAL_SKEW_SKEW ++ (List.range 64).map F.FPM_CH_HOLD_COUNT ++
            (List.range 64).map F.FPM_CH_RES_RES ++ (List.range 256).map F.KE0_ISLOT_VAL ++ (List.range 128).map
            F.KE0_OSLOT_VAL ++ (List.range 4).map F.KE1_CLAMPFLAGS_STAGE ++ (List.range 128).map F.KE1_OSLOT_VAL ++
            (List.range 32).map F.MET_VAL_VAL ++ (List.range 12).map F.MPT_PGMP_P ++ (List.range 12).map F.MPT_VGMP_V
            ++ (List.range 49).map F.PAIR_STAT_CNT ++ (List.range 49).map F.PAIR_STAT_PEND ++ (List.range 3).map
            F.PWM_CLAMP_PAIR ++ flags ((List.range 3).map F.PWM_STICKY_DUTY_CLAMP) ++ (List.range 4).map F.TRP_ACT_SRC
            ++ (List.range 4).map F.TRP_SEEN_SRC ++ (List.range 8).map F.TWV_SEG_DT_DT ++ (List.range 64).map
            F.WIN_STAT_HEFF ++ (List.range 64).map F.WIN_STAT_HIGH ++ (List.range 64).map F.WIN_STAT_LOW,
          force := [0x72, 0x73, 0x11, 0x20, 0x21, 0x30, 0x40, 0x41, 0x42, 0x43, 0x54] } s t ∧
      t.b = { s.b with
          freeCtr := t.b.freeCtr, setNow := t.b.setNow, waiting := t.b.waiting, sys := t.b.sys, ldg := t.b.ldg, crn :=
          t.b.crn, lanes := t.b.lanes, rdg := t.b.rdg, pairs := t.b.pairs, pwm := t.b.pwm, cmps := t.b.cmps, mpt :=
          t.b.mpt, fad := t.b.fad, ke0 := t.b.ke0, ke1 := t.b.ke1, fpm := t.b.fpm, pmp := t.b.pmp, but := t.b.but, phs
          := t.b.phs, grd := t.b.grd, twv := t.b.twv, fac := t.b.fac, met := t.b.met }) ∧
  (∀ (s t : State), exec .ke0Start s = .next t →
      Within {} s t ∧ t.b = { s.b with freeCtr := t.b.freeCtr, ke0 := t.b.ke0, fpm := t.b.fpm }) ∧
  (∀ (s t : State), exec .outputConversion s = .next t →
      Within {
          fields := [F.KE0_ECC_CNT_N, F.KE1_ECC_CNT_N] ++ flags [F.KE0_STICKY_ECC_CORR, F.KE0_STICKY_OUT_RANGE,
            F.KE1_STICKY_ECC_CORR] } s t ∧
      t.b = { s.b with freeCtr := t.b.freeCtr, setNow := t.b.setNow, ke0 := t.b.ke0 }) ∧
  (∀ (s t : State), exec .shadowWrite s = .next t →
      Within {
          fields := pinFlds ++ causeFlds ++ [F.BUT_FAULT_CAUSE, F.BUT_STATUS_CODE, F.BUT_STATUS_DRV_EN, F.BUT_STATUS_READY,
            F.BUT_STATUS_STATE, F.FAD_CNT_URG_DROP_N, F.FAD_STATUS_URG_BUSY, F.FPM_CNT_SKIP_N, F.FPM_EVT0_CH,
            F.FPM_EVT1_CH, F.FPM_STATUS_ACTIVE, F.FPM_STATUS_HOLD_ACTIVE, F.FPM_STATUS_IN_EVENT,
            F.FPM_STATUS_TAKEOVER_REQ, F.FPM_STATUS_TRIP_ASSERTED, F.LDG_STATUS_BUSY, F.MPT_STATUS_SCANNING,
            F.MPT_STATUS_SCAN_IN, F.RDG_BULK_STATUS_BUSY, F.RDG_BULK_STATUS_DONE, F.RDG_BULK_STATUS_ERR,
            F.RDG_CNT_HOPDROP_N, F.RDG_CNT_UNREACH_N, F.RDG_RACC_STATUS_BUSY, F.RDG_RACC_STATUS_DONE,
            F.RDG_RACC_STATUS_ERR, F.TRP_FIRST_PAIR, F.TRP_FIRST_SRC, F.TRP_FIRST_VALID, F.TRP_LATCH0_PAIR,
            F.TRP_LATCH1_PAIR, F.TRP_STATUS_ANY, F.TRP_STATUS_CYCLE, F.TRP_STATUS_LATCHED] ++ flags
            [F.BUT_STICKY_FAILED, F.FAD_STICKY_URG_DROP, F.FPM_STICKY_EVENT, F.FPM_STICKY_LATE_SKIP,
            F.FPM_STICKY_NO_PRED, F.FPM_STICKY_TAKEOVER_NA, F.KE0_STICKY_OUT_RANGE, F.LDG_STICKY_CMD_REJECT,
            F.MPT_STICKY_SCAN_ABORT, F.PWX_STICKY_CFG_REJECT, F.RDG_STICKY_HOP_DROP, F.RDG_STICKY_RACC_ERR,
            F.RDG_STICKY_UNREACH_DROP, F.TRP_STICKY_IT_REQ, F.TRP_STICKY_TRIP] ++ flags ((List.range 4).map
            F.CMP_STICKY_MODE_CONFLICT) ++ (List.range 64).map F.FPM_CH_HOLD_COUNT ++ (List.range 64).map
            F.FPM_CH_RES_RES ++ (List.range 256).map F.KE0_ISLOT_VAL ++ (List.range 128).map F.KE0_OSLOT_VAL ++
            (List.range 49).map F.PAIR_CFG_EN ++ (List.range 49).map F.PAIR_CFG_MODE ++ (List.range 49).map
            F.PAIR_CFG_OUT ++ (List.range 49).map F.PAIR_CFG_SB_TRIP ++ (List.range 49).map F.PAIR_CFG_TERM_CMP ++
            (List.range 49).map F.PAIR_CFG_TERM_TYPE ++ (List.range 49).map F.PAIR_CFG_UPD ++ (List.range 49).map
            F.PAIR_CMPA_C ++ (List.range 49).map F.PAIR_CMPB_C ++ (List.range 49).map F.PAIR_PER_TICKS ++ (List.range
            49).map F.PAIR_STAT_MPT_OWN ++ (List.range 49).map F.PAIR_STAT_PEND ++ (List.range 3).map
            F.PWM_CFGREJ_PAIR ++ flags ((List.range 3).map F.PWM_STICKY_CFG_REJECT) ++ (List.range 4).map
            F.TRP_ACT_SRC ++ (List.range 4).map F.TRP_SEEN_SRC,
          pend := [0x40, 0x41, 0x42, 0x43] } s t ∧ t.b = { s.b with
          setNow := t.b.setNow, commitNow := t.b.commitNow, commitWas := t.b.commitWas, waiting := t.b.waiting, sys :=
          t.b.sys, ldg := t.b.ldg, crn := t.b.crn, lanes := t.b.lanes, rdg := t.b.rdg, pairs := t.b.pairs, pwm :=
          t.b.pwm, cmps := t.b.cmps, mpt := t.b.mpt, fad := t.b.fad, ke0 := t.b.ke0, ke1 := t.b.ke1, fpm := t.b.fpm,
          but := t.b.but }) ∧
  (∀ (eng : Fin 2) (w : BitVec 64) (s t : State), exec (.nop eng w) s = .next t →
      Within { fields := [F.KE1_SCHED_STICKY_C2_LATE] } s t ∧
      t.b = { s.b with setNow := t.b.setNow, ke0 := t.b.ke0, ke1 := t.b.ke1 }) ∧
  (∀ (eng : Fin 2) (s t : State), exec (.endRun eng) s = .next t →
      Within {
          fields := pinFlds ++ causeFlds ++ [F.BUT_FAULT_CAUSE, F.BUT_STATUS_CODE, F.BUT_STATUS_DRV_EN, F.BUT_STATUS_READY,
            F.BUT_STATUS_STATE, F.FAD_CNT_URG_DROP_N, F.FAD_STATUS_URG_BUSY, F.FPM_CNT_SKIP_N, F.FPM_EVT0_CH,
            F.FPM_EVT1_CH, F.FPM_STATUS_ACTIVE, F.FPM_STATUS_HOLD_ACTIVE, F.FPM_STATUS_IN_EVENT,
            F.FPM_STATUS_TAKEOVER_REQ, F.FPM_STATUS_TRIP_ASSERTED, F.GRD_STATUS_PLL_LOCK, F.KE0_ECC_CNT_N,
            F.KE0_SATFLAGS0_STAGE, F.KE0_SATFLAGS1_STAGE, F.KE0_STATUS_PBANK, F.KE0_STATUS_PCOPY, F.KE1_C2_RMAX_N,
            F.KE1_C2_ROUND_N, F.KE1_ECC_CNT_N, F.KE1_EXP_STAGE_STAGE, F.KE1_SCHED_STAT_C1_RUN,
            F.KE1_SCHED_STAT_C2_ENTRY, F.KE1_SCHED_STAT_C2_RUN, F.KE1_SCHED_STAT_C2_SUSP, F.KE1_SCHED_STAT_SLOT,
            F.KE1_SCHED_STICKY_C2_LATE, F.KE1_STATUS_PBANK, F.KE1_STATUS_PCOPY, F.MPT_ISL_SRC_M, F.MPT_ISL_Z_Z,
            F.MPT_STATUS_ISLAND, F.MPT_STATUS_SCANNING, F.MPT_STATUS_SCAN_IN, F.RDG_BULK_STATUS_BUSY,
            F.RDG_BULK_STATUS_DONE, F.RDG_BULK_STATUS_ERR, F.RDG_CNT_HOPDROP_N, F.RDG_CNT_UNREACH_N,
            F.RDG_RACC_STATUS_BUSY, F.RDG_RACC_STATUS_DONE, F.RDG_RACC_STATUS_ERR, F.TRP_FIRST_PAIR, F.TRP_FIRST_SRC,
            F.TRP_FIRST_VALID, F.TRP_LATCH0_PAIR, F.TRP_LATCH1_PAIR, F.TRP_STATUS_ANY, F.TRP_STATUS_CYCLE,
            F.TRP_STATUS_LATCHED] ++ flags [F.BUT_STICKY_FAILED, F.FAD_STICKY_URG_DROP, F.FPM_STICKY_EVENT,
            F.FPM_STICKY_LATE_SKIP, F.FPM_STICKY_NO_PRED, F.FPM_STICKY_SAT_EVENT, F.FPM_STICKY_TAKEOVER_NA,
            F.KE0_STICKY_ECC_CORR, F.KE0_STICKY_SAT, F.KE1_STICKY_CLAMP, F.KE1_STICKY_ECC_CORR, F.KE1_STICKY_EXP_OVF,
            F.MPT_STICKY_ISLAND, F.MPT_STICKY_SCAN_ABORT, F.RDG_STICKY_HOP_DROP, F.RDG_STICKY_RACC_ERR,
            F.RDG_STICKY_UNREACH_DROP, F.TRP_STICKY_IT_REQ, F.TRP_STICKY_TRIP] ++ (List.range 64).map
            F.FPM_CH_HOLD_COUNT ++ (List.range 64).map F.FPM_CH_RES_RES ++ (List.range 256).map F.KE0_ISLOT_VAL ++
            (List.range 128).map F.KE0_OSLOT_VAL ++ (List.range 4).map F.KE1_CLAMPFLAGS_STAGE ++ (List.range 128).map
            F.KE1_OSLOT_VAL ++ (List.range 12).map F.MPT_VOP_V ++ (List.range 4).map F.TRP_ACT_SRC ++ (List.range
            4).map F.TRP_SEEN_SRC,
          force := [0x30] } s t ∧ t.b = { s.b with
          freeCtr := t.b.freeCtr, setNow := t.b.setNow, sys := t.b.sys, ldg := t.b.ldg, crn := t.b.crn, lanes := t.b.lanes,
          rdg := t.b.rdg, pairs := t.b.pairs, pwm := t.b.pwm, cmps := t.b.cmps, mpt := t.b.mpt, fad := t.b.fad, ke0 :=
          t.b.ke0, ke1 := t.b.ke1, fpm := t.b.fpm, pmp := t.b.pmp, but := t.b.but, grd := t.b.grd }) ∧
  (∀ (eng : Fin 2) (w : BitVec 64) (s t : State), exec (.flag eng w) s = .next t →
      Within { fields := tripFlds ++ [F.FPM_KE0_EVT_FLAG, F.KE1_EVT_FLAG, F.KE1_SCHED_STICKY_C2_LATE] } s t ∧
      t.b = { s.b with
          setNow := t.b.setNow, ldg := t.b.ldg, crn := t.b.crn, lanes := t.b.lanes, rdg := t.b.rdg, pairs := t.b.pairs, pwm :=
          t.b.pwm, cmps := t.b.cmps, mpt := t.b.mpt, fad := t.b.fad, ke0 := t.b.ke0, ke1 := t.b.ke1 }) ∧
  (∀ (eng : Fin 2) (w : BitVec 64) (s t : State), exec (.lds eng w) s = .next t →
      Within {
          fields := ledgerFlds ++ [F.KE0_SATFLAGS0_STAGE, F.KE0_SATFLAGS1_STAGE, F.KE1_EXP_STAGE_STAGE,
            F.KE1_SCHED_STICKY_C2_LATE] ++ flags [F.KE0_STICKY_SAT, F.KE1_STICKY_CLAMP, F.KE1_STICKY_EXP_OVF] ++
            (List.range 4).map F.KE1_CLAMPFLAGS_STAGE } s t ∧
      t.b = { s.b with setNow := t.b.setNow, ldg := t.b.ldg, ke0 := t.b.ke0, ke1 := t.b.ke1 }) ∧
  (∀ (eng : Fin 2) (w : BitVec 64) (s t : State), exec (.sts eng w) s = .next t →
      Within {
          fields := [F.KE1_SCHED_STICKY_C2_LATE] ++ (List.range 128).map F.KE0_OSLOT_VAL ++ (List.range 128).map
            F.KE1_OSLOT_VAL } s t ∧ t.b = { s.b with setNow := t.b.setNow, ke0 := t.b.ke0, ke1 := t.b.ke1 }) ∧
  (∀ (eng : Fin 2) (w : BitVec 64) (s t : State), exec (.mac eng w) s = .next t →
      Within {
          fields := ledgerFlds ++ [F.KE0_SATFLAGS0_STAGE, F.KE0_SATFLAGS1_STAGE, F.KE1_EXP_STAGE_STAGE,
            F.KE1_SCHED_STICKY_C2_LATE] ++ flags [F.KE0_STICKY_SAT, F.KE1_STICKY_CLAMP, F.KE1_STICKY_EXP_OVF] ++
            (List.range 4).map F.KE1_CLAMPFLAGS_STAGE } s t ∧
      t.b = { s.b with setNow := t.b.setNow, ldg := t.b.ldg, ke0 := t.b.ke0, ke1 := t.b.ke1 }) ∧
  (∀ (eng : Fin 2) (w : BitVec 64) (s t : State), exec (.mul eng w) s = .next t →
      Within {
          fields := ledgerFlds ++ [F.KE0_SATFLAGS0_STAGE, F.KE0_SATFLAGS1_STAGE, F.KE1_EXP_STAGE_STAGE,
            F.KE1_SCHED_STICKY_C2_LATE] ++ flags [F.KE0_STICKY_SAT, F.KE1_STICKY_CLAMP, F.KE1_STICKY_EXP_OVF] ++
            (List.range 4).map F.KE1_CLAMPFLAGS_STAGE } s t ∧
      t.b = { s.b with setNow := t.b.setNow, ldg := t.b.ldg, ke0 := t.b.ke0, ke1 := t.b.ke1 }) ∧
  (∀ (eng : Fin 2) (w : BitVec 64) (s t : State), exec (.add eng w) s = .next t →
      Within {
          fields := ledgerFlds ++ [F.KE0_SATFLAGS0_STAGE, F.KE0_SATFLAGS1_STAGE, F.KE1_EXP_STAGE_STAGE,
            F.KE1_SCHED_STICKY_C2_LATE] ++ flags [F.KE0_STICKY_SAT, F.KE1_STICKY_CLAMP, F.KE1_STICKY_EXP_OVF] ++
            (List.range 4).map F.KE1_CLAMPFLAGS_STAGE } s t ∧
      t.b = { s.b with setNow := t.b.setNow, ldg := t.b.ldg, ke0 := t.b.ke0, ke1 := t.b.ke1 }) ∧
  (∀ (eng : Fin 2) (w : BitVec 64) (s t : State), exec (.sub eng w) s = .next t →
      Within {
          fields := ledgerFlds ++ [F.KE0_SATFLAGS0_STAGE, F.KE0_SATFLAGS1_STAGE, F.KE1_EXP_STAGE_STAGE,
            F.KE1_SCHED_STICKY_C2_LATE] ++ flags [F.KE0_STICKY_SAT, F.KE1_STICKY_CLAMP, F.KE1_STICKY_EXP_OVF] ++
            (List.range 4).map F.KE1_CLAMPFLAGS_STAGE } s t ∧
      t.b = { s.b with setNow := t.b.setNow, ldg := t.b.ldg, ke0 := t.b.ke0, ke1 := t.b.ke1 }) ∧
  (∀ (eng : Fin 2) (w : BitVec 64) (s t : State), exec (.neg eng w) s = .next t →
      Within {
          fields := ledgerFlds ++ [F.KE0_SATFLAGS0_STAGE, F.KE0_SATFLAGS1_STAGE, F.KE1_EXP_STAGE_STAGE,
            F.KE1_SCHED_STICKY_C2_LATE] ++ flags [F.KE0_STICKY_SAT, F.KE1_STICKY_CLAMP, F.KE1_STICKY_EXP_OVF] ++
            (List.range 4).map F.KE1_CLAMPFLAGS_STAGE } s t ∧
      t.b = { s.b with setNow := t.b.setNow, ldg := t.b.ldg, ke0 := t.b.ke0, ke1 := t.b.ke1 }) ∧
  (∀ (eng : Fin 2) (w : BitVec 64) (s t : State), exec (.abs eng w) s = .next t →
      Within {
          fields := ledgerFlds ++ [F.KE0_SATFLAGS0_STAGE, F.KE0_SATFLAGS1_STAGE, F.KE1_EXP_STAGE_STAGE,
            F.KE1_SCHED_STICKY_C2_LATE] ++ flags [F.KE0_STICKY_SAT, F.KE1_STICKY_CLAMP, F.KE1_STICKY_EXP_OVF] ++
            (List.range 4).map F.KE1_CLAMPFLAGS_STAGE } s t ∧
      t.b = { s.b with setNow := t.b.setNow, ldg := t.b.ldg, ke0 := t.b.ke0, ke1 := t.b.ke1 }) ∧
  (∀ (eng : Fin 2) (w : BitVec 64) (s t : State), exec (.sat eng w) s = .next t →
      Within {
          fields := ledgerFlds ++ [F.KE0_SATFLAGS0_STAGE, F.KE0_SATFLAGS1_STAGE, F.KE1_EXP_STAGE_STAGE,
            F.KE1_SCHED_STICKY_C2_LATE] ++ flags [F.KE0_STICKY_SAT, F.KE1_STICKY_CLAMP, F.KE1_STICKY_EXP_OVF] ++
            (List.range 4).map F.KE1_CLAMPFLAGS_STAGE } s t ∧
      t.b = { s.b with setNow := t.b.setNow, ldg := t.b.ldg, ke0 := t.b.ke0, ke1 := t.b.ke1 }) ∧
  (∀ (eng : Fin 2) (w : BitVec 64) (s t : State), exec (.clamp eng w) s = .next t →
      Within {
          fields := ledgerFlds ++ [F.KE0_SATFLAGS0_STAGE, F.KE0_SATFLAGS1_STAGE, F.KE1_EXP_STAGE_STAGE,
            F.KE1_SCHED_STICKY_C2_LATE] ++ flags [F.KE0_STICKY_SAT, F.KE1_STICKY_CLAMP, F.KE1_STICKY_EXP_OVF] ++
            (List.range 4).map F.KE1_CLAMPFLAGS_STAGE } s t ∧
      t.b = { s.b with setNow := t.b.setNow, ldg := t.b.ldg, ke0 := t.b.ke0, ke1 := t.b.ke1 }) ∧
  (∀ (eng : Fin 2) (w : BitVec 64) (s t : State), exec (.integ eng w) s = .next t →
      Within {
          fields := ledgerFlds ++ [F.KE0_SATFLAGS0_STAGE, F.KE0_SATFLAGS1_STAGE, F.KE1_EXP_STAGE_STAGE,
            F.KE1_SCHED_STICKY_C2_LATE] ++ flags [F.KE0_STICKY_SAT, F.KE1_STICKY_CLAMP, F.KE1_STICKY_EXP_OVF] ++
            (List.range 4).map F.KE1_CLAMPFLAGS_STAGE } s t ∧
      t.b = { s.b with setNow := t.b.setNow, ldg := t.b.ldg, ke0 := t.b.ke0, ke1 := t.b.ke1 }) ∧
  (∀ (eng : Fin 2) (w : BitVec 64) (s t : State), exec (.norm eng w) s = .next t →
      Within {
          fields := ledgerFlds ++ [F.KE0_SATFLAGS0_STAGE, F.KE0_SATFLAGS1_STAGE, F.KE1_EXP_STAGE_STAGE,
            F.KE1_SCHED_STICKY_C2_LATE] ++ flags [F.KE0_STICKY_SAT, F.KE1_STICKY_CLAMP, F.KE1_STICKY_EXP_OVF] ++
            (List.range 4).map F.KE1_CLAMPFLAGS_STAGE } s t ∧
      t.b = { s.b with setNow := t.b.setNow, ldg := t.b.ldg, ke0 := t.b.ke0, ke1 := t.b.ke1 }) ∧
  (∀ (eng : Fin 2) (w : BitVec 64) (s t : State), exec (.she eng w) s = .next t →
      Within {
          fields := ledgerFlds ++ [F.KE0_SATFLAGS0_STAGE, F.KE0_SATFLAGS1_STAGE, F.KE1_EXP_STAGE_STAGE,
            F.KE1_SCHED_STICKY_C2_LATE] ++ flags [F.KE0_STICKY_SAT, F.KE1_STICKY_CLAMP, F.KE1_STICKY_EXP_OVF] ++
            (List.range 4).map F.KE1_CLAMPFLAGS_STAGE } s t ∧
      t.b = { s.b with setNow := t.b.setNow, ldg := t.b.ldg, ke0 := t.b.ke0, ke1 := t.b.ke1 }) ∧
  (∀ (eng : Fin 2) (w : BitVec 64) (s t : State), exec (.trig eng w) s = .next t →
      Within {
          fields := ledgerFlds ++ [F.KE0_SATFLAGS0_STAGE, F.KE0_SATFLAGS1_STAGE, F.KE1_EXP_STAGE_STAGE,
            F.KE1_SCHED_STICKY_C2_LATE] ++ flags [F.KE0_STICKY_SAT, F.KE1_STICKY_CLAMP, F.KE1_STICKY_EXP_OVF] ++
            (List.range 4).map F.KE1_CLAMPFLAGS_STAGE } s t ∧
      t.b = { s.b with setNow := t.b.setNow, ldg := t.b.ldg, ke0 := t.b.ke0, ke1 := t.b.ke1 }) ∧
  (∀ (eng : Fin 2) (w : BitVec 64) (s t : State), exec (.clk3 eng w) s = .next t →
      Within {
          fields := ledgerFlds ++ [F.KE0_SATFLAGS0_STAGE, F.KE0_SATFLAGS1_STAGE, F.KE1_EXP_STAGE_STAGE,
            F.KE1_SCHED_STICKY_C2_LATE] ++ flags [F.KE0_STICKY_SAT, F.KE1_STICKY_CLAMP, F.KE1_STICKY_EXP_OVF] ++
            (List.range 4).map F.KE1_CLAMPFLAGS_STAGE } s t ∧
      t.b = { s.b with setNow := t.b.setNow, ldg := t.b.ldg, ke0 := t.b.ke0, ke1 := t.b.ke1 }) ∧
  (∀ (eng : Fin 2) (w : BitVec 64) (s t : State), exec (.park eng w) s = .next t →
      Within {
          fields := ledgerFlds ++ [F.KE0_SATFLAGS0_STAGE, F.KE0_SATFLAGS1_STAGE, F.KE1_EXP_STAGE_STAGE,
            F.KE1_SCHED_STICKY_C2_LATE] ++ flags [F.KE0_STICKY_SAT, F.KE1_STICKY_CLAMP, F.KE1_STICKY_EXP_OVF] ++
            (List.range 4).map F.KE1_CLAMPFLAGS_STAGE } s t ∧
      t.b = { s.b with setNow := t.b.setNow, ldg := t.b.ldg, ke0 := t.b.ke0, ke1 := t.b.ke1 }) ∧
  (∀ (eng : Fin 2) (w : BitVec 64) (s t : State), exec (.ipark eng w) s = .next t →
      Within {
          fields := ledgerFlds ++ [F.KE0_SATFLAGS0_STAGE, F.KE0_SATFLAGS1_STAGE, F.KE1_EXP_STAGE_STAGE,
            F.KE1_SCHED_STICKY_C2_LATE] ++ flags [F.KE0_STICKY_SAT, F.KE1_STICKY_CLAMP, F.KE1_STICKY_EXP_OVF] ++
            (List.range 4).map F.KE1_CLAMPFLAGS_STAGE } s t ∧
      t.b = { s.b with setNow := t.b.setNow, ldg := t.b.ldg, ke0 := t.b.ke0, ke1 := t.b.ke1 }) ∧
  (∀ (eng : Fin 2) (w : BitVec 64) (s t : State), exec (.cmp eng w) s = .next t →
      Within {
          fields := ledgerFlds ++ [F.KE0_SATFLAGS0_STAGE, F.KE0_SATFLAGS1_STAGE, F.KE1_EXP_STAGE_STAGE,
            F.KE1_SCHED_STICKY_C2_LATE] ++ flags [F.KE0_STICKY_SAT, F.KE1_STICKY_CLAMP, F.KE1_STICKY_EXP_OVF] ++
            (List.range 4).map F.KE1_CLAMPFLAGS_STAGE } s t ∧
      t.b = { s.b with setNow := t.b.setNow, ldg := t.b.ldg, ke0 := t.b.ke0, ke1 := t.b.ke1 }) ∧
  (∀ (eng : Fin 2) (w : BitVec 64) (s t : State), exec (.sel eng w) s = .next t →
      Within {
          fields := ledgerFlds ++ [F.KE0_SATFLAGS0_STAGE, F.KE0_SATFLAGS1_STAGE, F.KE1_EXP_STAGE_STAGE,
            F.KE1_SCHED_STICKY_C2_LATE] ++ flags [F.KE0_STICKY_SAT, F.KE1_STICKY_CLAMP, F.KE1_STICKY_EXP_OVF] ++
            (List.range 4).map F.KE1_CLAMPFLAGS_STAGE } s t ∧
      t.b = { s.b with setNow := t.b.setNow, ldg := t.b.ldg, ke0 := t.b.ke0, ke1 := t.b.ke1 }) ∧
  (∀ (eng : Fin 2) (w : BitVec 64) (s t : State), exec (.rcp eng w) s = .next t →
      Within {
          fields := ledgerFlds ++ [F.KE0_SATFLAGS0_STAGE, F.KE0_SATFLAGS1_STAGE, F.KE1_EXP_STAGE_STAGE,
            F.KE1_SCHED_STICKY_C2_LATE] ++ flags [F.KE0_STICKY_SAT, F.KE1_STICKY_CLAMP, F.KE1_STICKY_EXP_OVF] ++
            (List.range 4).map F.KE1_CLAMPFLAGS_STAGE } s t ∧
      t.b = { s.b with setNow := t.b.setNow, ldg := t.b.ldg, ke0 := t.b.ke0, ke1 := t.b.ke1 }) ∧
  (∀ (eng : Fin 2) (w : BitVec 64) (s t : State), exec (.rsq eng w) s = .next t →
      Within {
          fields := ledgerFlds ++ [F.KE0_SATFLAGS0_STAGE, F.KE0_SATFLAGS1_STAGE, F.KE1_EXP_STAGE_STAGE,
            F.KE1_SCHED_STICKY_C2_LATE] ++ flags [F.KE0_STICKY_SAT, F.KE1_STICKY_CLAMP, F.KE1_STICKY_EXP_OVF] ++
            (List.range 4).map F.KE1_CLAMPFLAGS_STAGE } s t ∧
      t.b = { s.b with setNow := t.b.setNow, ldg := t.b.ldg, ke0 := t.b.ke0, ke1 := t.b.ke1 }) ∧
  (∀ (eng : Fin 2) (w : BitVec 64) (s t : State), exec (.expect eng w) s = .next t →
      Within { fields := [F.KE1_SCHED_STICKY_C2_LATE] } s t ∧ t.b = { s.b with
          freeCtr := t.b.freeCtr, setNow := t.b.setNow, ke0 := t.b.ke0, ke1 := t.b.ke1, fpm := t.b.fpm }) ∧
  (∀ (v : Word) (s t : State), exec (.ke0CtrlWrite v) s = .next t →
      Within {
          fields := tripFlds ++ guarFlds ++ [F.BUT_FAULT_CAUSE, F.BUT_STATUS_CODE, F.BUT_STATUS_DRV_EN, F.BUT_STATUS_READY,
            F.BUT_STATUS_STATE, F.FAD_STATUS_TIMER, F.FPM_STATUS_ACTIVE, F.FPM_STATUS_HOLD_ACTIVE,
            F.FPM_STATUS_IN_EVENT, F.FPM_STATUS_TAKEOVER_REQ, F.FPM_STATUS_TRIP_ASSERTED, F.KE0_CTRL_COMMIT_BRK,
            F.KE0_CTRL_COMMIT_PWM, F.KE0_CTRL_ENABLE, F.KE0_STATUS_EN_HELD, F.KE0_STATUS_STATE] ++ flags
            [F.BUT_STICKY_FAILED] ++ (List.range 64).map F.FPM_CH_HOLD_COUNT ++ (List.range 128).map F.KE0_OSLOT_VAL
            ++ (List.range 128).map F.KE1_OSLOT_VAL } s t ∧ t.b = { s.b with
          freeCtr := t.b.freeCtr, setNow := t.b.setNow, sys := t.b.sys, ldg := t.b.ldg, crn := t.b.crn, lanes := t.b.lanes,
          rdg := t.b.rdg, pairs := t.b.pairs, pwm := t.b.pwm, cmps := t.b.cmps, mpt := t.b.mpt, fad := t.b.fad, ke0 :=
          t.b.ke0, fpm := t.b.fpm, but := t.b.but, phs := t.b.phs }) ∧
  (∀ (v : Word) (s t : State), exec (.ke1CtrlWrite v) s = .next t →
      Within {
          fields := tripFlds ++ [F.BUT_FAULT_CAUSE, F.BUT_STATUS_CODE, F.BUT_STATUS_DRV_EN, F.BUT_STATUS_READY,
            F.BUT_STATUS_STATE, F.KE1_CTRL_ENABLE, F.KE1_SCHED_STAT_C1_RUN, F.KE1_SCHED_STAT_C2_ENTRY,
            F.KE1_SCHED_STAT_C2_RUN, F.KE1_SCHED_STAT_C2_SUSP, F.KE1_STATUS_STATE] ++ flags [F.BUT_STICKY_FAILED] ++
            (List.range 128).map F.KE0_OSLOT_VAL ++ (List.range 128).map F.KE1_OSLOT_VAL } s t ∧
      t.b = { s.b with
          setNow := t.b.setNow, sys := t.b.sys, ldg := t.b.ldg, crn := t.b.crn, lanes := t.b.lanes, rdg := t.b.rdg, pairs :=
          t.b.pairs, pwm := t.b.pwm, cmps := t.b.cmps, mpt := t.b.mpt, fad := t.b.fad, ke1 := t.b.ke1, but := t.b.but }) ∧
  (∀ (eng : Fin 2) (s t : State), exec (.check eng) s = .next t →
      Within { fields := [F.KE0_STATUS_CHK_BUSY, F.KE1_STATUS_CHK_BUSY] } s t ∧
      t.b = { s.b with ke0 := t.b.ke0, ke1 := t.b.ke1 }) ∧
  (∀ (eng : Fin 2) (ecc : Option (BitVec 12)) (s t : State), exec (.checkDone eng ecc) s = .next t →
      Within {
          fields := tripFlds ++ guarFlds ++ [F.BUT_FAULT_CAUSE, F.BUT_STATUS_CODE, F.BUT_STATUS_DRV_EN, F.BUT_STATUS_READY,
            F.BUT_STATUS_STATE, F.FPM_STATUS_ACTIVE, F.FPM_STATUS_HOLD_ACTIVE, F.FPM_STATUS_IN_EVENT,
            F.FPM_STATUS_TAKEOVER_REQ, F.FPM_STATUS_TRIP_ASSERTED, F.KE0_ECC_CNT_N, F.KE0_FAULT_INFO_ADDR,
            F.KE0_FAULT_INFO_MEM, F.KE0_PSTAT_ERR, F.KE0_PSTAT_ERR_ADDR, F.KE0_PSTAT_LEN, F.KE0_PSTAT_VALID,
            F.KE0_STATUS_CHK_BUSY, F.KE0_STATUS_STATE, F.KE1_ECC_CNT_N, F.KE1_FAULT_INFO_ADDR, F.KE1_FAULT_INFO_MEM,
            F.KE1_PLEN_LEN, F.KE1_PSTAT_ERR, F.KE1_PSTAT_ERR_ADDR, F.KE1_PSTAT_VALID, F.KE1_SCHED_STAT_C1_RUN,
            F.KE1_SCHED_STAT_C2_ENTRY, F.KE1_SCHED_STAT_C2_RUN, F.KE1_SCHED_STAT_C2_SUSP, F.KE1_STATUS_CHK_BUSY,
            F.KE1_STATUS_STATE] ++ flags [F.BUT_STICKY_FAILED, F.KE0_STICKY_CHECK_FAIL, F.KE0_STICKY_ECC_CORR,
            F.KE0_STICKY_FAULT, F.KE1_STICKY_CHECK_FAIL, F.KE1_STICKY_ECC_CORR, F.KE1_STICKY_FAULT] ++ (List.range
            64).map F.FPM_CH_HOLD_COUNT ++ (List.range 128).map F.KE0_OSLOT_VAL ++ (List.range 128).map
            F.KE1_OSLOT_VAL } s t ∧ t.b = { s.b with
          freeCtr := t.b.freeCtr, setNow := t.b.setNow, sys := t.b.sys, ldg := t.b.ldg, crn := t.b.crn, lanes := t.b.lanes,
          rdg := t.b.rdg, pairs := t.b.pairs, pwm := t.b.pwm, cmps := t.b.cmps, mpt := t.b.mpt, fad := t.b.fad, ke0 :=
          t.b.ke0, ke1 := t.b.ke1, fpm := t.b.fpm, but := t.b.but, phs := t.b.phs }) ∧
  (∀ (eng : Fin 2) (k : BitVec 12) (hi : Bool) (v : Word) (s t : State), exec (.programWrite eng k hi v) s = .next t →
      Within {
          fields := flags [F.KE0_STICKY_PROG_WR_REJECT, F.KE1_STICKY_PROG_WR_REJECT],
          words := fun a => a = progBase eng + 2 * k + bit hi } s t ∧
      t.b = { s.b with setNow := t.b.setNow, ke0 := t.b.ke0, ke1 := t.b.ke1 }) ∧
  (∀ (eng : Fin 2) (i1 : BitVec 12) (v : Word) (s t : State), exec (.parameterWrite eng i1 v) s = .next t →
      Within {
          fields := flags [F.KE0_STICKY_PARAM_REJECT, F.KE1_STICKY_PARAM_REJECT],
          words := fun a => a = bankAddr eng (1 - activeBank s eng) + i1 } s t ∧
      t.b = { s.b with setNow := t.b.setNow }) ∧
  (∀ (eng : Fin 2) (s t : State), exec (.paramCopyDone eng) s = .next t →
      Within {
          fields := [F.KE0_ECC_CNT_N, F.KE0_STATUS_PCOPY, F.KE1_ECC_CNT_N, F.KE1_STATUS_PCOPY] ++ flags
            [F.KE0_STICKY_ECC_CORR, F.KE1_STICKY_ECC_CORR],
          words := fun a => bankAddr eng (1 - activeBank s eng) ≤ a ∧ a < bankAddr eng (1 - activeBank s eng) + kParams eng } s t ∧
      t.b = { s.b with freeCtr := t.b.freeCtr, setNow := t.b.setNow }) ∧
  (∀ (s t : State), exec .ke0TimingCommit s = .next t →
      Within {
          fields := ledgerFlds ++ flags [F.KE0_STICKY_PROG_REJECT, F.KE0_STICKY_TIMING_REJECT],
          pend := [0x20] } s t ∧ t.b = { s.b with
          setNow := t.b.setNow, commitNow := t.b.commitNow, commitWas := t.b.commitWas, waiting := t.b.waiting, ldg := t.b.ldg }) ∧
  (∀ (s t : State), exec .ke0ParamSwap s = .next t →
      Within { fields := flags [F.KE0_STICKY_PARAM_REJECT, F.KE1_STICKY_PARAM_REJECT] } s t ∧
      t.b = { s.b with setNow := t.b.setNow, ke0 := t.b.ke0, ke1 := t.b.ke1 }) ∧
  (∀ (s t : State), exec .ke1EntryCommit s = .next t →
      Within { fields := ledgerFlds ++ flags [F.KE1_STICKY_PROG_REJECT], pend := [0x30] } s t ∧ t.b = { s.b with
          setNow := t.b.setNow, commitNow := t.b.commitNow, commitWas := t.b.commitWas, waiting := t.b.waiting, ldg :=
          t.b.ldg, ke1 := t.b.ke1 }) ∧
  (∀ (s t : State), exec .ke1ParamSwap s = .next t →
      Within { fields := flags [F.KE0_STICKY_PARAM_REJECT, F.KE1_STICKY_PARAM_REJECT] } s t ∧
      t.b = { s.b with setNow := t.b.setNow, ke0 := t.b.ke0, ke1 := t.b.ke1 }) ∧
  (∀ (s t : State), exec .rmaxClr s = .next t →
      Within { fields := [F.KE1_C2_RMAX_N] } s t ∧ t.b = s.b) ∧
  (∀ (eng : Fin 2) (mem : Fin 4) (addr : BitVec 16) (s t : State), exec (.engineFault eng mem addr) s = .next t →
      Within {
          fields := tripFlds ++ guarFlds ++ [F.BUT_FAULT_CAUSE, F.BUT_STATUS_CODE, F.BUT_STATUS_DRV_EN, F.BUT_STATUS_READY,
            F.BUT_STATUS_STATE, F.FPM_STATUS_ACTIVE, F.FPM_STATUS_HOLD_ACTIVE, F.FPM_STATUS_IN_EVENT,
            F.FPM_STATUS_TAKEOVER_REQ, F.FPM_STATUS_TRIP_ASSERTED, F.KE0_FAULT_INFO_ADDR, F.KE0_FAULT_INFO_MEM,
            F.KE0_STATUS_STATE, F.KE1_FAULT_INFO_ADDR, F.KE1_FAULT_INFO_MEM, F.KE1_SCHED_STAT_C1_RUN,
            F.KE1_SCHED_STAT_C2_ENTRY, F.KE1_SCHED_STAT_C2_RUN, F.KE1_SCHED_STAT_C2_SUSP, F.KE1_STATUS_STATE] ++ flags
            [F.BUT_STICKY_FAILED, F.KE0_STICKY_FAULT, F.KE1_STICKY_FAULT] ++ (List.range 64).map F.FPM_CH_HOLD_COUNT
            ++ (List.range 128).map F.KE0_OSLOT_VAL ++ (List.range 128).map F.KE1_OSLOT_VAL } s t ∧
      t.b = { s.b with
          freeCtr := t.b.freeCtr, setNow := t.b.setNow, sys := t.b.sys, ldg := t.b.ldg, crn := t.b.crn, lanes := t.b.lanes,
          rdg := t.b.rdg, pairs := t.b.pairs, pwm := t.b.pwm, cmps := t.b.cmps, mpt := t.b.mpt, fad := t.b.fad, ke0 :=
          t.b.ke0, ke1 := t.b.ke1, fpm := t.b.fpm, but := t.b.but, phs := t.b.phs }) ∧
  (∀ (k : Fin 2) (mask : Word) (s t : State), exec (.fpmRelease k mask) s = .next t →
      Within {
          fields := tripFlds ++ [F.BUT_FAULT_CAUSE, F.BUT_STATUS_CODE, F.BUT_STATUS_DRV_EN, F.BUT_STATUS_READY,
            F.BUT_STATUS_STATE, F.FPM_STATUS_ACTIVE, F.FPM_STATUS_HOLD_ACTIVE, F.FPM_STATUS_IN_EVENT,
            F.FPM_STATUS_TAKEOVER_REQ, F.FPM_STATUS_TRIP_ASSERTED] ++ flags [F.BUT_STICKY_FAILED,
            F.FPM_STICKY_REL_REJECT] } s t ∧ t.b = { s.b with
          setNow := t.b.setNow, sys := t.b.sys, ldg := t.b.ldg, crn := t.b.crn, lanes := t.b.lanes, rdg := t.b.rdg, pairs :=
          t.b.pairs, pwm := t.b.pwm, cmps := t.b.cmps, mpt := t.b.mpt, fad := t.b.fad, fpm := t.b.fpm, but := t.b.but }) ∧
  (∀ (s t : State), exec .satRel s = .next t →
      Within {
          fields := tripFlds ++ [F.BUT_FAULT_CAUSE, F.BUT_STATUS_CODE, F.BUT_STATUS_DRV_EN, F.BUT_STATUS_READY,
            F.BUT_STATUS_STATE, F.FPM_STATUS_ACTIVE, F.FPM_STATUS_HOLD_ACTIVE, F.FPM_STATUS_IN_EVENT,
            F.FPM_STATUS_TAKEOVER_REQ, F.FPM_STATUS_TRIP_ASSERTED] ++ flags [F.BUT_STICKY_FAILED,
            F.FPM_STICKY_REL_REJECT] } s t ∧ t.b = { s.b with
          setNow := t.b.setNow, sys := t.b.sys, ldg := t.b.ldg, crn := t.b.crn, lanes := t.b.lanes, rdg := t.b.rdg, pairs :=
          t.b.pairs, pwm := t.b.pwm, cmps := t.b.cmps, mpt := t.b.mpt, fad := t.b.fad, fpm := t.b.fpm, but := t.b.but }) ∧
  (∀ (s t : State), exec .fpmCommit s = .next t →
      Within { fields := ledgerFlds ++ flags [F.FPM_STICKY_CFG_REJECT], pend := [0x21] } s t ∧ t.b = { s.b with
          setNow := t.b.setNow, commitNow := t.b.commitNow, commitWas := t.b.commitWas, waiting := t.b.waiting, ldg := t.b.ldg }) ∧
  (∀ (k : Fin 64) (s t : State), exec (.grdEntryTimer k) s = .next t →
      Within {
          fields := tripFlds ++ [F.GDP_BRK_ON_TIME_US, F.GDP_STATUS_BRK_REQ, F.GDP_STATUS_RT_SET, F.GRD_STATUS_STATE,
            F.PMP_STATUS_CAUSE, F.PMP_STATUS_STATE, F.PWX_STATUS_BRK_HW, F.PWX_STATUS_CESSATION] ++ flags
            [F.GRD_STICKY_CESSATION, F.GRD_STICKY_RT_ENTER, F.GRD_STICKY_TRIP, F.PMP_STICKY_OC, F.PMP_STICKY_OV,
            F.PMP_STICKY_SHOOT_BLOCK, F.PMP_STICKY_STALL, F.PMP_STICKY_START_FAIL, F.PMP_STICKY_WDOG,
            F.PWX_STICKY_BRK_CLAMP, F.PWX_STICKY_CESSATION] ++ (List.range 4).map F.CMP_EVT_WIN ++ (List.range 4).map
            F.CMP_STATUS_HIGH ++ (List.range 4).map F.CMP_STATUS_LOW ++ flags ((List.range 4).map F.CMP_STICKY_EVENT)
            ++ (List.range 49).map F.PAIR_STAT_CNT ++ (List.range 49).map F.PAIR_STAT_PEND ++ (List.range 3).map
            F.PWM_CLAMP_PAIR ++ flags ((List.range 3).map F.PWM_STICKY_DUTY_CLAMP) ++ (List.range 64).map
            F.WIN_STAT_HEFF ++ (List.range 64).map F.WIN_STAT_HIGH ++ (List.range 64).map F.WIN_STAT_LOW,
          force := [0x40, 0x41, 0x42, 0x43] } s t ∧ t.b = { s.b with
          setNow := t.b.setNow, ldg := t.b.ldg, crn := t.b.crn, lanes := t.b.lanes, rdg := t.b.rdg, pairs := t.b.pairs, pwm :=
          t.b.pwm, cmps := t.b.cmps, mpt := t.b.mpt, fad := t.b.fad, pmp := t.b.pmp, grd := t.b.grd }) ∧
  (∀ (s t : State), exec .cessationResume s = .next t →
      Within {
          fields := tripFlds ++ [F.GDP_BRK_ON_TIME_US, F.GDP_STATUS_BRK_REQ, F.GDP_STATUS_RT_SET, F.GRD_STATUS_STATE,
            F.PMP_STATUS_CAUSE, F.PMP_STATUS_STATE, F.PWX_STATUS_BRK_HW, F.PWX_STATUS_CESSATION] ++ flags
            [F.GRD_STICKY_CESSATION, F.GRD_STICKY_RT_ENTER, F.GRD_STICKY_TRIP, F.PMP_STICKY_OC, F.PMP_STICKY_OV,
            F.PMP_STICKY_SHOOT_BLOCK, F.PMP_STICKY_STALL, F.PMP_STICKY_START_FAIL, F.PMP_STICKY_WDOG,
            F.PWX_STICKY_BRK_CLAMP, F.PWX_STICKY_CESSATION] ++ (List.range 4).map F.CMP_EVT_WIN ++ (List.range 4).map
            F.CMP_STATUS_HIGH ++ (List.range 4).map F.CMP_STATUS_LOW ++ flags ((List.range 4).map F.CMP_STICKY_EVENT)
            ++ (List.range 49).map F.PAIR_STAT_CNT ++ (List.range 49).map F.PAIR_STAT_PEND ++ (List.range 3).map
            F.PWM_CLAMP_PAIR ++ flags ((List.range 3).map F.PWM_STICKY_DUTY_CLAMP) ++ (List.range 64).map
            F.WIN_STAT_HEFF ++ (List.range 64).map F.WIN_STAT_HIGH ++ (List.range 64).map F.WIN_STAT_LOW,
          force := [0x40, 0x41, 0x42, 0x43] } s t ∧ t.b = { s.b with
          setNow := t.b.setNow, ldg := t.b.ldg, crn := t.b.crn, lanes := t.b.lanes, rdg := t.b.rdg, pairs := t.b.pairs, pwm :=
          t.b.pwm, cmps := t.b.cmps, mpt := t.b.mpt, fad := t.b.fad, pmp := t.b.pmp, grd := t.b.grd }) ∧
  (∀ (s t : State), exec .grdClear s = .next t →
      Within {
          fields := tripFlds ++ [F.GDP_BRK_ON_TIME_US, F.GDP_STATUS_BRK_REQ, F.GDP_STATUS_RT_SET, F.GRD_STATUS_STATE,
            F.PMP_STATUS_CAUSE, F.PMP_STATUS_STATE, F.PWX_STATUS_BRK_HW, F.PWX_STATUS_CESSATION] ++ flags
            [F.GRD_STICKY_CESSATION, F.GRD_STICKY_CLEAR_REJECT, F.GRD_STICKY_RT_ENTER, F.GRD_STICKY_TRIP,
            F.PMP_STICKY_OC, F.PMP_STICKY_OV, F.PMP_STICKY_SHOOT_BLOCK, F.PMP_STICKY_STALL, F.PMP_STICKY_START_FAIL,
            F.PMP_STICKY_WDOG, F.PWX_STICKY_BRK_CLAMP, F.PWX_STICKY_CESSATION] ++ (List.range 4).map F.CMP_EVT_WIN ++
            (List.range 4).map F.CMP_STATUS_HIGH ++ (List.range 4).map F.CMP_STATUS_LOW ++ flags ((List.range 4).map
            F.CMP_STICKY_EVENT) ++ (List.range 49).map F.PAIR_STAT_CNT ++ (List.range 49).map F.PAIR_STAT_PEND ++
            (List.range 3).map F.PWM_CLAMP_PAIR ++ flags ((List.range 3).map F.PWM_STICKY_DUTY_CLAMP) ++ (List.range
            64).map F.WIN_STAT_HEFF ++ (List.range 64).map F.WIN_STAT_HIGH ++ (List.range 64).map F.WIN_STAT_LOW,
          force := [0x40, 0x41, 0x42, 0x43] } s t ∧ t.b = { s.b with
          setNow := t.b.setNow, ldg := t.b.ldg, crn := t.b.crn, lanes := t.b.lanes, rdg := t.b.rdg, pairs := t.b.pairs, pwm :=
          t.b.pwm, cmps := t.b.cmps, mpt := t.b.mpt, fad := t.b.fad, pmp := t.b.pmp, grd := t.b.grd }) ∧
  (∀ (s t : State), exec .relearn s = .next t →
      Within {} s t ∧ t.b = { s.b with grd := t.b.grd }) ∧
  (∀ (v : Word) (s t : State), exec (.grdCtrlWrite v) s = .next t →
      Within {
          fields := tripFlds ++ [F.GDP_BRK_ON_TIME_US, F.GDP_STATUS_BRK_REQ, F.GDP_STATUS_RT_SET, F.GRD_CTRL_BRK_RT,
            F.GRD_CTRL_ENABLE, F.GRD_CTRL_NEG_EN, F.GRD_CTRL_Q_PRIO, F.GRD_CTRL_RCI_EN, F.GRD_STATUS_ENTRY,
            F.GRD_STATUS_MEAS_VALID, F.GRD_STATUS_STATE, F.PMP_STATUS_CAUSE, F.PMP_STATUS_STATE, F.PWX_STATUS_BRK_HW,
            F.PWX_STATUS_CESSATION] ++ flags [F.GRD_STICKY_CESSATION, F.GRD_STICKY_CFG_REJECT, F.GRD_STICKY_RT_ENTER,
            F.GRD_STICKY_TRIP, F.PMP_STICKY_OC, F.PMP_STICKY_OV, F.PMP_STICKY_SHOOT_BLOCK, F.PMP_STICKY_STALL,
            F.PMP_STICKY_START_FAIL, F.PMP_STICKY_WDOG, F.PWX_STICKY_BRK_CLAMP, F.PWX_STICKY_CESSATION] ++ (List.range
            4).map F.CMP_EVT_WIN ++ (List.range 4).map F.CMP_STATUS_HIGH ++ (List.range 4).map F.CMP_STATUS_LOW ++
            flags ((List.range 4).map F.CMP_STICKY_EVENT) ++ (List.range 49).map F.PAIR_STAT_CNT ++ (List.range
            49).map F.PAIR_STAT_PEND ++ (List.range 3).map F.PWM_CLAMP_PAIR ++ flags ((List.range 3).map
            F.PWM_STICKY_DUTY_CLAMP) ++ (List.range 64).map F.WIN_STAT_HEFF ++ (List.range 64).map F.WIN_STAT_HIGH ++
            (List.range 64).map F.WIN_STAT_LOW,
          force := [0x40, 0x41, 0x42, 0x43] } s t ∧ t.b = { s.b with
          setNow := t.b.setNow, ldg := t.b.ldg, crn := t.b.crn, lanes := t.b.lanes, rdg := t.b.rdg, pairs := t.b.pairs, pwm :=
          t.b.pwm, cmps := t.b.cmps, mpt := t.b.mpt, fad := t.b.fad, pmp := t.b.pmp, grd := t.b.grd }) ∧
  (∀ (k : Fin 3) (v : Word) (s t : State), exec (.grdNominalWrite k v) s = .next t →
      Within {
          fields := ledgerFlds ++ [F.GRD_FNOM_F60, F.GRD_VNOM_V, F.GRD_VSRC_SLOTS] ++ flags [F.GRD_STICKY_CFG_REJECT] } s t ∧
      t.b = { s.b with setNow := t.b.setNow, ldg := t.b.ldg }) ∧
  (∀ (s t : State), exec .grdProfileCommit s = .next t →
      Within { fields := ledgerFlds ++ flags [F.GRD_STICKY_CFG_REJECT], pend := [0x72] } s t ∧ t.b = { s.b with
          setNow := t.b.setNow, commitNow := t.b.commitNow, commitWas := t.b.commitWas, waiting := t.b.waiting, ldg := t.b.ldg }) ∧
  (∀ (s t : State), exec .grdSettingsCommit s = .next t →
      Within { fields := ledgerFlds ++ flags [F.GRD_STICKY_CFG_REJECT], pend := [0x72] } s t ∧ t.b = { s.b with
          setNow := t.b.setNow, commitNow := t.b.commitNow, commitWas := t.b.commitWas, waiting := t.b.waiting, ldg := t.b.ldg }) ∧
  (∀ (s t : State), exec .timedSourceReturn s = .next t →
      Within { fields := [F.GRD_SYNC_OFS_OFS] } s t ∧ t.b = { s.b with grd := t.b.grd }) ∧
  (∀ (s t : State), exec .scanRoundStart s = .next t →
      Within { fields := [F.MPT_STATUS_ROUND] } s t ∧ t.b = { s.b with mpt := t.b.mpt }) ∧
  (∀ (s t : State), exec .scanNow s = .next t →
      Within { fields := [F.MPT_STATUS_ROUND] } s t ∧ t.b = { s.b with mpt := t.b.mpt }) ∧
  (∀ (s t : State), exec .scanStart s = .next t →
      Within {
          fields := pinFlds ++ causeFlds ++ [F.BUT_FAULT_CAUSE, F.BUT_STATUS_CODE, F.BUT_STATUS_DRV_EN, F.BUT_STATUS_READY,
            F.BUT_STATUS_STATE, F.FAD_CNT_URG_DROP_N, F.FAD_STATUS_URG_BUSY, F.FPM_CNT_SKIP_N, F.FPM_EVT0_CH,
            F.FPM_EVT1_CH, F.FPM_STATUS_ACTIVE, F.FPM_STATUS_HOLD_ACTIVE, F.FPM_STATUS_IN_EVENT,
            F.FPM_STATUS_TAKEOVER_REQ, F.FPM_STATUS_TRIP_ASSERTED, F.MPT_STATUS_ROUND, F.MPT_STATUS_SCANNING,
            F.MPT_STATUS_SCAN_IN, F.RDG_BULK_STATUS_BUSY, F.RDG_BULK_STATUS_DONE, F.RDG_BULK_STATUS_ERR,
            F.RDG_CNT_HOPDROP_N, F.RDG_CNT_UNREACH_N, F.RDG_RACC_STATUS_BUSY, F.RDG_RACC_STATUS_DONE,
            F.RDG_RACC_STATUS_ERR, F.TRP_FIRST_PAIR, F.TRP_FIRST_SRC, F.TRP_FIRST_VALID, F.TRP_LATCH0_PAIR,
            F.TRP_LATCH1_PAIR, F.TRP_STATUS_ANY, F.TRP_STATUS_CYCLE, F.TRP_STATUS_LATCHED] ++ flags
            [F.BUT_STICKY_FAILED, F.FAD_STICKY_URG_DROP, F.FPM_STICKY_EVENT, F.FPM_STICKY_LATE_SKIP,
            F.FPM_STICKY_NO_PRED, F.FPM_STICKY_TAKEOVER_NA, F.MPT_STICKY_SCAN_ABORT, F.RDG_STICKY_HOP_DROP,
            F.RDG_STICKY_RACC_ERR, F.RDG_STICKY_UNREACH_DROP, F.TRP_STICKY_IT_REQ, F.TRP_STICKY_TRIP] ++ (List.range
            64).map F.FPM_CH_HOLD_COUNT ++ (List.range 64).map F.FPM_CH_RES_RES ++ (List.range 256).map
            F.KE0_ISLOT_VAL ++ (List.range 49).map F.PAIR_STAT_MPT_OWN ++ (List.range 4).map F.TRP_ACT_SRC ++
            (List.range 4).map F.TRP_SEEN_SRC,
          force := [0x73] } s t ∧ t.b = { s.b with
          setNow := t.b.setNow, waiting := t.b.waiting, sys := t.b.sys, ldg := t.b.ldg, cfg := t.b.cfg, crn := t.b.crn, lanes
          := t.b.lanes, rdg := t.b.rdg, pairs := t.b.pairs, pwm := t.b.pwm, cmps := t.b.cmps, mpt := t.b.mpt, fad :=
          t.b.fad, ke1 := t.b.ke1, fpm := t.b.fpm, but := t.b.but }) ∧
  (∀ (s t : State), exec .scanPoint s = .next t →
      Within { fields := flags [F.MPT_STICKY_SCAN_END_EARLY] } s t ∧
      t.b = { s.b with setNow := t.b.setNow, mpt := t.b.mpt }) ∧
  (∀ (s t : State), exec .scanDone s = .next t →
      Within {
          fields := pinFlds ++ causeFlds ++ [F.BUT_FAULT_CAUSE, F.BUT_STATUS_CODE, F.BUT_STATUS_DRV_EN, F.BUT_STATUS_READY,
            F.BUT_STATUS_STATE, F.FAD_CNT_URG_DROP_N, F.FAD_STATUS_URG_BUSY, F.FPM_CNT_SKIP_N, F.FPM_EVT0_CH,
            F.FPM_EVT1_CH, F.FPM_STATUS_ACTIVE, F.FPM_STATUS_HOLD_ACTIVE, F.FPM_STATUS_IN_EVENT,
            F.FPM_STATUS_TAKEOVER_REQ, F.FPM_STATUS_TRIP_ASSERTED, F.MPT_CURVE_IN_IN, F.MPT_SCAN_CNT_N,
            F.MPT_STATUS_ROUND, F.MPT_STATUS_SCANNING, F.MPT_STATUS_SCAN_IN, F.RDG_BULK_STATUS_BUSY,
            F.RDG_BULK_STATUS_DONE, F.RDG_BULK_STATUS_ERR, F.RDG_CNT_HOPDROP_N, F.RDG_CNT_UNREACH_N,
            F.RDG_RACC_STATUS_BUSY, F.RDG_RACC_STATUS_DONE, F.RDG_RACC_STATUS_ERR, F.TRP_FIRST_PAIR, F.TRP_FIRST_SRC,
            F.TRP_FIRST_VALID, F.TRP_LATCH0_PAIR, F.TRP_LATCH1_PAIR, F.TRP_STATUS_ANY, F.TRP_STATUS_CYCLE,
            F.TRP_STATUS_LATCHED] ++ flags [F.BUT_STICKY_FAILED, F.FAD_STICKY_URG_DROP, F.FPM_STICKY_EVENT,
            F.FPM_STICKY_LATE_SKIP, F.FPM_STICKY_NO_PRED, F.FPM_STICKY_TAKEOVER_NA, F.MPT_STICKY_SCAN_ABORT,
            F.MPT_STICKY_SCAN_DONE, F.RDG_STICKY_HOP_DROP, F.RDG_STICKY_RACC_ERR, F.RDG_STICKY_UNREACH_DROP,
            F.TRP_STICKY_IT_REQ, F.TRP_STICKY_TRIP] ++ (List.range 64).map F.FPM_CH_HOLD_COUNT ++ (List.range 64).map
            F.FPM_CH_RES_RES ++ (List.range 256).map F.KE0_ISLOT_VAL ++ (List.range 64).map F.MPT_CURVE_I_I ++
            (List.range 64).map F.MPT_CURVE_V_V ++ (List.range 12).map F.MPT_PGMP_P ++ (List.range 12).map
            F.MPT_VGMP_V ++ (List.range 4).map F.TRP_ACT_SRC ++ (List.range 4).map F.TRP_SEEN_SRC } s t ∧
      t.b = { s.b with
          setNow := t.b.setNow, sys := t.b.sys, ldg := t.b.ldg, crn := t.b.crn, lanes := t.b.lanes, rdg := t.b.rdg, pairs :=
          t.b.pairs, pwm := t.b.pwm, cmps := t.b.cmps, mpt := t.b.mpt, fad := t.b.fad, ke1 := t.b.ke1, fpm := t.b.fpm,
          but := t.b.but }) ∧
  (∀ (s t : State), exec .mptAbort s = .next t →
      Within {
          fields := ledgerFlds ++ [F.KE0_ISLOT_VAL 0x9C, F.MPT_STATUS_ROUND, F.MPT_STATUS_SCANNING, F.MPT_STATUS_SCAN_IN] ++
            flags [F.MPT_STICKY_SCAN_ABORT] } s t ∧
      t.b = { s.b with setNow := t.b.setNow, ldg := t.b.ldg, mpt := t.b.mpt }) ∧
  (∀ (s t : State), exec .islClear s = .next t →
      Within { fields := tripFlds ++ [F.MPT_STATUS_ISLAND] ++ flags [F.MPT_STICKY_ISL_CLR_REJECT] } s t ∧
      t.b = { s.b with
          setNow := t.b.setNow, ldg := t.b.ldg, crn := t.b.crn, lanes := t.b.lanes, rdg := t.b.rdg, pairs := t.b.pairs, pwm :=
          t.b.pwm, cmps := t.b.cmps, mpt := t.b.mpt, fad := t.b.fad }) ∧
  (∀ (v : Word) (s t : State), exec (.mptCtrlWrite v) s = .next t →
      Within {
          fields := pinFlds ++ causeFlds ++ [F.BUT_FAULT_CAUSE, F.BUT_STATUS_CODE, F.BUT_STATUS_DRV_EN, F.BUT_STATUS_READY,
            F.BUT_STATUS_STATE, F.FAD_CNT_URG_DROP_N, F.FAD_STATUS_URG_BUSY, F.FPM_CNT_SKIP_N, F.FPM_EVT0_CH,
            F.FPM_EVT1_CH, F.FPM_STATUS_ACTIVE, F.FPM_STATUS_HOLD_ACTIVE, F.FPM_STATUS_IN_EVENT,
            F.FPM_STATUS_TAKEOVER_REQ, F.FPM_STATUS_TRIP_ASSERTED, F.MPT_CTRL_ENABLE, F.MPT_STATUS_ACT_ON,
            F.MPT_STATUS_ROUND, F.MPT_STATUS_SCANNING, F.MPT_STATUS_SCAN_IN, F.RDG_BULK_STATUS_BUSY,
            F.RDG_BULK_STATUS_DONE, F.RDG_BULK_STATUS_ERR, F.RDG_CNT_HOPDROP_N, F.RDG_CNT_UNREACH_N,
            F.RDG_RACC_STATUS_BUSY, F.RDG_RACC_STATUS_DONE, F.RDG_RACC_STATUS_ERR, F.TRP_FIRST_PAIR, F.TRP_FIRST_SRC,
            F.TRP_FIRST_VALID, F.TRP_LATCH0_PAIR, F.TRP_LATCH1_PAIR, F.TRP_STATUS_ANY, F.TRP_STATUS_CYCLE,
            F.TRP_STATUS_LATCHED] ++ flags [F.BUT_STICKY_FAILED, F.FAD_STICKY_URG_DROP, F.FPM_STICKY_EVENT,
            F.FPM_STICKY_LATE_SKIP, F.FPM_STICKY_NO_PRED, F.FPM_STICKY_TAKEOVER_NA, F.MPT_STICKY_SCAN_ABORT,
            F.RDG_STICKY_HOP_DROP, F.RDG_STICKY_RACC_ERR, F.RDG_STICKY_UNREACH_DROP, F.TRP_STICKY_IT_REQ,
            F.TRP_STICKY_TRIP] ++ (List.range 64).map F.FPM_CH_HOLD_COUNT ++ (List.range 64).map F.FPM_CH_RES_RES ++
            (List.range 256).map F.KE0_ISLOT_VAL ++ (List.range 4).map F.TRP_ACT_SRC ++ (List.range 4).map
            F.TRP_SEEN_SRC } s t ∧ t.b = { s.b with
          setNow := t.b.setNow, sys := t.b.sys, ldg := t.b.ldg, crn := t.b.crn, lanes := t.b.lanes, rdg := t.b.rdg, pairs :=
          t.b.pairs, pwm := t.b.pwm, cmps := t.b.cmps, mpt := t.b.mpt, fad := t.b.fad, fpm := t.b.fpm, but := t.b.but }) ∧
  (∀ (s t : State), exec .mptScanCommit s = .next t →
      Within { fields := ledgerFlds ++ flags [F.MPT_STICKY_CFG_REJECT], pend := [0x73] } s t ∧ t.b = { s.b with
          setNow := t.b.setNow, commitNow := t.b.commitNow, commitWas := t.b.commitWas, waiting := t.b.waiting, ldg := t.b.ldg }) ∧
  (∀ (s t : State), exec .mptIslandCommit s = .next t →
      Within { fields := ledgerFlds ++ flags [F.MPT_STICKY_CFG_REJECT], pend := [0x73] } s t ∧ t.b = { s.b with
          setNow := t.b.setNow, commitNow := t.b.commitNow, commitWas := t.b.commitWas, waiting := t.b.waiting, ldg := t.b.ldg }) ∧
  (∀ (s t : State), exec .pcValid s = .next t →
      Within { fields := ledgerFlds ++ [F.MPT_STATUS_PC_VALID] } s t ∧
      t.b = { s.b with setNow := t.b.setNow, ldg := t.b.ldg }) ∧
  (∀ (start : Bool) (s t : State), exec (.injectionPulse start) s = .next t →
      Within {} s t ∧ t.b = { s.b with mpt := t.b.mpt }) ∧
  (∀ (s t : State), exec .activeFrequencyTimer s = .next t →
      Within {
          fields := pinFlds ++ causeFlds ++ [F.BUT_FAULT_CAUSE, F.BUT_STATUS_CODE, F.BUT_STATUS_DRV_EN, F.BUT_STATUS_READY,
            F.BUT_STATUS_STATE, F.FAD_CNT_URG_DROP_N, F.FAD_STATUS_URG_BUSY, F.FPM_CNT_SKIP_N, F.FPM_EVT0_CH,
            F.FPM_EVT1_CH, F.FPM_STATUS_ACTIVE, F.FPM_STATUS_HOLD_ACTIVE, F.FPM_STATUS_IN_EVENT,
            F.FPM_STATUS_TAKEOVER_REQ, F.FPM_STATUS_TRIP_ASSERTED, F.MPT_ISL_SRC_M, F.MPT_STATUS_ISLAND,
            F.MPT_STATUS_SCANNING, F.MPT_STATUS_SCAN_IN, F.RDG_BULK_STATUS_BUSY, F.RDG_BULK_STATUS_DONE,
            F.RDG_BULK_STATUS_ERR, F.RDG_CNT_HOPDROP_N, F.RDG_CNT_UNREACH_N, F.RDG_RACC_STATUS_BUSY,
            F.RDG_RACC_STATUS_DONE, F.RDG_RACC_STATUS_ERR, F.TRP_FIRST_PAIR, F.TRP_FIRST_SRC, F.TRP_FIRST_VALID,
            F.TRP_LATCH0_PAIR, F.TRP_LATCH1_PAIR, F.TRP_STATUS_ANY, F.TRP_STATUS_CYCLE, F.TRP_STATUS_LATCHED] ++ flags
            [F.BUT_STICKY_FAILED, F.FAD_STICKY_URG_DROP, F.FPM_STICKY_EVENT, F.FPM_STICKY_LATE_SKIP,
            F.FPM_STICKY_NO_PRED, F.FPM_STICKY_TAKEOVER_NA, F.MPT_STICKY_ISLAND, F.MPT_STICKY_SCAN_ABORT,
            F.RDG_STICKY_HOP_DROP, F.RDG_STICKY_RACC_ERR, F.RDG_STICKY_UNREACH_DROP, F.TRP_STICKY_IT_REQ,
            F.TRP_STICKY_TRIP] ++ (List.range 64).map F.FPM_CH_HOLD_COUNT ++ (List.range 64).map F.FPM_CH_RES_RES ++
            (List.range 256).map F.KE0_ISLOT_VAL ++ (List.range 4).map F.TRP_ACT_SRC ++ (List.range 4).map
            F.TRP_SEEN_SRC } s t ∧ t.b = { s.b with
          setNow := t.b.setNow, sys := t.b.sys, ldg := t.b.ldg, crn := t.b.crn, lanes := t.b.lanes, rdg := t.b.rdg, pairs :=
          t.b.pairs, pwm := t.b.pwm, cmps := t.b.cmps, mpt := t.b.mpt, fad := t.b.fad, fpm := t.b.fpm, but := t.b.but })

/-- For each command of the converters, metrology, phasors and travelling waves and every state and operand: the next
state differs from the state before it at most in the register fields listed for the command (its destinations, the
flags it may set with their interrupt bits, and what the spec makes follow them at once: the Ledger's loss counters,
the guarantees, the pins), in the pages whose shadowed or pending values it may adopt, and in the block state named.
Every other register, value in force, pending value and word of memory, and the queue, are unchanged. The commands
that store to memory (freeze, phasorFrame, twArrival, twCaptureDone) change no word but those at the addresses the
statement computes. -/
def Obligations.FrameConversion : Prop :=
  (∀ (k : Fin 17) (input : Fin 8) (kind : Fin 5) (nv : Int) (other : Int) (ago : Nat) (s t : State), exec (.fadResult
      k input kind nv other ago) s = .next t →
      Within {
          fields := pinFlds ++ causeFlds ++ [F.BUT_FAULT_CAUSE, F.BUT_STATUS_CODE, F.BUT_STATUS_DRV_EN, F.BUT_STATUS_READY,
            F.BUT_STATUS_STATE, F.FAD_CLIP0_CH, F.FAD_CLIP1_CH, F.FAD_CNT_URG_DROP_N, F.FAD_LATE0_CH, F.FAD_LATE1_CH,
            F.FAD_LATE_CH_CAUSE, F.FAD_LATE_CH_CH, F.FAD_LATE_CH_INT, F.FAD_LATE_TS_W_W 0, F.FAD_LATE_TS_W_W 1,
            F.FAD_LATE_TS_W_W 2, F.FAD_STATUS_URG_BUSY, F.FPM_CNT_SKIP_N, F.FPM_EVT0_CH, F.FPM_EVT1_CH,
            F.FPM_STATUS_ACTIVE, F.FPM_STATUS_HOLD_ACTIVE, F.FPM_STATUS_IN_EVENT, F.FPM_STATUS_TAKEOVER_REQ,
            F.FPM_STATUS_TRIP_ASSERTED, F.MPT_STATUS_SCANNING, F.MPT_STATUS_SCAN_IN, F.RDG_BULK_STATUS_BUSY,
            F.RDG_BULK_STATUS_DONE, F.RDG_BULK_STATUS_ERR, F.RDG_CNT_HOPDROP_N, F.RDG_CNT_UNREACH_N,
            F.RDG_RACC_STATUS_BUSY, F.RDG_RACC_STATUS_DONE, F.RDG_RACC_STATUS_ERR, F.TRP_FIRST_PAIR, F.TRP_FIRST_SRC,
            F.TRP_FIRST_VALID, F.TRP_LATCH0_PAIR, F.TRP_LATCH1_PAIR, F.TRP_STATUS_ANY, F.TRP_STATUS_CYCLE,
            F.TRP_STATUS_LATCHED, F.TWV_CAP_RD_N, F.TWV_CAP_WR_N, F.TWV_CNT_CAPDROP_N, F.TWV_CNT_GAP_N,
            F.TWV_STATUS_CAPTURING] ++ flags [F.BUT_STICKY_FAILED, F.FAD_STICKY_CLIP, F.FAD_STICKY_LATE,
            F.FAD_STICKY_URG_DROP, F.FPM_STICKY_EVENT, F.FPM_STICKY_LATE_SKIP, F.FPM_STICKY_NO_PRED,
            F.FPM_STICKY_TAKEOVER_NA, F.MPT_STICKY_SCAN_ABORT, F.PHS_STICKY_INPUT_RATE, F.RDG_STICKY_HOP_DROP,
            F.RDG_STICKY_RACC_ERR, F.RDG_STICKY_UNREACH_DROP, F.TRP_STICKY_IT_REQ, F.TRP_STICKY_TRIP,
            F.TWV_STICKY_CAP_DROP, F.TWV_STICKY_GAP] ++ ((List.range 17).flatMap fun i => (List.range 4).map
            (F.FAD_FC_INT_CODE i)) ++ (List.range 64).map F.FAD_RAW_CLIP ++ (List.range 64).map F.FAD_RAW_CODE ++
            (List.range 64).map F.FAD_RAW_LATE ++ (List.range 32).map F.FAD_URG_RES_CODE ++ (List.range 64).map
            F.FPM_CH_HOLD_COUNT ++ (List.range 64).map F.FPM_CH_RES_RES ++ (List.range 256).map F.KE0_ISLOT_VAL ++
            (List.range 4).map F.TRP_ACT_SRC ++ (List.range 4).map F.TRP_SEEN_SRC } s t ∧ t.b = { s.b with
          setNow := t.b.setNow, sys := t.b.sys, ldg := t.b.ldg, crn := t.b.crn, lanes := t.b.lanes, rdg := t.b.rdg, pairs :=
          t.b.pairs, pwm := t.b.pwm, cmps := t.b.cmps, mpt := t.b.mpt, fad := t.b.fad, fpm := t.b.fpm, but := t.b.but,
          phs := t.b.phs, twv := t.b.twv, fac := t.b.fac }) ∧
  (∀ (u : Fin 32) (s t : State), exec (.urgentRequest u) s = .next t →
      Within {
          fields := ledgerFlds ++ [F.FAD_CNT_URG_DROP_N, F.FAD_STATUS_URG_BUSY] ++ flags [F.FAD_STICKY_URG_DROP] } s t ∧
      t.b = { s.b with setNow := t.b.setNow, ldg := t.b.ldg, fad := t.b.fad }) ∧
  (∀ (k : Fin 16) (s t : State), exec (.urgentStart k) s = .next t →
      Within {
          fields := [F.FAD_CNT_URG_N, F.FAD_STATUS_URG_BUSY, F.TWV_CNT_GAP_N] ++ flags [F.TWV_STICKY_GAP] } s t ∧
      t.b = { s.b with setNow := t.b.setNow, fad := t.b.fad, twv := t.b.twv }) ∧
  (∀ (s t : State), exec .fadCommit s = .next t →
      Within { fields := ledgerFlds, pend := [0x54] } s t ∧ t.b = { s.b with
          setNow := t.b.setNow, commitNow := t.b.commitNow, commitWas := t.b.commitWas, waiting := t.b.waiting, ldg := t.b.ldg }) ∧
  (∀ (s t : State), exec .fadCntClr s = .next t →
      Within { fields := [F.FAD_CNT_DROP_N, F.FAD_CNT_URG_DROP_N, F.FAD_CNT_URG_N] } s t ∧ t.b = s.b) ∧
  (∀ (s t : State), exec .facVisitStart s = .next t →
      Within { fields := [F.FAC_STATUS_STATE, F.FAC_STATUS_VISIT], force := [0x55] } s t ∧
      t.b = { s.b with waiting := t.b.waiting, fac := t.b.fac }) ∧
  (∀ (gnd : Int) (calP : Int) (s t : State), exec (.fcsCheckDone gnd calP) s = .next t →
      Within {
          fields := ledgerFlds ++ [F.FAC_STATUS_STATE, F.FAC_STATUS_VISIT, F.FAC_SUSPECT_FC] ++ flags
            [F.FAC_STICKY_FCS_SUSPECT] } s t ∧
      t.b = { s.b with setNow := t.b.setNow, ldg := t.b.ldg, pairs := t.b.pairs, fac := t.b.fac }) ∧
  (∀ (s t : State), exec .ovlDone s = .next t →
      Within { fields := [F.FAC_OVL_LAST_MAXDIFF, F.FAC_OVL_LAST_PAIRS] } s t ∧ t.b = { s.b with fac := t.b.fac }) ∧
  (∀ (s t : State), exec .ovlMismatch s = .next t →
      Within {
          fields := ledgerFlds ++ [F.FAC_OVL_LAST_MAXDIFF, F.FAC_OVL_LAST_PAIRS, F.FAC_STATUS_STATE, F.FAC_STATUS_VISIT,
            F.FAC_SUSPECT_FC] ++ flags [F.FAC_STICKY_FCS_SUSPECT, F.FAC_STICKY_OVL_MISMATCH, F.FAC_STICKY_PARK] } s t ∧
      t.b = { s.b with setNow := t.b.setNow, ldg := t.b.ldg, fac := t.b.fac }) ∧
  (∀ (ofs : Int) (dev : Int) (dac : Int) (skew : Int) (gnd : Int) (calP : Int) (s t : State), exec (.calDone ofs dev
      dac skew gnd calP) s = .next t →
      Within {
          fields := ledgerFlds ++ [F.FAC_ROT_CNT_N, F.FAC_STATUS_STATE, F.FAC_STATUS_VISIT, F.FAC_SUSPECT_FC] ++ flags
            [F.FAC_STICKY_CAL_FAIL, F.FAC_STICKY_FCS_SUSPECT, F.FAC_STICKY_PARK, F.FAC_STICKY_ROT_DONE] ++ (List.range
            17).map F.FAC_CAL_AGE_ROT ++ (List.range 17).map F.FAC_CAL_GAIN_DEV ++ (List.range 17).map
            F.FAC_CAL_OFS_OFS ++ (List.range 17).map F.FAC_CAL_SKEW_SKEW } s t ∧
      t.b = { s.b with setNow := t.b.setNow, ldg := t.b.ldg, pairs := t.b.pairs, fac := t.b.fac }) ∧
  (∀ (s t : State), exec .facResume s = .next t →
      Within {
          fields := [F.FAC_STATUS_STATE, F.FAC_STATUS_VISIT] ++ flags [F.FAC_STICKY_CMD_REJECT],
          force := [0x55] } s t ∧
      t.b = { s.b with setNow := t.b.setNow, waiting := t.b.waiting, fac := t.b.fac }) ∧
  (∀ (s t : State), exec .facUnpark s = .next t →
      Within { fields := ledgerFlds ++ [F.FAC_STATUS_STATE] ++ flags [F.FAC_STICKY_CMD_REJECT] } s t ∧
      t.b = { s.b with setNow := t.b.setNow, ldg := t.b.ldg, fac := t.b.fac }) ∧
  (∀ (s t : State), exec .clrFcs s = .next t →
      Within { fields := [F.FAC_SUSPECT_FC] ++ flags [F.FAC_STICKY_CMD_REJECT] } s t ∧
      t.b = { s.b with setNow := t.b.setNow }) ∧
  (∀ (v : Word) (s t : State), exec (.facEnableWrite v) s = .next t →
      Within {
          fields := [F.FAC_CTRL_AUTO_PARK, F.FAC_CTRL_ENABLE, F.FAC_CTRL_SELF_CAL, F.FAC_STATUS_STATE, F.FAC_STATUS_VISIT] } s t ∧
      t.b = { s.b with fac := t.b.fac }) ∧
  (∀ (s t : State), exec .facCommit s = .next t →
      Within { fields := ledgerFlds ++ flags [F.FAC_STICKY_CFG_REJECT], pend := [0x55] } s t ∧ t.b = { s.b with
          setNow := t.b.setNow, commitNow := t.b.commitNow, commitWas := t.b.commitWas, waiting := t.b.waiting, ldg := t.b.ldg }) ∧
  (∀ (nv : List Int) (s t : State), exec (.metrologySubinterval nv) s = .next t →
      Within {
          fields := ledgerFlds ++ [F.MET_CLIP_CH] ++ flags [F.MET_STICKY_CLIP, F.MET_STICKY_PRESET,
            F.MET_STICKY_PULSE_BACKLOG, F.MET_STICKY_WRAP] ++ (List.range 4).map F.MET_PULSE_PEND_N,
          force := [0x60] } s t ∧
      t.b = { s.b with setNow := t.b.setNow, waiting := t.b.waiting, ldg := t.b.ldg, met := t.b.met }) ∧
  (∀ (first : Nat) (last : Nat) (s t : State), exec (.metrologyCycleEnd first last) s = .next t →
      Within {
          fields := ledgerFlds ++ [F.MET_STATUS_CHK_PARKED, F.MET_STATUS_CYCLE, F.MET_STATUS_F_HOLD, F.MET_STATUS_F_RANGE,
            F.MET_STATUS_MISSING_N, F.MET_STATUS_NEUT_MISMATCH, F.MET_STATUS_SEQ, F.MET_STATUS_SUSPECT] ++ flags
            [F.MET_STICKY_CHK_MISMATCH, F.MET_STICKY_F_RANGE, F.MET_STICKY_MISSING_N, F.MET_STICKY_NEUT_MISMATCH,
            F.MET_STICKY_REV_SEQ],
          force := [0x60, 0x61] } s t ∧ t.b = { s.b with
          freeCtr := t.b.freeCtr, setNow := t.b.setNow, waiting := t.b.waiting, ldg := t.b.ldg, met := t.b.met }) ∧
  (∀ (s t : State), exec .mclkLoss s = .next t →
      Within { fields := [F.MET_STATUS_RUN] } s t ∧ t.b = { s.b with met := t.b.met }) ∧
  (∀ (ms : BitVec 32) (s t : State), exec (.mclkGap ms) s = .next t →
      Within { fields := ledgerFlds ++ [F.MET_STATUS_RUN] } s t ∧
      t.b = { s.b with setNow := t.b.setNow, ldg := t.b.ldg, met := t.b.met }) ∧
  (∀ (s t : State), exec .freeze s = .next t →
      Within {
          fields := signFlds ++ [F.MET_FRZ_CNT_N, F.MET_FRZ_TS_W_W 0, F.MET_FRZ_TS_W_W 1, F.MET_FRZ_TS_W_W 2,
            F.RDG_BULK_STATUS_BUSY, F.RDG_BULK_STATUS_DONE, F.RDG_BULK_STATUS_ERR, F.RDG_CNT_HOPDROP_N,
            F.RDG_CNT_UNREACH_N, F.RDG_RACC_STATUS_BUSY, F.RDG_RACC_STATUS_DONE, F.RDG_RACC_STATUS_ERR] ++ flags
            [F.RDG_STICKY_HOP_DROP, F.RDG_STICKY_RACC_ERR, F.RDG_STICKY_UNREACH_DROP] ++ queueFlds (s.get
            F.QUE_MET_QUEUE),
          words := queueWord s (s.get F.QUE_MET_QUEUE) } s t ∧ t.b = { s.b with
          setNow := t.b.setNow, ldg := t.b.ldg, sec := t.b.sec, queSeq := t.b.queSeq, queNow := t.b.queNow, lanes :=
          t.b.lanes, rdg := t.b.rdg, met := t.b.met }) ∧
  (∀ (a1 : Fin 32) (s t : State), exec (.preset a1) s = .next t →
      Within { fields := ledgerFlds ++ flags [F.MTC_STICKY_LOCK_REJECT] } s t ∧
      t.b = { s.b with setNow := t.b.setNow, ldg := t.b.ldg, met := t.b.met }) ∧
  (∀ (s t : State), exec .mcxUnpark s = .next t →
      Within { fields := [F.MET_STATUS_CHK_PARKED] } s t ∧ t.b = { s.b with met := t.b.met }) ∧
  (∀ (a1 : Fin 32) (s t : State), exec (.accRead a1) s = .next t →
      Within { fields := [F.MET_ACC_HI_A a1, F.MET_ACC_LO_A a1, F.MET_ACC_WRAP_W a1] } s t ∧ t.b = s.b) ∧
  (∀ (a1 : Fin 32) (s t : State), exec (.frzRead a1) s = .next t →
      Within { fields := [F.MET_FRZ_HI_A a1, F.MET_FRZ_LO_A a1, F.MET_FRZ_WRAP_W a1] } s t ∧ t.b = s.b) ∧
  (∀ (p : Fin 4) (s t : State), exec (.pulseStart p) s = .next t →
      Within { fields := [F.MET_PULSE_PEND_N p] } s t ∧ t.b = { s.b with met := t.b.met }) ∧
  (∀ (p : Fin 4) (s t : State), exec (.pulseEnd p) s = .next t →
      Within {} s t ∧ t.b = { s.b with met := t.b.met }) ∧
  (∀ (s t : State), exec .metMeasurementCommit s = .next t →
      Within { fields := ledgerFlds, pend := [0x60] } s t ∧ t.b = { s.b with
          setNow := t.b.setNow, commitNow := t.b.commitNow, commitWas := t.b.commitWas, waiting := t.b.waiting, ldg := t.b.ldg }) ∧
  (∀ (s t : State), exec .metPulseCommit s = .next t →
      Within {
          fields := ledgerFlds ++ flags [F.MET_STICKY_CFG_REJECT, F.MTC_STICKY_CFG_REJECT],
          pend := [0x60] } s t ∧ t.b = { s.b with
          setNow := t.b.setNow, commitNow := t.b.commitNow, commitWas := t.b.commitWas, waiting := t.b.waiting, ldg := t.b.ldg }) ∧
  (∀ (s t : State), exec .metFreezeCommit s = .next t →
      Within { fields := ledgerFlds, pend := [0x60] } s t ∧ t.b = { s.b with
          setNow := t.b.setNow, commitNow := t.b.commitNow, commitWas := t.b.commitWas, waiting := t.b.waiting, ldg := t.b.ldg }) ∧
  (∀ (s t : State), exec .mtcCommit s = .next t →
      Within {
          fields := ledgerFlds ++ flags [F.MET_STICKY_CFG_REJECT, F.MTC_STICKY_CFG_REJECT, F.MTC_STICKY_LOCK_REJECT],
          pend := [0x61] } s t ∧ t.b = { s.b with
          setNow := t.b.setNow, commitNow := t.b.commitNow, commitWas := t.b.commitWas, waiting := t.b.waiting, ldg := t.b.ldg }) ∧
  (∀ (s t : State), exec .textStale s = .next t →
      Within { fields := ledgerFlds ++ [F.MTC_STATUS_TEXT_STALE] ++ flags [F.MTC_STICKY_TEXT_STALE] } s t ∧
      t.b = { s.b with freeCtr := t.b.freeCtr, setNow := t.b.setNow, ldg := t.b.ldg }) ∧
  (∀ (a1 : BitVec 24) (b : BitVec 24) (c : BitVec 24) (s t : State), exec (.watchTick a1 b c) s = .next t →
      Within {
          fields := ledgerFlds ++ [F.MET_WATCH_SEC_S, F.MET_WATCH_WH_WH] ++ flags [F.MET_STICKY_WATCH_EVENT] ++ (List.range
            3).map F.MET_WATCH_AS_AS } s t ∧
      t.b = { s.b with setNow := t.b.setNow, ldg := t.b.ldg, met := t.b.met }) ∧
  (∀ (sec : BitVec 48) (frame : Fin 256) (sets : BitVec 4) (s t : State), exec (.phasorFrame sec frame sets) s = .next
      t →
      Within {
          fields := pinFlds ++ causeFlds ++ signFlds ++ [F.BUT_FAULT_CAUSE, F.BUT_STATUS_CODE, F.BUT_STATUS_DRV_EN,
            F.BUT_STATUS_READY, F.BUT_STATUS_STATE, F.FAD_CNT_URG_DROP_N, F.FAD_STATUS_URG_BUSY, F.FPM_CNT_SKIP_N,
            F.FPM_EVT0_CH, F.FPM_EVT1_CH, F.FPM_STATUS_ACTIVE, F.FPM_STATUS_HOLD_ACTIVE, F.FPM_STATUS_IN_EVENT,
            F.FPM_STATUS_TAKEOVER_REQ, F.FPM_STATUS_TRIP_ASSERTED, F.MPT_ISL_BASE_B, F.MPT_ISL_DRIFT_D,
            F.MPT_ISL_SRC_M, F.MPT_STATUS_ISLAND, F.MPT_STATUS_SCANNING, F.MPT_STATUS_SCAN_IN, F.PHS_FRAME_CNT_N,
            F.PHS_REF_W_W 0, F.PHS_REF_W_W 1, F.PHS_REF_W_W 2, F.PHS_STATUS_REF_OK, F.PHS_STATUS_TIMED_OK,
            F.RDG_BULK_STATUS_BUSY, F.RDG_BULK_STATUS_DONE, F.RDG_BULK_STATUS_ERR, F.RDG_CNT_HOPDROP_N,
            F.RDG_CNT_UNREACH_N, F.RDG_RACC_STATUS_BUSY, F.RDG_RACC_STATUS_DONE, F.RDG_RACC_STATUS_ERR,
            F.TRP_FIRST_PAIR, F.TRP_FIRST_SRC, F.TRP_FIRST_VALID, F.TRP_LATCH0_PAIR, F.TRP_LATCH1_PAIR,
            F.TRP_STATUS_ANY, F.TRP_STATUS_CYCLE, F.TRP_STATUS_LATCHED] ++ flags [F.BUT_STICKY_FAILED,
            F.FAD_STICKY_URG_DROP, F.FPM_STICKY_EVENT, F.FPM_STICKY_LATE_SKIP, F.FPM_STICKY_NO_PRED,
            F.FPM_STICKY_TAKEOVER_NA, F.MPT_STICKY_ISLAND, F.MPT_STICKY_SCAN_ABORT, F.PHS_STICKY_INPUT_FAULT,
            F.PHS_STICKY_INPUT_RATE, F.PHS_STICKY_TX_DROP, F.RDG_STICKY_HOP_DROP, F.RDG_STICKY_RACC_ERR,
            F.RDG_STICKY_UNREACH_DROP, F.TRP_STICKY_IT_REQ, F.TRP_STICKY_TRIP] ++ (List.range 64).map
            F.FPM_CH_HOLD_COUNT ++ (List.range 64).map F.FPM_CH_RES_RES ++ (List.range 256).map F.KE0_ISLOT_VAL ++
            (List.range 4).map F.PHS_SET_F_F ++ (List.range 4).map F.PHS_SET_POSA_A ++ (List.range 4).map
            F.PHS_SET_POSM_M ++ (List.range 4).map F.PHS_SET_ROCOF_R ++ (List.range 4).map F.TRP_ACT_SRC ++
            (List.range 4).map F.TRP_SEEN_SRC ++ queueFlds (s.get F.PHS_Q_QUEUE),
          words := queueWord s (s.get F.PHS_Q_QUEUE) } s t ∧ t.b = { s.b with
          freeCtr := t.b.freeCtr, setNow := t.b.setNow, sys := t.b.sys, ldg := t.b.ldg, sec := t.b.sec, queSeq := t.b.queSeq,
          queNow := t.b.queNow, crn := t.b.crn, lanes := t.b.lanes, rdg := t.b.rdg, pairs := t.b.pairs, pwm :=
          t.b.pwm, cmps := t.b.cmps, mpt := t.b.mpt, fad := t.b.fad, fpm := t.b.fpm, but := t.b.but, phs := t.b.phs }) ∧
  (∀ (n : Fin 8) (f : Frame) (s t : State), exec (.refPhasor n f) s = .next t →
      Within {
          fields := pinFlds ++ causeFlds ++ [F.BUT_FAULT_CAUSE, F.BUT_STATUS_CODE, F.BUT_STATUS_DRV_EN, F.BUT_STATUS_READY,
            F.BUT_STATUS_STATE, F.FAD_CNT_URG_DROP_N, F.FAD_STATUS_URG_BUSY, F.FPM_CNT_SKIP_N, F.FPM_EVT0_CH,
            F.FPM_EVT1_CH, F.FPM_STATUS_ACTIVE, F.FPM_STATUS_HOLD_ACTIVE, F.FPM_STATUS_IN_EVENT,
            F.FPM_STATUS_TAKEOVER_REQ, F.FPM_STATUS_TRIP_ASSERTED, F.MPT_ISL_BASE_B, F.MPT_ISL_DRIFT_D,
            F.MPT_ISL_SRC_M, F.MPT_STATUS_ISLAND, F.MPT_STATUS_SCANNING, F.MPT_STATUS_SCAN_IN, F.PHS_REF_W_W 0,
            F.PHS_REF_W_W 1, F.PHS_REF_W_W 2, F.PHS_STATUS_REF_OK, F.PHS_STATUS_TIMED_OK, F.RDG_BULK_STATUS_BUSY,
            F.RDG_BULK_STATUS_DONE, F.RDG_BULK_STATUS_ERR, F.RDG_CNT_CRC_N, F.RDG_CNT_HOPDROP_N, F.RDG_CNT_UNREACH_N,
            F.RDG_RACC_STATUS_BUSY, F.RDG_RACC_STATUS_DONE, F.RDG_RACC_STATUS_ERR, F.TRP_FIRST_PAIR, F.TRP_FIRST_SRC,
            F.TRP_FIRST_VALID, F.TRP_LATCH0_PAIR, F.TRP_LATCH1_PAIR, F.TRP_STATUS_ANY, F.TRP_STATUS_CYCLE,
            F.TRP_STATUS_LATCHED] ++ flags [F.BUT_STICKY_FAILED, F.FAD_STICKY_URG_DROP, F.FPM_STICKY_EVENT,
            F.FPM_STICKY_LATE_SKIP, F.FPM_STICKY_NO_PRED, F.FPM_STICKY_TAKEOVER_NA, F.MPT_STICKY_ISLAND,
            F.MPT_STICKY_SCAN_ABORT, F.RDG_STICKY_CRC_ERR, F.RDG_STICKY_HOP_DROP, F.RDG_STICKY_RACC_ERR,
            F.RDG_STICKY_UNREACH_DROP, F.TRP_STICKY_IT_REQ, F.TRP_STICKY_TRIP] ++ (List.range 64).map
            F.FPM_CH_HOLD_COUNT ++ (List.range 64).map F.FPM_CH_RES_RES ++ (List.range 256).map F.KE0_ISLOT_VAL ++
            (List.range 4).map F.TRP_ACT_SRC ++ (List.range 4).map F.TRP_SEEN_SRC } s t ∧ t.b = { s.b with
          setNow := t.b.setNow, sys := t.b.sys, ldg := t.b.ldg, crn := t.b.crn, lanes := t.b.lanes, rdg := t.b.rdg, pairs :=
          t.b.pairs, pwm := t.b.pwm, cmps := t.b.cmps, mpt := t.b.mpt, fad := t.b.fad, fpm := t.b.fpm, but := t.b.but,
          phs := t.b.phs }) ∧
  (∀ (s t : State), exec .refLost s = .next t →
      Within { fields := ledgerFlds ++ [F.PHS_STATUS_REF_OK] ++ flags [F.PHS_STICKY_REF_LOST] } s t ∧
      t.b = { s.b with setNow := t.b.setNow, ldg := t.b.ldg, phs := t.b.phs }) ∧
  (∀ (s t : State), exec .phsCommit s = .next t →
      Within { fields := ledgerFlds ++ flags [F.PHS_STICKY_CFG_REJECT], pend := [0x70] } s t ∧ t.b = { s.b with
          setNow := t.b.setNow, commitNow := t.b.commitNow, commitWas := t.b.commitWas, waiting := t.b.waiting, ldg := t.b.ldg }) ∧
  (∀ (v : Word) (s t : State), exec (.phsCtrlWrite v) s = .next t →
      Within {
          fields := ledgerFlds ++ [F.PHS_CTRL_ENABLE, F.PHS_CTRL_F60, F.PHS_CTRL_REF_TX, F.PHS_CTRL_SIGN, F.PHS_CTRL_TEST,
            F.PHS_STATUS_ACTIVE, F.PHS_STATUS_RUN] ++ flags [F.PHS_STICKY_CFG_REJECT] } s t ∧
      t.b = { s.b with setNow := t.b.setNow, ldg := t.b.ldg, phs := t.b.phs }) ∧
  (∀ (det : Fin 8) (peak : BitVec 16) (neg : Bool) (ago : Nat) (gap : Bool) (s t : State), exec (.twArrival det peak
      neg ago gap) s = .next t →
      Within {
          fields := ledgerFlds ++ [F.LDG_STATUS_BUSY, F.RDG_BULK_STATUS_BUSY, F.RDG_BULK_STATUS_DONE, F.RDG_BULK_STATUS_ERR,
            F.RDG_CNT_HOPDROP_N, F.RDG_CNT_UNREACH_N, F.RDG_RACC_STATUS_BUSY, F.RDG_RACC_STATUS_DONE,
            F.RDG_RACC_STATUS_ERR, F.TWV_CNT_PAIRSKIP_N, F.TWV_DET_LAST_PEAK det, F.TWV_DET_LAST_POL det] ++ flags
            [F.LDG_STICKY_CMD_REJECT, F.RDG_STICKY_HOP_DROP, F.RDG_STICKY_RACC_ERR, F.RDG_STICKY_UNREACH_DROP,
            F.TWV_STICKY_ARRIVAL, F.TWV_STICKY_PAIR_SKIP] ++ queueFlds (s.get F.TWV_Q_ARR_Q),
          words := queueWord s (s.get F.TWV_Q_ARR_Q) } s t ∧ t.b = { s.b with
          setNow := t.b.setNow, ldg := t.b.ldg, queSeq := t.b.queSeq, queNow := t.b.queNow, lanes := t.b.lanes, rdg :=
          t.b.rdg, twv := t.b.twv }) ∧
  (∀ (det : Fin 8) (codes : List (BitVec 16)) (gaps : Nat) (ago : Nat) (s t : State), exec (.twCaptureDone det codes
      gaps ago) s = .next t →
      Within {
          fields := [F.TWV_STATUS_CAPTURING] ++ queueFlds (s.get F.TWV_Q_CAP_Q),
          words := fun a => (∃ g ∈ s.b.twv.trig.getD det [], 0xC0000 + 0x200 * (g.num % 128) ≤ a ∧ a < 0xC0000 + 0x200 *
            (g.num % 128) + 512) ∨ queueWord s (s.get F.TWV_Q_CAP_Q) a } s t ∧
      t.b = { s.b with freeCtr := t.b.freeCtr, queSeq := t.b.queSeq, queNow := t.b.queNow, twv := t.b.twv }) ∧
  (∀ (n : Fin 8) (f : Frame) (s t : State), exec (.twArrivalRecord n f) s = .next t →
      Within {
          fields := [F.LDG_STATUS_BUSY, F.RDG_CNT_CRC_N, F.RDG_CNT_HOPDROP_N, F.TWV_CNT_PAIRSKIP_N] ++ flags
            [F.LDG_STICKY_CMD_REJECT, F.RDG_STICKY_CRC_ERR, F.RDG_STICKY_HOP_DROP, F.TWV_STICKY_PAIR_SKIP] } s t ∧
      t.b = { s.b with setNow := t.b.setNow, ldg := t.b.ldg, twv := t.b.twv }) ∧
  (∀ (s t : State), exec .twvCommit s = .next t →
      Within { fields := ledgerFlds ++ flags [F.TWV_STICKY_CFG_REJECT], pend := [0x71] } s t ∧ t.b = { s.b with
          setNow := t.b.setNow, commitNow := t.b.commitNow, commitWas := t.b.commitWas, waiting := t.b.waiting, ldg := t.b.ldg }) ∧
  (∀ (s t : State), exec .twvCntClr s = .next t →
      Within { fields := [F.TWV_CNT_CAPDROP_N, F.TWV_CNT_GAP_N, F.TWV_CNT_PAIRSKIP_N] } s t ∧ t.b = s.b) ∧
  (∀ (k : Fin 32) (s t : State), exec (.facPark k) s = .next t →
      Within {
          fields := ledgerFlds ++ [F.FAC_STATUS_STATE, F.FAC_STATUS_VISIT] ++ flags [F.FAC_STICKY_CMD_REJECT,
            F.FAC_STICKY_PARK] } s t ∧
      t.b = { s.b with setNow := t.b.setNow, ldg := t.b.ldg, fac := t.b.fac })

/-- For each command of Parapet, Buttress, Bedrock and the Ledger and every state and operand: the next state differs
from the state before it at most in the register fields listed for the command (its destinations, the flags it may
set with their interrupt bits, and what the spec makes follow them at once: the Ledger's loss counters, the
guarantees, the pins), in the pages whose shadowed or pending values it may adopt, and in the block state named.
Every other register, value in force, pending value and word of memory, and the queue, are unchanged. The commands
that store to memory (ledgerRecordWrite, deferSummary, eraseDone) change no word but those at the addresses the
statement computes. -/
def Obligations.FrameSafetyAndLedger : Prop :=
  (∀ (mv : BitVec 16) (s t : State), exec (.metrologySave mv) s = .next t →
      Within { fields := [F.BED_EAVAIL_NJ, F.BED_STATUS_RES_OK, F.BED_VSTORE_MV] } s t ∧
      t.b = { s.b with bed := t.b.bed, met := t.b.met }) ∧
  (∀ (wire : BitVec 19) (len1 : BitVec 16) (len2 : BitVec 16) (khz : BitVec 16) (s t : State), exec (.xcmpFrame wire
      len1 len2 khz) s = .next t →
      Within {
          fields := tripFlds ++ [F.BUT_FAULT_CAUSE, F.BUT_STATUS_CODE, F.BUT_STATUS_DRV_EN, F.BUT_STATUS_READY,
            F.BUT_STATUS_STATE, F.PAR_CLK2_KHZ, F.PAR_CNT_XCMP_N, F.PAR_CRC1_CRC, F.PAR_CRC2_CRC, F.PAR_FAULT_CAUSE,
            F.PAR_FAULT_IN, F.PAR_FAULT_SW, F.PAR_PINS_RAW, F.PAR_RESP_INH_US, F.PAR_RESP_IN_COMPAT, F.PAR_RESP_IN_IN,
            F.PAR_RESP_IN_VALID, F.PAR_RESP_TIME_US, F.PAR_STATUS_DISC, F.PAR_STATUS_INH, F.PAR_STATUS_OUT_ON,
            F.PAR_STATUS_PERMIT, F.PAR_STATUS_STATE, F.PWX_STATUS_INHIBIT, F.SYS_STATUS_PAR_INIT_DONE] ++ flags
            [F.BUT_STICKY_FAILED, F.PAR_STICKY_DEMAND, F.PAR_STICKY_FAULT, F.PAR_STICKY_RESET_DONE,
            F.PWX_STICKY_INHIBIT],
          force := [0x90] } s t ∧ t.b = { s.b with
          setNow := t.b.setNow, waiting := t.b.waiting, sys := t.b.sys, ldg := t.b.ldg, crn := t.b.crn, lanes := t.b.lanes,
          rdg := t.b.rdg, pairs := t.b.pairs, pwm := t.b.pwm, cmps := t.b.cmps, mpt := t.b.mpt, fad := t.b.fad, but :=
          t.b.but, par := t.b.par }) ∧
  (∀ (s t : State), exec .xcmpTimeout s = .next t →
      Within {
          fields := tripFlds ++ [F.BUT_FAULT_CAUSE, F.BUT_STATUS_CODE, F.BUT_STATUS_DRV_EN, F.BUT_STATUS_READY,
            F.BUT_STATUS_STATE, F.PAR_FAULT_CAUSE, F.PAR_FAULT_IN, F.PAR_FAULT_SW, F.PAR_STATUS_INH,
            F.PAR_STATUS_OUT_ON, F.PAR_STATUS_STATE, F.PWX_STATUS_INHIBIT, F.SYS_STATUS_PAR_INIT_DONE] ++ flags
            [F.BUT_STICKY_FAILED, F.PAR_STICKY_FAULT, F.PWX_STICKY_INHIBIT] } s t ∧ t.b = { s.b with
          setNow := t.b.setNow, sys := t.b.sys, ldg := t.b.ldg, crn := t.b.crn, lanes := t.b.lanes, rdg := t.b.rdg, pairs :=
          t.b.pairs, pwm := t.b.pwm, cmps := t.b.cmps, mpt := t.b.mpt, fad := t.b.fad, but := t.b.but, par := t.b.par }) ∧
  (∀ (ch : Fin 2) (pin : Fin 16) (level : Bool × BitVec 16) (s t : State), exec (.safetyInputChange ch pin level) s =
      .next t →
      Within {
          fields := tripFlds ++ [F.BUT_FAULT_CAUSE, F.BUT_STATUS_CODE, F.BUT_STATUS_DRV_EN, F.BUT_STATUS_READY,
            F.BUT_STATUS_STATE, F.PAR_PINS_RAW, F.PAR_STATUS_DISC, F.PAR_STATUS_INH, F.PAR_STATUS_OUT_ON,
            F.PAR_STATUS_PERMIT, F.PAR_STATUS_STATE, F.PWX_STATUS_INHIBIT, F.SYS_STATUS_PAR_INIT_DONE] ++ flags
            [F.BUT_STICKY_FAILED, F.PAR_STICKY_DEMAND, F.PWX_STICKY_INHIBIT] } s t ∧ t.b = { s.b with
          setNow := t.b.setNow, sys := t.b.sys, ldg := t.b.ldg, crn := t.b.crn, lanes := t.b.lanes, rdg := t.b.rdg, pairs :=
          t.b.pairs, pwm := t.b.pwm, cmps := t.b.cmps, mpt := t.b.mpt, fad := t.b.fad, but := t.b.but, par := t.b.par }) ∧
  (∀ (x : Fin 8) (s t : State), exec (.discTimeout x) s = .next t →
      Within {
          fields := tripFlds ++ [F.BUT_FAULT_CAUSE, F.BUT_STATUS_CODE, F.BUT_STATUS_DRV_EN, F.BUT_STATUS_READY,
            F.BUT_STATUS_STATE, F.PAR_FAULT_CAUSE, F.PAR_FAULT_IN, F.PAR_FAULT_SW, F.PAR_STATUS_INH,
            F.PAR_STATUS_OUT_ON, F.PAR_STATUS_STATE, F.PWX_STATUS_INHIBIT, F.SYS_STATUS_PAR_INIT_DONE] ++ flags
            [F.BUT_STICKY_FAILED, F.PAR_STICKY_FAULT, F.PWX_STICKY_INHIBIT] } s t ∧ t.b = { s.b with
          setNow := t.b.setNow, sys := t.b.sys, ldg := t.b.ldg, crn := t.b.crn, lanes := t.b.lanes, rdg := t.b.rdg, pairs :=
          t.b.pairs, pwm := t.b.pwm, cmps := t.b.cmps, mpt := t.b.mpt, fad := t.b.fad, but := t.b.but, par := t.b.par }) ∧
  (∀ (ch : Fin 2) (pin : Fin 16) (before : Bool) (inside : Bool) (after : Bool) (s t : State), exec (.tpsSample ch pin
      before inside after) s = .next t →
      Within {
          fields := tripFlds ++ [F.BUT_FAULT_CAUSE, F.BUT_STATUS_CODE, F.BUT_STATUS_DRV_EN, F.BUT_STATUS_READY,
            F.BUT_STATUS_STATE, F.PAR_FAULT_CAUSE, F.PAR_FAULT_IN, F.PAR_FAULT_SW, F.PAR_STATUS_INH,
            F.PAR_STATUS_OUT_ON, F.PAR_STATUS_STATE, F.PWX_STATUS_INHIBIT, F.SYS_STATUS_PAR_INIT_DONE] ++ flags
            [F.BUT_STICKY_FAILED, F.PAR_STICKY_FAULT, F.PWX_STICKY_INHIBIT] } s t ∧ t.b = { s.b with
          setNow := t.b.setNow, sys := t.b.sys, ldg := t.b.ldg, crn := t.b.crn, lanes := t.b.lanes, rdg := t.b.rdg, pairs :=
          t.b.pairs, pwm := t.b.pwm, cmps := t.b.cmps, mpt := t.b.mpt, fad := t.b.fad, but := t.b.but, par := t.b.par }) ∧
  (∀ (sw : Fin 4) (s t : State), exec (.switchOverload sw) s = .next t →
      Within {
          fields := tripFlds ++ [F.BUT_FAULT_CAUSE, F.BUT_STATUS_CODE, F.BUT_STATUS_DRV_EN, F.BUT_STATUS_READY,
            F.BUT_STATUS_STATE, F.PAR_FAULT_CAUSE, F.PAR_FAULT_IN, F.PAR_FAULT_SW, F.PAR_STATUS_INH,
            F.PAR_STATUS_OUT_ON, F.PAR_STATUS_STATE, F.PWX_STATUS_INHIBIT, F.SYS_STATUS_PAR_INIT_DONE] ++ flags
            [F.BUT_STICKY_FAILED, F.PAR_STICKY_FAULT, F.PWX_STICKY_INHIBIT] } s t ∧ t.b = { s.b with
          setNow := t.b.setNow, sys := t.b.sys, ldg := t.b.ldg, crn := t.b.crn, lanes := t.b.lanes, rdg := t.b.rdg, pairs :=
          t.b.pairs, pwm := t.b.pwm, cmps := t.b.cmps, mpt := t.b.mpt, fad := t.b.fad, but := t.b.but, par := t.b.par }) ∧
  (∀ (mv : BitVec 16) (s t : State), exec (.vsafeOut mv) s = .next t →
      Within {
          fields := tripFlds ++ [F.BUT_FAULT_CAUSE, F.BUT_STATUS_CODE, F.BUT_STATUS_DRV_EN, F.BUT_STATUS_READY,
            F.BUT_STATUS_STATE, F.PAR_FAULT_CAUSE, F.PAR_FAULT_IN, F.PAR_FAULT_SW, F.PAR_STATUS_INH,
            F.PAR_STATUS_OUT_ON, F.PAR_STATUS_STATE, F.PAR_VSAFE_V, F.PWX_STATUS_INHIBIT, F.SYS_STATUS_PAR_INIT_DONE]
            ++ flags [F.BUT_STICKY_FAILED, F.PAR_STICKY_FAULT, F.PWX_STICKY_INHIBIT] } s t ∧ t.b = { s.b with
          setNow := t.b.setNow, sys := t.b.sys, ldg := t.b.ldg, crn := t.b.crn, lanes := t.b.lanes, rdg := t.b.rdg, pairs :=
          t.b.pairs, pwm := t.b.pwm, cmps := t.b.cmps, mpt := t.b.mpt, fad := t.b.fad, but := t.b.but, par := t.b.par }) ∧
  (∀ (ch : Fin 2) (out : Fin 2) (hs : BitVec 16) (ls : BitVec 16) (vsafe : BitVec 16) (s t : State), exec
      (.readbackCheck ch out hs ls vsafe) s = .next t →
      Within {
          fields := tripFlds ++ [F.BUT_FAULT_CAUSE, F.BUT_STATUS_CODE, F.BUT_STATUS_DRV_EN, F.BUT_STATUS_READY,
            F.BUT_STATUS_STATE, F.PAR_FAULT_CAUSE, F.PAR_FAULT_IN, F.PAR_FAULT_SW, F.PAR_STATUS_INH,
            F.PAR_STATUS_OUT_ON, F.PAR_STATUS_STATE, F.PAR_VSAFE_V, F.PWX_STATUS_INHIBIT, F.SYS_STATUS_PAR_INIT_DONE]
            ++ flags [F.BUT_STICKY_FAILED, F.PAR_STICKY_FAULT, F.PAR_STICKY_OPEN_LOAD, F.PWX_STICKY_INHIBIT] } s t ∧
      t.b = { s.b with
          setNow := t.b.setNow, sys := t.b.sys, ldg := t.b.ldg, crn := t.b.crn, lanes := t.b.lanes, rdg := t.b.rdg, pairs :=
          t.b.pairs, pwm := t.b.pwm, cmps := t.b.cmps, mpt := t.b.mpt, fad := t.b.fad, but := t.b.but, par := t.b.par }) ∧
  (∀ (s t : State), exec .darkTest s = .next t →
      Within {} s t ∧ t.b = { s.b with par := t.b.par }) ∧
  (∀ (level : BitVec 16) (vsafe : BitVec 16) (s t : State), exec (.darkTestEnd level vsafe) s = .next t →
      Within {
          fields := tripFlds ++ [F.BUT_FAULT_CAUSE, F.BUT_STATUS_CODE, F.BUT_STATUS_DRV_EN, F.BUT_STATUS_READY,
            F.BUT_STATUS_STATE, F.PAR_FAULT_CAUSE, F.PAR_FAULT_IN, F.PAR_FAULT_SW, F.PAR_STATUS_INH,
            F.PAR_STATUS_OUT_ON, F.PAR_STATUS_STATE, F.PAR_VSAFE_V, F.PWX_STATUS_INHIBIT, F.SYS_STATUS_PAR_INIT_DONE]
            ++ flags [F.BUT_STICKY_FAILED, F.PAR_STICKY_FAULT, F.PWX_STICKY_INHIBIT] } s t ∧ t.b = { s.b with
          setNow := t.b.setNow, sys := t.b.sys, ldg := t.b.ldg, crn := t.b.crn, lanes := t.b.lanes, rdg := t.b.rdg, pairs :=
          t.b.pairs, pwm := t.b.pwm, cmps := t.b.cmps, mpt := t.b.mpt, fad := t.b.fad, but := t.b.but, par := t.b.par }) ∧
  (∀ (us1 : Nat) (us2 : Nat) (s t : State), exec (.resetSafeEdge us1 us2) s = .next t →
      Within {
          fields := ledgerFlds ++ [F.PAR_RESET_LAST_MS, F.PAR_STATUS_RESET_HIGH] ++ flags [F.PAR_STICKY_RESET_REJECT] } s t ∧
      t.b = { s.b with setNow := t.b.setNow, ldg := t.b.ldg, par := t.b.par }) ∧
  (∀ (s t : State), exec .resetStuck s = .next t →
      Within { fields := ledgerFlds ++ [F.PAR_STATUS_RESET_HIGH] ++ flags [F.PAR_STICKY_RESET_STUCK] } s t ∧
      t.b = { s.b with setNow := t.b.setNow, ldg := t.b.ldg }) ∧
  (∀ (passed : Bool) (s t : State), exec (.parapetInitDone passed) s = .next t →
      Within {
          fields := tripFlds ++ [F.BUT_FAULT_CAUSE, F.BUT_STATUS_CODE, F.BUT_STATUS_DRV_EN, F.BUT_STATUS_READY,
            F.BUT_STATUS_STATE, F.PAR_FAULT_CAUSE, F.PAR_FAULT_IN, F.PAR_FAULT_SW, F.PAR_STATUS_INH,
            F.PAR_STATUS_OUT_ON, F.PAR_STATUS_STATE, F.PWX_STATUS_INHIBIT, F.SYS_STATUS_PAR_INIT_DONE] ++ flags
            [F.BUT_STICKY_FAILED, F.PAR_STICKY_FAULT, F.PWX_STICKY_INHIBIT] } s t ∧ t.b = { s.b with
          setNow := t.b.setNow, sys := t.b.sys, ldg := t.b.ldg, crn := t.b.crn, lanes := t.b.lanes, rdg := t.b.rdg, pairs :=
          t.b.pairs, pwm := t.b.pwm, cmps := t.b.cmps, mpt := t.b.mpt, fad := t.b.fad, but := t.b.but, par := t.b.par }) ∧
  (∀ (s t : State), exec .parCommit s = .next t →
      Within { fields := ledgerFlds ++ flags [F.PAR_STICKY_CFG_REJECT], pend := [0x90] } s t ∧ t.b = { s.b with
          freeCtr := t.b.freeCtr, setNow := t.b.setNow, commitNow := t.b.commitNow, commitWas := t.b.commitWas, waiting :=
          t.b.waiting, ldg := t.b.ldg }) ∧
  (∀ (v : Word) (s t : State), exec (.butCtrlWrite v) s = .next t →
      Within {
          fields := tripFlds ++ guarFlds ++ [F.BUT_CRC_CRC, F.BUT_CTRL_AUTO_REVERT, F.BUT_CTRL_ENABLE, F.BUT_CTRL_ROLE,
            F.BUT_FAULT_CAUSE, F.BUT_STATUS_AGE, F.BUT_STATUS_CODE, F.BUT_STATUS_DRV_EN, F.BUT_STATUS_GRANT,
            F.BUT_STATUS_LINK_FAULT, F.BUT_STATUS_MIRROR_LOST, F.BUT_STATUS_READY, F.BUT_STATUS_STATE] ++ flags
            [F.BUT_STICKY_FAILED, F.BUT_STICKY_PARTNER_LOST, F.RDG_STICKY_ADDR_CONFLICT] ++ (List.range 8).map
            F.LNK_STATUS_BIT_LOCK ++ (List.range 8).map F.LNK_STATUS_BLOCK_LOCK ++ (List.range 8).map
            F.LNK_STATUS_BONDED ++ (List.range 8).map F.LNK_STATUS_LOOP_REMOTE ++ (List.range 8).map
            F.LNK_STATUS_POL_INV ++ (List.range 8).map F.LNK_STATUS_READY ++ (List.range 8).map F.LNK_STATUS_REVERSED
            ++ (List.range 8).map F.LNK_STATUS_ROLE ++ (List.range 8).map F.LNK_STATUS_SIG_DET ++ (List.range 8).map
            F.LNK_STATUS_STAGE ++ flags ((List.range 8).map F.LNK_STICKY_ROLE_CONFLICT) } s t ∧
      t.b = { s.b with
          setNow := t.b.setNow, sys := t.b.sys, ldg := t.b.ldg, crn := t.b.crn, lanes := t.b.lanes, rdg := t.b.rdg, pairs :=
          t.b.pairs, pwm := t.b.pwm, cmps := t.b.cmps, mpt := t.b.mpt, fad := t.b.fad, but := t.b.but, phs := t.b.phs }) ∧
  (∀ (s t : State), exec .butReady s = .next t →
      Within {
          fields := tripFlds ++ [F.BUT_FAULT_CAUSE, F.BUT_STATUS_CODE, F.BUT_STATUS_DRV_EN, F.BUT_STATUS_READY,
            F.BUT_STATUS_STATE] ++ flags [F.BUT_STICKY_FAILED] } s t ∧ t.b = { s.b with
          setNow := t.b.setNow, sys := t.b.sys, ldg := t.b.ldg, crn := t.b.crn, lanes := t.b.lanes, rdg := t.b.rdg, pairs :=
          t.b.pairs, pwm := t.b.pwm, cmps := t.b.cmps, mpt := t.b.mpt, fad := t.b.fad, but := t.b.but }) ∧
  (∀ (level : Bool) (s t : State), exec (.arbGrantAccept level) s = .next t →
      Within {
          fields := tripFlds ++ [F.BUT_STATUS_CODE, F.BUT_STATUS_DRV_EN, F.BUT_STATUS_GRANT, F.BUT_STATUS_READY,
            F.BUT_STATUS_STATE] ++ flags [F.BUT_STICKY_GRANT_NOT_READY, F.BUT_STICKY_RELEASE] } s t ∧
      t.b = { s.b with
          setNow := t.b.setNow, sys := t.b.sys, ldg := t.b.ldg, crn := t.b.crn, lanes := t.b.lanes, rdg := t.b.rdg, pairs :=
          t.b.pairs, pwm := t.b.pwm, cmps := t.b.cmps, mpt := t.b.mpt, fad := t.b.fad, but := t.b.but }) ∧
  (∀ (s t : State), exec .butTakeover s = .next t →
      Within {
          fields := tripFlds ++ [F.BUT_CNT_TAKEOVER_N, F.BUT_FAULT_CAUSE, F.BUT_STATUS_CODE, F.BUT_STATUS_DRV_EN,
            F.BUT_STATUS_READY, F.BUT_STATUS_STATE, F.FPM_STATUS_ACTIVE, F.FPM_STATUS_HOLD_ACTIVE,
            F.FPM_STATUS_IN_EVENT, F.FPM_STATUS_TAKEOVER_REQ, F.FPM_STATUS_TRIP_ASSERTED, F.KE0_SATFLAGS0_STAGE,
            F.KE0_SATFLAGS1_STAGE, F.KE1_EXP_STAGE_STAGE] ++ flags [F.BUT_STICKY_FAILED, F.BUT_STICKY_STALE,
            F.BUT_STICKY_TAKEOVER, F.KE0_STICKY_SAT, F.KE1_STICKY_CLAMP, F.KE1_STICKY_EXP_OVF] ++ (List.range 64).map
            F.FPM_CH_HOLD_COUNT ++ (List.range 4).map F.KE1_CLAMPFLAGS_STAGE } s t ∧ t.b = { s.b with
          freeCtr := t.b.freeCtr, setNow := t.b.setNow, sys := t.b.sys, ldg := t.b.ldg, crn := t.b.crn, lanes := t.b.lanes,
          rdg := t.b.rdg, pairs := t.b.pairs, pwm := t.b.pwm, cmps := t.b.cmps, mpt := t.b.mpt, fad := t.b.fad, ke0 :=
          t.b.ke0, ke1 := t.b.ke1, fpm := t.b.fpm, but := t.b.but }) ∧
  (∀ (s t : State), exec .arbGrantRemove s = .next t →
      Within {
          fields := tripFlds ++ [F.BUT_STATUS_CODE, F.BUT_STATUS_DRV_EN, F.BUT_STATUS_GRANT, F.BUT_STATUS_READY,
            F.BUT_STATUS_STATE] ++ flags [F.BUT_STICKY_RELEASE] } s t ∧ t.b = { s.b with
          setNow := t.b.setNow, sys := t.b.sys, ldg := t.b.ldg, crn := t.b.crn, lanes := t.b.lanes, rdg := t.b.rdg, pairs :=
          t.b.pairs, pwm := t.b.pwm, cmps := t.b.cmps, mpt := t.b.mpt, fad := t.b.fad, but := t.b.but }) ∧
  (∀ (s t : State), exec .butRequest s = .next t →
      Within {
          fields := ledgerFlds ++ [F.BUT_STATUS_CODE, F.BUT_STATUS_DRV_EN, F.BUT_STATUS_READY, F.BUT_STATUS_STATE] ++ flags
            [F.BUT_STICKY_CMD_REJECT] } s t ∧
      t.b = { s.b with setNow := t.b.setNow, ldg := t.b.ldg, but := t.b.but }) ∧
  (∀ (s t : State), exec .requestExpire s = .next t →
      Within { fields := [F.BUT_STATUS_CODE, F.BUT_STATUS_DRV_EN, F.BUT_STATUS_READY, F.BUT_STATUS_STATE] } s t ∧
      t.b = { s.b with but := t.b.but }) ∧
  (∀ (s t : State), exec .revertHold s = .next t →
      Within {
          fields := ledgerFlds ++ [F.BUT_STATUS_CODE, F.BUT_STATUS_DRV_EN, F.BUT_STATUS_READY, F.BUT_STATUS_STATE] } s t ∧
      t.b = { s.b with setNow := t.b.setNow, ldg := t.b.ldg, but := t.b.but }) ∧
  (∀ (f : Frame) (s t : State), exec (.class0Set f) s = .next t →
      Within {
          fields := [F.BUT_STATUS_AGE, F.BUT_STATUS_CODE, F.BUT_STATUS_DRV_EN, F.BUT_STATUS_MIRROR_LOST, F.BUT_STATUS_READY,
            F.BUT_STATUS_STATE] } s t ∧ t.b = { s.b with lanes := t.b.lanes, but := t.b.but }) ∧
  (∀ (f : Frame) (s t : State), exec (.class1Set f) s = .next t →
      Within {
          fields := [F.BUT_STATUS_AGE, F.BUT_STATUS_CODE, F.BUT_STATUS_DRV_EN, F.BUT_STATUS_MIRROR_LOST, F.BUT_STATUS_READY,
            F.BUT_STATUS_STATE] } s t ∧ t.b = { s.b with lanes := t.b.lanes, but := t.b.but }) ∧
  (∀ (f : Frame) (s t : State), exec (.hardwareSet f) s = .next t →
      Within {
          fields := [F.BUT_STATUS_AGE, F.BUT_STATUS_CODE, F.BUT_STATUS_DRV_EN, F.BUT_STATUS_MIRROR_LOST, F.BUT_STATUS_READY,
            F.BUT_STATUS_STATE] } s t ∧ t.b = { s.b with lanes := t.b.lanes, but := t.b.but }) ∧
  (∀ (f : Frame) (s t : State), exec (.acknowledge f) s = .next t →
      Within { fields := [F.BUT_STATUS_CODE, F.BUT_STATUS_DRV_EN, F.BUT_STATUS_READY, F.BUT_STATUS_STATE] } s t ∧
      t.b = { s.b with lanes := t.b.lanes, but := t.b.but }) ∧
  (∀ (f : Frame) (s t : State), exec (.statusFrame f) s = .next t →
      Within {
          fields := [F.BUT_ALIGN_NS, F.BUT_PCRC_CRC, F.BUT_STATUS_CODE, F.BUT_STATUS_DRV_EN, F.BUT_STATUS_READY,
            F.BUT_STATUS_STATE] } s t ∧ t.b = { s.b with lanes := t.b.lanes, but := t.b.but }) ∧
  (∀ (s t : State), exec .mirrorRetry s = .next t →
      Within {
          fields := ledgerFlds ++ [F.BUT_CNT_RETRY_N, F.BUT_STATUS_CODE, F.BUT_STATUS_DRV_EN, F.BUT_STATUS_LINK_FAULT,
            F.BUT_STATUS_READY, F.BUT_STATUS_STATE] ++ flags [F.BUT_STICKY_LINK_FAULT] } s t ∧
      t.b = { s.b with setNow := t.b.setNow, ldg := t.b.ldg, lanes := t.b.lanes, but := t.b.but }) ∧
  (∀ (s t : State), exec .mirrorLost s = .next t →
      Within {
          fields := ledgerFlds ++ [F.BUT_STATUS_CODE, F.BUT_STATUS_DRV_EN, F.BUT_STATUS_MIRROR_LOST, F.BUT_STATUS_READY,
            F.BUT_STATUS_STATE] ++ flags [F.BUT_STICKY_MIRROR_LOST] } s t ∧
      t.b = { s.b with setNow := t.b.setNow, ldg := t.b.ldg, but := t.b.but }) ∧
  (∀ (s t : State), exec .butCommit s = .next t →
      Within { fields := ledgerFlds ++ flags [F.BUT_STICKY_CFG_REJECT], pend := [0x11] } s t ∧ t.b = { s.b with
          freeCtr := t.b.freeCtr, setNow := t.b.setNow, commitNow := t.b.commitNow, commitWas := t.b.commitWas, waiting :=
          t.b.waiting, ldg := t.b.ldg }) ∧
  (∀ (d : Fin 2) (ns : Nat) (inhPin : Bool) (s t : State), exec (.arbHealthEdge d ns inhPin) s = .next t →
      Within { fields := [F.BUT_ARB_STATUS_CODE_P, F.BUT_ARB_STATUS_CODE_S, F.BUT_ARB_STATUS_GRANT] } s t ∧
      t.b = { s.b with but := t.b.but }) ∧
  (∀ (d : Fin 2) (s t : State), exec (.arbHealthTimeout d) s = .next t →
      Within { fields := [F.BUT_ARB_STATUS_CODE_P, F.BUT_ARB_STATUS_CODE_S, F.BUT_ARB_STATUS_GRANT] } s t ∧
      t.b = { s.b with but := t.b.but }) ∧
  (∀ (s t : State), exec .arbGrantIssue s = .next t →
      Within { fields := [F.BUT_ARB_STATUS_GRANT] } s t ∧ t.b = s.b) ∧
  (∀ (mv : BitVec 16) (s t : State), exec (.vddPwrLoss mv) s = .next t →
      Within {
          fields := tripFlds ++ guarFlds ++ [F.BED_EAVAIL_NJ, F.BED_STATUS_COLD, F.BED_STATUS_HARV_RUN, F.BED_STATUS_RES_OK,
            F.BED_STATUS_SRC, F.BED_STATUS_VDD_PRESENT, F.BED_VSTORE_MV, F.BUT_FAULT_CAUSE, F.BUT_STATUS_CODE,
            F.BUT_STATUS_DRV_EN, F.BUT_STATUS_READY, F.BUT_STATUS_STATE, F.MET_STATUS_WATCH, F.MET_WATCH_SEC_S,
            F.MON_STATUS_RAIL_OUT] ++ flags [F.BED_STICKY_SRC_CHANGE, F.BED_STICKY_VDD_LOSS, F.BUT_STICKY_FAILED,
            F.MON_STICKY_RAIL_OUT] } s t ∧ t.b = { s.b with
          freeCtr := t.b.freeCtr, setNow := t.b.setNow, sys := t.b.sys, bed := t.b.bed, ldg := t.b.ldg, crn := t.b.crn, lanes
          := t.b.lanes, rdg := t.b.rdg, pairs := t.b.pairs, pwm := t.b.pwm, cmps := t.b.cmps, mpt := t.b.mpt, fad :=
          t.b.fad, but := t.b.but, phs := t.b.phs, met := t.b.met }) ∧
  (∀ (mv : BitVec 16) (s t : State), exec (.vbatLow mv) s = .next t →
      Within {
          fields := ledgerFlds ++ [F.BED_STATUS_VBAT_LOW, F.BED_VBAT_MV] ++ flags [F.BED_STICKY_VBAT_LOW] } s t ∧
      t.b = { s.b with setNow := t.b.setNow, bed := t.b.bed, ldg := t.b.ldg }) ∧
  (∀ (mv : BitVec 16) (harv : BitVec 16) (s t : State), exec (.storeThreshold mv harv) s = .next t →
      Within {
          fields := ledgerFlds ++ [F.BED_EAVAIL_NJ, F.BED_STATUS_COLD, F.BED_STATUS_HARV_RUN, F.BED_STATUS_RES_OK,
            F.BED_STATUS_SRC, F.BED_VSTORE_MV, F.CLK_SEARCH_CODE_A, F.CLK_SEARCH_CODE_B, F.CLK_SEARCH_VALID_A,
            F.CLK_SEARCH_VALID_B, F.MET_STATUS_WATCH] ++ flags [F.BED_STICKY_SRC_CHANGE] } s t ∧
      t.b = { s.b with
          freeCtr := t.b.freeCtr, setNow := t.b.setNow, plumb := t.b.plumb, bed := t.b.bed, ldg := t.b.ldg, met := t.b.met }) ∧
  (∀ (mv : BitVec 16) (s t : State), exec (.harvestProbe mv) s = .next t →
      Within {
          fields := ledgerFlds ++ [F.BED_EAVAIL_NJ, F.BED_STATUS_RES_OK, F.BED_STATUS_SRC, F.BED_VSTORE_MV] ++ flags
            [F.BED_STICKY_SRC_CHANGE] } s t ∧
      t.b = { s.b with freeCtr := t.b.freeCtr, setNow := t.b.setNow, bed := t.b.bed, ldg := t.b.ldg }) ∧
  (∀ (voc : BitVec 16) (s t : State), exec (.harvestSample voc) s = .next t →
      Within { fields := [F.BED_HARV_VOC] } s t ∧ t.b = { s.b with bed := t.b.bed }) ∧
  (∀ (secs : BitVec 32) (mv : BitVec 16) (s t : State), exec (.coldStart secs mv) s = .next t →
      Within {
          fields := ledgerFlds ++ [F.BED_EAVAIL_NJ, F.BED_STATUS_COLD, F.BED_STATUS_HARV_RUN, F.BED_STATUS_RES_OK,
            F.BED_VSTORE_MV] ++ flags [F.BED_STICKY_COLD_START] } s t ∧
      t.b = { s.b with setNow := t.b.setNow, bed := t.b.bed, ldg := t.b.ldg }) ∧
  (∀ (mv : BitVec 16) (s t : State), exec (.ledgerRecordWrite mv) s = .next t →
      Within {
          fields := ledgerFlds ++ [F.BED_EAVAIL_NJ, F.BED_STATUS_RES_OK, F.BED_VSTORE_MV, F.LDG_COUNT_N, F.LDG_DEFER_DEFER,
            F.LDG_SEQ_SEQ, F.LDG_STATUS_DEFERRING, F.LDG_STATUS_FULL, F.LDG_STATUS_RESERVE_ONLY, F.LDG_WRAPS_N,
            F.LDG_WR_IDX_SLOT] ++ flags [F.LDG_STICKY_DEFER, F.LDG_STICKY_FULL, F.LDG_STICKY_RECORD,
            F.LDG_STICKY_WRAP] ++ queueFlds (s.get F.LDG_Q_QUEUE),
          words := fun a => (slotAddr (s.get F.LDG_WR_IDX_SLOT) ≤ a ∧ a < slotAddr (s.get F.LDG_WR_IDX_SLOT) + 8) ∨ queueWord
            s (s.get F.LDG_Q_QUEUE) a } s t ∧
      t.b = { s.b with setNow := t.b.setNow, ldg := t.b.ldg, queSeq := t.b.queSeq, queNow := t.b.queNow }) ∧
  (∀ (mv : BitVec 16) (s t : State), exec (.deferSummary mv) s = .next t →
      Within {
          fields := ledgerFlds ++ [F.BED_EAVAIL_NJ, F.BED_STATUS_RES_OK, F.BED_VSTORE_MV, F.LDG_COUNT_N, F.LDG_DEFER_DEFER,
            F.LDG_SEQ_SEQ, F.LDG_STATUS_DEFERRING, F.LDG_STATUS_FULL, F.LDG_STATUS_RESERVE_ONLY, F.LDG_WRAPS_N,
            F.LDG_WR_IDX_SLOT] ++ flags [F.LDG_STICKY_FULL, F.LDG_STICKY_RECORD, F.LDG_STICKY_WRAP] ++ queueFlds
            (s.get F.LDG_Q_QUEUE),
          words := fun a => (slotAddr (s.get F.LDG_WR_IDX_SLOT) ≤ a ∧ a < slotAddr (s.get F.LDG_WR_IDX_SLOT) + 8) ∨ queueWord
            s (s.get F.LDG_Q_QUEUE) a } s t ∧
      t.b = { s.b with setNow := t.b.setNow, ldg := t.b.ldg, queSeq := t.b.queSeq, queNow := t.b.queNow }) ∧
  (∀ (mv : BitVec 16) (s t : State), exec (.counterCheckpoint mv) s = .next t →
      Within { fields := [F.BED_EAVAIL_NJ, F.BED_STATUS_RES_OK, F.BED_VSTORE_MV] } s t ∧
      t.b = { s.b with bed := t.b.bed }) ∧
  (∀ (s t : State), exec .xtalFail s = .next t →
      Within { fields := ledgerFlds ++ [F.BED_STATUS_XTAL_OK] ++ flags [F.BED_STICKY_XTAL_FAIL] } s t ∧
      t.b = { s.b with setNow := t.b.setNow, bed := t.b.bed, ldg := t.b.ldg }) ∧
  (∀ (s t : State), exec .xtalRestore s = .next t →
      Within { fields := ledgerFlds ++ [F.BED_STATUS_XTAL_OK] } s t ∧
      t.b = { s.b with setNow := t.b.setNow, ldg := t.b.ldg }) ∧
  (∀ (s t : State), exec .opsecTick s = .next t →
      Within {
          fields := ledgerFlds ++ [F.CLK_SEARCH_CODE_A, F.CLK_SEARCH_CODE_B, F.CLK_SEARCH_VALID_A, F.CLK_SEARCH_VALID_B] } s t ∧
      t.b = { s.b with
          freeCtr := t.b.freeCtr, setNow := t.b.setNow, plumb := t.b.plumb, bed := t.b.bed, ldg := t.b.ldg }) ∧
  (∀ (mv : BitVec 16) (vbat : BitVec 16) (badCp : Fin 3) (badMet : Fin 3) (s t : State), exec (.bedrockStart mv vbat
      badCp badMet) s = .next t →
      Within {
          fields := [F.MET_WATCH_SEC_S, F.MET_WATCH_WH_WH, F.MON_RO_NEXT_S] ++ flags [F.MET_STICKY_RESTORED] ++ (List.range
            4).map F.MET_PULSE_PEND_N ++ (List.range 3).map F.MET_WATCH_AS_AS,
          pages := [0xA0, 0xA1],
          force := [0xA0, 0xA1],
          pend := [0xA0, 0xA1] } s t ∧ t.b = { s.b with
          freeCtr := t.b.freeCtr, setNow := t.b.setNow, bed := t.b.bed, ldg := t.b.ldg, met := t.b.met }) ∧
  (∀ (s t : State), exec .ledgerScanDone s = .next t →
      Within {
          fields := ledgerFlds ++ [F.LDG_COUNT_N, F.LDG_SEQ_SEQ, F.LDG_STATUS_SCANNING, F.LDG_WR_IDX_SLOT] ++ flags
            [F.BED_STICKY_RESTORED, F.LDG_STICKY_SCAN_CRC] } s t ∧
      t.b = { s.b with setNow := t.b.setNow, bed := t.b.bed, ldg := t.b.ldg }) ∧
  (∀ (s t : State), exec .erase s = .next t →
      Within { fields := [F.LDG_STATUS_BUSY] ++ flags [F.LDG_STICKY_CMD_REJECT] } s t ∧
      t.b = { s.b with setNow := t.b.setNow, ldg := t.b.ldg }) ∧
  (∀ (s t : State), exec .eraseDone s = .next t →
      Within {
          fields := [F.CLK_SEARCH_CODE_A, F.CLK_SEARCH_CODE_B, F.CLK_SEARCH_VALID_A, F.CLK_SEARCH_VALID_B, F.LDG_COUNT_N,
            F.LDG_DEFER_DEFER, F.LDG_SEQ_SEQ, F.LDG_STATUS_BUSY, F.LDG_STATUS_DEFERRING, F.LDG_STATUS_FULL,
            F.LDG_STATUS_RESERVE_ONLY, F.LDG_WRAPS_N, F.LDG_WR_IDX_SLOT] ++ flags [F.LDG_STICKY_DEFER,
            F.LDG_STICKY_RECORD, F.LDG_STICKY_WRAP] ++ queueFlds (s.get F.LDG_Q_QUEUE),
          words := fun a => (slotAddr 0 ≤ a ∧ a < slotAddr 0 + 8) ∨ (0x100000 ≤ a ∧ a < 0x120000 ∧ a % 8 = 7) ∨ queueWord s
            (s.get F.LDG_Q_QUEUE) a } s t ∧ t.b = { s.b with
          setNow := t.b.setNow, plumb := t.b.plumb, ldg := t.b.ldg, queSeq := t.b.queSeq, queNow := t.b.queNow }) ∧
  (∀ (n : BitVec 15) (s t : State), exec (.opsecRead n) s = .next t →
      Within { fields := [F.BED_OPSEC_HI_S, F.BED_OPSEC_LO_S, F.BED_SUBSEC_N] } s t ∧ t.b = s.b) ∧
  (∀ (k : Fin 3) (v : Word) (s t : State), exec (.bedConfigWrite k v) s = .next t →
      Within {
          fields := [F.BED_HARV_FRAC, F.BED_RES_KEEP, F.BED_RES_WRITE, F.BED_STORE_CAP_UF] ++ flags [F.BED_STICKY_CFG_REJECT] } s t ∧
      t.b = { s.b with setNow := t.b.setNow }) ∧
  (∀ (code : BitVec 16) (s t : State), exec (.sevqLookup code) s = .next t →
      Within { fields := [F.LDG_SEVQ_CODE, F.LDG_SEVQ_SEV] } s t ∧ t.b = s.b) ∧
  (∀ (mv : BitVec 16) (s t : State), exec (.vsafeReturn mv) s = .next t →
      Within { fields := [F.PAR_VSAFE_V] } s t ∧ t.b = { s.b with par := t.b.par }) ∧
  (∀ (mv : BitVec 16) (s t : State), exec (.vbatPresentChange mv) s = .next t →
      Within {
          fields := [F.MET_WATCH_SEC_S, F.MET_WATCH_WH_WH, F.MON_RO_NEXT_S] ++ flags [F.MET_STICKY_RESTORED] ++ (List.range
            4).map F.MET_PULSE_PEND_N ++ (List.range 3).map F.MET_WATCH_AS_AS,
          pages := [0xA0, 0xA1],
          force := [0xA0, 0xA1],
          pend := [0xA0, 0xA1] } s t ∧ t.b = { s.b with
          freeCtr := t.b.freeCtr, setNow := t.b.setNow, bed := t.b.bed, ldg := t.b.ldg, met := t.b.met })

/-- For each command of the queues, security, health, Cairn, the resets, configuration and the host port and every state
and operand: the next state differs from the state before it at most in the register fields listed for the command
(its destinations, the flags it may set with their interrupt bits, and what the spec makes follow them at once: the
Ledger's loss counters, the guarantees, the pins), in the pages whose shadowed or pending values it may adopt, and in
the block state named. Every other register, value in force, pending value and word of memory, and the queue, are
unchanged. The commands that store to memory (mailReceive, signatureDone, imageWindowWrite, cairnSnapshot) change no
word but those at the addresses the statement computes. -/
def Obligations.FrameSupervision : Prop :=
  (∀ (s t : State), exec .powerDieReset s = .next t →
      Within {
          fields := tripFlds ++ guarFlds ++ [F.BUT_FAULT_CAUSE, F.BUT_STATUS_CODE, F.BUT_STATUS_DRV_EN, F.BUT_STATUS_READY,
            F.BUT_STATUS_STATE, F.PAR_CRC2_CRC, F.PAR_PINS_RAW, F.PAR_STATUS_CH2_UNAVAIL, F.PAR_STATUS_DISC,
            F.PAR_STATUS_INH, F.PAR_STATUS_OUT_ON, F.PAR_STATUS_PERMIT, F.PAR_TPS_CTRL_EN, F.PAR_VSAFE_V,
            F.PMP_STATUS_BOOT_HOLD, F.PMP_STATUS_CAUSE, F.PMP_STATUS_STATE, F.PMP_STATUS_UNAVAIL, F.PMP_STATUS_VM_OV,
            F.PMP_STATUS_VM_UV, F.PWX_STATUS_INHIBIT, F.SYS_GUAR_DIE_LINK] ++ flags [F.BUT_STICKY_FAILED,
            F.PAR_STICKY_CH2_UNAVAIL, F.PMP_STICKY_OC, F.PMP_STICKY_OV, F.PMP_STICKY_SHOOT_BLOCK, F.PMP_STICKY_STALL,
            F.PMP_STICKY_START_FAIL, F.PMP_STICKY_WDOG, F.PWX_STICKY_INHIBIT],
          pages := [0x60, 0x61],
          force := [0x90, 0x60, 0x61],
          pend := [0x90, 0x60, 0x61] } s t ∧ t.b = { s.b with
          setNow := t.b.setNow, waiting := t.b.waiting, sys := t.b.sys, ldg := t.b.ldg, crn := t.b.crn, lanes := t.b.lanes,
          rdg := t.b.rdg, pairs := t.b.pairs, pwm := t.b.pwm, cmps := t.b.cmps, mpt := t.b.mpt, fad := t.b.fad, pmp :=
          t.b.pmp, but := t.b.but, phs := t.b.phs, met := t.b.met, par := t.b.par }) ∧
  (∀ (s t : State), exec .mainResetRelease s = .next t →
      Within {
          fields := tripFlds ++ guarFlds ++ [F.BUT_FAULT_CAUSE, F.BUT_STATUS_CODE, F.BUT_STATUS_DRV_EN, F.BUT_STATUS_READY,
            F.BUT_STATUS_STATE, F.CLK_STATUS_SEARCHING, F.LDG_STATUS_BUSY, F.MON_STATUS_RAIL_OUT, F.MTC_STATUS_LOCKED,
            F.PAR_STATUS_CH2_UNAVAIL, F.PMP_STATUS_CAUSE, F.PMP_STATUS_STATE, F.PMP_STATUS_UNAVAIL,
            F.SEC_STATUS_ENFORCE, F.SEC_STATUS_IKEY_FUSED, F.SEC_STATUS_MET_LOCK, F.SEC_STATUS_MET_PERM,
            F.SYS_GUAR_DIE_LINK] ++ flags [F.BUT_STICKY_FAILED, F.LDG_STICKY_CMD_REJECT, F.MTC_STICKY_LOCK_REJECT,
            F.PAR_STICKY_CH2_UNAVAIL, F.PMP_STICKY_OC, F.PMP_STICKY_OV, F.PMP_STICKY_SHOOT_BLOCK, F.PMP_STICKY_STALL,
            F.PMP_STICKY_START_FAIL, F.PMP_STICKY_WDOG, F.SYS_STICKY_RESET] ++ (List.range 16).map F.SEC_IKEY_W } s t ∧
      t.b = { s.b with
          setNow := t.b.setNow, commitNow := t.b.commitNow, commitWas := t.b.commitWas, waiting := t.b.waiting, sys :=
          t.b.sys, plumb := t.b.plumb, ldg := t.b.ldg, sec := t.b.sec, crn := t.b.crn, lanes := t.b.lanes, rdg :=
          t.b.rdg, pairs := t.b.pairs, pwm := t.b.pwm, cmps := t.b.cmps, mpt := t.b.mpt, fad := t.b.fad, ke1 :=
          t.b.ke1, pmp := t.b.pmp, but := t.b.but, phs := t.b.phs }) ∧
  (∀ (s t : State), exec .configLoad s = .next t →
      Within {
          fields := ledgerFlds ++ [F.CFG_GEN_A_GEN, F.CFG_GEN_B_GEN, F.CFG_STATUS_VALID_A, F.CFG_STATUS_VALID_B,
            F.SYS_STATUS_STAGE] ++ flags [F.CFG_STICKY_CHECK_FAIL_A, F.CFG_STICKY_CHECK_FAIL_B] } s t ∧
      t.b = { s.b with setNow := t.b.setNow, ldg := t.b.ldg, cfg := t.b.cfg }) ∧
  (∀ (s t : State), exec .permissionGrant s = .next t →
      Within {
          fields := tripFlds ++ guarFlds ++ [F.BUT_STATUS_CODE, F.BUT_STATUS_DRV_EN, F.BUT_STATUS_READY, F.BUT_STATUS_STATE,
            F.SYS_STATUS_PERMIT, F.SYS_STATUS_STAGE, F.SYS_T_PERMIT_US] ++ flags [F.CLK_STICKY_DIV_UNSYNC,
            F.SYS_STICKY_PERMIT_TMO] } s t ∧ t.b = { s.b with
          setNow := t.b.setNow, sys := t.b.sys, ldg := t.b.ldg, crn := t.b.crn, lanes := t.b.lanes, rdg := t.b.rdg, pairs :=
          t.b.pairs, pwm := t.b.pwm, cmps := t.b.cmps, mpt := t.b.mpt, fad := t.b.fad, but := t.b.but, phs := t.b.phs }) ∧
  (∀ (s t : State), exec .startWaitTimeout s = .next t →
      Within {} s t ∧ t.b = { s.b with sys := t.b.sys }) ∧
  (∀ (s t : State), exec .sysPermit s = .next t →
      Within {} s t ∧ t.b = { s.b with sys := t.b.sys }) ∧
  (∀ (s t : State), exec .dieLinkFail s = .next t →
      Within {
          fields := tripFlds ++ guarFlds ++ [F.BUT_FAULT_CAUSE, F.BUT_STATUS_CODE, F.BUT_STATUS_DRV_EN, F.BUT_STATUS_READY,
            F.BUT_STATUS_STATE, F.PAR_STATUS_CH2_UNAVAIL, F.PMP_STATUS_CAUSE, F.PMP_STATUS_STATE,
            F.PMP_STATUS_UNAVAIL, F.SYS_GUAR_DIE_LINK] ++ flags [F.BUT_STICKY_FAILED, F.PAR_STICKY_CH2_UNAVAIL,
            F.PMP_STICKY_OC, F.PMP_STICKY_OV, F.PMP_STICKY_SHOOT_BLOCK, F.PMP_STICKY_STALL, F.PMP_STICKY_START_FAIL,
            F.PMP_STICKY_WDOG] } s t ∧ t.b = { s.b with
          setNow := t.b.setNow, sys := t.b.sys, ldg := t.b.ldg, crn := t.b.crn, lanes := t.b.lanes, rdg := t.b.rdg, pairs :=
          t.b.pairs, pwm := t.b.pwm, cmps := t.b.cmps, mpt := t.b.mpt, fad := t.b.fad, pmp := t.b.pmp, but := t.b.but,
          phs := t.b.phs }) ∧
  (∀ (s t : State), exec .dieLinkRestore s = .next t →
      Within {
          fields := tripFlds ++ guarFlds ++ [F.BUT_FAULT_CAUSE, F.BUT_STATUS_CODE, F.BUT_STATUS_DRV_EN, F.BUT_STATUS_READY,
            F.BUT_STATUS_STATE, F.LDG_STATUS_BUSY, F.MTC_STATUS_LOCKED, F.PAR_STATUS_CH2_UNAVAIL, F.PMP_STATUS_CAUSE,
            F.PMP_STATUS_STATE, F.PMP_STATUS_UNAVAIL, F.SEC_STATUS_ENFORCE, F.SEC_STATUS_IKEY_FUSED,
            F.SEC_STATUS_MET_LOCK, F.SEC_STATUS_MET_PERM, F.SYS_GUAR_DIE_LINK] ++ flags [F.BUT_STICKY_FAILED,
            F.LDG_STICKY_CMD_REJECT, F.MTC_STICKY_LOCK_REJECT, F.PAR_STICKY_CH2_UNAVAIL, F.PMP_STICKY_OC,
            F.PMP_STICKY_OV, F.PMP_STICKY_SHOOT_BLOCK, F.PMP_STICKY_STALL, F.PMP_STICKY_START_FAIL, F.PMP_STICKY_WDOG]
            ++ (List.range 16).map F.SEC_IKEY_W } s t ∧ t.b = { s.b with
          setNow := t.b.setNow, commitNow := t.b.commitNow, commitWas := t.b.commitWas, waiting := t.b.waiting, sys :=
          t.b.sys, ldg := t.b.ldg, sec := t.b.sec, crn := t.b.crn, lanes := t.b.lanes, rdg := t.b.rdg, pairs :=
          t.b.pairs, pwm := t.b.pwm, cmps := t.b.cmps, mpt := t.b.mpt, fad := t.b.fad, ke1 := t.b.ke1, pmp := t.b.pmp,
          but := t.b.but, phs := t.b.phs }) ∧
  (∀ (mv : BitVec 16) (us : BitVec 16) (s t : State), exec (.vddPwrPresent mv us) s = .next t →
      Within {
          fields := tripFlds ++ guarFlds ++ [F.BUT_FAULT_CAUSE, F.BUT_STATUS_CODE, F.BUT_STATUS_DRV_EN, F.BUT_STATUS_READY,
            F.BUT_STATUS_STATE, F.CLK_SEARCH_CODE_A, F.CLK_SEARCH_CODE_B, F.CLK_SEARCH_VALID_A, F.CLK_SEARCH_VALID_B,
            F.MET_STATUS_WATCH, F.MET_WATCH_SEC_S, F.MET_WATCH_WH_WH, F.MON_RO_NEXT_S, F.MON_STATUS_RAIL_OUT,
            F.MTC_STATUS_LOCKED, F.SEC_STATUS_ENFORCE, F.SEC_STATUS_IKEY_FUSED, F.SEC_STATUS_MET_LOCK,
            F.SEC_STATUS_MET_PERM] ++ flags [F.BUT_STICKY_FAILED, F.MET_STICKY_RESTORED, F.MON_STICKY_RAIL_OUT,
            F.MTC_STICKY_LOCK_REJECT] ++ (List.range 4).map F.MET_PULSE_PEND_N ++ (List.range 3).map F.MET_WATCH_AS_AS
            ++ (List.range 16).map F.SEC_IKEY_W,
          pages := [0xA0, 0xA1],
          force := [0xA0, 0xA1],
          pend := [0xA0, 0xA1] } s t ∧ t.b = { s.b with
          freeCtr := t.b.freeCtr, setNow := t.b.setNow, commitNow := t.b.commitNow, commitWas := t.b.commitWas, waiting :=
          t.b.waiting, sys := t.b.sys, plumb := t.b.plumb, bed := t.b.bed, ldg := t.b.ldg, sec := t.b.sec, crn :=
          t.b.crn, lanes := t.b.lanes, rdg := t.b.rdg, pairs := t.b.pairs, pwm := t.b.pwm, cmps := t.b.cmps, mpt :=
          t.b.mpt, fad := t.b.fad, ke1 := t.b.ke1, but := t.b.but, phs := t.b.phs, met := t.b.met, par := t.b.par }) ∧
  (∀ (counts : List Word) (s t : State), exec (.roDrift counts) s = .next t →
      Within {
          fields := ledgerFlds ++ [F.MON_RO_NEXT_S] ++ flags [F.MON_STICKY_RO_RECORD] ++ (List.range 8).map F.MON_RO_N } s t ∧
      t.b = { s.b with freeCtr := t.b.freeCtr, setNow := t.b.setNow, ldg := t.b.ldg, mon := t.b.mon }) ∧
  (∀ (counts : List Word) (s t : State), exec (.roRecord counts) s = .next t →
      Within {
          fields := ledgerFlds ++ [F.MON_RO_NEXT_S] ++ flags [F.MON_STICKY_RO_RECORD] ++ (List.range 8).map F.MON_RO_N } s t ∧
      t.b = { s.b with freeCtr := t.b.freeCtr, setNow := t.b.setNow, ldg := t.b.ldg, mon := t.b.mon }) ∧
  (∀ (a1 : BitVec 24) (first : Nat) (words : List Word) (cut : Bool) (s t : State), exec (.write a1 first words cut) s
      = .next t →
      Within {
          fields := [F.HST_ERR_ADDR_ADDR] ++ flags [F.HST_STICKY_ALIGN, F.HST_STICKY_BURST_END, F.HST_STICKY_PARTIAL,
            F.HST_STICKY_WR_OVF] } s t ∧ t.b = { s.b with setNow := t.b.setNow, hst := t.b.hst }) ∧
  (∀ (a1 : BitVec 24) (first : Nat) (words : List Word) (cut : Bool) (s t : State), exec (.write4 a1 first words cut)
      s = .next t →
      Within {
          fields := [F.HST_ERR_ADDR_ADDR] ++ flags [F.HST_STICKY_ALIGN, F.HST_STICKY_BURST_END, F.HST_STICKY_PARTIAL,
            F.HST_STICKY_WR_OVF] } s t ∧ t.b = { s.b with setNow := t.b.setNow, hst := t.b.hst }) ∧
  (∀ (s t : State), exec .status s = .next t →
      Within {} s t ∧ t.b = { s.b with hst := t.b.hst }) ∧
  (∀ (code : BitVec 8) (s t : State), exec (.unknownCommand code) s = .next t →
      Within { fields := flags [F.HST_STICKY_ALIGN] } s t ∧
      t.b = { s.b with setNow := t.b.setNow, hst := t.b.hst }) ∧
  (∀ (a1 : BitVec 24) (s t : State), exec (.rdTmo a1) s = .next t →
      Within { fields := [F.HST_ERR_ADDR_ADDR] ++ flags [F.HST_STICKY_RD_TMO] } s t ∧
      t.b = { s.b with setNow := t.b.setNow, hst := t.b.hst }) ∧
  (∀ (f : Option Frame) (s t : State), exec (.hostLinkReadRequest f) s = .next t →
      Within {
          fields := [F.BED_OPSEC_HI_S, F.BED_OPSEC_LO_S, F.BED_SUBSEC_N, F.HST_CNT_LINK_ERR_N, F.HST_ERR_ADDR_ADDR,
            F.KE0_ECC_CNT_N, F.KE1_ECC_CNT_N, F.QUE_STATUS_NONEMPTY, F.QUE_WM_STAT_Q, F.RDG_CNT_CRC_N,
            F.RDG_CNT_HOPDROP_N, F.TIM_NOW_FRAC_FRAC, F.TIM_NOW_W0_SEC_LO, F.TIM_NOW_W1_W1, F.TIM_NOW_W2_W2] ++ flags
            [F.HST_STICKY_BURST_END, F.HST_STICKY_LINK_ERR, F.HST_STICKY_UNMAPPED, F.KE0_STICKY_ECC_CORR,
            F.KE1_STICKY_ECC_CORR, F.QUE_STICKY_WM, F.RDG_STICKY_CRC_ERR, F.RDG_STICKY_HOP_DROP] ++ (List.range 8).map
            F.LNK_PRBS_BITS_HI_N ++ (List.range 8).map F.LNK_PRBS_BITS_LO_N ++ (List.range 8).map F.LNK_PRBS_ERR_N ++
            (List.range 8).map F.LNK_RAW_RX_HI_W ++ (List.range 8).map F.LNK_RAW_RX_LO_W ++ (List.range 32).map
            F.MET_ACC_HI_A ++ (List.range 32).map F.MET_ACC_LO_A ++ (List.range 32).map F.MET_ACC_WRAP_W ++
            (List.range 32).map F.MET_FRZ_HI_A ++ (List.range 32).map F.MET_FRZ_LO_A ++ (List.range 32).map
            F.MET_FRZ_WRAP_W ++ (List.range 32).map F.QUE_Q_CONS_W ++ (List.range 32).map F.QUE_Q_FILL_W } s t ∧
      t.b = { s.b with
          freeCtr := t.b.freeCtr, setNow := t.b.setNow, hst := t.b.hst, lanes := t.b.lanes, rdg := t.b.rdg }) ∧
  (∀ (f : Option Frame) (s t : State), exec (.hostLinkBulkRequest f) s = .next t →
      Within {
          fields := [F.BED_OPSEC_HI_S, F.BED_OPSEC_LO_S, F.BED_SUBSEC_N, F.HST_CNT_LINK_ERR_N, F.HST_ERR_ADDR_ADDR,
            F.KE0_ECC_CNT_N, F.KE1_ECC_CNT_N, F.QUE_STATUS_NONEMPTY, F.QUE_WM_STAT_Q, F.RDG_CNT_CRC_N,
            F.RDG_CNT_HOPDROP_N, F.TIM_NOW_FRAC_FRAC, F.TIM_NOW_W0_SEC_LO, F.TIM_NOW_W1_W1, F.TIM_NOW_W2_W2] ++ flags
            [F.HST_STICKY_BURST_END, F.HST_STICKY_LINK_ERR, F.HST_STICKY_UNMAPPED, F.KE0_STICKY_ECC_CORR,
            F.KE1_STICKY_ECC_CORR, F.QUE_STICKY_WM, F.RDG_STICKY_CRC_ERR, F.RDG_STICKY_HOP_DROP] ++ (List.range 8).map
            F.LNK_PRBS_BITS_HI_N ++ (List.range 8).map F.LNK_PRBS_BITS_LO_N ++ (List.range 8).map F.LNK_PRBS_ERR_N ++
            (List.range 8).map F.LNK_RAW_RX_HI_W ++ (List.range 8).map F.LNK_RAW_RX_LO_W ++ (List.range 32).map
            F.MET_ACC_HI_A ++ (List.range 32).map F.MET_ACC_LO_A ++ (List.range 32).map F.MET_ACC_WRAP_W ++
            (List.range 32).map F.MET_FRZ_HI_A ++ (List.range 32).map F.MET_FRZ_LO_A ++ (List.range 32).map
            F.MET_FRZ_WRAP_W ++ (List.range 32).map F.QUE_Q_CONS_W ++ (List.range 32).map F.QUE_Q_FILL_W } s t ∧
      t.b = { s.b with
          freeCtr := t.b.freeCtr, setNow := t.b.setNow, hst := t.b.hst, lanes := t.b.lanes, rdg := t.b.rdg }) ∧
  (∀ (q : Fin 32) (s t : State), exec (.quePop q) s = .next t →
      Within {
          fields := [F.QUE_STATUS_NONEMPTY, F.QUE_WM_STAT_Q] ++ flags [F.QUE_STICKY_WM] ++ (List.range 32).map F.QUE_Q_CONS_W
            ++ (List.range 32).map F.QUE_Q_FILL_W } s t ∧
      t.b = { s.b with setNow := t.b.setNow, hst := t.b.hst }) ∧
  (∀ (q : Fin 32) (c : Word) (s t : State), exec (.queConsWrite q c) s = .next t →
      Within {
          fields := [F.QUE_STATUS_NONEMPTY, F.QUE_WM_STAT_Q] ++ flags [F.QUE_STICKY_IDX_REJECT, F.QUE_STICKY_WM] ++
            (List.range 32).map F.QUE_Q_CONS_W ++ (List.range 32).map F.QUE_Q_FILL_W } s t ∧
      t.b = { s.b with setNow := t.b.setNow }) ∧
  (∀ (s t : State), exec .queCommit s = .next t →
      Within { fields := ledgerFlds ++ flags [F.QUE_STICKY_CFG_REJECT], pend := [0x12] } s t ∧ t.b = { s.b with
          setNow := t.b.setNow, commitNow := t.b.commitNow, commitWas := t.b.commitWas, waiting := t.b.waiting, ldg :=
          t.b.ldg, queSeq := t.b.queSeq, queNow := t.b.queNow }) ∧
  (∀ (dest : BitVec 12) (count : BitVec 6) (s t : State), exec (.mailTx dest count) s = .next t →
      Within {
          fields := [F.QUE_MAIL_STAT_BUSY, F.RDG_BULK_STATUS_BUSY, F.RDG_BULK_STATUS_DONE, F.RDG_BULK_STATUS_ERR,
            F.RDG_CNT_HOPDROP_N, F.RDG_CNT_UNREACH_N, F.RDG_RACC_STATUS_BUSY, F.RDG_RACC_STATUS_DONE,
            F.RDG_RACC_STATUS_ERR] ++ flags [F.QUE_STICKY_MAIL_REJECT, F.RDG_STICKY_HOP_DROP, F.RDG_STICKY_RACC_ERR,
            F.RDG_STICKY_UNREACH_DROP] } s t ∧
      t.b = { s.b with setNow := t.b.setNow, lanes := t.b.lanes, rdg := t.b.rdg }) ∧
  (∀ (n : Fin 8) (f : Frame) (s t : State), exec (.mailReceive n f) s = .next t →
      Within {
          fields := [F.RDG_CNT_CRC_N, F.RDG_CNT_HOPDROP_N] ++ flags [F.RDG_STICKY_CRC_ERR, F.RDG_STICKY_HOP_DROP] ++ queueFlds
            (s.get F.QUE_MAIL_QUEUE),
          words := queueWord s (s.get F.QUE_MAIL_QUEUE) } s t ∧
      t.b = { s.b with setNow := t.b.setNow, queSeq := t.b.queSeq, queNow := t.b.queNow }) ∧
  (∀ (s t : State), exec .signatureDone s = .next t →
      Within {
          fields := [F.SEC_CNT_SIGNED_N, F.SEC_STATUS_SIGN_BUSY] ++ (List.range 16).map F.SEC_ATT_W ++ queueFlds
            ((s.b.sec.jobs.headD {}).q),
          words := queueWord s ((s.b.sec.jobs.headD {}).q) } s t ∧
      t.b = { s.b with sec := t.b.sec, queSeq := t.b.queSeq, queNow := t.b.queNow }) ∧
  (∀ (s t : State), exec .challenge s = .next t →
      Within { fields := [F.SEC_STATUS_SIGN_BUSY] } s t ∧ t.b = { s.b with sec := t.b.sec }) ∧
  (∀ (key : BitVec 16) (s t : State), exec (.fuseIkey key) s = .next t →
      Within { fields := ledgerFlds ++ flags [F.SEC_STICKY_CMD_REJECT] } s t ∧
      t.b = { s.b with setNow := t.b.setNow, ldg := t.b.ldg, sec := t.b.sec }) ∧
  (∀ (key : BitVec 16) (s t : State), exec (.fuseEnforce key) s = .next t →
      Within { fields := ledgerFlds ++ flags [F.SEC_STICKY_CMD_REJECT] } s t ∧
      t.b = { s.b with setNow := t.b.setNow, ldg := t.b.ldg, sec := t.b.sec }) ∧
  (∀ (key : BitVec 16) (s t : State), exec (.fuseMetLock key) s = .next t →
      Within { fields := ledgerFlds ++ flags [F.SEC_STICKY_CMD_REJECT] } s t ∧
      t.b = { s.b with setNow := t.b.setNow, ldg := t.b.ldg, sec := t.b.sec }) ∧
  (∀ (s t : State), exec .fuseDone s = .next t →
      Within {
          fields := ledgerFlds ++ [F.LDG_STATUS_BUSY, F.MTC_STATUS_LOCKED, F.SEC_STATUS_ENFORCE, F.SEC_STATUS_IKEY_FUSED,
            F.SEC_STATUS_MET_LOCK, F.SEC_STATUS_MET_PERM] ++ flags [F.LDG_STICKY_CMD_REJECT, F.MTC_STICKY_LOCK_REJECT,
            F.SEC_STICKY_FUSE_DONE] ++ (List.range 16).map F.SEC_IKEY_W } s t ∧ t.b = { s.b with
          setNow := t.b.setNow, commitNow := t.b.commitNow, commitWas := t.b.commitWas, waiting := t.b.waiting, ldg :=
          t.b.ldg, sec := t.b.sec, pairs := t.b.pairs, ke1 := t.b.ke1 }) ∧
  (∀ (s t : State), exec .metLock s = .next t →
      Within {
          fields := ledgerFlds ++ [F.LDG_STATUS_BUSY, F.MTC_STATUS_LOCKED, F.SEC_STATUS_ENFORCE, F.SEC_STATUS_IKEY_FUSED,
            F.SEC_STATUS_MET_LOCK, F.SEC_STATUS_MET_PERM] ++ flags [F.LDG_STICKY_CMD_REJECT, F.MTC_STICKY_CFG_REJECT,
            F.MTC_STICKY_LOCK_REJECT] ++ (List.range 16).map F.SEC_IKEY_W,
          pend := [0x61] } s t ∧ t.b = { s.b with
          setNow := t.b.setNow, commitNow := t.b.commitNow, commitWas := t.b.commitWas, waiting := t.b.waiting, ldg :=
          t.b.ldg, sec := t.b.sec, pairs := t.b.pairs, ke1 := t.b.ke1 }) ∧
  (∀ (n : Fin 44) (perm : Bool) (s t : State), exec (.lockKeyLock n perm) s = .next t →
      Within { fields := ledgerFlds ++ flags [F.MTC_STICKY_LOCK_REJECT] ++ allLocks } s t ∧
      t.b = { s.b with setNow := t.b.setNow, ldg := t.b.ldg }) ∧
  (∀ (n : Fin 44) (s t : State), exec (.lockKeyUnlock n) s = .next t →
      Within {
          fields := ledgerFlds ++ flags [F.CFG_STICKY_LOCK_REJECT, F.MTC_STICKY_LOCK_REJECT] ++ allLocks } s t ∧
      t.b = { s.b with setNow := t.b.setNow, ldg := t.b.ldg }) ∧
  (∀ (n : Fin 44) (key : BitVec 16) (s t : State), exec (.keyBad n key) s = .next t →
      Within { fields := ledgerFlds ++ flags [F.CFG_STICKY_KEY_BAD, F.MTC_STICKY_LOCK_REJECT] } s t ∧
      t.b = { s.b with setNow := t.b.setNow, ldg := t.b.ldg }) ∧
  (∀ (s t : State), exec .verifyA s = .next t →
      Within { fields := [F.CFG_STATUS_VERIFY_BUSY] } s t ∧ t.b = { s.b with cfg := t.b.cfg }) ∧
  (∀ (s t : State), exec .verifyB s = .next t →
      Within { fields := [F.CFG_STATUS_VERIFY_BUSY] } s t ∧ t.b = { s.b with cfg := t.b.cfg }) ∧
  (∀ (s t : State), exec .verifyDone s = .next t →
      Within {
          fields := [F.CFG_GEN_A_GEN, F.CFG_GEN_B_GEN, F.CFG_STATUS_VALID_A, F.CFG_STATUS_VALID_B, F.CFG_STATUS_VERIFY_BUSY] } s t ∧
      t.b = { s.b with cfg := t.b.cfg }) ∧
  (∀ (copy : Fin 2) (k : BitVec 14) (v : Word) (s t : State), exec (.imageWindowWrite copy k v) s = .next t →
      Within {
          fields := [F.CFG_STATUS_VALID_A, F.CFG_STATUS_VALID_B] ++ flags [F.BED_STICKY_CFG_WR_REJECT, F.CFG_STICKY_WR_REJECT],
          words := fun a => a = imgBase copy + k } s t ∧ t.b = { s.b with setNow := t.b.setNow }) ∧
  (∀ (s t : State), exec .crnTrigger s = .next t →
      Within { fields := causeFlds } s t ∧
      t.b = { s.b with setNow := t.b.setNow, ldg := t.b.ldg, crn := t.b.crn }) ∧
  (∀ (s t : State), exec .cairnPinEdge s = .next t →
      Within { fields := causeFlds } s t ∧
      t.b = { s.b with setNow := t.b.setNow, ldg := t.b.ldg, crn := t.b.crn }) ∧
  (∀ (s t : State), exec .cairnSnapshot s = .next t →
      Within {
          fields := causeFlds ++ signFlds ++ [F.CRN_CAUSE_FAULT, F.CRN_CAUSE_SRC, F.CRN_STATUS_HELD, F.CRN_STATUS_SEQ,
            F.CRN_TS_FRAC_FRAC, F.CRN_TS_W_W 0, F.CRN_TS_W_W 1, F.CRN_TS_W_W 2, F.MET_FRZ_CNT_N, F.MET_FRZ_TS_W_W 0,
            F.MET_FRZ_TS_W_W 1, F.MET_FRZ_TS_W_W 2, F.RDG_BULK_STATUS_BUSY, F.RDG_BULK_STATUS_DONE,
            F.RDG_BULK_STATUS_ERR, F.RDG_CNT_HOPDROP_N, F.RDG_CNT_UNREACH_N, F.RDG_RACC_STATUS_BUSY,
            F.RDG_RACC_STATUS_DONE, F.RDG_RACC_STATUS_ERR] ++ flags [F.CRN_STICKY_PARTIAL, F.CRN_STICKY_SNAP,
            F.RDG_STICKY_HOP_DROP, F.RDG_STICKY_RACC_ERR, F.RDG_STICKY_UNREACH_DROP] ++ allSnaps ++ queueFlds (s.get
            F.QUE_MET_QUEUE),
          words := queueWord s (s.get F.QUE_MET_QUEUE) } s t ∧ t.b = { s.b with
          setNow := t.b.setNow, ldg := t.b.ldg, sec := t.b.sec, queSeq := t.b.queSeq, queNow := t.b.queNow, crn := t.b.crn,
          lanes := t.b.lanes, rdg := t.b.rdg, met := t.b.met }) ∧
  (∀ (s t : State), exec .crnRelease s = .next t →
      Within { fields := [F.CRN_STATUS_HELD] } s t ∧ t.b = { s.b with crn := t.b.crn }) ∧
  (∀ (s t : State), exec .cairnPulseEnd s = .next t →
      Within {} s t ∧ t.b = { s.b with crn := t.b.crn }) ∧
  (∀ (g : Group) (s t : State), exec (.commitAdopt g) s = .next t →
      Within {
          fields := tripFlds ++ guarFlds ++ [F.GDP_BRK_ON_TIME_US, F.GDP_STATUS_BRK_REQ, F.PMP_STATUS_CAUSE,
            F.PMP_STATUS_OC_UNPROT, F.PMP_STATUS_STATE, F.PWX_STATUS_BRK_HW, F.QUE_STATUS_NONEMPTY, F.QUE_WM_STAT_Q,
            F.TWV_STATUS_ACTIVE, F.TWV_STATUS_SUSPENDED] ++ flags [F.PMP_STICKY_OC, F.PMP_STICKY_OV,
            F.PMP_STICKY_SHOOT_BLOCK, F.PMP_STICKY_STALL, F.PMP_STICKY_START_FAIL, F.PMP_STICKY_WDOG,
            F.PWX_STICKY_BRK_CLAMP, F.QUE_STICKY_WM, F.TWV_STICKY_STREAM_LOST] ++ (List.range 4).map F.CMP_EVT_WIN ++
            (List.range 4).map F.CMP_STATUS_HIGH ++ (List.range 4).map F.CMP_STATUS_LOW ++ flags ((List.range 4).map
            F.CMP_STICKY_EVENT) ++ flags ((List.range 4).map F.CMP_STICKY_MODE_CONFLICT) ++ (List.range 49).map
            F.PAIR_STAT_CNT ++ (List.range 49).map F.PAIR_STAT_PEND ++ (List.range 3).map F.PWM_CLAMP_PAIR ++ flags
            ((List.range 3).map F.PWM_STICKY_DUTY_CLAMP) ++ (List.range 32).map F.QUE_Q_CONS_W ++ (List.range 32).map
            F.QUE_Q_FILL_W ++ (List.range 32).map F.QUE_Q_PROD_W ++ (List.range 64).map F.WIN_STAT_HEFF ++ (List.range
            64).map F.WIN_STAT_HIGH ++ (List.range 64).map F.WIN_STAT_LOW,
          force := [0x01, 0x71, 0x80, 0x12, 0x03, 0x40, 0x41, 0x42, 0x43, 0x44, 0x45, 0x50, 0x51, 0x52, 0x53, 0x60] } s t ∧
      t.b = { s.b with
          setNow := t.b.setNow, waiting := t.b.waiting, sys := t.b.sys, plumb := t.b.plumb, ldg := t.b.ldg, queSeq :=
          t.b.queSeq, queNow := t.b.queNow, crn := t.b.crn, lanes := t.b.lanes, rdg := t.b.rdg, pairs := t.b.pairs,
          pwm := t.b.pwm, cmps := t.b.cmps, mpt := t.b.mpt, fad := t.b.fad, pmp := t.b.pmp, phs := t.b.phs, twv :=
          t.b.twv }) ∧
  (∀ (n : Fin 6) (t1 : BitVec 16) (s t : State), exec (.tempSample n t1) s = .next t →
      Within {
          fields := guarFlds ++ pinFlds ++ [F.BUT_FAULT_CAUSE, F.BUT_STATUS_CODE, F.BUT_STATUS_DRV_EN, F.BUT_STATUS_READY,
            F.BUT_STATUS_STATE, F.FAD_CNT_URG_DROP_N, F.FAD_STATUS_URG_BUSY, F.FPM_CNT_SKIP_N, F.FPM_EVT0_CH,
            F.FPM_EVT1_CH, F.FPM_STATUS_ACTIVE, F.FPM_STATUS_HOLD_ACTIVE, F.FPM_STATUS_IN_EVENT,
            F.FPM_STATUS_TAKEOVER_REQ, F.FPM_STATUS_TRIP_ASSERTED, F.MON_STATUS_TJ_OUT, F.MON_STATUS_T_WARN,
            F.MON_TEMP_T n, F.MPT_STATUS_SCANNING, F.MPT_STATUS_SCAN_IN, F.MTC_STATUS_TDIE, F.RDG_BULK_STATUS_BUSY,
            F.RDG_BULK_STATUS_DONE, F.RDG_BULK_STATUS_ERR, F.RDG_CNT_HOPDROP_N, F.RDG_CNT_UNREACH_N,
            F.RDG_RACC_STATUS_BUSY, F.RDG_RACC_STATUS_DONE, F.RDG_RACC_STATUS_ERR, F.TRP_FIRST_PAIR, F.TRP_FIRST_SRC,
            F.TRP_FIRST_VALID, F.TRP_LATCH0_PAIR, F.TRP_LATCH1_PAIR, F.TRP_STATUS_ANY, F.TRP_STATUS_CYCLE,
            F.TRP_STATUS_LATCHED] ++ flags [F.BUT_STICKY_FAILED, F.FAD_STICKY_URG_DROP, F.FPM_STICKY_EVENT,
            F.FPM_STICKY_LATE_SKIP, F.FPM_STICKY_NO_PRED, F.FPM_STICKY_TAKEOVER_NA, F.MON_STICKY_T_HIGH,
            F.MON_STICKY_T_LOW, F.MPT_STICKY_SCAN_ABORT, F.RDG_STICKY_HOP_DROP, F.RDG_STICKY_RACC_ERR,
            F.RDG_STICKY_UNREACH_DROP, F.TRP_STICKY_IT_REQ, F.TRP_STICKY_TRIP] ++ (List.range 64).map
            F.FPM_CH_HOLD_COUNT ++ (List.range 64).map F.FPM_CH_RES_RES ++ (List.range 256).map F.KE0_ISLOT_VAL ++
            (List.range 4).map F.TRP_ACT_SRC ++ (List.range 4).map F.TRP_SEEN_SRC } s t ∧ t.b = { s.b with
          setNow := t.b.setNow, sys := t.b.sys, ldg := t.b.ldg, crn := t.b.crn, mon := t.b.mon, lanes := t.b.lanes, rdg :=
          t.b.rdg, pairs := t.b.pairs, pwm := t.b.pwm, cmps := t.b.cmps, mpt := t.b.mpt, fad := t.b.fad, fpm :=
          t.b.fpm, but := t.b.but, phs := t.b.phs, met := t.b.met }) ∧
  (∀ (n : Fin 6) (mv : BitVec 16) (ns : BitVec 16) (s t : State), exec (.railWindowChange n mv ns) s = .next t →
      Within {
          fields := tripFlds ++ guarFlds ++ [F.BUT_FAULT_CAUSE, F.BUT_STATUS_CODE, F.BUT_STATUS_DRV_EN, F.BUT_STATUS_READY,
            F.BUT_STATUS_STATE, F.MON_RAIL_MV n, F.MON_STATUS_RAIL_OUT] ++ flags [F.BUT_STICKY_FAILED,
            F.MON_STICKY_RAIL_OUT] } s t ∧ t.b = { s.b with
          setNow := t.b.setNow, sys := t.b.sys, ldg := t.b.ldg, crn := t.b.crn, lanes := t.b.lanes, rdg := t.b.rdg, pairs :=
          t.b.pairs, pwm := t.b.pwm, cmps := t.b.cmps, mpt := t.b.mpt, fad := t.b.fad, but := t.b.but, phs := t.b.phs }) ∧
  (∀ (s t : State), exec .monCommit s = .next t →
      Within { fields := ledgerFlds ++ flags [F.MON_STICKY_CFG_REJECT], pend := [0x03] } s t ∧ t.b = { s.b with
          setNow := t.b.setNow, commitNow := t.b.commitNow, commitWas := t.b.commitWas, waiting := t.b.waiting, ldg := t.b.ldg }) ∧
  (∀ (s t : State), exec .bypass s = .next t →
      Within {} s t ∧ t.b = { s.b with sys := t.b.sys, jtag := t.b.jtag }) ∧
  (∀ (s t : State), exec .idcode s = .next t →
      Within {} s t ∧ t.b = { s.b with sys := t.b.sys, jtag := t.b.jtag }) ∧
  (∀ (pins : List Bool) (guarded : List (Option Bool)) (free : List (Option Bool)) (s t : State), exec (.samplePreload
      pins guarded free) s = .next t →
      Within {} s t ∧ t.b = { s.b with sys := t.b.sys, jtag := t.b.jtag })
end

