-- ==== Sys2Proof/Laws/State.lean ====
section
/-! SUPPORT. What each named update of the state leaves: one lemma for each field and for each way of reading one. -/

namespace Sys2Proof.Machine

/-! ### State.put -/

@[simp] theorem State.act_put (s : State) (f : Fld) (v : Nat) : (s.put f v).act = s.act := rfl
@[simp] theorem State.pnd_put (s : State) (f : Fld) (v : Nat) : (s.put f v).pnd = s.pnd := rfl
@[simp] theorem State.mem_put (s : State) (f : Fld) (v : Nat) : (s.put f v).mem = s.mem := rfl
@[simp] theorem State.b_put (s : State) (f : Fld) (v : Nat) : (s.put f v).b = s.b := rfl
@[simp] theorem State.pending_put (s : State) (f : Fld) (v : Nat) : (s.put f v).pending = s.pending := rfl
@[simp] theorem State.cur_put (s : State) (f : Fld) (v : Nat) (h : Fld) : (s.put f v).cur h = s.cur h := rfl
@[simp] theorem State.pend_put (s : State) (f : Fld) (v : Nat) (h : Fld) : (s.put f v).pend h = s.pend h := rfl
@[simp] theorem State.word_put (s : State) (f : Fld) (v : Nat) (x : Nat) : (s.put f v).word x = s.word x := rfl

/-! ### State.putCur -/

@[simp] theorem State.regs_putCur (s : State) (f : Fld) (v : Nat) : (s.putCur f v).regs = s.regs := rfl
@[simp] theorem State.pnd_putCur (s : State) (f : Fld) (v : Nat) : (s.putCur f v).pnd = s.pnd := rfl
@[simp] theorem State.mem_putCur (s : State) (f : Fld) (v : Nat) : (s.putCur f v).mem = s.mem := rfl
@[simp] theorem State.b_putCur (s : State) (f : Fld) (v : Nat) : (s.putCur f v).b = s.b := rfl
@[simp] theorem State.pending_putCur (s : State) (f : Fld) (v : Nat) : (s.putCur f v).pending = s.pending := rfl
@[simp] theorem State.get_putCur (s : State) (f : Fld) (v : Nat) (h : Fld) : (s.putCur f v).get h = s.get h := rfl
@[simp] theorem State.pend_putCur (s : State) (f : Fld) (v : Nat) (h : Fld) : (s.putCur f v).pend h = s.pend h := rfl
@[simp] theorem State.word_putCur (s : State) (f : Fld) (v : Nat) (x : Nat) : (s.putCur f v).word x = s.word x := rfl

/-! ### State.putPend -/

@[simp] theorem State.regs_putPend (s : State) (f : Fld) (v : Nat) : (s.putPend f v).regs = s.regs := rfl
@[simp] theorem State.act_putPend (s : State) (f : Fld) (v : Nat) : (s.putPend f v).act = s.act := rfl
@[simp] theorem State.mem_putPend (s : State) (f : Fld) (v : Nat) : (s.putPend f v).mem = s.mem := rfl
@[simp] theorem State.b_putPend (s : State) (f : Fld) (v : Nat) : (s.putPend f v).b = s.b := rfl
@[simp] theorem State.pending_putPend (s : State) (f : Fld) (v : Nat) : (s.putPend f v).pending = s.pending := rfl
@[simp] theorem State.get_putPend (s : State) (f : Fld) (v : Nat) (h : Fld) : (s.putPend f v).get h = s.get h := rfl
@[simp] theorem State.cur_putPend (s : State) (f : Fld) (v : Nat) (h : Fld) : (s.putPend f v).cur h = s.cur h := rfl
@[simp] theorem State.word_putPend (s : State) (f : Fld) (v : Nat) (x : Nat) : (s.putPend f v).word x = s.word x := rfl

/-! ### State.putWord -/

@[simp] theorem State.regs_putWord (s : State) (a v : Nat) : (s.putWord a v).regs = s.regs := rfl
@[simp] theorem State.act_putWord (s : State) (a v : Nat) : (s.putWord a v).act = s.act := rfl
@[simp] theorem State.pnd_putWord (s : State) (a v : Nat) : (s.putWord a v).pnd = s.pnd := rfl
@[simp] theorem State.b_putWord (s : State) (a v : Nat) : (s.putWord a v).b = s.b := rfl
@[simp] theorem State.pending_putWord (s : State) (a v : Nat) : (s.putWord a v).pending = s.pending := rfl
@[simp] theorem State.get_putWord (s : State) (a v : Nat) (h : Fld) : (s.putWord a v).get h = s.get h := rfl
@[simp] theorem State.cur_putWord (s : State) (a v : Nat) (h : Fld) : (s.putWord a v).cur h = s.cur h := rfl
@[simp] theorem State.pend_putWord (s : State) (a v : Nat) (h : Fld) : (s.putWord a v).pend h = s.pend h := rfl

/-! ### State.updB -/

@[simp] theorem State.regs_updB (s : State) (g : Blocks → Blocks) : (s.updB g).regs = s.regs := rfl
@[simp] theorem State.act_updB (s : State) (g : Blocks → Blocks) : (s.updB g).act = s.act := rfl
@[simp] theorem State.pnd_updB (s : State) (g : Blocks → Blocks) : (s.updB g).pnd = s.pnd := rfl
@[simp] theorem State.mem_updB (s : State) (g : Blocks → Blocks) : (s.updB g).mem = s.mem := rfl
@[simp] theorem State.b_updB (s : State) (g : Blocks → Blocks) : (s.updB g).b = g s.b := rfl
@[simp] theorem State.pending_updB (s : State) (g : Blocks → Blocks) : (s.updB g).pending = s.pending := rfl
@[simp] theorem State.get_updB (s : State) (g : Blocks → Blocks) (h : Fld) : (s.updB g).get h = s.get h := rfl
@[simp] theorem State.cur_updB (s : State) (g : Blocks → Blocks) (h : Fld) : (s.updB g).cur h = s.cur h := rfl
@[simp] theorem State.pend_updB (s : State) (g : Blocks → Blocks) (h : Fld) : (s.updB g).pend h = s.pend h := rfl
@[simp] theorem State.word_updB (s : State) (g : Blocks → Blocks) (x : Nat) : (s.updB g).word x = s.word x := rfl

/-! ### State.stick -/

@[simp] theorem State.act_stick (s : State) (f : Fld) : (s.stick f).act = s.act := rfl
@[simp] theorem State.pnd_stick (s : State) (f : Fld) : (s.stick f).pnd = s.pnd := rfl
@[simp] theorem State.mem_stick (s : State) (f : Fld) : (s.stick f).mem = s.mem := rfl
@[simp] theorem State.b_stick (s : State) (f : Fld) :
    (s.stick f).b = { s.b with setNow := f.key :: f.irq.key :: s.b.setNow } := rfl
@[simp] theorem State.pending_stick (s : State) (f : Fld) : (s.stick f).pending = s.pending := rfl
@[simp] theorem State.cur_stick (s : State) (f : Fld) (h : Fld) : (s.stick f).cur h = s.cur h := rfl
@[simp] theorem State.pend_stick (s : State) (f : Fld) (h : Fld) : (s.stick f).pend h = s.pend h := rfl
@[simp] theorem State.word_stick (s : State) (f : Fld) (x : Nat) : (s.stick f).word x = s.word x := rfl

/-! ### State.bump -/

@[simp] theorem State.act_bump (s : State) (f : Fld) (n : Nat) : (s.bump f n).act = s.act := rfl
@[simp] theorem State.pnd_bump (s : State) (f : Fld) (n : Nat) : (s.bump f n).pnd = s.pnd := rfl
@[simp] theorem State.mem_bump (s : State) (f : Fld) (n : Nat) : (s.bump f n).mem = s.mem := rfl
@[simp] theorem State.b_bump (s : State) (f : Fld) (n : Nat) : (s.bump f n).b = s.b := rfl
@[simp] theorem State.pending_bump (s : State) (f : Fld) (n : Nat) : (s.bump f n).pending = s.pending := rfl
@[simp] theorem State.cur_bump (s : State) (f : Fld) (n : Nat) (h : Fld) : (s.bump f n).cur h = s.cur h := rfl
@[simp] theorem State.pend_bump (s : State) (f : Fld) (n : Nat) (h : Fld) : (s.bump f n).pend h = s.pend h := rfl
@[simp] theorem State.word_bump (s : State) (f : Fld) (n : Nat) (x : Nat) : (s.bump f n).word x = s.word x := rfl

end Sys2Proof.Machine
end

