-- ==== Sys2Proof/Laws/Store.lean ====
section
/-! SUPPORT. The laws of the sparse store: a read after a write, and that every operation keeps the
canonical form. -/

namespace Sys2Proof.Machine

@[simp] theorem Store.get_nil (d : Nat → Nat) (k : Nat) : Store.get d [] k = d k := rfl

theorem Store.wf_cons {d : Nat → Nat} {a v : Nat} {m : Store} :
    Store.wf d ((a, v) :: m) = true ↔ v ≠ d a ∧ (∀ p ∈ m, a < p.1) ∧ Store.wf d m = true := by
  simp [Store.wf, and_assoc]

/-- The canonical form, said of the list as a whole. -/
theorem Store.wf_iff {d : Nat → Nat} {m : Store} :
    Store.wf d m = true ↔ m.Pairwise (fun p q => p.1 < q.1) ∧ ∀ p ∈ m, p.2 ≠ d p.1 := by
  induction m with
  | nil => simp [Store.wf]
  | cons p m ih =>
    obtain ⟨a, v⟩ := p
    rw [Store.wf_cons, ih, List.pairwise_cons]
    constructor
    · rintro ⟨h1, h2, h3, h4⟩
      exact ⟨⟨h2, h3⟩, by intro q hq; rcases List.mem_cons.1 hq with rfl | h; exact h1; exact h4 q h⟩
    · rintro ⟨⟨h2, h3⟩, h4⟩
      exact ⟨h4 (a, v) (List.mem_cons_self ..), h2, h3, fun q hq => h4 q (List.mem_cons_of_mem _ hq)⟩

theorem Store.wf_filter {d : Nat → Nat} {m : Store} (h : m.wf d = true) (p : Nat × Nat → Bool) :
    Store.wf d (m.filter p) = true := by
  rw [Store.wf_iff] at *
  exact ⟨h.1.filter p, fun q hq => h.2 q (List.mem_filter.1 hq).1⟩

theorem Store.get_of_all_ne {d : Nat → Nat} {m : Store} {k : Nat} (h : ∀ p ∈ m, p.1 ≠ k) :
    m.get d k = d k := by
  induction m with
  | nil => rfl
  | cons p m ih =>
    obtain ⟨a, v⟩ := p
    have h1 : a ≠ k := h (a, v) (List.mem_cons_self ..)
    simp only [Store.get, if_neg h1]
    exact ih (fun q hq => h q (List.mem_cons_of_mem _ hq))

theorem Store.get_filter (d : Nat → Nat) (m : Store) (f : Nat → Bool) (j : Nat) :
    Store.get d (m.filter (fun p => f p.1)) j = if f j then m.get d j else d j := by
  induction m with
  | nil => simp
  | cons p m ih =>
    obtain ⟨a, v⟩ := p
    by_cases ha : a = j
    · subst ha
      by_cases hf : f a = true
      · simp [hf, Store.get]
      · simp only [List.filter_cons, hf]
        simp only [Bool.not_eq_true] at hf
        simpa [hf] using ih
    · by_cases hf : f a = true
      · simp [hf, Store.get, ha, ih]
      · simp [hf, Store.get, ha, ih]

theorem Store.get_insert (d : Nat → Nat) (m : Store) (k v j : Nat) :
    (m.insert k v).get d j = if k = j then v else m.get d j := by
  induction m with
  | nil => simp [Store.insert, Store.get]
  | cons p m ih =>
    obtain ⟨a, w⟩ := p
    simp only [Store.insert]
    split
    · simp only [Store.get]
    · split
      · rename_i hk ha; subst ha
        simp only [Store.get]; split <;> simp_all
      · simp only [Store.get, ih]; split
        · rename_i hk ha hj; subst hj; simp [Ne.symm ha]
        · rfl

theorem Store.get_erase (d : Nat → Nat) (m : Store) (k j : Nat) :
    (m.erase k).get d j = if k = j then d k else m.get d j := by
  unfold Store.erase
  rw [Store.get_filter d m (fun a => a != k) j]
  by_cases h : k = j
  · subst h; simp
  · simp [h, Ne.symm h]

/-- A read after a write. -/
@[simp] theorem Store.get_set (d : Nat → Nat) (m : Store) (k v j : Nat) :
    (m.set d k v).get d j = if k = j then v else m.get d j := by
  unfold Store.set
  split
  · rename_i hv; rw [Store.get_erase]; split
    · exact hv.symm
    · rfl
  · exact Store.get_insert d m k v j

theorem Store.mem_insert {m : Store} {k v : Nat} {p : Nat × Nat} (h : p ∈ m.insert k v) :
    p = (k, v) ∨ p ∈ m := by
  induction m with
  | nil => simpa [Store.insert] using h
  | cons q m ih =>
    obtain ⟨a, w⟩ := q
    simp only [Store.insert] at h
    split at h
    · simpa using h
    · split at h
      · rcases List.mem_cons.1 h with h | h
        · exact .inl h
        · exact .inr (List.mem_cons_of_mem _ h)
      · rcases List.mem_cons.1 h with h | h
        · exact .inr (h ▸ List.mem_cons_self ..)
        · exact (ih h).imp id (List.mem_cons_of_mem _)

theorem Store.wf_erase {d : Nat → Nat} {m : Store} (k : Nat) (h : m.wf d = true) :
    Store.wf d (m.erase k) = true := Store.wf_filter h _

theorem Store.wf_insert {d : Nat → Nat} {m : Store} {k v : Nat} (hv : v ≠ d k) (h : m.wf d = true) :
    Store.wf d (m.insert k v) = true := by
  induction m with
  | nil => exact Store.wf_cons.2 ⟨hv, by simp, rfl⟩
  | cons q m ih =>
    obtain ⟨a, w⟩ := q
    obtain ⟨h1, h2, h3⟩ := Store.wf_cons.1 h
    simp only [Store.insert]
    split
    · rename_i hk
      refine Store.wf_cons.2 ⟨hv, ?_, h⟩
      intro p hp
      rcases List.mem_cons.1 hp with rfl | hp
      · exact hk
      · exact Nat.lt_trans hk (h2 p hp)
    · split
      · rename_i ha; subst ha
        exact Store.wf_cons.2 ⟨hv, h2, h3⟩
      · rename_i hk ha
        refine Store.wf_cons.2 ⟨h1, ?_, ih h3⟩
        intro p hp
        rcases Store.mem_insert hp with rfl | hp
        · exact Nat.lt_of_le_of_ne (Nat.le_of_not_lt hk) ha
        · exact h2 p hp

/-- A write keeps the canonical form. -/
theorem Store.wf_set {d : Nat → Nat} {m : Store} (k v : Nat) (h : m.wf d = true) :
    Store.wf d (m.set d k v) = true := by
  unfold Store.set
  split
  · exact Store.wf_erase k h
  · rename_i hv; exact Store.wf_insert hv h

/-- Clearing a range keeps the canonical form. -/
theorem Store.wf_clear {d : Nat → Nat} {m : Store} (lo hi : Nat) (h : m.wf d = true) :
    Store.wf d (m.clear lo hi) = true := Store.wf_filter h _

/-- Copying a range from another store keeps the canonical form. -/
theorem Store.wf_copyFrom {d : Nat → Nat} {m src : Store} (lo hi : Nat) (h : m.wf d = true)
    (hs : src.wf d = true) : Store.wf d (m.copyFrom src lo hi) = true := by
  rw [Store.wf_iff] at *
  unfold Store.copyFrom Store.slice
  refine ⟨?_, ?_⟩
  · rw [List.pairwise_append, List.pairwise_append]
    refine ⟨⟨h.1.filter _, hs.1.filter _, ?_⟩, h.1.filter _, ?_⟩
    · intro p hp q hq
      have h1 := (List.mem_filter.1 hp).2
      have h2 := (List.mem_filter.1 hq).2
      simp only [decide_eq_true_eq, Bool.and_eq_true] at h1 h2
      omega
    · intro p hp q hq
      have h2 := (List.mem_filter.1 hq).2
      simp only [decide_eq_true_eq, Bool.and_eq_true] at h2
      rcases List.mem_append.1 hp with hp | hp
      · have h1 := (List.mem_filter.1 hp).2
        simp only [decide_eq_true_eq] at h1
        omega
      · have h1 := (List.mem_filter.1 hp).2
        simp only [decide_eq_true_eq, Bool.and_eq_true] at h1
        omega
  · intro p hp
    rcases List.mem_append.1 hp with hp | hp
    · rcases List.mem_append.1 hp with hp | hp
      · exact h.2 p (List.mem_filter.1 hp).1
      · exact hs.2 p (List.mem_filter.1 hp).1
    · exact h.2 p (List.mem_filter.1 hp).1

/-- A cleared range reads as its defaults, every other key as before. -/
@[simp] theorem Store.get_clear (d : Nat → Nat) (m : Store) (lo hi j : Nat) :
    (m.clear lo hi).get d j = if lo ≤ j ∧ j < hi then d j else m.get d j := by
  unfold Store.clear
  rw [Store.get_filter d m (fun a => a < lo || hi ≤ a) j]
  by_cases h : lo ≤ j ∧ j < hi
  · rw [if_pos h, if_neg]; simp; omega
  · rw [if_neg h, if_pos]; simp; omega

theorem Store.get_append (d : Nat → Nat) (m n : Store) (j : Nat) :
    Store.get d (m ++ n) j = if m.any (fun p => p.1 == j) then m.get d j else Store.get d n j := by
  induction m with
  | nil => simp
  | cons p m ih =>
    obtain ⟨a, v⟩ := p
    by_cases ha : a = j
    · simp [Store.get, ha]
    · have hb : (a == j) = false := by simpa using ha
      simp only [List.cons_append, Store.get, if_neg ha, ih, List.any_cons, hb, Bool.false_or]

/-- A copied range reads as its source, every other key as before. -/
@[simp] theorem Store.get_copyFrom (d : Nat → Nat) (m src : Store) (lo hi j : Nat) :
    (m.copyFrom src lo hi).get d j = if lo ≤ j ∧ j < hi then src.get d j else m.get d j := by
  have none_of : ∀ (l : Store) (f : Nat → Bool), f j = false →
      (l.filter (fun p => f p.1)).any (fun p => p.1 == j) = false := by
    intro l f hf
    rw [List.any_eq_false]
    intro p hp hj
    have h2 := (List.mem_filter.1 hp).2
    rw [beq_iff_eq] at hj
    rw [hj, hf] at h2
    exact absurd h2 (by simp)
  unfold Store.copyFrom Store.slice
  rw [Store.get_append, List.any_append]
  by_cases h1 : lo ≤ j
  · have e1 := none_of m (fun a => decide (a < lo)) (by simp; omega)
    by_cases h2 : j < hi
    · have e3 := Store.get_filter d m (fun a => decide (lo ≤ a) && decide (hi ≤ a)) j
      rw [show (if lo ≤ j ∧ j < hi then src.get d j else m.get d j) = src.get d j from if_pos ⟨h1, h2⟩, e3, e1, Bool.false_or, Store.get_append, e1,
        Store.get_filter d src (fun a => decide (lo ≤ a) && decide (a < hi)) j]
      have e4 : (decide (lo ≤ j) && decide (hi ≤ j)) = false := by simp; omega
      have e5 : (decide (lo ≤ j) && decide (j < hi)) = true := by simp; omega
      rw [e4, e5]
      by_cases e2 : (List.filter (fun p => decide (lo ≤ p.1) && decide (p.1 < hi)) src).any
          (fun p => p.1 == j) = true
      · simp [e2]
      · simp only [Bool.not_eq_true] at e2
        have : Store.get d src j = d j := by
          have := Store.get_filter d src (fun a => decide (lo ≤ a) && decide (a < hi)) j
          rw [e5] at this
          simp only [if_true] at this
          rw [← this]
          apply Store.get_of_all_ne
          intro p hp hj
          rw [List.any_eq_false] at e2
          exact e2 p hp (by simpa using hj)
        simp [e2, this]
    · have e2 := none_of src (fun a => decide (lo ≤ a) && decide (a < hi)) (by simp; omega)
      have e3 := Store.get_filter d m (fun a => decide (lo ≤ a) && decide (hi ≤ a)) j
      rw [show (if lo ≤ j ∧ j < hi then src.get d j else m.get d j) = m.get d j from if_neg (by omega), e1, e2, e3]
      have e4 : (decide (lo ≤ j) && decide (hi ≤ j)) = true := by simp; omega
      simp [e4]
  · have e2 := none_of src (fun a => decide (lo ≤ a) && decide (a < hi)) (by simp; omega)
    have e3 := Store.get_filter d m (fun a => decide (lo ≤ a) && decide (hi ≤ a)) j
    have e4 := Store.get_filter d m (fun a => decide (a < lo)) j
    have e5 : decide (j < lo) = true := by simp; omega
    rw [e5, if_pos rfl] at e4
    have e6 : (decide (lo ≤ j) && decide (hi ≤ j)) = false := by simp; omega
    rw [show (if lo ≤ j ∧ j < hi then src.get d j else m.get d j) = m.get d j from if_neg (by omega), e2, e3, Bool.or_false, Store.get_append, e4, e6]
    by_cases e1 : (List.filter (fun p => decide (p.1 < lo)) m).any (fun p => p.1 == j) = true
    · simp [e1]
    · simp only [Bool.not_eq_true] at e1
      have : Store.get d m j = d j := by
        rw [← e4]
        apply Store.get_of_all_ne
        intro p hp hj
        rw [List.any_eq_false] at e1
        exact e1 p hp (by simpa using hj)
      simp [e1, this]

end Sys2Proof.Machine
end

