-- ==== Sys2Proof/Laws/Regs.lean ====
section
/-! SUPPORT. What each effect does to a register field, a value in force, a word of memory, the blocks and the queue; and
how the combinators of meanings compose. -/

namespace Sys2Proof.Machine

/-! ### Updates -/

/-- A register field reads as a value of its width. -/
theorem State.get_lt (s : State) (f : Fld) : s.get f < 2 ^ f.w := Nat.mod_lt _ (Nat.two_pow_pos _)
theorem State.cur_lt (s : State) (f : Fld) : s.cur f < 2 ^ f.w := Nat.mod_lt _ (Nat.two_pow_pos _)
theorem State.pend_lt (s : State) (f : Fld) : s.pend f < 2 ^ f.w := Nat.mod_lt _ (Nat.two_pow_pos _)
theorem State.word_lt (s : State) (a : Nat) : s.word a < 2 ^ 32 := Nat.mod_lt _ (Nat.two_pow_pos _)
theorem State.get_mod (s : State) (f : Fld) : s.get f % 2 ^ f.w = s.get f := Nat.mod_mod _ _

theorem State.get_put (s : State) (f g : Fld) (v : Nat) :
    (s.put f v).get g = if f.key = g.key then v % 2 ^ f.w % 2 ^ g.w else s.get g := by
  unfold State.get State.put
  simp only [Store.get_set]
  split <;> rfl
@[simp] theorem State.get_put_self (s : State) (f : Fld) (v : Nat) : (s.put f v).get f = v % 2 ^ f.w := by
  rw [State.get_put, if_pos rfl, Nat.mod_mod]
theorem State.cur_putCur (s : State) (f g : Fld) (v : Nat) :
    (s.putCur f v).cur g = if f.key = g.key then v % 2 ^ f.w % 2 ^ g.w else s.cur g := by
  unfold State.cur State.putCur
  simp only [Store.get_set]
  split <;> rfl
@[simp] theorem State.cur_putCur_self (s : State) (f : Fld) (v : Nat) : (s.putCur f v).cur f = v % 2 ^ f.w := by
  rw [State.cur_putCur, if_pos rfl, Nat.mod_mod]
theorem State.word_putWord (s : State) (a v x : Nat) :
    (s.putWord a v).word x = if a = x then v % 2 ^ 32 else s.word x := by
  unfold State.word State.putWord
  simp only [Store.get_set]
  split
  · exact Nat.mod_mod _ _
  · rfl

theorem State.get_stick (s : State) (f g : Fld) :
    (s.stick f).get g = if f.irq.key = g.key then 1 % 2 ^ f.irq.w % 2 ^ g.w
      else if f.key = g.key then 1 % 2 ^ f.w % 2 ^ g.w else s.get g := by
  simp only [State.stick, State.get_updB, State.get_put]

theorem State.get_bump (s : State) (f g : Fld) (n : Nat) :
    (s.bump f n).get g = if f.key = g.key then min (s.get f + n) (2 ^ f.w - 1) % 2 ^ f.w % 2 ^ g.w else s.get g :=
  State.get_put ..

/-! ### Entries of lists of like things -/

@[simp] theorem getD_setAt {α : Type} (l : List α) (n k : Nat) (v d : α) :
    (setAt l n v d).getD k d = if n = k then v else l.getD k d := by
  unfold setAt
  by_cases h : n = k
  · subst h
    simp [List.getD_eq_getElem?_getD]
    rw [List.getElem?_set_self (by simp; omega)]
    rfl
  · rw [if_neg h]
    simp only [List.getD_eq_getElem?_getD, List.getElem?_set_ne h, List.getElem?_append]
    split
    · rfl
    · next hk =>
      rw [List.getElem?_replicate, List.getElem?_eq_none (by omega)]
      split <;> rfl

@[simp] theorem getD_modAt {α : Type} (l : List α) (n k : Nat) (g : α → α) (d : α) :
    (modAt l n g d).getD k d = if n = k then g (l.getD k d) else l.getD k d := by
  unfold modAt
  rw [getD_setAt]
  split
  · next h => rw [h]
  · rfl

/-! ### Lists of effects and combinators -/

@[simp] theorem applyAll_nil (s : State) : applyAll s [] = s := rfl
@[simp] theorem applyAll_cons (s : State) (e : Eff) (es : List Eff) :
    applyAll s (e :: es) = applyAll (e.apply s) es := rfl
@[simp] theorem applyAll_append (s : State) (as bs : List Eff) :
    applyAll s (as ++ bs) = applyAll (applyAll s as) bs := by
  induction as generalizing s with
  | nil => rfl
  | cons e es ih => exact ih (e.apply s)

theorem after_andThen (p q : Prog) (s : State) : after (p.andThen q) s = after q (after p s) := by
  simp [after, Prog.andThen]
theorem after_thenDo (es : List Eff) (p : Prog) (s : State) : after (thenDo es p) s = after p (applyAll s es) := by
  simp [after, thenDo]
@[simp] theorem after_inOrder_nil (s : State) : after (inOrder []) s = s := rfl
@[simp] theorem after_inOrder_cons (p : Prog) (ps : List Prog) (s : State) :
    after (inOrder (p :: ps)) s = after (inOrder ps) (after p s) := after_andThen ..
theorem after_onlyIf (c : State → Bool) (p : Prog) (s : State) :
    after (onlyIf c p) s = if c s then after p s else s := by
  unfold after onlyIf
  split <;> rfl
theorem after_onMain {s : State} (h : Live s) (p : Prog) : after (onMain p) s = after p s := by
  simp [onMain, after_onlyIf, h]
theorem after_onPower {s : State} (h : PowerLive s) (p : Prog) : after (onPower p) s = after p s := by
  simp [onPower, after_onlyIf, h]
theorem applyAll_effIf (c : Bool) (es : List Eff) (s : State) :
    applyAll s (effIf c es) = if c then applyAll s es else s := by
  unfold effIf
  split <;> rfl

/-- Every meaning completes. -/
theorem ends_run {p : Prog} {s : State} {P : State → Prop} (h : P (after p s)) : Ends (run p s) P := ⟨_, rfl, h⟩

end Sys2Proof.Machine
end

