-- ==== Sys2Proof/Laws/Off.lean ====
section
/-! SUPPORT. What an effect or a meaning leaves alone: register fields by key, and the blocks' own state by a part of it. -/

namespace Sys2Proof.Machine

/-- An effect leaves the register field at a key as it is. -/
def Eff.Off (e : Eff) (k : Nat) : Prop := ∀ s f, f.key = k → (e.apply s).get f = s.get f

/-- A meaning leaves the register field at a key as it is. -/
def Prog.Off (p : Prog) (k : Nat) : Prop := ∀ s f, f.key = k → (after p s).get f = s.get f

theorem Eff.off_set {f : Fld} {v k : Nat} (h : f.key ≠ k) : (Eff.set f v).Off k := by
  intro s g hg
  rw [Eff.apply, State.get_put, if_neg (by omega)]

theorem Eff.off_inc {f : Fld} {v k : Nat} (h : f.key ≠ k) : (Eff.inc f v).Off k := by
  intro s g hg
  rw [Eff.apply, State.get_bump, if_neg (by omega)]

theorem Eff.off_sticky {f : Fld} {k : Nat} (h : f.key ≠ k) (h2 : f.irq.key ≠ k) : (Eff.sticky f).Off k := by
  intro s g hg
  rw [Eff.apply, State.get_stick, if_neg (by omega), if_neg (by omega)]

theorem Eff.off_upd {g : Blocks → Blocks} {k : Nat} : (Eff.upd g).Off k := fun _ _ _ => rfl
theorem Eff.off_force {f : Fld} {v k : Nat} : (Eff.force f v).Off k := fun _ _ _ => rfl
theorem Eff.off_pend {f : Fld} {v k : Nat} : (Eff.pend f v).Off k := fun _ _ _ => rfl
theorem Eff.off_take {lo hi k : Nat} : (Eff.take lo hi).Off k := fun _ _ _ => rfl
theorem Eff.off_adopt {lo hi k : Nat} : (Eff.adopt lo hi).Off k := fun _ _ _ => rfl
theorem Eff.off_commit {lo hi k : Nat} : (Eff.commit lo hi).Off k := fun _ _ _ => rfl
theorem Eff.off_mem {a v k : Nat} : (Eff.mem a v).Off k := fun _ _ _ => rfl
theorem Eff.off_memClear {lo hi k : Nat} : (Eff.memClear lo hi).Off k := fun _ _ _ => rfl

theorem State.get_putWords (s : State) (a : Nat) (vs : List Nat) (f : Fld) : (s.putWords a vs).get f = s.get f := by
  induction vs generalizing s a with
  | nil => rfl
  | cons v vs ih => exact ih (s.putWord a v) (a + 1)

theorem Eff.off_mems {a k : Nat} {vs : List Nat} : (Eff.mems a vs).Off k := fun s f _ => State.get_putWords s a vs f

theorem Eff.off_clear {lo hi k : Nat} (h : k < lo ∨ hi ≤ k) : (Eff.clear lo hi).Off k := by
  intro s f hf
  show Store.get _ (s.regs.clear lo hi) f.key % 2 ^ f.w = _
  rw [Store.get_clear, if_neg (by omega)]
  rfl

theorem State.get_loseRecords {s : State} {n : Nat} {f : Fld} (h : pageOfKey f.key ≠ 0xA1) :
    (s.loseRecords n).get f = s.get f := by
  unfold State.loseRecords
  have h1 : F.LDG_CNT_LOST_N.key ≠ f.key := fun e => h (e ▸ by decide)
  have h2 : F.LDG_DEFER_LOST.key ≠ f.key := fun e => h (e ▸ by decide)
  have h3 : F.LDG_STICKY_LOST.key ≠ f.key := fun e => h (e ▸ by decide)
  have h4 : F.LDG_STICKY_LOST.irq.key ≠ f.key := fun e => h (e ▸ by decide)
  split
  · rfl
  · rw [State.get_stick, if_neg h4, if_neg h3, State.get_bump, if_neg h2, State.get_bump, if_neg h1]

/-- A Ledger event changes no register outside the Ledger's page. -/
theorem State.get_postRecord {s : State} {c i : Nat} {ps : List Nat} {f : Fld} (h : pageOfKey f.key ≠ 0xA1) :
    (s.postRecord c i ps).get f = s.get f := by
  unfold State.postRecord State.enterBuffer
  split
  · rfl
  · split
    · split <;> rfl
    · split
      · rfl
      · exact State.get_loseRecords h

theorem Eff.off_led {c i k : Nat} {ps : List Nat} (h : pageOfKey k ≠ 0xA1) : (Eff.led c i ps).Off k :=
  fun _ _ hf => State.get_postRecord (hf ▸ h)

/-- Effects that leave a key alone, one and all, leave it alone. -/
theorem off_list {es : List Eff} {k : Nat} (h : ∀ e ∈ es, e.Off k) (s : State) (f : Fld) (hf : f.key = k) :
    (applyAll s es).get f = s.get f := by
  induction es generalizing s with
  | nil => rfl
  | cons e es ih =>
    rw [applyAll_cons, ih (fun e' h' => h e' (.tail _ h')), h e (.head _) s f hf]

theorem Prog.off_of {p : Prog} {k : Nat} (h : ∀ s, ∀ e ∈ p s, e.Off k) : p.Off k :=
  fun s f hf => off_list (h s) s f hf

theorem Prog.off_andThen {p q : Prog} {k : Nat} (hp : p.Off k) (hq : q.Off k) : (p.andThen q).Off k := by
  intro s f hf
  rw [after_andThen, hq _ f hf, hp s f hf]

theorem Prog.off_inOrder {ps : List Prog} {k : Nat} (h : ∀ p ∈ ps, Prog.Off p k) : Prog.Off (inOrder ps) k := by
  induction ps with
  | nil => exact fun _ _ _ => rfl
  | cons p ps ih => exact off_andThen (h p (.head _)) (ih fun q hq => h q (.tail _ hq))

theorem Prog.off_thenDo {es : List Eff} {p : Prog} {k : Nat} (h : ∀ e ∈ es, e.Off k) (hp : p.Off k) :
    Prog.Off (thenDo es p) k := by
  intro s f hf
  rw [after_thenDo, hp _ f hf, off_list h s f hf]

theorem Prog.off_onlyIf {c : State → Bool} {p : Prog} {k : Nat} (hp : p.Off k) : (onlyIf c p).Off k := by
  intro s f hf
  rw [after_onlyIf]
  split
  · exact hp s f hf
  · rfl

/-! ### Shared meanings -/

/-- A Cairn trigger writes on the pages of Cairn and the Ledger only. -/
theorem crnTrigger_off {src ev k : Nat} {b : Bool} (h : pageOfKey k ≠ 5) (h2 : pageOfKey k ≠ 0xA1) :
    (crnTrigger src ev b).Off k := by
  apply Prog.off_of
  intro s e he
  unfold crnTrigger crnMiss effIf at he
  have h3 : F.CRN_CNT_MISSED_N.key ≠ k := fun e => h (e ▸ by decide)
  have h4 : F.CRN_STICKY_MISSED.key ≠ k := fun e => h (e ▸ by decide)
  have h5 : F.CRN_STICKY_MISSED.irq.key ≠ k := fun e => h (e ▸ by decide)
  split at he
  · cases he
  split at he
  · split at he <;> simp at he
    · rcases he with rfl | rfl | rfl
      · exact Eff.off_inc h3
      · exact Eff.off_sticky h4 h5
      · exact Eff.off_led h2
    · rcases he with rfl | rfl
      · exact Eff.off_inc h3
      · exact Eff.off_sticky h4 h5
  · simp at he; subst he; exact Eff.off_upd

theorem crnEvent_off {n k : Nat} (h : pageOfKey k ≠ 5) (h2 : pageOfKey k ≠ 0xA1) : (crnEvent n).Off k := by
  intro s f hf
  unfold after crnEvent
  split
  · exact crnTrigger_off h h2 s f hf
  · rfl

/-- The cause bits of SYS_GUAR lie on the SYS page. -/
theorem guarCauseUpdate_off {k : Nat} (h : pageOfKey k ≠ 0) : guarCauseUpdate.Off k := by
  apply Prog.off_of
  intro s e he
  have key : ∀ f : Fld, pageOfKey f.key = 0 → f.key ≠ k := fun f hf e => h (e ▸ hf)
  unfold guarCauseUpdate effIf at he
  split at he <;> simp at he
  · rcases he with rfl | rfl | rfl | rfl | rfl | rfl | rfl | rfl <;>
      first | exact Eff.off_upd | exact Eff.off_set (key _ (by decide))
  · rcases he with rfl | rfl | rfl | rfl | rfl | rfl | rfl <;> exact Eff.off_set (key _ (by decide))

theorem guarOkUpdate_off {n k : Nat} (h : pageOfKey k ≠ 0) (h1 : pageOfKey k ≠ 5) (h2 : pageOfKey k ≠ 0xA1) :
    (guarOkUpdate n).Off k := by
  intro s f hf
  have key : ∀ g : Fld, pageOfKey g.key = 0 → g.key ≠ k := fun g hg e => h (e ▸ hg)
  unfold after guarOkUpdate
  dsimp only
  split
  · rfl
  · apply off_list _ s f hf
    intro e he
    rw [List.mem_append] at he
    rcases he with he | he
    · simp only [List.mem_cons, List.not_mem_nil, or_false] at he
      rcases he with rfl | rfl | rfl | rfl | rfl | rfl | rfl
      · exact Eff.off_set (key _ (by decide))
      · exact Eff.off_set (key _ (by decide))
      · exact Eff.off_set (key _ (by decide))
      · exact Eff.off_set (key _ (by decide))
      · exact Eff.off_sticky (key _ (by decide)) (key _ (by decide))
      · exact Eff.off_upd
      · exact Eff.off_led h2
    · split at he
      · unfold crnEvent crnTrigger crnMiss effIf at he
        have ck : ∀ g : Fld, pageOfKey g.key = 5 → g.key ≠ k := fun g hg e => h1 (e ▸ hg)
        split at he
        · split at he
          · cases he
          split at he
          · simp at he
            rcases he with rfl | rfl
            · exact Eff.off_inc (ck _ (by decide))
            · exact Eff.off_sticky (ck _ (by decide)) (ck _ (by decide))
          · simp at he; subst he; exact Eff.off_upd
        · cases he
      · cases he

/-- SYS_GUAR, its record and its Cairn event: pages SYS, CRN and LDG. -/
theorem guarUpdate_off {k : Nat} (h : pageOfKey k ≠ 0) (h1 : pageOfKey k ≠ 5) (h2 : pageOfKey k ≠ 0xA1) :
    guarUpdate.Off k := fun s f hf => by
  show (after (guarCauseUpdate.andThen (guarOkUpdate (guarCauses s + guarShown s))) s).get f = _
  exact Prog.off_andThen (guarCauseUpdate_off h) (guarOkUpdate_off h h1 h2) s f hf

/-- Cancelling the armed slots: pages RDG and LDG. -/
theorem schedCancel_off {k : Nat} (h : pageOfKey k ≠ 0x10) (h2 : pageOfKey k ≠ 0xA1) : schedCancel.Off k := by
  apply Prog.off_of
  intro s e he
  have key : ∀ g : Fld, pageOfKey g.key = 0x10 → g.key ≠ k := fun g hg e => h (e ▸ hg)
  unfold schedCancel at he
  dsimp only at he
  split at he
  · cases he
  · simp at he
    rcases he with rfl | rfl | ⟨n, _, rfl⟩
    · exact Eff.off_set (key _ (by decide))
    · exact Eff.off_sticky (key _ (by decide)) (key _ (by decide))
    · exact Eff.off_led h2

/-! ### The blocks -/

/-- An effect, a meaning, leaves a part of what the blocks hold as it is. -/
def Eff.Keeps {α : Type} (e : Eff) (π : Blocks → α) : Prop := ∀ s, π (e.apply s).b = π s.b
def Prog.Keeps {α : Type} (p : Prog) (π : Blocks → α) : Prop := ∀ s, π (after p s).b = π s.b

theorem State.b_loseRecords (s : State) (n : Nat) : ∃ x, (s.loseRecords n).b = { s.b with setNow := x } := by
  unfold State.loseRecords
  split <;> exact ⟨_, rfl⟩

/-- A Ledger event changes the Ledger's buffers and the flags set in the cycle. -/
theorem State.b_postRecord (s : State) (c i : Nat) (ps : List Nat) :
    ∃ l x, (s.postRecord c i ps).b = { s.b with ldg := l, setNow := x } := by
  unfold State.postRecord State.enterBuffer
  split
  · exact ⟨_, _, rfl⟩
  · split
    · split
      · exact ⟨_, _, rfl⟩
      · exact ⟨_, _, rfl⟩
    · split
      · exact ⟨_, _, rfl⟩
      · obtain ⟨x, hx⟩ := State.b_loseRecords _ 1
        exact ⟨_, x, hx⟩

/-- What a Ledger event keeps of the blocks. -/
theorem Eff.keeps_led {α : Type} {π : Blocks → α} (hl : ∀ b l, π { b with ldg := l } = π b)
    (hs : ∀ b x, π { b with setNow := x } = π b) (c i : Nat) (ps : List Nat) : (Eff.led c i ps).Keeps π := by
  intro s
  obtain ⟨l, x, e⟩ := State.b_postRecord s c i ps
  rw [Eff.apply, e]
  exact (hs { s.b with ldg := l } x).trans (hl s.b l)

/-- What a sticky flag keeps of the blocks. -/
theorem Eff.keeps_sticky {α : Type} {π : Blocks → α} (hs : ∀ b x, π { b with setNow := x } = π b) (f : Fld) :
    (Eff.sticky f).Keeps π := fun s => hs s.b _

theorem keeps_list {α : Type} {π : Blocks → α} {es : List Eff} (h : ∀ e ∈ es, e.Keeps π) (s : State) :
    π (applyAll s es).b = π s.b := by
  induction es generalizing s with
  | nil => rfl
  | cons e es ih => rw [applyAll_cons, ih (fun e' h' => h e' (.tail _ h')), h e (.head _) s]

theorem Prog.keeps_andThen {α : Type} {π : Blocks → α} {p q : Prog} (hp : p.Keeps π) (hq : q.Keeps π) :
    (p.andThen q).Keeps π := by
  intro s
  rw [after_andThen, hq, hp]

theorem crnEvent_keeps {α : Type} {π : Blocks → α} (h : ∀ b x, π { b with crn := x } = π b)
    (hs : ∀ b x, π { b with setNow := x } = π b) (n : Nat) (s t : State) :
    π (applyAll t (crnEvent n s)).b = π t.b := by
  unfold crnEvent crnTrigger crnMiss effIf
  split
  · split
    · rfl
    split
    · apply keeps_list
      intro e he
      simp at he
      rcases he with rfl | rfl
      · exact fun _ => rfl
      · exact Eff.keeps_sticky hs _
    · exact h _ _
  · rfl

theorem guarCauseUpdate_keeps {α : Type} {π : Blocks → α} (h : ∀ b x, π { b with phs := x } = π b) :
    guarCauseUpdate.Keeps π := by
  intro s
  unfold after guarCauseUpdate effIf
  split
  · exact h _ _
  · rfl

theorem guarOkUpdate_keeps {α : Type} {π : Blocks → α} (h : ∀ b x, π { b with crn := x } = π b)
    (hl : ∀ b l, π { b with ldg := l } = π b) (hs : ∀ b x, π { b with setNow := x } = π b)
    (hy : ∀ b x, π { b with sys := x } = π b) (n : Nat) : (guarOkUpdate n).Keeps π := by
  intro s
  unfold after guarOkUpdate
  dsimp only
  split
  · rfl
  · rw [applyAll_append]
    have rest : ∀ es : List Eff, (∀ e ∈ es, (∃ f v, e = .set f v) ∨ (∃ f, e = .sticky f) ∨ (∃ c i ps, e = .led c i ps) ∨
          ∃ g, e = .upd g ∧ ∀ b, π (g b) = π b) → ∀ t : State, π (applyAll t es).b = π t.b := by
      intro es hes t
      apply keeps_list
      intro e he
      rcases hes e he with ⟨f, v, rfl⟩ | ⟨f, rfl⟩ | ⟨c, i, ps, rfl⟩ | ⟨g, rfl, hg⟩
      · exact fun _ => rfl
      · exact Eff.keeps_sticky hs f
      · exact Eff.keeps_led hl hs c i ps
      · exact fun u => hg u.b
    have both : ∀ b x l, π { b with sys := x, ldg := l } = π b := fun b x l => (hl { b with sys := x } l).trans (hy b x)
    have cairn : ∀ (c : Bool) (t : State), π (applyAll t (if c then crnEvent 6 s else [])).b = π t.b := by
      intro c t
      cases c
      · rfl
      · exact crnEvent_keeps h hs 6 s t
    rw [cairn]
    exact rest _ (by simp [both]) s

/-- SYS_GUAR's update touches, beside registers, PHS, Cairn, the Ledger, the flags set in the cycle and what SYS holds of the
cycle's record alone. -/
theorem guarUpdate_keeps {α : Type} {π : Blocks → α} (hp : ∀ b x, π { b with phs := x } = π b)
    (h : ∀ b x, π { b with crn := x } = π b) (hl : ∀ b l, π { b with ldg := l } = π b)
    (hs : ∀ b x, π { b with setNow := x } = π b) (hy : ∀ b x, π { b with sys := x } = π b) : guarUpdate.Keeps π := by
  intro s
  show π (after (guarCauseUpdate.andThen (guarOkUpdate (guarCauses s + guarShown s))) s).b = _
  exact Prog.keeps_andThen (guarCauseUpdate_keeps hp) (guarOkUpdate_keeps h hl hs hy _) s

end Sys2Proof.Machine
end

