-- ==== Sys2Proof/Laws/Frames.lean ====
section
/-! SUPPORT. Frames: how `Within` composes, and the reach of each effect and of each combinator of meanings. -/

namespace Sys2Proof.Machine

theorem Within.refl (r : Reach) (s : State) : Within r s s :=
  ⟨fun _ _ _ => rfl, fun _ _ => rfl, fun _ _ => rfl, fun _ _ => rfl, rfl⟩

theorem Within.trans {r : Reach} {s t u : State} (h : Within r s t) (g : Within r t u) : Within r s u :=
  ⟨fun f a b => (g.regs f a b).trans (h.regs f a b), fun f a => (g.force f a).trans (h.force f a),
   fun f a => (g.pend f a).trans (h.pend f a), fun a b => (g.words a b).trans (h.words a b), g.queue.trans h.queue⟩

/-- A wider reach frames no less. -/
theorem Within.mono {r q : Reach} {s t : State} (h : Within r s t) (hf : ∀ f ∈ r.fields, f ∈ q.fields)
    (hp : ∀ p ∈ r.pages, p ∈ q.pages) (hc : ∀ p ∈ r.force, p ∈ q.force) (hn : ∀ p ∈ r.pend, p ∈ q.pend)
    (hw : ∀ a, r.words a → q.words a) : Within q s t :=
  ⟨fun f a b => h.regs f (fun c => a (hp _ c)) fun c =>
     b (by obtain ⟨x, hx, e⟩ := List.mem_map.1 c; exact List.mem_map.2 ⟨x, hf x hx, e⟩),
   fun f a => h.force f fun c => a (hc _ c), fun f a => h.pend f fun c => a (hn _ c),
   fun a b => h.words a fun c => b (hw _ c), h.queue⟩

/-- A state that differs in the blocks alone. -/
theorem Within.of_b {r : Reach} {s t : State} (h : t = { s with b := t.b }) : Within r s t := by
  rw [h]; exact ⟨fun _ _ _ => rfl, fun _ _ => rfl, fun _ _ => rfl, fun _ _ => rfl, rfl⟩

/-- A write of a field within the reach. -/
theorem Within.put {r : Reach} {s : State} {f : Fld} {v : Nat} (h : f ∈ r.fields ∨ pageOfKey f.key ∈ r.pages) :
    Within r s (s.put f v) := by
  refine ⟨fun g a b => ?_, fun _ _ => rfl, fun _ _ => rfl, fun _ _ => rfl, rfl⟩
  rw [State.get_put, if_neg]
  rintro e
  rcases h with h | h
  · exact b (e ▸ List.mem_map.2 ⟨f, h, rfl⟩)
  · exact a (e ▸ h)

theorem Within.stick {r : Reach} {s : State} {f : Fld} (h : f ∈ r.fields ∨ pageOfKey f.key ∈ r.pages)
    (g : f.irq ∈ r.fields ∨ pageOfKey f.irq.key ∈ r.pages) : Within r s (s.stick f) :=
  ((Within.put h).trans (Within.put g)).trans (Within.of_b rfl)

theorem Within.bump {r : Reach} {s : State} {f : Fld} {n : Nat} (h : f ∈ r.fields ∨ pageOfKey f.key ∈ r.pages) :
    Within r s (s.bump f n) := Within.put h

theorem Within.putCur {r : Reach} {s : State} {f : Fld} {v : Nat} (h : pageOfKey f.key ∈ r.force) :
    Within r s (s.putCur f v) := by
  refine ⟨fun _ _ _ => rfl, fun g a => ?_, fun _ _ => rfl, fun _ _ => rfl, rfl⟩
  rw [State.cur_putCur, if_neg]
  exact fun e => a (e ▸ h)

theorem Within.putWord {r : Reach} {s : State} {a v : Nat} (h : r.words a) : Within r s (s.putWord a v) := by
  refine ⟨fun _ _ _ => rfl, fun _ _ => rfl, fun _ _ => rfl, fun x hx => ?_, rfl⟩
  rw [State.word_putWord, if_neg]
  exact fun e => hx (e ▸ h)

theorem Within.updB {r : Reach} {s : State} {g : Blocks → Blocks} : Within r s (s.updB g) := Within.of_b rfl

/-- Records lost show in the Ledger's counts and flag (R419). -/
theorem Within.loseRecords {r : Reach} {s : State} {n : Nat} (h : ∀ f ∈ ledgerFlds, f ∈ r.fields) :
    Within r s (s.loseRecords n) := by
  unfold State.loseRecords
  split
  · exact Within.refl r s
  · exact ((Within.bump (.inl (h _ (by decide)))).trans (Within.bump (.inl (h _ (by decide))))).trans
      (Within.stick (.inl (h _ (by decide))) (.inl (h _ (by decide))))

/-- A Ledger event changes the blocks and, where a record is lost, the Ledger's counts and flag (R419). -/
theorem Within.postRecord {r : Reach} {s : State} {c i : Nat} {ps : List Nat} (h : ∀ f ∈ ledgerFlds, f ∈ r.fields) :
    Within r s (s.postRecord c i ps) := by
  unfold State.postRecord State.enterBuffer
  split
  · exact Within.refl r s
  · split
    · split <;> exact Within.updB
    · split
      · exact Within.updB
      · exact Within.updB.trans (Within.loseRecords h)

/-! ### Effects and meanings -/

/-- An effect keeps within a reach from every state. -/
def Eff.In (e : Eff) (r : Reach) : Prop := ∀ s, Within r s (e.apply s)

/-- A meaning keeps within a reach from a state. -/
def Prog.In (p : Prog) (r : Reach) (s : State) : Prop := Within r s (after p s)

theorem Eff.in_set {r : Reach} {f : Fld} {v : Nat} (h : f ∈ r.fields ∨ pageOfKey f.key ∈ r.pages) :
    (Eff.set f v).In r := fun _ => Within.put h
theorem Eff.in_inc {r : Reach} {f : Fld} {n : Nat} (h : f ∈ r.fields ∨ pageOfKey f.key ∈ r.pages) :
    (Eff.inc f n).In r := fun _ => Within.bump h
theorem Eff.in_sticky {r : Reach} {f : Fld} (h : f ∈ r.fields ∨ pageOfKey f.key ∈ r.pages)
    (g : f.irq ∈ r.fields ∨ pageOfKey f.irq.key ∈ r.pages) : (Eff.sticky f).In r := fun _ => Within.stick h g
theorem Eff.in_force {r : Reach} {f : Fld} {v : Nat} (h : pageOfKey f.key ∈ r.force) :
    (Eff.force f v).In r := fun _ => Within.putCur h
theorem Eff.in_upd {r : Reach} {g : Blocks → Blocks} : (Eff.upd g).In r := fun _ => Within.updB
theorem Eff.in_led {r : Reach} {c i : Nat} {ps : List Nat} (h : ∀ f ∈ ledgerFlds, f ∈ r.fields) :
    (Eff.led c i ps).In r := fun _ => Within.postRecord h
theorem Eff.in_mem {r : Reach} {a v : Nat} (h : r.words a) : (Eff.mem a v).In r := fun _ => Within.putWord h
theorem Eff.in_mems {r : Reach} {a : Nat} {vs : List Nat} (h : ∀ i < vs.length, r.words (a + i)) :
    (Eff.mems a vs).In r := by
  intro s
  show Within r s (s.putWords a vs)
  induction vs generalizing s a with
  | nil => exact Within.refl r s
  | cons v vs ih =>
    have h0 : Within r s (s.putWord a v) := Within.putWord (h 0 (by simp))
    refine h0.trans (ih (a := a + 1) (fun i hi => ?_) _)
    have := h (i + 1) (by simpa using hi)
    rwa [show a + 1 + i = a + (i + 1) by omega]

/-- The shadows of a key range become its pending set (R452). -/
theorem Eff.in_take {r : Reach} {lo hi : Nat} (h : ∀ k, lo ≤ k → k < hi → pageOfKey k ∈ r.pend) :
    (Eff.take lo hi).In r := by
  refine fun s => ⟨fun _ _ _ => rfl, fun _ _ => rfl, fun f a => ?_, fun _ _ => rfl, rfl⟩
  show Store.get _ (s.pnd.copyFrom s.regs lo hi) f.key % 2 ^ f.w = _
  rw [Store.get_copyFrom, if_neg fun b => a (h _ b.1 b.2)]
  rfl

/-- The pending set of a key range comes into force (R452). -/
theorem Eff.in_adopt {r : Reach} {lo hi : Nat} (h : ∀ k, lo ≤ k → k < hi → pageOfKey k ∈ r.force) :
    (Eff.adopt lo hi).In r := by
  refine fun s => ⟨fun _ _ _ => rfl, fun f a => ?_, fun _ _ => rfl, fun _ _ => rfl, rfl⟩
  show Store.get _ (s.act.copyFrom s.pnd lo hi) f.key % 2 ^ f.w = _
  rw [Store.get_copyFrom, if_neg fun b => a (h _ b.1 b.2)]
  rfl

theorem Eff.in_commit {r : Reach} {lo hi : Nat} (h : ∀ k, lo ≤ k → k < hi → pageOfKey k ∈ r.force)
    (g : ∀ k, lo ≤ k → k < hi → pageOfKey k ∈ r.pend) : (Eff.commit lo hi).In r := by
  refine fun s => ⟨fun _ _ _ => rfl, fun f a => ?_, fun f a => ?_, fun _ _ => rfl, rfl⟩
  · show Store.get _ (s.act.copyFrom s.regs lo hi) f.key % 2 ^ f.w = _
    rw [Store.get_copyFrom, if_neg fun b => a (h _ b.1 b.2)]
    rfl
  · show Store.get _ (s.pnd.copyFrom s.regs lo hi) f.key % 2 ^ f.w = _
    rw [Store.get_copyFrom, if_neg fun b => a (g _ b.1 b.2)]
    rfl

theorem within_list {r : Reach} {es : List Eff} (h : ∀ e ∈ es, e.In r) (s : State) : Within r s (applyAll s es) := by
  induction es generalizing s with
  | nil => exact Within.refl r s
  | cons e es ih =>
    rw [applyAll_cons]
    exact (h e (.head _) s).trans (ih (fun e' h' => h e' (.tail _ h')) _)

theorem in_effIf {r : Reach} {c : Bool} {es : List Eff} (h : ∀ e ∈ es, e.In r) : ∀ e ∈ effIf c es, e.In r := by
  unfold effIf
  split
  · exact h
  · simp

theorem Prog.in_of {p : Prog} {r : Reach} {s : State} (h : ∀ e ∈ p s, e.In r) : p.In r s := within_list h s

theorem Prog.in_andThen {p q : Prog} {r : Reach} {s : State} (hp : p.In r s) (hq : ∀ t, Within r s t → q.In r t) :
    (p.andThen q).In r s := by
  unfold Prog.In
  rw [after_andThen]
  exact hp.trans (hq _ hp)

theorem Prog.in_inOrder {ps : List Prog} {r : Reach} {s : State} (h : ∀ p ∈ ps, ∀ t, Within r s t → Prog.In p r t) :
    Prog.In (inOrder ps) r s := by
  induction ps generalizing s with
  | nil => exact Within.refl r s
  | cons p ps ih =>
    exact Prog.in_andThen (h p (.head _) s (Within.refl r s)) fun t ht =>
      ih fun q hq u hu => h q (.tail _ hq) u (ht.trans hu)

theorem Prog.in_thenDo {es : List Eff} {p : Prog} {r : Reach} {s : State} (h : ∀ e ∈ es, e.In r)
    (hp : ∀ t, Within r s t → p.In r t) : Prog.In (thenDo es p) r s := by
  unfold Prog.In
  rw [after_thenDo]
  have := within_list h s
  exact this.trans (hp _ this)

theorem Prog.in_onlyIf {c : State → Bool} {p : Prog} {r : Reach} {s : State} (hp : c s = true → p.In r s) :
    (onlyIf c p).In r s := by
  unfold Prog.In
  rw [after_onlyIf]
  split
  · next h => exact hp h
  · exact Within.refl r s

/-- The frame of a command is the frame of its meaning. -/
theorem within_run {p : Prog} {r : Reach} {s t : State} (h : p.In r s) (ht : run p s = .next t) : Within r s t := by
  cases ht
  exact h

end Sys2Proof.Machine
end

