-- ==== Sys2Proof/Laws/Ops.lean ====
section
/-! SUPPORT. What the named operations keep: every effect keeps the stores in canonical form, so every list of
effects does. -/

namespace Sys2Proof.Machine

theorem State.Sound.put {s : State} (h : s.Sound) (f : Fld) (v : Nat) : (s.put f v).Sound :=
  ⟨Store.wf_set _ _ h.regs, h.act, h.pnd, h.mem⟩

theorem State.Sound.putWord {s : State} (h : s.Sound) (a v : Nat) : (s.putWord a v).Sound :=
  ⟨h.regs, h.act, h.pnd, Store.wf_set _ _ h.mem⟩

theorem State.Sound.putWords {s : State} (h : s.Sound) (a : Nat) (vs : List Nat) :
    (s.putWords a vs).Sound := by
  induction vs generalizing s a with
  | nil => exact h
  | cons v vs ih => exact ih (h.putWord a v) (a + 1)

theorem State.Sound.updB {s : State} (h : s.Sound) (g : Blocks → Blocks) : (s.updB g).Sound :=
  ⟨h.regs, h.act, h.pnd, h.mem⟩

theorem State.Sound.stick {s : State} (h : s.Sound) (f : Fld) : (s.stick f).Sound := ((h.put f 1).put _ 1).updB _

theorem State.Sound.bump {s : State} (h : s.Sound) (f : Fld) (n : Nat) : (s.bump f n).Sound := h.put _ _

theorem State.Sound.loseRecords {s : State} (h : s.Sound) (n : Nat) : (s.loseRecords n).Sound := by
  unfold State.loseRecords
  split
  · exact h
  · exact ((h.bump _ _).bump _ _).stick _

theorem State.Sound.enterBuffer {s : State} (h : s.Sound) (r : LedgerRec) : (s.enterBuffer r).Sound := by
  unfold State.enterBuffer
  split
  · exact h.updB _
  · exact (h.updB _).loseRecords _

theorem State.Sound.postRecord {s : State} (h : s.Sound) (c i : Nat) (ps : List Nat) :
    (s.postRecord c i ps).Sound := by
  unfold State.postRecord
  split
  · exact h
  · split
    · split
      · exact h.updB _
      · exact h.updB _
    · exact h.enterBuffer _

theorem State.Sound.qRefresh {s : State} (h : s.Sound) (q : Nat) : (s.qRefresh q).Sound := by
  unfold State.qRefresh
  dsimp only
  split
  · exact (((h.put _ _).put _ _).put _ _).stick _
  · exact ((h.put _ _).put _ _).put _ _

theorem State.Sound.qDrop {s : State} (h : s.Sound) (q : Nat) : (s.qDrop q).Sound := (h.bump _ _).stick _

theorem State.Sound.qMakeRoom {s : State} (h : s.Sound) (q len fuel : Nat) :
    (s.qMakeRoom q len fuel).Sound := by
  induction fuel generalizing s with
  | zero => exact h
  | succ n ih =>
    unfold State.qMakeRoom
    split
    · exact h
    · exact ih ((h.put _ _).qDrop q)

theorem State.Sound.qWrite {s : State} (h : s.Sound) (q w : Nat) (vs : List Nat) :
    (s.qWrite q w vs).Sound := by
  induction vs generalizing s w with
  | nil => exact h
  | cons v vs ih => exact ih (h.putWord _ v) (w + 1)

theorem State.Sound.qPut {s : State} (h : s.Sound) (q t : Nat) (b : Bool) (ws : List Nat) :
    (s.qPut q t b ws).Sound := by
  unfold State.qPut
  exact (((h.qWrite _ _ _).put _ _).updB _).qRefresh q

theorem State.Sound.qPlace {s : State} (h : s.Sound) (q t : Nat) (b : Bool) (ws : List Nat) :
    (s.qPlace q t b ws).Sound := by
  unfold State.qPlace
  dsimp only
  split
  · exact h
  split
  · exact (h.qDrop q).stick _
  split
  · exact h.qPut _ _ _ _
  split
  · exact h.qDrop q
  · exact (h.qMakeRoom _ _ _).qPut _ _ _ _

/-- Records placed one after the other keep the state sound. -/
theorem State.Sound.placeAll {s : State} (h : s.Sound) (rs : List (Nat × Nat × Bool × List Nat)) :
    (rs.foldl (fun s r => s.qPlace r.1 r.2.1 r.2.2.1 r.2.2.2) s).Sound := by
  induction rs generalizing s with
  | nil => exact h
  | cons r rs ih => exact ih (h.qPlace _ _ _ _)

theorem State.Sound.qAppend {s : State} (h : s.Sound) (q t : Nat) (b : Bool) (ws : List Nat) :
    (s.qAppend q t b ws).Sound := by
  unfold State.qAppend
  dsimp only
  split
  · exact h.qPlace _ _ _ _
  · exact (((h.put _ _).updB _).qPlace _ _ _ _).placeAll _

theorem State.Sound.qSigned {s : State} (h : s.Sound) (q t : Nat) (ws : List Nat) :
    (s.qSigned q t ws).Sound := by
  unfold State.qSigned
  split
  · exact h.updB _
  · exact (((h.qAppend _ _ _ _).bump _ _).stick _).postRecord _ _ _

/-- Every effect keeps the stores in canonical form. -/
theorem State.Sound.effect {s : State} (h : s.Sound) (e : Eff) : (e.apply s).Sound := by
  cases e with
  | set f v => exact h.put f v
  | force f v => exact ⟨h.regs, Store.wf_set _ _ h.act, h.pnd, h.mem⟩
  | pend f v => exact ⟨h.regs, h.act, Store.wf_set _ _ h.pnd, h.mem⟩
  | sticky f => exact h.stick f
  | inc f n => exact h.bump f n
  | take lo hi => exact ⟨h.regs, h.act, Store.wf_copyFrom _ _ h.pnd h.regs, h.mem⟩
  | adopt lo hi => exact ⟨h.regs, Store.wf_copyFrom _ _ h.act h.pnd, h.pnd, h.mem⟩
  | commit lo hi =>
    exact ⟨h.regs, Store.wf_copyFrom _ _ h.act h.regs, Store.wf_copyFrom _ _ h.pnd h.regs, h.mem⟩
  | clear lo hi =>
    exact ⟨Store.wf_clear _ _ h.regs, Store.wf_clear _ _ h.act, Store.wf_clear _ _ h.pnd, h.mem⟩
  | mem a v => exact h.putWord a v
  | mems a vs => exact h.putWords a vs
  | memClear lo hi => exact ⟨h.regs, h.act, h.pnd, Store.wf_clear _ _ h.mem⟩
  | upd g => exact h.updB g
  | led c i ps => exact h.postRecord c i ps
  | que q t ws => exact h.qAppend q t false ws
  | queSign q t ws => exact h.qSigned q t ws
  | queDone q t ws => exact h.qAppend q t true ws

/-- Every list of effects keeps the stores in canonical form. -/
theorem State.Sound.applyAll {s : State} (h : s.Sound) (es : List Eff) : (applyAll s es).Sound := by
  induction es generalizing s with
  | nil => exact h
  | cons e es ih => exact ih (h.effect e)

/-- Every meaning answers a next state, and one whose stores are in canonical form when they were before. -/
theorem run_sound {p : Prog} {s t : State} (h : s.Sound) (ht : run p s = .next t) : t.Sound := by
  cases ht
  exact h.applyAll _

end Sys2Proof.Machine
end

