-- ==== Sys2Proof/WellFormed.lean ====
section
/-! DEFINITION. Which commands are well formed: a command may carry an operand that its type bounds no further than
the spec's layout does; a frame's fields fit its header (R69), a program word is of the command's opcode (R141). The
meanings are total; this is what a sender keeps to. -/

namespace Sys2Proof

open Machine

/-- The fields of a frame fit its header (R69): CLASS, DEST, SRC, HOPS, TYPE, LEN, SEQ, and 64-bit data blocks. -/
def frameFits (f : Frame) : Bool :=
  f.cls < 8 && f.dest < 0x1000 && f.src < 0x1000 && f.hops < 0x100 && f.type < 0x100 && f.seq < 64
    && f.data.length < 64 && f.data.all (· < 2 ^ 64)

/-- The fields of a keep-alive fit its block (R67). -/
def keepaliveFits (k : Keepalive) : Bool := k.addr < 0x1000 && k.lane < 8 && k.gmHops < 0x100

/-- The angle that the grid estimator gives lies within a turn (log entry 23). -/
def gridFits (e : GridEst) : Bool := -(2 ^ 24) ≤ e.ang && e.ang < 2 ^ 24

/-- A phasor estimate names one of the four sets and gives its four channels (R322). -/
def phasorFits (e : PhasorEst) : Bool := e.set < 4 && e.chans.length == 4

/-- The sampled values of a metrology sub-interval: one for each of the eight channels (R297). -/
def samplesFit (nv : List Int) : Bool := nv.length == 8

/-- The oscillator counts of a measurement: one for each of the eight oscillators (R475). -/
def countsFit (l : List Word) : Bool := l.length == 8

/-- A program word is of an opcode (R141): bits [63:58]. -/
def opIs (op : Nat) (w : BitVec 64) : Bool := w.toNat / 2 ^ 58 == op

/-- A command is well formed. -/
def Instr.wf : Instr → Bool
  | .keepalive _ k => keepaliveFits k
  | .frameForward _ f => frameFits f
  | .intertrip _ f => frameFits f
  | .nodeLost _ f => frameFits f
  | .delayReq _ f _ _ => frameFits f
  | .delayResp _ f _ => frameFits f
  | .remoteReadRequest _ f => frameFits f
  | .remoteWriteRequest _ f => frameFits f
  | .readResponse _ f => frameFits f
  | .writeResponse _ f => frameFits f
  | .bulkReadRequest _ f => frameFits f
  | .bulkFragment _ f => frameFits f
  | .nop _ w => opIs 0x00 w
  | .flag _ w => opIs 0x02 w
  | .lds _ w => opIs 0x04 w
  | .sts _ w => opIs 0x05 w
  | .mac _ w => opIs 0x08 w
  | .mul _ w => opIs 0x09 w
  | .add _ w => opIs 0x0A w
  | .sub _ w => opIs 0x0B w
  | .neg _ w => opIs 0x0C w
  | .abs _ w => opIs 0x0D w
  | .sat _ w => opIs 0x10 w
  | .clamp _ w => opIs 0x11 w
  | .integ _ w => opIs 0x12 w
  | .norm _ w => opIs 0x14 w
  | .she _ w => opIs 0x15 w
  | .trig _ w => opIs 0x18 w
  | .clk3 _ w => opIs 0x19 w
  | .park _ w => opIs 0x1A w
  | .ipark _ w => opIs 0x1B w
  | .cmp _ w => opIs 0x1C w
  | .sel _ w => opIs 0x1D w
  | .rcp _ w => opIs 0x20 w
  | .rsq _ w => opIs 0x21 w
  | .expect _ w => opIs 0x24 w
  | .metrologySubinterval nv => samplesFit nv
  | .refPhasor _ f => frameFits f
  | .twArrivalRecord _ f => frameFits f
  | .class0Set f => frameFits f
  | .class1Set f => frameFits f
  | .hardwareSet f => frameFits f
  | .acknowledge f => frameFits f
  | .statusFrame f => frameFits f
  | .roDrift counts => countsFit counts
  | .roRecord counts => countsFit counts
  | .hostLinkReadRequest f => f.all frameFits
  | .hostLinkWriteRequest f => f.all frameFits
  | .hostLinkBulkRequest f => f.all frameFits
  | .mailReceive _ f => frameFits f
  | .powerOnReset | .brownout | .rstNReset | .softReset .. | .powerDieReset | .mainResetRelease | .configLoad
    | .configApplyDone | .permissionGrant | .startWaitTimeout | .sysPermit | .heldEnableRelease | .dieLinkFail
    | .dieLinkRestore | .refQualified .. | .refLoss .. | .lockRawLost | .lineLock .. | .hopMiss | .phaseMoveStep
    | .lockDeclare | .lockClear | .lockFiltFault | .hoTrained | .holdoverLong | .clkPhaseCommit | .clearStored
    | .switch | .relockFull | .ppsInEdge .. | .ppsMissing | .localSecondBoundary | .ppsOutEnd | .todCommit
    | .timCtrlWrite .. | .invalidate | .leapSet | .leapClr | .timNowRead | .rdgCtrlWrite .. | .keepaliveSend
    | .itCmd .. | .exchangeStart .. | .exchangeTimeout | .echoCheck | .echo .. | .recal | .recalDone .. | .rdgCntClr
    | .neighbourLost .. | .unwrap .. | .schedCommit .. | .schedDone | .raccCmd .. | .raccTimeout | .bulkCmd ..
    | .bulkFragmentSend | .bulkTimeout | .lnkCtrlWrite .. | .signalDetect .. | .bitLock .. | .blockLock ..
    | .polarity .. | .laneReversal .. | .delayMeasurement .. | .laneReady .. | .train .. | .stageTmo ..
    | .linkDown .. | .cdrRange .. | .bitslip .. | .retrain .. | .prbsErrInject .. | .prbsCntClr ..
    | .lnkLoopWrite .. | .lnkPrbsCtrlWrite .. | .prbsLock .. | .prbsResync .. | .prbsSat .. | .prbsBitsRead ..
    | .rawRxRead .. | .sampleInstant .. | .ke0Start | .outputConversion | .shadowWrite | .endRun ..
    | .ke0CtrlWrite .. | .ke1CtrlWrite .. | .check .. | .checkDone .. | .programWrite .. | .parameterWrite ..
    | .paramCopyDone .. | .ke0TimingCommit | .ke0ParamSwap | .ke1EntryCommit | .ke1ParamSwap | .rmaxClr
    | .engineFault .. | .fpmRelease .. | .satRel | .fpmCommit | .grdEntryTimer .. | .cessationResume | .grdClear
    | .relearn | .grdCtrlWrite .. | .grdNominalWrite .. | .grdProfileCommit | .grdSettingsCommit
    | .timedSourceReturn | .scanRoundStart | .scanNow | .scanStart | .scanPoint | .scanDone | .mptAbort | .islClear
    | .mptCtrlWrite .. | .mptScanCommit | .mptIslandCommit | .pcValid | .injectionPulse .. | .activeFrequencyTimer
    | .pwmCtrlWrite .. | .pairPeriodBoundary .. | .pairMidPeriod .. | .pairEdge .. | .deadTimeEnd ..
    | .cftMaxOn .. | .pwmCommit .. | .autoCommitWrite .. | .tripSourceAssert .. | .auxWindowEnd .. | .tripClear ..
    | .trpCommit | .brkCommit | .auxCommit | .brkSrcWrite .. | .pwxGenWrite .. | .comparatorCrossing ..
    | .comparatorSample .. | .cmpCommit .. | .cmpCntClr .. | .selfTest .. | .selfTestEnd .. | .stfailClear ..
    | .slewPhaseEnd .. | .softOffEnd .. | .gdpProfileCommit | .gdpBrakeCommit | .brakeMinTimer | .brkLong
    | .fadResult .. | .urgentRequest .. | .urgentStart .. | .fadCommit | .fadCntClr | .facVisitStart
    | .fcsCheckDone .. | .ovlDone | .ovlMismatch | .calDone .. | .facResume | .facUnpark | .clrFcs
    | .facEnableWrite .. | .facCommit | .metrologyCycleEnd .. | .mclkLoss | .mclkGap .. | .freeze | .preset ..
    | .mcxUnpark | .accRead .. | .frzRead .. | .metrologySave .. | .pulseStart .. | .pulseEnd ..
    | .metMeasurementCommit | .metPulseCommit | .metFreezeCommit | .mtcCommit | .textStale | .watchTick ..
    | .phasorFrame .. | .refLost | .phsCommit | .phsCtrlWrite .. | .twArrival .. | .twCaptureDone .. | .twvCommit
    | .twvCntClr | .pmpCtrlWrite .. | .pumpStart | .alignEnd | .rampStep | .pumpCommutation | .pumpPwmPeriod ..
    | .stall | .wdog | .vmPumpOv .. | .vmPumpUv | .bootUv .. | .bootHoldTimeout .. | .faultAutoClear | .pmpClear
    | .pmpCommit | .pumpBrakeEnd | .attemptReset | .xcmpFrame .. | .xcmpTimeout | .safetyInputChange ..
    | .discTimeout .. | .tpsSample .. | .switchOverload .. | .vsafeOut .. | .readbackCheck .. | .darkTest
    | .darkTestEnd .. | .resetSafeEdge .. | .resetStuck | .parapetInitDone .. | .parCommit | .butCtrlWrite ..
    | .butReady | .arbGrantAccept .. | .butTakeover | .arbGrantRemove | .butRequest | .requestExpire | .revertHold
    | .mirrorRetry | .mirrorLost | .butCommit | .arbHealthEdge .. | .arbHealthTimeout .. | .arbGrantIssue
    | .vddPwrPresent .. | .vddPwrLoss .. | .vbatLow .. | .storeThreshold .. | .harvestProbe .. | .harvestSample ..
    | .coldStart .. | .ledgerRecordWrite .. | .deferSummary .. | .counterCheckpoint .. | .xtalFail | .xtalRestore
    | .opsecTick | .bedrockStart .. | .ledgerScanDone | .erase | .eraseDone | .opsecRead .. | .bedConfigWrite ..
    | .sevqLookup .. | .read .. | .read4 .. | .write .. | .write4 .. | .status | .unknownCommand .. | .rdTmo ..
    | .hostWritePerform | .quePop .. | .queConsWrite .. | .queCommit | .mailTx .. | .signatureDone | .challenge
    | .fuseIkey .. | .fuseEnforce .. | .fuseMetLock .. | .fuseDone | .metLock | .lockKeyLock .. | .lockKeyUnlock ..
    | .keyBad .. | .verifyA | .verifyB | .verifyDone | .imageWindowWrite .. | .crnTrigger | .cairnPinEdge
    | .cairnSnapshot | .crnRelease | .cairnPulseEnd | .commitAdopt .. | .tempSample .. | .railWindowChange ..
    | .monCommit | .bypass | .idcode | .samplePreload .. | .extest | .highz | .registerWrite .. | .fullSearchFail
    | .facPark .. | .tripPinRelease .. | .vmPumpReturn | .vsafeReturn .. | .vbatPresentChange .. => true

end Sys2Proof
end

