-- ==== Sys2Proof/Tests/Slice0.lean ====
section
/-! SUPPORT. Tests: a witness for every statement that has hypotheses (a state and operands that meet them together, for
each of its clauses), the smoke test of the well-formedness checks, and results that the spec's worked examples give. -/

namespace Sys2Proof.Tests

open Sys2Proof Sys2Proof.Machine

/-! ### Small states -/

/-- A state with some register fields written. -/
def wRegOn (s : State) (l : List (Fld × Nat)) : State := l.foldl (fun s p => s.put p.1 p.2) s

/-- The reset state with some register fields written. -/
def wReg (l : List (Fld × Nat)) : State := wRegOn State.reset l

/-- A state with some values in force. -/
def wCur (l : List (Fld × Nat)) (s : State) : State := l.foldl (fun s p => s.putCur p.1 p.2) s

/-- A state whose blocks are changed. -/
def wB (g : Blocks → Blocks) (s : State) : State := s.updB g

/-- A program word of fields OP, DST, N, SUB, A and B. -/
def kwW (op dst n sub a b : Nat) : BitVec 64 :=
  BitVec.ofNat 64 (op * 2 ^ 58 + dst * 2 ^ 46 + n * 2 ^ 33 + sub * 2 ^ 32 + a * 2 ^ 16 + b)

/-- KE0 in RUN with stages 1 and 2 declared. -/
def ke0Run1 : State :=
  wB (fun b => { b with ke0 := { b.ke0 with running := true, core := (b.ke0.core.declare 1 6 0).declare 2 6 0 } })
    (wReg [(F.KE0_STATUS_STATE, 2)])

/-- KE1 in RUN with stages 1 and 2 declared. -/
def ke1Run1 : State :=
  wB (fun b => { b with ke1 := { b.ke1 with cls := 2, core := (b.ke1.core.declare 1 6 0).declare 2 6 0 } })
    (wReg [(F.KE1_STATUS_STATE, 2)])

/-- A state whose program store begins with a word. -/
def progAt (eng : Nat) (w : BitVec 64) (s : State) : State :=
  s.putWords (progBase eng) [w.toNat % 2 ^ 32, w.toNat / 2 ^ 32]

/-- A state in CONFIG whose copy B holds a valid image of two writes of GDP's page. -/
def imgState : State :=
  wB (fun b => { b with cfg := { b.cfg with chosen := some 1 } })
    ((wReg [(F.SYS_STATUS_STAGE, 1), (F.CLK_STATUS_LOCK, 1)]).putWords 0x144000
      [0x48120CF0, 8*2^16+1, 7, 17, 0, 0, 0, 0, 0x10005048, 1, 0x1FF, 0x10005048, 1, 3, 0xF0000000, 0, 1308224909])

/-- Active injection with an active-frequency limit of 1/1024 Hz; the estimated frequency stands at 0 Hz. -/
def wAct : State :=
  wB (fun b => { b with mpt := { b.mpt with actfT := some 200000000000 } })
    (wCur [(F.MPT_ISL_CTRL_ACT_MODE, 2), (F.MPT_ISL_CTRL_ACT_EN, 1), (F.MPT_ISL_ACTF_F, 1)]
      (wReg [(F.MPT_CTRL_ENABLE, 1)]))

theorem test_active_beyond : hertzBeyond (selDeviation wAct) (wAct.cur F.MPT_ISL_ACTF_F) = true := by
  have h1 : wAct.get F.GRD_FREQ_F = 0 := by decide
  have h2 : wAct.on F.GRD_FNOM_F60 = true := by decide
  have h3 : wAct.cur F.MPT_ISL_ACTF_F = 1 := by decide
  have h4 : slotM 0 = 0 := by decide
  simp [hertzBeyond, selDeviation, slotVal, h1, h2, h3, h4]
  norm_num

/-! ### Well-formedness refuses an ill-formed term for each of its checks -/

theorem test_wf_frame : (Instr.mailReceive 0 { cls := 8 }).wf = false ∧ (Instr.mailReceive 0 { cls := 2 }).wf = true := by
  decide
theorem test_wf_keepalive : (Instr.keepalive 0 { addr := 0x1000 }).wf = false := by decide
theorem test_wf_samples : (Instr.metrologySubinterval [1]).wf = false := by decide
theorem test_wf_counts : (Instr.roDrift []).wf = false := by decide
theorem test_wf_opcode : (Instr.integ 0 0x4801C00401806020#64).wf = true ∧ (Instr.mac 0 0x4801C00401806020#64).wf = false := by
  decide

/-! ### Results of the spec -/

/-- spec/06: INTEG.2 with XI stage 7, ERR stage 6, parameter 0x020 broadcast, is the word 0x4801_C004_0180_6020. -/
theorem test_word_integ : kEncode ⟨0x12, 0, 0, 7, 0, 2, 0, 0x0180, 0x6020⟩ = 0x4801C00401806020 := by decide

/-- spec/05: at e = 11 the resolution is 2^−12 A, and 1,065.0 A is stored exactly, with m = 0.5200. -/
theorem test_slot_current : roundDiv (1065 * 8388608) 2048 = 4362240 ∧ slotM (slotWord 4362240 11) = 4362240 := by decide

/-- spec/05: 2,300 A at e = 11 becomes 2,048 − 2^−12 A. -/
theorem test_slot_limit : clampInt (-8388608) 8388607 (roundDiv (2300 * 8388608) 2048) = 8388607 := by decide

/-- spec/13: 3,333,333,333 µWh on 0xFFFF_FFFF_FFF0_BDC0 with W = 0xFF read back as 0xC69F_5F15, 0, 0. -/
theorem test_accumulator_wraps :
    accWords ((0xFF * 2 ^ 64 + 0xFFFFFFFFFFF0BDC0 + 3333333333) % 2 ^ 72) = [0xC69F5F15, 0, 0] := by decide

/-- spec/19: Q05 with BASE = 4,096 begins at byte address 0x20_4000, and its stream wraps after SIZE words. -/
theorem test_queue_base :
    4 * (wCur [(F.QUE_Q_BASE_W 5, 4096), (F.QUE_Q_SIZE_W 5, 4096)] (wReg [])).qAddr 5 0 = 0x204000 ∧
    (wCur [(F.QUE_Q_BASE_W 5, 4096), (F.QUE_Q_SIZE_W 5, 4096)] (wReg [])).qAddr 5 4097 =
      (wCur [(F.QUE_Q_BASE_W 5, 4096), (F.QUE_Q_SIZE_W 5, 4096)] (wReg [])).qAddr 5 1 := by decide

/-- spec/24: interrupts of LNK0, TRP and PAR are bits 8, 26 and 41 of the summary. -/
theorem test_irq_pages :
    (RegTable.pages.filter fun p => p.base == 0x8000 || p.base == 0x44000 || p.base == 0x90000).map (·.irq) =
      [8, 26, 41] := by decide

/-- R417: UPSTREAM_CHANGE's neighbours aside, a code without a row has severity 1. -/
theorem test_severity_default : severity 0x1001 = 1 ∧ severity 0x5006 = 4 := by decide

/-- R440: writing the value that an unlisted word reads as leaves no entry. -/
theorem test_memory_canonical : ((wReg []).putWord 0x80000 0).mem = [] := by decide

/-- The table gives no row bits, so no word spells a command. -/
theorem test_no_word : decodeTableWord 8 5 = none ∧ (State.reset.withFetchWord 8 5).pending = [] := by decide

/-- A step takes the command at the front of the queue. -/
theorem test_step_front :
    step { State.reset with pending := [.leapSet, .erase] } =
      .next { State.reset.put F.TIM_STATUS_LEAP_PENDING 1 with pending := [.erase] } := rfl

/-! ### Witnesses of the statements -/


/-- Every command answers a next state, so the hypotheses of the frames are met. -/
theorem test_meets_Frames :
    (∃ s t, exec (.refQualified 0) s = .next t) ∧ (∃ s t, exec (.pwmCtrlWrite 0 1) s = .next t) ∧
    (∃ s t, exec .heldEnableRelease s = .next t) ∧ (∃ s t, exec (.fadResult 0 3 0 5 0 90) s = .next t) ∧
    (∃ s t, exec (.metrologySave 3000) s = .next t) ∧ (∃ s t, exec .powerDieReset s = .next t) :=
  ⟨⟨State.reset, _, rfl⟩, ⟨State.reset, _, rfl⟩, ⟨State.reset, _, rfl⟩, ⟨State.reset, _, rfl⟩,
   ⟨State.reset, _, rfl⟩, ⟨State.reset, _, rfl⟩⟩
theorem test_meets_PlumbCommands :
  (∃ (s : State),
    Live s ∧ s.on F.CLK_STATUS_SEARCHING = true ∧ s.b.plumb.hop = true) ∧
  (∃ (s : State),
    Live s ∧ s.on F.CLK_STATUS_SEARCHING = true ∧ s.b.plumb.hop = false ∧ s.b.plumb.mode = .relock) ∧
  (∃ (s : State),
    Live s ∧ s.b.plumb.mode = .locked ∧ 0 < s.b.plumb.left) ∧
  (∃ (s : State),
    Live s ∧ s.b.plumb.mode = .locked ∧ s.b.plumb.left < 0) ∧
  (∃ (s : State),
    Live s ∧ filtDrive s = .source) ∧
  (∃ (s : State),
    Live s ∧ filtDrive s ≠ .source) ∧
  (∃ (s : State),
    Live s ∧ s.on F.CLK_STATUS_LOCK_RAW = true ∧ s.on F.CLK_STATUS_LOCK = false) ∧
  (∃ (s : State),
    Live s ∧ s.b.plumb.mode = .locked) ∧
  (∃ (s : State),
    Live s ∧ s.on F.CLK_STATUS_HOLDOVER = true) ∧
  (∃ (s : State),
    Live s) ∧
  (∃ (s : State),
    Live s) ∧
  (∃ (s : State),
    Live s) ∧
  (∃ (s : State),
    Live s ∧ s.on F.CLK_STATUS_SEARCHING = true ∧ s.b.plumb.mode = .search) ∧
  (∃ (s : State),
    Live s ∧ s.b.plumb.mode = .locked) ∧
  (∃ (s : State),
    Live s ∧ s.b.plumb.mode = .locked ∧ refQual s (s.get F.CLK_STATUS_ACTIVE_REF) = true) ∧
  (∃ (s : State),
    Live s ∧ s.b.plumb.mode = .locked ∧ refQual s (1 - s.get F.CLK_STATUS_ACTIVE_REF) = true) ∧
  (∃ (s : State),
    Live s ∧ s.on F.SYS_STATUS_PERMIT = false ∧ (refQual s 0 || refQual s 1) = true ∧ s.b.plumb.mode ≠ .off) ∧
  (∃ (s : State),
    Live s ∧ s.on F.SYS_STATUS_PERMIT = false ∧ refQual s 0 = false ∧ refQual s 1 = false ∧ s.b.plumb.mode ≠ .off) :=
  ⟨⟨wB (fun b => { b with plumb := { b.plumb with hop := true } }) (wReg [(F.CLK_STATUS_SEARCHING, 1)]), by decide⟩,
   ⟨wB (fun b => { b with plumb := { b.plumb with mode := .relock } }) (wReg [(F.CLK_STATUS_SEARCHING, 1)]), by decide⟩,
   ⟨wB (fun b => { b with plumb := { b.plumb with mode := .locked, left := 2 } }) (wReg [(F.CLK_PHASE_NOW_PHASE,
     255)]), by decide⟩,
   ⟨wB (fun b => { b with plumb := { b.plumb with mode := .locked, left := -29 } }) (wReg [(F.CLK_PHASE_NOW_PHASE,
     0)]), by decide⟩,
   ⟨wB (fun b => { b with plumb := { b.plumb with mode := .locked } }) (wReg [(F.CLK_STATUS_LOCK_RAW, 1)]), by decide⟩,
   ⟨wReg [], by decide⟩,
   ⟨wReg [(F.CLK_STATUS_LOCK_RAW, 1)], by decide⟩,
   ⟨wB (fun b => { b with plumb := { b.plumb with mode := .locked } }) (wReg []), by decide⟩,
   ⟨wReg [(F.CLK_STATUS_HOLDOVER, 1)], by decide⟩,
   ⟨wReg [], by decide⟩,
   ⟨wReg [], by decide⟩,
   ⟨wReg [], by decide⟩,
   ⟨wB (fun b => { b with plumb := { b.plumb with mode := .search } }) (wReg [(F.CLK_STATUS_SEARCHING, 1)]), by decide⟩,
   ⟨wB (fun b => { b with plumb := { b.plumb with mode := .locked } }) (wReg []), by decide⟩,
   ⟨wB (fun b => { b with plumb := { b.plumb with mode := .locked } }) (wReg [(F.CLK_STATUS_REFA_QUAL, 1)]), by decide⟩,
   ⟨wB (fun b => { b with plumb := { b.plumb with mode := .locked } }) (wReg [(F.CLK_STATUS_REFB_QUAL, 1)]), by decide⟩,
   ⟨wB (fun b => { b with plumb := { b.plumb with mode := .locked } }) (wReg [(F.CLK_STATUS_REFA_QUAL, 1)]), by decide⟩,
   ⟨wB (fun b => { b with plumb := { b.plumb with mode := .holdover } }) (wReg [(F.SYS_STATUS_DIV_SYNC, 1)]), by
     decide⟩⟩

theorem test_meets_TimebaseCommands :
  (∃ (s : State),
    Live s ∧ s.on F.TIM_STATUS_PPS_IN_PRESENT = true) ∧
  (∃ (s : State),
    Live s ∧ s.b.tim.ppsFall < (s.b.tim.t : Int) + tuFab) ∧
  (∃ (s : State),
    Live s ∧ (s.b.tim.t : Int) + tuFab ≤ s.b.tim.ppsFall) ∧
  (∃ (s : State),
    Live s ∧ s.on F.TIM_STATUS_GM = true) ∧
  (∃ (s : State),
    Live s ∧ s.on F.TIM_STATUS_GM = false) ∧
  (∃ (s : State),
    Live s) ∧
  (∃ (s : State),
    Live s) ∧
  (∃ (s : State),
    Live s) ∧
  (∃ (s : State),
    Live s) :=
  ⟨⟨wReg [(F.TIM_STATUS_PPS_IN_PRESENT, 1)], by decide⟩,
   ⟨wReg [], by decide⟩,
   ⟨wB (fun b => { b with tim := { b.tim with ppsOut := true, ppsFall := 2 ^ 40 } }) (wReg []), by decide⟩,
   ⟨wReg [(F.TIM_STATUS_GM, 1)], by decide⟩,
   ⟨wReg [], by decide⟩,
   ⟨wReg [], by decide⟩,
   ⟨wReg [], by decide⟩,
   ⟨wReg [], by decide⟩,
   ⟨wReg [], by decide⟩⟩

theorem test_meets_TimebaseEdges :
  (∃ (s : State),
    Live s ∧ s.b.tim.counting = true) ∧
  (∃ (s : State),
    Live s ∧ s.b.tim.counting = true ∧ s.on F.TIM_STATUS_GM = false) ∧
  (∃ (n : Nat) (s : State),
    Live s ∧ s.b.tim.counting = true ∧ s.on F.TIM_STATUS_GM = true ∧ s.b.tim.armed = some n) ∧
  (∃ (s : State),
    Live s) ∧
  (∃ (v : Word) (s : State),
    Live s ∧ v.toNat.testBit 1 ≠ s.on F.TIM_CTRL_GM) ∧
  (∃ (s : State),
    Live s ∧ s.b.tim.counting = true) ∧
  (∃ (s : State),
    Live s ∧ s.b.tim.counting = true ∧ s.on F.TIM_CTRL_PPS_OUT_EN = true ∧ s.on F.TIM_CTRL_PPS_OUT_GATE = false ∧ 0 ≤
      s.int F.TIM_PPS_OUT_OFS_OFS ∧ ppsInstant s (nearestSec s.b.tim.t * tuSec) < (s.b.tim.t + tuFab : Nat)) ∧
  (∃ (s : State),
    Live s ∧ s.b.tim.counting = true ∧ s.on F.TIM_CTRL_PPS_OUT_EN = true ∧ s.on F.TIM_CTRL_PPS_OUT_GATE = false ∧ 0 ≤
      s.int F.TIM_PPS_OUT_OFS_OFS ∧ ¬ ppsInstant s (nearestSec s.b.tim.t * tuSec) < (s.b.tim.t + tuFab : Nat)) :=
  ⟨⟨wB (fun b => { b with tim := { b.tim with counting := true } }) (wReg []), by decide⟩,
   ⟨wB (fun b => { b with tim := { b.tim with counting := true } }) (wReg []), by decide⟩,
   ⟨77, wB (fun b => { b with tim := { b.tim with counting := true, armed := some 77 } }) (wReg [(F.TIM_STATUS_GM,
     1)]), by decide⟩,
   ⟨wReg [], by decide⟩,
   ⟨2, wReg [(F.TIM_STATUS_VALID, 1)], by decide⟩,
   ⟨wB (fun b => { b with tim := { b.tim with counting := true } }) (wReg []), by decide⟩,
   ⟨wB (fun b => { b with tim := { b.tim with counting := true } }) (wReg [(F.TIM_CTRL_PPS_OUT_EN, 1),
     (F.TIM_CTRL_PPS_OUT_GATE, 0)]), by decide⟩,
   ⟨wB (fun b => { b with tim := { b.tim with counting := true } }) (wReg [(F.TIM_CTRL_PPS_OUT_EN, 1),
     (F.TIM_CTRL_PPS_OUT_GATE, 0), (F.TIM_PPS_OUT_OFS_OFS, 1000)]), by decide⟩⟩

theorem test_meets_LaneBringUpCommands :
  (∃ (n : Fin 8) (s : State),
    Live s ∧ inStage s n 2 = true ∧ s.on (F.LNK_CTRL_ENABLE (govLane s n)) = true) ∧
  (∃ (n : Fin 8) (s : State),
    Live s ∧ inStage s n 3 = true) ∧
  (∃ (n : Fin 8) (s : State),
    Live s ∧ inStage s n 4 = true) ∧
  (∃ (n : Fin 8) (s : State),
    Live s ∧ inStage s n 5 = true) ∧
  (∃ (n : Fin 8) (s : State),
    Live s ∧ inStage s n 5 = true ∧ s.on (F.LNK_CTRL_POL_AUTO n) = true) ∧
  (∃ (n : Fin 8) (skew : Nat) (s : State),
    Live s ∧ bonded s n = true ∧ govLane s n = n.val ∧ nearLoop s n = false ∧ inStage s n 6 = true ∧ inStage s (n + 1) 6
      = true ∧ skew ≤ 1056) ∧
  (∃ (n : Fin 8) (skew : Nat) (s : State),
    Live s ∧ bonded s n = true ∧ govLane s n = n.val ∧ nearLoop s n = false ∧ inStage s n 6 = true ∧ inStage s (n + 1) 6
      = true ∧ 1056 < skew) ∧
  (∃ (n : Fin 8) (s : State),
    Live s ∧ inStage s n 7 = true ∧ ringLane s n = true ∧ ownTurn s n = true ∧ 64 ≤ (laneOf s n).exN) ∧
  (∃ (n : Fin 8) (s : State),
    Live s ∧ inStage s n 7 = true ∧ ringLane s n = true ∧ ((laneOf s n).sentCorr || decide ((laneOf s n).pAddr < s.get
      F.RDG_ADDR_ADDR)) = true) ∧
  (∃ (n : Fin 8) (s : State),
    Live s ∧ inStage s n 7 = true ∧ stage7Done s n = true ∧ (laneOf s n).partner = true ∧ n.val ≠ 4) ∧
  (∃ (s : State),
    Live s ∧ inStage s 4 7 = true ∧ stage7Done s 4 = true ∧ (laneOf s 4).partner = true) ∧
  (∃ (n : Fin 8) (w : BitVec 56) (s : State),
    Live s ∧ 4 ≤ s.get (F.LNK_STATUS_STAGE n) ∧ (s.on (F.LNK_STATUS_READY n) && decide (6 ≤ bitsOf w.toNat 55 53)) =
      false ∧ s.on (F.LNK_CTRL_MODE (govLane s n)) = false ∧ (((laneOf s n).loopReq || (laneOf s n).loopLeft != 0)
      && bitsOf w.toNat 47 36 == trainAddr s) = false) ∧
  (∃ (n : Fin 8) (w : BitVec 56) (s : State),
    Live s ∧ s.on (F.LNK_CTRL_MODE (govLane s n)) = false ∧ 4 ≤ s.get (F.LNK_STATUS_STAGE n) ∧ s.on (F.LNK_STATUS_READY
      n) = true ∧ 6 ≤ bitsOf w.toNat 55 53) ∧
  (∃ (n : Fin 8) (s : State),
    Live s ∧ s.on (F.LNK_CTRL_MODE (govLane s n)) = true) ∧
  (∃ (n : Fin 8) (w : BitVec 56) (s : State),
    Live s ∧ 4 ≤ s.get (F.LNK_STATUS_STAGE n) ∧ s.on (F.LNK_STATUS_READY n) = false ∧ (laneOf s n).loopReq = true ∧
      bitsOf w.toNat 47 36 = trainAddr s ∧ (laneOf s n).loopLeft = 0) ∧
  (∃ (n : Fin 8) (cause : Fin 4) (s : State),
    Live s ∧ s.on (F.LNK_STATUS_READY n) = true ∧ n.val ≠ 4 ∧ cause.val ≠ 1) ∧
  (∃ (n : Fin 8) (s : State),
    Live s ∧ s.on (F.LNK_STATUS_READY n) = true) ∧
  (∃ (cause : Fin 4) (s : State),
    Live s ∧ s.on (F.LNK_STATUS_READY 4) = true ∧ cause.val ≠ 1) ∧
  (∃ (n : Fin 8) (s : State),
    Live s ∧ 3 ≤ s.get (F.LNK_STATUS_STAGE n) ∧ s.on (F.LNK_STATUS_READY n) = false) ∧
  (∃ (n : Fin 8) (s : State),
    Live s ∧ s.on (F.LNK_CTRL_MODE n) = true) ∧
  (∃ (n : Fin 8) (s : State),
    Live s ∧ s.on (F.LNK_CTRL_MODE n) = false ∧ s.on (F.LNK_CTRL_AUTO_ALIGN n) = false) ∧
  (∃ (n : Fin 8) (s : State),
    Live s ∧ s.on (F.LNK_CTRL_MODE n) = false ∧ s.on (F.LNK_CTRL_AUTO_ALIGN n) = true) ∧
  (∃ (n : Fin 8) (s : State),
    Live s ∧ s.get (F.LNK_PRBS_CTRL_GEN n) ≠ 0) ∧
  (∃ (s : State),
    Live s) ∧
  (∃ (n : Fin 8) (s : State),
    Live s ∧ s.get (F.LNK_PRBS_CTRL_CHK n) ≠ 0 ∧ s.on (F.LNK_STATUS_BIT_LOCK n) = true ∧ nearLoop s n = true ∧ s.get
      (F.LNK_PRBS_CTRL_CHK n) = s.get (F.LNK_PRBS_CTRL_GEN n)) ∧
  (∃ (n : Fin 8) (s : State),
    Live s ∧ s.get (F.LNK_PRBS_CTRL_CHK n) ≠ 0 ∧ s.on (F.LNK_STATUS_BIT_LOCK n) = true ∧ nearLoop s n = false) ∧
  (∃ (n : Fin 8) (s : State),
    Live s ∧ s.on (F.LNK_PRBS_STATUS_LOCK n) = true ∧ 4 ≤ (laneOf s n).badWords) ∧
  (∃ (n : Fin 8) (errors : Bool) (s : State),
    Live s ∧ s.on (F.LNK_PRBS_STATUS_LOCK n) = true ∧ (if errors then (laneOf s n).errs = 2 ^ 32 - 1 else (laneOf s
      n).bits = 2 ^ 48 - 1)) ∧
  (∃ (s : State),
    Live s) ∧
  (∃ (s : State),
    Live s) :=
  ⟨⟨3, wReg [(F.LNK_CTRL_ENABLE 3, 1), (F.LNK_STATUS_STAGE 3, 2)], by decide⟩,
   ⟨7, wReg [(F.LNK_STATUS_STAGE 7, 3)], by decide⟩,
   ⟨0, wReg [(F.LNK_STATUS_STAGE 0, 4)], by decide⟩,
   ⟨1, wReg [(F.LNK_STATUS_STAGE 1, 5)], by decide⟩,
   ⟨1, wReg [(F.LNK_STATUS_STAGE 1, 5), (F.LNK_CTRL_POL_AUTO 1, 1)], by decide⟩,
   ⟨2, 1056, wReg [(F.LNK_CTRL_BOND 2, 1), (F.LNK_STATUS_STAGE 2, 6), (F.LNK_STATUS_STAGE 3, 6)], by decide⟩,
   ⟨6, 1057, wReg [(F.LNK_CTRL_BOND 6, 1), (F.LNK_STATUS_STAGE 6, 6), (F.LNK_STATUS_STAGE 7, 6)], by decide⟩,
   ⟨0, applyAll (wReg [(F.LNK_STATUS_STAGE 0, 7), (F.LNK_STATUS_ROLE 0, 1), (F.RDG_ADDR_ADDR, 3)]) [updLane 0 fun l =>
     { l with pAddr := 5, exN := 64 }], by decide⟩,
   ⟨0, applyAll (wReg [(F.LNK_STATUS_STAGE 0, 7), (F.LNK_STATUS_ROLE 0, 1), (F.RDG_ADDR_ADDR, 9)]) [updLane 0 fun l =>
     { l with pAddr := 5 }], by decide⟩,
   ⟨5, applyAll (wReg [(F.LNK_STATUS_STAGE 5, 7)]) [updLane 5 fun l => { l with partner := true }], by decide⟩,
   ⟨applyAll (wReg [(F.LNK_STATUS_STAGE 4, 7)]) [updLane 4 fun l => { l with partner := true }], by decide⟩,
   ⟨0, 0xC0000000000000, wReg [(F.LNK_STATUS_STAGE 0, 4)], by decide⟩,
   ⟨0, 0xC0000000000000, wReg [(F.LNK_STATUS_STAGE 0, 8), (F.LNK_STATUS_READY 0, 1)], by decide⟩,
   ⟨5, wReg [(F.LNK_CTRL_MODE 5, 1)], by decide⟩,
   ⟨0, 0x00FFF000000000, applyAll (wReg [(F.LNK_STATUS_STAGE 0, 7)]) [updLane 0 fun l => { l with loopReq := true }],
     by decide⟩,
   ⟨0, 3, wReg [(F.LNK_STATUS_READY 0, 1)], by decide⟩,
   ⟨0, wReg [(F.LNK_STATUS_READY 0, 1)], by decide⟩,
   ⟨3, wReg [(F.LNK_STATUS_READY 4, 1)], by decide⟩,
   ⟨0, wReg [(F.LNK_STATUS_STAGE 0, 3)], by decide⟩,
   ⟨0, wReg [(F.LNK_CTRL_MODE 0, 1)], by decide⟩,
   ⟨0, wReg [(F.LNK_CTRL_AUTO_ALIGN 0, 0)], by decide⟩,
   ⟨0, wReg [(F.LNK_CTRL_AUTO_ALIGN 0, 1)], by decide⟩,
   ⟨0, wReg [(F.LNK_PRBS_CTRL_GEN 0, 1)], by decide⟩,
   ⟨wReg [], by decide⟩,
   ⟨0, wReg [(F.LNK_STATUS_BIT_LOCK 0, 1), (F.LNK_PRBS_CTRL_CHK 0, 1), (F.LNK_PRBS_CTRL_GEN 0, 1), (F.LNK_LOOP_MODE 0,
     1)], by decide⟩,
   ⟨0, wReg [(F.LNK_STATUS_BIT_LOCK 0, 1), (F.LNK_PRBS_CTRL_CHK 0, 3)], by decide⟩,
   ⟨0, applyAll (wReg [(F.LNK_PRBS_STATUS_LOCK 0, 1)]) [updLane 0 fun l => { l with badWords := 4 }], by decide⟩,
   ⟨0, true, applyAll (wReg [(F.LNK_PRBS_STATUS_LOCK 0, 1)]) [updLane 0 fun l => { l with errs := 2 ^ 32 - 1 }], by
     decide⟩,
   ⟨wReg [], by decide⟩,
   ⟨wReg [], by decide⟩⟩

theorem test_meets_LaneControlCommands :
  (∃ (n : Fin 8) (v : Word) (s : State),
    Live s ∧ upperBonded s n = false ∧ v.toNat.testBit 3 = false) ∧
  (∃ (n : Fin 8) (v : Word) (s : State),
    Live s ∧ upperBonded s n = false ∧ v.toNat.testBit 3 = true ∧ serves s n = true) ∧
  (∃ (n : Fin 8) (v : Word) (s : State),
    Live s ∧ upperBonded s n = false ∧ v.toNat % 4 = 0) ∧
  (∃ (n : Fin 8) (s : State),
    Live s ∧ upperBonded s n = false ∧ serves s n = false) ∧
  (∃ (n : Fin 8) (v : Word) (s : State),
    Live s ∧ v.toNat % 4 ≠ 0 ∧ serves s n = true) ∧
  (∃ (n : Fin 8) (s : State),
    Live s ∧ serves s n = false) ∧
  (∃ (n : Fin 8) (s : State),
    Live s ∧ stageOpen s n = true ∧ stageOver s n = true ∧ (s.get (F.LNK_STATUS_STAGE n) == 4 && inFarLoop s n) = false
      ∧ s.get (F.LNK_CTRL_RETRY_LIM (govLane s n)) ≤ s.get (F.LNK_STATUS_RETRIES n) + 1) ∧
  (∃ (n : Fin 8) (s : State),
    Live s ∧ stageOpen s n = true ∧ stageOver s n = true ∧ (s.get (F.LNK_STATUS_STAGE n) == 4 && inFarLoop s n) = false
      ∧ s.get (F.LNK_STATUS_RETRIES n) + 1 < s.get (F.LNK_CTRL_RETRY_LIM (govLane s n)) ∧ s.get
      (F.LNK_CTRL_RETRY_LIM (govLane s n)) ≤ 15) ∧
  (∃ (n : Fin 8) (s : State),
    Live s ∧ stageOpen s n = false) ∧
  (∃ (s : State),
    Live s) ∧
  (∃ (lane : Fin 8) (f : Frame) (s : State),
    Live s ∧ s.on F.RDG_CTRL_ENABLE = true ∧ ringLane s lane = true ∧ carriesRole s lane = true ∧ (laneOf s
      lane).noForward = false ∧ frameLenBad f = false ∧ f.dest ≠ s.get F.RDG_ADDR_ADDR ∧ returned s lane f = false ∧
      2 ≤ f.cls ∧ f.cls ≤ 4 ∧ f.hops ≠ 0 ∧ f.crcOk = true) ∧
  (∃ (lane : Fin 8) (f : Frame) (s : State),
    Live s ∧ s.on F.RDG_CTRL_ENABLE = true ∧ ringLane s lane = true ∧ carriesRole s lane = true ∧ (laneOf s
      lane).noForward = false ∧ frameLenBad f = false ∧ f.dest ≠ s.get F.RDG_ADDR_ADDR ∧ returned s lane f = false ∧
      2 ≤ f.cls ∧ f.cls ≤ 4 ∧ f.hops ≠ 0 ∧ f.crcOk = false) ∧
  (∃ (lane : Fin 8) (f : Frame) (s : State),
    Live s ∧ s.on F.RDG_CTRL_ENABLE = true ∧ ringLane s lane = true ∧ carriesRole s lane = true ∧ (laneOf s
      lane).noForward = false ∧ frameLenBad f = false ∧ f.dest ≠ s.get F.RDG_ADDR_ADDR ∧ returned s lane f = false ∧
      f.cls = 0 ∧ f.hops ≠ 0 ∧ f.crcOk = true ∧ seenIn s s.b.rdg.fwdSeen f = false) ∧
  (∃ (lane : Fin 8) (f : Frame) (s : State),
    Live s ∧ s.on F.RDG_CTRL_ENABLE = true ∧ ringLane s lane = true ∧ carriesRole s lane = true ∧ frameLenBad f = false
      ∧ f.dest ≠ s.get F.RDG_ADDR_ADDR ∧ f.cls ≠ 1 ∧ f.cls ≤ 4 ∧ f.hops = 0) ∧
  (∃ (n : Fin 8) (s : State),
    Live s ∧ ringLane s n = true ∧ govLane s n = n.val ∧ carriesRole s n = true) :=
  ⟨⟨0, 0x5012, wReg [], by decide⟩,
   ⟨0, 8, wReg [(F.RDG_CTRL_ENABLE, 1)], by decide⟩,
   ⟨5, 4, wReg [(F.LNK_LOOP_MODE 5, 1)], by decide⟩,
   ⟨5, wReg [], by decide⟩,
   ⟨0, 1, wReg [(F.RDG_CTRL_ENABLE, 1)], by decide⟩,
   ⟨5, wReg [], by decide⟩,
   ⟨5, wB (fun b => { b with cyc := 10 ^ 9 }) (wReg [(F.LNK_STATUS_STAGE 5, 5), (F.LNK_CTRL_RETRY_LIM 5, 1)]), by
     decide⟩,
   ⟨5, wB (fun b => { b with cyc := 10 ^ 9 }) (wReg [(F.LNK_STATUS_STAGE 5, 5), (F.LNK_CTRL_RETRY_LIM 5, 3)]), by
     decide⟩,
   ⟨5, wReg [(F.LNK_STATUS_STAGE 5, 7)], by decide⟩,
   ⟨wReg [(F.LNK_STATUS_READY 5, 1), (F.LNK_STATUS_RETRIES 5, 3)], by decide⟩,
   ⟨0, (sealed { cls := 4, hops := 1 }), wReg [(F.RDG_CTRL_ENABLE, 1), (F.LNK_STATUS_READY 0, 1), (F.LNK_STATUS_ROLE 0,
     1), (F.RDG_ADDR_ADDR, 9)], by decide +kernel⟩,
   ⟨0, { cls := 4, hops := 1, abort := true }, wReg [(F.RDG_CTRL_ENABLE, 1), (F.LNK_STATUS_READY 0, 1),
     (F.LNK_STATUS_ROLE 0, 1), (F.RDG_ADDR_ADDR, 9)], by decide +kernel⟩,
   ⟨0, (sealed { cls := 0, hops := 255 }), wReg [(F.RDG_CTRL_ENABLE, 1), (F.LNK_STATUS_READY 0, 1), (F.LNK_STATUS_ROLE
     0, 1), (F.RDG_ADDR_ADDR, 9)], by decide +kernel⟩,
   ⟨0, { cls := 2 }, wReg [(F.RDG_CTRL_ENABLE, 1), (F.LNK_STATUS_READY 0, 1), (F.LNK_STATUS_ROLE 0, 1),
     (F.RDG_ADDR_ADDR, 9)], by decide⟩,
   ⟨3, wReg [(F.LNK_STATUS_READY 3, 1), (F.LNK_STATUS_ROLE 3, 4)], by decide⟩⟩

theorem test_meets_RingCommands :
  (∃ (v : Word) (s : State),
    Live s ∧ (v.toNat.testBit 0 && !s.on F.RDG_CTRL_ENABLE && s.get F.RDG_ADDR_ADDR == 0xFFF) = false) ∧
  (∃ (v : Word) (s : State),
    Live s ∧ v.toNat.testBit 0 = true ∧ s.on F.RDG_CTRL_ENABLE = false ∧ s.get F.RDG_ADDR_ADDR = 0xFFF) ∧
  (∃ (n : Fin 8) (k : Keepalive) (s : State),
    Live s ∧ ringCarries s n = true ∧ k.addr ≠ s.get F.RDG_ADDR_ADDR) ∧
  (∃ (n : Fin 8) (k : Keepalive) (s : State),
    Live s ∧ ringCarries s n = true ∧ k.addr = s.get F.RDG_ADDR_ADDR ∧ (laneOf s n).noForward = false) ∧
  (∃ (n : Fin 8) (s : State),
    Live s ∧ s.on F.RDG_CTRL_ENABLE = true ∧ ringLane s n = true ∧ (laneOf s n).advert.isSome = true) ∧
  (∃ (n : Fin 8) (s : State),
    Live s ∧ ringCarries s n = true ∧ (laneOf s n).advert.isSome = true ∧ s.on (F.RDG_LANE_CAL_DONE n) = true ∧ s.on
      (F.RDG_LANE_CAL_FAIL n) = false ∧ n.val = eastLane s ∧ s.on F.RDG_STATUS_WRAP_E = true) ∧
  (∃ (n : Fin 8) (f : Frame) (s : State),
    Live s ∧ ringCarries s n = true ∧ f.cls = 0 ∧ f.type = 1 ∧ f.dest = 0xFFF ∧ f.data.length = 1 ∧ f.hops ≠ 0 ∧ f.crcOk
      = true ∧ f.src ≠ s.get F.RDG_ADDR_ADDR ∧ seenIn s s.b.rdg.rxSeen f = false ∧ f.data.getD 0 0 % 2 ^ 16 &&&
      s.get F.RDG_IT_RX_EN_GROUPS ≠ 0) ∧
  (∃ (groups : BitVec 16) (s : State),
    Live s ∧ groups.toNat ≠ 0) ∧
  (∃ (n : Fin 8) (f : Frame) (s : State),
    Live s ∧ ringCarries s n = true ∧ f.cls = 0 ∧ f.type = 2 ∧ f.dest = 0xFFF ∧ f.data.length ≤ 2 ∧ f.hops ≠ 0 ∧ f.crcOk
      = true ∧ f.src ≠ s.get F.RDG_ADDR_ADDR ∧ seenIn s s.b.rdg.rxSeen f = false) ∧
  (∃ (n : Fin 8) (mask : BitVec 8) (s : State),
    Live s ∧ mask.toNat = 2 ^ n.val ∧ slotAccepted s n = true) ∧
  (∃ (n : Fin 8) (mask : BitVec 8) (s : State),
    Live s ∧ mask.toNat = 2 ^ n.val ∧ slotAccepted s n = false) ∧
  (∃ (n : Fin 8) (s : State),
    Live s ∧ ringLane s n = true ∧ govLane s n = n.val) ∧
  (∃ (n : Fin 8) (s : State),
    Live s ∧ ringLane s n = true ∧ govLane s n = n.val ∧ (laneOf s n).recal = false) ∧
  (∃ (n : Fin 8) (s : State),
    Live s ∧ ringCarries s n = true) ∧
  (∃ (n : Fin 8) (probe : BitVec 56) (s : State),
    Live s ∧ ringCarries s n = true ∧ (laneOf s n).echoOut.contains probe.toNat = true ∧ (laneOf s n).echoN ≠ 15) ∧
  (∃ (n : Fin 8) (probe : BitVec 56) (s : State),
    Live s ∧ ringCarries s n = true ∧ (laneOf s n).echoOut.contains probe.toNat = false ∧ (laneOf s n).recalOut.contains
      probe.toNat = true) ∧
  (∃ (n : Fin 8) (s : State),
    Live s ∧ (laneOf s n).recal = true ∧ 64 ≤ (laneOf s n).recalN) ∧
  (∃ (s : State),
    Live s) :=
  ⟨⟨15, wReg [(F.RDG_ADDR_ADDR, 7)], by decide⟩,
   ⟨15, wReg [(F.RDG_ADDR_ADDR, 0xFFF)], by decide⟩,
   ⟨0, { addr := 1, gmHops := 0, valid := true }, wReg [(F.RDG_CTRL_ENABLE, 1), (F.LNK_STATUS_READY 0, 1),
     (F.LNK_STATUS_ROLE 0, 1), (F.RDG_ADDR_ADDR, 9)], by decide⟩,
   ⟨0, { addr := 9 }, wReg [(F.RDG_CTRL_ENABLE, 1), (F.LNK_STATUS_READY 0, 1), (F.LNK_STATUS_ROLE 0, 1),
     (F.RDG_ADDR_ADDR, 9)], by decide⟩,
   ⟨0, applyAll (wReg [(F.RDG_CTRL_ENABLE, 1), (F.LNK_STATUS_ROLE 0, 1)]) [updLane 0 fun l =>
     { l with advert := some { addr := 3 }, up := true }], by decide⟩,
   ⟨0, applyAll (wReg [(F.RDG_CTRL_ENABLE, 1), (F.LNK_STATUS_READY 0, 1), (F.LNK_STATUS_ROLE 0, 1),
     (F.RDG_LANE_CAL_DONE 0, 1), (F.RDG_STATUS_WRAP_E, 1)]) [updLane 0 fun l =>
     { l with advert := some { addr := 3 } }], by decide⟩,
   ⟨0, (sealed { dest := 0xFFF, type := 1, hops := 5, data := [1] }), wReg [(F.RDG_CTRL_ENABLE, 1), (F.LNK_STATUS_READY
     0, 1), (F.LNK_STATUS_ROLE 0, 1), (F.RDG_ADDR_ADDR, 9), (F.RDG_IT_RX_EN_GROUPS, 1)], by decide +kernel⟩,
   ⟨0x8001, wReg [(F.RDG_CTRL_ENABLE, 1), (F.RDG_HOPLIM_HOPS, 3)], by decide⟩,
   ⟨0, (sealed { dest := 0xFFF, type := 2, hops := 5, data := [3] }), wReg [(F.RDG_CTRL_ENABLE, 1), (F.LNK_STATUS_READY
     0, 1), (F.LNK_STATUS_ROLE 0, 1), (F.RDG_ADDR_ADDR, 9)], by decide +kernel⟩,
   ⟨7, 0x80, wReg [(F.RDG_SCHED_ACT_ACTION 7, 0)], by decide⟩,
   ⟨7, 0x80, wReg [(F.RDG_SCHED_ACT_ACTION 7, 5)], by decide⟩,
   ⟨0, wReg [(F.LNK_STATUS_READY 0, 1), (F.LNK_STATUS_ROLE 0, 1)], by decide⟩,
   ⟨0, wReg [(F.LNK_STATUS_READY 0, 1), (F.LNK_STATUS_ROLE 0, 1)], by decide⟩,
   ⟨0, wReg [(F.RDG_CTRL_ENABLE, 1), (F.LNK_STATUS_READY 0, 1), (F.LNK_STATUS_ROLE 0, 1)], by decide⟩,
   ⟨0, 77, applyAll (wReg [(F.RDG_CTRL_ENABLE, 1), (F.LNK_STATUS_READY 0, 1), (F.LNK_STATUS_ROLE 0, 1)]) [updLane 0 fun
     l => { l with echoOut := [77] }], by decide⟩,
   ⟨0, 77, applyAll (wReg [(F.RDG_CTRL_ENABLE, 1), (F.LNK_STATUS_READY 0, 1), (F.LNK_STATUS_ROLE 0, 1)]) [updLane 0 fun
     l => { l with recalOut := [77] }], by decide⟩,
   ⟨7, applyAll (wReg []) [updLane 7 fun l => { l with recal := true, recalN := 64, recalSum := 6400 }], by decide⟩,
   ⟨wReg [(F.RDG_CNT_CRC_N, 3)], by decide⟩⟩

theorem test_meets_RingTimeAndAccessCommands :
  (∃ (s : State),
    Live s ∧ s.on F.RDG_STATUS_UP_VALID = true ∧ ringCarries s (s.get F.RDG_STATUS_UP_LANE) = true) ∧
  (∃ (n : Fin 8) (f : Frame) (s : State),
    Live s ∧ ringCarries s n = true ∧ f.cls = 1 ∧ f.type = 0x10 ∧ f.dest = s.get F.RDG_ADDR_ADDR ∧ f.data.length ≤ 3 ∧
      f.hops ≠ 0 ∧ f.crcOk = true) ∧
  (∃ (n : Fin 8) (f : Frame) (t1 : Nat) (s : State),
    Live s ∧ ringCarries s n = true ∧ f.cls = 1 ∧ f.type = 0x11 ∧ f.dest = s.get F.RDG_ADDR_ADDR ∧ f.data.length ≤ 3 ∧
      f.hops ≠ 0 ∧ f.crcOk = true ∧ s.on F.TIM_STATUS_GM = false ∧ s.get (F.LNK_STATUS_STAGE n) ≠ 7 ∧ s.on
      F.RDG_STATUS_UP_VALID = true ∧ s.get F.RDG_STATUS_UP_LANE = n.val ∧ s.b.rdg.t1 = some (t1, n.val)) ∧
  (∃ (n : Fin 8) (f : Frame) (s : State),
    Live s ∧ s.on F.RDG_CTRL_ENABLE = true ∧ ringLane s n = true ∧ carriesT s n = true ∧ f.cls = 1 ∧ f.type = 0x11 ∧
      f.dest = s.get F.RDG_ADDR_ADDR ∧ f.data.length ≤ 3 ∧ f.hops ≠ 0 ∧ f.crcOk = true ∧ s.get (F.LNK_STATUS_STAGE
      n) = 7 ∧ (laneOf s n).exAt.isSome = true) ∧
  (∃ (s : State),
    Live s ∧ s.on F.TIM_STATUS_GM = false) ∧
  (∃ (count : Fin 16) (s : State),
    Live s ∧ s.on F.RDG_RACC_STATUS_BUSY = false ∧ s.get F.RDG_RACC_TMO_US ≠ 0 ∧ 1 ≤ count.val ∧ count.val ≤ 8 ∧ s.get
      F.RDG_RACC_DEST_ADDR ≠ 0xFFF ∧ (s.on F.RDG_CTRL_ENABLE && s.get F.RDG_HOPLIM_HOPS == 0) = false) ∧
  (∃ (count : Fin 16) (s : State),
    Live s ∧ s.on F.RDG_RACC_STATUS_BUSY = false ∧ s.get F.RDG_RACC_TMO_US ≠ 0 ∧ 1 ≤ count.val ∧ count.val ≤ 8 ∧ s.get
      F.RDG_RACC_DEST_ADDR = 0xFFF ∧ (s.on F.RDG_CTRL_ENABLE && s.get F.RDG_HOPLIM_HOPS == 0) = false) ∧
  (∃ (count : Fin 16) (s : State),
    Live s ∧ s.on F.RDG_RACC_STATUS_BUSY = false ∧ s.get F.RDG_RACC_TMO_US ≠ 0 ∧ 8 < count.val) ∧
  (∃ (n : Fin 8) (f : Frame) (s : State),
    Live s ∧ ringCarries s n = true ∧ f.dest = s.get F.RDG_ADDR_ADDR ∧ f.cls = 3 ∧ f.type = 0x31 ∧ f.data.length ≤ 17 ∧
      f.hops ≠ 0 ∧ f.crcOk = true ∧ raccMatches s false f = true) ∧
  (∃ (n : Fin 8) (f : Frame) (k : Fin 8) (s : State),
    Live s ∧ ringCarries s n = true ∧ f.dest = s.get F.RDG_ADDR_ADDR ∧ f.cls = 3 ∧ f.type = 0x31 ∧ f.data.length ≤ 17 ∧
      f.hops ≠ 0 ∧ f.crcOk = true ∧ raccMatches s false f = true ∧ k.val < accessCount f) ∧
  (∃ (n : Fin 8) (f : Frame) (s : State),
    Live s ∧ ringCarries s n = true ∧ f.dest = s.get F.RDG_ADDR_ADDR ∧ f.cls = 3 ∧ f.type = 0x33 ∧ f.data.length ≤ 17 ∧
      f.hops ≠ 0 ∧ f.crcOk = true ∧ raccMatches s true f = true) ∧
  (∃ (s : State),
    Live s ∧ s.on F.RDG_RACC_STATUS_BUSY = true) ∧
  (∃ (count : Fin 2048) (s : State),
    Live s ∧ s.on F.RDG_BULK_STATUS_BUSY = false ∧ s.get F.RDG_RACC_TMO_US ≠ 0 ∧ 1 ≤ count.val ∧ count.val ≤ 1024 ∧
      s.get F.RDG_RACC_DEST_ADDR ≠ 0xFFF ∧ (s.on F.RDG_CTRL_ENABLE && s.get F.RDG_HOPLIM_HOPS == 0) = false) ∧
  (∃ (count : Fin 2048) (s : State),
    Live s ∧ s.on F.RDG_BULK_STATUS_BUSY = false ∧ s.get F.RDG_RACC_TMO_US ≠ 0 ∧ 1024 < count.val) ∧
  (∃ (n : Fin 8) (f : Frame) (m : Request) (s : State),
    Live s ∧ ringCarries s n = true ∧ f.dest = s.get F.RDG_ADDR_ADDR ∧ f.cls = 4 ∧ f.type = 0x41 ∧ f.data.length ≤ 63 ∧
      f.hops ≠ 0 ∧ f.crcOk = true ∧ s.b.rdg.bulk = some m ∧ f.src = s.get F.RDG_RACC_DEST_ADDR ∧ frameTag f = m.tag
      ∧ m.left ≤ accessCount f) ∧
  (∃ (s : State),
    Live s ∧ s.on F.RDG_BULK_STATUS_BUSY = true) :=
  ⟨⟨wReg [(F.RDG_CTRL_ENABLE, 1), (F.LNK_STATUS_READY 0, 1), (F.LNK_STATUS_ROLE 0, 1), (F.RDG_STATUS_UP_VALID, 1)], by
     decide⟩,
   ⟨0, (sealed { cls := 1, type := 0x10, dest := 9, hops := 1 }), wReg [(F.RDG_CTRL_ENABLE, 1), (F.LNK_STATUS_READY 0,
     1), (F.LNK_STATUS_ROLE 0, 1), (F.RDG_ADDR_ADDR, 9), (F.RDG_HOPLIM_HOPS, 3)], by decide +kernel⟩,
   ⟨0, (sealed { cls := 1, type := 0x11, dest := 9, hops := 1, data := [0, 0, 0] }), 5, wB (fun b =>
     { b with rdg := { b.rdg with t1 := some (5, 0) } }) (wReg [(F.RDG_CTRL_ENABLE, 1), (F.LNK_STATUS_READY 0, 1),
     (F.LNK_STATUS_ROLE 0, 1), (F.RDG_ADDR_ADDR, 9), (F.RDG_STATUS_UP_VALID, 1)]), by decide +kernel⟩,
   ⟨0, (sealed { cls := 1, type := 0x11, dest := 9, hops := 1, data := [0, 0, 0] }), applyAll (wReg
     [(F.RDG_CTRL_ENABLE, 1), (F.LNK_STATUS_STAGE 0, 7), (F.LNK_STATUS_ROLE 0, 1), (F.RDG_ADDR_ADDR, 9)]) [updLane 0
     fun l => { l with pStage := 6, exAt := some 4 }], by decide +kernel⟩,
   ⟨wReg [(F.TIM_STATUS_VALID, 1), (F.RDG_STATUS_TIME_CONV, 1)], by decide⟩,
   ⟨8, wReg [(F.RDG_CTRL_ENABLE, 1), (F.RDG_HOPLIM_HOPS, 3), (F.RDG_RACC_TMO_US, 9), (F.RDG_RACC_DEST_ADDR, 4)], by
     decide⟩,
   ⟨8, wReg [(F.RDG_CTRL_ENABLE, 1), (F.RDG_HOPLIM_HOPS, 3), (F.RDG_RACC_TMO_US, 9), (F.RDG_RACC_DEST_ADDR, 0xFFF)], by
     decide⟩,
   ⟨9, wReg [(F.RDG_RACC_TMO_US, 9)], by decide⟩,
   ⟨0, (sealed { cls := 3, type := 0x31, src := 4, dest := 9, hops := 1, data := [accessBlock 0 1 0 0 0, 5] }), wB (fun
     b => { b with rdg := { b.rdg with mailbox := some { tag := 0 } } }) (wReg [(F.RDG_CTRL_ENABLE, 1),
     (F.LNK_STATUS_READY 0, 1), (F.LNK_STATUS_ROLE 0, 1), (F.RDG_ADDR_ADDR, 9), (F.RDG_RACC_DEST_ADDR, 4)]), by
     decide +kernel⟩,
   ⟨0, (sealed
     { cls := 3, type := 0x31, src := 4, dest := 9, hops := 1, data := [accessBlock 0 8 0 0 0, 5, 6, 7, 8] }), 7, wB
     (fun b => { b with rdg := { b.rdg with mailbox := some { tag := 0 } } }) (wReg [(F.RDG_CTRL_ENABLE, 1),
     (F.LNK_STATUS_READY 0, 1), (F.LNK_STATUS_ROLE 0, 1), (F.RDG_ADDR_ADDR, 9), (F.RDG_RACC_DEST_ADDR, 4)]), by
     decide +kernel⟩,
   ⟨0, (sealed { cls := 3, type := 0x33, src := 4, dest := 9, hops := 1, data := [accessBlock 0 1 0 0 0] }), wB (fun b
     => { b with rdg := { b.rdg with mailbox := some { tag := 0, write := true } } }) (wReg [(F.RDG_CTRL_ENABLE, 1),
     (F.LNK_STATUS_READY 0, 1), (F.LNK_STATUS_ROLE 0, 1), (F.RDG_ADDR_ADDR, 9), (F.RDG_RACC_DEST_ADDR, 4)]), by
     decide +kernel⟩,
   ⟨wReg [(F.RDG_RACC_STATUS_BUSY, 1)], by decide⟩,
   ⟨1024, wReg [(F.RDG_CTRL_ENABLE, 1), (F.RDG_HOPLIM_HOPS, 3), (F.RDG_RACC_TMO_US, 9), (F.RDG_RACC_DEST_ADDR, 4)], by
     decide⟩,
   ⟨1025, wReg [(F.RDG_RACC_TMO_US, 9)], by decide⟩,
   ⟨0, (sealed { cls := 4, type := 0x41, src := 4, dest := 9, hops := 1, data := [accessBlock 0 1 0 0 0, 5] }),
     { tag := 0, left := 1 }, wB (fun b => { b with rdg := { b.rdg with bulk := some { tag := 0, left := 1 } } })
     (wReg [(F.RDG_CTRL_ENABLE, 1), (F.LNK_STATUS_READY 0, 1), (F.LNK_STATUS_ROLE 0, 1), (F.RDG_RACC_DEST_ADDR, 4),
     (F.RDG_ADDR_ADDR, 9)]), by decide +kernel⟩,
   ⟨wReg [(F.RDG_BULK_STATUS_BUSY, 1)], by decide⟩⟩

theorem test_meets_PwmAndTripCommands :
  (∃ (s : State),
    Live s) ∧
  (∃ (s : State),
    Live s) ∧
  (∃ (n : Fin 4) (v : Word) (s : State),
    Live s ∧ pageEnabled s n = false ∧ v.toNat.testBit 0 = true) ∧
  (∃ (p : Fin 49) (s : State),
    Live s ∧ (boundaryAt s p).isSome = true ∧ reached s ((boundaryAt s p).getD 0) = true) ∧
  (∃ (p : Fin 49) (s : State),
    Live s ∧ (pairOf s p).started = true ∧ s.curOn (F.PAIR_CFG_UPD p) = true ∧ s.cur (F.PAIR_CFG_MODE p) ≤ 1 ∧ adoptMask
      s p 12 ((pairOf s p).start + s.cur (F.PAIR_PER_TICKS p) * 32) ≠ 0 ∧ inCycle s ((pairOf s p).start + s.cur
      (F.PAIR_PER_TICKS p) * 32) = true) ∧
  (∃ (p : Fin 49) (time : BitVec 22) (s : State),
    Live s ∧ (pairOf s p).started = true ∧ inCycle s ((pairOf s p).start + time.toNat) = true) ∧
  (∃ (p : Fin 49) (s : State),
    Live s ∧ (pairOf s p).deadH = true ∧ reached s (pairOf s p).deadAtH = true ∧ stillOn s p (pairOf s p).deadAtH true =
      true) ∧
  (∃ (p : Fin 49) (s : State),
    Live s ∧ (pairOf s p).deadL = true ∧ reached s (pairOf s p).deadAtL = true ∧ stillOn s p (pairOf s p).deadAtL false
      = true) ∧
  (∃ (p : Fin 48) (s : State),
    Live s ∧ (pairOf s p).started = true ∧ s.cur (F.PAIR_CFG_MODE p) = 3 ∧ reached s ((pairOf s p).start + max 64
      (appliedA s p + appliedB s p)) = true) ∧
  (∃ (s : State),
    Live s ∧ pairRefused s 48 31 = false) ∧
  (∃ (s : State),
    Live s ∧ pairRefused s 48 31 = true) ∧
  (∃ (n : Fin 3) (k : Fin 16) (s : State),
    Live s ∧ pairRefused s (16 * n + k) 31 = false) ∧
  (∃ (p : Fin 48) (s : State),
    Live s ∧ s.on (F.PWM_CTRL_AUTO (p / 16)) = true ∧ s.on (F.PAIR_STAT_MPT_OWN p) = false) ∧
  (∃ (n : Fin 128) (s : State),
    Live s ∧ ((80 ≤ n.val ∧ n.val < 96) ∨ 112 ≤ n.val)) ∧
  (∃ (n : Fin 80) (s : State),
    Live s ∧ isAsserted s n = false ∧ sourceHolds s n = true ∧ s.on F.BUT_ARB_CTRL_EN = false) ∧
  (∃ (n : Fin 128) (s : State),
    Live s ∧ sourceHolds s n = false) ∧
  (∃ (s : State),
    Live s) ∧
  (∃ (k : Fin 8) (s : State),
    Live s ∧ s.on (F.AUX_STAT_RUN k) = true ∧ reached s (s.b.pwm.auxTill.getD k 0) = true) ∧
  (∃ (mask : Word) (s : State),
    Live s ∧ s.get F.TRP_LATCH0_PAIR = 1 ∧ mask.toNat = 1 ∧ heldBy s 0 true = none) ∧
  (∃ (p : Fin 32) (mask : Word) (s : State),
    Live s ∧ (s.get F.TRP_LATCH0_PAIR).testBit p = true ∧ mask.toNat.testBit p = true ∧ heldBy s p true = none) ∧
  (∃ (p : Fin 17) (mask : Word) (s : State),
    Live s ∧ (s.get F.TRP_LATCH1_PAIR).testBit p = true ∧ mask.toNat.testBit p = true ∧ heldBy s (p + 32) true = none) ∧
  (∃ (s : State),
    Live s ∧ (∀ p : Fin 49, s.get (F.TRP_PMASK_SAFE p) ≠ 3)) ∧
  (∃ (p : Fin 49) (s : State),
    Live s ∧ s.get (F.TRP_PMASK_SAFE p) = 3) ∧
  (∃ (s : State),
    Live s) ∧
  (∃ (v : Word) (s : State),
    Live s ∧ v.toNat % 4 ≠ 3) ∧
  (∃ (v : Word) (s : State),
    Live s ∧ v.toNat % 4 = 3) ∧
  (∃ (s : State),
    Live s) :=
  ⟨⟨wReg [], by decide⟩,
   ⟨wReg [], by decide⟩,
   ⟨1, 1, wReg [], by decide⟩,
   ⟨48, applyAll (wCur [(F.PAIR_PER_TICKS 48, 1000)] (wReg [])) [updPair 48 fun q => { q with run := true }], by
     decide⟩,
   ⟨0, wB (fun b => { b with cyc := 500 }) (applyAll (wCur [(F.PAIR_PER_TICKS 0, 1000), (F.PAIR_CFG_UPD 0, 1)] (wReg
     [])) [updPair 0 fun q => { q with run := true, started := true, pend := 12 }]), by decide⟩,
   ⟨0, 63, applyAll (wReg []) [updPair 0 fun q => { q with run := true, started := true }], by decide⟩,
   ⟨48, applyAll (wReg []) [updPair 48 fun q => { q with deadH := true }], by decide⟩,
   ⟨48, applyAll (wReg []) [updPair 48 fun q => { q with deadL := true }], by decide⟩,
   ⟨47, wB (fun b => { b with cyc := 1 }) (applyAll (wCur [(F.PAIR_CFG_MODE 47, 3)] (wReg [])) [updPair 47 fun q =>
     { q with run := true, started := true }]), by decide⟩,
   ⟨wReg [(F.PAIR_CMPA_C 48, 77)], by decide⟩,
   ⟨wReg [(F.PAIR_PER_TICKS 48, 7)], by decide⟩,
   ⟨2, 15, wReg [], by decide⟩,
   ⟨47, wReg [(F.PWM_CTRL_AUTO 2, 1)], by decide⟩,
   ⟨127, wReg [], by decide⟩,
   ⟨15, wReg [], by decide⟩,
   ⟨106, wReg [], by decide⟩,
   ⟨wReg [(F.TRP_ACT_SRC 0, 0x8000)], by decide⟩,
   ⟨7, wReg [(F.AUX_STAT_RUN 7, 1)], by decide⟩,
   ⟨1, wReg [(F.TRP_LATCH0_PAIR, 1)], by decide⟩,
   ⟨31, 0xFFFFFFFF, wReg [(F.TRP_LATCH0_PAIR, 2 ^ 31)], by decide⟩,
   ⟨16, 0xFFFFFFFF, wReg [(F.TRP_LATCH1_PAIR, 2 ^ 16)], by decide⟩,
   ⟨wReg [], by decide⟩,
   ⟨48, wReg [(F.TRP_PMASK_SAFE 48, 3)], by decide⟩,
   ⟨wReg [], by decide⟩,
   ⟨2, wReg [], by decide⟩,
   ⟨3, wReg [], by decide⟩,
   ⟨wReg [], by decide⟩⟩

theorem test_meets_PumpCommands :
  (∃ (s : State),
    Live s) ∧
  (∃ (v : Word) (s : State),
    Live s ∧ v.toNat.testBit 0 = false ∧ pmpIn s 3 = true) ∧
  (∃ (v : Word) (s : State),
    Live s ∧ v.toNat.testBit 0 = true ∧ v.toNat.testBit 1 = false ∧ v.toNat.testBit 3 = true ∧ s.cur
      F.PMP_COAST_BRAKE_MS ≠ 0 ∧ (pmpIn s 1 || pmpIn s 2 || pmpIn s 3) = true) ∧
  (∃ (s : State),
    Live s ∧ s.on F.PMP_CTRL_ENABLE = true ∧ s.on F.PMP_CTRL_RUN = true ∧ pmpIn s 0 = true ∧ s.cur F.PMP_PWM_PER ≠ 0 ∧
      s.b.pmp.lowAt + usCyc (1000 * s.cur F.PMP_COAST_COAST_MS) ≤ s.b.cyc) ∧
  (∃ (s : State),
    Live s ∧ pmpIn s 1 = true ∧ s.b.pmp.alignAt + usCyc (1000 * s.cur F.PMP_ALIGN_MS) ≤ s.b.cyc) ∧
  (∃ (s : State),
    Live s ∧ pmpIn s 2 = true ∧ rampDue s = true ∧ s.cur F.PMP_HAND_F_HAND * 156250000 ≤ rampF s ∧ s.b.pmp.seen = true ∧
      7 ≤ s.b.pmp.steps) ∧
  (∃ (s : State),
    Live s ∧ pmpIn s 2 = true ∧ rampDue s = true ∧ rampF s < s.cur F.PMP_HAND_F_HAND * 156250000 ∧ rampF s < s.cur
      F.PMP_HAND_FMAX * 156250000) ∧
  (∃ (s : State),
    Live s ∧ pmpIn s 2 = true ∧ rampF s < s.cur F.PMP_HAND_F_HAND * 156250000 ∧ s.cur F.PMP_HAND_FMAX * 156250000 ≤
      rampF s ∧ s.cur F.PMP_LIMIT_RETRIES < s.b.pmp.tries) ∧
  (∃ (s : State),
    Live s ∧ pmpIn s 3 = true ∧ s.b.pmp.seen = true ∧ (s.b.pmp.zcAt.any fun z => decide (z * 256 + s.cur F.PMP_MOTOR_ADV
      * s.get F.PMP_T60_TICKS ≤ s.b.cyc * 256)) = true) ∧
  (∃ (s : State),
    Live s ∧ pmpIn s 2 = true ∧ s.cur F.PMP_PWM_PER ≠ 0 ∧ (s.b.pmp.periodAt.any fun c => decide (s.b.cyc < c + s.cur
      F.PMP_PWM_PER)) = false) ∧
  (∃ (s : State),
    Live s ∧ pmpIn s 3 = true ∧ s.cur F.PMP_PWM_PER ≠ 0 ∧ s.b.pmp.periodAt = none) ∧
  (∃ (s : State),
    Live s ∧ runLapse s (max s.b.pmp.runAt (s.b.pmp.zcAt.getD 0)) (s.cur F.PMP_TIMEOUT_STALL_MS) = true ∧ s.on
      F.PMP_CTRL_AUTO_RESTART = false) ∧
  (∃ (s : State),
    Live s ∧ runLapse s (max s.b.pmp.runAt (s.b.pmp.zcAt.getD 0)) (s.cur F.PMP_TIMEOUT_STALL_MS) = true ∧ s.on
      F.PMP_CTRL_AUTO_RESTART = true) ∧
  (∃ (s : State),
    Live s ∧ runLapse s s.b.pmp.feedAt (s.cur F.PMP_TIMEOUT_WDOG_MS) = true) ∧
  (∃ (mv : BitVec 17) (s : State),
    PowerLive s ∧ Live s ∧ pmpIn s 5 = false ∧ s.on F.PMP_STATUS_VM_OV = false ∧ s.cur F.PMP_VM_OV_HI * 250 < mv.toNat) ∧
  (∃ (mv : BitVec 17) (s : State),
    PowerLive s ∧ s.on F.PMP_STATUS_VM_OV = true ∧ mv.toNat < s.cur F.PMP_VM_OV_LO * 250) ∧
  (∃ (s : State),
    PowerLive s ∧ Live s ∧ pmpIn s 5 = false ∧ s.on F.PMP_STATUS_VM_UV = false) ∧
  (∃ (s : State),
    PowerLive s) ∧
  (∃ (ph : Fin 3) (under : Bool) (s : State),
    PowerLive s ∧ (s.get F.PMP_STATUS_BOOT_HOLD).testBit ph = !under) ∧
  (∃ (ph : Fin 3) (s : State),
    Live s ∧ (s.get F.PMP_STATUS_BOOT_HOLD).testBit ph = true ∧ s.b.pmp.holdAt.getD ph 0 + usCyc 1000 ≤ s.b.cyc ∧ pmpIn
      s 5 = false) ∧
  (∃ (s : State),
    Live s ∧ pmpIn s 5 = true ∧ s.get F.PMP_STATUS_CAUSE = 2 ∧ s.on F.PMP_STATUS_VM_OV = false ∧ s.b.pmp.endAt.getD 0 0
      + usCyc 10000 ≤ s.b.cyc) ∧
  (∃ (s : State),
    Live s ∧ pmpIn s 5 = true ∧ pmpOcHigh s = false ∧ [2, 7, 8].any (autoPersists s) = false) ∧
  (∃ (s : State),
    Live s ∧ pmpIn s 5 = true ∧ (pmpOcHigh s || autoPersists s (s.get F.PMP_STATUS_CAUSE)) = true) ∧
  (∃ (s : State),
    Live s ∧ pmpRefused s = none) ∧
  (∃ (s : State),
    Live s ∧ pmpIn s 3 = true) ∧
  (∃ (s : State),
    Live s ∧ pmpIn s 4 = true ∧ s.b.pmp.brakeAt + usCyc (1000 * s.cur F.PMP_COAST_BRAKE_MS) ≤ s.b.cyc) ∧
  (∃ (s : State),
    Live s ∧ pmpIn s 3 = true ∧ s.b.pmp.runAt + usCyc 10000000 ≤ s.b.cyc) :=
  ⟨⟨wReg [], by decide⟩,
   ⟨0, wReg [(F.PMP_STATUS_STATE, 3)], by decide⟩,
   ⟨9, wCur [(F.PMP_COAST_BRAKE_MS, 5)] (wReg [(F.PMP_STATUS_STATE, 3)]), by decide⟩,
   ⟨wB (fun b => { b with cyc := 10000000000 }) (wCur [(F.PMP_PWM_PER, 64), (F.PMP_ALIGN_MS, 9)] (wReg
     [(F.PMP_CTRL_ENABLE, 1), (F.PMP_CTRL_RUN, 1)])), by decide⟩,
   ⟨wB (fun b => { b with cyc := 10000000000 }) (wReg [(F.PMP_STATUS_STATE, 1)]), by decide⟩,
   ⟨wB (fun b => { b with cyc := 10000000000, pmp := { b.pmp with seen := true, steps := 7 } }) (wCur
     [(F.PMP_HAND_F_HAND, 0), (F.PMP_RAMP_F0, 1), (F.PMP_RAMP_ACC, 0)] (wReg [(F.PMP_STATUS_STATE, 2),
     (F.PMP_STATUS_STEP, 5)])), by decide⟩,
   ⟨wB (fun b => { b with cyc := 10000000000 }) (wCur [(F.PMP_HAND_F_HAND, 10), (F.PMP_HAND_FMAX, 20), (F.PMP_RAMP_F0,
     1), (F.PMP_RAMP_ACC, 0)] (wReg [(F.PMP_STATUS_STATE, 2), (F.PMP_STATUS_STEP, 5)])), by decide⟩,
   ⟨wB (fun b => { b with pmp := { b.pmp with tries := 1 } }) (wCur [(F.PMP_HAND_F_HAND, 10), (F.PMP_HAND_FMAX, 0),
     (F.PMP_LIMIT_RETRIES, 0)] (wReg [(F.PMP_STATUS_STATE, 2), (F.PMP_ATTEMPTS_N, 1)])), by decide⟩,
   ⟨wB (fun b => { b with cyc := 10000000000, pmp := { b.pmp with seen := true, zcAt := some 0 } }) (wReg
     [(F.PMP_STATUS_STATE, 3), (F.PMP_T60_TICKS, 100000)]), by decide⟩,
   ⟨wCur [(F.PMP_PWM_PER, 64)] (wReg [(F.PMP_STATUS_STATE, 2)]), by decide⟩,
   ⟨wCur [(F.PMP_PWM_PER, 64)] (wReg [(F.PMP_STATUS_STATE, 3)]), by decide⟩,
   ⟨wB (fun b => { b with cyc := 10000000000 }) (wCur [(F.PMP_TIMEOUT_STALL_MS, 1)] (wReg [(F.PMP_STATUS_STATE, 3)])),
     by decide⟩,
   ⟨wB (fun b => { b with cyc := 10000000000 }) (wCur [(F.PMP_TIMEOUT_STALL_MS, 1)] (wReg [(F.PMP_STATUS_STATE, 3),
     (F.PMP_CTRL_AUTO_RESTART, 1)])), by decide⟩,
   ⟨wB (fun b => { b with cyc := 10000000000 }) (wCur [(F.PMP_TIMEOUT_WDOG_MS, 1)] (wReg [(F.PMP_STATUS_STATE, 3)])),
     by decide⟩,
   ⟨100000, wB (fun b => { b with sys := { b.sys with pwrReset := false } }) (wReg [(F.PMP_STATUS_STATE, 3)]), by
     decide⟩,
   ⟨9, wB (fun b => { b with sys := { b.sys with pwrReset := false } }) (wCur [(F.PMP_VM_OV_LO, 2)] (wReg
     [(F.PMP_STATUS_VM_OV, 1)])), by decide⟩,
   ⟨wB (fun b => { b with sys := { b.sys with pwrReset := false } }) (wReg [(F.PMP_STATUS_STATE, 3)]), by decide⟩,
   ⟨wB (fun b => { b with sys := { b.sys with pwrReset := false } }) (wReg [(F.PMP_STATUS_VM_UV, 1)]), by decide⟩,
   ⟨2, true, wB (fun b => { b with sys := { b.sys with pwrReset := false } }) (wReg []), by decide⟩,
   ⟨2, wB (fun b => { b with cyc := 10000000000 }) (wReg [(F.PMP_STATUS_BOOT_HOLD, 4)]), by decide⟩,
   ⟨wB (fun b => { b with cyc := 10000000000 }) (wReg [(F.PMP_STATUS_STATE, 5), (F.PMP_STATUS_CAUSE, 2)]), by decide⟩,
   ⟨wReg [(F.PMP_STATUS_STATE, 5), (F.PMP_STATUS_CAUSE, 1)], by decide⟩,
   ⟨wReg [(F.PMP_STATUS_STATE, 5), (F.PMP_STATUS_CAUSE, 8), (F.PMP_STATUS_VM_UV, 1)], by decide⟩,
   ⟨wReg [(F.PMP_PWM_PER, 64), (F.PMP_MOTOR_PP, 1), (F.PMP_MOTOR_ZC_FILT, 1), (F.PMP_HAND_F_HAND, 1), (F.PMP_HAND_FMAX,
     2), (F.PMP_VM_OV_HI, 2), (F.PMP_VM_OV_LO, 1)], by decide⟩,
   ⟨wReg [(F.PMP_STATUS_STATE, 3)], by decide⟩,
   ⟨wB (fun b => { b with cyc := 10000000000 }) (wReg [(F.PMP_STATUS_STATE, 4)]), by decide⟩,
   ⟨wB (fun b => { b with cyc := 10000000000 }) (wReg [(F.PMP_STATUS_STATE, 3), (F.PMP_ATTEMPTS_N, 3)]), by decide⟩⟩

theorem test_meets_ComparatorAndGateCommands :
  (∃ (c : Fin 64) (s : State),
    Live s ∧ cmpUsable s c = true ∧ (cmpOf s c).testing = false) ∧
  (∃ (c : Fin 64) (s : State),
    Live s ∧ cmpEnabled s c = true ∧ s.cur (F.WIN_CFG_MODE c) = 1 ∧ s.cur (F.WIN_CFG_INTERVAL c) ≠ 0 ∧ (cmpOf s
      c).testing = false ∧ ((cmpOf s c).sampleAt.any fun a => decide (s.b.cyc < a + s.cur (F.WIN_CFG_INTERVAL c))) =
      false) ∧
  (∃ (n : Fin 4) (s : State),
    Live s ∧ (∀ j : Fin 16, cmpRefused s (16 * n + j) = false)) ∧
  (∃ (n : Fin 4) (i : Fin 16) (s : State),
    Live s ∧ cmpRefused s (16 * n + i) = true ∧ (s.b.waiting.contains (.cmp (16 * n + i))) = false) ∧
  (∃ (s : State),
    Live s) ∧
  (∃ (c : Fin 64) (s : State),
    Live s ∧ (cmpOf s c).due = true ∧ (cmpOf s c).testing = false ∧ cmpUsable s c = true ∧ reached s (cmpOf s c).testAt
      = true) ∧
  (∃ (c : Fin 64) (s : State),
    Live s ∧ (cmpOf s c).testing = true ∧ reached s ((cmpOf s c).testAt + 640) = true ∧ s.cur (F.WIN_TEST_MODE c) = 1) ∧
  (∃ (c : Fin 64) (s : State),
    Live s ∧ (cmpOf s c).testing = true ∧ reached s ((cmpOf s c).testAt + 640) = true ∧ s.cur (F.WIN_TEST_MODE c) = 1) ∧
  (∃ (n : Fin 4) (s : State),
    Live s ∧ s.get (F.CMP_STFAIL_WIN n) < 2 ^ 16) ∧
  (∃ (p : Fin 48) (s : State),
    Live s ∧ (slewOf s p true).phase = 1 ∧ (slewOf s p true).t2 ≠ 0 ∧ reached s (slewOf s p true).till = true) ∧
  (∃ (p : Fin 48) (s : State),
    Live s ∧ (slewOf s p false).phase = 2 ∧ reached s (slewOf s p false).till = true) ∧
  (∃ (p : Fin 48) (s : State),
    Live s ∧ (slewOf s p true).phase = 3 ∧ reached s (slewOf s p true).till = true) ∧
  (∃ (s : State),
    Live s) ∧
  (∃ (s : State),
    Live s ∧ s.get F.GDP_BRK_RT_LO ≤ s.get F.GDP_BRK_RT_HI) ∧
  (∃ (s : State),
    Live s ∧ s.get F.GDP_BRK_RT_HI < s.get F.GDP_BRK_RT_LO) ∧
  (∃ (s : State),
    Live s ∧ s.b.pwm.brkHeld = true ∧ s.b.pwm.brkTill ≤ s.b.cyc) ∧
  (∃ (s : State),
    Live s ∧ s.b.pwm.brkHeld = true ∧ s.b.pwm.brkTill ≤ s.b.cyc ∧ s.b.pwm.brkReq = false ∧ s.curOn F.GDP_BRK_CFG_EN =
      true ∧ cmpHigh s (s.cur F.GDP_BRK_CFG_CMP) = true) ∧
  (∃ (s : State),
    Live s ∧ s.b.pwm.brkReq = true ∧ s.cur F.GDP_BRK_CFG_LONG_MS ≠ 0 ∧ s.b.pwm.brkTold = false ∧ s.b.pwm.brkAt + usCyc
      (1000 * s.cur F.GDP_BRK_CFG_LONG_MS) ≤ s.b.cyc) :=
  ⟨⟨63, wCur [(F.WIN_CFG_EN 63, 1)] (wReg [(F.CMP_CTRL_ENABLE 3, 1)]), by decide⟩,
   ⟨63, wCur [(F.WIN_CFG_EN 63, 1), (F.WIN_CFG_MODE 63, 1), (F.WIN_CFG_INTERVAL 63, 2)] (wReg [(F.CMP_CTRL_ENABLE 3,
     1)]), by decide⟩,
   ⟨3, wReg [], by decide⟩,
   ⟨3, 15, wReg [(F.WIN_CFG_TSEL 63, 3)], by decide⟩,
   ⟨wReg [(F.CMP_CNT_SKIP_N 3, 9)], by decide⟩,
   ⟨63, applyAll (wCur [(F.WIN_CFG_EN 63, 1)] (wReg [(F.CMP_CTRL_ENABLE 3, 1)])) [updCmp 63 fun q =>
     { q with due := true }], by decide⟩,
   ⟨63, wB (fun b => { b with cyc := 10 }) <| applyAll (wCur [(F.WIN_TEST_MODE 63, 1)] (wReg [(F.WIN_STAT_FAILCNT 63,
     3)])) [updCmp 63 fun q => { q with testing := true }], by decide⟩,
   ⟨63, wB (fun b => { b with cyc := 10 }) <| applyAll (wCur [(F.WIN_TEST_MODE 63, 1)] (wReg [(F.WIN_STAT_FAILCNT 63,
     15)])) [updCmp 63 fun q => { q with testing := true }], by decide⟩,
   ⟨3, wReg [(F.CMP_STFAIL_WIN 3, 0x8001)], by decide⟩,
   ⟨47, applyAll (wReg []) [updPair 47 fun a => { a with slewH := ⟨1, 5, 0⟩ }], by decide⟩,
   ⟨47, applyAll (wReg []) [updPair 47 fun a => { a with slewL := ⟨2, 5, 0⟩ }], by decide⟩,
   ⟨47, applyAll (wReg []) [updPair 47 fun a => { a with slewH := ⟨3, 0, 0⟩ }], by decide⟩,
   ⟨wReg [], by decide⟩,
   ⟨wReg [], by decide⟩,
   ⟨wReg [(F.GDP_BRK_RT_HI, 0), (F.GDP_BRK_RT_LO, 1)], by decide⟩,
   ⟨wB (fun b => { b with pwm := { b.pwm with brkHeld := true } }) (wReg []), by decide⟩,
   ⟨wCur [(F.GDP_BRK_CFG_EN, 1), (F.WIN_CFG_EN 0, 1)] (wB (fun b => { b with pwm := { b.pwm with brkHeld := true } })
     (wReg [(F.CMP_CTRL_ENABLE 0, 1), (F.WIN_STAT_HIGH 0, 1)])), by decide⟩,
   ⟨wCur [(F.GDP_BRK_CFG_LONG_MS, 1)] (wB (fun b => { b with cyc := 10000000, pwm := { b.pwm with brkReq := true } })
     (wReg [])), by decide⟩⟩

theorem test_meets_PlausibilityCommands :
  (∃ (c : Fin 64) (k : Fin 2) (mask : Word) (s : State),
    Live s ∧ mask.toNat = 2 ^ (c.val % 32) ∧ k.val = c.val / 32 ∧ s.get (F.FPM_CH_HOLD_COUNT c) = 0) ∧
  (∃ (c : Fin 64) (k : Fin 2) (mask : Word) (s : State),
    Live s ∧ mask.toNat = 2 ^ (c.val % 32) ∧ k.val = c.val / 32 ∧ s.get (F.FPM_CH_HOLD_COUNT c) ≠ 0) ∧
  (∃ (s : State),
    Live s ∧ satFlags s &&& satMask s = 0) ∧
  (∃ (s : State),
    Live s ∧ satFlags s &&& satMask s ≠ 0) ∧
  (∃ (s : State),
    Live s ∧ (∀ c : Fin 64, fpmRefused s c = false)) ∧
  (∃ (c : Fin 64) (s : State),
    Live s ∧ fpmRefused s c = true) :=
  ⟨⟨63, 1, 0x80000000, applyAll (wReg []) [updFpmCh 63 fun q => { q with take := true }], by decide⟩,
   ⟨63, 1, 0x80000000, wReg [(F.FPM_CH_HOLD_COUNT 63, 1)], by decide⟩,
   ⟨wB (fun b => { b with fpm := { b.fpm with satTake := true, satLines := [3] } }) (wReg []), by decide⟩,
   ⟨wReg [(F.KE0_SATFLAGS1_STAGE, 1), (F.FPM_SAT_MASK1_STAGE, 1)], by decide⟩,
   ⟨wReg [], by decide⟩,
   ⟨63, wReg [(F.FPM_CH_CFG_ACT 63, 5)], by decide⟩⟩

theorem test_meets_KeystoneOpcodeCommands :
  (∃ (eng : Fin 2) (w : BitVec 64) (s : State),
    Live s ∧ kRuns s eng = true ∧ kNext s eng = w.toNat ∧ (kWord w.toNat).op = 4 ∧ wordErr eng (coreOf s eng).stLen
      w.toNat = 0 ∧ (kWord w.toNat).n ≠ 0) ∧
  (∃ (eng : Fin 2) (w : BitVec 64) (s : State),
    Live s ∧ kRuns s eng = true ∧ kNext s eng = w.toNat ∧ (kWord w.toNat).op = 8 ∧ wordErr eng (coreOf s eng).stLen
      w.toNat = 0 ∧ (kWord w.toNat).n ≠ 0) ∧
  (∃ (eng : Fin 2) (w : BitVec 64) (s : State),
    Live s ∧ kRuns s eng = true ∧ kNext s eng = w.toNat ∧ (kWord w.toNat).op = 9 ∧ wordErr eng (coreOf s eng).stLen
      w.toNat = 0 ∧ (kWord w.toNat).n ≠ 0) ∧
  (∃ (eng : Fin 2) (w : BitVec 64) (s : State),
    Live s ∧ kRuns s eng = true ∧ kNext s eng = w.toNat ∧ (kWord w.toNat).op = 10 ∧ wordErr eng (coreOf s eng).stLen
      w.toNat = 0 ∧ (kWord w.toNat).n ≠ 0) ∧
  (∃ (eng : Fin 2) (w : BitVec 64) (s : State),
    Live s ∧ kRuns s eng = true ∧ kNext s eng = w.toNat ∧ (kWord w.toNat).op = 11 ∧ wordErr eng (coreOf s eng).stLen
      w.toNat = 0 ∧ (kWord w.toNat).n ≠ 0) ∧
  (∃ (eng : Fin 2) (w : BitVec 64) (s : State),
    Live s ∧ kRuns s eng = true ∧ kNext s eng = w.toNat ∧ (kWord w.toNat).op = 12 ∧ wordErr eng (coreOf s eng).stLen
      w.toNat = 0 ∧ (kWord w.toNat).n ≠ 0) ∧
  (∃ (eng : Fin 2) (w : BitVec 64) (s : State),
    Live s ∧ kRuns s eng = true ∧ kNext s eng = w.toNat ∧ (kWord w.toNat).op = 13 ∧ wordErr eng (coreOf s eng).stLen
      w.toNat = 0 ∧ (kWord w.toNat).n ≠ 0) ∧
  (∃ (eng : Fin 2) (w : BitVec 64) (s : State),
    Live s ∧ kRuns s eng = true ∧ kNext s eng = w.toNat ∧ (kWord w.toNat).op = 16 ∧ wordErr eng (coreOf s eng).stLen
      w.toNat = 0 ∧ (kWord w.toNat).n ≠ 0) ∧
  (∃ (eng : Fin 2) (w : BitVec 64) (s : State),
    Live s ∧ kRuns s eng = true ∧ kNext s eng = w.toNat ∧ (kWord w.toNat).op = 17 ∧ wordErr eng (coreOf s eng).stLen
      w.toNat = 0 ∧ (kWord w.toNat).n ≠ 0) ∧
  (∃ (eng : Fin 2) (w : BitVec 64) (s : State),
    Live s ∧ kRuns s eng = true ∧ kNext s eng = w.toNat ∧ (kWord w.toNat).op = 18 ∧ wordErr eng (coreOf s eng).stLen
      w.toNat = 0 ∧ (kWord w.toNat).n ≠ 0) ∧
  (∃ (eng : Fin 2) (w : BitVec 64) (s : State),
    Live s ∧ kRuns s eng = true ∧ kNext s eng = w.toNat ∧ (kWord w.toNat).op = 20 ∧ wordErr eng (coreOf s eng).stLen
      w.toNat = 0 ∧ (kWord w.toNat).n ≠ 0) ∧
  (∃ (eng : Fin 2) (w : BitVec 64) (s : State),
    Live s ∧ kRuns s eng = true ∧ kNext s eng = w.toNat ∧ (kWord w.toNat).op = 24 ∧ wordErr eng (coreOf s eng).stLen
      w.toNat = 0 ∧ (kWord w.toNat).n ≠ 0) ∧
  (∃ (eng : Fin 2) (w : BitVec 64) (s : State),
    Live s ∧ kRuns s eng = true ∧ kNext s eng = w.toNat ∧ (kWord w.toNat).op = 25 ∧ wordErr eng (coreOf s eng).stLen
      w.toNat = 0 ∧ (kWord w.toNat).n ≠ 0) ∧
  (∃ (eng : Fin 2) (w : BitVec 64) (s : State),
    Live s ∧ kRuns s eng = true ∧ kNext s eng = w.toNat ∧ (kWord w.toNat).op = 26 ∧ wordErr eng (coreOf s eng).stLen
      w.toNat = 0 ∧ (kWord w.toNat).n ≠ 0) ∧
  (∃ (eng : Fin 2) (w : BitVec 64) (s : State),
    Live s ∧ kRuns s eng = true ∧ kNext s eng = w.toNat ∧ (kWord w.toNat).op = 27 ∧ wordErr eng (coreOf s eng).stLen
      w.toNat = 0 ∧ (kWord w.toNat).n ≠ 0) ∧
  (∃ (eng : Fin 2) (w : BitVec 64) (s : State),
    Live s ∧ kRuns s eng = true ∧ kNext s eng = w.toNat ∧ (kWord w.toNat).op = 28 ∧ wordErr eng (coreOf s eng).stLen
      w.toNat = 0 ∧ (kWord w.toNat).n ≠ 0) ∧
  (∃ (eng : Fin 2) (w : BitVec 64) (s : State),
    Live s ∧ kRuns s eng = true ∧ kNext s eng = w.toNat ∧ (kWord w.toNat).op = 29 ∧ wordErr eng (coreOf s eng).stLen
      w.toNat = 0 ∧ (kWord w.toNat).n ≠ 0) ∧
  (∃ (eng : Fin 2) (w : BitVec 64) (s : State),
    Live s ∧ kRuns s eng = true ∧ kNext s eng = w.toNat ∧ (kWord w.toNat).op = 32 ∧ wordErr eng (coreOf s eng).stLen
      w.toNat = 0 ∧ (kWord w.toNat).n ≠ 0) ∧
  (∃ (eng : Fin 2) (w : BitVec 64) (s : State),
    Live s ∧ kRuns s eng = true ∧ kNext s eng = w.toNat ∧ (kWord w.toNat).op = 33 ∧ wordErr eng (coreOf s eng).stLen
      w.toNat = 0 ∧ (kWord w.toNat).n ≠ 0) ∧
  (∃ (eng : Fin 2) (w : BitVec 64) (s : State),
    Live s ∧ kRuns s eng = true ∧ kNext s eng = w.toNat ∧ (kWord w.toNat).op = 0 ∧ wordErr eng (coreOf s eng).stLen
      w.toNat = 0) ∧
  (∃ (w : BitVec 64) (s : State),
    Live s ∧ kRuns s 0 = true ∧ kNext s 0 = w.toNat ∧ (kWord w.toNat).op = 2 ∧ wordErr 0 (coreOf s 0).stLen w.toNat = 0
      ∧ (kWord w.toNat).pm = 0 ∧ 48 ≤ (kWord w.toNat).dst) ∧
  (∃ (w : BitVec 64) (s : State),
    Live s ∧ kRuns s 1 = true ∧ kNext s 1 = w.toNat ∧ (kWord w.toNat).op = 2 ∧ wordErr 1 (coreOf s 1).stLen w.toNat = 0
      ∧ (kWord w.toNat).pm = 0 ∧ 48 ≤ (kWord w.toNat).dst) ∧
  (∃ (w : BitVec 64) (s : State),
    Live s ∧ kRuns s 0 = true ∧ kNext s 0 = w.toNat ∧ (kWord w.toNat).op = 5 ∧ wordErr 0 (coreOf s 0).stLen w.toNat = 0
      ∧ (kWord w.toNat).pm = 0 ∧ (kWord w.toNat).n = 1) ∧
  (∃ (w : BitVec 64) (s : State),
    Live s ∧ kRuns s 0 = true ∧ kNext s 0 = w.toNat ∧ (kWord w.toNat).op = 21 ∧ wordErr 0 (coreOf s 0).stLen w.toNat = 0) ∧
  (∃ (w : BitVec 64) (s : State),
    Live s ∧ kRuns s 1 = true ∧ kNext s 1 = w.toNat ∧ (kWord w.toNat).op = 21 ∧ wordErr 1 (coreOf s 1).stLen w.toNat = 0
      ∧ (kWord w.toNat).n ≠ 0) ∧
  (∃ (w : BitVec 64) (s : State),
    Live s ∧ kRuns s 0 = true ∧ kNext s 0 = w.toNat ∧ (kWord w.toNat).op = 36 ∧ wordErr 0 (coreOf s 0).stLen w.toNat = 0
      ∧ (kWord w.toNat).n = 1 ∧ (kWord w.toNat).pm = 0) :=
  ⟨⟨0, (kwW 4 2 6 0 0x8000 0), progAt 0 (kwW 4 2 6 0 0x8000 0) (ke0Run1), by decide⟩,
   ⟨0, (kwW 8 2 6 1 0x40 0x40), progAt 0 (kwW 8 2 6 1 0x40 0x40) (ke0Run1), by decide⟩,
   ⟨0, (kwW 9 2 6 0 0x40 0x40), progAt 0 (kwW 9 2 6 0 0x40 0x40) (ke0Run1), by decide⟩,
   ⟨0, (kwW 10 2 6 0 0x40 0x40), progAt 0 (kwW 10 2 6 0 0x40 0x40) (ke0Run1), by decide⟩,
   ⟨0, (kwW 11 2 6 0 0x40 0xC001), progAt 0 (kwW 11 2 6 0 0x40 0xC001) (ke0Run1), by decide⟩,
   ⟨0, (kwW 12 2 6 0 0x40 0), progAt 0 (kwW 12 2 6 0 0x40 0) (ke0Run1), by decide⟩,
   ⟨0, (kwW 13 2 6 0 0x40 0), progAt 0 (kwW 13 2 6 0 0x40 0) (ke0Run1), by decide⟩,
   ⟨0, (kwW 16 2 6 0 0x40 0xC001), progAt 0 (kwW 16 2 6 0 0x40 0xC001) (ke0Run1), by decide⟩,
   ⟨0, (kwW 17 2 3 0 0x40 0x40), progAt 0 (kwW 17 2 3 0 0x40 0x40) (ke0Run1), by decide⟩,
   ⟨0, (kwW 18 2 6 0 0x40 0x4000), progAt 0 (kwW 18 2 6 0 0x40 0x4000) (ke0Run1), by decide⟩,
   ⟨1, (kwW 20 2 6 0 0 0), progAt 1 (kwW 20 2 6 0 0 0) (ke1Run1), by decide⟩,
   ⟨0, (kwW 24 2 6 1 0x40 0), progAt 0 (kwW 24 2 6 1 0x40 0) (ke0Run1), by decide⟩,
   ⟨0, (kwW 25 2 6 0 0x40 0), progAt 0 (kwW 25 2 6 0 0x40 0) (ke0Run1), by decide⟩,
   ⟨0, (kwW 26 2 6 0 0x40 0x40), progAt 0 (kwW 26 2 6 0 0x40 0x40) (ke0Run1), by decide⟩,
   ⟨0, (kwW 27 2 6 0 0x40 0x40), progAt 0 (kwW 27 2 6 0 0x40 0x40) (ke0Run1), by decide⟩,
   ⟨0, (kwW 28 8 6 0 0x40 0x40), progAt 0 (kwW 28 8 6 0 0x40 0x40) (ke0Run1), by decide⟩,
   ⟨0, (kwW 29 2 6 0 0x40 0x40), progAt 0 (kwW 29 2 6 0 0x40 0x40) (ke0Run1), by decide⟩,
   ⟨0, (kwW 32 2 6 0 0x40 0), progAt 0 (kwW 32 2 6 0 0x40 0) (ke0Run1), by decide⟩,
   ⟨0, (kwW 33 2 6 0 0x40 0), progAt 0 (kwW 33 2 6 0 0x40 0) (ke0Run1), by decide⟩,
   ⟨0, (kwW 0 0 32 0 0 0), progAt 0 (kwW 0 0 32 0 0 0) (ke0Run1), by decide⟩,
   ⟨(kwW 2 63 1 0 0 0), progAt 0 (kwW 2 63 1 0 0 0) (ke0Run1), by decide⟩,
   ⟨(kwW 2 63 1 0 0 0), progAt 1 (kwW 2 63 1 0 0 0) (ke1Run1), by decide⟩,
   ⟨(kwW 5 0 1 0 0x42 0x817F), progAt 0 (kwW 5 0 1 0 0x42 0x817F) (ke0Run1), by decide⟩,
   ⟨(kwW 0x15 2 0 0 0 0xC000), progAt 0 (kwW 0x15 2 0 0 0 0xC000) (ke0Run1), by decide⟩,
   ⟨(kwW 0x15 2 6 0 0 0xDFFF), progAt 1 (kwW 0x15 2 6 0 0 0xDFFF) (ke1Run1), by decide⟩,
   ⟨(kwW 0x24 63 1 0 0x42 0), progAt 0 (kwW 0x24 63 1 0 0x42 0) ((wCur [(F.FPM_CH_CFG_N 63, 1)] ke0Run1).put
     F.FPM_CTRL_ENABLE 1), by decide⟩⟩

theorem test_meets_KeystoneControlCommands :
  (∃ (v : Word) (s : State),
    Live s ∧ v.toNat.testBit 0 = true ∧ s.on F.KE0_CTRL_ENABLE = false ∧ s.on F.SYS_STATUS_PERMIT = false) ∧
  (∃ (v : Word) (s : State),
    Live s ∧ v.toNat.testBit 0 = true ∧ s.on F.KE0_CTRL_ENABLE = false ∧ s.on F.SYS_STATUS_PERMIT = true ∧ s.on
      F.BUT_CTRL_ENABLE = false) ∧
  (∃ (s : State),
    Live s ∧ s.b.ke0.held = true ∧ s.on F.SYS_STATUS_PERMIT = true ∧ s.on F.BUT_CTRL_ENABLE = false) ∧
  (∃ (s : State),
    Live s ∧ s.b.ke0.held = true ∧ s.on F.SYS_STATUS_PERMIT = true ∧ s.on F.BUT_CTRL_ENABLE = true ∧ alignedAhead s =
      true) ∧
  (∃ (v : Word) (s : State),
    Live s ∧ v.toNat.testBit 0 ≠ s.on F.KE1_CTRL_ENABLE) ∧
  (∃ (eng : Fin 2) (s : State),
    Live s ∧ s.on (kBusy eng) = false) ∧
  (∃ (eng : Fin 2) (j : CheckJob) (s : State),
    Live s ∧ checkOf s eng = some j ∧ j.dirty = none ∧ (kCheck s eng j.start none).err = 0) ∧
  (∃ (a : BitVec 12) (j : CheckJob) (s : State),
    Live s ∧ checkOf s 0 = some j ∧ j.dirty = none ∧ (kCheck s 0 j.start (some a.toNat)).err = 8) ∧
  (∃ (eng : Fin 2) (k : BitVec 12) (s : State),
    Live s ∧ k.toNat < progSize eng ∧ checkOf s eng = none ∧ (checkedOf s eng).any (fun p => within p k.toNat &&
      (inForce s eng).contains p.1) = false) ∧
  (∃ (eng : Fin 2) (k : BitVec 12) (s : State),
    Live s ∧ k.toNat < progSize eng ∧ (checkedOf s eng).any (fun p => within p k.toNat && (inForce s eng).contains p.1)
      = true) ∧
  (∃ (eng : Fin 2) (i : BitVec 12) (s : State),
    Live s ∧ i.toNat < kParams eng ∧ s.on (kPcopy eng) = false) ∧
  (∃ (eng : Fin 2) (s : State),
    Live s ∧ s.on (kPcopy eng) = true) ∧
  (∃ (eng : Fin 2) (s : State),
    Live s ∧ s.on (kPcopy eng) = true) ∧
  (∃ (l : Nat) (s : State),
    Live s ∧ 800 ≤ s.get F.KE0_PERIOD_TICKS ∧ s.get F.KE0_PERIOD_TICKS ≤ 32768 ∧ 256 ≤ s.get F.KE0_WPHASE_W ∧ s.get
      F.KE0_WPHASE_W ≤ 8000 ∧ selLen s 0 (s.on F.KE0_PROG_SRC) (s.get F.KE0_PROG_ROM_ID) (s.get F.KE0_PROG_START) =
      some l ∧ l + 192 ≤ s.get F.KE0_WPHASE_W ∧ s.get F.KE0_WPHASE_W < 2 * s.get F.KE0_PERIOD_TICKS ∧ slotTooLong
      (schedCommitted s) (slotCommitted s) (s.get F.KE0_PERIOD_TICKS) = false) ∧
  (∃ (s : State),
    Live s ∧ s.get F.KE0_PERIOD_TICKS < 800) ∧
  (∃ (s : State),
    Live s) ∧
  (∃ (s : State),
    Live s) ∧
  (∃ (s : State),
    Live s ∧ (∀ k : Fin 9, s.on (F.KE1_ENTRY_EN k) = false) ∧ s.get F.KE1_SCHED_M ≤ 64 ∧ slotTooLong (s.get
      F.KE1_SCHED_M) 19 (if groupWaits s .ke0Timing then s.pend F.KE0_PERIOD_TICKS else s.cur F.KE0_PERIOD_TICKS) =
      false) ∧
  (∃ (s : State),
    Live s ∧ 64 < s.get F.KE1_SCHED_M) ∧
  (∃ (s : State),
    Live s) ∧
  (∃ (s : State),
    Live s ∧ 1 ≤ s.get F.KE0_STATUS_STATE ∧ s.get F.KE0_STATUS_STATE ≤ 3) ∧
  (∃ (s : State),
    Live s ∧ 1 ≤ s.get F.KE1_STATUS_STATE ∧ s.get F.KE1_STATUS_STATE ≤ 3) ∧
  (∃ (s : State),
    Live s ∧ ke0Run s = true ∧ s.b.ke0.timer = true ∧ s.b.ke0.running = false) ∧
  (∃ (s : State),
    Live s ∧ s.b.ke0.timer = true) :=
  ⟨⟨0x1D, wReg [], by decide⟩,
   ⟨1, wReg [(F.SYS_STATUS_PERMIT, 1)], by decide⟩,
   ⟨wB (fun b => { b with ke0 := { b.ke0 with held := true } }) (wReg [(F.SYS_STATUS_PERMIT, 1)]), by decide⟩,
   ⟨wCur [(F.KE0_PERIOD_TICKS, 16)] (wB (fun b => { b with ke0 := { b.ke0 with held := true } }) (wReg
     [(F.SYS_STATUS_PERMIT, 1), (F.BUT_CTRL_ENABLE, 1), (F.TIM_STATUS_VALID, 1)])), by decide⟩,
   ⟨1, wReg [], by decide⟩,
   ⟨1, wReg [], by decide⟩,
   ⟨0, {}, wB (fun b => { b with ke0 := { b.ke0 with check := some {} } }) ((wReg []).putWord 0x40001 0x04000000), by
     decide⟩,
   ⟨0, {}, wB (fun b => { b with ke0 := { b.ke0 with check := some {} } }) ((wReg []).putWord 0x40001 0x04000000), by
     decide⟩,
   ⟨0, 2047, wReg [], by decide⟩,
   ⟨0, 3, wCur [(F.KE0_PROG_SRC, 0)] (wB (fun b => { b with ke0 := { b.ke0 with checked := [(0, 3, 9)] } }) (wReg [])),
     by decide⟩,
   ⟨1, 4095, wReg [], by decide⟩,
   ⟨0, wReg [(F.KE0_STATUS_PCOPY, 1)], by decide⟩,
   ⟨0, wReg [(F.KE0_STATUS_PCOPY, 1)], by decide⟩,
   ⟨984, wReg [(F.KE0_PERIOD_TICKS, 1000), (F.KE0_WPHASE_W, 1999), (F.KE0_PROG_SRC, 1), (F.KE0_PROG_ROM_ID, 1)], by
     decide⟩,
   ⟨wReg [(F.KE0_PERIOD_TICKS, 799)], by decide⟩,
   ⟨wReg [], by decide⟩,
   ⟨wReg [], by decide⟩,
   ⟨wReg [(F.KE1_SCHED_M, 0)], by decide⟩,
   ⟨wReg [(F.KE1_SCHED_M, 65)], by decide⟩,
   ⟨wReg [], by decide⟩,
   ⟨wReg [(F.KE0_STATUS_STATE, 2)], by decide⟩,
   ⟨wReg [(F.KE1_STATUS_STATE, 2)], by decide⟩,
   ⟨wB (fun b => { b with ke0 := { b.ke0 with timer := true } }) (wReg [(F.KE0_STATUS_STATE, 2)]), by decide⟩,
   ⟨wB (fun b => { b with ke0 := { b.ke0 with timer := true } }) (wReg []), by decide⟩⟩

theorem test_meets_MaximumPowerAndIslandCommands :
  (∃ (s : State),
    Live s ∧ s.on F.MPT_CTRL_ENABLE = true ∧ s.on F.MPT_STATUS_ROUND = false ∧ standsBy s = false ∧ nextPoints s ≠ 0 ∧
      (s.get F.MPT_SCAN_EN_IN).testBit 0 = true) ∧
  (∃ (s : State),
    Live s ∧ s.get F.MPT_SCAN_ROUND_INTERVAL_S ≠ 0 ∧ (s.b.mpt.roundT.any fun a => decide (a < msTick (1000 * s.get
      F.MPT_SCAN_ROUND_INTERVAL_S))) = false ∧ s.on F.MPT_CTRL_ENABLE = true ∧ s.on F.MPT_STATUS_ROUND = false ∧
      standsBy s = false ∧ nextPoints s ≠ 0 ∧ (s.get F.MPT_SCAN_EN_IN).testBit 11 = true) ∧
  (∃ (j : Fin 12) (rest : List (Fin 12)) (s : State),
    Live s ∧ s.b.mpt.todo = j :: rest ∧ s.on F.MPT_STATUS_ROUND = true ∧ atSample s = true ∧ s.b.mpt.scan = none ∧
      s.b.mpt.giveBack = none ∧ s.get F.GRD_STATUS_STATE = 0 ∧ standsBy s = false ∧ groupWaits s .mptScan = false ∧
      s.cur F.MPT_SCAN_CFG_POINTS ≠ 0 ∧ (s.b.mpt.gapT.any fun x : Int => decide (x < (2 * msTick (s.get
      F.MPT_SCAN_ROUND_GAP_MS) : Nat))) = false) ∧
  (∃ (q : Scan) (s : State),
    Live s ∧ s.b.mpt.scan = some q ∧ atSample s = true ∧ q.finished = false ∧ q.dwell = s.cur F.MPT_SCAN_CFG_DWELL ∧
      q.point + 1 = s.cur F.MPT_SCAN_CFG_POINTS) ∧
  (∃ (q : Scan) (s : State),
    Live s ∧ s.b.mpt.scan = some q ∧ atSample s = true ∧ q.finished = true ∧ s.b.mpt.curve ≠ []) ∧
  (∃ (q : Scan) (s : State),
    Live s ∧ s.b.mpt.scan = some q) ∧
  (∃ (s : State),
    Live s ∧ s.b.mpt.scan = none) ∧
  (∃ (s : State),
    Live s ∧ s.b.mpt.indicating &&& methods s = 0 ∧ s.on F.MPT_STATUS_ISLAND = true) ∧
  (∃ (s : State),
    Live s ∧ s.b.mpt.indicating &&& methods s ≠ 0) ∧
  (∃ (s : State),
    Live s) ∧
  (∃ (s : State),
    Live s ∧ scanFault s = none) ∧
  (∃ (off : Nat) (s : State),
    Live s ∧ scanFault s = some off) ∧
  (∃ (s : State),
    Live s ∧ islandFault s = none) ∧
  (∃ (off : Nat) (s : State),
    Live s ∧ islandFault s = some off) ∧
  (∃ (s : State),
    Live s ∧ s.on F.MPT_CTRL_ENABLE = true ∧ s.on F.MPT_STATUS_PC_VALID = false ∧ pcFails s = none ∧ s.b.mpt.baseSet =
      true ∧ (s.b.mpt.pcT.any fun a => decide (msTick (1000 * s.cur F.MPT_ISL_PC2_LEARN) ≤ a)) = true) ∧
  (∃ (s : State),
    Live s ∧ injecting s = true ∧ s.cur F.MPT_ISL_INJ_REP_MS ≠ 0 ∧ s.cur F.MPT_ISL_INJ_ON_MS ≠ 0 ∧ s.cur F.MPT_ISL_AMP_I
      ≠ 0 ∧ (s.b.mpt.pulseT.any fun a => decide (a < msTick (s.cur F.MPT_ISL_INJ_REP_MS))) = false) ∧
  (∃ (s : State),
    Live s ∧ s.b.mpt.pulse = true ∧ (s.b.mpt.pulseT.any fun a => decide (msTick (s.cur F.MPT_ISL_INJ_ON_MS) ≤ a)) = true) ∧
  (∃ (s : State),
    Live s ∧ hertzBeyond (selDeviation s) (s.cur F.MPT_ISL_ACTF_F) = true ∧ injecting s = true ∧ s.curOn
      F.MPT_ISL_CTRL_ACT_EN = true ∧ (s.b.mpt.actfT.any fun a => decide (msTick (s.cur F.MPT_ISL_ACTF_T_MS) ≤ a)) =
      true) :=
  ⟨⟨wCur [(F.MPT_SCAN_CFG_POINTS, 2)] (wReg [(F.MPT_CTRL_ENABLE, 1), (F.MPT_SCAN_EN_IN, 3)]), by decide⟩,
   ⟨wCur [(F.MPT_SCAN_CFG_POINTS, 2)] (wReg [(F.MPT_SCAN_ROUND_INTERVAL_S, 1), (F.MPT_CTRL_ENABLE, 1),
     (F.MPT_SCAN_EN_IN, 0x800)]), by decide⟩,
   ⟨11, [], wCur [(F.MPT_SCAN_CFG_POINTS, 2)] (wB (fun b =>
     { b with mpt := { b.mpt with todo := [11] }, fad := { b.fad with trigAt := some b.cyc } }) (wReg
     [(F.MPT_STATUS_ROUND, 1)])), by decide⟩,
   ⟨{ dwell := 3, point := 1 }, wCur [(F.MPT_SCAN_CFG_POINTS, 2), (F.MPT_SCAN_CFG_DWELL, 3), (F.MPT_SCAN_CFG_AVG, 1)]
     (wB (fun b =>
     { b with mpt := { b.mpt with scan := some { dwell := 3, point := 1 } }, fad := { b.fad with trigAt := some b.cyc } })
     (wReg [])), by decide⟩,
   ⟨{ input := 11, finished := true }, wB (fun b =>
     { b with mpt := { b.mpt with scan := some { input := 11, finished := true }, curve := [(5, 6)] }, fad := { b.fad with trigAt := some b.cyc } })
     (wReg []), by decide⟩,
   ⟨{ input := 11 }, wB (fun b => { b with mpt := { b.mpt with scan := some { input := 11 } } }) (wReg []), by decide⟩,
   ⟨wB (fun b => { b with mpt := { b.mpt with todo := [1] } }) (wReg [(F.MPT_STATUS_ROUND, 1)]), by decide⟩,
   ⟨wReg [(F.MPT_STATUS_ISLAND, 1), (F.MPT_ISL_SRC_M, 3)], by decide⟩,
   ⟨wCur [(F.MPT_ISL_CTRL_PC_EN, 1)] (wB (fun b => { b with mpt := { b.mpt with indicating := 1 } }) (wReg [])), by
     decide⟩,
   ⟨wReg [(F.MPT_CTRL_ENABLE, 1)], by decide⟩,
   ⟨wReg [(F.MPT_SCAN_CFG_POINTS, 2), (F.MPT_SCAN_CFG_AVG, 1), (F.MPT_SCAN_CFG_DWELL, 2), (F.MPT_SCAN_PER_PSTART,
     1000), (F.MPT_SCAN_PER_PEND, 900), (F.MPT_SCAN_TON_TICKS, 10), (F.MPT_SCAN_LIM_IMAX, 1)], by decide⟩,
   ⟨0x44, wReg [(F.MPT_SCAN_CFG_POINTS, 1)], by decide⟩,
   ⟨wReg [], by decide⟩,
   ⟨0x5C, wReg [(F.MPT_ISL_CTRL_ACT_MODE, 3)], by decide⟩,
   ⟨wCur [(F.MPT_ISL_PC2_REF_AGE, 100), (F.MPT_ISL_PC2_LEARN, 0)] (wB (fun b =>
     { b with mpt := { b.mpt with baseSet := true, pcT := some 0 }, phs := { b.phs with ref := some { t := 0 } } })
     (wReg [(F.MPT_CTRL_ENABLE, 1), (F.TIM_STATUS_VALID, 1), (F.SYS_GUAR_TIME_INVALID, 0)])), by decide⟩,
   ⟨wCur [(F.MPT_ISL_CTRL_ACT_MODE, 2), (F.MPT_ISL_INJ_REP_MS, 1), (F.MPT_ISL_INJ_ON_MS, 1), (F.MPT_ISL_AMP_I, 1)]
     (wReg [(F.MPT_CTRL_ENABLE, 1)]), by decide⟩,
   ⟨wB (fun b => { b with mpt := { b.mpt with pulse := true, pulseT := some 200000000000 } }) (wReg []), by decide⟩,
   ⟨wAct, by decide, test_active_beyond, by decide, by decide⟩⟩

theorem test_meets_RideThroughCommands :
  (∃ (k : Fin 64) (s : State),
    Live s ∧ timerDue s k = true ∧ s.get F.GRD_STATUS_STATE ≠ 4) ∧
  (∃ (s : State),
    Live s ∧ s.get F.GRD_STATUS_STATE = 2 ∧ resumeDue s = true) ∧
  (∃ (s : State),
    Live s ∧ s.b.grd.active = 0 ∧ s.get F.GRD_STATUS_STATE = 4) ∧
  (∃ (s : State),
    Live s ∧ s.b.grd.active ≠ 0) ∧
  (∃ (s : State),
    Live s) ∧
  (∃ (s : State),
    Live s ∧ timedAllowed s = true ∧ s.on F.GRD_STATUS_SRC_TIMED = false ∧ s.b.grd.learnN ≠ 0 ∧ s.b.grd.learnAt + usCyc
      1000000 ≤ s.b.cyc) ∧
  (∃ (v : Word) (s : State),
    Live s ∧ v.toNat.testBit 0 = false) ∧
  (∃ (v : Word) (s : State),
    Live s ∧ v.toNat.testBit 0 = true ∧ s.on F.GRD_FNOM_F60 = true) ∧
  (∃ (s : State),
    Live s ∧ s.on F.GRD_CTRL_ENABLE = false) ∧
  (∃ (s : State),
    Live s ∧ s.on F.GRD_CTRL_ENABLE = true) ∧
  (∃ (s : State),
    Live s ∧ profileFault s = none) ∧
  (∃ (off : Nat) (s : State),
    Live s ∧ profileFault s = some off) ∧
  (∃ (s : State),
    Live s ∧ s.get F.GRD_SYNC_SLEW ≠ 0) ∧
  (∃ (s : State),
    Live s ∧ s.get F.GRD_SYNC_SLEW = 0) :=
  ⟨⟨2, wCur [(F.GRD_PROF_CAT, 3)] (wB (fun b =>
     { b with grd := { b.grd with active := 4, timers := [(2, 1000000000)] } }) (wReg [])), by decide⟩,
   ⟨wB (fun b => { b with grd := { b.grd with calm := some 1000000000000 } }) (wReg [(F.GRD_STATUS_STATE, 2),
     (F.PWX_STATUS_CESSATION, 1)]), by decide⟩,
   ⟨wReg [(F.GRD_STATUS_STATE, 4), (F.TRP_ACT_SRC 3, 512), (F.PWX_STATUS_CESSATION, 1)], by decide⟩,
   ⟨wB (fun b => { b with grd := { b.grd with active := 4 } }) (wReg []), by decide⟩,
   ⟨wReg [(F.GRD_STATUS_SRC_TIMED, 1)], by decide⟩,
   ⟨wCur [(F.GRD_SYNC_TIMED_EN, 1), (F.GRD_SYNC_REF_AGE, 100)] (wB (fun b =>
     { b with cyc := 1000000000, grd := { b.grd with learnN := 1 }, phs := { b.phs with ref := some { t := 0 } } })
     (wReg [(F.SYS_GUAR_TIME_INVALID, 0)])), by decide⟩,
   ⟨6, wReg [(F.GRD_CTRL_ENABLE, 1), (F.GRD_STATUS_STATE, 1)], by decide⟩,
   ⟨1, wReg [(F.GRD_FNOM_F60, 1)], by decide⟩,
   ⟨wReg [], by decide⟩,
   ⟨wReg [(F.GRD_CTRL_ENABLE, 1)], by decide⟩,
   ⟨wReg [], by decide⟩,
   ⟨0x40, wReg [(F.GRD_STATUS_STATE, 4)], by decide⟩,
   ⟨wReg [(F.GRD_SYNC_SLEW, 1)], by decide⟩,
   ⟨wReg [(F.GRD_SYNC_SLEW, 0)], by decide⟩⟩

theorem test_meets_PhasorCommands :
  (∃ (sec : BitVec 48) (frame : Fin 256) (sets : BitVec 4) (k : Fin 4) (s : State),
    Live s ∧ sets.toNat.testBit k = true ∧ frame.val < (phsView s sec.toNat).cur F.PHS_RATE_FS ∧ (∀ j : Fin 4,
      sets.toNat.testBit j = true → (phsActive (phsView s sec.toNat)).testBit j = true ∧ setReady (phsView s
      sec.toNat) j (sec.toNat * tuSec + frame.val * tuSec / (phsView s sec.toNat).cur F.PHS_RATE_FS) = true ∧
      (((phsView s sec.toNat).b.phs.sets.getD j none).any fun p => decide ((sec.toNat * tuSec + frame.val * tuSec /
      (phsView s sec.toNat).cur F.PHS_RATE_FS) ≤ p.1)) = false)) ∧
  (∃ (n : Fin 8) (f : Frame) (s : State),
    Live s ∧ ringCarries s n = true ∧ f.cls = 2 ∧ f.type = 0x21 ∧ f.dest = 0xFFF ∧ f.data.length = 4 ∧ f.hops ≠ 0 ∧
      f.crcOk = true ∧ f.src = s.cur F.PHS_REF_SRC ∧ s.on F.PHS_CTRL_REF_TX = false ∧ s.b.phs.ref = none) ∧
  (∃ (s : State),
    Live s ∧ s.on F.PHS_STATUS_REF_OK = true ∧ ((refAge s).any fun a => decide (a < 32768000000000)) = false) ∧
  (∃ (s : State),
    Live s ∧ rateAllowed s (s.get F.PHS_RATE_FS) = true ∧ s.get F.PHS_RATE_FS < 200) ∧
  (∃ (s : State),
    Live s ∧ rateAllowed s (s.get F.PHS_RATE_FS) = false) ∧
  (∃ (v : Word) (s : State),
    Live s ∧ v.toNat.testBit 0 = false) ∧
  (∃ (v : Word) (s : State),
    Live s ∧ v.toNat.testBit 0 = true) ∧
  (∃ (det : Fin 8) (peak : BitVec 16) (neg : Bool) (gap : Bool) (g : TwTrigger) (s : State),
    Live s ∧ (s.get F.TWV_STATUS_ACTIVE).testBit det = true ∧ (s.b.twv.trig.getD det []).find? (fun q => !q.told &&
      q.after == g.after) = some g ∧ s.cur (F.TWV_DET_CFG_D det) + 2 ≤ g.after ∧ peak.toNat = (topOf s det
      g.after).natAbs ∧ neg = decide (topOf s det g.after < 0) ∧ gap = gapBefore s det g.after) ∧
  (∃ (det : Fin 8) (g : TwTrigger) (s : State),
    Live s ∧ (s.b.twv.trig.getD det []).find? (fun q => q.stored && q.after == g.after) = some g ∧ 767 ≤ g.after) ∧
  (∃ (n : Fin 8) (f : Frame) (s : State),
    Live s ∧ ringCarries s n = true ∧ f.cls = 2 ∧ f.type = 0x22 ∧ f.dest = s.get F.RDG_ADDR_ADDR ∧ f.data.length = 3 ∧
      f.hops ≠ 0 ∧ f.crcOk = true ∧ s.b.twv.mine = []) ∧
  (∃ (s : State),
    Live s ∧ twvFault s = none) ∧
  (∃ (off : Nat) (s : State),
    Live s ∧ twvFault s = some off) ∧
  (∃ (s : State),
    Live s) :=
  ⟨⟨5, 49, 8, 3, wCur [(F.PHS_SET_CFG_EN 3, 1), (F.PHS_RATE_FS, 50)] (wB (fun b =>
     { b with tim := { b.tim with t := 3276800000000000 } }) (wReg [(F.PHS_CTRL_ENABLE, 1)])), by decide +kernel⟩,
   ⟨0, (sealed { cls := 2, type := 0x21, src := 3, dest := 0xFFF, hops := 4, data := [5, 6, 7, 8] }), wCur
     [(F.PHS_REF_SRC, 3)] (wReg [(F.RDG_CTRL_ENABLE, 1), (F.LNK_STATUS_READY 0, 1), (F.LNK_STATUS_ROLE 0, 1),
     (F.RDG_ADDR_ADDR, 9)]), by decide +kernel⟩,
   ⟨wReg [(F.PHS_STATUS_REF_OK, 1)], by decide⟩,
   ⟨wReg [(F.PHS_RATE_FS, 60)], by decide⟩,
   ⟨wReg [(F.PHS_RATE_FS, 7)], by decide⟩,
   ⟨0, wReg [(F.PHS_CTRL_ENABLE, 1)], by decide⟩,
   ⟨1, wReg [], by decide⟩,
   ⟨7, 0, false, false, { after := 17 }, wB (fun b =>
     { b with twv := { b.twv with trig := b.twv.trig.set 7 [{ after := 17 }], hist := b.twv.hist.set 7 [(5, 0, false), (9, 0, false)] } })
     (wReg [(F.TWV_STATUS_ACTIVE, 0x80)]), by decide⟩,
   ⟨7, { after := 767, stored := true }, wB (fun b =>
     { b with twv := { b.twv with trig := b.twv.trig.set 7 [{ after := 767, stored := true }] } }) (wReg
     [(F.TWV_STATUS_CAPTURING, 0x80)]), by decide⟩,
   ⟨0, (sealed { cls := 2, type := 0x22, src := 3, dest := 9, hops := 4, data := [0, 6, 7] }), wCur [(F.TWV_SEG_CFG_EN
     7, 1), (F.TWV_SEG_PART_ADDR 7, 3)] (wReg [(F.RDG_CTRL_ENABLE, 1), (F.LNK_STATUS_READY 0, 1), (F.LNK_STATUS_ROLE
     0, 1), (F.RDG_ADDR_ADDR, 9)]), by decide +kernel⟩,
   ⟨wReg [], by decide⟩,
   ⟨0x270, wReg [(F.TWV_DET_CFG_EN 7, 1)], by decide⟩,
   ⟨wReg [], by decide⟩⟩

theorem test_meets_FastConverterCommands :
  (∃ (k : Fin 16) (input : Fin 8) (ago : Nat) (q : Sample) (s : State),
    Live s ∧ s.on F.FAD_CTRL_ENABLE = true ∧ s.b.ke0.timer = true ∧ (convOf s k).pipe.head? = some q ∧ q.at' + ago =
      s.b.cyc ∧ 80 ≤ ago ∧ q.input = input ∧ q.input < 4 ∧ q.kind = 0) ∧
  (∃ (k : Fin 16) (input : Fin 8) (ago : Nat) (q : Sample) (s : State),
    Live s ∧ s.on F.FAD_CTRL_ENABLE = true ∧ s.b.ke0.timer = true ∧ (convOf s k).pipe.head? = some q ∧ q.at' + ago =
      s.b.cyc ∧ 80 ≤ ago ∧ q.input = input ∧ 4 ≤ q.input ∧ q.kind = 0 ∧ q.line = none) ∧
  (∃ (input : Fin 8) (ago : Nat) (s : State),
    Live s ∧ s.on F.FAD_CTRL_ENABLE = true ∧ s.b.ke0.timer = true ∧ 80 ≤ ago ∧ 4 ≤ input.val ∧ fcsConverts s input =
      true ∧ phaseLasted s ago = true) ∧
  (∃ (k : Fin 16) (input : Fin 8) (ago : Nat) (q : Sample) (s : State),
    Live s ∧ s.on F.FAD_CTRL_ENABLE = true ∧ s.b.ke0.timer = true ∧ (convOf s k).pipe.head? = some q ∧ q.at' + ago =
      s.b.cyc ∧ 80 ≤ ago ∧ q.input = input ∧ q.kind = 0 ∧ q.pair = true ∧ overlaps s k = true ∧ s.b.fac.pairs < 1024
      ∧ s.b.fac.row < 8) ∧
  (∃ (u : Fin 32) (s : State),
    Live s ∧ (s.curOn (F.FAD_URG_CFG_FLAG_EN u) || s.curOn (F.FAD_URG_CFG_TRIP_EN u)) = true ∧ s.curOn (F.FAD_URG_CFG_EN
      u) = true ∧ s.on F.FAD_CTRL_ENABLE = true ∧ s.b.ke0.timer = true ∧ s.cur (F.FAD_URG_CFG_FC u) < 16 ∧ urgHeld s
      (s.cur (F.FAD_URG_CFG_FC u)) = false) ∧
  (∃ (k : Fin 16) (u : Urgent) (s : State),
    Live s ∧ (convOf s k).urg = some u ∧ u.placed = false ∧ u.counted = false ∧ u.due ≤ s.b.cyc ∧ (s.b.fad.trigAt.any
      fun a => decide (s.b.cyc < a + 16)) = false) ∧
  (∃ (k : Fin 16) (u : Urgent) (s : State),
    Live s ∧ (convOf s k).urg = some u ∧ u.placed = false ∧ u.due ≤ s.b.cyc ∧ (s.b.fad.trigAt.any fun a => decide
      (s.b.cyc < a + 16)) = true) ∧
  (∃ (s : State),
    Live s) ∧
  (∃ (s : State),
    Live s) ∧
  (∃ (s : State),
    Live s ∧ s.on F.FAC_CTRL_ENABLE = true ∧ facIn s 5 = true ∧ s.b.ke0.timer = true ∧ groupWaits s .fac = false ∧ s.cur
      F.FAC_CFG_VISIT_MS ≠ 0 ∧ s.cur F.FAC_ROT_EN_FC ≠ 0 ∧ (facNext s s.b.fac.last).isSome = true ∧ s.b.fad.trigAt =
      some s.b.cyc ∧ (s.b.fac.visitAt.any fun a => decide (s.b.cyc < a + usCyc (1000 * s.cur F.FAC_CFG_VISIT_MS))) =
      false) ∧
  (∃ (gnd : Int) (calP : Int) (s : State),
    Live s ∧ facIn s 1 = true ∧ phaseLasted s 2048 = true ∧ visited s ≠ 16 ∧ (gnd - s.b.fac.gnd).natAbs ≤ s.cur
      F.FAC_FCS_LIM_CODES ∧ (calP - s.b.fac.calP).natAbs ≤ s.cur F.FAC_FCS_LIM_CODES) ∧
  (∃ (gnd : Int) (s : State),
    Live s ∧ facIn s 1 = true ∧ phaseLasted s 2048 = true ∧ s.cur F.FAC_FCS_LIM_CODES < (gnd - s.b.fac.gnd).natAbs) ∧
  (∃ (s : State),
    Live s ∧ facIn s 2 = true ∧ s.b.fac.due = 0 ∧ s.b.fac.pairs = 1024 ∧ s.b.fac.row ≠ 8) ∧
  (∃ (s : State),
    Live s ∧ facIn s 4 = true ∧ s.b.fac.due = 0 ∧ s.b.fac.row = 8 ∧ visited s < 16) ∧
  (∃ (ofs : Int) (dev : Int) (dac : Int) (skew : Int) (s : State),
    Live s ∧ facIn s 3 = true ∧ phaseLasted s (usCyc 29000) = true ∧ visited s ≠ 16 ∧ calFault ofs dev dac skew = none) ∧
  (∃ (ofs : Int) (dev : Int) (dac : Int) (skew : Int) (step : Nat) (s : State),
    Live s ∧ facIn s 3 = true ∧ phaseLasted s (usCyc 29000) = true ∧ visited s < 16 ∧ calFault ofs dev dac skew = some
      step) ∧
  (∃ (s : State),
    Live s ∧ facIn s 6 = true ∧ fcsSuspect s = false ∧ s.on F.FAC_CTRL_ENABLE = false) ∧
  (∃ (s : State),
    Live s ∧ facIn s 6 = true ∧ fcsSuspect s = false ∧ s.on F.FAC_CTRL_ENABLE = true ∧ groupWaits s .fac = false ∧ s.cur
      F.FAC_CFG_VISIT_MS ≠ 0 ∧ s.cur F.FAC_ROT_EN_FC ≠ 0 ∧ (facNext s s.b.fac.last).isSome = true) ∧
  (∃ (s : State),
    Live s ∧ facIn s 6 = false) ∧
  (∃ (s : State),
    Live s ∧ facIn s 7 = true) ∧
  (∃ (s : State),
    Live s ∧ facIn s 6 = true) ∧
  (∃ (s : State),
    Live s ∧ facIn s 5 = true ∧ fcsSuspect s = false) ∧
  (∃ (v : Word) (s : State),
    Live s ∧ s.on F.FAC_CTRL_ENABLE = true ∧ v.toNat.testBit 0 = false ∧ facIn s 7 = false) ∧
  (∃ (v : Word) (s : State),
    Live s ∧ v.toNat.testBit 0 = true) ∧
  (∃ (s : State),
    Live s ∧ (s.get F.FAC_CFG_VISIT_MS = 0 ∨ 30 ≤ s.get F.FAC_CFG_VISIT_MS) ∧ s.get F.FAC_CFG_OVL_THR ≠ 0 ∧ s.get
      F.FAC_FCS_LIM_CODES ≠ 0) ∧
  (∃ (s : State),
    Live s ∧ ((1 ≤ s.get F.FAC_CFG_VISIT_MS ∧ s.get F.FAC_CFG_VISIT_MS ≤ 29) ∨ s.get F.FAC_CFG_OVL_THR = 0)) :=
  ⟨⟨15, 3, 90, { input := 3 }, wB (fun b =>
     { b with cyc := 90, ke0 := { b.ke0 with timer := true }, fad := { b.fad with convs := b.fad.convs.set 15 { pipe := [{ input := 3 }] } } })
     (wReg [(F.FAD_CTRL_ENABLE, 1)]), by decide⟩,
   ⟨15, 7, 90, { input := 7 }, wB (fun b =>
     { b with cyc := 90, ke0 := { b.ke0 with timer := true }, fad := { b.fad with convs := b.fad.convs.set 15 { pipe := [{ input := 7 }] } } })
     (wReg [(F.FAD_CTRL_ENABLE, 1)]), by decide⟩,
   ⟨6, 80, wB (fun b =>
     { b with cyc := 90, ke0 := { b.ke0 with timer := true }, fac := { b.fac with phaseAt := some 0 } }) (wReg
     [(F.FAD_CTRL_ENABLE, 1), (F.FAC_STATUS_STATE, 1)]), by decide⟩,
   ⟨15, 3, 90, { input := 3, pair := true }, wB (fun b =>
     { b with cyc := 90, ke0 := { b.ke0 with timer := true }, fad := { b.fad with convs := b.fad.convs.set 15 { pipe := [{ input := 3, pair := true }] } }, fac := { b.fac with phaseAt := some 0, row := 7 } })
     (wReg [(F.FAD_CTRL_ENABLE, 1), (F.FAC_STATUS_STATE, 2), (F.FAC_STATUS_VISIT, 15)]), by decide⟩,
   ⟨31, wCur [(F.FAD_URG_CFG_EN 31, 1), (F.FAD_URG_CFG_FLAG_EN 31, 1), (F.FAD_URG_CFG_FC 31, 15)] (wB (fun b =>
     { b with ke0 := { b.ke0 with timer := true } }) (wReg [(F.FAD_CTRL_ENABLE, 1)])), by decide⟩,
   ⟨15, { line := 3 }, wB (fun b =>
     { b with fad := { b.fad with convs := b.fad.convs.set 15 { urg := some { line := 3 } } } }) (wReg []), by
     decide⟩,
   ⟨15, { line := 3 }, wB (fun b =>
     { b with cyc := 5, fad := { b.fad with trigAt := some 0, convs := b.fad.convs.set 15 { urg := some { line := 3 } } } })
     (wReg []), by decide⟩,
   ⟨wReg [], by decide⟩,
   ⟨wReg [], by decide⟩,
   ⟨wCur [(F.FAC_CFG_VISIT_MS, 30), (F.FAC_ROT_EN_FC, 1)] (wB (fun b =>
     { b with ke0 := { b.ke0 with timer := true }, fad := { b.fad with trigAt := some 0 } }) (wReg
     [(F.FAC_CTRL_ENABLE, 1), (F.FAC_STATUS_STATE, 5)])), by decide⟩,
   ⟨(-32768), 29127, wB (fun b => { b with cyc := 100000000, fac := { b.fac with phaseAt := some 0 } }) (wReg
     [(F.FAC_STATUS_STATE, 1), (F.FAC_SUSPECT_FC, 65536)]), by decide⟩,
   ⟨32767, wB (fun b => { b with cyc := 100000000, fac := { b.fac with phaseAt := some 0 } }) (wReg
     [(F.FAC_STATUS_STATE, 1)]), by decide⟩,
   ⟨wB (fun b => { b with fac := { b.fac with pairs := 1024 } }) (wReg [(F.FAC_STATUS_STATE, 2)]), by decide⟩,
   ⟨wB (fun b => { b with fac := { b.fac with row := 8, pairs := 9 } }) (wReg [(F.FAC_STATUS_STATE, 4),
     (F.FAC_STATUS_VISIT, 15)]), by decide⟩,
   ⟨8192, (-335544), 64, (-64), wB (fun b => { b with cyc := 100000000, fac := { b.fac with phaseAt := some 0 } })
     (wReg [(F.FAC_STATUS_STATE, 3)]), by decide⟩,
   ⟨8193, 0, 0, 0, 0, wB (fun b => { b with cyc := 100000000, fac := { b.fac with phaseAt := some 0 } }) (wReg
     [(F.FAC_STATUS_STATE, 3), (F.FAC_STATUS_VISIT, 15)]), by decide⟩,
   ⟨wReg [(F.FAC_STATUS_STATE, 6)], by decide⟩,
   ⟨wCur [(F.FAC_CFG_VISIT_MS, 30), (F.FAC_ROT_EN_FC, 1)] (wReg [(F.FAC_CTRL_ENABLE, 1), (F.FAC_STATUS_STATE, 6)]), by
     decide⟩,
   ⟨wReg [], by decide⟩,
   ⟨wReg [(F.FAC_STATUS_STATE, 7)], by decide⟩,
   ⟨wReg [(F.FAC_STATUS_STATE, 6), (F.FAC_SUSPECT_FC, 65536)], by decide⟩,
   ⟨wReg [(F.FAC_STATUS_STATE, 5)], by decide⟩,
   ⟨0, wReg [(F.FAC_CTRL_ENABLE, 1), (F.FAC_STATUS_STATE, 3)], by decide⟩,
   ⟨1, wReg [], by decide⟩,
   ⟨wReg [(F.FAC_CFG_VISIT_MS, 30), (F.FAC_CFG_OVL_THR, 1), (F.FAC_FCS_LIM_CODES, 1)], by decide⟩,
   ⟨wReg [(F.FAC_CFG_VISIT_MS, 29), (F.FAC_CFG_OVL_THR, 1)], by decide⟩⟩

theorem test_meets_MetrologyCommands :
  (∃ (s : State),
    PowerLive s ∧ metRuns s = true ∧ s.b.met.subs < 256) ∧
  (∃ (s : State),
    PowerLive s ∧ metRuns s = true ∧ s.b.met.subs = 256) ∧
  (∃ (s : State),
    PowerLive s ∧ s.b.met.mclk = true) ∧
  (∃ (ms : BitVec 32) (s : State),
    PowerLive s ∧ s.b.met.mclk = false ∧ s.b.sys.inReset = false ∧ (ms.toNat = cycUs (s.b.cyc - s.b.met.mclkAt) / 1000 ∨
      ms.toNat = (cycUs (s.b.cyc - s.b.met.mclkAt) + 999) / 1000)) ∧
  (∃ (s : State),
    dieLinkOk s = true ∧ s.b.met.frozen = false) ∧
  (∃ (s : State),
    dieLinkOk s = true ∧ s.on F.MTC_STATUS_LOCKED = false) ∧
  (∃ (s : State),
    dieLinkOk s = true ∧ s.on F.MTC_STATUS_LOCKED = true) ∧
  (∃ (s : State),
    dieLinkOk s = true ∧ s.on F.MET_STATUS_CHK_PARKED = true) ∧
  (∃ (s : State),
    dieLinkOk s = true) ∧
  (∃ (s : State),
    dieLinkOk s = true) ∧
  (∃ (p : Fin 4) (s : State),
    PowerLive s ∧ s.get (F.MET_PULSE_PEND_N p) ≠ 0 ∧ s.get (F.MET_PULSE_PEND_N p) < 2 ^ 32 ∧ s.curOn (F.MET_PULSE_CFG_EN
      p) = true ∧ mclkOn s = true ∧ s.b.met.out.getD p false = false ∧ s.b.met.edgeAt.getD p 0 + pulseHigh s p ≤
      s.b.cyc ∧ (p.val < 2 ∨ s.on F.BUT_ARB_CTRL_EN = false)) ∧
  (∃ (p : Fin 4) (s : State),
    PowerLive s ∧ s.b.met.out.getD p false = true ∧ s.b.met.edgeAt.getD p 0 + s.b.met.high.getD p 0 ≤ s.b.cyc) ∧
  (∃ (s : State),
    dieLinkOk s = true) ∧
  (∃ (s : State),
    dieLinkOk s = true ∧ (∀ p : Fin 4, s.get (F.MET_PULSE_CFG_IDX p) % 8 ≠ 7 ∧ 10 ≤ s.get (F.MET_PULSE_CFG_WIDTH p) ∧
      s.get (F.MET_PULSE_CFG_WIDTH p) ≤ 80)) ∧
  (∃ (s : State),
    dieLinkOk s = true ∧ s.get (F.MET_PULSE_CFG_IDX 0) % 8 = 7) ∧
  (∃ (s : State),
    dieLinkOk s = true) ∧
  (∃ (s : State),
    dieLinkOk s = true ∧ s.on F.MTC_STATUS_LOCKED = false ∧ (∀ c : Fin 8, s.get (F.MTC_CAL_TC_N c) ≤ 32 ∧ ascends s c
      (s.get (F.MTC_CAL_TC_N c)) = true)) ∧
  (∃ (c : Fin 8) (s : State),
    dieLinkOk s = true ∧ s.on F.MTC_STATUS_LOCKED = false ∧ ascends s c (s.get (F.MTC_CAL_TC_N c)) = false) ∧
  (∃ (s : State),
    dieLinkOk s = true ∧ s.on F.MTC_STATUS_LOCKED = true) ∧
  (∃ (s : State),
    PowerLive s ∧ s.b.met.textAt + usCyc 10000000 ≤ s.b.cyc) ∧
  (∃ (s : State),
    s.b.met.watch = true) :=
  ⟨⟨wB (fun b => { b with sys := { b.sys with pwrReset := false } }) (wReg [(F.MET_CTRL_ENABLE, 1)]), by decide⟩,
   ⟨wB (fun b => { b with sys := { b.sys with pwrReset := false }, met := { b.met with subs := 256 } }) (wReg
     [(F.MET_CTRL_ENABLE, 1), (F.MET_STATUS_CYCLE, 255)]), by decide⟩,
   ⟨wB (fun b => { b with sys := { b.sys with pwrReset := false } }) (wReg [(F.MET_STATUS_RUN, 1)]), by decide⟩,
   ⟨2, wB (fun b =>
     { b with sys := { b.sys with pwrReset := false }, cyc := 156500, met := { b.met with mclk := false } }) (wReg
     [(F.MET_CTRL_ENABLE, 1)]), by decide⟩,
   ⟨wReg [(F.SYS_GUAR_DIE_LINK, 0)], by decide⟩,
   ⟨wReg [(F.SYS_GUAR_DIE_LINK, 0)], by decide⟩,
   ⟨wReg [(F.SYS_GUAR_DIE_LINK, 0), (F.MTC_STATUS_LOCKED, 1)], by decide⟩,
   ⟨wReg [(F.SYS_GUAR_DIE_LINK, 0), (F.MET_STATUS_CHK_PARKED, 1)], by decide⟩,
   ⟨wReg [(F.SYS_GUAR_DIE_LINK, 0)], by decide⟩,
   ⟨wReg [(F.SYS_GUAR_DIE_LINK, 0)], by decide⟩,
   ⟨3, wCur [(F.MET_PULSE_CFG_EN 3, 1)] (wB (fun b =>
     { b with cyc := 100000000, sys := { b.sys with pwrReset := false } }) (wReg [(F.MET_PULSE_PEND_N 3, 2)])), by
     decide⟩,
   ⟨3, wB (fun b =>
     { b with sys := { b.sys with pwrReset := false }, met := { b.met with out := [false, false, false, true] } })
     (wReg []), by decide⟩,
   ⟨wReg [(F.SYS_GUAR_DIE_LINK, 0)], by decide⟩,
   ⟨wReg [(F.SYS_GUAR_DIE_LINK, 0), (F.MET_PULSE_CFG_WIDTH 0, 10), (F.MET_PULSE_CFG_WIDTH 1, 80),
     (F.MET_PULSE_CFG_WIDTH 2, 80), (F.MET_PULSE_CFG_WIDTH 3, 80)], by decide⟩,
   ⟨wReg [(F.SYS_GUAR_DIE_LINK, 0), (F.MET_PULSE_CFG_IDX 0, 31)], by decide⟩,
   ⟨wReg [(F.SYS_GUAR_DIE_LINK, 0)], by decide⟩,
   ⟨wReg [(F.SYS_GUAR_DIE_LINK, 0)], by decide⟩,
   ⟨7, wReg [(F.SYS_GUAR_DIE_LINK, 0), (F.MTC_CAL_TC_N 7, 2)], by decide⟩,
   ⟨wReg [(F.SYS_GUAR_DIE_LINK, 0), (F.MTC_STATUS_LOCKED, 1)], by decide⟩,
   ⟨wB (fun b => { b with cyc := 10000000000, sys := { b.sys with pwrReset := false } }) (wReg []), by decide⟩,
   ⟨wB (fun b => { b with met := { b.met with watch := true } }) (wReg []), by decide⟩⟩

theorem test_meets_ParapetCommands :
  (∃ (s : State),
    Live s ∧ PowerLive s) ∧
  (∃ (s : State),
    Live s ∧ s.b.par.frameAt + usCyc 1500 ≤ s.b.cyc) ∧
  (∃ (pin : Fin 16) (us : BitVec 16) (s : State),
    Live s ∧ s.b.par.raw1 < 65536 ∧ s.b.par.raw2 < 65536 ∧ 100 * s.cur (F.PAR_SIN_CFG_FILT (pin % 8)) ≤ us.toNat ∧
      pinMasked s pin = false) ∧
  (∃ (pin : Fin 16) (us : BitVec 16) (s : State),
    Live s ∧ s.b.par.raw1 < 65536 ∧ s.b.par.raw2 < 65536 ∧ us.toNat < 100 * s.cur (F.PAR_SIN_CFG_FILT (pin % 8))) ∧
  (∃ (pin : Fin 16) (us : BitVec 16) (s : State),
    Live s ∧ s.b.par.raw1 < 65536 ∧ s.b.par.raw2 < 65536 ∧ 100 * (chanView s 1).cur (F.PAR_SIN_CFG_FILT (pin % 8)) ≤
      us.toNat ∧ pinMasked (chanView s 1) pin = false) ∧
  (∃ (pin : Fin 16) (us : BitVec 16) (s : State),
    Live s ∧ s.b.par.raw1 < 65536 ∧ s.b.par.raw2 < 65536 ∧ us.toNat < 100 * (chanView s 1).cur (F.PAR_SIN_CFG_FILT (pin
      % 8))) ∧
  (∃ (ch : Fin 2) (x : Fin 8) (s : State),
    Live s ∧ discLong s ch x = true) ∧
  (∃ (x : Fin 8) (s : State),
    Live s ∧ discLong s 0 x = false ∧ discLong s 1 x = false) ∧
  (∃ (ch : Fin 2) (pin : Fin 16) (k : Nat) (s : State),
    Live s ∧ PowerLive s ∧ pinTps (chanView s ch) pin = true ∧ tpsStart (chanView s ch) pin + usCyc 500 ≤ tpsPhase s ∧
      s.b.par.tpsAt.getD (16 * ch + pin) none = some k ∧ k + 1 = tpsFrame s ∧ 1 ≤ s.b.par.missed.getD (16 * ch +
      pin) 0) ∧
  (∃ (ch : Fin 2) (pin : Fin 16) (s : State),
    Live s ∧ PowerLive s ∧ pinTps (chanView s ch) pin = true ∧ tpsStart (chanView s ch) pin + usCyc 500 ≤ tpsPhase s ∧
      ((s.b.par.tpsAt.getD (16 * ch + pin) none).any fun k => decide (tpsFrame s ≤ k)) = false) ∧
  (∃ (ch : Fin 2) (pin : Fin 16) (k : Nat) (s : State),
    Live s ∧ PowerLive s ∧ pinTps (chanView s ch) pin = true ∧ tpsStart (chanView s ch) pin + usCyc 500 ≤ tpsPhase s ∧
      s.b.par.tpsAt.getD (16 * ch + pin) none = some k ∧ k + 1 < tpsFrame s) ∧
  (∃ (s : State),
    Live s) ∧
  (∃ (mv : BitVec 16) (s : State),
    Live s ∧ PowerLive s ∧ vsafeIn mv.toNat = false) ∧
  (∃ (mv : BitVec 16) (s : State),
    PowerLive s ∧ vsafeIn mv.toNat = true) ∧
  (∃ (ch : Fin 2) (hs : BitVec 16) (ls : BitVec 16) (vsafe : BitVec 16) (s : State),
    Live s ∧ chanLive s ch = true ∧ darkWindow s = false ∧ (readbackOf (s.on F.PAR_STATUS_OUT_ON) hs.toNat ls.toNat
      vsafe.toNat).1 = 0) ∧
  (∃ (ch : Fin 2) (hs : BitVec 16) (ls : BitVec 16) (vsafe : BitVec 16) (s : State),
    Live s ∧ chanLive s ch = true ∧ darkWindow s = false ∧ (readbackOf (s.on F.PAR_STATUS_OUT_ON) hs.toNat ls.toNat
      vsafe.toNat).1 = 2) ∧
  (∃ (s : State),
    Live s ∧ parIn s 2 = true ∧ s.b.par.dark = none ∧ s.cur F.PAR_CFG_DARK_S ≠ 0 ∧ darkDue s = true) ∧
  (∃ (level : BitVec 16) (k : Nat) (s : State),
    Live s ∧ s.b.par.dark = some k ∧ s.b.par.darkAt + usCyc (10 * s.cur F.PAR_CFG_DARK_W) ≤ s.b.cyc ∧ k % 2 = 0 ∧
      level.toNat < 5000) ∧
  (∃ (level : BitVec 16) (k : Nat) (s : State),
    Live s ∧ s.b.par.dark = some k ∧ s.b.par.darkAt + usCyc (10 * s.cur F.PAR_CFG_DARK_W) ≤ s.b.cyc ∧ k < 4 ∧ k % 2 = 0
      ∧ 5000 ≤ level.toNat) ∧
  (∃ (us1 : Nat) (us2 : Nat) (s : State),
    Live s ∧ resetRefused s us1 us2 = none) ∧
  (∃ (us1 : Nat) (us2 : Nat) (c : Nat) (s : State),
    Live s ∧ resetRefused s us1 us2 = some c) ∧
  (∃ (s : State),
    Live s) ∧
  (∃ (s : State),
    Live s ∧ PowerLive s ∧ parIn s 0 = true ∧ s.b.par.st2 = 0 ∧ diesTogether s = true) ∧
  (∃ (s : State),
    Live s ∧ PowerLive s ∧ parIn s 0 = true) ∧
  (∃ (s : State),
    Live s ∧ parRefused s = none) ∧
  (∃ (off : Nat) (s : State),
    Live s ∧ parRefused s = some off) :=
  ⟨⟨wB (fun b => { b with sys := { b.sys with pwrReset := false } }) (wReg []), by decide⟩,
   ⟨wB (fun b => { b with cyc := 234375 }) (wReg [(F.PAR_STATUS_STATE, 2)]), by decide⟩,
   ⟨15, 0, wReg [], by decide⟩,
   ⟨15, 999, wCur [(F.PAR_SIN_CFG_FILT 7, 10)] (wReg []), by decide⟩,
   ⟨15, 0, wReg [], by decide⟩,
   ⟨15, 999, wB (fun b =>
     { b with par := { b.par with cfg2 := parWords (wCur [(F.PAR_SIN_CFG_FILT 7, 10)] (wReg [])) } }) (wReg []), by
     decide +kernel⟩,
   ⟨1, 7, wB (fun b => { b with cyc := 1, par := { b.par with discAt := b.par.discAt.set 15 (some 0) } }) (wReg []), by
     decide⟩,
   ⟨7, wReg [], by decide⟩,
   ⟨1, 15, 1, wB (fun b =>
     { b with cyc := 6328125, sys := { b.sys with pwrReset := false }, par := { b.par with cfg2 := parWords (wCur [(F.PAR_SIN_CFG_EN 7, 1), (F.PAR_SIN_CFG_TPSB_EN 7, 1)] (wReg [])), tpsAt := b.par.tpsAt.set 31 (some 1), missed := b.par.missed.set 31 1 } })
     (wReg []), by decide +kernel⟩,
   ⟨1, 15, wB (fun b =>
     { b with cyc := 6328125, sys := { b.sys with pwrReset := false }, par := { b.par with cfg2 := parWords (wCur [(F.PAR_SIN_CFG_EN 7, 1), (F.PAR_SIN_CFG_TPSB_EN 7, 1)] (wReg [])), tpsAt := b.par.tpsAt.set 31 (some 1), missed := b.par.missed.set 31 1 } })
     (wReg []), by decide +kernel⟩,
   ⟨1, 15, 0, wB (fun b =>
     { b with cyc := 6328125, sys := { b.sys with pwrReset := false }, par := { b.par with cfg2 := parWords (wCur [(F.PAR_SIN_CFG_EN 7, 1), (F.PAR_SIN_CFG_TPSB_EN 7, 1)] (wReg [])), tpsAt := b.par.tpsAt.set 31 (some 0), missed := b.par.missed.set 31 1 } })
     (wReg []), by decide +kernel⟩,
   ⟨wReg [(F.PAR_STATUS_STATE, 2)], by decide⟩,
   ⟨19199, wB (fun b => { b with sys := { b.sys with pwrReset := false } }) (wReg []), by decide⟩,
   ⟨30000, wB (fun b => { b with sys := { b.sys with pwrReset := false } }) (wReg []), by decide⟩,
   ⟨0, 24000, 0, 24000, wReg [(F.PAR_STATUS_OUT_ON, 1)], by decide⟩,
   ⟨0, 0, 0, 24000, wReg [(F.PAR_STATUS_OUT_ON, 1)], by decide⟩,
   ⟨wCur [(F.PAR_CFG_DARK_S, 1)] (wB (fun b => { b with cyc := 156250000 }) (wReg [(F.PAR_STATUS_STATE, 2)])), by
     decide⟩,
   ⟨4999, 2, wB (fun b => { b with cyc := 10000000000, par := { b.par with dark := some 2 } }) (wReg []), by decide⟩,
   ⟨5000, 2, wB (fun b => { b with cyc := 10000000000, par := { b.par with dark := some 2 } }) (wReg []), by decide⟩,
   ⟨50000, 3000000, wCur [(F.PAR_SIN_CFG_EN 0, 1), (F.PAR_SIN_CFG_MODE 0, 0)] (wB (fun b =>
     { b with par := { b.par with filt1 := 0x101, filt2 := 0x101 } }) (wReg [(F.PAR_STATUS_STATE, 1),
     (F.PAR_STATUS_RESET_HIGH, 1)])), by decide⟩,
   ⟨49999, 60000, 0, wReg [], by decide⟩,
   ⟨wReg [], by decide⟩,
   ⟨wB (fun b => { b with sys := { b.sys with pwrReset := false, pwrReleaseAt := some 7 } }) (wReg []), by decide⟩,
   ⟨wB (fun b => { b with sys := { b.sys with pwrReset := false, pwrReleaseAt := some 7 } }) (wReg []), by decide⟩,
   ⟨wReg [], by decide⟩,
   ⟨0x044, wReg [(F.PAR_CFG_DARK_S, 1), (F.PAR_CFG_DARK_W, 4)], by decide⟩⟩

theorem test_meets_ButtressCommands :
  (∃ (v : Word) (s : State),
    Live s ∧ s.on F.BUT_CTRL_ENABLE = false ∧ v.toNat.testBit 0 = true ∧ butFaults s = 0) ∧
  (∃ (v : Word) (s : State),
    Live s ∧ v.toNat.testBit 0 = false ∧ s.on F.BUT_CTRL_ENABLE = true) ∧
  (∃ (s : State),
    Live s ∧ butIn s 1 = true ∧ butFaults s = 0 ∧ butReady (after butFaultUpdate s) = true) ∧
  (∃ (s : State),
    Live s ∧ s.on F.BUT_CTRL_ENABLE = true ∧ butIn s 2 = true ∧ butReady s = true) ∧
  (∃ (s : State),
    Live s ∧ s.on F.BUT_CTRL_ENABLE = true ∧ butIn s 1 = true) ∧
  (∃ (s : State),
    Live s ∧ s.b.but.takeoverDue = true ∧ butIn s 2 = true ∧ s.on F.BUT_STATUS_GRANT = true ∧ s.b.fad.trigAt = some
      s.b.cyc ∧ s.b.but.grantAt + usCyc 1 ≤ s.b.cyc ∧ butFaults s = 0 ∧ s.b.fpm.satTake = false ∧ (s.b.fpm.ch.any
      fun q => q.take) = false) ∧
  (∃ (s : State),
    Live s ∧ butIn s 3 = true ∧ s.on F.BUT_STATUS_MIRROR_LOST = false) ∧
  (∃ (s : State),
    Live s ∧ butIn s 2 = true) ∧
  (∃ (s : State),
    Live s ∧ butIn s 2 = false) ∧
  (∃ (s : State),
    Live s ∧ s.b.but.reqCmd = true ∧ s.b.but.reqAt + usCyc 100000 ≤ s.b.cyc) ∧
  (∃ (s : State),
    Live s ∧ s.b.cyc < s.b.but.reqAt + usCyc 100000) ∧
  (∃ (s : State),
    Live s ∧ butIn s 2 = true ∧ s.on F.BUT_CTRL_ROLE = false ∧ s.on F.BUT_CTRL_AUTO_REVERT = true ∧ butReady s = true ∧
      s.on F.BUT_STATUS_READY = true ∧ s.b.but.readyAt + usCyc (1000000 * s.get F.BUT_HOLD_S) ≤ s.b.cyc ∧
      s.b.but.reqAuto = false) ∧
  (∃ (f : Frame) (s : State),
    Live s ∧ mirTaken s f 0x50 = true) ∧
  (∃ (f : Frame) (s : State),
    Live s ∧ mirTaken s f 0x50 = true ∧ bitsOf (f.data.getD 0 0) 47 40 = 0 ∧ bitsOf (f.data.getD 0 0) 39 32 = 1) ∧
  (∃ (f : Frame) (s : State),
    Live s ∧ mirTaken s f 0x51 = true) ∧
  (∃ (f : Frame) (s : State),
    Live s ∧ mirTaken s f 0x52 = true) ∧
  (∃ (f : Frame) (o : Frame) (s : State),
    Live s ∧ s.b.but.out = some o ∧ s.b.but.txq = [] ∧ l4Ready s = true ∧ f.crcOk = true ∧ f.cls = 4 ∧ f.type = 0x53 ∧
      f.seq = o.seq) ∧
  (∃ (f : Frame) (s : State),
    Live s ∧ mirTaken s f 0x54 = true) ∧
  (∃ (o : Frame) (s : State),
    Live s ∧ s.b.but.out = some o ∧ (s.b.but.endAt.any fun c => decide (c + ackCyc ≤ s.b.cyc)) = true ∧ s.b.but.retry <
      3) ∧
  (∃ (o : Frame) (s : State),
    Live s ∧ s.b.but.out = some o ∧ (s.b.but.endAt.any fun c => decide (c + ackCyc ≤ s.b.cyc)) = true ∧ 3 ≤
      s.b.but.retry) ∧
  (∃ (s : State),
    Live s ∧ butIn s 1 = true ∧ l4Ready s = true ∧ 64 ≤ s.b.but.missed ∧ s.on F.BUT_STATUS_MIRROR_LOST = false) ∧
  (∃ (s : State),
    Live s ∧ (∀ e : Fin 32, mirBad s e = false) ∧ mirTooLong s = false) ∧
  (∃ (s : State),
    Live s ∧ s.on F.BUT_ARB_CTRL_EN = true) ∧
  (∃ (d : Fin 2) (s : State),
    Live s ∧ s.on F.BUT_ARB_CTRL_EN = true ∧ arbAlive s d = false) ∧
  (∃ (s : State),
    Live s ∧ s.on F.BUT_ARB_CTRL_EN = true ∧ s.get F.BUT_ARB_STATUS_GRANT = 0 ∧ arbEligible s 0 = true ∧
      s.b.but.arbS.code ≠ 1 ∧ s.b.but.withdrawnAt + usCyc (s.get F.BUT_ARB_BBM_US) ≤ s.b.cyc) :=
  ⟨⟨7, wReg [(F.SYS_GUAR_DIE_LINK, 0), (F.SYS_GUAR_RAIL_OUT, 0)], by decide⟩,
   ⟨0, wReg [(F.BUT_CTRL_ENABLE, 1), (F.BUT_STATUS_STATE, 2)], by decide⟩,
   ⟨wReg [(F.BUT_STATUS_STATE, 1), (F.SYS_GUAR_DIE_LINK, 0), (F.SYS_GUAR_RAIL_OUT, 0), (F.SYS_GUAR_G1_OK, 1),
     (F.SYS_GUAR_G2_OK, 1), (F.KE0_STATUS_STATE, 2), (F.PAR_STATUS_STATE, 2)], by decide⟩,
   ⟨wReg [(F.BUT_CTRL_ENABLE, 1), (F.BUT_STATUS_STATE, 2), (F.SYS_GUAR_DIE_LINK, 0), (F.SYS_GUAR_G1_OK, 1),
     (F.SYS_GUAR_G2_OK, 1), (F.KE0_STATUS_STATE, 2), (F.PAR_STATUS_STATE, 2)], by decide⟩,
   ⟨wReg [(F.BUT_CTRL_ENABLE, 1), (F.BUT_STATUS_STATE, 1)], by decide⟩,
   ⟨wB (fun b =>
     { b with cyc := 157, fad := { b.fad with trigAt := some 157 }, but := { b.but with takeoverDue := true } })
     (wReg [(F.BUT_STATUS_GRANT, 1), (F.BUT_STATUS_STATE, 2), (F.SYS_GUAR_DIE_LINK, 0), (F.SYS_GUAR_RAIL_OUT, 0)]),
     by decide⟩,
   ⟨wReg [(F.BUT_STATUS_GRANT, 1), (F.BUT_STATUS_STATE, 3)], by decide⟩,
   ⟨wReg [(F.BUT_STATUS_STATE, 2)], by decide⟩,
   ⟨wReg [], by decide⟩,
   ⟨wB (fun b => { b with cyc := 15625000, but := { b.but with reqCmd := true } }) (wReg []), by decide⟩,
   ⟨wReg [], by decide⟩,
   ⟨wB (fun b => { b with cyc := 9375000000 }) (wReg [(F.BUT_HOLD_S, 60), (F.BUT_STATUS_READY, 1), (F.BUT_CTRL_ENABLE,
     1), (F.BUT_CTRL_AUTO_REVERT, 1), (F.BUT_STATUS_STATE, 2), (F.SYS_GUAR_DIE_LINK, 0), (F.SYS_GUAR_G1_OK, 1),
     (F.SYS_GUAR_G2_OK, 1), (F.KE0_STATUS_STATE, 2), (F.PAR_STATUS_STATE, 2)]), by decide⟩,
   ⟨(sealed { cls := 4, type := 0x50, data := [0x100000000] }), wReg [(F.BUT_CTRL_ENABLE, 1), (F.LNK_STATUS_READY 4,
     1)], by decide +kernel⟩,
   ⟨(sealed { cls := 4, type := 0x50, data := [0x100000000] }), wReg [(F.BUT_CTRL_ENABLE, 1), (F.LNK_STATUS_READY 4,
     1)], by decide +kernel⟩,
   ⟨(sealed { cls := 4, type := 0x51, data := [0x100000000] }), wReg [(F.BUT_CTRL_ENABLE, 1), (F.LNK_STATUS_READY 4,
     1)], by decide +kernel⟩,
   ⟨(sealed { cls := 4, type := 0x52, data := [0x100000000] }), wReg [(F.BUT_CTRL_ENABLE, 1), (F.LNK_STATUS_READY 4,
     1)], by decide +kernel⟩,
   ⟨(sealed { cls := 4, type := 0x53 } : Frame), ({ type := 0x50 } : Frame), wB (fun b =>
     { b with but := { b.but with out := some ({ type := 0x50 } : Frame) } }) (wReg [(F.LNK_STATUS_READY 4, 1)]), by
     decide +kernel⟩,
   ⟨(sealed { cls := 4, type := 0x54, data := [0x60000000, 7] }), wReg [(F.BUT_CTRL_ENABLE, 1), (F.LNK_STATUS_READY 4,
     1)], by decide +kernel⟩,
   ⟨{ type := 0x50 }, wB (fun b =>
     { b with cyc := 19, but := { b.but with endAt := some 0, out := some { type := 0x50 }, retry := 2 } }) (wReg
     []), by decide⟩,
   ⟨{ type := 0x50 }, wB (fun b =>
     { b with cyc := 19, but := { b.but with endAt := some 0, out := some { type := 0x50 }, retry := 3 } }) (wReg
     []), by decide⟩,
   ⟨wB (fun b => { b with but := { b.but with missed := 64 } }) (wReg [(F.BUT_STATUS_STATE, 1), (F.LNK_STATUS_READY 4,
     1)]), by decide⟩,
   ⟨wCur [(F.KE0_PERIOD_TICKS, 30000)] (wReg []), by decide⟩,
   ⟨wReg [(F.BUT_ARB_CTRL_EN, 1)], by decide⟩,
   ⟨1, wReg [(F.BUT_ARB_CTRL_EN, 1), (F.BUT_ARB_STATUS_GRANT, 2)], by decide⟩,
   ⟨wB (fun b => { b with cyc := 1000000, but := { b.but with arbP := ⟨some 1000000, 2⟩ } }) (wReg [(F.BUT_ARB_CTRL_EN,
     1)]), by decide⟩⟩

theorem test_meets_BedrockCommands :
  (∃ (s : State),
    s.b.bed.src = .main) ∧
  (∃ (mv : BitVec 16) (s : State),
    s.b.bed.src ≠ .off ∧ s.on F.BED_STATUS_VBAT_LOW = false ∧ mv.toNat < 2600) ∧
  (∃ (mv : BitVec 16) (s : State),
    s.b.bed.src ≠ .off ∧ 2600 ≤ mv.toNat) ∧
  (∃ (mv : BitVec 16) (s : State),
    s.b.bed.src = .bat ∧ mv.toNat < 2000) ∧
  (∃ (mv : BitVec 16) (s : State),
    s.b.bed.src = .off ∧ 1850 ≤ s.b.bed.vstore ∧ 2000 ≤ mv.toNat) ∧
  (∃ (mv : BitVec 16) (s : State),
    s.b.bed.src = .off ∧ (s.b.bed.vstore < 1850 ∨ mv.toNat < 2000)) ∧
  (∃ (mv : BitVec 16) (s : State),
    s.b.bed.src = .harv ∧ mv.toNat < 1800) ∧
  (∃ (mv : BitVec 16) (s : State),
    s.b.bed.src = .harv ∧ 1800 ≤ mv.toNat ∧ mv.toNat < 2200 ∧ vbatUsable s = true) ∧
  (∃ (mv : BitVec 16) (s : State),
    s.b.bed.src = .bat ∧ s.on F.BED_STATUS_HARV_RUN = true ∧ s.b.bed.vocNew = true ∧ 2400 ≤ mv.toNat) ∧
  (∃ (mv : BitVec 16) (s : State),
    s.b.bed.src = .bat ∧ s.on F.BED_STATUS_HARV_RUN = true ∧ s.b.bed.vocNew = true ∧ mv.toNat < 2400) ∧
  (∃ (s : State),
    (s.b.bed.src ≠ .bat ∨ s.on F.BED_STATUS_HARV_RUN = false ∨ s.b.bed.vocNew = false)) ∧
  (∃ (s : State),
    s.on F.BED_STATUS_HARV_RUN = true ∧ (s.b.bed.vocAt.all fun o => decide (o + 16 ≤ s.b.bed.opsec)) = true) ∧
  (∃ (o : Nat) (s : State),
    s.b.bed.vocAt = some o ∧ s.b.bed.opsec < o + 16) ∧
  (∃ (mv : BitVec 16) (s : State),
    s.b.bed.src ≠ .off ∧ s.on F.BED_CTRL_HARV_EN = true ∧ s.on F.BED_STATUS_VDD_PRESENT = false ∧ 2000 ≤ mv.toNat ∧
      s.b.bed.coldRan = false) ∧
  (∃ (s : State),
    s.on F.BED_STATUS_XTAL_OK = true ∧ s.b.bed.src ≠ .off) ∧
  (∃ (s : State),
    s.on F.BED_STATUS_XTAL_OK = false ∧ s.b.bed.src ≠ .off ∧ s.b.bed.xtalAt + usCyc 1000000 ≤ s.b.cyc) ∧
  (∃ (s : State),
    s.b.bed.src ≠ .off) ∧
  (∃ (s : State),
    s.b.bed.src = .off) ∧
  (∃ (s : State),
    dieLinkOk s = true) ∧
  (∃ (mv : BitVec 16) (vbat : BitVec 16) (s : State),
    s.b.bed.src = .off ∧ 1850 ≤ mv.toNat ∧ 2000 ≤ vbat.toNat) ∧
  (∃ (mv : BitVec 16) (vbat : BitVec 16) (s : State),
    s.b.bed.src = .off ∧ vbat.toNat < 2000 ∧ 1850 ≤ mv.toNat) ∧
  (∃ (mv : BitVec 16) (s : State),
    s.b.bed.src = .off ∧ mv.toNat < 1850) ∧
  (∃ (k : Fin 3) (v : Word) (s : State),
    dieLinkOk s = true ∧ k = 0 ∧ 50 ≤ v.toNat / 65536 % 256 ∧ v.toNat / 65536 % 256 ≤ 90) ∧
  (∃ (k : Fin 3) (v : Word) (s : State),
    dieLinkOk s = true ∧ k = 1 ∧ 100 ≤ v.toNat % 65536 ∧ v.toNat % 65536 ≤ 4700) ∧
  (∃ (k : Fin 3) (v : Word) (s : State),
    dieLinkOk s = true ∧ k = 2 ∧ 30 ≤ v.toNat % 65536 ∧ 50 ≤ v.toNat / 65536) ∧
  (∃ (v : Word) (s : State),
    dieLinkOk s = true ∧ (v.toNat % 65536 < 100 ∨ 4700 < v.toNat % 65536)) ∧
  (∃ (s : State),
    dieLinkOk s = true) :=
  ⟨⟨wB (fun b => { b with bed := { b.bed with src := .main } }) (wReg [(F.BED_STATUS_VDD_PRESENT, 1)]), by decide⟩,
   ⟨2599, wB (fun b => { b with bed := { b.bed with src := .main } }) (wReg []), by decide⟩,
   ⟨2600, wB (fun b => { b with bed := { b.bed with src := .main } }) (wReg [(F.BED_STATUS_VBAT_LOW, 1)]), by decide⟩,
   ⟨1999, wB (fun b => { b with bed := { b.bed with src := .bat } }) (wReg []), by decide⟩,
   ⟨2000, wB (fun b => { b with bed := { b.bed with vstore := 1850 } }) (wReg []), by decide⟩,
   ⟨3000, wReg [], by decide⟩,
   ⟨1799, wB (fun b => { b with bed := { b.bed with src := .harv }, ldg := { b.ldg with buf := [{}] } }) (wReg []), by
     decide⟩,
   ⟨2199, wB (fun b => { b with bed := { b.bed with src := .harv } }) (wReg [(F.BED_STATUS_VBAT_PRESENT, 1),
     (F.BED_CTRL_VBAT_EN, 1)]), by decide⟩,
   ⟨2400, wB (fun b => { b with bed := { b.bed with src := .bat, vocNew := true } }) (wReg [(F.BED_STATUS_HARV_RUN,
     1)]), by decide⟩,
   ⟨2399, wB (fun b => { b with bed := { b.bed with src := .bat, vocNew := true } }) (wReg [(F.BED_STATUS_HARV_RUN,
     1)]), by decide⟩,
   ⟨wReg [], by decide⟩,
   ⟨wB (fun b => { b with bed := { b.bed with vocAt := some 0, opsec := 16 } }) (wReg [(F.BED_STATUS_HARV_RUN, 1)]), by
     decide⟩,
   ⟨0, wB (fun b => { b with bed := { b.bed with vocAt := some 0, opsec := 15 } }) (wReg [(F.BED_STATUS_HARV_RUN, 1)]),
     by decide⟩,
   ⟨2000, wB (fun b => { b with bed := { b.bed with src := .harv } }) (wReg [(F.BED_CTRL_HARV_EN, 1)]), by decide⟩,
   ⟨wB (fun b => { b with bed := { b.bed with src := .main } }) (wReg [(F.BED_STATUS_XTAL_OK, 1)]), by decide⟩,
   ⟨wB (fun b => { b with cyc := 156250000, bed := { b.bed with src := .main } }) (wReg [(F.BED_STATUS_XTAL_OK, 0)]),
     by decide⟩,
   ⟨wB (fun b => { b with bed := { b.bed with src := .main } }) (wReg []), by decide⟩,
   ⟨wReg [], by decide⟩,
   ⟨wReg [(F.SYS_GUAR_DIE_LINK, 0)], by decide⟩,
   ⟨1850, 2000, wReg [], by decide⟩,
   ⟨1850, 1999, wReg [], by decide⟩,
   ⟨1849, wReg [], by decide⟩,
   ⟨0, 0x5A0000, wReg [(F.SYS_GUAR_DIE_LINK, 0)], by decide⟩,
   ⟨1, 4700, wReg [(F.SYS_GUAR_DIE_LINK, 0)], by decide⟩,
   ⟨2, 0x32001E, wReg [(F.SYS_GUAR_DIE_LINK, 0)], by decide⟩,
   ⟨4701, wReg [(F.SYS_GUAR_DIE_LINK, 0)], by decide⟩,
   ⟨wReg [(F.SYS_GUAR_DIE_LINK, 0)], by decide⟩⟩

theorem test_meets_LedgerCommands :
  (∃ (r : LedgerRec) (rest : List LedgerRec) (mv : BitVec 16) (s : State),
    s.b.bed.src ≠ .off ∧ s.b.ldg.buf = r :: rest ∧ s.on F.LDG_STATUS_SCANNING = false ∧ s.b.ldg.erasing = false ∧
      saveFirst s (energyPj s mv.toNat) = false ∧ s.on F.LDG_STATUS_DEFERRING = false ∧ writeNeeds s ≤ energyPj s
      mv.toNat ∧ s.on F.LDG_CTRL_MODE = false ∧ s.on F.LDG_Q_EN = false) ∧
  (∃ (r : LedgerRec) (rest : List LedgerRec) (mv : BitVec 16) (s : State),
    s.b.bed.src ≠ .off ∧ s.b.ldg.buf = r :: rest ∧ s.on F.LDG_STATUS_SCANNING = false ∧ s.b.ldg.erasing = false ∧
      saveFirst s (energyPj s mv.toNat) = false ∧ s.on F.LDG_STATUS_DEFERRING = false ∧ energyPj s mv.toNat <
      writeNeeds s) ∧
  (∃ (mv : BitVec 16) (s : State),
    s.b.bed.src ≠ .off ∧ s.on F.LDG_STATUS_DEFERRING = true ∧ s.b.ldg.erasing = false ∧ saveFirst s (energyPj s
      mv.toNat) = false ∧ 2 * writeNeeds s ≤ energyPj s mv.toNat) ∧
  (∃ (mv : BitVec 16) (s : State),
    s.b.bed.src ≠ .off ∧ s.b.ldg.erasing = false ∧ (s.b.bed.cpDue = true ∨ (s.b.bed.cpAt + 60 ≤ s.b.bed.opsec ∧
      s.b.ldg.buf = []) ∨ s.b.bed.cpAt + 61 ≤ s.b.bed.opsec) ∧ opNeeds s 10 ≤ energyPj s mv.toNat) ∧
  (∃ (mv : BitVec 16) (s : State),
    s.b.bed.src ≠ .off ∧ energyPj s mv.toNat < opNeeds s 10) ∧
  (∃ (s : State),
    s.b.bed.src ≠ .off ∧ s.b.bed.cpDue = false ∧ s.b.bed.opsec < s.b.bed.cpAt + 60) ∧
  (∃ (mv : BitVec 16) (s : State),
    s.b.bed.src ≠ .off ∧ s.b.ldg.erasing = false ∧ (s.b.bed.savDue = true ∨ (s.b.bed.savAt + 60 ≤ s.b.bed.opsec ∧
      s.b.ldg.buf = []) ∨ s.b.bed.savAt + 61 ≤ s.b.bed.opsec) ∧ opNeeds s 400 ≤ energyPj s mv.toNat) ∧
  (∃ (mv : BitVec 16) (s : State),
    s.b.bed.src ≠ .off ∧ energyPj s mv.toNat < opNeeds s 400) ∧
  (∃ (s : State),
    s.b.bed.src ≠ .off ∧ s.b.bed.savDue = false ∧ s.b.bed.opsec < s.b.bed.savAt + 60) ∧
  (∃ (s : State),
    s.on F.LDG_STATUS_SCANNING = true) ∧
  (∃ (s : State),
    dieLinkOk s = true ∧ s.b.bed.src = .main ∧ s.on F.MTC_STATUS_LOCKED = false ∧ s.b.ldg.erasing = false) ∧
  (∃ (s : State),
    dieLinkOk s = true ∧ (s.b.bed.src ≠ .main ∨ s.on F.MTC_STATUS_LOCKED = true ∨ s.b.ldg.erasing = true)) ∧
  (∃ (s : State),
    s.b.ldg.erasing = true ∧ (if s.on F.LDG_STATUS_DEFERRING then 2 * writeNeeds s else writeNeeds s) ≤ energyPj s
      (s.get F.BED_VSTORE_MV)) ∧
  (∃ (s : State),
    s.b.ldg.erasing = true ∧ energyPj s (s.get F.BED_VSTORE_MV) < (if s.on F.LDG_STATUS_DEFERRING then 2 * writeNeeds s
      else writeNeeds s)) :=
  ⟨⟨{ code := 0x0401 }, [], 3000, wB (fun b =>
     { b with bed := { b.bed with src := .main }, ldg := { b.ldg with buf := [{ code := 0x0401 }] } }) (wReg
     [(F.BED_STORE_CAP_UF, 4700), (F.LDG_WR_IDX_SLOT, 16383), (F.LDG_SEQ_SEQ, 255)]), by decide⟩,
   ⟨{ code := 0x0401 }, [], 1800, wB (fun b =>
     { b with bed := { b.bed with src := .main }, ldg := { b.ldg with buf := [{ code := 0x0401 }] } }) (wReg
     [(F.BED_STORE_CAP_UF, 100)]), by decide⟩,
   ⟨3000, wB (fun b => { b with bed := { b.bed with src := .main } }) (wReg [(F.BED_STORE_CAP_UF, 4700),
     (F.LDG_STATUS_DEFERRING, 1)]), by decide⟩,
   ⟨3000, wB (fun b => { b with bed := { b.bed with src := .main, opsec := 60 } }) (wReg [(F.BED_STORE_CAP_UF, 4700)]),
     by decide⟩,
   ⟨1800, wB (fun b => { b with bed := { b.bed with src := .main, cpDue := true } }) (wReg [(F.BED_STORE_CAP_UF,
     100)]), by decide⟩,
   ⟨wB (fun b => { b with bed := { b.bed with src := .main } }) (wReg [(F.BED_STORE_CAP_UF, 4700)]), by decide⟩,
   ⟨3000, wB (fun b => { b with bed := { b.bed with src := .main, opsec := 60 } }) (wReg [(F.BED_STORE_CAP_UF, 4700)]),
     by decide⟩,
   ⟨1800, wB (fun b => { b with bed := { b.bed with src := .main, savDue := true } }) (wReg [(F.BED_STORE_CAP_UF,
     100)]), by decide⟩,
   ⟨wB (fun b => { b with bed := { b.bed with src := .main } }) (wReg [(F.BED_STORE_CAP_UF, 4700)]), by decide⟩,
   ⟨wReg [(F.LDG_STATUS_SCANNING, 1)], by decide⟩,
   ⟨wB (fun b => { b with bed := { b.bed with src := .main } }) (wReg [(F.SYS_GUAR_DIE_LINK, 0)]), by decide⟩,
   ⟨wReg [(F.SYS_GUAR_DIE_LINK, 0)], by decide⟩,
   ⟨wB (fun b => { b with ldg := { b.ldg with erasing := true, eraseN := 7 } }) (wReg [(F.LDG_COUNT_N, 7),
     (F.BED_STORE_CAP_UF, 4700), (F.BED_VSTORE_MV, 3300)]), by decide⟩,
   ⟨wB (fun b => { b with ldg := { b.ldg with erasing := true, eraseN := 7 } }) (wReg [(F.LDG_COUNT_N, 7)]), by decide⟩⟩

theorem test_meets_QueueCommands :
  (∃ (q : Fin 32) (s : State),
    Live s ∧ s.cur (F.QUE_Q_SIZE_W q) ≠ 0 ∧ s.qFill q ≠ 0) ∧
  (∃ (q : Fin 32) (s : State),
    Live s ∧ (s.cur (F.QUE_Q_SIZE_W q) = 0 ∨ s.qFill q = 0)) ∧
  (∃ (q : Fin 32) (c : Word) (s : State),
    Live s ∧ (c.toNat + 2 ^ 32 - s.get (F.QUE_Q_CONS_W q)) % 2 ^ 32 ≤ s.qFill q) ∧
  (∃ (q : Fin 32) (c : Word) (s : State),
    Live s ∧ s.qFill q < (c.toNat + 2 ^ 32 - s.get (F.QUE_Q_CONS_W q)) % 2 ^ 32) ∧
  (∃ (s : State),
    Live s ∧ queBad s = false) ∧
  (∃ (q : Fin 32) (s : State),
    Live s ∧ 262144 < s.get (F.QUE_Q_BASE_W q) + s.get (F.QUE_Q_SIZE_W q)) ∧
  (∃ (s : State),
    Live s ∧ (s.on F.QUE_MAIL_STAT_BUSY = true ∨ s.on F.RDG_STATUS_JOINED = false)) ∧
  (∃ (count : BitVec 6) (s : State),
    Live s ∧ s.on F.QUE_MAIL_STAT_BUSY = false ∧ s.on F.RDG_STATUS_JOINED = true ∧ 1 ≤ count.toNat ∧ count.toNat ≤ 32) ∧
  (∃ (n : Fin 8) (f : Frame) (s : State),
    Live s ∧ ringCarries s n = true ∧ f.cls = 3 ∧ f.type = 0x38 ∧ f.dest = s.get F.RDG_ADDR_ADDR ∧ frameLenBad f = false
      ∧ f.hops ≠ 0 ∧ f.crcOk = true ∧ mailBad f = false ∧ s.on F.QUE_MAIL_EN = true) :=
  ⟨⟨31, wCur [(F.QUE_Q_SIZE_W 31, 16)] (wReg [(F.QUE_Q_PROD_W 31, 3), (F.QUE_Q_CONS_W 31, 2)]), by decide⟩,
   ⟨0, wReg [], by decide⟩,
   ⟨31, 3, wReg [(F.QUE_Q_PROD_W 31, 3)], by decide⟩,
   ⟨31, 4, wReg [(F.QUE_Q_PROD_W 31, 3)], by decide⟩,
   ⟨wReg [(F.QUE_Q_SIZE_W 31, 64)], by decide⟩,
   ⟨31, wReg [(F.QUE_Q_BASE_W 31, 262143), (F.QUE_Q_SIZE_W 31, 2)], by decide⟩,
   ⟨wReg [], by decide⟩,
   ⟨32, wReg [(F.RDG_STATUS_JOINED, 1)], by decide⟩,
   ⟨1, (sealed { cls := 3, type := 0x38, dest := 4, src := 9, hops := 3, data := [1, 7] }), wReg [(F.LNK_STATUS_ROLE 1,
     1), (F.LNK_STATUS_READY 1, 1), (F.RDG_CTRL_ENABLE, 1), (F.RDG_STATUS_JOINED, 1), (F.RDG_ADDR_ADDR, 4),
     (F.QUE_MAIL_EN, 1), (F.QUE_CTRL_ENABLE, 1)], by decide +kernel⟩⟩

theorem test_meets_SecurityCommands :
  (∃ (j : SignJob) (rest : List SignJob) (s : State),
    Live s ∧ s.b.sec.jobs = j :: rest) ∧
  (∃ (ws : List Nat) (s : State),
    Live s ∧ s.b.sec.jobs = [] ∧ s.b.sec.chal = some ws) ∧
  (∃ (s : State),
    Live s) ∧
  (∃ (s : State),
    Live s ∧ (∀ p : Fin 3, s.on (F.PWM_CTRL_ENABLE p) = false) ∧ s.b.sec.fuse = none ∧ s.b.sec.ikey = none) ∧
  (∃ (s : State),
    Live s ∧ (∀ p : Fin 3, s.on (F.PWM_CTRL_ENABLE p) = false) ∧ s.b.sec.fuse = none ∧ s.b.sec.ikey.isSome = true) ∧
  (∃ (s : State),
    Live s ∧ (∀ p : Fin 3, s.on (F.PWM_CTRL_ENABLE p) = false) ∧ s.b.sec.fuse = none) ∧
  (∃ (key : BitVec 16) (s : State),
    Live s ∧ key.toNat ≠ 0x4655) ∧
  (∃ (p : Fin 3) (s : State),
    Live s ∧ s.on (F.PWM_CTRL_ENABLE p) = true) ∧
  (∃ (s : State),
    Live s ∧ (∀ p : Fin 3, s.on (F.PWM_CTRL_ENABLE p) = false) ∧ s.b.sec.fuse = none ∧ s.b.sec.ikey = none) ∧
  (∃ (ws : List Nat) (s : State),
    Live s ∧ s.b.sec.fuse = some (1, ws) ∧ s.b.sec.fuseAt + usCyc 10000 ≤ s.b.cyc) ∧
  (∃ (ws : List Nat) (s : State),
    Live s ∧ s.b.sec.fuse = some (2, ws) ∧ s.b.sec.fuseAt + usCyc 10000 ≤ s.b.cyc) ∧
  (∃ (ws : List Nat) (s : State),
    Live s ∧ s.b.sec.fuse = some (3, ws) ∧ s.b.sec.fuseAt + usCyc 10000 ≤ s.b.cyc) ∧
  (∃ (s : State),
    Live s ∧ s.b.cyc < s.b.sec.fuseAt + usCyc 10000) ∧
  (∃ (s : State),
    Live s) ∧
  (∃ (s : State),
    Live s ∧ s.b.sec.metLock = false) ∧
  (∃ (us : BitVec 16) (s : State),
    1000 ≤ us.toNat ∧ s.b.bed.src = .harv ∧ s.on F.BED_STATUS_VDD_PRESENT = false ∧ s.b.bed.lossAt + usCyc 10000 ≤
      s.b.cyc) ∧
  (∃ (us : BitVec 16) (s : State),
    1000 ≤ us.toNat ∧ s.b.bed.src = .harv ∧ s.b.bed.offStart = false ∧ s.on F.BED_STATUS_VDD_PRESENT = false ∧
      s.b.bed.lossAt + usCyc 1000 ≤ s.b.cyc ∧ s.b.cyc < s.b.bed.lossAt + usCyc 10000) ∧
  (∃ (us : BitVec 16) (s : State),
    1000 ≤ us.toNat ∧ s.b.bed.src = .harv ∧ s.on F.BED_STATUS_VDD_PRESENT = false ∧ s.b.cyc < s.b.bed.lossAt + usCyc
      1000) ∧
  (∃ (us : BitVec 16),
    us.toNat < 1000) :=
  ⟨⟨{ q := 31, type := 4, words := [1] }, [], wB (fun b =>
     { b with sec := { b.sec with jobs := [{ q := 31, type := 4, words := [1] }] } }) (wReg []), by decide⟩,
   ⟨[1,2], wB (fun b => { b with sec := { b.sec with chal := some [1, 2] } }) (wReg [(F.SEC_STATUS_SIGN_BUSY, 1)]), by
     decide⟩,
   ⟨wReg [(F.SEC_CHAL_W 7, 5)], by decide⟩,
   ⟨wReg [], by decide⟩,
   ⟨wB (fun b => { b with sec := { b.sec with ikey := some [1] } }) (wReg []), by decide⟩,
   ⟨wReg [], by decide⟩,
   ⟨0, wReg [], by decide⟩,
   ⟨2, wReg [(F.PWM_CTRL_ENABLE 2, 1)], by decide⟩,
   ⟨wReg [], by decide⟩,
   ⟨[1,2,3,4], wB (fun b => { b with cyc := 1562500, sec := { b.sec with fuse := some (1, [1,2,3,4]) } }) (wReg []), by
     decide⟩,
   ⟨[], wB (fun b => { b with cyc := 1562500, sec := { b.sec with fuse := some (2, []) } }) (wReg []), by decide⟩,
   ⟨[], wB (fun b => { b with cyc := 1562500, sec := { b.sec with fuse := some (3, []) } }) (wReg []), by decide⟩,
   ⟨wB (fun b => { b with cyc := 1562499, sec := { b.sec with fuse := some (3, []) } }) (wReg []), by decide⟩,
   ⟨wReg [], by decide⟩,
   ⟨wReg [], by decide⟩,
   ⟨1000, wB (fun b =>
     { b with cyc := 1562500, bed := { b.bed with src := .harv }, sec := { b.sec with metLock := true } }) (wReg
     []), by decide⟩,
   ⟨1000, wB (fun b =>
     { b with cyc := 1562499, bed := { b.bed with src := .harv }, sec := { b.sec with metLock := true } }) (wReg
     []), by decide⟩,
   ⟨1000, wB (fun b =>
     { b with cyc := 156249, bed := { b.bed with src := .harv }, sec := { b.sec with metLock := true } }) (wReg []),
     by decide⟩,
   ⟨999, by decide⟩⟩

theorem test_meets_HealthCommands :
  (∃ (s : State),
    Live s) ∧
  (∃ (x : BitVec 16) (s : State),
    Live s ∧ s.b.mon.hot = 0 ∧ s.curInt F.MON_TTHR_HI * 16 < x.toInt) ∧
  (∃ (n : Fin 6) (mv : BitVec 16) (ns : BitVec 16) (s : State),
    Live s ∧ n ≠ 5 ∧ railOutside s n mv.toNat = true ∧ s.get F.MON_RAIL_FILT_NS ≤ ns.toNat ∧ (s.get
      F.MON_STATUS_RAIL_OUT).testBit n = false) ∧
  (∃ (n : Fin 6) (ns : BitVec 16) (s : State),
    Live s ∧ n ≠ 5 ∧ ns.toNat < s.get F.MON_RAIL_FILT_NS ∧ (s.get F.MON_STATUS_RAIL_OUT).testBit n = false) ∧
  (∃ (n : Fin 6) (mv : BitVec 16) (s : State),
    Live s ∧ n ≠ 5 ∧ railOutside s n mv.toNat = false) ∧
  (∃ (s : State),
    Live s) ∧
  (∃ (s : State),
    Live s ∧ s.int F.MON_TTHR_LO < s.int F.MON_TTHR_HI) ∧
  (∃ (s : State),
    Live s ∧ s.int F.MON_TTHR_HI ≤ s.int F.MON_TTHR_LO) ∧
  (∃ (s : State),
    Live s ∧ dieLinkOk s = true ∧ PowerLive s ∧ (s.b.mon.driftDue = true ∨ s.get F.MON_RO_NEXT_S ≤ s.b.bed.opsec % 2 ^
      32)) ∧
  (∃ (s : State),
    dieLinkOk s = true ∧ PowerLive s) ∧
  (∃ (s : State),
    Live s ∧ dieLinkOk s = false) :=
  ⟨⟨wReg [], by decide⟩,
   ⟨0x7FFF, wReg [], by decide⟩,
   ⟨4, 900, 1000, wReg [], by decide⟩,
   ⟨4, 399, wReg [(F.MON_RAIL_FILT_NS, 400)], by decide⟩,
   ⟨4, 1710, wReg [(F.MON_STATUS_RAIL_OUT, 16)], by decide⟩,
   ⟨wReg [], by decide⟩,
   ⟨wReg [], by decide⟩,
   ⟨wReg [(F.MON_TTHR_LO, 127), (F.MON_TTHR_HI, 127)], by decide⟩,
   ⟨wB (fun b => { b with sys := { b.sys with pwrReset := false }, mon := { b.mon with driftDue := true } }) (wReg
     [(F.SYS_GUAR_DIE_LINK, 0)]), by decide⟩,
   ⟨wB (fun b => { b with sys := { b.sys with pwrReset := false } }) (wReg [(F.SYS_GUAR_DIE_LINK, 0)]), by decide⟩,
   ⟨wReg [(F.SYS_GUAR_DIE_LINK, 1)], by decide⟩⟩

theorem test_meets_CairnCommands :
  (∃ (s : State),
    Live s ∧ s.on F.CRN_CTRL_ENABLE = true ∧ s.on F.CRN_STATUS_HELD = false ∧ s.b.crn.releasedAt ≠ some s.b.cyc ∧
      s.b.crn.due = []) ∧
  (∃ (s : State),
    Live s ∧ s.on F.CRN_CTRL_ENABLE = true ∧ s.on F.CRN_STATUS_HELD = true) ∧
  (∃ (s : State),
    Live s ∧ s.on F.CRN_CTRL_ENABLE = true ∧ s.on F.CRN_STATUS_HELD = false ∧ s.b.crn.releasedAt ≠ some s.b.cyc ∧
      s.b.crn.due = [] ∧ s.get F.CRN_CTRL_PIN_MODE = 1) ∧
  (∃ (s : State),
    s.get F.CRN_CTRL_PIN_MODE ≠ 1) ∧
  (∃ (d : Nat) (src : Nat) (ev : Nat) (rest : List (Nat × Nat × Nat)) (s : State),
    Live s ∧ s.b.crn.due = (d, src, ev) :: rest ∧ d ≤ s.b.cyc ∧ s.on F.CRN_STATUS_HELD = false ∧ src < 16) ∧
  (∃ (s : State),
    Live s ∧ ((∀ x ∈ s.b.crn.due, s.b.cyc < x.1))) ∧
  (∃ (d : Nat) (src : Nat) (ev : Nat) (rest : List (Nat × Nat × Nat)) (s : State),
    Live s ∧ s.b.crn.due = (d, src, ev) :: rest ∧ d ≤ s.b.cyc ∧ s.on F.CRN_STATUS_HELD = false ∧ s.on
      F.SYS_GUAR_DIE_LINK = true) ∧
  (∃ (s : State),
    Live s) ∧
  (∃ (s : State),
    Live s ∧ (s.b.crn.lastAt.any fun c => decide (s.b.cyc < c + cycPerUs)) = false) ∧
  (∃ (s : State),
    Live s ∧ (s.b.crn.lastAt.any fun c => decide (s.b.cyc < c + cycPerUs)) = true) :=
  ⟨⟨wReg [], by decide⟩,
   ⟨wReg [(F.CRN_STATUS_HELD, 1)], by decide⟩,
   ⟨wReg [(F.CRN_CTRL_PIN_MODE, 1)], by decide⟩,
   ⟨wReg [], by decide⟩,
   ⟨1, 3, 0, [(2, 8, 1)], wB (fun b => { b with cyc := 1, crn := { b.crn with due := [(1, 3, 0), (2, 8, 1)] } }) (wReg
     [(F.CRN_STATUS_SEQ, 65535)]), by decide⟩,
   ⟨wB (fun b => { b with crn := { b.crn with due := [(1, 1, 0)] } }) (wReg []), by decide⟩,
   ⟨1, 3, 0, [(2, 8, 1)], wB (fun b => { b with cyc := 1, crn := { b.crn with due := [(1, 3, 0), (2, 8, 1)] } }) (wReg
     [(F.SYS_GUAR_DIE_LINK, 1)]), by decide⟩,
   ⟨wReg [(F.CRN_STATUS_HELD, 1)], by decide⟩,
   ⟨wB (fun b => { b with crn := { b.crn with pin := true } }) (wReg []), by decide⟩,
   ⟨wB (fun b => { b with crn := { b.crn with pin := true, lastAt := some 0 } }) (wReg []), by decide⟩⟩

theorem test_meets_ResetCommands :
  (∃ (s : State),
    Live s) ∧
  (∃ (s : State),
    Live s) ∧
  (∃ (s : State),
    Live s) ∧
  (∃ (s : State),
    s.b.sys.inReset = true) ∧
  (∃ (s : State),
    Live s) ∧
  (∃ (key : BitVec 16) (s : State),
    Live s ∧ key.toNat ≠ 0x5253) ∧
  (∃ (s : State),
    s.on F.BED_STATUS_VDD_PRESENT = false ∧ PowerLive s) ∧
  (∃ (s : State),
    s.on F.BED_STATUS_VDD_PRESENT = true) ∧
  (∃ (s : State),
    s.b.sys.inReset = true ∧ s.b.sys.jtagHold = false ∧ s.b.sys.resetAt + usCyc (resetHold s) ≤ s.b.cyc) ∧
  (∃ (s : State),
    s.b.sys.inReset = true ∧ s.b.cyc < s.b.sys.resetAt + usCyc (resetHold s)) ∧
  (∃ (s : State),
    s.b.sys.jtagHold = true) :=
  ⟨⟨wB (fun b => { b with sys := { b.sys with drvEn := true } }) (wReg []), by decide⟩,
   ⟨wReg [(F.SYS_STATUS_STAGE, 3)], by decide⟩,
   ⟨wReg [(F.LDG_WR_IDX_SLOT, 5)], by decide⟩,
   ⟨wB (fun b => { b with sys := { b.sys with inReset := true } }) (wReg []), by decide⟩,
   ⟨wReg [], by decide⟩,
   ⟨0, wReg [], by decide⟩,
   ⟨wB (fun b => { b with sys := { b.sys with pwrReset := false } }) (wReg [(F.MET_STATUS_RUN, 1)]), by decide⟩,
   ⟨wReg [(F.BED_STATUS_VDD_PRESENT, 1)], by decide⟩,
   ⟨wB (fun b => { b with cyc := 156250, sys := { b.sys with inReset := true } }) (wReg []), by decide⟩,
   ⟨wB (fun b => { b with cyc := 156249, sys := { b.sys with inReset := true } }) (wReg [(F.SYS_RESET_CAUSE_POR, 1)]),
     by decide⟩,
   ⟨wB (fun b => { b with sys := { b.sys with inReset := true, jtagHold := true } }) (wReg []), by decide⟩⟩

theorem test_meets_PermissionCommands :
  (∃ (s : State),
    Live s ∧ mayPermit s = true) ∧
  (∃ (s : State),
    mayPermit s = false) ∧
  (∃ (s : State),
    Live s ∧ s.get F.SYS_STATUS_STAGE = 2 ∧ s.b.sys.waitAt + usCyc (1000 * s.get F.SYS_START_TMO_MS) ≤ s.b.cyc) ∧
  (∃ (s : State),
    Live s ∧ s.b.cyc < s.b.sys.waitAt + usCyc (1000 * s.get F.SYS_START_TMO_MS)) ∧
  (∃ (s : State),
    Live s ∧ (s.get F.SYS_START_WAIT).testBit 3 = true) ∧
  (∃ (s : State),
    (s.get F.SYS_START_WAIT).testBit 3 = false) ∧
  (∃ (s : State),
    Live s ∧ s.on F.SYS_GUAR_DIE_LINK = false) ∧
  (∃ (s : State),
    Live s ∧ s.on F.SYS_GUAR_DIE_LINK = true ∧ PowerLive s) ∧
  (∃ (s : State),
    (s.on F.SYS_GUAR_DIE_LINK = false ∨ s.b.sys.pwrReset = true)) :=
  ⟨⟨wB (fun b => { b with sys := { b.sys with cfgEnded := true } }) (wReg [(F.SYS_STATUS_PERMIT, 0),
     (F.CLK_STATUS_LOCK, 1), (F.SYS_STATUS_PAR_INIT_DONE, 1), (F.SYS_START_WAIT, 0)]), by decide⟩,
   ⟨wReg [], by decide⟩,
   ⟨wB (fun b => { b with cyc := 156250 }) (wReg [(F.SYS_STATUS_STAGE, 2), (F.SYS_START_TMO_MS, 1)]), by decide⟩,
   ⟨wB (fun b => { b with cyc := 156249 }) (wReg [(F.SYS_STATUS_STAGE, 2), (F.SYS_START_TMO_MS, 1)]), by decide⟩,
   ⟨wReg [(F.SYS_START_WAIT, 8)], by decide⟩,
   ⟨wReg [(F.SYS_START_WAIT, 7)], by decide⟩,
   ⟨wReg [(F.SYS_GUAR_DIE_LINK, 0)], by decide⟩,
   ⟨wB (fun b => { b with sys := { b.sys with pwrReset := false } }) (wReg [(F.SYS_GUAR_DIE_LINK, 1),
     (F.PAR_STATUS_CH2_UNAVAIL, 1)]), by decide⟩,
   ⟨wReg [], by decide⟩⟩

theorem test_meets_ImageCommands :
  (∃ (s : State),
    Live s ∧ s.on F.CFG_STATUS_VERIFY_BUSY = false) ∧
  (∃ (s : State),
    Live s ∧ s.on F.CFG_STATUS_VERIFY_BUSY = false) ∧
  (∃ (s : State),
    Live s ∧ s.b.cfg.verA = true ∧ s.b.cfg.verB = false) ∧
  (∃ (s : State),
    Live s ∧ s.b.cfg.verA = false ∧ s.b.cfg.verB = true) ∧
  (∃ (copy : Fin 2) (s : State),
    dieLinkOk s = true ∧ s.b.bed.src = .main ∧ s.on (wrFld copy) = true ∧ (s.get F.CFG_STATUS_SRC ≠ copy ∨ s.on
      (validFld (1 - copy)) = true)) ∧
  (∃ (copy : Fin 2) (s : State),
    dieLinkOk s = true ∧ s.on (wrFld copy) = false) ∧
  (∃ (s : State),
    dieLinkOk s = false) ∧
  (∃ (s : State),
    Live s ∧ PowerLive s ∧ s.get F.SYS_STATUS_STAGE = 0 ∧ s.on F.CLK_STATUS_LOCK = true ∧ s.on F.BED_STATUS_VDD_PRESENT
      = true) :=
  ⟨⟨wReg [], by decide⟩,
   ⟨wReg [], by decide⟩,
   ⟨wB (fun b => { b with cfg := { b.cfg with verA := true } }) (wReg [(F.CFG_STATUS_VERIFY_BUSY, 1)]), by decide⟩,
   ⟨wB (fun b => { b with cfg := { b.cfg with verB := true } }) (wReg [(F.CFG_STATUS_VERIFY_BUSY, 1)]), by decide⟩,
   ⟨1, wB (fun b => { b with bed := { b.bed with src := .main } }) (wReg [(F.SYS_GUAR_DIE_LINK, 0), (F.CFG_CTRL_WR_B,
     1), (F.CFG_STATUS_SRC, 0)]), by decide⟩,
   ⟨0, wReg [(F.SYS_GUAR_DIE_LINK, 0)], by decide⟩,
   ⟨wReg [(F.SYS_GUAR_DIE_LINK, 1)], by decide⟩,
   ⟨wB (fun b => { b with sys := { b.sys with pwrReset := false } }) (wReg [(F.CLK_STATUS_LOCK, 1),
     (F.BED_STATUS_VDD_PRESENT, 1)]), by decide⟩⟩

theorem test_meets_HostPortCommands :
  (∃ (a : BitVec 24) (s : State),
    Live s ∧ qspiOpen s = true ∧ s.b.hst.wbuf = [] ∧ a.toNat % 4 = 0) ∧
  (∃ (a : BitVec 24) (s : State),
    Live s ∧ qspiOpen s = true ∧ s.b.hst.wbuf = [] ∧ a.toNat % 4 = 0) ∧
  (∃ (a : BitVec 24) (s : State),
    Live s ∧ qspiOpen s = true ∧ a.toNat % 4 ≠ 0) ∧
  (∃ (a : BitVec 24) (s : State),
    Live s ∧ qspiOpen s = true ∧ a.toNat % 4 = 0 ∧ s.b.hst.wbuf.length < 64) ∧
  (∃ (a : BitVec 24) (s : State),
    Live s ∧ qspiOpen s = true ∧ a.toNat % 4 = 0 ∧ s.b.hst.wbuf.length < 64) ∧
  (∃ (a : BitVec 24) (s : State),
    Live s ∧ qspiOpen s = true ∧ a.toNat % 4 = 0 ∧ 64 ≤ s.b.hst.wbuf.length) ∧
  (∃ (s : State),
    Live s ∧ qspiOpen s = true) ∧
  (∃ (code : BitVec 8) (s : State),
    Live s ∧ qspiOpen s = true ∧ code ≠ 0x0B ∧ code ≠ 0x6B ∧ code ≠ 0x02 ∧ code ≠ 0x32 ∧ code ≠ 0x05) ∧
  (∃ (a : BitVec 24) (s : State),
    Live s ∧ qspiOpen s = true ∧ a.toNat % 4 = 0 ∧ absent s (regionOf a.toNat) = false) ∧
  (∃ (a : BitVec 24) (s : State),
    Live s ∧ absent s (regionOf a.toNat) = true) ∧
  (∃ (w : Nat × Nat × Nat) (l : List (Nat × Nat × Nat)) (s : State),
    Live s ∧ s.b.hst.wbuf = w :: l) ∧
  (∃ (f : Frame) (s : State),
    Live s ∧ linkOpen s = true ∧ f.cls = 3 ∧ f.type = 0x30 ∧ frameLenBad f = false ∧ f.hops ≠ 0 ∧ f.crcOk = true ∧
      s.b.hst.link.length < 8) ∧
  (∃ (f : Frame) (s : State),
    Live s ∧ linkOpen s = true ∧ f.cls = 3 ∧ f.type = 0x32 ∧ frameLenBad f = false ∧ f.hops ≠ 0 ∧ f.crcOk = true ∧ 8 ≤
      s.b.hst.link.length) ∧
  (∃ (f : Frame) (s : State),
    Live s ∧ linkOpen s = true ∧ f.cls = 3 ∧ f.type = 0x32 ∧ frameLenBad f = false ∧ f.hops ≠ 0 ∧ f.crcOk = true ∧
      s.b.hst.link.length < 8) ∧
  (∃ (f : Frame) (s : State),
    Live s ∧ linkOpen s = true ∧ f.cls = 4 ∧ f.type = 0x40 ∧ frameLenBad f = false ∧ f.hops ≠ 0 ∧ f.crcOk = true ∧
      s.b.hst.link.length < 8) ∧
  (∃ (q : LinkReq) (l : List LinkReq) (s : State),
    Live s ∧ linkOpen s = true ∧ s.b.hst.link = q :: l ∧ q.type = 0x30) ∧
  (∃ (q : LinkReq) (l : List LinkReq) (s : State),
    Live s ∧ linkOpen s = true ∧ s.b.hst.link = q :: l ∧ q.type = 0x32 ∧ q.count ≠ 0 ∧ q.addr % 4 ≠ 0 ∧ q.count ≤ 8) ∧
  (∃ (q : LinkReq) (l : List LinkReq) (s : State),
    Live s ∧ linkOpen s = true ∧ s.b.hst.link = q :: l ∧ q.type = 0x40 ∧ 1024 < q.count) :=
  ⟨⟨0x12800, wReg [(F.SYS_STATUS_READY, 1), (F.HST_CTRL_QSPI_EN, 1)], by decide⟩,
   ⟨0x700C, wReg [(F.SYS_STATUS_READY, 1), (F.HST_CTRL_QSPI_EN, 1)], by decide⟩,
   ⟨0xFFFFFD, wReg [(F.SYS_STATUS_READY, 1), (F.HST_CTRL_QSPI_EN, 1)], by decide⟩,
   ⟨0xFFFFFC, wReg [(F.SYS_STATUS_READY, 1), (F.HST_CTRL_QSPI_EN, 1)], by decide⟩,
   ⟨0xFFFFFC, wReg [(F.SYS_STATUS_READY, 1), (F.HST_CTRL_QSPI_EN, 1)], by decide⟩,
   ⟨0x120000, wB (fun b => { b with hst := { b.hst with wbuf := List.replicate 64 (0, 0, 0) } }) (wReg
     [(F.SYS_STATUS_READY, 1), (F.HST_CTRL_QSPI_EN, 1)]), by decide⟩,
   ⟨wReg [(F.SYS_STATUS_READY, 1), (F.HST_CTRL_QSPI_EN, 1)], by decide⟩,
   ⟨0x9F, wReg [(F.SYS_STATUS_READY, 1), (F.HST_CTRL_QSPI_EN, 1)], by decide⟩,
   ⟨0x60000, wReg [(F.SYS_STATUS_READY, 1), (F.HST_CTRL_QSPI_EN, 1), (F.SYS_GUAR_DIE_LINK, 0)], by decide⟩,
   ⟨0x60000, wReg [(F.SYS_STATUS_READY, 1), (F.HST_CTRL_QSPI_EN, 1), (F.SYS_GUAR_DIE_LINK, 1)], by decide⟩,
   ⟨(0x120000, 0x120000, 3), [], wB (fun b => { b with hst := { b.hst with wbuf := [(0x120000, 0x120000, 3)] } }) (wReg
     []), by decide⟩,
   ⟨(sealed { cls := 3, type := 0x30, hops := 1, data := [0x200000120000] }), wReg [(F.SYS_STATUS_READY, 1),
     (F.HST_CTRL_LINK_EN, 1), (F.LNK_STATUS_ROLE 5, 6), (F.LNK_STATUS_READY 5, 1)], by decide +kernel⟩,
   ⟨(sealed { cls := 3, type := 0x32, hops := 1, data := [0x100000120000, 5] }), wB (fun b =>
     { b with hst := { b.hst with link := List.replicate 8 {} } }) (wReg [(F.SYS_STATUS_READY, 1),
     (F.HST_CTRL_LINK_EN, 1), (F.LNK_STATUS_ROLE 5, 6), (F.LNK_STATUS_READY 5, 1)]), by decide +kernel⟩,
   ⟨(sealed { cls := 3, type := 0x32, hops := 1, data := [0x100000120000, 5] }), wReg [(F.SYS_STATUS_READY, 1),
     (F.HST_CTRL_LINK_EN, 1), (F.LNK_STATUS_ROLE 5, 6), (F.LNK_STATUS_READY 5, 1)], by decide +kernel⟩,
   ⟨(sealed { cls := 4, type := 0x40, hops := 1, data := [0x200000120000] }), wReg [(F.SYS_STATUS_READY, 1),
     (F.HST_CTRL_LINK_EN, 1), (F.LNK_STATUS_ROLE 5, 6), (F.LNK_STATUS_READY 5, 1)], by decide +kernel⟩,
   ⟨{ type := 0x30, count := 2, addr := 0x120000 }, [], wB (fun b =>
     { b with hst := { b.hst with link := [{ type := 0x30, count := 2, addr := 0x120000 }] } }) (wReg
     [(F.SYS_STATUS_READY, 1), (F.HST_CTRL_LINK_EN, 1), (F.LNK_STATUS_ROLE 5, 6), (F.LNK_STATUS_READY 5, 1)]), by
     decide⟩,
   ⟨{ type := 0x32, count := 8, addr := 0x120002 }, [], wB (fun b =>
     { b with hst := { b.hst with link := [{ type := 0x32, count := 8, addr := 0x120002 }] } }) (wReg
     [(F.SYS_STATUS_READY, 1), (F.HST_CTRL_LINK_EN, 1), (F.LNK_STATUS_ROLE 5, 6), (F.LNK_STATUS_READY 5, 1)]), by
     decide⟩,
   ⟨{ type := 0x40, count := 1025, addr := 0 }, [], wB (fun b =>
     { b with hst := { b.hst with link := [{ type := 0x40, count := 1025, addr := 0 }] } }) (wReg
     [(F.SYS_STATUS_READY, 1), (F.HST_CTRL_LINK_EN, 1), (F.LNK_STATUS_ROLE 5, 6), (F.LNK_STATUS_READY 5, 1)]), by
     decide⟩⟩

theorem test_meets_AccessCommands :
  (∃ (a : BitVec 22) (s : State),
    Live s ∧ regionOf (4 * a.toNat) = .unmapped) ∧
  (∃ (s : State),
    Live s ∧ s.on (lockedFld 0x5000) = true) ∧
  (∃ (s : State),
    Live s ∧ s.on (lockedFld 0x5000) = false ∧ overtaken s (.qspi 0) (F.CRN_FAULT_EN_EV.key / 32) = false) ∧
  (∃ (w : Nat) (s : State),
    Live s ∧ s.on (lockedFld 0x5000) = false ∧ s.b.wroteNow = [((F.CRN_FAULT_EN_EV.key / 32), 2, w)]) ∧
  (∃ (a : BitVec 22) (s : State),
    Live s ∧ 0x200000 ≤ 4 * a.toNat ∧ 4 * a.toNat < 0x300000) ∧
  (∃ (n : Fin 44) (s : State),
    Live s ∧ absent s (.page (pageBase n) 0x20) = false) ∧
  (∃ (n : Fin 44) (s : State),
    Live s ∧ absent s (.page (pageBase n) 0x20) = false ∧ s.on (permFld (pageBase n)) = false) ∧
  (∃ (n : Fin 44) (s : State),
    Live s ∧ absent s (.page (pageBase n) 0x20) = false ∧ s.on (permFld (pageBase n)) = true) ∧
  (∃ (n : Fin 44) (key : BitVec 16) (s : State),
    Live s ∧ absent s (.page (pageBase n) 0x20) = false ∧ key ≠ 0x4C4B ∧ key ≠ 0x554C) ∧
  (∃ (s : State),
    Live s ∧ groupWaits s .mon = true ∧ s.b.commitNow.contains .mon = false) ∧
  (∃ (g : Group) (s : State),
    Live s ∧ (groupWaits s g = false ∨ s.b.commitNow.contains g = true)) ∧
  (∃ (s : State),
    Live s ∧ s.get F.SYS_STATUS_STAGE = 1 ∧ s.on F.CLK_STATUS_LOCK = true ∧ s.b.cfg.chosen = none) ∧
  (∃ (c : Fin 2) (i : Img) (s : State),
    Live s ∧ s.get F.SYS_STATUS_STAGE = 1 ∧ s.on F.CLK_STATUS_LOCK = true ∧ s.b.cfg.chosen = some c.val ∧ s.b.cfg.other
      = false ∧ (checkCopy (after resetRecord s) c).toOption = some i ∧ (loadAll i.signed (imgWrites i) (after
      resetRecord s)).2 = none) :=
  ⟨⟨0x3FFFFF, wReg [], by decide⟩,
   ⟨wReg [(lockedFld 0x5000, 1)], by decide⟩,
   ⟨wReg [], by decide⟩,
   ⟨9, wB (fun b => { b with wroteNow := [((F.CRN_FAULT_EN_EV.key / 32), 2, 9)] }) (wReg []), by decide⟩,
   ⟨0xBFFFF, wReg [], by decide⟩,
   ⟨5, wReg [], by decide⟩,
   ⟨5, wReg [(lockedFld 0x5000, 1)], by decide⟩,
   ⟨5, wReg [(lockedFld 0x5000, 1), (permFld 0x5000, 1)], by decide⟩,
   ⟨43, 0x4C4A, wReg [], by decide⟩,
   ⟨wB (fun b => { b with waiting := [.mon] }) (wReg []), by decide⟩,
   ⟨.que, wReg [], by decide⟩,
   ⟨wReg [(F.SYS_STATUS_STAGE, 1), (F.CLK_STATUS_LOCK, 1)], by decide⟩,
   ⟨1, { gen := 7, signed := false, crc := 1308224909, recs := [.write 0x5048 [0x1FF], .write 0x5048 [3]] }, imgState,
     by set_option maxRecDepth 100000 in decide⟩⟩

theorem test_meets_LateCommands :
  (∃ (s : State),
    Live s ∧ s.b.ke0.timer = true) ∧
  (∃ (s : State),
    s.b.ke0.timer = false) ∧
  (∃ (s : State),
    Live s ∧ s.b.ke0.timer = true) ∧
  (∃ (s : State),
    s.b.ke0.timer = false) ∧
  (∃ (s : State),
    Live s ∧ s.b.ke0.running = true ∧ kRom s 0 = none ∧ bitsOf (kNext s 0) 63 58 = 1) ∧
  (∃ (s : State),
    Live s ∧ kRom s 0 = none ∧ bitsOf (kNext s 0) 63 58 ≠ 1) ∧
  (∃ (sv : List (Nat × Int × Int) × List Nat) (s : State),
    Live s ∧ s.b.ke1.cls = 1 ∧ s.b.ke1.saved = some sv ∧ kRom s 1 = none ∧ bitsOf (kNext s 1) 63 58 = 1 ∧ (ke1Run s).out
      = []) ∧
  (∃ (sg : Nat) (c : Nat) (s : State),
    Live s ∧ s.b.ke1.cls = 2 ∧ kRom s 1 = some 0x23 ∧ sg < 8 ∧ runInt s 0xA7 = ((16 * c + sg : Nat) : Int) ∧
      s.b.ke1.rom.pairs = some (c + 1) ∧ par s 1 (0x580 + 8 * sg) ≠ 0) ∧
  (∃ (s : State),
    Live s ∧ s.b.ke1.cls = 2 ∧ kRom s 1 = some 0x20 ∧ par s 1 0x400 ≠ 0 ∧ runInt s 0xE2 ≠ 3) ∧
  (∃ (gfm : Bool) (s : State),
    Live s ∧ s.b.ke1.cls = 1 ∧ kRom s 1 = some (0x10 + bit gfm) ∧ ((runInt s 0x82 = 2 ∨ runInt s 0x82 = 4))) ∧
  (∃ (r : Nat) (b : Nat) (k : Nat) (s : State),
    Live s ∧ s.b.ke0.running = true ∧ kRom s 0 = some r ∧ ((r = 1 ∨ r = 2)) ∧ b < 4 ∧ brPar s b 0 = 0 ∧ k < 18) ∧
  (∃ (n : Fin 8) (s : State),
    Live s ∧ (dueSlots s).contains n.val = true) ∧
  (∃ (s : State),
    dueSlots s = []) ∧
  (∃ (n : Fin 8) (f : Frame) (s : State),
    Live s ∧ ringCarries s n = true ∧ f.cls = 3 ∧ f.type = 0x30 ∧ f.dest = s.get F.RDG_ADDR_ADDR ∧ frameLenBad f = false
      ∧ f.hops ≠ 0 ∧ f.crcOk = true ∧ s.on F.RDG_CTRL_REMOTE_RD_EN = true ∧ accessCount f = 0) ∧
  (∃ (n : Fin 8) (f : Frame) (s : State),
    Live s ∧ ringCarries s n = true ∧ f.cls = 3 ∧ f.type = 0x30 ∧ f.dest = s.get F.RDG_ADDR_ADDR ∧ frameLenBad f = false
      ∧ f.hops ≠ 0 ∧ f.crcOk = true ∧ s.on F.RDG_CTRL_REMOTE_RD_EN = true ∧ 1 ≤ accessCount f ∧ accessCount f ≤ 8 ∧
      accessAddr f % 4 = 0) ∧
  (∃ (n : Fin 8) (f : Frame) (s : State),
    Live s ∧ ringCarries s n = true ∧ f.cls = 3 ∧ f.type = 0x32 ∧ f.dest = s.get F.RDG_ADDR_ADDR ∧ frameLenBad f = false
      ∧ f.hops ≠ 0 ∧ f.crcOk = true ∧ s.on F.RDG_CTRL_REMOTE_WR_EN = false) ∧
  (∃ (n : Fin 8) (f : Frame) (s : State),
    Live s ∧ ringCarries s n = true ∧ f.cls = 3 ∧ f.type = 0x32 ∧ f.dest = 0xFFF ∧ s.get F.RDG_ADDR_ADDR ≠ 0xFFF ∧
      frameLenBad f = false ∧ f.hops ≠ 0 ∧ f.crcOk = true ∧ s.on F.RDG_CTRL_REMOTE_WR_EN = true ∧ 1 ≤ accessCount f
      ∧ accessCount f ≤ 8 ∧ accessAddr f % 4 = 0) ∧
  (∃ (n : Fin 8) (f : Frame) (s : State),
    Live s ∧ ringCarries s n = true ∧ f.cls = 4 ∧ f.type = 0x40 ∧ f.dest = s.get F.RDG_ADDR_ADDR ∧ frameLenBad f = false
      ∧ f.hops ≠ 0 ∧ f.crcOk = true ∧ s.on F.RDG_CTRL_REMOTE_RD_EN = true ∧ 1 ≤ accessCount f ∧ accessCount f ≤ 1024
      ∧ accessAddr f % 4 = 0) ∧
  (∃ (n : Fin 8) (f : Frame) (s : State),
    Live s ∧ ringCarries s n = true ∧ f.cls = 4 ∧ f.type = 0x40 ∧ f.dest = s.get F.RDG_ADDR_ADDR ∧ frameLenBad f = false
      ∧ f.hops ≠ 0 ∧ f.crcOk = true ∧ s.on F.RDG_CTRL_REMOTE_RD_EN = false) ∧
  (∃ (j : BulkJob) (l : List BulkJob) (s : State),
    Live s ∧ s.b.rdg.serving = j :: l ∧ j.left ≤ 120) :=
  ⟨⟨wB (fun b => { b with ke0 := { b.ke0 with timer := true } }) (wReg []), by decide⟩,
   ⟨wReg [], by decide⟩,
   ⟨wB (fun b => { b with ke0 := { b.ke0 with timer := true } }) (wReg []), by decide⟩,
   ⟨wReg [], by decide⟩,
   ⟨progAt 0 (1 <<< 58) (wB (fun b => { b with ke0 := { b.ke0 with running := true, satRun := 5 } }) (wReg
     [(F.KE0_STATUS_STATE, 2)])), by decide⟩,
   ⟨wB (fun b => { b with ke0 := { b.ke0 with running := true } }) (wReg [(F.KE0_STATUS_STATE, 2)]), by decide⟩,
   ⟨([], []), progAt 1 (1 <<< 58) (wB (fun b => { b with ke1 := { b.ke1 with cls := 1, saved := some ([], []) } })
     (wReg [(F.KE1_SCHED_STAT_C1_RUN, 1)])), by decide⟩,
   ⟨0, 1, wB (fun b =>
     { b with ke1 := { b.ke1 with cls := 2, run2 := { b.ke1.run2 with copy := (List.replicate 256 0).set 0xA7 134217736 }, rom := { b.ke1.rom with pairs := some 2 } } })
     (wCur [(F.KE1_ENTRY_SRC 1, 1), (F.KE1_ENTRY_ROM_ID 1, 0x23)] ((wReg [(F.KE1_SCHED_STAT_C2_ENTRY, 1)]).putWord
     (bankAddr 1 0 + 0x580) 0x40000001)), by decide +kernel⟩,
   ⟨wB (fun b => { b with ke1 := { b.ke1 with cls := 2 } }) (wCur [(F.KE1_ENTRY_SRC 1, 1), (F.KE1_ENTRY_ROM_ID 1,
     0x20)] ((wReg [(F.KE1_SCHED_STAT_C2_ENTRY, 1)]).putWord (bankAddr 1 0 + 0x400) 0x40000001)), by decide +kernel⟩,
   ⟨false, wB (fun b =>
     { b with ke1 := { b.ke1 with cls := 1, run1 := { b.ke1.run1 with copy := (List.replicate 256 0).set 0x82 16777224 } } })
     (wCur [(F.KE1_ENTRY_SRC 0, 1), (F.KE1_ENTRY_ROM_ID 0, 0x10)] (wReg [])), by decide +kernel⟩,
   ⟨1, 0, 0, wB (fun b => { b with ke0 := { b.ke0 with running := true } }) (wCur [(F.KE0_PROG_SRC, 1),
     (F.KE0_PROG_ROM_ID, 1)] (wReg [])), by decide +kernel⟩,
   ⟨7, wReg [(F.RDG_SCHED_STAT_ARMED, 255)], by decide⟩,
   ⟨wReg [], by decide⟩,
   ⟨1, (sealed { cls := 3, type := 0x30, dest := 4, hops := 3, data := [0x2001] }), wReg [(F.LNK_STATUS_ROLE 1, 1),
     (F.LNK_STATUS_READY 1, 1), (F.RDG_CTRL_ENABLE, 1), (F.RDG_ADDR_ADDR, 4), (F.RDG_CTRL_REMOTE_RD_EN, 1)], by
     decide +kernel⟩,
   ⟨1, (sealed { cls := 3, type := 0x30, dest := 4, hops := 3, data := [0x200000120000] }), wReg [(F.LNK_STATUS_ROLE 1,
     1), (F.LNK_STATUS_READY 1, 1), (F.RDG_CTRL_ENABLE, 1), (F.RDG_ADDR_ADDR, 4), (F.RDG_CTRL_REMOTE_RD_EN, 1)], by
     decide +kernel⟩,
   ⟨1, (sealed { cls := 3, type := 0x32, dest := 4, hops := 3, data := [0x100000120000, 5] }), wReg [(F.LNK_STATUS_ROLE
     1, 1), (F.LNK_STATUS_READY 1, 1), (F.RDG_CTRL_ENABLE, 1), (F.RDG_ADDR_ADDR, 4)], by decide +kernel⟩,
   ⟨1, (sealed { cls := 3, type := 0x32, dest := 0xFFF, hops := 3, data := [0x100000120000, 5] }), wReg
     [(F.LNK_STATUS_ROLE 1, 1), (F.LNK_STATUS_READY 1, 1), (F.RDG_CTRL_ENABLE, 1), (F.RDG_ADDR_ADDR, 4),
     (F.RDG_CTRL_REMOTE_WR_EN, 1)], by decide +kernel⟩,
   ⟨1, (sealed { cls := 4, type := 0x40, dest := 4, hops := 3, data := [0x40000000120000] }), wReg [(F.LNK_STATUS_ROLE
     1, 1), (F.LNK_STATUS_READY 1, 1), (F.RDG_CTRL_ENABLE, 1), (F.RDG_ADDR_ADDR, 4), (F.RDG_CTRL_REMOTE_RD_EN, 1)],
     by decide +kernel⟩,
   ⟨1, (sealed { cls := 4, type := 0x40, dest := 4, hops := 3, data := [0x40000000120000] }), wReg [(F.LNK_STATUS_ROLE
     1, 1), (F.LNK_STATUS_READY 1, 1), (F.RDG_CTRL_ENABLE, 1), (F.RDG_ADDR_ADDR, 4), (F.RDG_CTRL_REMOTE_RD_EN, 0)],
     by decide +kernel⟩,
   ⟨{ left := 3, addr := 0x120000 }, [], wB (fun b =>
     { b with rdg := { b.rdg with serving := [{ left := 3, addr := 0x120000 }] } }) (wReg []), by decide⟩⟩

theorem test_meets_StepRunsFront : ({ State.reset with pending := [.leapSet, .erase] } : State).pending = [.leapSet,
    .erase] := by decide

theorem test_meets_IdleStep : State.reset.pending = [] := by decide

theorem test_meets_StepKeepsSound : (wReg [(F.TIM_STATUS_VALID, 1)]).Sound ∧ step (wReg [(F.TIM_STATUS_VALID, 1)]) =
    .next (idle (wReg [(F.TIM_STATUS_VALID, 1)])) := ⟨⟨by decide, by decide, by decide, by decide⟩, rfl⟩

theorem test_meets_MainDieHeldInReset : (wB (fun b => { b with sys := { b.sys with inReset := true } }) (wReg
    [])).b.sys.inReset = true ∧ onMainDie .leapSet = true := by decide

theorem test_meets_PermissionHolds : Live (wReg [(F.SYS_STATUS_PERMIT, 1)]) ∧ (wReg [(F.SYS_STATUS_PERMIT, 1)]).on
    F.SYS_STATUS_PERMIT = true ∧ exec .leapSet (wReg [(F.SYS_STATUS_PERMIT, 1)]) = .next ((wReg
    [(F.SYS_STATUS_PERMIT, 1)]).put F.TIM_STATUS_LEAP_PENDING 1) := ⟨by decide, by decide, rfl⟩

theorem test_meets_EnergyIsolated : metersEnergy .leapSet = false ∧ exec .leapSet State.reset = .next
    (State.reset.put F.TIM_STATUS_LEAP_PENDING 1) := ⟨rfl, rfl⟩

theorem test_meets_KeystoneWordRoundTrip : kFits ⟨63, 3, 7, 127, 63, 127, 1, 65535, 65535⟩ = true := by decide

theorem test_meets_KeystoneArithmetic_slot : slotM (slotWord (-8388608) 127) = -8388608 ∧ slotE (slotWord 8388607
    (-128)) = -128 := by decide

theorem test_meets_KeystoneArithmetic_round : roundDiv 3 2 = 2 ∧ roundDiv (-3) 2 = -2 ∧ roundDiv (-1) 3 = 0 := by
    decide

theorem test_meets_PinsFollowRank : latched (wReg [(F.TRP_LATCH1_PAIR, 65536)]) 48 = true := by decide

theorem test_meets_LockedPageRefuses : lockRefuses (wReg [(lockedFld 0x20000, 1)]) (regionOf 0x100000) = true ∧
    absent (wReg [(lockedFld 0x20000, 1)]) (regionOf 0x100000) = false := by decide

theorem test_meets_LockedPageRefuses_open : allW1c 0x5018 = true := by decide

theorem test_meets_QueueAppendsRecord_two : (wCur [(F.QUE_Q_SIZE_W 31, 9)] (wReg [(F.QUE_CTRL_ENABLE, 1)])).qLater
    31 1 = [] ∧ (wCur [(F.QUE_Q_SIZE_W 31, 9)] (wReg [(F.QUE_CTRL_ENABLE, 1)])).qFill 31 + ([5].length + 1) +
    ([6].length + 1) ≤ (wCur [(F.QUE_Q_SIZE_W 31, 9)] (wReg [(F.QUE_CTRL_ENABLE, 1)])).cur (F.QUE_Q_SIZE_W 31) := by
    decide

theorem test_meets_QueueAppendsRecord : (wCur [(F.QUE_Q_SIZE_W 31, 3)] (wReg [(F.QUE_CTRL_ENABLE, 1)])).qLater 31 1
    = [] ∧ (wCur [(F.QUE_Q_SIZE_W 31, 3)] (wReg [(F.QUE_CTRL_ENABLE, 1)])).on F.QUE_CTRL_ENABLE = true ∧ (wCur
    [(F.QUE_Q_SIZE_W 31, 3)] (wReg [(F.QUE_CTRL_ENABLE, 1)])).qFill 31 + ([5, 6].length + 1) ≤ (wCur
    [(F.QUE_Q_SIZE_W 31, 3)] (wReg [(F.QUE_CTRL_ENABLE, 1)])).cur (F.QUE_Q_SIZE_W 31) := by decide

theorem test_meets_QueueConsumerRules_write : (3 + 2 ^ 32 - (wReg [(F.QUE_Q_PROD_W 0, 3)]).get (F.QUE_Q_CONS_W 0)) %
    2 ^ 32 ≤ (wReg [(F.QUE_Q_PROD_W 0, 3)]).qFill 0 := by decide

theorem test_meets_QueueConsumerRules_write_reject : (wReg [(F.QUE_Q_PROD_W 0, 3)]).qFill 0 < (4 + 2 ^ 32 - (wReg
    [(F.QUE_Q_PROD_W 0, 3)]).get (F.QUE_Q_CONS_W 0)) % 2 ^ 32 := by decide

theorem test_meets_QueueConsumerRules_pop : (wCur [(F.QUE_Q_SIZE_W 0, 4)] (wReg [(F.QUE_Q_PROD_W 0, 3)])).qFill 0 ≠
    0 ∧ (wCur [(F.QUE_Q_SIZE_W 0, 4)] (wReg [])).qFill 0 = 0 := by decide

theorem test_meets_ConfigurationRanges : dieLinkOk (wReg [(F.SYS_GUAR_DIE_LINK, 0)]) = true := by decide

theorem test_meets_ConfigurationStoreInMain : dieLinkOk (wReg [(F.SYS_GUAR_DIE_LINK, 0)]) = true ∧ (wReg
    []).b.bed.src ≠ .main := by decide

theorem test_meets_MirrorLostRule : Live (wB (fun b => { b with but := { b.but with missed := 64 } }) (wReg
    [(F.BUT_STATUS_STATE, 1), (F.LNK_STATUS_READY 4, 1)])) ∧ l4Ready (wReg [(F.BUT_STATUS_STATE, 1),
    (F.LNK_STATUS_READY 4, 1)]) = true ∧ butIn (wReg [(F.BUT_STATUS_STATE, 1)]) 0 = false ∧ butIn (wReg
    [(F.BUT_STATUS_STATE, 1)]) 3 = false := by decide

theorem test_meets_MirrorLostRule_set : mirTaken (wReg [(F.BUT_CTRL_ENABLE, 1), (F.LNK_STATUS_READY 4, 1)]) (sealed
    { cls := 4, type := 0x50, data := [0x100000000] }) 0x50 = true := by decide +kernel

theorem test_meets_ChallengeRule : (wB (fun b => { b with sec := { b.sec with jobs := [{}] } }) (wReg
    [])).b.sec.jobs ≠ [] := by decide

theorem test_meets_ChallengeRule_done : (wB (fun b => { b with sec := { b.sec with chal := some [1] } }) (wReg
    [])).b.sec.jobs = [] ∧ (wB (fun b => { b with sec := { b.sec with chal := some [1] } }) (wReg [])).b.sec.chal =
    some [1] := by decide

theorem test_meets_SeverityTable : severity 0x1001 = 1 := by decide

theorem test_meets_LedgerBufferBound : (wB (fun b =>
    { b with bed := { b.bed with src := .main }, ldg := { b.ldg with buf := List.replicate 16 {} } }) (wReg
    [(F.SYS_GUAR_DIE_LINK, 0)])).b.ldg.buf.length = 16 ∧ (wReg []).b.ldg.now = 0 ∧ powerDieCode 0xA001 = true := by
    decide

theorem test_meets_ShadowsAdoptTogether : keyAt 0x3058 ≤ F.MON_TTHR_HI.key ∧ F.MON_TTHR_HI.key < keyAt 0x305C := by
    decide

theorem test_meets_MainResetClears : Live (wReg [(F.TIM_STATUS_VALID, 1)]) := by decide

end Sys2Proof.Tests
end

section
/-! SUPPORT. R417: a severity reads off the one list that names the code, and byte 3 of a record shows it. R412: what a
write of BED_STORE and of BED_RES does. -/

namespace Sys2Proof.Machine

/-! ### The severity of an event code (R417) -/

theorem severity4_disjoint_severity3 : severity4.Disjoint severity3 := by
  unfold List.Disjoint; decide

theorem severity4_append_severity3_disjoint_severity2 : (severity4 ++ severity3).Disjoint severity2 := by
  unfold List.Disjoint; decide

theorem severity4_append_severity3_append_severity2_disjoint_severity0 :
    (severity4 ++ severity3 ++ severity2).Disjoint severity0 := by
  unfold List.Disjoint; decide

theorem severity_of_mem_severity4 {code : Nat} (h : code ∈ severity4) : severity code = 4 := by
  simp [severity, h]

theorem severity_of_mem_severity3 {code : Nat} (h : code ∈ severity3) : severity code = 3 := by
  have h4 : code ∉ severity4 := fun m => severity4_disjoint_severity3 m h
  simp [severity, h4, h]

theorem severity_of_mem_severity2 {code : Nat} (h : code ∈ severity2) : severity code = 2 := by
  have above : code ∉ severity4 ++ severity3 := fun m => severity4_append_severity3_disjoint_severity2 m h
  simp only [List.mem_append, not_or] at above
  obtain ⟨h4, h3⟩ := above
  simp [severity, h4, h3, h]

theorem severity_of_mem_severity0 {code : Nat} (h : code ∈ severity0) : severity code = 0 := by
  have above : code ∉ severity4 ++ severity3 ++ severity2 := fun m =>
    severity4_append_severity3_append_severity2_disjoint_severity0 m h
  simp only [List.mem_append, not_or] at above
  obtain ⟨⟨h4, h3⟩, h2⟩ := above
  simp [severity, h4, h3, h2, h]

theorem severity_of_not_mem {code : Nat} (h4 : code ∉ severity4) (h3 : code ∉ severity3) (h2 : code ∉ severity2)
    (h0 : code ∉ severity0) : severity code = 1 := by
  simp [severity, h4, h3, h2, h0]

theorem severity_lt_eight (code : Nat) : severity code < 8 := by
  unfold severity
  split_ifs <;> decide

/-- The flags of byte 3 lie above the severity. -/
theorem State.sevByte_mod_eight (s : State) (code : Nat) (delayed : Bool) :
    s.sevByte code delayed % 8 = severity code := by
  have := severity_lt_eight code
  unfold State.sevByte
  omega

/-! ### Writes of BED_STORE and BED_RES (R412) -/

theorem bitsOf_low_half (n : Nat) : bitsOf n 15 0 = n % 65536 := by
  simp [bitsOf]

theorem bitsOf_high_half (v : Word) : bitsOf v.toNat 31 16 = v.toNat / 65536 :=
  Nat.mod_eq_of_lt (by have := v.isLt; omega)

/-- On a working die-to-die path a write of a Bedrock register has its own effects. -/
theorem exec_bedConfigWrite {s : State} (h : dieLinkOk s = true) (k : Fin 3) (v : Word) :
    exec (.bedConfigWrite k v) s = .next (applyAll s (bedConfig k v.toNat s)) :=
  congrArg Host.Outcome.next (by rw [onPages, onlyIf, if_pos h])

theorem applyAll_bedConfig_store (s : State) (n : Nat) :
    applyAll s (bedConfig 1 n s) =
      if 100 ≤ n % 65536 ∧ n % 65536 ≤ 4700 then s.put F.BED_STORE_CAP_UF (n % 65536)
      else s.stick F.BED_STICKY_CFG_REJECT := by
  simp only [bedConfig, bitsOf_low_half, one_ne_zero, if_true, if_false]
  split <;> rfl

theorem applyAll_bedConfig_res (s : State) (v : Word) :
    applyAll s (bedConfig 2 v.toNat s) =
      if 30 ≤ v.toNat % 65536 ∧ 50 ≤ v.toNat / 65536
      then (s.put F.BED_RES_WRITE (v.toNat % 65536)).put F.BED_RES_KEEP (v.toNat / 65536)
      else s.stick F.BED_STICKY_CFG_REJECT := by
  simp only [bedConfig, bitsOf_low_half, bitsOf_high_half, OfNat.ofNat_ne_zero, OfNat.ofNat_ne_one, if_false]
  split <;> rfl

end Sys2Proof.Machine
end

section
/-! The obligations on Bedrock's ranges (R412) and on the Ledger's severities (R417). -/

namespace Sys2Proof

open Machine

/-- Settles O15: each write takes one of the two branches that `applyAll_bedConfig_res` and `applyAll_bedConfig_store`
give. -/
theorem configurationRanges : Obligations.ConfigurationRanges := by
  intro v s h
  constructor
  · exact (exec_bedConfigWrite h 2 v).trans (congrArg _ (applyAll_bedConfig_res s v))
  · exact (exec_bedConfigWrite h 1 v).trans (congrArg _ (applyAll_bedConfig_store s v.toNat))

/-- Settles O19: the codes listed are the model's four lists, which share no code, and the state flags of byte 3 are
multiples of 8. -/
theorem severityTable : Obligations.SeverityTable :=
  ⟨fun _ => severity_of_mem_severity4, fun _ => severity_of_mem_severity3, fun _ => severity_of_mem_severity2,
   fun _ => severity_of_mem_severity0, fun _ => severity_of_not_mem,
   fun s code _ _ d => s.sevByte_mod_eight code d⟩

end Sys2Proof
end

section
/-! SUPPORT. The queues (R440 to R444): what the display of a queue leaves alone, what a pop and a write of CONS do, and
where a record's header stands in memory. -/

namespace Sys2Proof.Machine

/-! ### The display of a queue (R440, R449) -/

/-- Beside FILL, the display writes in the words below the queues' own registers only. -/
theorem queShow_off {q k : Nat} (hfill : (F.QUE_Q_FILL_W q).key ≠ k) (hk : keyAt 0x12200 ≤ k) : (queShow q).Off k := by
  have low : ∀ f : Fld, f.key < keyAt 0x12200 → f.key ≠ k := fun f hf e => absurd (e ▸ hk) (Nat.not_le.2 hf)
  apply Prog.off_of
  intro s e he
  simp only [queShow, effIf, List.mem_append, List.mem_cons, List.not_mem_nil, or_false] at he
  rcases he with (rfl | rfl | rfl) | he
  · exact Eff.off_set hfill
  · exact Eff.off_set (low _ (by decide))
  · exact Eff.off_set (low _ (by decide))
  · split at he
    · cases List.mem_singleton.1 he
      exact Eff.off_sticky (low _ (by decide)) (low _ (by decide))
    · cases he

theorem get_cons_queShow (q : Nat) (s : State) :
    (after (queShow q) s).get (F.QUE_Q_CONS_W q) = s.get (F.QUE_Q_CONS_W q) :=
  queShow_off (by dsimp only; omega) (by dsimp only [keyAt]; omega) s _ rfl

/-- Of the blocks the display changes the flags set in the cycle alone. -/
theorem queShow_keeps {α : Type} {π : Blocks → α} (hs : ∀ b x, π { b with setNow := x } = π b) (q : Nat) :
    (queShow q).Keeps π := by
  intro s
  apply keeps_list
  intro e he
  simp only [queShow, effIf, List.mem_append, List.mem_cons, List.not_mem_nil, or_false] at he
  rcases he with (rfl | rfl | rfl) | he
  · exact fun _ => rfl
  · exact fun _ => rfl
  · exact fun _ => rfl
  · split at he
    · cases List.mem_singleton.1 he
      exact Eff.keeps_sticky hs _
    · cases he

theorem hst_queShow (q : Nat) (s : State) : (after (queShow q) s).b.hst = s.b.hst :=
  queShow_keeps (π := Blocks.hst) (fun _ _ => rfl) q s

/-! ### A write of CONS (R443) and a pop (R444) -/

theorem exec_queConsWrite {s : State} (h : Live s) (q : Fin 32) (c : Word) :
    exec (.queConsWrite q c) s = .next (after (queCons q c.toNat) s) :=
  congrArg Host.Outcome.next (after_onMain h _)

theorem exec_quePop {s : State} (h : Live s) (q : Fin 32) : exec (.quePop q) s = .next (after (quePop q) s) :=
  congrArg Host.Outcome.next (after_onMain h _)

theorem get_cons_queCons_within {s : State} {q c : Nat}
    (h : (c + 2 ^ 32 - s.get (F.QUE_Q_CONS_W q)) % 2 ^ 32 ≤ s.qFill q) :
    (after (queCons q c) s).get (F.QUE_Q_CONS_W q) = c % 2 ^ 32 := by
  have taken : after (queCons q c) s = after (queShow q) (s.put (F.QUE_Q_CONS_W q) c) := by
    rw [after, queCons, if_pos h]
    exact after_thenDo ..
  rw [taken, get_cons_queShow, State.get_put_self]

theorem after_queCons_beyond {s : State} {q c : Nat}
    (h : s.qFill q < (c + 2 ^ 32 - s.get (F.QUE_Q_CONS_W q)) % 2 ^ 32) :
    after (queCons q c) s = s.stick F.QUE_STICKY_IDX_REJECT := by
  rw [after, queCons, if_neg (Nat.not_le.2 h)]
  rfl

theorem popWord_empty {s : State} {q : Nat} (h : s.qFill q = 0) : popWord s q = 0 := if_pos (.inr h)

theorem popWord_held {s : State} {q : Nat} (hz : s.cur (F.QUE_Q_SIZE_W q) ≠ 0) (h : s.qFill q ≠ 0) :
    popWord s q = s.word (s.qAddr q (s.get (F.QUE_Q_CONS_W q))) :=
  if_neg (not_or.2 ⟨hz, h⟩)

theorem after_popAdvance_empty {s : State} {q : Nat} (h : s.qFill q = 0) : after (popAdvance q) s = s := by
  rw [after, popAdvance, if_pos (.inr h)]
  rfl

theorem after_popAdvance_held {s : State} {q : Nat} (hz : s.cur (F.QUE_Q_SIZE_W q) ≠ 0) (h : s.qFill q ≠ 0) :
    after (popAdvance q) s =
      after (queShow q) (s.put (F.QUE_Q_CONS_W q) ((s.get (F.QUE_Q_CONS_W q) + 1) % 2 ^ 32)) := by
  rw [after, popAdvance, if_neg (not_or.2 ⟨hz, h⟩)]
  exact after_thenDo ..

/-- The state in which a pop's word has gone out and CONS has not moved yet. -/
def popAnswered (s : State) (q : Nat) : State :=
  s.updB fun b => { b with hst := { b.hst with out := [popWord s q] } }

theorem after_quePop (q : Nat) (s : State) : after (quePop q) s = after (popAdvance q) (popAnswered s q) :=
  after_thenDo ..

theorem after_quePop_empty {s : State} {q : Nat} (h : s.qFill q = 0) :
    after (quePop q) s = s.updB fun b => { b with hst := { b.hst with out := [0] } } := by
  have empty : (popAnswered s q).qFill q = 0 := h
  rw [after_quePop, after_popAdvance_empty empty, popAnswered, popWord_empty h]

theorem after_quePop_held {s : State} {q : Nat} (hz : s.cur (F.QUE_Q_SIZE_W q) ≠ 0) (h : s.qFill q ≠ 0) :
    after (quePop q) s = after (queShow q)
      ((popAnswered s q).put (F.QUE_Q_CONS_W q) ((s.get (F.QUE_Q_CONS_W q) + 1) % 2 ^ 32)) := by
  have sized : (popAnswered s q).cur (F.QUE_Q_SIZE_W q) ≠ 0 := hz
  have held : (popAnswered s q).qFill q ≠ 0 := h
  rw [after_quePop, after_popAdvance_held sized held]
  rfl

theorem out_quePop_held {s : State} {q : Nat} (hz : s.cur (F.QUE_Q_SIZE_W q) ≠ 0) (h : s.qFill q ≠ 0) :
    (after (quePop q) s).b.hst.out = [s.word (s.qAddr q (s.get (F.QUE_Q_CONS_W q)))] := by
  rw [after_quePop_held hz h, hst_queShow, ← popWord_held hz h]
  rfl

theorem get_cons_quePop_held {s : State} {q : Nat} (hz : s.cur (F.QUE_Q_SIZE_W q) ≠ 0) (h : s.qFill q ≠ 0) :
    (after (quePop q) s).get (F.QUE_Q_CONS_W q) = (s.get (F.QUE_Q_CONS_W q) + 1) % 2 ^ 32 := by
  rw [after_quePop_held hz h, get_cons_queShow, State.get_put_self]
  exact Nat.mod_mod _ _

/-! ### Where a record stands in memory (R440, R441) -/

/-- Two stream words less than SIZE apart stand at different addresses. -/
theorem State.qAddr_ne_qAddr_add {s : State} {q w i : Nat} (h0 : 0 < i) (h : i < s.cur (F.QUE_Q_SIZE_W q)) :
    s.qAddr q w ≠ s.qAddr q (w + i) := by
  intro e
  have same : (w + 0) % s.cur (F.QUE_Q_SIZE_W q) = (w + i) % s.cur (F.QUE_Q_SIZE_W q) := Nat.add_left_cancel e
  have apart : 0 ≡ i [MOD s.cur (F.QUE_Q_SIZE_W q)] := Nat.ModEq.add_left_cancel' w same
  exact h0.ne (apart.eq_of_lt_of_lt (h0.trans h) h)

theorem State.word_qWrite_of_ne {s : State} {q w a : Nat} {vs : List Nat}
    (h : ∀ i < vs.length, a ≠ s.qAddr q (w + i)) : (s.qWrite q w vs).word a = s.word a := by
  induction vs generalizing s w with
  | nil => rfl
  | cons v vs ih =>
    have rest : ∀ i < vs.length, a ≠ (s.putWord (s.qAddr q w) v).qAddr q (w + 1 + i) := fun i hi => by
      rw [Nat.add_assoc, Nat.add_comm 1]
      exact h (i + 1) (Nat.succ_lt_succ hi)
    have first : s.qAddr q w ≠ a := (h 0 (Nat.succ_pos _)).symm
    rw [State.qWrite, ih rest, State.word_putWord, if_neg first]

theorem State.word_qWrite_head {s : State} {q w v : Nat} {vs : List Nat} (h : vs.length < s.cur (F.QUE_Q_SIZE_W q)) :
    (s.qWrite q w (v :: vs)).word (s.qAddr q w) = v % 2 ^ 32 := by
  have rest : ∀ i < vs.length, s.qAddr q w ≠ (s.putWord (s.qAddr q w) v).qAddr q (w + 1 + i) := fun i hi => by
    rw [Nat.add_assoc]
    exact State.qAddr_ne_qAddr_add (by omega) (by omega)
  rw [State.qWrite, State.word_qWrite_of_ne rest, State.word_putWord, if_pos rfl]

@[simp] theorem State.word_qRefresh (s : State) (q a : Nat) : (s.qRefresh q).word a = s.word a := by
  unfold State.qRefresh
  dsimp only
  split
  · rw [State.word_stick, State.word_put, State.word_put, State.word_put]
  · rw [State.word_put, State.word_put, State.word_put]

/-- A record that fits in its queue has its header at PROD. -/
theorem State.word_qPut_header {s : State} {q ty : Nat} {sg : Bool} {ws : List Nat}
    (h : ws.length < s.cur (F.QUE_Q_SIZE_W q)) :
    (s.qPut q ty sg ws).word (s.qAddr q (s.get (F.QUE_Q_PROD_W q))) =
      (2 ^ 31 * bit sg + 2 ^ 24 * (s.b.queSeq.getD q 0 % 128) + 2 ^ 16 * (ty % 256) + (ws.length + 1) % 0x10000)
        % 2 ^ 32 := by
  rw [State.qPut, State.word_qRefresh, State.word_updB, State.word_put]
  exact State.word_qWrite_head h

theorem State.word_qPut_header_ne_zero {s : State} {q ty : Nat} {sg : Bool} {ws : List Nat}
    (h : ws.length < s.cur (F.QUE_Q_SIZE_W q)) (hlen : ws.length < 65535) :
    (s.qPut q ty sg ws).word (s.qAddr q (s.get (F.QUE_Q_PROD_W q))) ≠ 0 := by
  rw [State.word_qPut_header h]
  omega

theorem State.qAppend_of_fits {s : State} {q ty : Nat} {sg : Bool} {ws : List Nat} (hl : s.qLater q ty = [])
    (he : s.on F.QUE_CTRL_ENABLE = true) (hz : s.cur (F.QUE_Q_SIZE_W q) ≠ 0)
    (h : s.qFill q + (ws.length + 1) ≤ s.cur (F.QUE_Q_SIZE_W q)) : s.qAppend q ty sg ws = s.qPut q ty sg ws := by
  have len : ¬ s.cur (F.QUE_Q_SIZE_W q) < ws.length + 1 := by omega
  simp [State.qAppend, hl, State.qPlace, he, hz, len, h]

end Sys2Proof.Machine
end

section
/-! The obligation on the consumer's side of the queues (R443, R444). -/

namespace Sys2Proof

open Machine

/-- Settles O14: a write of CONS and a pop each take one of two branches, and the queue's display, which follows, changes
neither CONS nor the word that went out; a header's low half is LEN, which is 1 at least. -/
theorem queueConsumerRules : Obligations.QueueConsumerRules := by
  refine ⟨fun q c s live => ⟨fun within => ?taken, fun beyond => ?rejected⟩, fun q s live hz held => ?popped,
    fun q s live empty => ?nothing, fun q ty sg ws s _ hlen hlater hon hz hfits => ?header⟩
  case taken =>
    exact ⟨_, exec_queConsWrite live q c, (get_cons_queCons_within within).trans (Nat.mod_eq_of_lt c.isLt)⟩
  case rejected => rw [exec_queConsWrite live, after_queCons_beyond beyond]
  case popped => exact ⟨_, exec_quePop live q, out_quePop_held hz held, get_cons_quePop_held hz held⟩
  case nothing => rw [exec_quePop live, after_quePop_empty empty]
  case header =>
    rw [State.qAppend_of_fits hlater hon hz hfits]
    exact State.word_qPut_header_ne_zero (by omega) hlen

end Sys2Proof
end

section
/-! SUPPORT. What the queues' operations keep of the blocks, and what a run of writes leaves in each of its fields. -/

namespace Sys2Proof.Machine

/-! ### The queues and the blocks (R440 to R446) -/

section
variable {α : Type} {π : Blocks → α} (hset : ∀ b x, π { b with setNow := x } = π b)
  (hque : ∀ b x y, π { b with queSeq := x, queNow := y } = π b)

include hset in
theorem State.keeps_qDrop (s : State) (q : Nat) : π (s.qDrop q).b = π s.b := by
  rw [State.qDrop, State.b_stick, hset, State.b_bump]

include hset in
theorem State.keeps_qRefresh (s : State) (q : Nat) : π (s.qRefresh q).b = π s.b := by
  unfold State.qRefresh
  dsimp only
  split
  · rw [State.b_stick, hset, State.b_put, State.b_put, State.b_put]
  · rw [State.b_put, State.b_put, State.b_put]

include hset in
theorem State.keeps_qMakeRoom (s : State) (q len fuel : Nat) : π (s.qMakeRoom q len fuel).b = π s.b := by
  induction fuel generalizing s with
  | zero => rfl
  | succ n ih =>
    unfold State.qMakeRoom
    split
    · rfl
    · rw [ih, State.keeps_qDrop hset, State.b_put]

theorem State.b_qWrite (s : State) (q w : Nat) (vs : List Nat) : (s.qWrite q w vs).b = s.b := by
  induction vs generalizing s w with
  | nil => rfl
  | cons v vs ih => exact ih (s.putWord _ v) (w + 1)

include hset hque

theorem State.keeps_qPut (s : State) (q t : Nat) (sg : Bool) (ws : List Nat) : π (s.qPut q t sg ws).b = π s.b := by
  rw [State.qPut, State.keeps_qRefresh hset, State.b_updB, hque, State.b_put, State.b_qWrite]

theorem State.keeps_qPlace (s : State) (q t : Nat) (sg : Bool) (ws : List Nat) :
    π (s.qPlace q t sg ws).b = π s.b := by
  unfold State.qPlace
  dsimp only
  split
  · rfl
  split
  · rw [State.b_stick, hset, State.keeps_qDrop hset]
  split
  · exact State.keeps_qPut hset hque s q t sg ws
  split
  · exact State.keeps_qDrop hset s q
  · rw [State.keeps_qPut hset hque, State.keeps_qMakeRoom hset]

theorem State.keeps_placeAll (s : State) (rs : List (Nat × Nat × Bool × List Nat)) :
    π (rs.foldl (fun s r => s.qPlace r.1 r.2.1 r.2.2.1 r.2.2.2) s).b = π s.b := by
  induction rs generalizing s with
  | nil => rfl
  | cons r rs ih => rw [List.foldl_cons, ih, State.keeps_qPlace hset hque]

/-- A record that reaches its queue changes, of the blocks, the queues' sequence numbers, their records of the cycle and
the flags set in the cycle alone. -/
theorem State.keeps_qAppend (s : State) (q t : Nat) (sg : Bool) (ws : List Nat) :
    π (s.qAppend q t sg ws).b = π s.b := by
  unfold State.qAppend
  dsimp only
  split
  · exact State.keeps_qPlace hset hque s q t sg ws
  · rw [State.keeps_placeAll hset hque, State.keeps_qPlace hset hque, State.qBack, State.b_updB, hque, State.b_put]

theorem Eff.keeps_queDone (q t : Nat) (ws : List Nat) : (Eff.queDone q t ws).Keeps π :=
  fun s => State.keeps_qAppend hset hque s q t true ws

end

/-! ### A run of writes to the words of a register array -/

/-- Where the fields of an array have keys of their own, each field written reads its value afterwards. -/
theorem get_applyAll_map_set {fld : Nat → Fld} (hkey : ∀ i j, i ≠ j → (fld i).key ≠ (fld j).key) (v : Nat → Nat)
    {l : List Nat} {k : Nat} (hk : k ∈ l) (s : State) :
    (applyAll s (l.map fun i => .set (fld i) (v i))).get (fld k) = v k % 2 ^ (fld k).w := by
  induction l generalizing s with
  | nil => cases hk
  | cons i is ih =>
    rw [List.map_cons, applyAll_cons]
    by_cases later : k ∈ is
    · exact ih later _
    · cases (List.mem_cons.1 hk).resolve_right later
      have rest : ∀ e ∈ is.map fun j => Eff.set (fld j) (v j), e.Off (fld k).key := by
        intro e he
        obtain ⟨j, hj, rfl⟩ := List.mem_map.1 he
        exact Eff.off_set (hkey j k fun same => later (same ▸ hj))
      rw [off_list rest _ _ rfl, Eff.apply, State.get_put_self]

/-- A field whose key no field written has keeps its value. -/
theorem get_applyAll_map_set_of_ne {fld : Nat → Fld} {v : Nat → Nat} {l : List Nat} {f : Fld}
    (h : ∀ i, (fld i).key ≠ f.key) (s : State) :
    (applyAll s (l.map fun i => .set (fld i) (v i))).get f = s.get f := by
  refine off_list (fun e he => ?_) s f rfl
  obtain ⟨i, _, rfl⟩ := List.mem_map.1 he
  exact Eff.off_set (h i)

end Sys2Proof.Machine
end

section
/-! SUPPORT. The signer's challenge (R477, R478): what CHALLENGE and SIGNATURE_DONE come to in each case. -/

namespace Sys2Proof.Machine

theorem exec_challenge {s : State} (h : Live s) : exec .challenge s = .next (after challenge s) :=
  congrArg Host.Outcome.next (after_onMain h _)

theorem exec_signatureDone {s : State} (h : Live s) : exec .signatureDone s = .next (after signatureDone s) :=
  congrArg Host.Outcome.next (after_onMain h _)

theorem on_signBusy_challenge (s : State) : (after challenge s).on F.SEC_STATUS_SIGN_BUSY = true := by
  have busy : (after challenge s).get F.SEC_STATUS_SIGN_BUSY = 1 := State.get_put_self ..
  rw [State.on, busy]
  rfl

theorem chal_challenge (s : State) :
    (after challenge s).b.sec.chal = some (s.get F.SEC_DEVID_LO_ID :: s.get F.SEC_DEVID_HI_ID ::
      (List.range 8).map fun k => s.get (F.SEC_CHAL_W k)) := rfl

/-- While the signer works on a record, a finished signature is that record's, and the challenge waits on. -/
theorem chal_signatureDone_of_record {s : State} (hjobs : s.b.sec.jobs ≠ []) (hnow : s.b.sec.chalNow = false) :
    (after signatureDone s).b.sec.chal = s.b.sec.chal := by
  obtain ⟨j, rest, hj⟩ := List.exists_cons_of_ne_nil hjobs
  simp only [after, signatureDone, hj, hnow]
  refine keeps_list (π := fun b => b.sec.chal) (fun e he => ?_) s
  simp only [List.mem_cons, List.not_mem_nil, or_false] at he
  rcases he with rfl | rfl | rfl
  · exact fun _ => rfl
  · exact fun _ => rfl
  · exact Eff.keeps_queDone (fun _ _ => rfl) (fun _ _ _ => rfl) _ _ _

/-- With no record before it, or once the signer has taken it up, the challenge is what is finished. -/
theorem after_signatureDone_of_challenge {s : State} {ws : List Nat}
    (h : s.b.sec.jobs = [] ∨ s.b.sec.chalNow = true) (hchal : s.b.sec.chal = some ws) :
    after signatureDone s = after (chalDone ws) s := by
  cases hjobs : s.b.sec.jobs with
  | nil => simp only [after, signatureDone, hjobs, hchal]
  | cons j rest =>
    have hnow : s.b.sec.chalNow = true := h.resolve_left (hjobs ▸ List.cons_ne_nil j rest)
    simp only [after, signatureDone, hjobs, hchal, hnow]

theorem on_signBusy_chalDone (ws : List Nat) (s : State) :
    (after (chalDone ws) s).on F.SEC_STATUS_SIGN_BUSY = false := by
  have idle : (after (chalDone ws) s).get F.SEC_STATUS_SIGN_BUSY = 0 := by
    rw [after, chalDone, applyAll_append,
      get_applyAll_map_set_of_ne (fld := F.SEC_ATT_W) (fun _ => by dsimp only; omega)]
    exact State.get_put_self ..
  rw [State.on, idle]
  rfl

theorem getD_signatureOf {k : Nat} (h : k < 16) (ws : List Nat) :
    (signatureOf ws).getD k 0 = Config.sigWord ws k % 2 ^ 32 := by
  simp [signatureOf, h]

theorem get_att_chalDone {k : Nat} (h : k < 16) (ws : List Nat) (s : State) :
    (after (chalDone ws) s).get (F.SEC_ATT_W k) = Config.sigWord ws k % 2 ^ 32 := by
  rw [after, chalDone, applyAll_append,
    get_applyAll_map_set (fld := F.SEC_ATT_W) (fun _ _ _ => by dsimp only; omega) _ (List.mem_range.2 h),
    getD_signatureOf h]
  exact Nat.mod_mod _ _

end Sys2Proof.Machine
end

section
/-! The obligation on the challenge (R478). -/

namespace Sys2Proof

open Machine

/-- Settles O18: the queue that a signed record goes to holds nothing of the challenge, and the 16 words of SEC_ATT are
written to keys of their own, all apart from SIGN_BUSY's. -/
theorem challengeRule : Obligations.ChallengeRule := by
  refine ⟨fun s live => ?taken, fun s live hjobs hnow => ?waits, fun ws s live hturn hchal => ?signed⟩
  case taken => exact ⟨_, exec_challenge live, on_signBusy_challenge s, chal_challenge s⟩
  case waits => exact ⟨_, exec_signatureDone live, chal_signatureDone_of_record hjobs hnow⟩
  case signed =>
    rw [exec_signatureDone live, after_signatureDone_of_challenge hturn hchal]
    exact ⟨_, rfl, on_signBusy_chalDone ws s, fun k => get_att_chalDone k.isLt ws s⟩

end Sys2Proof
end

section
/-! SUPPORT. Every command runs a meaning, and no effect of a meaning changes the queue of commands. -/

namespace Sys2Proof.Machine

/-! ### Commands, effects and the queue -/

/-- Every command runs a meaning. -/
theorem exec_eq_run (c : Instr) : ∃ p : Prog, ∀ s, exec c s = run p s := by
  cases c <;> exact ⟨_, fun _ => rfl⟩

theorem State.pending_loseRecords (s : State) (n : Nat) : (s.loseRecords n).pending = s.pending := by
  unfold State.loseRecords
  split <;> rfl

theorem State.pending_postRecord (s : State) (c i : Nat) (ps : List Nat) :
    (s.postRecord c i ps).pending = s.pending := by
  unfold State.postRecord State.enterBuffer
  split
  · rfl
  · split
    · split <;> rfl
    · split
      · rfl
      · exact State.pending_loseRecords ..

theorem State.pending_putWords (s : State) (a : Nat) (vs : List Nat) : (s.putWords a vs).pending = s.pending := by
  induction vs generalizing s a with
  | nil => rfl
  | cons v vs ih => exact ih (s.putWord a v) (a + 1)

theorem State.pending_qRefresh (s : State) (q : Nat) : (s.qRefresh q).pending = s.pending := by
  unfold State.qRefresh
  dsimp only
  split
  · rw [State.pending_stick, State.pending_put, State.pending_put, State.pending_put]
  · rw [State.pending_put, State.pending_put, State.pending_put]

theorem State.pending_qMakeRoom (s : State) (q len fuel : Nat) : (s.qMakeRoom q len fuel).pending = s.pending := by
  induction fuel generalizing s with
  | zero => rfl
  | succ n ih =>
    unfold State.qMakeRoom
    split
    · rfl
    · rw [ih, State.qDrop, State.pending_stick, State.pending_bump, State.pending_put]

theorem State.pending_qWrite (s : State) (q w : Nat) (vs : List Nat) : (s.qWrite q w vs).pending = s.pending := by
  induction vs generalizing s w with
  | nil => rfl
  | cons v vs ih => exact ih (s.putWord _ v) (w + 1)

theorem State.pending_qPut (s : State) (q t : Nat) (sg : Bool) (ws : List Nat) :
    (s.qPut q t sg ws).pending = s.pending := by
  rw [State.qPut, State.pending_qRefresh, State.pending_updB, State.pending_put, State.pending_qWrite]

theorem State.pending_qPlace (s : State) (q t : Nat) (sg : Bool) (ws : List Nat) :
    (s.qPlace q t sg ws).pending = s.pending := by
  unfold State.qPlace
  dsimp only
  split
  · rfl
  split
  · rw [State.pending_stick, State.qDrop, State.pending_stick, State.pending_bump]
  split
  · exact State.pending_qPut ..
  split
  · rw [State.qDrop, State.pending_stick, State.pending_bump]
  · rw [State.pending_qPut, State.pending_qMakeRoom]

theorem State.pending_placeAll (s : State) (rs : List (Nat × Nat × Bool × List Nat)) :
    (rs.foldl (fun s r => s.qPlace r.1 r.2.1 r.2.2.1 r.2.2.2) s).pending = s.pending := by
  induction rs generalizing s with
  | nil => rfl
  | cons r rs ih => rw [List.foldl_cons, ih, State.pending_qPlace]

theorem State.pending_qAppend (s : State) (q t : Nat) (sg : Bool) (ws : List Nat) :
    (s.qAppend q t sg ws).pending = s.pending := by
  unfold State.qAppend
  dsimp only
  split
  · exact State.pending_qPlace ..
  · rw [State.pending_placeAll, State.pending_qPlace, State.qBack, State.pending_updB, State.pending_put]

theorem State.pending_qSigned (s : State) (q t : Nat) (ws : List Nat) : (s.qSigned q t ws).pending = s.pending := by
  unfold State.qSigned
  split
  · rfl
  · rw [State.pending_postRecord, State.pending_stick, State.pending_bump, State.pending_qAppend]

/-- No effect changes the queue of commands. -/
theorem Eff.pending_apply (e : Eff) (s : State) : (e.apply s).pending = s.pending := by
  cases e with
  | mems a vs => exact State.pending_putWords ..
  | led c i ps => exact State.pending_postRecord ..
  | que q t ws => exact State.pending_qAppend ..
  | queSign q t ws => exact State.pending_qSigned ..
  | queDone q t ws => exact State.pending_qAppend ..
  | _ => rfl

theorem pending_applyAll (s : State) (es : List Eff) : (applyAll s es).pending = s.pending := by
  induction es generalizing s with
  | nil => rfl
  | cons e es ih => rw [applyAll_cons, ih, Eff.pending_apply]

/-- A sound state is sound whatever its queue. -/
theorem State.Sound.withPending {s : State} (h : s.Sound) (q : List Instr) : State.Sound { s with pending := q } :=
  ⟨h.regs, h.act, h.pnd, h.mem⟩

end Sys2Proof.Machine
end

section
/-! The obligations on the step and on the canonical form of the stores. -/

namespace Sys2Proof

open Machine

/-- Settles O1, by the first equation of `step`. -/
theorem stepRunsFront : Obligations.StepRunsFront := by
  intro c rest s h
  simp only [step, h]

/-- Settles O3: every command runs a meaning, and no effect of a meaning touches the queue. -/
theorem commandsCompleteAndKeepQueue : Obligations.CommandsCompleteAndKeepQueue := by
  intro c s
  obtain ⟨p, hp⟩ := exec_eq_run c
  exact ⟨_, hp s, pending_applyAll s (p s)⟩

/-- Settles O4. -/
theorem resetIsSound : Obligations.ResetIsSound := by
  refine ⟨?_, rfl, rfl, rfl⟩
  decide

/-- Settles O5: a step applies a list of effects, idle or not, and every effect keeps the stores in canonical form. -/
theorem stepKeepsSound : Obligations.StepKeepsSound := by
  intro s t h ht
  unfold step at ht
  split at ht
  next c rest _ =>
    obtain ⟨p, hp⟩ := exec_eq_run c
    rw [hp] at ht
    exact run_sound (h.withPending rest) ht
  next =>
    cases ht
    exact h.applyAll _

end Sys2Proof
end

section
/-! SUPPORT. Program words (R139, R140), slot words (R118) and rounding (R119). -/

namespace Sys2Proof.Machine

/-! ### Program words (R139, R140) -/

/-- A field of a word, in its place, above the bits below it. -/
theorem bitsOf_mul_add_mod (w lo n : Nat) :
    w / 2 ^ lo % 2 ^ n * 2 ^ lo + w % 2 ^ lo = w % 2 ^ (lo + n) := by
  rw [pow_add, Nat.mod_mul, Nat.mul_comm, Nat.add_comm]

theorem kFits_iff (k : KWord) : kFits k = true ↔ k.op < 64 ∧ k.pm < 4 ∧ k.pr < 8 ∧ k.dst < 128 ∧ k.doff < 64 ∧
    k.n < 128 ∧ k.sub < 2 ∧ k.a < 65536 ∧ k.b < 65536 := by
  simp [kFits, and_assoc]

theorem kEncode_lt {k : KWord} (h : kFits k = true) : kEncode k < 2 ^ 64 := by
  obtain ⟨h1, h2, h3, h4, h5, h6, h7, h8, h9⟩ := (kFits_iff k).1 h
  unfold kEncode
  omega

/-- The fields of the word that holds given fields are those fields. -/
theorem kWord_kEncode {k : KWord} (h : kFits k = true) : kWord (kEncode k) = k := by
  obtain ⟨op, pm, pr, dst, doff, n, sub, a, b⟩ := k
  obtain ⟨h1, h2, h3, h4, h5, h6, h7, h8, h9⟩ := (kFits_iff _).1 h
  dsimp only at h1 h2 h3 h4 h5 h6 h7 h8 h9
  simp only [kWord, kEncode, bitsOf, KWord.mk.injEq]
  refine ⟨?_, ?_, ?_, ?_, ?_, ?_, ?_, ?_, ?_⟩ <;> omega

theorem kFits_kWord (w : Nat) : kFits (kWord w) = true := by
  rw [kFits_iff]
  simp only [kWord, bitsOf]
  refine ⟨?_, ?_, ?_, ?_, ?_, ?_, ?_, ?_, ?_⟩ <;> exact Nat.mod_lt _ (by decide)

/-- The word that holds the fields of a 64-bit word is that word: each field closes the gap up to the next. -/
theorem kEncode_kWord {w : Nat} (h : w < 2 ^ 64) : kEncode (kWord w) = w := by
  have s1 := bitsOf_mul_add_mod w 16 16
  have s2 := bitsOf_mul_add_mod w 32 1
  have s3 := bitsOf_mul_add_mod w 33 7
  have s4 := bitsOf_mul_add_mod w 40 6
  have s5 := bitsOf_mul_add_mod w 46 7
  have s6 := bitsOf_mul_add_mod w 53 3
  have s7 := bitsOf_mul_add_mod w 56 2
  have s8 := bitsOf_mul_add_mod w 58 6
  simp only [Nat.reduceAdd] at s1 s2 s3 s4 s5 s6 s7 s8
  simp only [kEncode, kWord, bitsOf, Nat.reduceAdd, Nat.reduceSub, pow_zero, Nat.div_one]
  linarith only [s1, s2, s3, s4, s5, s6, s7, s8, Nat.mod_eq_of_lt h]

/-! ### Slot words and rounding (R118, R119) -/

theorem signedOf_unsignedOf_24 {m : Int} (h1 : -8388608 ≤ m) (h2 : m ≤ 8388607) :
    signedOf 24 (unsignedOf 24 m) = m := by
  unfold signedOf unsignedOf
  split <;> omega

theorem slotWord_lt (m e : Int) : slotWord m e < 2 ^ 32 := by
  unfold slotWord unsignedOf
  omega

theorem slotM_slotWord {m : Int} (h1 : -8388608 ≤ m) (h2 : m ≤ 8388607) (e : Int) : slotM (slotWord m e) = m := by
  have low : slotWord m e / 256 = unsignedOf 24 m := by
    unfold slotWord unsignedOf
    omega
  rw [slotM, low, signedOf_unsignedOf_24 h1 h2]

theorem slotE_slotWord {e : Int} (h1 : -128 ≤ e) (h2 : e ≤ 127) (m : Int) : slotE (slotWord m e) = e := by
  unfold slotE signedOf slotWord unsignedOf
  split <;> omega

theorem eq_zero_of_slotWord_eq_zero {m e : Int} (h1 : -8388608 ≤ m) (h2 : m ≤ 8388607) (h3 : -128 ≤ e) (h4 : e ≤ 127)
    (h : slotWord m e = 0) : m = 0 ∧ e = 0 := by
  have hm := slotM_slotWord h1 h2 e
  have he := slotE_slotWord h3 h4 m
  rw [h] at hm he
  exact ⟨hm.symm, he.symm⟩

/-- The rounded quotient of a number that is not negative: the floor of the quotient and a half. -/
theorem roundDiv_of_nonneg {n : Int} (h : 0 ≤ n) {d : Nat} (hd : 0 < d) :
    2 * (d * roundDiv n d) ≤ 2 * n + d ∧ 2 * n < 2 * (d * roundDiv n d) + d := by
  rw [roundDiv, if_pos h]
  have hpos : (0 : Int) < 2 * d := by omega
  have low := Int.mul_ediv_self_le (x := 2 * n + d) (k := 2 * d) hpos.ne'
  have high := Int.lt_mul_ediv_self_add (x := 2 * n + d) hpos
  rw [Int.mul_assoc] at low high
  omega

theorem roundDiv_neg {n : Int} (h : n < 0) (d : Nat) : roundDiv n d = -roundDiv (-n) d := by
  rw [roundDiv, if_neg (by omega), roundDiv, if_pos (by omega)]

/-- Rounding goes to the nearest integer; at half a unit away from zero. -/
theorem roundDiv_nearest (n : Int) {d : Nat} (hd : 0 < d) :
    (2 * (n - d * roundDiv n d)).natAbs ≤ d ∧
    ((2 * (n - d * roundDiv n d)).natAbs = d → n.natAbs < (d * roundDiv n d).natAbs) := by
  rcases le_or_gt 0 n with h | h
  · have := roundDiv_of_nonneg h hd
    omega
  · have := roundDiv_of_nonneg (n := -n) (by omega) hd
    rw [roundDiv_neg h, Int.mul_neg]
    omega

theorem roundDiv_eq_zero {n : Int} {d : Nat} (h : 2 * n.natAbs < d) : roundDiv n d = 0 := by
  rw [roundDiv]
  split
  · exact Int.ediv_eq_zero_of_lt (by omega) (by omega)
  · rw [Int.ediv_eq_zero_of_lt (by omega) (by omega), neg_zero]

end Sys2Proof.Machine
end

section
/-! The obligations on the words and on the rounding of the Keystone engines. -/

namespace Sys2Proof

open Machine

/-- Settles O9. -/
theorem keystoneWordRoundTrip : Obligations.KeystoneWordRoundTrip :=
  ⟨fun _ h => ⟨kEncode_lt h, kWord_kEncode h⟩, fun w h => ⟨kFits_kWord w, kEncode_kWord h⟩⟩

/-- Settles O10. -/
theorem keystoneArithmetic : Obligations.KeystoneArithmetic := by
  refine ⟨fun m e h1 h2 h3 h4 => ⟨slotWord_lt m e, slotM_slotWord h1 h2 e, slotE_slotWord h3 h4 m,
    eq_zero_of_slotWord_eq_zero h1 h2 h3 h4⟩, fun n d hd => ?_⟩
  obtain ⟨near, tie⟩ := roundDiv_nearest n hd
  exact ⟨near, tie, roundDiv_eq_zero⟩

end Sys2Proof
end

section
/-! A command of the main die that acts while the main die is held in reset (R300, R487). -/

namespace Sys2Proof.Machine

/-- The part with its main die in reset while the power die runs. -/
def mainHeldPowerLive : State :=
  { State.reset with b := { ({} : Blocks) with sys := { inReset := true, pwrReset := false } } }

/-- The power die takes in what its own sensor reads while the main die is held in reset. -/
theorem tdie_tempSample_mainHeld :
    ∃ t, exec (.tempSample 4 1) mainHeldPowerLive = .next t ∧ t.b.met.tdie = 1 := ⟨_, rfl, by decide⟩

end Sys2Proof.Machine

namespace Sys2Proof

open Machine

/-- Refutes O6: a sample of sensor 4 is also one of the power die (R300), which keeps the temperature while the main die
is in reset. -/
theorem not_mainDieHeldInReset : ¬ Obligations.MainDieHeldInReset := by
  intro h
  obtain ⟨t, ht, hT⟩ := tdie_tempSample_mainHeld
  have same : t = mainHeldPowerLive := Host.Outcome.next.inj (ht.symm.trans (h _ _ rfl rfl))
  rw [same] at hT
  exact absurd hT (by decide)

end Sys2Proof
end

section
/-! Frames that a full queue breaks: a record that a queue cannot take sets the queue's flags, so a command that appends
one may set flags of the cycle (R442, R451). -/

namespace Sys2Proof.Machine

open Sys2Proof.Tests

/-- Queue 0 is enabled and has room for one word: no record with a word of its own fits. -/
def narrowQueue : State :=
  wCur [(F.QUE_Q_SIZE_W 0, 1)] (wReg [(F.QUE_CTRL_ENABLE, 1), (F.TWV_Q_CAP_EN, 1)])

/-- A record waits for its signature, and belongs to the narrow queue. -/
def signsIntoNarrow : State := wB (fun b => { b with sec := { b.sec with jobs := [{}] } }) narrowQueue

theorem setNow_signatureDone_narrow : (after (onMain signatureDone) signsIntoNarrow).b.setNow ≠ signsIntoNarrow.b.setNow := by decide

/-- Detector 0 has a trigger whose capture is complete. -/
def capturesIntoNarrow : State :=
  wB (fun b => { b with twv := { b.twv with trig := [[{ after := 767 }]] } }) narrowQueue

theorem exec_twCaptureDone_zero (ago : Nat) (s : State) :
    exec (.twCaptureDone 0 [] 0 ago) s = .next (after (onMain (captureDone 0 [] 0 ago)) s) := rfl

theorem setNow_captureDone_narrow :
    (after (onMain (captureDone 0 [] 0 767)) capturesIntoNarrow).b.setNow ≠ capturesIntoNarrow.b.setNow := by
  decide +kernel

end Sys2Proof.Machine
end

section
namespace Sys2Proof

open Machine

/-- Refutes O60: a signature whose record finds its queue full sets the queue's flags, which the frame of SIGNATURE_DONE
leaves out of the flags set in the cycle (R442, R451). -/
theorem not_frameSupervision : ¬ Obligations.FrameSupervision := by
  rintro ⟨-, -, -, -, -, -, -, -, -, -, -, -, -, -, -, -, -, -, -, -, -, -, -, signed, -⟩
  have kept := congrArg Blocks.setNow (signed signsIntoNarrow _ rfl).2
  exact setNow_signatureDone_narrow kept

/-- Refutes O58: a capture whose record finds its queue full sets the queue's flags, which the frame of TW_CAPTURE_DONE
leaves out of the flags set in the cycle (R442, R451). -/
theorem not_frameConversion : ¬ Obligations.FrameConversion := by
  rintro ⟨-, -, -, -, -, -, -, -, -, -, -, -, -, -, -, -, -, -, -, -, -, -, -, -, -, -, -, -, -, -, -, -, -, -, -, -, -, -,
    captured, -⟩
  have kept := congrArg Blocks.setNow (captured 0 [] 0 767 capturesIntoNarrow _ (exec_twCaptureDone_zero 767 _)).2
  exact setNow_captureDone_narrow kept

end Sys2Proof
end

section
/-! The rotation of the fast converters names its converter by a number; a number past the seventeenth lies outside the
coefficients (R287, R289). -/

namespace Sys2Proof.Machine

open Sys2Proof.Tests

/-- A hand-back is due for an eighteenth converter while the control-period timer runs. -/
def handBackStray : State :=
  wB (fun b => { b with
    ke0 := { b.ke0 with timer := true }, fac := { b.fac with due := 2, dueK := 17, new := (1, 0, 0) } }) State.reset

theorem exec_sampleInstant_zero (s : State) :
    exec (.sampleInstant 0 0) s = .next (after (onMain (sampleInstant 0)) s) := rfl

theorem coef_sampleInstant_stray : (after (onMain (sampleInstant 0)) handBackStray).get (F.FAC_CAL_OFS_OFS 17) = 1 := by
  decide +kernel

end Sys2Proof.Machine

namespace Sys2Proof

open Machine

/-- Refutes O57: with a hand-back due for a converter number past the rotation's own, SAMPLE_INSTANT writes its coefficients
outside the fields listed for it; no hypothesis of the statement bounds that number. -/
theorem not_frameEnginesAndGrid : ¬ Obligations.FrameEnginesAndGrid := by
  rintro ⟨-, instant, -⟩
  have kept := (instant 0 0 handBackStray _ (exec_sampleInstant_zero _)).1.regs (F.FAC_CAL_OFS_OFS 17)
    (by simp) (by decide +kernel)
  exact absurd (coef_sampleInstant_stray.symm.trans kept) (by decide)

end Sys2Proof
end

section
/-! A comparator that ends the period of a pair begins the pair's next one, and with it the ramps of the comparators that
follow the pair (R233, R264). -/

namespace Sys2Proof.Machine

open Sys2Proof.Tests

/-- Comparator 0 terminates pair 0, whose period runs; comparator 1 is ramped by pair 0. -/
def terminatesRamp : State :=
  wB (fun b => { b with pairs := [{ run := true, started := true }] })
    (wCur [(F.WIN_CFG_EN 0, 1), (F.PAIR_CFG_MODE 0, 3), (F.PAIR_CFG_TERM_TYPE 0, 1), (F.WIN_RAMP_SLOPE 1, 1),
        (F.WIN_RAMP_PAIR 1, 0), (F.WIN_THR_HI 1, 7)]
      (wReg [(F.CMP_CTRL_ENABLE 0, 1)]))

/-- 29 V in units of 1 µV. -/
def crossingVolt : BitVec 25 := 29000000

theorem exec_comparatorCrossing_zero (v : BitVec 25) (s : State) :
    exec (.comparatorCrossing 0 v 0) s = .next (after (onMain (inThisCycle 0 (crossing 0 v.toNat))) s) := rfl

theorem heff_crossing_terminatesRamp :
    (after (onMain (inThisCycle 0 (crossing 0 crossingVolt.toNat))) terminatesRamp).get (F.WIN_STAT_HEFF 1) = 7 := by decide +kernel

end Sys2Proof.Machine

namespace Sys2Proof

open Machine

/-- Refutes O56: a crossing of comparator 0 that ends a pair's period restarts the ramp of comparator 1, whose effective
threshold the frame of COMPARATOR_CROSSING leaves out (R233, R264). -/
theorem not_framePower : ¬ Obligations.FramePower := by
  rintro ⟨-, -, -, -, -, -, -, -, -, -, -, -, -, -, -, -, crossed, -⟩
  have kept := (crossed 0 crossingVolt 0 terminatesRamp _ (exec_comparatorCrossing_zero _ _)).1.regs (F.WIN_STAT_HEFF 1)
    (by simp) (by decide +kernel)
  exact absurd (heff_crossing_terminatesRamp.symm.trans kept) (by decide)

end Sys2Proof
end

section
/-! The Ledger's buffer of 16 records (R419). -/

namespace Sys2Proof.Machine

theorem insertByCode_perm (r : LedgerRec) (l : List LedgerRec) : (insertByCode r l).Perm (r :: l) := by
  induction l with
  | nil => exact .refl _
  | cons x xs ih =>
    unfold insertByCode
    split
    · exact .refl _
    · exact (ih.cons x).trans (.swap r x xs)

theorem Ldg.entered_perm (l : Ldg) (r : LedgerRec) : (l.entered r).Perm (r :: l.buf) := by
  unfold Ldg.entered
  refine ((insertByCode_perm r _).append_left _).trans ?_
  refine List.perm_middle.trans ?_
  rw [List.take_append_drop]

/-- A record that no other of its cycle precedes, or that arises on the power die, takes the last place. -/
theorem Ldg.entered_of_first {l : Ldg} {r : LedgerRec} (h : l.now = 0 ∨ powerDieCode r.code = true) :
    l.entered r = l.buf ++ [r] := by
  have none : l.sameCycle r = 0 := by
    unfold Ldg.sameCycle
    rcases h with h | h <;> simp [h]
  simp [Ldg.entered, none, insertByCode]

theorem State.ldg_loseRecords (s : State) (n : Nat) : (s.loseRecords n).b.ldg = s.b.ldg := by
  obtain ⟨x, hx⟩ := State.b_loseRecords s n
  rw [hx]

/-- A record that a buffer of fewer than 16 takes. -/
theorem State.buf_enterBuffer_of_room {s : State} {r : LedgerRec} (h : s.b.ldg.buf.length < 16) :
    (s.enterBuffer r).b.ldg.buf = s.b.ldg.entered r := by
  rw [State.enterBuffer, if_pos h]
  rfl

/-- A full buffer keeps the first 16 of its records and the new one. -/
theorem State.buf_enterBuffer_of_full {s : State} {r : LedgerRec} (h : ¬ s.b.ldg.buf.length < 16) :
    (s.enterBuffer r).b.ldg.buf = (s.b.ldg.entered r).take 16 := by
  rw [State.enterBuffer, if_neg h, State.ldg_loseRecords]
  rfl

theorem State.length_buf_enterBuffer {s : State} (r : LedgerRec) :
    (s.enterBuffer r).b.ldg.buf.length ≤ 16 := by
  by_cases h : s.b.ldg.buf.length < 16
  · rw [State.buf_enterBuffer_of_room h, (Ldg.entered_perm _ r).length_eq]
    exact h
  · rw [State.buf_enterBuffer_of_full h]
    exact List.length_take_le _ _

theorem State.length_buf_postRecord {s : State} (h : s.b.ldg.buf.length ≤ 16) (code inst : Nat) (ps : List Nat) :
    (s.postRecord code inst ps).b.ldg.buf.length ≤ 16 := by
  unfold State.postRecord
  split
  · exact h
  · split
    · split <;> exact h
    · exact State.length_buf_enterBuffer _

/-- While Bedrock runs and the die-to-die path works, a record goes to the buffer. -/
theorem State.postRecord_of_path {s : State} (hsrc : s.b.bed.src ≠ .off) (hlink : s.on F.SYS_GUAR_DIE_LINK = false)
    (code inst : Nat) (ps : List Nat) :
    s.postRecord code inst ps = s.enterBuffer (s.mkRecord code inst ps false) := by
  simp [State.postRecord, hsrc, hlink]

/-- What a saturating counter shows once it is bumped. -/
theorem State.get_bump_self (s : State) (f : Fld) (n : Nat) :
    (s.bump f n).get f = min (s.get f + n) (2 ^ f.w - 1) := by
  have := Nat.two_pow_pos f.w
  rw [State.get_bump, if_pos rfl, Nat.mod_mod]
  exact Nat.mod_eq_of_lt (by omega)

/-- One record that is lost is counted twice and flagged (R419). -/
theorem State.counts_loseRecords_one (s : State) :
    (s.loseRecords 1).get F.LDG_CNT_LOST_N = min (s.get F.LDG_CNT_LOST_N + 1) (2 ^ F.LDG_CNT_LOST_N.w - 1) ∧
    (s.loseRecords 1).get F.LDG_DEFER_LOST = min (s.get F.LDG_DEFER_LOST + 1) (2 ^ F.LDG_DEFER_LOST.w - 1) ∧
    (s.loseRecords 1).on F.LDG_STICKY_LOST = true := by
  rw [State.loseRecords, if_neg (by decide)]
  refine ⟨?_, ?_, ?_⟩
  · rw [State.get_stick, if_neg (by decide), if_neg (by decide), State.get_bump, if_neg (by decide),
      State.get_bump_self]
  · rw [State.get_stick, if_neg (by decide), if_neg (by decide), State.get_bump_self, State.get_bump,
      if_neg (by decide)]
  · rw [State.on, State.get_stick, if_neg (by decide), if_pos rfl]
    rfl

/-- A full buffer loses one record of an event. -/
theorem State.enterBuffer_of_full {s : State} {r : LedgerRec} (h : s.b.ldg.buf.length = 16) :
    s.enterBuffer r = (s.updB fun b => { b with ldg.buf := (b.ldg.entered r).take 16 }).loseRecords 1 := by
  rw [State.enterBuffer, if_neg (by omega)]

end Sys2Proof.Machine
end

section
namespace Sys2Proof

open Machine

/-- Settles O20, by the place that the buffer gives to a record: the last one, or the one of its code among the records of
its cycle. -/
theorem ledgerBufferBound : Obligations.LedgerBufferBound := by
  intro s code inst ps
  refine ⟨fun h => State.length_buf_postRecord h code inst ps, fun hsrc hlink => ?_⟩
  rw [State.postRecord_of_path hsrc hlink]
  refine ⟨fun room => ?_, fun full => ?_⟩
  · rw [State.buf_enterBuffer_of_room room]
    exact ⟨Ldg.entered_perm _ _, fun first => Ldg.entered_of_first (r := s.mkRecord code inst ps false) first⟩
  · refine ⟨fun first => ?_, ?_⟩
    · rw [State.buf_enterBuffer_of_full (by omega), Ldg.entered_of_first first, ← full, List.take_left]
    · rw [State.enterBuffer_of_full full]
      exact State.counts_loseRecords_one _

end Sys2Proof
end

section
/-! A group's commit and its update point (R452). -/

namespace Sys2Proof.Machine

theorem cur_applyAll_map_set (ws : List (Fld × Nat)) (s : State) (f : Fld) :
    (applyAll s (ws.map fun p => Eff.set p.1 p.2)).cur f = s.cur f := by
  induction ws generalizing s with
  | nil => rfl
  | cons p ws ih => exact ih (s.put p.1 p.2)

theorem pend_applyAll_map_set (ws : List (Fld × Nat)) (s : State) (f : Fld) :
    (applyAll s (ws.map fun p => Eff.set p.1 p.2)).pend f = s.pend f := by
  induction ws generalizing s with
  | nil => rfl
  | cons p ws ih => exact ih (s.put p.1 p.2)

theorem get_applyAll_map_set_of_notMem {ws : List (Fld × Nat)} {f : Fld} (h : f.key ∉ ws.map fun p => p.1.key)
    (s : State) : (applyAll s (ws.map fun p => Eff.set p.1 p.2)).get f = s.get f :=
  off_list (fun e he => by
    obtain ⟨p, hp, rfl⟩ := List.mem_map.1 he
    exact Eff.off_set fun e => h (List.mem_map.2 ⟨p, hp, e⟩)) s f rfl

/-- After a commit of a range its pending values are the shadows. -/
theorem pend_applyAll_takeGroup (g : Group) (lo hi : Nat) (s : State) (f : Fld) :
    (applyAll s (takeGroup g lo hi)).pend f = if keyAt lo ≤ f.key ∧ f.key < keyAt hi then s.get f else s.pend f := by
  show Store.get _ (s.pnd.copyFrom s.regs (keyAt lo) (keyAt hi)) f.key % 2 ^ f.w = _
  rw [Store.get_copyFrom]
  split <;> rfl

/-- After the update point of a range its values in force are the pending ones. -/
theorem cur_applyAll_adoptGroup (g : Group) (lo hi : Nat) (s : State) (f : Fld) :
    (applyAll s (adoptGroup g lo hi)).cur f = if keyAt lo ≤ f.key ∧ f.key < keyAt hi then s.pend f else s.cur f := by
  show Store.get _ (s.act.copyFrom s.pnd (keyAt lo) (keyAt hi)) f.key % 2 ^ f.w = _
  rw [Store.get_copyFrom]
  split <;> rfl

@[simp] theorem cur_applyAll_takeGroup (g : Group) (lo hi : Nat) (s : State) (f : Fld) :
    (applyAll s (takeGroup g lo hi)).cur f = s.cur f := rfl

@[simp] theorem get_applyAll_takeGroup (g : Group) (lo hi : Nat) (s : State) (f : Fld) :
    (applyAll s (takeGroup g lo hi)).get f = s.get f := rfl

@[simp] theorem get_applyAll_adoptGroup (g : Group) (lo hi : Nat) (s : State) (f : Fld) :
    (applyAll s (adoptGroup g lo hi)).get f = s.get f := rfl

end Sys2Proof.Machine

namespace Sys2Proof

open Machine

/-- Settles O21: the commit copies the shadows into the pending set, which no write of a shadow changes. -/
theorem shadowsAdoptTogether : Obligations.ShadowsAdoptTogether := by
  intro g lo hi ws f s t
  have ht : t = applyAll (applyAll (applyAll s (takeGroup g lo hi)) (ws.map fun p => Eff.set p.1 p.2))
      (adoptGroup g lo hi) := by
    show applyAll s _ = _
    rw [applyAll_append, applyAll_append]
  rw [ht, cur_applyAll_adoptGroup, pend_applyAll_map_set, cur_applyAll_map_set, pend_applyAll_takeGroup,
    cur_applyAll_takeGroup, get_applyAll_adoptGroup]
  refine ⟨fun h1 h2 => ?_, fun h => ?_, fun h => ?_⟩
  · rw [if_pos ⟨h1, h2⟩, if_pos ⟨h1, h2⟩]
  · rw [if_neg (by omega)]
  · rw [get_applyAll_map_set_of_notMem h, get_applyAll_takeGroup]

end Sys2Proof
end

section
/-! The producer's side of the queues (R440 to R446). -/

namespace Sys2Proof.Machine

/-! ### What a record that is put changes -/

/-- The display of a queue's state writes FILL of the queue, and NONEMPTY, WM_STAT and WM. -/
theorem State.get_qRefresh {s : State} {q : Nat} {f : Fld} (hf : (F.QUE_Q_FILL_W q).key ≠ f.key)
    (hn : F.QUE_STATUS_NONEMPTY.key ≠ f.key) (hw : F.QUE_WM_STAT_Q.key ≠ f.key) (hs : F.QUE_STICKY_WM.key ≠ f.key)
    (hi : F.QUE_STICKY_WM.irq.key ≠ f.key) : (s.qRefresh q).get f = s.get f := by
  unfold State.qRefresh
  dsimp only
  split
  · rw [State.get_stick, if_neg hi, if_neg hs, State.get_put, if_neg hw, State.get_put, if_neg hn, State.get_put,
      if_neg hf]
  · rw [State.get_put, if_neg hw, State.get_put, if_neg hn, State.get_put, if_neg hf]

/-- The queues' own registers begin behind those that all of them share. -/
theorem State.get_qRefresh_of_own {s : State} {q : Nat} {f : Fld} (hf : (F.QUE_Q_FILL_W q).key ≠ f.key)
    (h : keyAt 0x12200 ≤ f.key) : (s.qRefresh q).get f = s.get f := by
  have behind (g : Fld) (hg : g.key < keyAt 0x12200) : g.key ≠ f.key := by omega
  exact State.get_qRefresh hf (behind _ (by decide)) (behind _ (by decide)) (behind _ (by decide))
    (behind _ (by decide))

@[simp] theorem State.cur_qRefresh (s : State) (q : Nat) (f : Fld) : (s.qRefresh q).cur f = s.cur f := by
  unfold State.qRefresh
  dsimp only
  split
  · rw [State.cur_stick, State.cur_put, State.cur_put, State.cur_put]
  · rw [State.cur_put, State.cur_put, State.cur_put]

@[simp] theorem State.cur_qWrite (s : State) (q w : Nat) (vs : List Nat) (f : Fld) :
    (s.qWrite q w vs).cur f = s.cur f := by
  induction vs generalizing s w with
  | nil => rfl
  | cons v vs ih => exact ih (s.putWord _ v) (w + 1)

@[simp] theorem State.get_qWrite (s : State) (q w : Nat) (vs : List Nat) (f : Fld) :
    (s.qWrite q w vs).get f = s.get f := by
  induction vs generalizing s w with
  | nil => rfl
  | cons v vs ih => exact ih (s.putWord _ v) (w + 1)

section
variable (s : State) (q ty : Nat) (sg : Bool) (ws : List Nat)

@[simp] theorem State.cur_qPut (f : Fld) : (s.qPut q ty sg ws).cur f = s.cur f := by
  rw [State.qPut, State.cur_qRefresh, State.cur_updB, State.cur_put, State.cur_qWrite]

/-- A record put changes, of the registers behind the shared ones, PROD and FILL of its queue alone. -/
theorem State.get_qPut_of_own {f : Fld} (hf : (F.QUE_Q_FILL_W q).key ≠ f.key) (hp : (F.QUE_Q_PROD_W q).key ≠ f.key)
    (h : keyAt 0x12200 ≤ f.key) : (s.qPut q ty sg ws).get f = s.get f := by
  rw [State.qPut, State.get_qRefresh_of_own hf h, State.get_updB, State.get_put, if_neg hp, State.get_qWrite]

theorem State.get_prod_qPut :
    (s.qPut q ty sg ws).get (F.QUE_Q_PROD_W q) = (s.get (F.QUE_Q_PROD_W q) + (ws.length + 1)) % 2 ^ 32 := by
  rw [State.qPut, State.get_qRefresh_of_own (by dsimp only; omega) (by dsimp only [keyAt]; omega), State.get_updB,
    State.get_put_self, Nat.mod_mod]

theorem State.get_cons_qPut : (s.qPut q ty sg ws).get (F.QUE_Q_CONS_W q) = s.get (F.QUE_Q_CONS_W q) :=
  State.get_qPut_of_own s q ty sg ws (by dsimp only; omega) (by dsimp only; omega) (by dsimp only [keyAt]; omega)

theorem State.on_enable_qPut : (s.qPut q ty sg ws).on F.QUE_CTRL_ENABLE = s.on F.QUE_CTRL_ENABLE := by
  have shared : (F.QUE_Q_FILL_W q).key ≠ F.QUE_CTRL_ENABLE.key ∧ (F.QUE_Q_PROD_W q).key ≠ F.QUE_CTRL_ENABLE.key := by
    dsimp only; omega
  rw [State.on, State.qPut, State.get_qRefresh shared.1 (by decide) (by decide) (by decide) (by decide),
    State.get_updB, State.get_put, if_neg shared.2, State.get_qWrite]
  rfl

theorem State.queNow_qPut : (s.qPut q ty sg ws).b.queNow = s.b.queNow ++ [(q, ty, sg, ws)] := by
  rw [State.qPut, State.keeps_qRefresh (π := Blocks.queNow) (fun _ _ => rfl), State.b_updB, State.b_put,
    State.b_qWrite]

end

/-! ### What a queue holds -/

/-- FILL follows from PROD and CONS alone. -/
theorem State.qFill_eq {s t : State} {q n : Nat} (hp : t.get (F.QUE_Q_PROD_W q) = (s.get (F.QUE_Q_PROD_W q) + n) % 2 ^ 32)
    (hc : t.get (F.QUE_Q_CONS_W q) = s.get (F.QUE_Q_CONS_W q)) (h : s.qFill q + n < 2 ^ 32) :
    t.qFill q = s.qFill q + n := by
  have prod : s.get (F.QUE_Q_PROD_W q) < 2 ^ 32 := State.get_lt _ _
  have cons : s.get (F.QUE_Q_CONS_W q) < 2 ^ 32 := State.get_lt _ _
  unfold State.qFill at h ⊢
  rw [hp, hc]
  omega

/-- SIZE has 19 bits. -/
theorem State.size_lt (s : State) (q : Nat) : s.cur (F.QUE_Q_SIZE_W q) < 2 ^ 19 := State.cur_lt _ _

/-- The addresses of a queue follow from its values in force. -/
theorem State.qAddr_eq {s t : State} (h : ∀ f, t.cur f = s.cur f) (q w : Nat) : t.qAddr q w = s.qAddr q w := by
  rw [State.qAddr, State.qAddr, h, h]

/-! ### Where the words of a record stand -/

theorem State.qAddr_putWord (s : State) (a v q w : Nat) : (s.putWord a v).qAddr q w = s.qAddr q w := rfl

/-- The words that a record writes stand at consecutive stream positions. -/
theorem State.word_qWrite_at {s : State} {q w i : Nat} {vs : List Nat} (hi : i < vs.length)
    (h : vs.length ≤ s.cur (F.QUE_Q_SIZE_W q)) : (s.qWrite q w vs).word (s.qAddr q (w + i)) = vs.getD i 0 % 2 ^ 32 := by
  induction vs generalizing s w i with
  | nil => simp at hi
  | cons v vs ih =>
    rw [List.length_cons] at hi h
    cases i with
    | zero => exact State.word_qWrite_head (by omega)
    | succ i =>
      rw [show w + (i + 1) = w + 1 + i by omega, State.qWrite]
      exact ih (s := s.putWord (s.qAddr q w) v) (by omega) (by rw [State.cur_putWord]; omega)

section
variable {s : State} {q ty : Nat} {sg : Bool} {ws : List Nat} (h : ws.length + 1 ≤ s.cur (F.QUE_Q_SIZE_W q))
include h

/-- The words of a record follow its header. -/
theorem State.word_qPut_at {i : Nat} (hi : i < ws.length) :
    (s.qPut q ty sg ws).word (s.qAddr q (s.get (F.QUE_Q_PROD_W q) + 1 + i)) = ws.getD i 0 % 2 ^ 32 := by
  have place : s.get (F.QUE_Q_PROD_W q) + 1 + i = s.get (F.QUE_Q_PROD_W q) + (i + 1) := by omega
  rw [place, State.qPut, State.word_qRefresh, State.word_updB, State.word_put]
  refine State.word_qWrite_at (i := i + 1) ?_ h
  simpa using hi

omit h in
/-- A record changes no word outside its stream positions. -/
theorem State.word_qPut_of_ne {a : Nat}
    (ha : ∀ i, i < ws.length + 1 → a ≠ s.qAddr q (s.get (F.QUE_Q_PROD_W q) + i)) :
    (s.qPut q ty sg ws).word a = s.word a := by
  rw [State.qPut, State.word_qRefresh, State.word_updB, State.word_put]
  exact State.word_qWrite_of_ne ha

/-- The TYPE byte of a record's header (R441). -/
theorem State.type_qPut_header :
    (s.qPut q ty sg ws).word (s.qAddr q (s.get (F.QUE_Q_PROD_W q))) / 2 ^ 16 % 2 ^ 8 = ty % 256 := by
  have signed : bit sg ≤ 1 := by cases sg <;> decide
  rw [State.word_qPut_header (by omega)]
  omega

end

/-! ### Two records of one cycle (R446) -/

/-- A record that fits is put at the end. -/
theorem State.qPlace_of_fits {s : State} {q ty : Nat} {sg : Bool} {ws : List Nat}
    (he : s.on F.QUE_CTRL_ENABLE = true) (h : s.qFill q + (ws.length + 1) ≤ s.cur (F.QUE_Q_SIZE_W q)) :
    s.qPlace q ty sg ws = s.qPut q ty sg ws := by
  have size : s.cur (F.QUE_Q_SIZE_W q) ≠ 0 ∧ ¬ s.cur (F.QUE_Q_SIZE_W q) < ws.length + 1 := by omega
  simp [State.qPlace, he, size.1, size.2, h]

/-- What follows a lower TYPE includes what follows a higher one. -/
theorem State.qLater_of_lt {s : State} {q ty1 ty2 : Nat} (h : ty1 < ty2) (none : s.qLater q ty1 = []) :
    s.qLater q ty2 = [] := by
  simp only [State.qLater, List.filter_eq_nil_iff, Bool.and_eq_true, beq_iff_eq, decide_eq_true_eq, not_and] at none ⊢
  exact fun r hr hq hlt => none r hr hq (h.trans hlt)

section
variable {s : State} {q ty1 ty2 : Nat} {sg1 sg2 : Bool} {ws1 ws2 : List Nat}

/-- The state in which a record of a lower TYPE comes to the queue before the one of a higher TYPE that is taken back. -/
def State.qRetaken (s : State) (q ty : Nat) (sg : Bool) (ws : List Nat) : State :=
  (s.qPut q ty sg ws).qBack q [(q, ty, sg, ws)]

theorem State.get_prod_qRetaken (h : ws2.length < 65535) :
    (s.qRetaken q ty2 sg2 ws2).get (F.QUE_Q_PROD_W q) = s.get (F.QUE_Q_PROD_W q) := by
  have prod : s.get (F.QUE_Q_PROD_W q) < 2 ^ 32 := State.get_lt _ _
  have len : recLen [(q, ty2, sg2, ws2)] = ws2.length + 1 := by simp [recLen]
  rw [State.qRetaken, State.qBack, State.get_updB, State.get_put_self, State.get_prod_qPut, len]
  dsimp only
  omega

theorem State.get_cons_qRetaken :
    (s.qRetaken q ty2 sg2 ws2).get (F.QUE_Q_CONS_W q) = s.get (F.QUE_Q_CONS_W q) := by
  rw [State.qRetaken, State.qBack, State.get_updB, State.get_put, if_neg (by dsimp only; omega), State.get_cons_qPut]

theorem State.cur_qRetaken (f : Fld) : (s.qRetaken q ty2 sg2 ws2).cur f = s.cur f := by
  rw [State.qRetaken, State.qBack, State.cur_updB, State.cur_put, State.cur_qPut]

theorem State.on_enable_qRetaken : (s.qRetaken q ty2 sg2 ws2).on F.QUE_CTRL_ENABLE = s.on F.QUE_CTRL_ENABLE := by
  have apart : (F.QUE_Q_PROD_W q).key ≠ F.QUE_CTRL_ENABLE.key := by dsimp only; omega
  rw [State.on, State.qRetaken, State.qBack, State.get_updB, State.get_put, if_neg apart]
  exact State.on_enable_qPut ..

theorem State.qFill_congr {t : State} (hp : t.get (F.QUE_Q_PROD_W q) = s.get (F.QUE_Q_PROD_W q))
    (hc : t.get (F.QUE_Q_CONS_W q) = s.get (F.QUE_Q_CONS_W q)) : t.qFill q = s.qFill q := by
  rw [State.qFill, State.qFill, hp, hc]

theorem State.qFill_qRetaken (h : ws2.length < 65535) : (s.qRetaken q ty2 sg2 ws2).qFill q = s.qFill q :=
  State.qFill_congr (State.get_prod_qRetaken h) State.get_cons_qRetaken

/-- The one record of a higher TYPE that came in the cycle is taken back and placed again. -/
theorem State.qAppend_of_later {r : Nat × Nat × Bool × List Nat} (later : s.qLater q ty1 = [r])
    (held : recLen [r] ≤ s.qFill q) : s.qAppend q ty1 sg1 ws1
      = ((s.qBack q [r]).qPlace q ty1 sg1 ws1).qPlace r.1 r.2.1 r.2.2.1 r.2.2.2 := by
  have held : ¬ ([r].isEmpty || decide (s.qFill q < recLen [r])) = true := by
    rw [List.isEmpty_cons, Bool.false_or, decide_eq_true_eq]
    exact Nat.not_lt.2 held
  rw [State.qAppend, later]
  rw [if_neg held, List.foldl_cons, List.foldl_nil]

/-- A record of a lower TYPE is put before the one of a higher TYPE that came in the same cycle. -/
theorem State.qAppend_of_lower (hlt : ty1 < ty2) (none : s.qLater q ty1 = []) (he : s.on F.QUE_CTRL_ENABLE = true)
    (hlen : ws1.length + ws2.length < 65534)
    (h : s.qFill q + (ws1.length + 1) + (ws2.length + 1) ≤ s.cur (F.QUE_Q_SIZE_W q)) :
    (s.qAppend q ty2 sg2 ws2).qAppend q ty1 sg1 ws1
      = ((s.qRetaken q ty2 sg2 ws2).qPut q ty1 sg1 ws1).qPut q ty2 sg2 ws2 := by
  have size := s.size_lt q
  have high : s.qAppend q ty2 sg2 ws2 = s.qPut q ty2 sg2 ws2 :=
    State.qAppend_of_fits (State.qLater_of_lt hlt none) he (by omega) (by omega)
  have later : (s.qPut q ty2 sg2 ws2).qLater q ty1 = [(q, ty2, sg2, ws2)] := by
    rw [State.qLater, State.queNow_qPut, List.filter_append, ← State.qLater, none]
    simp [hlt]
  have fill : (s.qPut q ty2 sg2 ws2).qFill q = s.qFill q + (ws2.length + 1) :=
    State.qFill_eq (State.get_prod_qPut ..) (State.get_cons_qPut ..) (by omega)
  have held : recLen [(q, ty2, sg2, ws2)] ≤ (s.qPut q ty2 sg2 ws2).qFill q := by
    rw [fill, show recLen [(q, ty2, sg2, ws2)] = ws2.length + 1 by simp [recLen]]
    omega
  have low : (s.qRetaken q ty2 sg2 ws2).qPlace q ty1 sg1 ws1 = (s.qRetaken q ty2 sg2 ws2).qPut q ty1 sg1 ws1 :=
    State.qPlace_of_fits (State.on_enable_qRetaken.trans he) (by
      rw [State.qFill_qRetaken (by omega), State.cur_qRetaken]; omega)
  have fill1 : ((s.qRetaken q ty2 sg2 ws2).qPut q ty1 sg1 ws1).qFill q = s.qFill q + (ws1.length + 1) := by
    have := State.qFill_eq (s := s.qRetaken q ty2 sg2 ws2) (State.get_prod_qPut _ q ty1 sg1 ws1)
      (State.get_cons_qPut ..) (by rw [State.qFill_qRetaken (by omega)]; omega)
    rw [this, State.qFill_qRetaken (by omega)]
  rw [high, State.qAppend_of_later later held, ← State.qRetaken, low]
  exact State.qPlace_of_fits (by rw [State.on_enable_qPut, State.on_enable_qRetaken, he]) (by
    rw [fill1, State.cur_qPut, State.cur_qRetaken]; omega)

end

end Sys2Proof.Machine
end

section
namespace Sys2Proof

open Machine

/-- Settles O13: a record that fits is written from PROD on, at addresses that differ within SIZE; one of a lower TYPE takes
the place of the record of the same cycle that is taken back and put again behind it. -/
theorem queueAppendsRecord : Obligations.QueueAppendsRecord := by
  refine ⟨fun q ty sg ws s _ he none hz fits => ?one, fun q ty1 ty2 sg1 sg2 ws1 ws2 s _ he hlt none hlen fits => ?two⟩
  case one =>
    rw [State.qAppend_of_fits none he hz fits]
    refine ⟨State.get_prod_qPut .., State.get_cons_qPut .., State.word_qPut_header (by omega),
      fun i hi => State.word_qPut_at (by omega) hi, fun a ha => State.word_qPut_of_ne ha⟩
  case two =>
    rw [State.qAppend_of_lower hlt none he hlen fits]
    have back := State.get_prod_qRetaken (s := s) (q := q) (ty2 := ty2) (sg2 := sg2) (ws2 := ws2) (by omega)
    have cur (f : Fld) : ((s.qRetaken q ty2 sg2 ws2).qPut q ty1 sg1 ws1).cur f = s.cur f := by
      rw [State.cur_qPut, State.cur_qRetaken]
    have prod : ((s.qRetaken q ty2 sg2 ws2).qPut q ty1 sg1 ws1).get (F.QUE_Q_PROD_W q)
        = (s.get (F.QUE_Q_PROD_W q) + (ws1.length + 1)) % 2 ^ 32 := by rw [State.get_prod_qPut, back]
    refine ⟨?_, ?_, fun nowrap => ?_⟩
    · rw [State.get_prod_qPut, prod]
      omega
    · rw [← prod, ← State.qAddr_eq cur]
      exact State.type_qPut_header (by rw [cur]; omega)
    · rw [State.word_qPut_of_ne fun i hi => ?_]
      · rw [← back, ← State.qAddr_eq (State.cur_qRetaken (s := s) (q := q) (ty2 := ty2) (sg2 := sg2) (ws2 := ws2))]
        exact State.type_qPut_header (by rw [State.cur_qRetaken]; omega)
      · rw [prod, Nat.mod_eq_of_lt (by omega), Nat.add_assoc, State.qAddr_eq cur]
        exact State.qAddr_ne_qAddr_add (by omega) (by omega)

end Sys2Proof
end

section
/-! What a reset of the main die leaves (R487, R489). -/

namespace Sys2Proof.Machine

/-! ### The pages return to their reset values -/

theorem State.get_clear (s : State) (lo hi : Nat) (f : Fld) : ((Eff.clear lo hi).apply s).get f
    = if lo ≤ f.key ∧ f.key < hi then RegTable.resetVal f.key % 2 ^ f.w else s.get f := by
  show Store.get _ (s.regs.clear lo hi) f.key % 2 ^ f.w = _
  rw [Store.get_clear]
  split <;> rfl

theorem State.cur_clear (s : State) (lo hi : Nat) (f : Fld) : ((Eff.clear lo hi).apply s).cur f
    = if lo ≤ f.key ∧ f.key < hi then RegTable.resetVal f.key % 2 ^ f.w else s.cur f := by
  show Store.get _ (s.act.clear lo hi) f.key % 2 ^ f.w = _
  rw [Store.get_clear]
  split <;> rfl

/-- The effect that returns a page to its reset values. -/
def pageClear (p : PageInfo) : Eff := .clear (keyAt p.base) (keyAt (p.base + 0x1000))

/-- A page stands at a multiple of its size, so its keys are those of its page number. -/
theorem mem_page_iff {p : PageInfo} (hp : p ∈ RegTable.pages) (k : Nat) :
    (keyAt p.base ≤ k ∧ k < keyAt (p.base + 0x1000)) ↔ p.base / 0x1000 = pageOfKey k := by
  have aligned : ∀ p ∈ RegTable.pages, p.base % 0x1000 = 0 := by decide
  have := aligned p hp
  unfold keyAt pageOfKey
  omega

/-- What a reading that follows the clears shows after the pages `ps` have been cleared. -/
theorem read_applyAll_pageClear {read : State → Nat} {k r : Nat}
    (hread : ∀ lo hi s, read ((Eff.clear lo hi).apply s) = if lo ≤ k ∧ k < hi then r else read s)
    {ps : List PageInfo} (hps : ∀ p ∈ ps, p ∈ RegTable.pages) (s : State) :
    read (applyAll s (ps.map pageClear)) = if pageOfKey k ∈ ps.map (·.base / 0x1000) then r else read s := by
  induction ps generalizing s with
  | nil => rfl
  | cons p ps ih =>
    rw [List.map_cons, applyAll_cons, ih (fun q hq => hps q (.tail _ hq)), pageClear, hread]
    simp only [List.map_cons, List.mem_cons]
    by_cases hp : p.base / 0x1000 = pageOfKey k
    · simp only [mem_page_iff (hps p (.head _)), hp, if_true, ite_self, true_or]
    · simp only [mem_page_iff (hps p (.head _)), hp, Ne.symm hp, if_false, false_or]

/-- The pages whose registers a main-die reset clears. -/
def mainPages : List PageInfo := RegTable.pages.filter fun p => p.die != .power

theorem mem_mainPages {k : Nat} (h : (RegTable.pages.any fun p => p.die == .main && p.base / 0x1000 == pageOfKey k) = true) :
    pageOfKey k ∈ mainPages.map (·.base / 0x1000) := by
  obtain ⟨p, hp, hk⟩ := List.any_eq_true.1 h
  simp only [Bool.and_eq_true, beq_iff_eq] at hk
  exact List.mem_map.2 ⟨p, List.mem_filter.2 ⟨hp, by simp [hk.1]⟩, hk.2⟩

theorem inPages (p : PageInfo) (hp : p ∈ mainPages) : p ∈ RegTable.pages := (List.mem_filter.1 hp).1

theorem clearPages_eq (s : State) : clearPages s = mainPages.map pageClear
    ++ (keptFields.map fun f => (f, s.get f)).map (fun p => Eff.set p.1 p.2)
    ++ [.force F.PAR_TPS_CTRL_EN (s.cur F.PAR_TPS_CTRL_EN), .pend F.PAR_TPS_CTRL_EN (s.cur F.PAR_TPS_CTRL_EN)] := by
  rw [List.map_map]
  rfl

theorem get_clearPages {s : State} {f : Fld} (h : f.key ∉ keptFields.map Fld.key) : (after clearPages s).get f
    = if pageOfKey f.key ∈ mainPages.map (·.base / 0x1000) then RegTable.resetVal f.key % 2 ^ f.w else s.get f := by
  have kept : f.key ∉ (keptFields.map fun f => (f, s.get f)).map fun p => p.1.key := by rwa [List.map_map]
  have par (u : State) (n : Nat) : (applyAll u [.force F.PAR_TPS_CTRL_EN n, .pend F.PAR_TPS_CTRL_EN n]).get f = u.get f := rfl
  rw [after, clearPages_eq, applyAll_append, applyAll_append, par, get_applyAll_map_set_of_notMem kept,
    read_applyAll_pageClear (read := fun s => s.get f) (fun lo hi s => s.get_clear lo hi f)
      inPages s]

theorem cur_clearPages {s : State} {f : Fld} (h : f.key ≠ F.PAR_TPS_CTRL_EN.key) : (after clearPages s).cur f
    = if pageOfKey f.key ∈ mainPages.map (·.base / 0x1000) then RegTable.resetVal f.key % 2 ^ f.w else s.cur f := by
  have par (u : State) (n : Nat) : (applyAll u [.force F.PAR_TPS_CTRL_EN n, .pend F.PAR_TPS_CTRL_EN n]).cur f = u.cur f := by
    rw [applyAll_cons, applyAll_cons, applyAll_nil]
    exact (State.cur_putCur ..).trans (if_neg (Ne.symm h))
  rw [after, clearPages_eq, applyAll_append, applyAll_append, par, cur_applyAll_map_set,
    read_applyAll_pageClear (read := fun s => s.cur f) (fun lo hi s => s.cur_clear lo hi f)
      inPages s]

/-- Effects that write no memory leave it as it is. -/
theorem mem_list {es : List Eff} (h : ∀ e ∈ es, ∀ s, (e.apply s).mem = s.mem) (s : State) :
    (applyAll s es).mem = s.mem := by
  induction es generalizing s with
  | nil => rfl
  | cons e es ih => rw [applyAll_cons, ih (fun e' h' => h e' (.tail _ h')), h e (.head _)]

theorem mem_clearPages (s : State) : (after clearPages s).mem = s.mem := by
  refine mem_list (fun e he => ?_) s
  rw [clearPages_eq, List.mem_append, List.mem_append] at he
  rcases he with (he | he) | he
  · obtain ⟨p, _, rfl⟩ := List.mem_map.1 he
    exact fun _ => rfl
  · obtain ⟨p, _, rfl⟩ := List.mem_map.1 he
    exact fun _ => rfl
  · simp only [List.mem_cons, List.not_mem_nil, or_false] at he
    rcases he with rfl | rfl <;> exact fun _ => rfl

/-! ### The reset of a running main die -/

/-- What RST_N shows in registers beside the cleared pages. -/
def pinResetShown : List (Fld × Nat) :=
  [(F.SYS_RESET_CAUSE_POR, 0), (causeFld 2, 1), (F.PWX_STATUS_INHIBIT, 1), (F.KE0_ISLOT_VAL 0x9C, intSlot (-1)),
   (F.MET_STATUS_RUN, 0)]

/-- What RST_N changes of the memory and the blocks before it shows in registers. -/
def pinResetBlocks (s : State) : List Eff :=
  [.memClear 0x80000 0xC0000, .upd mainBlocks,
    updSys fun y => { y with stageBefore := s.get F.SYS_STATUS_STAGE, resetAt := s.b.cyc }]

/-- MCLK is absent, and an anchor falls due. -/
def pinResetEnd (s : State) : List Eff :=
  [updMet fun m => { m.low s.b.cyc with mclk := false, mclkAt := if m.mclk then s.b.cyc else m.mclkAt }]
  ++ effIf (s.on F.TIM_STATUS_VALID || s.on F.CLK_STATUS_HOLDOVER) anchorDue

theorem regs_applyAll_pinResetBlocks (s u : State) : (applyAll u (pinResetBlocks s)).regs = u.regs := rfl

theorem cur_applyAll_pinResetBlocks (s u : State) (f : Fld) : (applyAll u (pinResetBlocks s)).cur f = u.cur f := rfl

theorem mem_applyAll_pinResetBlocks (s u : State) : (applyAll u (pinResetBlocks s)).mem = u.mem.clear 0x80000 0xC0000 := rfl

theorem regs_applyAll_pinResetEnd (s u : State) : (applyAll u (pinResetEnd s)).regs = u.regs := by
  rw [pinResetEnd, applyAll_append, applyAll_effIf]
  split <;> rfl

theorem cur_applyAll_pinResetEnd (s u : State) (f : Fld) : (applyAll u (pinResetEnd s)).cur f = u.cur f := by
  rw [pinResetEnd, applyAll_append, applyAll_effIf]
  split <;> rfl

theorem mem_applyAll_pinResetEnd (s u : State) : (applyAll u (pinResetEnd s)).mem = u.mem := by
  rw [pinResetEnd, applyAll_append, applyAll_effIf]
  split <;> rfl

theorem mem_applyAll_map_set (ws : List (Fld × Nat)) (s : State) :
    (applyAll s (ws.map fun p => Eff.set p.1 p.2)).mem = s.mem := by
  induction ws generalizing s with
  | nil => rfl
  | cons p ws ih => exact ih (s.put p.1 p.2)

/-- What registers read after a list of writes depends on the registers before it alone. -/
theorem regs_applyAll_map_set (ws : List (Fld × Nat)) {u v : State} (h : u.regs = v.regs) :
    (applyAll u (ws.map fun p => Eff.set p.1 p.2)).regs = (applyAll v (ws.map fun p => Eff.set p.1 p.2)).regs := by
  induction ws generalizing u v with
  | nil => exact h
  | cons p ws ih => exact ih (u := u.put p.1 p.2) (v := v.put p.1 p.2) (by rw [State.put, State.put, h])

theorem after_mainReset_pin {s : State} (h : Live s) :
    after (mainReset 2) s = applyAll (applyAll (applyAll (after clearPages s) (pinResetBlocks s))
      (pinResetShown.map fun p => Eff.set p.1 p.2)) (pinResetEnd s) := by
  have rest : mainReset 2 s = clearPages s ++ pinResetBlocks s ++ (pinResetShown.map fun p => Eff.set p.1 p.2) ++ pinResetEnd s := by
    unfold mainReset
    rw [h, if_neg Bool.false_ne_true]
    simp [pinResetBlocks, pinResetEnd, pinResetShown, effIf]
  rw [after, rest, applyAll_append, applyAll_append, applyAll_append]
  rfl

theorem get_mainReset_pin {s : State} (h : Live s) (f : Fld) : (after (mainReset 2) s).get f
    = (applyAll (after clearPages s) (pinResetShown.map fun p => Eff.set p.1 p.2)).get f := by
  rw [after_mainReset_pin h, State.get, regs_applyAll_pinResetEnd,
    regs_applyAll_map_set _ (regs_applyAll_pinResetBlocks s _), ← State.get]

theorem cur_mainReset_pin {s : State} (h : Live s) (f : Fld) : (after (mainReset 2) s).cur f = (after clearPages s).cur f := by
  rw [after_mainReset_pin h, cur_applyAll_pinResetEnd, cur_applyAll_map_set, cur_applyAll_pinResetBlocks]

theorem word_mainReset_pin {s : State} (h : Live s) (a : Nat) : (after (mainReset 2) s).word a
    = if 0x80000 ≤ a ∧ a < 0xC0000 then memDefault a % 2 ^ 32 else s.word a := by
  have mem : (after (mainReset 2) s).mem = s.mem.clear 0x80000 0xC0000 := by
    rw [after_mainReset_pin h, mem_applyAll_pinResetEnd, mem_applyAll_map_set, mem_applyAll_pinResetBlocks, mem_clearPages]
  rw [State.word, mem, Store.get_clear]
  split <;> rfl

end Sys2Proof.Machine
end

section
namespace Sys2Proof

open Machine

/-- Settles O22: RST_N clears the pages of the main die with the queue memory, and shows the cause, the inhibit and ISLOT 0x9C. -/
theorem mainResetClears : Obligations.MainResetClears := by
  intro s h
  have shown (f : Fld) (hf : f.key ∉ pinResetShown.map fun p => p.1.key) :
      (after (mainReset 2) s).get f = (after clearPages s).get f :=
    (get_mainReset_pin h f).trans (get_applyAll_map_set_of_notMem hf _)
  refine ends_run ⟨fun f main kept causes inh islot => ?_, ?_, ?_, ?_, fun f page run => ?_, fun a lo hi => ?_, fun a ha => ?_⟩
  · have page := mem_mainPages main
    have par : f.key ≠ F.PAR_TPS_CTRL_EN.key := fun e => kept (e ▸ by decide)
    have pin : f.key ∉ pinResetShown.map fun p => p.1.key := by
      have mem : ∀ c ∈ [0, 2], (causeFld c).key ∈ (List.range 5).map fun c => (causeFld c).key := by decide
      have por : f.key ≠ F.SYS_RESET_CAUSE_POR.key := fun e => causes (e ▸ mem 0 (by decide))
      have two : f.key ≠ (causeFld 2).key := fun e => causes (e ▸ mem 2 (by decide))
      have met : f.key ≠ F.MET_STATUS_RUN.key := fun e => by
        rw [e] at page
        exact absurd page (by decide)
      simp only [pinResetShown, List.map_cons, List.map_nil, List.mem_cons, List.not_mem_nil, or_false, not_or]
      exact ⟨por, two, inh, islot, met⟩
    rw [shown f pin, get_clearPages kept, cur_mainReset_pin h, cur_clearPages par, if_pos page, if_pos page]
    exact ⟨rfl, rfl⟩
  · rw [State.on, get_mainReset_pin h]
    generalize after clearPages s = u
    have inhibit : (applyAll u (pinResetShown.map fun p => Eff.set p.1 p.2)).get F.PWX_STATUS_INHIBIT = 1 := by
      simp [pinResetShown, Eff.apply, State.get_put]
    rw [inhibit]
    rfl
  · rw [get_mainReset_pin h]
    generalize after clearPages s = u
    have slot : intSlot (-1) < 2 ^ 32 := slotWord_lt ..
    simpa [pinResetShown, Eff.apply, State.get_put] using slot
  · rw [State.on, get_mainReset_pin h]
    generalize after clearPages s = u
    have run : (applyAll u (pinResetShown.map fun p => Eff.set p.1 p.2)).get F.MET_STATUS_RUN = 0 := by
      simp [pinResetShown, Eff.apply]
    rw [run]
    rfl
  · have kept : f.key ∉ keptFields.map Fld.key := fun hk => by
      have off : ∀ k ∈ keptFields.map Fld.key, pageOfKey k ∉ [0x60, 0x61, 0xA0, 0xA1] := by decide
      exact off _ hk page
    have off : pageOfKey f.key ∉ mainPages.map (·.base / 0x1000) := fun hm => by
      have apart : ∀ n ∈ mainPages.map (·.base / 0x1000), n ∉ [0x60, 0x61, 0xA0, 0xA1] := by decide
      exact apart _ hm page
    have pin : f.key ∉ pinResetShown.map fun p => p.1.key := by
      have only : ∀ k ∈ pinResetShown.map (fun p => p.1.key), pageOfKey k ∈ [0x60, 0x61, 0xA0, 0xA1] → k = F.MET_STATUS_RUN.key := by
        decide
      exact fun hk => run (only _ hk page)
    have par : f.key ≠ F.PAR_TPS_CTRL_EN.key := fun e => kept (e ▸ by decide)
    rw [shown f pin, get_clearPages kept, cur_mainReset_pin h, cur_clearPages par, if_neg off, if_neg off]
    exact ⟨rfl, rfl⟩
  · rw [word_mainReset_pin h, if_pos ⟨lo, hi⟩, memDefault, if_neg (by omega), Nat.zero_mod]
  · rw [word_mainReset_pin h, if_neg (by omega)]

end Sys2Proof
end

section
/-! Host writes that a lock refuses, and the configuration windows (R413, R454, R455). -/

namespace Sys2Proof.Machine

theorem allW1c_iff {addr : Nat} : allW1c addr = true ↔ fieldsAt addr ≠ [] ∧ ∀ r ∈ fieldsAt addr, r.acc = .w1c ∨ r.acc = .ro := by
  simp [allW1c]

/-- A lock leaves IRQ_EN, LOCK and the registers of W1C fields open. -/
theorem lockedReg_of_open {base o : Nat} (h : o = 0x14 ∨ o = 0x20 ∨ (o ≠ 0x1C ∧ allW1c (base + o) = true)) :
    lockedReg base o = false := by
  unfold lockedReg
  rcases h with rfl | rfl | ⟨ho, h⟩
  · rfl
  · rfl
  · simp [ho, h]

/-- Nothing locks an address that is not mapped. -/
theorem ne_unmapped_of_lockRefuses {s : State} {r : Region} (h : lockRefuses s r = true) : r ≠ .unmapped := by
  rintro rfl
  cases h

theorem writeCode_of_lockRefuses {s : State} {src : Origin} {addr : Nat} (hs : src ≠ .remote)
    (h : lockRefuses s (regionOf addr) = true) : writeCode s src addr = 4 := by
  have mapped := ne_unmapped_of_lockRefuses h
  unfold writeCode
  split
  · next e => exact absurd e mapped
  all_goals simp_all

/-- A write that a lock refuses shows in LOCK_REJECT and the address alone (R455). -/
theorem busWrite_of_lockRefuses {s : State} {src : Origin} {addr v : Nat} (hs : src ≠ .remote)
    (ha : absent s (regionOf addr) = false) (h : lockRefuses s (regionOf addr) = true) :
    busWrite src addr v s = [.sticky F.CFG_STICKY_LOCK_REJECT, .set F.CFG_LOCK_ADDR_ADDR addr] := by
  simp [busWrite, ne_unmapped_of_lockRefuses h, ha, writeCode_of_lockRefuses hs h, h, effIf]

end Sys2Proof.Machine

namespace Sys2Proof

open Machine

/-- Settles O12: the write has error code 4 wherever the lock of its page refuses it. -/
theorem lockedPageRefuses : Obligations.LockedPageRefuses := by
  refine ⟨fun a v s hl ha h => ?_, fun base o s h => ?_⟩
  · show Host.Outcome.next (after (onMain (busWrite (.qspi (4 * a.toNat)) (4 * a.toNat) v.toNat)) s) = _
    rw [after_onMain hl, after, busWrite_of_lockRefuses (by simp) ha h]
    rfl
  · simp [lockRefuses, lockBase, lockedReg_of_open h]

end Sys2Proof
end

section
namespace Sys2Proof.Machine

theorem live_of_dieLinkOk {s : State} (h : dieLinkOk s = true) : Live s := by
  simp only [dieLinkOk, Bool.and_eq_true, Bool.not_eq_true'] at h
  exact h.2

/-- A window write stores its word and withdraws the copy's validity, or shows the refusal (R413, R464). -/
theorem imageWrite_cases {copy k v : Nat} {s : State} (h : dieLinkOk s = true) :
    (s.b.bed.src = .main ∧ imageWrite copy k v s = [.mem (imgBase copy + k) v, .set (validFld copy) 0]) ∨
    (s.b.bed.src = .main ∧ imageWrite copy k v s = [.sticky F.CFG_STICKY_WR_REJECT]) ∨
    (s.b.bed.src ≠ .main ∧ imageWrite copy k v s = [.sticky F.BED_STICKY_CFG_WR_REJECT, .sticky F.CFG_STICKY_WR_REJECT]) := by
  unfold imageWrite
  by_cases main : s.b.bed.src = .main
  · simp only [main, h]
    split
    · next e => cases e
    · split
      · exact .inl ⟨trivial, rfl⟩
      · exact .inr (.inl ⟨trivial, rfl⟩)
  · simp [main, h, effIf]

end Sys2Proof.Machine

namespace Sys2Proof

open Machine

/-- Settles O16: outside MAIN the write is refused, in MAIN it stores within its copy or is refused without CFG_WR_REJECT. -/
theorem configurationStoreInMain : Obligations.ConfigurationStoreInMain := by
  intro copy k v s h
  refine ends_run ?_
  rw [after_onMain (live_of_dieLinkOk h), after]
  have inCopy (a : Nat) (ha : a < 0x140000 ∨ 0x148000 ≤ a) : imgBase copy + k.toNat ≠ a := by
    have := k.isLt
    have := copy.isLt
    unfold imgBase
    omega
  rcases imageWrite_cases (copy := copy) (k := k.toNat) (v := v.toNat) h with ⟨main, e⟩ | ⟨main, e⟩ | ⟨main, e⟩
  · rw [e]
    refine ⟨fun hm => absurd main hm, fun _ => ?_, fun a ha => ?_⟩
    · have apart : (validFld copy).key ≠ F.BED_STICKY_CFG_WR_REJECT.key := by
        have : ∀ c : Fin 2, (validFld c).key ≠ F.BED_STICKY_CFG_WR_REJECT.key := by decide
        exact this copy
      simp only [State.on, applyAll_cons, applyAll_nil, Eff.apply, State.get_put, if_neg apart, State.get_putWord]
    · simp only [applyAll_cons, applyAll_nil, Eff.apply, State.word_put, State.word_putWord, if_neg (inCopy a ha)]
  · rw [e]
    refine ⟨fun hm => absurd main hm, fun _ => ?_, fun a _ => rfl⟩
    simp only [State.on, applyAll_cons, applyAll_nil, Eff.apply, State.get_stick]
    rfl
  · rw [e]
    refine ⟨fun _ => ⟨rfl, ?_⟩, fun hm => absurd hm main, fun a _ => rfl⟩
    simp only [State.on, applyAll_cons, applyAll_nil, Eff.apply, State.get_stick]
    rfl

end Sys2Proof
end

section
/-! Lists of effects that all have a property, and meanings whose effects all have it from every state. -/

namespace Sys2Proof.Machine

/-- Every effect of a list has a property. -/
def Effs (P : Eff → Prop) (es : List Eff) : Prop := ∀ e ∈ es, P e

/-- Every effect that a meaning has, in whatever state, has a property. -/
def Prog.All (P : Eff → Prop) (p : Prog) : Prop := ∀ s, Effs P (p s)

/-- So have the effects of each meaning of a list. -/
def Alls (P : Eff → Prop) (ps : List Prog) : Prop := ∀ p ∈ ps, Prog.All P p

section
variable {P : Eff → Prop}

@[simp] theorem alls_nil : Alls P [] := fun _ h => by cases h
@[simp] theorem alls_cons {p : Prog} {ps : List Prog} : Alls P (p :: ps) ↔ p.All P ∧ Alls P ps := List.forall_mem_cons
@[simp] theorem alls_append {ps qs : List Prog} : Alls P (ps ++ qs) ↔ Alls P ps ∧ Alls P qs := List.forall_mem_append
@[simp] theorem alls_map {α : Type} {g : α → Prog} {l : List α} : Alls P (l.map g) ↔ ∀ x ∈ l, (g x).All P := List.forall_mem_map

@[simp] theorem alls_ite {c : Prop} [Decidable c] {ps qs : List Prog} :
    Alls P (if c then ps else qs) ↔ (c → Alls P ps) ∧ (¬ c → Alls P qs) := by
  split <;> simp_all

@[simp] theorem effs_nil : Effs P [] := fun _ h => by cases h
@[simp] theorem effs_cons {e : Eff} {es : List Eff} : Effs P (e :: es) ↔ P e ∧ Effs P es := List.forall_mem_cons
@[simp] theorem effs_append {as bs : List Eff} : Effs P (as ++ bs) ↔ Effs P as ∧ Effs P bs := List.forall_mem_append
@[simp] theorem effs_map {α : Type} {g : α → Eff} {l : List α} : Effs P (l.map g) ↔ ∀ x ∈ l, P (g x) := List.forall_mem_map
@[simp] theorem effs_flatMap {α : Type} {g : α → List Eff} {l : List α} : Effs P (l.flatMap g) ↔ ∀ x ∈ l, Effs P (g x) := by
  simp only [Effs, List.mem_flatMap]
  exact ⟨fun h x hx e he => h e ⟨x, hx, he⟩, fun h e ⟨x, hx, he⟩ => h x hx e he⟩
@[simp] theorem effs_effIf {c : Bool} {es : List Eff} : Effs P (effIf c es) ↔ (c = true → Effs P es) := by
  cases c <;> simp [effIf]
theorem effs_ite {c : Prop} [Decidable c] {as bs : List Eff} :
    Effs P (if c then as else bs) ↔ (c → Effs P as) ∧ (¬ c → Effs P bs) := by
  split <;> simp_all

@[simp] theorem effs_inOrder {ps : List Prog} {s : State} (h : Alls P ps) : Effs P (inOrder ps s) := by
  induction ps generalizing s with
  | nil => exact effs_nil
  | cons p ps ih => exact effs_append.2 ⟨h p (.head _) s, ih fun q hq => h q (.tail _ hq)⟩
/-- A list of meanings, step by step. -/
theorem effs_inOrder_cons {p : Prog} {ps : List Prog} {s : State} :
    Effs P (inOrder (p :: ps) s) ↔ Effs P (p s) ∧ Effs P (inOrder ps (after p s)) := effs_append
@[simp] theorem effs_thenDo {es : List Eff} {p : Prog} {s : State} :
    Effs P (thenDo es p s) ↔ Effs P es ∧ Effs P (p (applyAll s es)) := effs_append
@[simp] theorem effs_onlyIf {c : State → Bool} {p : Prog} {s : State} :
    Effs P (onlyIf c p s) ↔ (c s = true → Effs P (p s)) := by
  cases h : c s <;> simp [onlyIf, h]
@[simp] theorem effs_andThen {p q : Prog} {s : State} (hp : p.All P) (hq : q.All P) : Effs P (p.andThen q s) :=
  effs_append.2 ⟨hp s, hq _⟩

@[simp] theorem all_inOrder {ps : List Prog} (h : Alls P ps) : Prog.All P (inOrder ps) := fun _ => effs_inOrder h
@[simp] theorem all_thenDo {es : List Eff} {p : Prog} (h : Effs P es) (hp : p.All P) : Prog.All P (thenDo es p) :=
  fun _ => effs_thenDo.2 ⟨h, hp _⟩
@[simp] theorem all_onlyIf {c : State → Bool} {p : Prog} (hp : p.All P) : Prog.All P (onlyIf c p) := fun s => effs_onlyIf.2 fun _ => hp s
@[simp] theorem all_andThen {p q : Prog} (hp : p.All P) (hq : q.All P) : Prog.All P (p.andThen q) := fun _ => effs_andThen hp hq

end

/-- Effects that leave a key alone leave its field alone. -/
theorem get_of_effs_off {es : List Eff} {f : Fld} (h : Effs (·.Off f.key) es) (s : State) :
    (applyAll s es).get f = s.get f := off_list h s f rfl

/-- A meaning whose effects leave a key alone leaves it alone. -/
theorem Prog.All.off {p : Prog} {k : Nat} (h : p.All (·.Off k)) : p.Off k := Prog.off_of h

section
variable {α : Type} {π : Blocks → α}

/-- A meaning whose effects keep a part of the blocks keeps it. -/
theorem Prog.All.keeps {p : Prog} (h : p.All (·.Keeps π)) : p.Keeps π := fun s => keeps_list (h s) s

@[simp] theorem Eff.keeps_set (f : Fld) (v : Nat) : (Eff.set f v).Keeps π := fun _ => rfl
@[simp] theorem Eff.keeps_inc (f : Fld) (n : Nat) : (Eff.inc f n).Keeps π := fun _ => rfl
@[simp] theorem Eff.keeps_upd {g : Blocks → Blocks} : (Eff.upd g).Keeps π ↔ ∀ b, π (g b) = π b :=
  ⟨fun h b => h { State.reset with b := b }, fun h s => h s.b⟩

end

end Sys2Proof.Machine
end

section
/-! The pins of a pair follow the rank that decides them (R18, R249). -/

namespace Sys2Proof.Machine

theorem Fld.key_irq (f : Fld) : f.irq.key = f.key - 256 := rfl

/-- The key of one of a pair's two pins, as what it is used for: it lies on a page of PWM or PWX, at offset 0x218 or above, on
PWX below the AUX registers. -/
structure PinKey (k : Nat) : Prop where
  page : 0x40 ≤ pageOfKey k ∧ pageOfKey k ≤ 0x43
  offset : keyAt 0x218 ≤ k % keyAt 0x1000
  below : k < keyAt 0x43220

theorem pinKey_h {p : Nat} (hp : p < 49) : PinKey (F.PAIR_STAT_H p).key := by
  constructor <;> simp only [keyAt, pageOfKey] <;> omega

theorem pinKey_l {p : Nat} (hp : p < 49) : PinKey (F.PAIR_STAT_L p).key := by
  constructor <;> simp only [keyAt, pageOfKey] <;> omega

section
variable {k : Nat} (hk : PinKey k)
include hk

/-- A field below offset 0x218 of its page, off the pages of the pins or above the pins of PWX, is none of the pins. -/
theorem PinKey.ne {n : Nat} (h : n % keyAt 0x1000 < keyAt 0x218 ∨ pageOfKey n < 0x40 ∨ keyAt 0x43220 ≤ n) : n ≠ k := by
  obtain ⟨⟨lo, hi⟩, off, below⟩ := hk
  rintro rfl
  omega

theorem groupsShow_off_pin : groupsShow.All (·.Off k) := by
  intro s
  simp only [groupsShow, effs_cons, effs_nil, and_true]
  exact ⟨Eff.off_set (hk.ne (by decide)), Eff.off_upd⟩

theorem auxTests_off_pin (c len : Nat) : (auxTests c len).All (·.Off k) := by
  intro s
  have cmp (i : Nat) : Eff.Off (.inc (F.CMP_CNT_SKIP_N i) 1) k := Eff.off_inc (hk.ne (.inr (.inr (by simp only [keyAt]; omega))))
  have skip (i : Nat) : Eff.Off (.sticky (F.CMP_STICKY_TEST_SKIP i)) k :=
    Eff.off_sticky (hk.ne (.inr (.inr (by simp only [keyAt]; omega))))
      (hk.ne (.inr (.inr (by rw [Fld.key_irq]; unfold keyAt; dsimp only; omega))))
  unfold auxTests
  simp only [effs_flatMap]
  intro c _
  split
  · exact effs_cons.2 ⟨Eff.off_upd, effs_nil⟩
  · split
    · exact effs_cons.2 ⟨Eff.off_upd, effs_cons.2 ⟨cmp _, effs_cons.2 ⟨skip _, effs_nil⟩⟩⟩
    · exact effs_cons.2 ⟨Eff.off_upd, effs_nil⟩

theorem auxEdge_off_pin (p edge : Nat) : (auxEdge p edge).All (·.Off k) := by
  intro s
  unfold auxEdge
  dsimp only
  split
  · exact effs_nil
  · refine effs_inOrder fun q hq => ?_
    rcases List.mem_append.1 hq with hq | hq
    · obtain ⟨c, hc, rfl⟩ := List.mem_map.1 hq
      have window (n : Nat) : Eff.Off (.set (F.AUX_STAT_RUN c) n) k ∧ Eff.Off (.set (F.AUX_STAT_REMAIN c) n) k :=
        ⟨Eff.off_set (hk.ne (.inr (.inr (by simp only [keyAt]; omega)))), Eff.off_set (hk.ne (.inr (.inr (by simp only [keyAt]; omega))))⟩
      have run (n : Nat) : Eff.Off (.set F.PWX_STATUS_AUX_RUN n) k := Eff.off_set (hk.ne (by decide))
      intro t
      dsimp only
      split <;> simp [window, run, setBit, updPwm, Eff.off_upd, auxTests_off_pin hk c _ t]
    · rw [List.mem_singleton.1 hq]
      exact groupsShow_off_pin hk

theorem shootBlock_off_pin (p : Nat) : (shootBlock p).All (·.Off k) := by
  intro s
  have led (c i : Nat) (ps : List Nat) : Eff.Off (.led c i ps) k := Eff.off_led fun e => by
    have := hk.page
    omega
  have sb (n : Nat) : Eff.Off (.set (F.PWM_SB_PAIR (p / 16)) n) k :=
    Eff.off_set (hk.ne (.inl (by simp only [keyAt]; omega)))
  have block : Eff.Off (.sticky (F.PWM_STICKY_SHOOT_BLOCK (p / 16))) k :=
    Eff.off_sticky (hk.ne (.inl (by simp only [keyAt]; omega))) (hk.ne (.inl (by rw [Fld.key_irq]; unfold keyAt; dsimp only; omega)))
  have brake : Eff.Off (.sticky F.PWX_STICKY_BRK_SB) k := Eff.off_sticky (hk.ne (by decide)) (hk.ne (by decide))
  unfold shootBlock
  dsimp only
  split <;> simp [raiseBit, raise, updPwm, Eff.off_upd, sb, block, brake, led]

end

/-- The field of a pin. -/
def pinFld (isH : Bool) (p : Nat) : Fld := if isH then F.PAIR_STAT_H p else F.PAIR_STAT_L p

/-- An edge shows the pin's level; what else it does leaves the pins alone. -/
theorem pinEdge_eq (p rank : Nat) (isH rising : Bool) (s : State) :
    ∃ rest, pinEdge p rank isH rising s = .set (pinFld isH p) (bit rising) :: rest ∧
      ∀ k, PinKey k → Effs (·.Off k) rest := by
  have rest (k : Nat) (hk : PinKey k) : Effs (·.Off k) (effIf ((slewFor s p rank rising).phase == 3) [.sticky F.GDP_STICKY_SOFT_OFF]
      ++ effIf (rank != 1 && !(pairOf s p).hiZ) (auxEdge p ((if isH then 0 else 2) + (if rising then 0 else 1)) s)) := by
    have soft : Eff.Off (.sticky F.GDP_STICKY_SOFT_OFF) k := Eff.off_sticky (hk.ne (by decide)) (hk.ne (by decide))
    have edge (n : Nat) := auxEdge_off_pin hk p n s
    simp [soft, edge]
  cases isH
  · exact ⟨_, rfl, fun k hk => effs_cons.2 ⟨Eff.off_upd, rest k hk⟩⟩
  · exact ⟨_, rfl, fun k hk => effs_cons.2 ⟨Eff.off_upd, rest k hk⟩⟩

theorem pinKey_pinFld (isH : Bool) {p : Nat} (hp : p < 49) : PinKey (pinFld isH p).key := by
  cases isH
  · exact pinKey_l hp
  · exact pinKey_h hp

theorem get_pinEdge_self {p : Nat} (hp : p < 49) (rank : Nat) (isH rising : Bool) (s : State) :
    (after (pinEdge p rank isH rising) s).get (pinFld isH p) = bit rising := by
  obtain ⟨rest, e, off⟩ := pinEdge_eq p rank isH rising s
  rw [after, e, applyAll_cons, get_of_effs_off (off _ (pinKey_pinFld isH hp)), Eff.apply, State.get_put_self]
  cases isH <;> cases rising <;> rfl

theorem get_pinEdge_of_ne {p rank : Nat} {isH rising : Bool} {f : Fld} (hf : PinKey f.key) (hne : (pinFld isH p).key ≠ f.key)
    (s : State) : (after (pinEdge p rank isH rising) s).get f = s.get f := by
  obtain ⟨rest, e, off⟩ := pinEdge_eq p rank isH rising s
  rw [after, e, applyAll_cons, get_of_effs_off (off _ hf), Eff.apply, State.get_put, if_neg hne]

/-- An edge where the level differs leaves the pin at the level. -/
theorem on_pinEdge_of_ne {p : Nat} (hp : p < 49) (rank : Nat) (isH level : Bool) (s : State) :
    (after (onlyIf (fun s => level != s.on (pinFld isH p)) (pinEdge p rank isH level)) s).on (pinFld isH p) = level := by
  rw [after_onlyIf]
  split
  · rw [State.on, get_pinEdge_self hp]
    cases level <;> rfl
  · next h => simpa using Eq.symm (by simpa using h)

/-- What follows the edges leaves the pins alone. -/
theorem get_pinsEnd {p rank : Nat} {f : Fld} (hf : PinKey f.key) (onset : Bool) (s : State) :
    (after (inOrder [fun s =>
        effIf (p < 48) [putBit s (F.PWM_STATUS_ACTIVE (p / 16)) (p % 16) (rank == 6)]
        ++ [updPair p fun q =>
              { q with hiZ := rank == 1, blocked := rank == 4, hold := q.hold || !outEnabled s p || latched s p,
                       slewH := if rank ≤ 2 then {} else q.slewH,
                       slewL := if rank ≤ 2 then {} else q.slewL }],
      onlyIf (fun _ => onset) (shootBlock p)]) s).get f = s.get f := by
  have active (n : Nat) : Eff.Off (.set (F.PWM_STATUS_ACTIVE (p / 16)) n) f.key :=
    Eff.off_set (hf.ne (.inl (by simp only [keyAt]; omega)))
  have shown (t : State) (v : Bool) : Eff.Off (putBit t (F.PWM_STATUS_ACTIVE (p / 16)) (p % 16) v) f.key := by
    cases v <;> exact active _
  refine get_of_effs_off (effs_inOrder fun q hq => ?_) s
  simp only [List.mem_cons, List.not_mem_nil, or_false] at hq
  rcases hq with rfl | rfl
  · exact fun t => by simp [updPair, Eff.off_upd, shown]
  · exact all_onlyIf (shootBlock_off_pin hf p)

/-- The pins after they have been brought up to date. -/
theorem on_applyPins {p : Nat} (hp : p < 49) (s : State) :
    (after (applyPins p) s).on (F.PAIR_STAT_H p) = (pairPins s p (pairRank s p)).1 ∧
    (after (applyPins p) s).on (F.PAIR_STAT_L p) = (pairPins s p (pairRank s p)).2 := by
  have h := pinKey_h hp
  have l := pinKey_l hp
  have apart : (pinFld false p).key ≠ (F.PAIR_STAT_H p).key := by
    rw [pinFld, if_neg Bool.false_ne_true]
    dsimp only
    omega
  have edgeL (u : State) (v : Bool) (n : Nat) : (after (onlyIf (fun s => v != s.on (F.PAIR_STAT_L p)) (pinEdge p n false v)) u).get
      (F.PAIR_STAT_H p) = u.get (F.PAIR_STAT_H p) := by
    rw [after_onlyIf]
    split
    · exact get_pinEdge_of_ne h apart u
    · rfl
  have pins : after (applyPins p) s = after (inOrder _) s := rfl
  rw [pins, after_inOrder_cons, after_inOrder_cons, State.on, State.on, get_pinsEnd h, get_pinsEnd l]
  refine ⟨?_, on_pinEdge_of_ne hp _ false _ _⟩
  rw [edgeL]
  exact on_pinEdge_of_ne hp _ true _ _

/-! ### The ranks -/

/-- Without drive, or under the inhibit, no pin is high. -/
theorem pairPins_of_held {s : State} {p : Nat}
    (h : s.b.sys.inReset = true ∨ s.b.sys.drvEn = false ∨ s.on F.PWX_STATUS_INHIBIT = true) :
    pairPins s p (pairRank s p) = (false, false) := by
  have rank : pairRank s p = 1 ∨ pairRank s p = 2 := by
    unfold pairRank
    by_cases held : (s.b.sys.inReset || !s.b.sys.drvEn) = true
    · exact .inl (if_pos held)
    · have inhibit : s.on F.PWX_STATUS_INHIBIT = true := by simp_all
      exact .inr ((if_neg held).trans (if_pos inhibit))
  rcases rank with e | e <;> rw [e] <;> rfl

/-- A latched trip puts the pair in its safe state. -/
theorem pairPins_of_latched {s : State} {p : Nat} (hr : s.b.sys.inReset = false) (hd : s.b.sys.drvEn = true)
    (hi : s.on F.PWX_STATUS_INHIBIT = false) (hl : latched s p = true) :
    pairPins s p (pairRank s p) = ((pairOf s p).safe == 1, (pairOf s p).safe == 2) := by
  have rank : pairRank s p = 3 := by simp [pairRank, hr, hd, hi, hl]
  rw [rank]
  rfl

/-- Two commanded levels do not come to the pins. -/
theorem pairRank_of_both {s : State} {p : Nat} (hh : (pairOf s p).drvH = true) (hl : (pairOf s p).drvL = true) :
    pairRank s p = 1 ∨ pairRank s p = 2 ∨ (latched s p = true ∧ pairRank s p = 3) ∨ pairRank s p = 4 := by
  simp only [pairRank, hh, hl, Bool.and_self, if_true]
  split
  · exact .inl rfl
  · split
    · exact .inr (.inl rfl)
    · split
      · next trip => exact .inr (.inr (.inl ⟨trip, rfl⟩))
      · exact .inr (.inr (.inr rfl))

/-- The interlock holds both pins low. -/
theorem pairPins_of_both {s : State} {p : Nat} (hh : (pairOf s p).drvH = true) (hl : (pairOf s p).drvL = true)
    (hn : latched s p = false) : pairPins s p (pairRank s p) = (false, false) := by
  rcases pairRank_of_both hh hl with e | e | ⟨trip, -⟩ | e
  · rw [e]; rfl
  · rw [e]; rfl
  · rw [hn] at trip; cases trip
  · rw [e]; rfl

theorem pairPins_not_both (s : State) (p : Nat) :
    ¬ ((pairPins s p (pairRank s p)).1 = true ∧ (pairPins s p (pairRank s p)).2 = true) := by
  rintro ⟨h1, h2⟩
  unfold pairPins at h1 h2
  split at h1
  · next safe =>
    simp only [safe, if_true, beq_iff_eq] at h1 h2
    omega
  · next safe =>
    split at h1
    · next cmd =>
      simp only [cmd, if_true, if_neg (show ¬ 6 = 3 by decide)] at h2
      rcases pairRank_of_both h1 h2 with e | e | ⟨-, e⟩ | e <;> omega
    · cases h1

end Sys2Proof.Machine

namespace Sys2Proof

open Machine

/-- Settles O11: an edge shows the level that the rank gives, and nothing that follows it moves a pin. -/
theorem pinsFollowRank : Obligations.PinsFollowRank := by
  intro p s hp
  obtain ⟨h, l⟩ := on_applyPins hp s
  exact ⟨by rw [h, l], pairPins_of_held, fun ⟨hr, hd, hi, hl⟩ => pairPins_of_latched hr hd hi hl, pairPins_of_both, pairPins_not_both s p⟩

end Sys2Proof
end

section
/-! The mirror of a redundant pair: MIRROR_LOST (R392, R395). -/

namespace Sys2Proof.Machine

/-- What the readiness shows leaves the flags of a lost mirror alone. -/
theorem butShow_off {k : Nat} (hs : F.BUT_STATUS_READY.key ≠ k) (ht : F.BUT_STATUS_STATE.key ≠ k)
    (hc : F.BUT_STATUS_CODE.key ≠ k) (hd : F.BUT_STATUS_DRV_EN.key ≠ k) : butShow.All (·.Off k) := by
  refine all_inOrder fun p hp => ?_
  simp only [List.mem_cons, List.not_mem_nil, or_false] at hp
  rcases hp with rfl | rfl | rfl <;> intro s <;> simp [updBut, Eff.off_upd, Eff.off_set, hs, ht, hc, hd]

theorem butShow_keeps_missed : butShow.Keeps (·.but.missed) := by
  refine Prog.All.keeps (all_inOrder fun p hp => ?_)
  simp only [List.mem_cons, List.not_mem_nil, or_false] at hp
  rcases hp with rfl | rfl | rfl <;> intro s <;> simp [updBut]

theorem sendOn_off (n : Nat) (i : TxItem) (k : Nat) : (sendOn n i).All (·.Off k) := fun s => by
  simp [sendOn, updLane, Eff.off_upd]

theorem sendOn_keeps_missed (n : Nat) (i : TxItem) : (sendOn n i).Keeps (·.but.missed) :=
  Prog.All.keeps fun s => by simp [sendOn, updLane]

/-- What follows a stored set leaves the flag of a lost mirror and the count of missed periods alone. -/
theorem setShow_mirror (s : State) :
    (after (inOrder [ageShow, butShow]) s).on F.BUT_STATUS_MIRROR_LOST = s.on F.BUT_STATUS_MIRROR_LOST ∧
    (after (inOrder [ageShow, butShow]) s).b.but.missed = s.b.but.missed := by
  have show' := butShow_off (k := F.BUT_STATUS_MIRROR_LOST.key) (by decide) (by decide) (by decide) (by decide)
  have missed (u : State) : (after butShow u).b.but.missed = u.b.but.missed := butShow_keeps_missed u
  rw [after_inOrder_cons, after_inOrder_cons, after_inOrder_nil, State.on, State.on, missed, show'.off _ _ rfl, after, ageShow, applyAll_cons, applyAll_nil, Eff.apply, State.get_put, if_neg (by decide)]
  exact ⟨rfl, rfl⟩

/-- A frame table has what has been put in it. -/
theorem any_tput {α : Type} (l : List (Nat × α)) (k : Nat) (v : α) : ((tput l k v).any fun p => p.1 == k) = true := by
  induction l with
  | nil => simp [tput]
  | cons p l ih =>
    obtain ⟨a, w⟩ := p
    unfold tput
    split <;> simp_all

/-- A class-0 set that comes whole in one frame clears the flag and the count. -/
theorem mirStore_whole {f : Frame} (hi : bitsOf (f.data.getD 0 0) 47 40 = 0) (hn : bitsOf (f.data.getD 0 0) 39 32 = 1) (s : State) :
    (after (mirStore 0 f) s).on F.BUT_STATUS_MIRROR_LOST = false ∧ (after (mirStore 0 f) s).b.but.missed = 0 := by
  have whole (l : List (Nat × List Nat)) (v : List Nat) :
      ((List.range 1).all fun i => (tput l 0 v).any fun p => p.1 == i) = true := by simp [any_tput]
  have shown := setShow_mirror
  unfold after mirStore
  simp only [hi, hn, whole, Bool.not_true, Bool.false_eq_true, if_false]
  show (after (inOrder _) s).on _ = false ∧ (after (inOrder _) s).b.but.missed = 0
  rw [after_inOrder_cons, (shown _).1, (shown _).2]
  simp [after, effIf, State.on, Eff.apply, updBut]

end Sys2Proof.Machine

namespace Sys2Proof

open Machine

/-- Settles O17: the count of missed periods sets the flag, a whole class-0 set clears both. -/
theorem mirrorLostRule : Obligations.MirrorLostRule := by
  refine ⟨fun s hl off active ready missed lost => ends_run ?_, fun f s hl taken hi hn => ends_run ?_⟩
  · have raised : mirrorLost s = thenDo [.set F.BUT_STATUS_MIRROR_LOST 1, .sticky F.BUT_STICKY_MIRROR_LOST,
        .led 0x2805 0 [s.get F.BUT_STATUS_AGE, 0]] butShow s := by
      have enough : ¬ s.b.but.missed < 64 := by omega
      simp [mirrorLost, butOff, butActive, off, active, ready, lost, enough]
    have status := butShow_off (k := F.BUT_STATUS_MIRROR_LOST.key) (by decide) (by decide) (by decide) (by decide)
    have sticky := butShow_off (k := F.BUT_STICKY_MIRROR_LOST.key) (by decide) (by decide) (by decide) (by decide)
    rw [after_onMain hl, after, raised]
    show (after (thenDo _ butShow) s).on _ = true ∧ (after (thenDo _ butShow) s).on _ = true
    rw [after_thenDo, State.on, State.on, status.off _ _ rfl, sticky.off _ _ rfl]
    simp only [applyAll_cons, applyAll_nil, Eff.apply]
    rw [State.get_postRecord (by decide), State.get_postRecord (by decide), State.get_stick, State.get_stick, State.get_put_self,
      if_neg (by decide), if_neg (by decide), if_neg (by decide), if_pos rfl]
    exact ⟨rfl, rfl⟩
  · have ack (u : State) : (after (mirAck f) u).on F.BUT_STATUS_MIRROR_LOST = u.on F.BUT_STATUS_MIRROR_LOST ∧
        (after (mirAck f) u).b.but.missed = u.b.but.missed :=
      ⟨congrArg (· != 0) ((sendOn_off 4 _ _).off u _ rfl), sendOn_keeps_missed 4 _ u⟩
    rw [after_onMain hl, after, mirSet, if_pos taken]
    show (after (inOrder _) s).on _ = false ∧ (after (inOrder _) s).b.but.missed = 0
    rw [after_inOrder_cons, after_inOrder_cons, after_inOrder_nil, (ack _).1, (ack _).2]
    exact mirStore_whole hi hn s

end Sys2Proof
end

section
/-! Footprints: what a meaning may write, said by keys, by parts of the blocks, and by addresses, and that effects within
a footprint leave all else as it is. -/

namespace Sys2Proof.Machine

/-! ### The parts of what the blocks hold -/

/-- The parts of what the blocks hold; of SYS whether the main die is in reset, of the timebase its value, of metrology the
accumulators count as parts of their own. -/
inductive Part where
  | freeCtr | cyc | setNow | commitNow | commitWas | schedNow | wroteNow | waiting | sys | inReset | plumb | tim | now | bed
  | ldg | sec | hst | queSeq | queNow | cfg | crn | mon | jtag | lanes | rdg | pairs | pwm | cmps | mpt | fad | ke0 | ke1
  | fpm | pmp | but | phs | grd | twv | fac | met | acc | par
  deriving DecidableEq

/-- A part is the same in two states of the blocks. -/
def Part.same (b c : Blocks) : Part → Prop
  | .freeCtr => c.freeCtr = b.freeCtr
  | .cyc => c.cyc = b.cyc
  | .setNow => c.setNow = b.setNow
  | .commitNow => c.commitNow = b.commitNow
  | .commitWas => c.commitWas = b.commitWas
  | .schedNow => c.schedNow = b.schedNow
  | .wroteNow => c.wroteNow = b.wroteNow
  | .waiting => c.waiting = b.waiting
  | .sys => { c.sys with inReset := false } = { b.sys with inReset := false }
  | .inReset => c.sys.inReset = b.sys.inReset
  | .plumb => c.plumb = b.plumb
  | .tim => { c.tim with t := 0 } = { b.tim with t := 0 }
  | .now => c.tim.t = b.tim.t
  | .bed => c.bed = b.bed
  | .ldg => c.ldg = b.ldg
  | .sec => c.sec = b.sec
  | .hst => c.hst = b.hst
  | .queSeq => c.queSeq = b.queSeq
  | .queNow => c.queNow = b.queNow
  | .cfg => c.cfg = b.cfg
  | .crn => c.crn = b.crn
  | .mon => c.mon = b.mon
  | .jtag => c.jtag = b.jtag
  | .lanes => c.lanes = b.lanes
  | .rdg => c.rdg = b.rdg
  | .pairs => c.pairs = b.pairs
  | .pwm => c.pwm = b.pwm
  | .cmps => c.cmps = b.cmps
  | .mpt => c.mpt = b.mpt
  | .fad => c.fad = b.fad
  | .ke0 => c.ke0 = b.ke0
  | .ke1 => c.ke1 = b.ke1
  | .fpm => c.fpm = b.fpm
  | .pmp => c.pmp = b.pmp
  | .but => c.but = b.but
  | .phs => c.phs = b.phs
  | .grd => c.grd = b.grd
  | .twv => c.twv = b.twv
  | .fac => c.fac = b.fac
  | .met => { c.met with keep.acc := [] } = { b.met with keep.acc := [] }
  | .acc => c.met.keep.acc = b.met.keep.acc
  | .par => c.par = b.par

theorem Part.same_refl (p : Part) (b : Blocks) : p.same b b := by cases p <;> rfl

theorem Part.same_trans {p : Part} {a b c : Blocks} (h : p.same a b) (g : p.same b c) : p.same a c := by
  cases p <;> exact Eq.trans g h

/-- The blocks with the parts `ps` taken from `c`. -/
def Blocks.take (b : Blocks) (ps : List Part) (c : Blocks) : Blocks where
  freeCtr := if .freeCtr ∈ ps then c.freeCtr else b.freeCtr
  cyc := if .cyc ∈ ps then c.cyc else b.cyc
  setNow := if .setNow ∈ ps then c.setNow else b.setNow
  commitNow := if .commitNow ∈ ps then c.commitNow else b.commitNow
  commitWas := if .commitWas ∈ ps then c.commitWas else b.commitWas
  schedNow := if .schedNow ∈ ps then c.schedNow else b.schedNow
  wroteNow := if .wroteNow ∈ ps then c.wroteNow else b.wroteNow
  waiting := if .waiting ∈ ps then c.waiting else b.waiting
  plumb := if .plumb ∈ ps then c.plumb else b.plumb
  bed := if .bed ∈ ps then c.bed else b.bed
  ldg := if .ldg ∈ ps then c.ldg else b.ldg
  sec := if .sec ∈ ps then c.sec else b.sec
  hst := if .hst ∈ ps then c.hst else b.hst
  queSeq := if .queSeq ∈ ps then c.queSeq else b.queSeq
  queNow := if .queNow ∈ ps then c.queNow else b.queNow
  cfg := if .cfg ∈ ps then c.cfg else b.cfg
  crn := if .crn ∈ ps then c.crn else b.crn
  mon := if .mon ∈ ps then c.mon else b.mon
  jtag := if .jtag ∈ ps then c.jtag else b.jtag
  lanes := if .lanes ∈ ps then c.lanes else b.lanes
  rdg := if .rdg ∈ ps then c.rdg else b.rdg
  pairs := if .pairs ∈ ps then c.pairs else b.pairs
  pwm := if .pwm ∈ ps then c.pwm else b.pwm
  cmps := if .cmps ∈ ps then c.cmps else b.cmps
  mpt := if .mpt ∈ ps then c.mpt else b.mpt
  fad := if .fad ∈ ps then c.fad else b.fad
  ke0 := if .ke0 ∈ ps then c.ke0 else b.ke0
  ke1 := if .ke1 ∈ ps then c.ke1 else b.ke1
  fpm := if .fpm ∈ ps then c.fpm else b.fpm
  pmp := if .pmp ∈ ps then c.pmp else b.pmp
  but := if .but ∈ ps then c.but else b.but
  phs := if .phs ∈ ps then c.phs else b.phs
  grd := if .grd ∈ ps then c.grd else b.grd
  twv := if .twv ∈ ps then c.twv else b.twv
  fac := if .fac ∈ ps then c.fac else b.fac
  par := if .par ∈ ps then c.par else b.par
  sys := { (if .sys ∈ ps then c.sys else b.sys) with inReset := if .inReset ∈ ps then c.sys.inReset else b.sys.inReset }
  tim := { (if .tim ∈ ps then c.tim else b.tim) with t := if .now ∈ ps then c.tim.t else b.tim.t }
  met := { (if .met ∈ ps then c.met else b.met) with keep.acc := if .acc ∈ ps then c.met.keep.acc else b.met.keep.acc }

theorem Part.same_take {p : Part} {ps : List Part} (h : p ∉ ps) (b c : Blocks) : p.same b (b.take ps c) := by
  cases p <;> simp [Part.same, Blocks.take, h]

theorem Part.take_same {p : Part} {ps : List Part} {b c : Blocks} (h : p ∉ ps → p.same b c) : p.same c (b.take ps c) := by
  by_cases hp : p ∈ ps
  · cases p <;> simp [Part.same, Blocks.take, hp]
  · have := h hp
    cases p <;> simp_all [Part.same, Blocks.take]

/-- Blocks that are the same in every part are the same. -/
theorem Blocks.eq_of_same {b c : Blocks} (h : ∀ p : Part, p.same b c) : c = b := by
  have sys : c.sys = b.sys :=
    calc c.sys = { { c.sys with inReset := false } with inReset := c.sys.inReset } := rfl
      _ = { { b.sys with inReset := false } with inReset := b.sys.inReset } := by rw [h .sys, h .inReset]
  have tim : c.tim = b.tim :=
    calc c.tim = { { c.tim with t := 0 } with t := c.tim.t } := rfl
      _ = { { b.tim with t := 0 } with t := b.tim.t } := by rw [h .tim, h .now]
  have met : c.met = b.met :=
    calc c.met = { { c.met with keep.acc := [] } with keep.acc := c.met.keep.acc } := rfl
      _ = { { b.met with keep.acc := [] } with keep.acc := b.met.keep.acc } := by rw [h .met, h .acc]
  obtain ⟨⟩ := b
  obtain ⟨⟩ := c
  rw [Blocks.mk.injEq]
  exact ⟨h .freeCtr, h .cyc, h .setNow, h .commitNow, h .commitWas, h .schedNow, h .wroteNow, h .waiting, sys,
    h .plumb, tim, h .bed, h .ldg, h .sec, h .hst, h .queSeq, h .queNow, h .cfg, h .crn, h .mon, h .jtag,
    h .lanes, h .rdg, h .pairs, h .pwm, h .cmps, h .mpt, h .fad, h .ke0, h .ke1, h .fpm, h .pmp, h .but,
    h .phs, h .grd, h .twv, h .fac, met, h .par⟩

theorem Blocks.eq_take {ps : List Part} {b c : Blocks} (h : ∀ p, p ∉ ps → p.same b c) : c = b.take ps c :=
  (Blocks.eq_of_same fun p => Part.take_same (h p)).symm

/-! ### Footprints -/

/-- What may be written: register fields, values in force and pending values by key, parts of the blocks, words of memory by
address, queues; `store`: whether anything beside registers and blocks may be written at all. -/
structure Foot where
  key : Nat → Prop
  part : Part → Prop
  force : Nat → Prop := fun _ => False
  pend : Nat → Prop := fun _ => False
  word : Nat → Prop := fun _ => False
  queue : Nat → Prop := fun _ => False
  store : Prop := True

/-- A footprint takes in fields, and parts. -/
def Foot.Fields (φ : Foot) (fs : List Fld) : Prop := ∀ f ∈ fs, φ.key f.key
def Foot.Parts (φ : Foot) (ps : List Part) : Prop := ∀ p ∈ ps, φ.part p

structure Foot.Has (φ : Foot) (fs : List Fld) (ps : List Part) : Prop where
  fld : φ.Fields fs
  part : φ.Parts ps

/-- An effect is within a footprint. -/
def Foot.ok (φ : Foot) : Eff → Prop
  | .set f _ => φ.key f.key
  | .force f _ => φ.force f.key ∧ φ.store
  | .pend f _ => φ.pend f.key
  | .sticky f => φ.Has [f, f.irq] [.setNow]
  | .inc f _ => φ.key f.key
  | .take lo hi => ∀ k, lo ≤ k → k < hi → φ.pend k
  | .adopt lo hi => (∀ k, lo ≤ k → k < hi → φ.force k) ∧ φ.store
  | .commit lo hi => (∀ k, lo ≤ k → k < hi → φ.force k ∧ φ.pend k) ∧ φ.store
  | .clear lo hi => (∀ k, lo ≤ k → k < hi → φ.key k ∧ φ.force k ∧ φ.pend k) ∧ φ.store
  | .mem a _ => φ.word a ∧ φ.store
  | .mems a vs => (∀ i < vs.length, φ.word (a + i)) ∧ φ.store
  | .memClear lo hi => (∀ a, lo ≤ a → a < hi → φ.word a) ∧ φ.store
  | .upd g => ∀ p, ¬ φ.part p → ∀ b, p.same b (g b)
  | .led _ _ _ => φ.Has ledgerFlds [.ldg, .setNow]
  | .que q _ _ => φ.Has (queueFlds q) [.queSeq, .queNow, .setNow] ∧ φ.queue q ∧ φ.store
  | .queSign q _ _ => φ.Has (signFlds ++ queueFlds q) [.sec, .ldg, .queSeq, .queNow, .setNow] ∧ φ.queue q ∧ φ.store
  | .queDone q _ _ => φ.Has (queueFlds q) [.queSeq, .queNow, .setNow] ∧ φ.queue q ∧ φ.store

/-- All that is outside a footprint is in `t` as it is in `s`. -/
structure Foot.Kept (φ : Foot) (s t : State) : Prop where
  regs : ∀ f : Fld, ¬ φ.key f.key → t.get f = s.get f
  force : ∀ f : Fld, ¬ φ.force f.key → t.cur f = s.cur f
  pend : ∀ f : Fld, ¬ φ.pend f.key → t.pend f = s.pend f
  word : ∀ a, ¬ φ.word a → t.word a = s.word a
  part : ∀ p, ¬ φ.part p → p.same s.b t.b
  store : ¬ φ.store → t.mem = s.mem ∧ t.act = s.act

/-- The words of a footprint's queues stay in it. -/
def Foot.QueuesAt (φ : Foot) (s : State) : Prop := ∀ t, φ.Kept s t → ∀ q, φ.queue q → ∀ w, φ.word (t.qAddr q w)

section
variable {φ : Foot} {s t : State}

@[simp] theorem Foot.fields_nil : φ.Fields [] := fun _ h => by cases h
@[simp] theorem Foot.fields_cons {f : Fld} {fs : List Fld} : φ.Fields (f :: fs) ↔ φ.key f.key ∧ φ.Fields fs := List.forall_mem_cons
@[simp] theorem Foot.fields_append {fs gs : List Fld} : φ.Fields (fs ++ gs) ↔ φ.Fields fs ∧ φ.Fields gs := List.forall_mem_append
@[simp] theorem Foot.fields_map {α : Type} {g : α → Fld} {l : List α} : φ.Fields (l.map g) ↔ ∀ x ∈ l, φ.key (g x).key :=
  List.forall_mem_map
@[simp] theorem Foot.fields_flatMap {α : Type} {g : α → List Fld} {l : List α} : φ.Fields (l.flatMap g) ↔ ∀ x ∈ l, φ.Fields (g x) := by
  simp only [Foot.Fields, List.mem_flatMap]
  exact ⟨fun h x hx f hf => h f ⟨x, hx, hf⟩, fun h f ⟨x, hx, hf⟩ => h x hx f hf⟩
@[simp] theorem Foot.fields_flags {fs : List Fld} : φ.Fields (flags fs) ↔ φ.Fields fs ∧ ∀ f ∈ fs, φ.key f.irq.key := by
  rw [flags, Foot.fields_append, Foot.fields_map]
@[simp] theorem Foot.parts_nil : φ.Parts [] := fun _ h => by cases h
@[simp] theorem Foot.parts_cons {p : Part} {ps : List Part} : φ.Parts (p :: ps) ↔ φ.part p ∧ φ.Parts ps := List.forall_mem_cons
@[simp] theorem Foot.parts_append {ps qs : List Part} : φ.Parts (ps ++ qs) ↔ φ.Parts ps ∧ φ.Parts qs := List.forall_mem_append

theorem Foot.Has.mono {fs gs : List Fld} {ps qs : List Part} (h : φ.Has gs qs) (hf : ∀ f ∈ fs, f ∈ gs)
    (hp : ∀ p ∈ ps, p ∈ qs) : φ.Has fs ps :=
  ⟨fun f hm => h.fld f (hf f hm), fun p hm => h.part p (hp p hm)⟩

theorem Foot.Kept.refl (φ : Foot) (s : State) : φ.Kept s s :=
  ⟨fun _ _ => rfl, fun _ _ => rfl, fun _ _ => rfl, fun _ _ => rfl, fun p _ => p.same_refl _, fun _ => ⟨rfl, rfl⟩⟩

/-! ### The operations keep what is outside a footprint -/

theorem Foot.Kept.put (h : φ.Kept s t) {f : Fld} (hf : φ.key f.key) (v : Nat) : φ.Kept s (t.put f v) := by
  refine ⟨fun g hg => ?_, h.force, h.pend, h.word, h.part, h.store⟩
  have apart : f.key ≠ g.key := fun e => hg (e ▸ hf)
  rw [State.get_put, if_neg apart]
  exact h.regs g hg

theorem Foot.Kept.updB (h : φ.Kept s t) {g : Blocks → Blocks} (hg : ∀ p, ¬ φ.part p → p.same t.b (g t.b)) :
    φ.Kept s (t.updB g) :=
  ⟨h.regs, h.force, h.pend, h.word, fun p hp => Part.same_trans (h.part p hp) (hg p hp), h.store⟩

theorem Foot.Kept.stick (h : φ.Kept s t) {f : Fld} (hf : φ.Has [f, f.irq] [.setNow]) : φ.Kept s (t.stick f) := by
  refine ((h.put (hf.fld f (by simp)) 1).put (hf.fld f.irq (by simp)) 1).updB fun p hp => ?_
  have apart : p ∉ [Part.setNow] := fun hm => hp (hf.part p hm)
  exact Part.same_take apart t.b { t.b with setNow := f.key :: f.irq.key :: t.b.setNow }

theorem Foot.Kept.bump (h : φ.Kept s t) {f : Fld} (hf : φ.key f.key) (n : Nat) : φ.Kept s (t.bump f n) := h.put hf _

theorem Foot.Kept.putWord (h : φ.Kept s t) {a : Nat} (ha : φ.word a) (hs : φ.store) (v : Nat) : φ.Kept s (t.putWord a v) := by
  refine ⟨h.regs, h.force, h.pend, fun x hx => ?_, h.part, fun hn => absurd hs hn⟩
  have apart : a ≠ x := fun e => hx (e ▸ ha)
  rw [State.word_putWord, if_neg apart]
  exact h.word x hx

theorem Foot.Kept.putWords (h : φ.Kept s t) {a : Nat} {vs : List Nat} (ha : ∀ i < vs.length, φ.word (a + i)) (hs : φ.store) :
    φ.Kept s (t.putWords a vs) := by
  induction vs generalizing t a with
  | nil => exact h
  | cons v vs ih =>
    refine ih (h.putWord (ha 0 (by simp)) hs v) fun i hi => ?_
    rw [show a + 1 + i = a + (i + 1) by omega]
    exact ha (i + 1) (by simpa using hi)

/-- The blocks change in parts of the footprint. -/
theorem Foot.Kept.updTake (h : φ.Kept s t) {ps : List Part} (hp : ∀ p ∈ ps, φ.part p) {g : Blocks → Blocks}
    (hg : g t.b = t.b.take ps (g t.b)) : φ.Kept s (t.updB g) :=
  h.updB fun p hn => hg ▸ Part.same_take (fun hm => hn (hp p hm)) _ _

theorem Foot.Kept.loseRecords (h : φ.Kept s t) (hl : φ.Has ledgerFlds [.ldg, .setNow]) (n : Nat) : φ.Kept s (t.loseRecords n) := by
  unfold State.loseRecords
  split
  · exact h
  · exact ((h.bump (hl.fld F.LDG_CNT_LOST_N (by decide)) n).bump (hl.fld F.LDG_DEFER_LOST (by decide)) n).stick
      (hl.mono (by decide) (by decide))

theorem Foot.Kept.postRecord (h : φ.Kept s t) (hl : φ.Has ledgerFlds [.ldg, .setNow]) (c i : Nat) (ps : List Nat) :
    φ.Kept s (t.postRecord c i ps) := by
  have buffers {g : Blocks → Blocks} (hg : g t.b = t.b.take [.ldg] (g t.b)) : φ.Kept s (t.updB g) :=
    h.updTake (ps := [.ldg]) (fun p hp => hl.part p (List.mem_cons.2 (.inl (List.mem_singleton.1 hp)))) hg
  unfold State.postRecord State.enterBuffer
  split
  · exact h
  · split
    · split
      · exact buffers rfl
      · exact buffers rfl
    · split
      · exact buffers rfl
      · exact (buffers rfl).loseRecords hl 1

/-! ### The queues -/

section
variable {q : Nat} (hq : φ.Has (queueFlds q) [.queSeq, .queNow, .setNow])
include hq

theorem Foot.Kept.qRefresh (h : φ.Kept s t) : φ.Kept s (t.qRefresh q) := by
  have shown (m n : Nat) : φ.Kept s (((t.put (F.QUE_Q_FILL_W q) (t.qFill q)).put F.QUE_STATUS_NONEMPTY m).put F.QUE_WM_STAT_Q n) :=
    ((h.put (hq.fld _ (by simp [queueFlds])) _).put (hq.fld _ (by simp [queueFlds])) _).put (hq.fld _ (by simp [queueFlds])) _
  unfold State.qRefresh
  dsimp only
  split
  · exact (shown _ _).stick (hq.mono (by simp [queueFlds, flags]) (by decide))
  · exact shown _ _

theorem Foot.Kept.qDrop (h : φ.Kept s t) : φ.Kept s (t.qDrop q) :=
  (h.bump (hq.fld (F.QUE_Q_DROP_N q) (by simp [queueFlds])) 1).stick (hq.mono (by simp [queueFlds, flags]) (by decide))

theorem Foot.Kept.qMakeRoom (h : φ.Kept s t) (len fuel : Nat) : φ.Kept s (t.qMakeRoom q len fuel) := by
  induction fuel generalizing t with
  | zero => exact h
  | succ n ih =>
    unfold State.qMakeRoom
    split
    · exact h
    · exact ih ((h.put (hq.fld (F.QUE_Q_CONS_W q) (by simp [queueFlds])) _).qDrop hq)

variable (hs : φ.store) (hr : φ.QueuesAt s) (hm : φ.queue q)
include hs hr hm

omit hq in
theorem Foot.Kept.qWrite (h : φ.Kept s t) (w : Nat) (vs : List Nat) : φ.Kept s (t.qWrite q w vs) := by
  induction vs generalizing t w with
  | nil => exact h
  | cons v vs ih => exact ih (h.putWord (hr t h q hm w) hs v) (w + 1)

theorem Foot.Kept.qPut (h : φ.Kept s t) (ty : Nat) (sg : Bool) (ws : List Nat) : φ.Kept s (t.qPut q ty sg ws) := by
  unfold State.qPut
  refine Foot.Kept.qRefresh hq ?_
  exact ((h.qWrite hs hr hm _ _).put (hq.fld (F.QUE_Q_PROD_W q) (by simp [queueFlds])) _).updTake
    (ps := [.queSeq, .queNow]) (fun p hp => hq.part p (by simp at hp; rcases hp with rfl | rfl <;> decide)) rfl

theorem Foot.Kept.qPlace (h : φ.Kept s t) (ty : Nat) (sg : Bool) (ws : List Nat) : φ.Kept s (t.qPlace q ty sg ws) := by
  unfold State.qPlace
  dsimp only
  split
  · exact h
  split
  · exact (h.qDrop hq).stick (hq.mono (by simp [queueFlds, flags]) (by decide))
  split
  · exact h.qPut hq hs hr hm ty sg ws
  split
  · exact h.qDrop hq
  · exact (h.qMakeRoom hq _ _).qPut hq hs hr hm ty sg ws

/-- The records that were taken back return to their own queue. -/
theorem Foot.Kept.placeAll (h : φ.Kept s t) {rs : List (Nat × Nat × Bool × List Nat)} (own : ∀ r ∈ rs, r.1 = q) :
    φ.Kept s (rs.foldl (fun s r => s.qPlace r.1 r.2.1 r.2.2.1 r.2.2.2) t) := by
  induction rs generalizing t with
  | nil => exact h
  | cons r rs ih =>
    have hr1 : r.1 = q := own r (.head _)
    refine ih ?_ fun x hx => own x (.tail _ hx)
    dsimp only
    rw [hr1]
    exact h.qPlace hq hs hr hm _ _ _

theorem Foot.Kept.qAppend (h : φ.Kept s t) (ty : Nat) (sg : Bool) (ws : List Nat) : φ.Kept s (t.qAppend q ty sg ws) := by
  unfold State.qAppend
  dsimp only
  split
  · exact h.qPlace hq hs hr hm ty sg ws
  · have back : φ.Kept s (t.qBack q (t.qLater q ty)) :=
      (h.put (hq.fld (F.QUE_Q_PROD_W q) (by simp [queueFlds])) _).updTake
        (ps := [.queSeq, .queNow]) (fun p hp => hq.part p (by simp at hp; rcases hp with rfl | rfl <;> decide)) rfl
    refine Foot.Kept.placeAll hq hs hr hm (back.qPlace hq hs hr hm ty sg ws) fun r hr => ?_
    have := (List.mem_filter.1 hr).2
    simp only [Bool.and_eq_true, beq_iff_eq] at this
    exact this.1

end

theorem Foot.Kept.qSigned {q : Nat} (h : φ.Kept s t) (hq : φ.Has (signFlds ++ queueFlds q) [.sec, .ldg, .queSeq, .queNow, .setNow])
    (hs : φ.store) (hr : φ.QueuesAt s) (hm : φ.queue q) (ty : Nat) (ws : List Nat) : φ.Kept s (t.qSigned q ty ws) := by
  unfold State.qSigned
  split
  · exact h.updTake (ps := [.sec]) (fun p hp => hq.part p (List.mem_cons.2 (.inl (List.mem_singleton.1 hp)))) rfl
  · have own : φ.Has (queueFlds q) [.queSeq, .queNow, .setNow] := hq.mono (by simp +contextual) (by decide)
    have sign : φ.Has signFlds [.ldg, .setNow] := hq.mono (by simp +contextual) (by decide)
    refine Foot.Kept.postRecord ?_ (sign.mono (by decide) (by decide)) _ _ _
    exact ((h.qAppend own hs hr hm ty false ws).bump (sign.fld F.SEC_CNT_UNSIGNED_N (by decide)) 1).stick
      (sign.mono (by decide) (by decide))

/-! ### Effects -/

/-- A key range of a store takes the values of another. -/
theorem kept_copyFrom {P : Nat → Prop} {m src : Store} {lo hi k : Nat} (h : ∀ k, lo ≤ k → k < hi → P k) (hk : ¬ P k) :
    (m.copyFrom src lo hi).get RegTable.resetVal k = m.get RegTable.resetVal k := by
  rw [Store.get_copyFrom, if_neg fun b => hk (h k b.1 b.2)]

/-- An effect within a footprint leaves all outside it as it is. -/
theorem Foot.Kept.effect (h : φ.Kept s t) (hr : φ.QueuesAt s) {e : Eff} (he : φ.ok e) : φ.Kept s (e.apply t) := by
  cases e with
  | set f v => exact h.put he v
  | force f v =>
    refine ⟨h.regs, fun g hg => ?_, h.pend, h.word, h.part, fun hn => absurd he.2 hn⟩
    have apart : f.key ≠ g.key := fun e => hg (e ▸ he.1)
    rw [Eff.apply, State.cur_putCur, if_neg apart]
    exact h.force g hg
  | pend f v =>
    refine ⟨h.regs, h.force, fun g hg => ?_, h.word, h.part, h.store⟩
    have apart : f.key ≠ g.key := fun e => hg (e ▸ he)
    refine Eq.trans ?_ (h.pend g hg)
    show Store.get _ (t.pnd.set _ f.key _) g.key % 2 ^ g.w = _
    rw [Store.get_set, if_neg apart]
    rfl
  | sticky f => exact h.stick he
  | inc f n => exact h.bump he n
  | take lo hi =>
    exact ⟨h.regs, h.force, fun g hg => (congrArg (· % 2 ^ g.w) (kept_copyFrom he hg)).trans (h.pend g hg), h.word, h.part, h.store⟩
  | adopt lo hi =>
    exact ⟨h.regs, fun g hg => (congrArg (· % 2 ^ g.w) (kept_copyFrom he.1 hg)).trans (h.force g hg), h.pend, h.word, h.part,
      fun hn => absurd he.2 hn⟩
  | commit lo hi =>
    exact ⟨h.regs,
      fun g hg => (congrArg (· % 2 ^ g.w) (kept_copyFrom (fun k a b => (he.1 k a b).1) hg)).trans (h.force g hg),
      fun g hg => (congrArg (· % 2 ^ g.w) (kept_copyFrom (fun k a b => (he.1 k a b).2) hg)).trans (h.pend g hg), h.word, h.part,
      fun hn => absurd he.2 hn⟩
  | clear lo hi =>
    have apart {P : Nat → Prop} {m : Store} (hP : ∀ k, lo ≤ k → k < hi → P k) {k : Nat} (hk : ¬ P k) :
        (m.clear lo hi).get RegTable.resetVal k = m.get RegTable.resetVal k := by
      rw [Store.get_clear, if_neg fun b => hk (hP k b.1 b.2)]
    exact ⟨fun g hg => (congrArg (· % 2 ^ g.w) (apart (fun k a b => (he.1 k a b).1) hg)).trans (h.regs g hg),
      fun g hg => (congrArg (· % 2 ^ g.w) (apart (fun k a b => (he.1 k a b).2.1) hg)).trans (h.force g hg),
      fun g hg => (congrArg (· % 2 ^ g.w) (apart (fun k a b => (he.1 k a b).2.2) hg)).trans (h.pend g hg), h.word, h.part,
      fun hn => absurd he.2 hn⟩
  | mem a v => exact h.putWord he.1 he.2 v
  | mems a vs => exact h.putWords he.1 he.2
  | memClear lo hi =>
    refine ⟨h.regs, h.force, h.pend, fun a ha => Eq.trans ?_ (h.word a ha), h.part, fun hn => absurd he.2 hn⟩
    show Store.get memDefault (t.mem.clear lo hi) a % 2 ^ 32 = _
    rw [Store.get_clear, if_neg fun b => ha (he.1 a b.1 b.2)]
    rfl
  | upd g => exact h.updB fun p hp => he p hp t.b
  | led c i ps => exact h.postRecord he c i ps
  | que q ty ws => exact h.qAppend he.1 he.2.2 hr he.2.1 ty false ws
  | queSign q ty ws => exact h.qSigned he.1 he.2.2 hr he.2.1 ty ws
  | queDone q ty ws => exact h.qAppend he.1 he.2.2 hr he.2.1 ty true ws

theorem Foot.Kept.effects (h : φ.Kept s t) (hr : φ.QueuesAt s) {es : List Eff} (he : Effs φ.ok es) : φ.Kept s (applyAll t es) := by
  induction es generalizing t with
  | nil => exact h
  | cons e es ih =>
    obtain ⟨h1, h2⟩ := effs_cons.1 he
    exact ih (h.effect hr h1) h2

/-- A meaning within a footprint leaves all outside it as it is. -/
theorem Prog.All.kept {p : Prog} (h : p.All φ.ok) (hr : φ.QueuesAt s) : φ.Kept s (after p s) :=
  (Foot.Kept.refl φ s).effects hr (h s)

/-! ### Which effects are within a footprint -/

@[simp] theorem Foot.ok_set (f : Fld) (v : Nat) : φ.ok (.set f v) ↔ φ.key f.key := Iff.rfl
@[simp] theorem Foot.ok_inc (f : Fld) (n : Nat) : φ.ok (.inc f n) ↔ φ.key f.key := Iff.rfl
@[simp] theorem Foot.ok_sticky (f : Fld) : φ.ok (.sticky f) ↔ φ.key f.key ∧ φ.key f.irq.key ∧ φ.part .setNow :=
  ⟨fun h => ⟨h.fld f (by simp), h.fld f.irq (by simp), h.part _ (by simp)⟩,
   fun ⟨a, b, c⟩ => ⟨by simp [a, b], by simp [c]⟩⟩

theorem Foot.ok_upd {ps : List Part} (h : ∀ p ∈ ps, φ.part p) {g : Blocks → Blocks} (hg : ∀ b, g b = b.take ps (g b)) :
    φ.ok (.upd g) := by
  intro p hp b
  rw [hg b]
  exact Part.same_take (fun hm => hp (h p hm)) _ _

/-- What holds of every part, part by part. -/
theorem Part.forall_iff {Q : Part → Prop} : (∀ p, Q p) ↔
    Q .freeCtr ∧ Q .cyc ∧ Q .setNow ∧ Q .commitNow ∧ Q .commitWas ∧ Q .schedNow ∧ Q .wroteNow ∧ Q .waiting ∧ Q .sys ∧
    Q .inReset ∧ Q .plumb ∧ Q .tim ∧ Q .now ∧ Q .bed ∧ Q .ldg ∧ Q .sec ∧ Q .hst ∧ Q .queSeq ∧ Q .queNow ∧ Q .cfg ∧
    Q .crn ∧ Q .mon ∧ Q .jtag ∧ Q .lanes ∧ Q .rdg ∧ Q .pairs ∧ Q .pwm ∧ Q .cmps ∧ Q .mpt ∧ Q .fad ∧ Q .ke0 ∧ Q .ke1 ∧
    Q .fpm ∧ Q .pmp ∧ Q .but ∧ Q .phs ∧ Q .grd ∧ Q .twv ∧ Q .fac ∧ Q .met ∧ Q .acc ∧ Q .par := by
  constructor
  · intro h
    simp only [h, and_self]
  · rintro h (_ | _)
    all_goals simp only [h]

/-- A change of the blocks is within a footprint when each part is in it or stays the same. -/
@[simp] theorem Foot.ok_upd_iff {g : Blocks → Blocks} : φ.ok (.upd g) ↔ ∀ p, φ.part p ∨ ∀ b, p.same b (g b) := by
  simp only [Foot.ok, or_iff_not_imp_left]

@[simp] theorem Foot.ok_led (h : φ.Fields ledgerFlds) (hl : φ.part .ldg) (hs : φ.part .setNow) (c i : Nat) (ps : List Nat) :
    φ.ok (.led c i ps) := ⟨h, by simp [hl, hs]⟩

end

/-! ### Frames -/

/-- The footprint of a frame: its reach and the parts of the blocks that it names. -/
def Foot.ofReach (r : Reach) (ps : List Part) (queue : Nat → Prop := fun _ => False) : Foot where
  key k := pageOfKey k ∈ r.pages ∨ k ∈ r.fields.map Fld.key
  part p := p ∈ ps
  force k := pageOfKey k ∈ r.force
  pend k := pageOfKey k ∈ r.pend
  word := r.words
  queue := queue

theorem Foot.fields_ofReach (r : Reach) (ps : List Part) (qu : Nat → Prop) : (Foot.ofReach r ps qu).Fields r.fields :=
  fun f hf => .inr (List.mem_map.2 ⟨f, hf, rfl⟩)

theorem Foot.parts_ofReach (r : Reach) (ps : List Part) (qu : Nat → Prop) : (Foot.ofReach r ps qu).Parts ps := fun _ hp => hp

theorem Foot.queuesAt_of_none {φ : Foot} (h : ∀ q, ¬ φ.queue q) (s : State) : φ.QueuesAt s := fun _ _ q hq => absurd hq (h q)

/-- A meaning within the footprint of a frame keeps to the frame. -/
theorem Foot.frame {r : Reach} {ps : List Part} {qu : Nat → Prop} {p : Prog} {s t : State} (hr : (Foot.ofReach r ps qu).QueuesAt s)
    (h : Effs (Foot.ofReach r ps qu).ok (p s)) (ht : run p s = .next t) : Within r s t ∧ t.b = s.b.take ps t.b := by
  have kept := (Foot.Kept.refl _ s).effects hr h
  have queue := pending_applyAll s (p s)
  cases ht
  exact ⟨⟨fun f hp hf => kept.regs f (by rintro (h | h); exacts [hp h, hf h]), kept.force, kept.pend, kept.word, queue⟩,
    Blocks.eq_take kept.part⟩

/-! ### Readings -/

/-- All but one key may be written. -/
def Foot.butKey (k : Nat) : Foot where
  key := (· ≠ k)
  part _ := True
  force _ := True
  pend _ := True
  word _ := True
  queue _ := True

@[simp] theorem Foot.key_butKey {k n : Nat} : (Foot.butKey k).key n ↔ n ≠ k := Iff.rfl
@[simp] theorem Foot.part_butKey (k : Nat) (p : Part) : (Foot.butKey k).part p := trivial
@[simp] theorem Foot.parts_butKey (k : Nat) (ps : List Part) : (Foot.butKey k).Parts ps := fun _ _ => trivial

/-- Fields none of which lies at the key, as their list shows. -/
theorem Foot.fields_butKey {k : Nat} {fs : List Fld} (h : k ∉ fs.map Fld.key) : (Foot.butKey k).Fields fs :=
  fun f hf e => h (List.mem_map.2 ⟨f, hf, e⟩)

/-- All but one part may be written. -/
def Foot.butPart (p : Part) : Foot where
  key _ := True
  part := (· ≠ p)
  force _ := True
  pend _ := True
  word _ := True
  queue _ := True

theorem get_of_butKey {es : List Eff} {f : Fld} (h : Effs (Foot.butKey f.key).ok es) (s : State) :
    (applyAll s es).get f = s.get f :=
  ((Foot.Kept.refl _ s).effects (fun _ _ _ _ _ => trivial) h).regs f fun e => e rfl

theorem get_after_butKey {p : Prog} {f : Fld} (h : p.All (Foot.butKey f.key).ok) (s : State) : (after p s).get f = s.get f :=
  get_of_butKey (h s) s

theorem same_of_butPart {es : List Eff} {p : Part} (h : Effs (Foot.butPart p).ok es) (s : State) : p.same s.b (applyAll s es).b :=
  ((Foot.Kept.refl _ s).effects (fun _ _ _ _ _ => trivial) h).part p fun e => e rfl

end Sys2Proof.Machine
end

section
/-! The footprints of the meanings that many commands share: Cairn triggers and the guarantees, the ring's frames, pins and
trips. -/

namespace Sys2Proof.Machine

/-! ### The shared lists of fields, by what they add to one another -/

/-- What a missed Cairn trigger shows (R468). -/
def crnOwn : List Fld := [F.CRN_CNT_MISSED_N] ++ flags [F.CRN_STICKY_MISSED]

/-- What the guarantees show beside a Cairn trigger (R521). -/
def guarOwn : List Fld :=
  [F.SYS_GUAR_CFG_DEFAULT, F.SYS_GUAR_G1_OK, F.SYS_GUAR_G2_OK, F.SYS_GUAR_G3_OK, F.SYS_GUAR_G4_OK, F.SYS_GUAR_KE0_IDLE,
   F.SYS_GUAR_KE0_STOPPED, F.SYS_GUAR_PATH_DOWN, F.SYS_GUAR_RAIL_OUT, F.SYS_GUAR_TIME_INVALID, F.SYS_GUAR_TJ_OUT]
  ++ flags [F.SYS_STICKY_GUAR_CHANGE]

/-- What the pins show beside the loss of a record. -/
def pinOwn : List Fld :=
  [F.PWX_STATUS_AUX_RUN, F.TRP_GRP_ACT_GRP] ++ flags [F.GDP_STICKY_SOFT_OFF, F.PWX_STICKY_BRK_SB]
  ++ (List.range 8).map F.AUX_STAT_REMAIN ++ (List.range 8).map F.AUX_STAT_RUN
  ++ (List.range 4).map F.CMP_CNT_SKIP_N ++ flags ((List.range 4).map F.CMP_STICKY_TEST_SKIP)
  ++ (List.range 49).map F.PAIR_STAT_H ++ (List.range 49).map F.PAIR_STAT_L ++ (List.range 3).map F.PWM_SB_PAIR
  ++ (List.range 3).map F.PWM_STATUS_ACTIVE ++ flags ((List.range 3).map F.PWM_STICKY_SHOOT_BLOCK)

/-- What the trip matrix shows by itself (R248 to R255). -/
def trpOwn : List Fld :=
  [F.TRP_FIRST_PAIR, F.TRP_FIRST_SRC, F.TRP_FIRST_VALID, F.TRP_LATCH0_PAIR, F.TRP_LATCH1_PAIR, F.TRP_STATUS_ANY,
   F.TRP_STATUS_CYCLE, F.TRP_STATUS_LATCHED] ++ flags [F.TRP_STICKY_IT_REQ, F.TRP_STICKY_TRIP]
  ++ (List.range 4).map F.TRP_ACT_SRC ++ (List.range 4).map F.TRP_SEEN_SRC

/-- How a request of this node to read or write, and one for a bulk transfer, ends (R94 to R96). -/
def raccOwn : List Fld :=
  [F.RDG_RACC_STATUS_BUSY, F.RDG_RACC_STATUS_DONE, F.RDG_RACC_STATUS_ERR] ++ flags [F.RDG_STICKY_RACC_ERR]
def bulkOwn : List Fld :=
  [F.RDG_BULK_STATUS_BUSY, F.RDG_BULK_STATUS_DONE, F.RDG_BULK_STATUS_ERR] ++ flags [F.RDG_STICKY_RACC_ERR]
def reqOwn : List Fld := raccOwn ++ bulkOwn

/-- A frame dropped at a full queue, and one without a way (R66, R87). -/
def hopOwn : List Fld := [F.RDG_CNT_HOPDROP_N] ++ flags [F.RDG_STICKY_HOP_DROP]
def unreachOwn : List Fld := [F.RDG_CNT_UNREACH_N] ++ flags [F.RDG_STICKY_UNREACH_DROP]
def dropOwn : List Fld := hopOwn ++ unreachOwn

/-- What the abort of a scan shows (R218). -/
def scanOwn : List Fld :=
  [F.KE0_ISLOT_VAL 0x9C, F.MPT_STATUS_SCANNING, F.MPT_STATUS_SCAN_IN] ++ flags [F.MPT_STICKY_SCAN_ABORT]

/-- What urgent requests show (R286). -/
def urgOwn : List Fld := [F.FAD_CNT_URG_DROP_N, F.FAD_STATUS_URG_BUSY] ++ flags [F.FAD_STICKY_URG_DROP]

section
variable {φ : Foot}

@[simp] theorem Foot.fields_cause : φ.Fields causeFlds ↔ φ.Fields ledgerFlds ∧ φ.Fields crnOwn := by
  simp [causeFlds, crnOwn]
@[simp] theorem Foot.fields_guar : φ.Fields guarFlds ↔ φ.Fields ledgerFlds ∧ φ.Fields crnOwn ∧ φ.Fields guarOwn := by
  simp [guarFlds, guarOwn, and_assoc]
@[simp] theorem Foot.fields_pin : φ.Fields pinFlds ↔ φ.Fields ledgerFlds ∧ φ.Fields pinOwn := by
  simp [pinFlds, pinOwn, and_assoc]
@[simp] theorem Foot.fields_trip : φ.Fields tripFlds ↔ φ.Fields ledgerFlds ∧ φ.Fields pinOwn ∧ φ.Fields crnOwn ∧
    φ.Fields trpOwn ∧ φ.Fields reqOwn ∧ φ.Fields dropOwn ∧ φ.Fields scanOwn ∧ φ.Fields urgOwn := by
  simp [tripFlds, trpOwn, reqOwn, raccOwn, bulkOwn, dropOwn, hopOwn, unreachOwn, scanOwn, urgOwn]
  tauto
@[simp] theorem Foot.fields_req : φ.Fields reqOwn ↔ φ.Fields raccOwn ∧ φ.Fields bulkOwn := Foot.fields_append
@[simp] theorem Foot.fields_drop : φ.Fields dropOwn ↔ φ.Fields hopOwn ∧ φ.Fields unreachOwn := Foot.fields_append

@[simp] theorem all_iff {P : Eff → Prop} {p : Prog} : p.All P ↔ ∀ s, Effs P (p s) := Iff.rfl

@[simp] theorem Foot.ok_ite {c : Prop} [Decidable c] {e f : Eff} : φ.ok (if c then e else f) ↔ (c → φ.ok e) ∧ (¬ c → φ.ok f) := by
  split <;> simp_all

/-! ### Changes of one part -/

@[simp] theorem Foot.ok_updPair (h : φ.part .pairs) (p : Nat) (g : Pair → Pair) : φ.ok (updPair p g) :=
  Foot.ok_upd (ps := [.pairs]) (by simpa using h) fun _ => rfl
@[simp] theorem Foot.ok_updCmp (h : φ.part .cmps) (c : Nat) (g : Cmp → Cmp) : φ.ok (updCmp c g) :=
  Foot.ok_upd (ps := [.cmps]) (by simpa using h) fun _ => rfl
@[simp] theorem Foot.ok_updPwm (h : φ.part .pwm) (g : Pwm → Pwm) : φ.ok (updPwm g) :=
  Foot.ok_upd (ps := [.pwm]) (by simpa using h) fun _ => rfl
@[simp] theorem Foot.ok_updMpt (h : φ.part .mpt) (g : Mpt → Mpt) : φ.ok (updMpt g) :=
  Foot.ok_upd (ps := [.mpt]) (by simpa using h) fun _ => rfl
@[simp] theorem Foot.ok_updFad (h : φ.part .fad) (g : Fad → Fad) : φ.ok (updFad g) :=
  Foot.ok_upd (ps := [.fad]) (by simpa using h) fun _ => rfl
@[simp] theorem Foot.ok_updConv (h : φ.part .fad) (k : Nat) (g : Conv → Conv) : φ.ok (updConv k g) := Foot.ok_updFad h _
@[simp] theorem Foot.ok_updLane (h : φ.part .lanes) (n : Nat) (g : Lane → Lane) : φ.ok (updLane n g) :=
  Foot.ok_upd (ps := [.lanes]) (by simpa using h) fun _ => rfl
@[simp] theorem Foot.ok_updRdg (h : φ.part .rdg) (g : Rdg → Rdg) : φ.ok (updRdg g) :=
  Foot.ok_upd (ps := [.rdg]) (by simpa using h) fun _ => rfl
@[simp] theorem Foot.ok_updBut (h : φ.part .but) (g : But → But) : φ.ok (updBut g) :=
  Foot.ok_upd (ps := [.but]) (by simpa using h) fun _ => rfl
@[simp] theorem Foot.ok_updFpm (h : φ.part .fpm) (g : Fpm → Fpm) : φ.ok (updFpm g) :=
  Foot.ok_upd (ps := [.fpm]) (by simpa using h) fun _ => rfl
@[simp] theorem Foot.ok_updFpmCh (h : φ.part .fpm) (c : Nat) (g : FpmCh → FpmCh) : φ.ok (updFpmCh c g) := Foot.ok_updFpm h _
@[simp] theorem Foot.ok_updPhs (h : φ.part .phs) (g : Phs → Phs) : φ.ok (updPhs g) :=
  Foot.ok_upd (ps := [.phs]) (by simpa using h) fun _ => rfl
@[simp] theorem Foot.ok_updPar (h : φ.part .par) (g : Par → Par) : φ.ok (updPar g) :=
  Foot.ok_upd (ps := [.par]) (by simpa using h) fun _ => rfl
@[simp] theorem Foot.ok_updBed (h : φ.part .bed) (g : Bed → Bed) : φ.ok (updBed g) :=
  Foot.ok_upd (ps := [.bed]) (by simpa using h) fun _ => rfl
@[simp] theorem Foot.ok_updLdg (h : φ.part .ldg) (g : Ldg → Ldg) : φ.ok (updLdg g) :=
  Foot.ok_upd (ps := [.ldg]) (by simpa using h) fun _ => rfl
@[simp] theorem Foot.ok_updPmp (h : φ.part .pmp) (g : Pmp → Pmp) : φ.ok (updPmp g) :=
  Foot.ok_upd (ps := [.pmp]) (by simpa using h) fun _ => rfl
@[simp] theorem Foot.ok_updKe0 (h : φ.part .ke0) (g : Ke0 → Ke0) : φ.ok (updKe0 g) :=
  Foot.ok_upd (ps := [.ke0]) (by simpa using h) fun _ => rfl
@[simp] theorem Foot.ok_updKe1 (h : φ.part .ke1) (g : Ke1 → Ke1) : φ.ok (updKe1 g) :=
  Foot.ok_upd (ps := [.ke1]) (by simpa using h) fun _ => rfl
@[simp] theorem Foot.ok_setCore (h0 : φ.part .ke0) (h1 : φ.part .ke1) (eng : Nat) (c : Core) : φ.ok (setCore eng c) := by
  unfold setCore
  split
  · exact Foot.ok_updKe0 h0 _
  · exact Foot.ok_updKe1 h1 _
/-- A change of metrology that leaves the accumulators, or one of the accumulators too. -/
@[simp] theorem Foot.ok_updMet {g : Met → Met} (h : φ.part .met) (ha : φ.part .acc ∨ ∀ m, (g m).keep.acc = m.keep.acc) :
    φ.ok (updMet g) := by
  rcases ha with ha | ha <;> simp [updMet, h, ha, Part.forall_iff, Part.same]
@[simp] theorem Foot.ok_updKeep {g : MetKeep → MetKeep} (h : φ.part .met) (ha : φ.part .acc ∨ ∀ k, (g k).acc = k.acc) :
    φ.ok (updKeep g) :=
  Foot.ok_updMet h (ha.imp id fun ha m => ha m.keep)
@[simp] theorem Foot.ok_spend (h : φ.part .freeCtr) (n : Nat) : φ.ok (spend n) :=
  Foot.ok_upd (ps := [.freeCtr]) (by simpa using h) fun _ => rfl

/-! ### Commits and update points (R452) -/

/-- A commit is within a footprint when its effects are. -/
@[simp] theorem effs_noted (h : φ.part .commitWas) {of : CommitOf} {p : Prog} {s : State} :
    Effs φ.ok (noted of p s) ↔ Effs φ.ok (p s) := by
  have note : φ.ok (.upd fun b => { b with commitWas := b.commitWas ++ [commitWas of (0, []) (p s) s] }) :=
    Foot.ok_upd (ps := [.commitWas]) (by simpa using h) fun _ => rfl
  rw [noted, effs_append, effs_cons]
  exact ⟨fun g => g.1, fun g => ⟨g, note, effs_nil⟩⟩

/-- The records of a queue belong to a footprint (R440 to R444, R477). -/
structure Foot.Records (φ : Foot) (q : Nat) : Prop where
  has : φ.Has (signFlds ++ queueFlds q) [.sec, .ldg, .queSeq, .queNow, .setNow]
  queue : φ.queue q
  store : φ.store

@[simp] theorem Foot.ok_queSign {q : Nat} (h : φ.Records q) (ty : Nat) (ws : List Nat) : φ.ok (.queSign q ty ws) :=
  ⟨h.has, h.queue, h.store⟩
theorem Foot.Records.plain {q : Nat} (h : φ.Records q) : φ.Has (queueFlds q) [.queSeq, .queNow, .setNow] :=
  h.has.mono (by simp +contextual) (by decide)

/-- A record that is not to be signed needs what the queue shows alone. -/
structure Foot.Plain (φ : Foot) (q : Nat) : Prop where
  has : φ.Has (queueFlds q) [.queSeq, .queNow, .setNow]
  queue : φ.queue q
  store : φ.store

theorem Foot.Records.toPlain {q : Nat} (h : φ.Records q) : φ.Plain q := ⟨h.plain, h.queue, h.store⟩
@[simp] theorem Foot.ok_que {q : Nat} (h : φ.Plain q) (ty : Nat) (ws : List Nat) : φ.ok (.que q ty ws) :=
  ⟨h.has, h.queue, h.store⟩
@[simp] theorem Foot.ok_queDone {q : Nat} (h : φ.Plain q) (ty : Nat) (ws : List Nat) : φ.ok (.queDone q ty ws) :=
  ⟨h.has, h.queue, h.store⟩

/-- The pending values of a range, the values in force of a range, belong to a footprint. -/
def Foot.Takes (φ : Foot) (lo hi : Nat) : Prop := φ.ok (.take (keyAt lo) (keyAt hi))
def Foot.Adopts (φ : Foot) (lo hi : Nat) : Prop := φ.ok (.adopt (keyAt lo) (keyAt hi))

@[simp] theorem takeGroup_ok {lo hi : Nat} (hq : φ.Takes lo hi) (hp : φ.Parts [.waiting, .commitNow]) (g : Group) :
    Effs φ.ok (takeGroup g lo hi) := by
  have take : φ.ok (.take (keyAt lo) (keyAt hi)) := hq
  simp at hp
  simp [takeGroup, take, hp, Part.forall_iff, Part.same]

@[simp] theorem adoptGroup_ok {lo hi : Nat} (hq : φ.Adopts lo hi) (hp : φ.part .waiting) (g : Group) :
    Effs φ.ok (adoptGroup g lo hi) := by
  have adopt : φ.ok (.adopt (keyAt lo) (keyAt hi)) := hq
  simp [adoptGroup, adopt, hp, Part.forall_iff, Part.same]

/-! ### Single bits -/

@[simp] theorem Foot.ok_setBit {s : State} {f : Fld} {n : Nat} : φ.ok (setBit s f n) ↔ φ.key f.key := Iff.rfl
@[simp] theorem Foot.ok_clrBit {s : State} {f : Fld} {n : Nat} : φ.ok (clrBit s f n) ↔ φ.key f.key := Iff.rfl
@[simp] theorem Foot.ok_putBit {s : State} {f : Fld} {n : Nat} {v : Bool} : φ.ok (putBit s f n v) ↔ φ.key f.key := by
  cases v <;> rfl
@[simp] theorem raise_ok {s : State} {f : Fld} {m : Nat} (hf : φ.key f.key) (hp : φ.part .setNow) : Effs φ.ok (raise s f m) := by
  simp [raise, hf, hp, Part.forall_iff, Part.same]
@[simp] theorem raiseBit_ok {s : State} {f : Fld} {i : Nat} (hf : φ.key f.key) (hp : φ.part .setNow) : Effs φ.ok (raiseBit s f i) :=
  raise_ok hf hp

/-! ### Cairn triggers and the guarantees (R466 to R470, R27, R521) -/

section
variable (hf : φ.Fields causeFlds) (hp : φ.Parts [.setNow, .ldg, .crn]) (s : State)
include hf hp

@[simp] theorem crnMiss_ok (src : Nat) (sch : Bool) : Effs φ.ok (crnMiss src sch s) := by
  simp [crnOwn] at hf hp
  simp [crnMiss, hf, hp]

@[simp] theorem crnTrigger_ok (src ev : Nat) (sch : Bool) : Effs φ.ok (crnTrigger src ev sch s) := by
  simp at hf hp
  simp [crnTrigger, effs_ite, hf, hp, Part.forall_iff, Part.same]

@[simp] theorem crnEvent_ok (n : Nat) : Effs φ.ok (crnEvent n s) := by
  simp at hf hp
  simp [crnEvent, effs_ite, hf, hp]

end

section
variable (hf : φ.Fields guarFlds) (hp : φ.Parts [.setNow, .ldg, .crn, .sys, .phs]) (s : State)
include hf hp

@[simp] theorem guarCauseUpdate_ok : Effs φ.ok (guarCauseUpdate s) := by
  simp [guarOwn] at hf hp
  simp [guarCauseUpdate, hf, hp, Part.forall_iff, Part.same]

@[simp] theorem guarOkUpdate_ok (n : Nat) : Effs φ.ok (guarOkUpdate n s) := by
  simp [guarOwn] at hf hp
  simp [guarOkUpdate, effs_ite, hf, hp, Part.forall_iff, Part.same]

@[simp] theorem guarUpdate_ok : Effs φ.ok (guarUpdate s) :=
  effs_andThen (guarCauseUpdate_ok hf hp) fun t => guarOkUpdate_ok hf hp t _

end

/-! ### The ring's frames (R63 to R75) -/

@[simp] theorem sendOn_ok (hp : φ.part .lanes) (n : Nat) (i : TxItem) (s : State) : Effs φ.ok (sendOn n i s) := by
  simp [sendOn, hp]

@[simp] theorem dropUnreach_ok (hf : φ.Fields unreachOwn) (hp : φ.part .setNow) : Effs φ.ok dropUnreach := by
  simp [unreachOwn] at hf
  simp [dropUnreach, hf, hp]

@[simp] theorem dropHop_ok (hf : φ.Fields hopOwn) (hp : φ.part .setNow) : Effs φ.ok dropHop := by
  simp [hopOwn] at hf
  simp [dropHop, hf, hp]

@[simp] theorem raccDone_ok (hf : φ.Fields raccOwn) (hp : φ.Parts [.setNow, .rdg]) (err : Nat) : Effs φ.ok (raccDone err) := by
  simp [raccOwn] at hf hp
  simp [raccDone, hf, hp]

@[simp] theorem bulkDone_ok (hf : φ.Fields bulkOwn) (hp : φ.Parts [.setNow, .rdg]) (err : Nat) : Effs φ.ok (bulkDone err) := by
  simp [bulkOwn] at hf hp
  simp [bulkDone, hf, hp]

@[simp] theorem requestLost_ok (hf : φ.Fields reqOwn) (hp : φ.Parts [.setNow, .rdg]) (f : Frame) (s : State) :
    Effs φ.ok (requestLost f s) := by
  simp at hf hp
  simp [requestLost, hf, hp]

@[simp] theorem sendBranch_ok (hp : φ.part .lanes) (n : Nat) (f : Frame) (s : State) : Effs φ.ok (sendBranch n f s) := by
  simp [sendBranch, effs_ite, hp]

section
variable (hf : φ.Fields (reqOwn ++ dropOwn)) (hp : φ.Parts [.setNow, .lanes, .rdg]) (s : State)
include hf hp

@[simp] theorem sendRing_ok (east : Bool) (f : Frame) : Effs φ.ok (sendRing east f s) := by
  simp at hf hp
  simp [sendRing, effs_ite, hf, hp]

@[simp] theorem alongRing_ok (lane : Option Nat) (f : Frame) : Effs φ.ok (alongRing lane f s) := by
  simp at hf hp
  simp [alongRing, effs_ite, hf, hp]

@[simp] theorem route_ok (lane : Option Nat) (f : Frame) : Effs φ.ok (route lane f s) := by
  simp at hf hp
  unfold route
  split
  · cases upLane? s <;> simp [hf, hp]
  · split
    · simp [hp]
    · cases upLane? s <;> simp [effs_ite, hf, hp]

@[simp] theorem originate_ok (cls dest type : Nat) (data : List Nat) : Effs φ.ok (originate cls dest type data s) := by
  simp at hf hp
  simp [originate, effs_ite, hf, hp]

@[simp] theorem sendIntertrip_ok (groups : Nat) : Effs φ.ok (sendIntertrip groups s) := by
  simp at hf hp
  simp [sendIntertrip, effs_ite, hf, hp]

end

/-! ### Pins (R18, R252) -/

section
variable (hf : φ.Fields pinFlds) (hp : φ.Parts [.setNow, .ldg, .pairs, .pwm, .cmps]) (s : State)
include hf hp

@[simp] theorem groupsShow_ok : Effs φ.ok (groupsShow s) := by
  simp [pinOwn] at hf hp
  simp [groupsShow, hf, hp]

@[simp] theorem auxTests_ok (k len : Nat) : Effs φ.ok (auxTests k len s) := by
  simp [pinOwn] at hf hp
  unfold auxTests
  refine effs_flatMap.2 fun c hc => ?_
  have four : c / 16 < 4 := Nat.div_lt_of_lt_mul (by simpa using (List.mem_filter.1 hc).1)
  simp [effs_ite, four, hf, hp]

@[simp] theorem auxEdge_ok (p edge : Nat) : Effs φ.ok (auxEdge p edge s) := by
  have show' := groupsShow_ok hf hp
  have tests := auxTests_ok hf hp
  simp [pinOwn] at hf hp
  unfold auxEdge
  refine effs_ite.2 ⟨fun _ => effs_nil, fun _ => effs_inOrder fun q hq => ?_⟩
  rcases List.mem_append.1 hq with hq | hq
  · obtain ⟨c, hc, rfl⟩ := List.mem_map.1 hq
    have eight : c < 8 := by simpa using (List.mem_filter.1 hc).1
    simp [effs_ite, tests, eight, hf, hp]
  · rw [List.mem_singleton.1 hq]
    exact show'

variable {p : Nat} (h49 : p < 49)
include h49

@[simp] theorem pinEdge_ok (rank : Nat) (isH rising : Bool) : Effs φ.ok (pinEdge p rank isH rising s) := by
  have edge := auxEdge_ok hf hp
  simp [pinOwn] at hf hp
  cases isH <;> simp [pinEdge, h49, edge, hf, hp]

@[simp] theorem shootBlock_ok : Effs φ.ok (shootBlock p s) := by
  simp [pinOwn] at hf hp
  by_cases last : p = 48
  · simp [shootBlock, last, hf, hp]
  · have three : p / 16 < 3 := by omega
    simp [shootBlock, last, three, hf, hp]

@[simp] theorem applyPins_ok : Effs φ.ok (applyPins p s) := by
  have edge := pinEdge_ok hf hp (h49 := h49)
  have block := shootBlock_ok hf hp (h49 := h49)
  simp [pinOwn] at hf hp
  have three (h : p < 48) : p / 16 < 3 := by omega
  refine effs_inOrder ?_
  simp +contextual [edge, block, three, hf, hp]

end

/-! ### Urgent requests (R283 to R286) -/

section
variable (hf : φ.Fields (ledgerFlds ++ urgOwn)) (hp : φ.Parts [.setNow, .ldg, .fad]) (s : State)
include hf

@[simp] theorem urgShow_ok : Effs φ.ok (urgShow s) := by
  simp [urgOwn] at hf
  simp [urgShow, hf]

include hp

@[simp] theorem urgDrop_ok (u fc : Nat) : Effs φ.ok (urgDrop u fc s) := by
  simp [urgOwn] at hf hp
  simp [urgDrop, hf, hp]

@[simp] theorem urgentRaise_ok (u : Nat) : Effs φ.ok (urgentRaise u s) := by
  simp at hf hp
  unfold urgentRaise
  dsimp only
  split
  · simp
  · split
    · simp [hf, hp]
    · split <;> simp [effs_ite, hf, hp]

end

/-! ### Trips (R248 to R257) -/

@[simp] theorem trpStatus_ok (hf : φ.Fields trpOwn) (s : State) : Effs φ.ok (trpStatus s) := by
  simp [trpOwn] at hf
  simp [trpStatus, hf]

@[simp] theorem latchPair_ok (hf : φ.Fields trpOwn) (hp : φ.part .pairs) (hard : Bool) (p : Nat) (s : State) :
    Effs φ.ok (latchPair hard p s) := by
  simp [trpOwn] at hf
  simp [latchPair, effs_ite, hf, hp]

@[simp] theorem mptAbort_ok (hf : φ.Fields (ledgerFlds ++ scanOwn)) (hp : φ.Parts [.setNow, .ldg, .mpt]) (cause : Nat) (s : State) :
    Effs φ.ok (mptAbort cause s) := by
  simp [scanOwn] at hf hp
  simp [mptAbort, effs_ite, hf, hp]

section
variable (hf : φ.Fields tripFlds) (hp : φ.Parts [.setNow, .ldg, .crn, .lanes, .rdg, .pairs, .pwm, .cmps, .mpt, .fad]) (s : State)
include hf hp

@[simp] theorem latchBy_ok {n : Nat} (hn : n < 128) : Effs φ.ok (latchBy n s) := by
  simp at hf hp
  have pair (hard : Bool) (p : Nat) (t : State) : Effs φ.ok (latchPair hard p t) := latchPair_ok hf.2.2.2.1 hp.2.2.2.2.2.1 hard p t
  have pins (p : Nat) (h : p < 49) (t : State) : Effs φ.ok (applyPins p t) := applyPins_ok (by simp [hf]) (by simp [hp]) t h
  have cairn (t : State) : Effs φ.ok (crnEvent 0 t) := crnEvent_ok (by simp [hf]) (by simp [hp]) t 0
  have scan (t : State) : Effs φ.ok (mptAbort 1 t) := mptAbort_ok (by simp [hf]) (by simp [hp]) 1 t
  have status := trpStatus_ok hf.2.2.2.1
  have four : n / 32 < 4 := Nat.div_lt_of_lt_mul hn
  simp [trpOwn] at hf
  unfold latchBy
  refine effs_ite.2 ⟨fun _ => effs_nil, fun _ => effs_inOrder ?_⟩
  simp +contextual [pair, pins, cairn, scan, status, four, hf, hp]

@[simp] theorem tripEval_ok : Effs φ.ok (tripEval s) := by
  have latch := latchBy_ok hf hp
  simp at hf hp
  have own := hf.2.2.2.1
  have groups (t : State) : Effs φ.ok (groupsShow t) := groupsShow_ok (by simp [hf]) (by simp [hp]) t
  have frames (n : Nat) (t : State) : Effs φ.ok (sendIntertrip n t) := sendIntertrip_ok (by simp [hf]) (by simp [hp]) t n
  simp [trpOwn] at own
  refine effs_inOrder ?_
  simp +contextual [latch, groups, frames, own, hf, hp]

@[simp] theorem setSource_ok (n : Nat) (on : Bool) : Effs φ.ok (setSource n on s) := by
  have eval := tripEval_ok hf hp
  simp at hf hp
  have own := hf.2.2.2.1
  have urgent (u : Nat) (t : State) : Effs φ.ok (urgentRaise u t) := urgentRaise_ok (by simp [hf]) (by simp [hp]) t u
  simp [trpOwn] at own
  unfold setSource
  refine effs_ite.2 ⟨fun _ => effs_nil, fun known => effs_inOrder ?_⟩
  have four : n / 32 < 4 := Nat.div_lt_of_lt_mul (by simp at known; omega)
  cases on <;> simp +contextual [eval, urgent, four, own]

@[simp] theorem pulseSource_ok (n : Nat) : Effs φ.ok (pulseSource n s) := by
  have source := setSource_ok hf hp
  simp at hp
  simp [pulseSource, hp, source]

@[simp] theorem pulsesEnd_ok : Effs φ.ok (pulsesEnd s) := by
  have source := setSource_ok hf hp
  simp at hp
  simp [pulsesEnd, hp, source]

@[simp] theorem shootTrip_ok : Effs φ.ok (shootTrip s) := by
  have source := pulseSource_ok hf hp
  simp at hp
  simp [shootTrip, hp, source]

@[simp] theorem drivePairs_ok {ps : List Nat} (h49 : ∀ p ∈ ps, p < 49) : Effs φ.ok (drivePairs ps s) := by
  have trip := shootTrip_ok hf hp
  simp at hf hp
  have pins (p : Nat) (h : p < 49) (t : State) : Effs φ.ok (applyPins p t) := applyPins_ok (by simp [hf]) (by simp [hp]) t h
  refine effs_inOrder ?_
  simp +contextual [pins, h49, trip]

@[simp] theorem drivePair_ok {p : Nat} (h49 : p < 49) : Effs φ.ok (drivePair p s) := by
  have trip := shootTrip_ok hf hp
  simp at hf hp
  simp [drivePair, hf, hp, trip, h49]

@[simp] theorem applyAllPins_ok : Effs φ.ok (applyAllPins s) := drivePairs_ok hf hp s (by simp)

@[simp] theorem setDrvEn_ok (hs : φ.part .sys) (on : Bool) : Effs φ.ok (setDrvEn on s) := by
  have pins := applyAllPins_ok hf hp
  simp [setDrvEn, effs_ite, pins, hs, Part.forall_iff, Part.same]

end

end

end Sys2Proof.Machine
end

section
/-! The footprints of the meanings of the references, the lanes, the timebase and the ring. -/

namespace Sys2Proof.Machine

def validOwn : List Fld :=
  [F.TIM_STATUS_VALID, F.RDG_SCHED_STAT_ARMED] ++ flags [F.TIM_STICKY_VALID_LOST, F.RDG_STICKY_SCHED_CANCEL]
def crcOwn : List Fld := [F.RDG_CNT_CRC_N] ++ flags [F.RDG_STICKY_CRC_ERR]
def upOwn : List Fld :=
  [F.RDG_STATUS_UP_VALID, F.RDG_STATUS_GM_HOPS, F.RDG_STATUS_UP_LANE, F.RDG_STATUS_JOINED]
  ++ flags [F.RDG_STICKY_HOP_EXCEED, F.RDG_STICKY_UPSTREAM_CHANGE]
def laneOwn (n : Nat) : List Fld :=
  [F.LNK_STATUS_STAGE n, F.LNK_STATUS_READY n, F.LNK_STATUS_SIG_DET n, F.LNK_STATUS_BIT_LOCK n, F.LNK_STATUS_BLOCK_LOCK n,
   F.LNK_STATUS_POL_INV n, F.LNK_STATUS_REVERSED n, F.LNK_STATUS_LOOP_REMOTE n]
def roleOwn (n : Nat) : List Fld := [F.LNK_STATUS_ROLE n, F.LNK_STATUS_BONDED n] ++ flags [F.LNK_STICKY_ROLE_CONFLICT n]
def calOwn (n : Nat) : List Fld := [F.RDG_LANE_CAL_RXCORR n, F.RDG_LANE_CAL_DONE n]
def butOwn : List Fld := [F.BUT_STATUS_READY, F.BUT_STATUS_STATE, F.BUT_STATUS_CODE, F.BUT_STATUS_DRV_EN]
def holdOwn : List Fld :=
  [F.CLK_STATUS_LOCK_RAW, F.CLK_STATUS_HOLDOVER, F.TIM_STATUS_HOLDOVER, F.CLK_STATUS_SEARCHING, F.CLK_HO_TIME_US]
  ++ flags [F.CLK_STICKY_HOLDOVER_UNTRAINED]
def codeOwn : List Fld := [F.CLK_SEARCH_CODE_A, F.CLK_SEARCH_CODE_B, F.CLK_SEARCH_VALID_A, F.CLK_SEARCH_VALID_B]

section
variable {φ : Foot}

@[simp] theorem schedCancel_ok (hf : φ.Fields (ledgerFlds ++ [F.RDG_SCHED_STAT_ARMED] ++ flags [F.RDG_STICKY_SCHED_CANCEL]))
    (hp : φ.Parts [.setNow, .ldg]) (s : State) : Effs φ.ok (schedCancel s) := by
  simp at hf hp
  simp [schedCancel, effs_ite, hf, hp]

@[simp] theorem anchorDue_ok (hp : φ.Parts [.bed]) : Effs φ.ok anchorDue := by
  simp at hp
  simp [anchorDue, hp, Part.forall_iff, Part.same]

@[simp] theorem ppsOutFall_ok (hp : φ.Parts [.tim]) : φ.ok (ppsOutFall) := by
  simp at hp
  simp [ppsOutFall, hp, Part.forall_iff, Part.same]

@[simp] theorem validClear_ok (cause : Nat) (hf : φ.Fields (ledgerFlds ++ validOwn))
    (hp : φ.Parts [.setNow, .ldg, .bed, .tim]) (s : State) : Effs φ.ok (validClear cause s) := by
  simp [validOwn] at hf hp
  simp [validClear, effs_ite, hf, hp]

@[simp] theorem validSet_ok (sec : Nat) (hf : φ.Fields (ledgerFlds ++ [F.TIM_STATUS_VALID]))
    (hp : φ.Parts [.ldg, .setNow, .bed]) (s : State) : Effs φ.ok (validSet sec s) := by
  simp at hf hp
  simp [validSet, effs_ite, hf, hp]

@[simp] theorem toStage_ok (n k : Nat) (hf : φ.Fields [F.LNK_STATUS_STAGE n]) (hp : φ.Parts [.lanes]) : Effs φ.ok
    (toStage n k) := by
  simp at hf hp
  simp [toStage, hf, hp, Part.forall_iff, Part.same]

@[simp] theorem enterStage2_ok (n : Nat) (hf : φ.Fields (laneOwn n)) (hp : φ.Parts [.lanes]) : Effs φ.ok (enterStage2 n) := by
  simp [laneOwn] at hf hp
  simp [enterStage2, hf, hp]

@[simp] theorem mirrorDown_ok (hf : φ.Fields (flags [F.BUT_STICKY_PARTNER_LOST])) (hp : φ.Parts [.setNow])
    (s : State) : Effs φ.ok (mirrorDown s) := by
  simp at hf hp
  simp [mirrorDown, hf, hp]

@[simp] theorem laneRestart_ok (n : Nat) (hf : φ.Fields (laneOwn n ++ flags [F.BUT_STICKY_PARTNER_LOST]))
    (hp : φ.Parts [.setNow, .lanes]) (s : State) : Effs φ.ok (laneRestart n s) := by
  have own := hf
  simp [laneOwn] at own
  simp at hf hp
  simp [laneRestart, effs_ite, own, hf, hp]

@[simp] theorem laneRole_ok (n : Nat) (hf : φ.Fields
    (ledgerFlds ++ laneOwn n ++ roleOwn n ++ flags [F.RDG_STICKY_ADDR_CONFLICT, F.BUT_STICKY_PARTNER_LOST]))
    (hp : φ.Parts [.lanes, .setNow, .ldg]) (s : State) : Effs φ.ok (laneRole n s) := by
  have own := hf
  simp [laneOwn, roleOwn] at own
  simp at hf hp
  simp [laneRole, own, hf, hp]

@[simp] theorem rolesUpdate_ok (hf : φ.Fields (ledgerFlds ++ (List.range 8).flatMap laneOwn ++
    (List.range 8).flatMap roleOwn ++ flags [F.RDG_STICKY_ADDR_CONFLICT, F.BUT_STICKY_PARTNER_LOST]))
    (hp : φ.Parts [.lanes, .setNow, .ldg]) (s : State) : Effs φ.ok (rolesUpdate s) := by
  have own := hf
  simp [laneOwn, roleOwn] at own
  simp at hf hp
  unfold rolesUpdate
  refine effs_inOrder ?_
  simp +contextual [own, hf, hp]

@[simp] theorem sendEarly_ok (n : Nat) (i : TxItem) (hp : φ.Parts [.lanes]) (s : State) : Effs φ.ok (sendEarly n i s) := by
  simp at hp
  simp [sendEarly, hp]

@[simp] theorem keepaliveSend_ok (hp : φ.Parts [.lanes]) (s : State) : Effs φ.ok (keepaliveSend s) := by
  simp at hp
  simp [keepaliveSend, hp]

@[simp] theorem ownReturn_ok (f : Frame) (hf : φ.Fields (reqOwn ++ [F.RDG_CNT_UNREACH_N])) (hp : φ.Parts [.rdg, .setNow])
    (s : State) : Effs φ.ok (ownReturn f s) := by
  have own := hf
  simp [reqOwn, raccOwn, bulkOwn] at own
  simp at hf hp
  simp [ownReturn, effs_ite, own, hf, hp]

@[simp] theorem crcFailed_ok (f : Frame) (hf : φ.Fields crcOwn) (hp : φ.Parts [.setNow]) : Effs φ.ok (crcFailed f) := by
  simp [crcOwn] at hf hp
  simp [crcFailed, hf, hp]

@[simp] theorem strays_ok (f : Frame) (hf : φ.Fields [F.RDG_CNT_CRC_N]) : Effs φ.ok (strays f) := by
  simp at hf
  simp [strays, hf]

@[simp] theorem takeBack_ok (f : Frame) (hf : φ.Fields (reqOwn ++ crcOwn ++ [F.RDG_CNT_UNREACH_N]))
    (hp : φ.Parts [.rdg, .setNow]) (s : State) : Effs φ.ok (takeBack f s) := by
  have own := hf
  simp [reqOwn, crcOwn, raccOwn, bulkOwn] at own
  simp at hf hp
  simp [takeBack, effs_ite, own, hf, hp]

@[simp] theorem frameForward_ok (lane : Nat) (f : Frame) (hf : φ.Fields (reqOwn ++ dropOwn ++ crcOwn))
    (hp : φ.Parts [.setNow, .rdg, .lanes]) (s : State) : Effs φ.ok (frameForward lane f s) := by
  have own := hf
  simp [reqOwn, dropOwn, crcOwn, raccOwn, bulkOwn, hopOwn, unreachOwn] at own
  simp at hf hp
  simp [frameForward, effs_ite, own, hf, hp]

@[simp] theorem atInstant_ok (hp : φ.part .pwm) {p : Prog} (h : p.All φ.ok) (t : Nat) (s : State) : Effs φ.ok (atInstant t p s) := by
  simp at h
  simp [atInstant, hp, h]

@[simp] theorem butShow_ok (hf : φ.Fields butOwn) (hp : φ.Parts [.but]) (s : State) : Effs φ.ok (butShow s) := by
  simp [butOwn] at hf hp
  simp [butShow, hf, hp]

@[simp] theorem nextStage_ok (n k : Nat) (hf : φ.Fields [F.LNK_STATUS_STAGE n]) (hp : φ.Parts [.lanes])
    (s : State) : Effs φ.ok (nextStage n k s) := by
  simp at hf hp
  simp [nextStage, hf, hp]

@[simp] theorem lnkCtrlSet_ok (n v : Nat) (hf : φ.Fields [F.LNK_CTRL_RETRY_LIM n, F.LNK_CTRL_RX_INV n, F.LNK_CTRL_TX_INV n,
      F.LNK_CTRL_POL_AUTO n, F.LNK_CTRL_AUTO_ALIGN n, F.LNK_CTRL_MODE n, F.LNK_CTRL_RATE n, F.LNK_CTRL_ENABLE n,
      F.LNK_CTRL_BOND n]) : Effs φ.ok (lnkCtrlSet n v) := by
  simp at hf
  simp [lnkCtrlSet, hf]

/-- The upper lane of a bonded pair is L3 or L7 (R102). -/
@[simp] theorem withUpper_ok {p : Nat → Prog} {n : Nat} (h : (p n).All φ.ok) (hu : n = 2 ∨ n = 6 → (p (n + 1)).All φ.ok) (s : State) :
    Effs φ.ok (withUpper n p s) :=
  effs_ite.2 ⟨fun bonded => effs_andThen h (hu bonded.1), fun _ => h s⟩

/-- BOND changes on L2 and L6 alone, so that the lane above is one of the eight. -/
theorem bond_lnkCtrlSet {n : Nat} (h : ¬ (n = 2 ∨ n = 6)) (v : Nat) (s : State) :
    (applyAll s (lnkCtrlSet n v)).on (F.LNK_CTRL_BOND n) = s.on (F.LNK_CTRL_BOND n) := by
  refine congrArg (· != 0) (get_of_butKey ?_ s)
  simp [lnkCtrlSet, h, Foot.butKey]

@[simp] theorem lnkCtrlWrite_ok {n : Nat} (hn : n < 8) (hf : φ.Fields (guarFlds ++ (List.range 8).flatMap laneOwn ++
      (List.range 8).flatMap roleOwn ++ [F.LNK_CTRL_RETRY_LIM n, F.LNK_CTRL_RX_INV n, F.LNK_CTRL_TX_INV n, F.LNK_CTRL_POL_AUTO n,
      F.LNK_CTRL_AUTO_ALIGN n, F.LNK_CTRL_MODE n, F.LNK_CTRL_RATE n, F.LNK_CTRL_ENABLE n, F.LNK_CTRL_BOND n] ++
      flags [F.LNK_STICKY_TEST_REJECT n, F.BUT_STICKY_PARTNER_LOST, F.RDG_STICKY_ADDR_CONFLICT]))
    (hp : φ.Parts [.setNow, .lanes, .ldg, .phs, .sys, .crn]) (v : Nat) (s : State) : Effs φ.ok (lnkCtrlWrite n v s) := by
  simp at hf hp
  have restart (k : Nat) (hk : k < 8) (t : State) : Effs φ.ok (laneRestart k t) := laneRestart_ok k (by simp [hf, hk]) (by simp [hp]) t
  have roles := rolesUpdate_ok (φ := φ) (by simpa [hf] using ⟨hf.2.1, hf.2.2.1⟩) (by simp [hp])
  have guar := guarUpdate_ok (φ := φ) (by simp [hf]) (by simp [hp])
  have set : Effs φ.ok (lnkCtrlSet n v) := by simp [lnkCtrlSet, hf]
  have upper (t : State) : Effs φ.ok (withUpper n laneRestart t) :=
    withUpper_ok (restart n hn) (fun h => restart (n + 1) (by omega)) t
  unfold lnkCtrlWrite
  refine effs_ite.2 ⟨fun _ => effs_nil, fun _ => effs_ite.2 ⟨fun _ => by simp [hf, hp], fun _ => effs_inOrder_cons.2 ⟨set, ?_⟩⟩⟩
  refine effs_inOrder_cons.2 ⟨effs_ite.2 ⟨fun bond => ?_, fun _ => effs_ite.2 ⟨fun _ => upper _, fun _ => effs_nil⟩⟩, ?_⟩
  · have low : n = 2 ∨ n = 6 := by
      by_contra h
      have same := bond_lnkCtrlSet h v s
      simp [after, same] at bond
    exact effs_andThen (fun t => effs_onlyIf.2 fun _ => restart n hn t) (restart (n + 1) (by omega))
  · refine effs_inOrder ?_
    simp [roles, guar]

@[simp] theorem signalDetect_ok (n : Nat) (hf : φ.Fields [F.LNK_STATUS_SIG_DET n, F.LNK_STATUS_STAGE n])
    (hp : φ.Parts [.lanes]) (s : State) : Effs φ.ok (signalDetect n s) := by
  simp at hf hp
  simp [signalDetect, effs_ite, hf, hp]

@[simp] theorem bitLock_ok (n phase freq : Nat) (hf : φ.Fields [F.LNK_STATUS_BIT_LOCK n, F.LNK_CDR_PHASE n, F.LNK_CDR_FREQ n,
      F.LNK_STATUS_STAGE n]) (hp : φ.Parts [.lanes]) (s : State) : Effs φ.ok (bitLock n phase freq s) := by
  simp at hf hp
  simp [bitLock, effs_ite, hf, hp]

@[simp] theorem blockLock_ok (n : Nat) (hf : φ.Fields [F.LNK_STATUS_BLOCK_LOCK n, F.LNK_STATUS_STAGE n])
    (hp : φ.Parts [.lanes]) (s : State) : Effs φ.ok (blockLock n s) := by
  simp at hf hp
  simp [blockLock, effs_ite, hf, hp]

@[simp] theorem polarity_ok (n : Nat) (inverted : Bool) (hf : φ.Fields
    (ledgerFlds ++ [F.LNK_STATUS_STAGE n, F.LNK_STATUS_POL_INV n] ++ flags [F.LNK_STICKY_POL_CORRECTED n]))
    (hp : φ.Parts [.lanes, .setNow, .ldg]) (s : State) : Effs φ.ok (polarity n inverted s) := by
  simp at hf hp
  simp [polarity, effs_ite, hf, hp]

/-- The lower lane of a bonded pair is L2 or L6 (R102). -/
theorem lower_of_bonded {s : State} {n : Nat} (h : bonded s n = true) (g : govLane s n = n) : n = 2 ∨ n = 6 := by
  unfold bonded at h
  split at h
  · exact .inl rfl
  · exact .inr rfl
  · simp [govLane, h] at g
  · simp [govLane, h] at g
  · cases h

@[simp] theorem laneReversal_ok {n : Nat} (hf : φ.Fields (ledgerFlds ++ [F.LNK_SKEW_BITS n, F.LNK_STATUS_REVERSED n,
      F.LNK_STATUS_STAGE n] ++ flags [F.LNK_STICKY_DESKEW_FAIL n, F.LNK_STICKY_REVERSAL_CORRECTED n]))
    (hu : n = 2 ∨ n = 6 → φ.key (F.LNK_STATUS_STAGE (n + 1)).key) (hp : φ.Parts [.setNow, .ldg, .lanes]) (swapped : Bool)
    (partnerLane skew : Nat) (s : State) : Effs φ.ok (laneReversal n swapped partnerLane skew s) := by
  simp at hf hp
  refine effs_ite.2 ⟨fun _ => effs_nil, fun turn => ?_⟩
  have upper : φ.key (F.LNK_STATUS_STAGE (n + 1)).key := by
    simp at turn
    exact hu (lower_of_bonded turn.1.1.1.1 turn.1.1.1.2)
  simp at upper
  simp [effs_ite, upper, hf, hp]

@[simp] theorem storeCorr_ok (n corr : Nat) (hf : φ.Fields (calOwn n)) (hp : φ.Parts [.lanes]) : Effs φ.ok
    (storeCorr n corr) := by
  simp [calOwn] at hf hp
  simp [storeCorr, hf, hp]

@[simp] theorem delayMeasurement_ok (n : Nat) (measured : Bool) (corr rt : Nat) (hf : φ.Fields (guarFlds ++ calOwn n))
    (hp : φ.Parts [.lanes, .freeCtr, .phs, .setNow, .sys, .ldg, .crn]) (s : State) : Effs φ.ok
    (delayMeasurement n measured corr rt s) := by
  have own := hf
  simp [calOwn] at own
  simp at hf hp
  simp [delayMeasurement, effs_ite, own, hf, hp]

@[simp] theorem mirrorUp_ok (hf : φ.Fields butOwn) (hp : φ.Parts [.but]) (s : State) : Effs φ.ok (mirrorUp s) := by
  simp at hf hp
  simp [mirrorUp, hf, hp]

@[simp] theorem laneReady_ok (n : Nat) (hf : φ.Fields
    (guarFlds ++ butOwn ++ [F.LNK_STATUS_STAGE n, F.LNK_STATUS_READY n, F.LNK_STATUS_RETRIES n]))
    (hp : φ.Parts [.lanes, .ldg, .setNow, .but, .phs, .sys, .crn]) (s : State) : Effs φ.ok (laneReady n s) := by
  have own := hf
  simp [butOwn] at own
  simp at hf hp
  simp [laneReady, effs_ite, own, hf, hp]

@[simp] theorem loopRequest_ok (n : Nat) (req : Bool) (hf : φ.Fields [F.LNK_STATUS_LOOP_REMOTE n]) (s : State) : Effs φ.ok
    (loopRequest n req s) := by
  simp at hf
  simp [loopRequest, hf]

@[simp] theorem turnStart_ok (n : Nat) (hp : φ.Parts [.lanes]) (s : State) : Effs φ.ok (turnStart n s) := by
  simp at hp
  simp [turnStart, hp]

@[simp] theorem turnTick_ok (hp : φ.part .lanes) {p : Prog} (h : p.All φ.ok) (n : Nat) (s : State) : Effs φ.ok (turnTick n p s) := by
  simp at h
  simp [turnTick, effs_ite, hp, h]

@[simp] theorem train_ok (n w : Nat) (hf : φ.Fields (calOwn n ++ [F.LNK_TRAIN_RX_W n, F.LNK_STATUS_LOOP_REMOTE n]))
    (hp : φ.Parts [.lanes]) (s : State) : Effs φ.ok (train n w s) := by
  have own := hf
  simp [calOwn] at own
  simp at hf hp
  simp [train, effs_ite, own, hf, hp]

@[simp] theorem backToStage2_ok (n : Nat) (hf : φ.Fields (laneOwn n ++ [F.LNK_CNT_RETRAIN_N n]))
    (hp : φ.Parts [.lanes]) : Effs φ.ok (backToStage2 n) := by
  have own := hf
  simp [laneOwn] at own
  simp at hf hp
  simp [backToStage2, own, hf, hp]

@[simp] theorem stageTmo_ok (n : Nat) (hf : φ.Fields
    (ledgerFlds ++ laneOwn n ++ [F.LNK_CNT_RETRAIN_N n, F.LNK_STATUS_RETRIES n] ++
      flags [F.LNK_STICKY_STAGE_TMO n, F.LNK_STICKY_RETRY_EXHAUSTED n])) (hp : φ.Parts [.lanes, .setNow, .ldg])
    (s : State) : Effs φ.ok (stageTmo n s) := by
  have own := hf
  simp [laneOwn] at own
  simp at hf hp
  simp [stageTmo, effs_ite, own, hf, hp]

@[simp] theorem linkDown_ok (n cause : Nat) (hf : φ.Fields
    (guarFlds ++ laneOwn n ++ [F.LNK_CNT_RETRAIN_N n, F.LNK_CNT_HDR_ERR_N n] ++
      flags [F.LNK_STICKY_LINK_DOWN n, F.BUT_STICKY_PARTNER_LOST]))
    (hp : φ.Parts [.lanes, .setNow, .ldg, .freeCtr, .phs, .sys, .crn]) (s : State) : Effs φ.ok (linkDown n cause s) := by
  have own := hf
  simp [laneOwn] at own
  simp at hf hp
  simp [linkDown, effs_ite, own, hf, hp]

@[simp] theorem cdrRange_ok (n : Nat) (hf : φ.Fields
    (guarFlds ++ laneOwn n ++ [F.LNK_CNT_RETRAIN_N n, F.LNK_CNT_HDR_ERR_N n] ++
      flags [F.LNK_STICKY_CDR_RANGE n, F.LNK_STICKY_LINK_DOWN n, F.BUT_STICKY_PARTNER_LOST]))
    (hp : φ.Parts [.setNow, .lanes, .ldg, .freeCtr, .phs, .sys, .crn]) (s : State) : Effs φ.ok (cdrRange n s) := by
  have own := hf
  simp [laneOwn] at own
  simp at hf hp
  unfold cdrRange
  (repeat' split) <;> simp +contextual [own, hf, hp]

@[simp] theorem bitslip_ok (n : Nat) (hf : φ.Fields (flags [F.LNK_STICKY_SLIP_IGNORED n])) (hp : φ.Parts [.lanes, .setNow])
    (s : State) : Effs φ.ok (bitslip n s) := by
  simp at hf hp
  simp [bitslip, effs_ite, hf, hp]

@[simp] theorem retrain_ok {n : Nat} (hn : n < 8) (hf : φ.Fields (guarFlds ++ (List.range 8).flatMap laneOwn ++
      (List.range 8).map F.LNK_STATUS_RETRIES ++ flags [F.BUT_STICKY_PARTNER_LOST]))
    (hp : φ.Parts [.setNow, .lanes, .ldg, .phs, .sys, .crn]) (s : State) : Effs φ.ok (retrain n s) := by
  simp at hf hp
  have restart (k : Nat) (hk : k < 8) (t : State) : Effs φ.ok (laneRestart k t) := laneRestart_ok k (by simp [hf, hk]) (by simp [hp]) t
  have guar := guarUpdate_ok (φ := φ) (by simp [hf]) (by simp [hp])
  refine effs_inOrder (alls_cons.2 ⟨fun t => withUpper_ok ?_ (fun h => ?_) t, alls_cons.2 ⟨fun t => ?_, by simp [guar]⟩⟩)
  · simp [hf, hp, hn]
  · have hu : n + 1 < 8 := by omega
    simp [hf, hp, hu]
  · exact withUpper_ok (restart n hn) (fun h => restart (n + 1) (by omega)) t

@[simp] theorem prbsInject_ok (n : Nat) (hp : φ.Parts [.lanes]) (s : State) : Effs φ.ok (prbsInject n s) := by
  simp at hp
  simp [prbsInject, hp]

@[simp] theorem prbsCntClr_ok (n : Nat) (hf : φ.Fields [F.LNK_PRBS_STATUS_SAT n, F.LNK_PRBS_BITS_LO_N n])
    (hp : φ.Parts [.lanes]) (s : State) : Effs φ.ok (prbsCntClr n s) := by
  simp at hf hp
  simp [prbsCntClr, hf, hp, Part.forall_iff, Part.same]

@[simp] theorem lnkLoopWrite_ok {n : Nat} (hn : n < 8) (hf : φ.Fields ((List.range 8).flatMap laneOwn ++
      [F.LNK_LOOP_MODE n, F.LNK_LOOP_TX_QUIET n] ++ flags [F.LNK_STICKY_TEST_REJECT n, F.BUT_STICKY_PARTNER_LOST]))
    (hp : φ.Parts [.setNow, .lanes]) (v : Nat) (s : State) : Effs φ.ok (lnkLoopWrite n v s) := by
  simp at hf hp
  have restart (k : Nat) (hk : k < 8) (t : State) : Effs φ.ok (laneRestart k t) := laneRestart_ok k (by simp [hf, hk]) (by simp [hp]) t
  have upper (t : State) : Effs φ.ok (withUpper n laneRestart t) :=
    withUpper_ok (restart n hn) (fun h => restart (n + 1) (by omega)) t
  simp [lnkLoopWrite, effs_ite, hf, hp, upper]

@[simp] theorem lnkPrbsWrite_ok (n v : Nat) (hf : φ.Fields
    (guarFlds ++ [F.LNK_PRBS_CTRL_GEN n, F.LNK_PRBS_CTRL_CHK n, F.LNK_PRBS_STATUS_LOCK n, F.LNK_STATUS_STAGE n,
      F.LNK_STATUS_READY n, F.LNK_STATUS_BLOCK_LOCK n] ++ flags [F.LNK_STICKY_TEST_REJECT n, F.BUT_STICKY_PARTNER_LOST]))
    (hp : φ.Parts [.setNow, .lanes, .phs, .sys, .ldg, .crn]) (s : State) : Effs φ.ok (lnkPrbsWrite n v s) := by
  simp at hf hp
  simp [lnkPrbsWrite, effs_ite, hf, hp]

@[simp] theorem prbsLock_ok (n : Nat) (hf : φ.Fields [F.LNK_PRBS_STATUS_LOCK n]) (hp : φ.Parts [.lanes, .freeCtr])
    (s : State) : Effs φ.ok (prbsLock n s) := by
  simp at hf hp
  simp [prbsLock, hf, hp]

@[simp] theorem prbsResync_ok (n : Nat) (hf : φ.Fields ([F.LNK_PRBS_STATUS_LOCK n] ++ flags [F.LNK_STICKY_PRBS_RESYNC n]))
    (hp : φ.Parts [.setNow]) (s : State) : Effs φ.ok (prbsResync n s) := by
  simp at hf hp
  simp [prbsResync, hf, hp]

@[simp] theorem prbsSat_ok (n : Nat) (errors : Bool) (hf : φ.Fields
    ([F.LNK_PRBS_STATUS_SAT n] ++ flags [F.LNK_STICKY_PRBS_SAT n])) (hp : φ.Parts [.setNow]) (s : State) : Effs φ.ok
    (prbsSat n errors s) := by
  simp at hf hp
  simp [prbsSat, hf, hp]

@[simp] theorem prbsBitsRead_ok (n : Nat) (hf : φ.Fields [F.LNK_PRBS_BITS_LO_N n, F.LNK_PRBS_BITS_HI_N n, F.LNK_PRBS_ERR_N n])
    (s : State) : Effs φ.ok (prbsBitsRead n s) := by
  simp at hf
  simp [prbsBitsRead, hf]

@[simp] theorem rawRxRead_ok (n w : Nat) (hf : φ.Fields [F.LNK_RAW_RX_LO_W n, F.LNK_RAW_RX_HI_W n]) (s : State) : Effs φ.ok
    (rawRxRead n w s) := by
  simp at hf
  simp [rawRxRead, hf]

@[simp] theorem prbsTick_ok (n : Nat) (hf : φ.Fields ([F.LNK_PRBS_STATUS_SAT n] ++ flags [F.LNK_STICKY_PRBS_SAT n]))
    (hp : φ.Parts [.lanes, .freeCtr, .setNow]) (s : State) : Effs φ.ok (prbsTick n s) := by
  simp at hf hp
  simp [prbsTick, hf, hp]

@[simp] theorem paced_ok (hp : φ.part .lanes) {es : List Eff} (h : Effs φ.ok es) (n size : Nat) (s : State) :
    Effs φ.ok (paced n size es s) := by
  simp [paced, effs_ite, hp, h]

@[simp] theorem hdrTick_ok (n : Nat) (hf : φ.Fields [F.LNK_CNT_HDR_ERR_N n]) (hp : φ.Parts [.freeCtr]) (s : State) : Effs φ.ok
    (hdrTick n s) := by
  simp at hf hp
  simp [hdrTick, hf, hp]

@[simp] theorem laneOut_ok (n : Nat) (hp : φ.Parts [.lanes]) (s : State) : Effs φ.ok (laneOut n s) := by
  simp at hp
  simp [laneOut, effs_ite, hp]

@[simp] theorem alignTo_ok (sec phase : Nat) (hp : φ.Parts [.tim, .now]) : φ.ok (alignTo sec phase) :=
  Foot.ok_upd (ps := [.tim, .now]) hp fun _ => rfl

@[simp] theorem dividerSync_ok (hf : φ.Fields [F.SYS_STATUS_DIV_SYNC]) (s : State) : Effs φ.ok (dividerSync s) := by
  simp at hf
  simp [dividerSync, hf]

@[simp] theorem ppsOnGm_ok (hf : φ.Fields (ledgerFlds ++ [F.TIM_PPS_ERR_ERR, F.TIM_STATUS_TOD_ARMED, F.TIM_STATUS_VALID] ++
      flags [F.TIM_STICKY_PPS_STEP])) (hp : φ.Parts [.freeCtr, .tim, .now, .ldg, .setNow, .bed]) (phase : Nat) (settled : Bool)
    (s : State) : Effs φ.ok (ppsOnGm phase settled s) := by
  simp at hf hp
  have valid (sec : Nat) := validSet_ok (φ := φ) sec (by simp [hf]) (by simp [hp])
  have shown (n : Nat) : Effs φ.ok [.set F.TIM_PPS_ERR_ERR n, spend 1] := by simp [hf, hp]
  have count (n : Nat) : φ.ok (.upd fun b => { b with tim := { b.tim with ppsBad := n } }) := by
    simp [hp, Part.forall_iff, Part.same]
  unfold ppsOnGm
  refine effs_ite.2 ⟨fun _ => effs_inOrder ?_, fun _ => effs_ite.2 ⟨fun _ => effs_inOrder ?_, fun _ => effs_ite.2 ⟨fun _ => ?_, fun _ => ?_⟩⟩⟩
  · simp [hf, hp, valid, Part.forall_iff, Part.same]
  · simp [hf, hp, valid, Part.forall_iff, Part.same]
  · simp [hf, hp, Part.forall_iff, Part.same]
  · exact effs_append.2 ⟨shown _, effs_cons.2 ⟨count _, effs_nil⟩⟩

@[simp] theorem ppsInEdge_ok (phase : Nat) (settled : Bool) (hf : φ.Fields
    (guarFlds ++ [F.TIM_STATUS_PPS_IN_PRESENT, F.TIM_PPS_ERR_ERR, F.TIM_STATUS_TOD_ARMED, F.TIM_STATUS_VALID,
      F.SYS_STATUS_DIV_SYNC] ++ flags [F.TIM_STICKY_PPS_STEP]))
    (hp : φ.Parts [.freeCtr, .tim, .now, .ldg, .setNow, .bed, .phs, .sys, .crn]) (s : State) : Effs φ.ok
    (ppsInEdge phase settled s) := by
  simp at hf hp
  simp [ppsInEdge, effs_ite, hf, hp]

@[simp] theorem ppsMissing_ok (hf : φ.Fields (guarFlds ++ [F.TIM_STATUS_PPS_IN_PRESENT] ++ flags [F.TIM_STICKY_PPS_MISSING]))
    (hp : φ.Parts [.setNow, .phs, .sys, .ldg, .crn]) (s : State) : Effs φ.ok (ppsMissing s) := by
  simp at hf hp
  simp [ppsMissing, effs_ite, hf, hp]

@[simp] theorem ppsStart_ok (rise : Int) (hp : φ.Parts [.tim]) (s : State) : Effs φ.ok (ppsStart rise s) := by
  simp at hp
  simp [ppsStart, hp, Part.forall_iff, Part.same]

@[simp] theorem ppsOutRise_ok (hp : φ.Parts [.tim]) (s : State) : Effs φ.ok (ppsOutRise s) := by
  simp at hp
  simp [ppsOutRise, effs_ite, hp, Part.forall_iff, Part.same]

@[simp] theorem ppsTick_ok (hp : φ.Parts [.tim]) (s : State) : Effs φ.ok (ppsTick s) := by
  simp at hp
  unfold ppsTick
  (repeat' split) <;> simp +contextual [effs_ite, hp, Part.forall_iff, Part.same]

@[simp] theorem ppsOutEnd_ok (hp : φ.Parts [.tim]) (s : State) : Effs φ.ok (ppsOutEnd s) := by
  simp at hp
  simp [ppsOutEnd, hp]

@[simp] theorem todDiscard_ok (hf : φ.Fields [F.TIM_STATUS_TOD_ARMED]) (hp : φ.Parts [.tim]) : Effs φ.ok todDiscard := by
  simp at hf hp
  simp [todDiscard, hf, hp, Part.forall_iff, Part.same]

@[simp] theorem todCommit_ok (hq : φ.ok (.commit (keyAt 0x2050) (keyAt 0x2058)))
    (hf : φ.Fields ([F.TIM_STATUS_TOD_ARMED] ++ flags [F.TIM_STICKY_TOD_REJECT])) (hp : φ.Parts [.commitWas, .tim, .setNow])
    (s : State) : Effs φ.ok (todCommit s) := by
  simp at hf hp
  unfold todCommit
  refine (effs_noted hp.1).2 (effs_ite.2 ⟨fun _ => ?_, fun _ => ?_⟩)
  · refine effs_cons.2 ⟨hq, ?_⟩
    simp [hf, hp, Part.forall_iff, Part.same]
  · simp [hf, hp]

@[simp] theorem timCtrlWrite_ok (v : Nat) (hf : φ.Fields
    (guarFlds ++ validOwn ++ [F.TIM_CTRL_GM, F.TIM_STATUS_GM, F.TIM_CTRL_PPS_IN_POL, F.TIM_CTRL_PPS_OUT_EN,
      F.TIM_CTRL_PPS_OUT_GATE, F.TIM_CTRL_PPS_W, F.TIM_STATUS_TOD_ARMED, F.RDG_STATUS_UP_VALID, F.RDG_STATUS_GM_HOPS]))
    (hp : φ.Parts [.tim, .setNow, .ldg, .bed, .phs, .sys, .crn]) (s : State) : Effs φ.ok (timCtrlWrite v s) := by
  have own := hf
  simp [validOwn] at own
  simp at hf hp
  simp [timCtrlWrite, own, hf, hp, Part.forall_iff, Part.same]

@[simp] theorem invalidate_ok (hf : φ.Fields (guarFlds ++ validOwn))
    (hp : φ.Parts [.setNow, .ldg, .bed, .tim, .phs, .sys, .crn]) (s : State) : Effs φ.ok (invalidate s) := by
  have own := hf
  simp [validOwn] at own
  simp at hf hp
  simp [invalidate, own, hf, hp]

@[simp] theorem leapSet_ok (hf : φ.Fields [F.TIM_STATUS_LEAP_PENDING]) (s : State) : Effs φ.ok (leapSet s) := by
  simp at hf
  simp [leapSet, hf]

@[simp] theorem leapClr_ok (hf : φ.Fields [F.TIM_STATUS_LEAP_PENDING]) (s : State) : Effs φ.ok (leapClr s) := by
  simp at hf
  simp [leapClr, hf]

@[simp] theorem timNowRead_ok (hf : φ.Fields [F.TIM_NOW_W0_SEC_LO, F.TIM_NOW_W1_W1, F.TIM_NOW_W2_W2, F.TIM_NOW_FRAC_FRAC])
    (s : State) : Effs φ.ok (timNowRead s) := by
  simp at hf
  unfold timNowRead
  (repeat' split) <;> simp +contextual [hf]

@[simp] theorem noUpstream_ok (hf : φ.Fields [F.RDG_STATUS_UP_VALID, F.RDG_STATUS_GM_HOPS]) (s : State) : Effs φ.ok
    (noUpstream s) := by
  simp at hf
  simp [noUpstream, hf]

@[simp] theorem upstreamEval_ok (hf : φ.Fields (ledgerFlds ++
      [F.RDG_STATUS_UP_VALID, F.RDG_STATUS_GM_HOPS, F.RDG_STATUS_UP_LANE] ++
      flags [F.RDG_STICKY_HOP_EXCEED, F.RDG_STICKY_UPSTREAM_CHANGE])) (hp : φ.Parts [.rdg, .setNow, .ldg])
    (s : State) : Effs φ.ok (upstreamEval s) := by
  simp at hf hp
  unfold upstreamEval
  (repeat' split) <;> simp +contextual [hf, hp]

@[simp] theorem joinedShow_ok (hf : φ.Fields [F.RDG_STATUS_JOINED]) (s : State) : Effs φ.ok (joinedShow s) := by
  simp at hf
  simp [joinedShow, hf]

@[simp] theorem ringShow_ok (hf : φ.Fields (guarFlds ++ upOwn)) (hp : φ.Parts [.rdg, .setNow, .ldg, .phs, .sys, .crn])
    (s : State) : Effs φ.ok (ringShow s) := by
  simp [upOwn] at hf hp
  simp [ringShow, hf, hp]

@[simp] theorem rdgCtrlWrite_ok (v : Nat) (hf : φ.Fields (guarFlds ++ upOwn ++ (List.range 8).flatMap laneOwn ++
    (List.range 8).flatMap roleOwn ++ [F.RDG_CTRL_ENABLE, F.RDG_CTRL_REMOTE_RD_EN, F.RDG_CTRL_REMOTE_WR_EN,
      F.RDG_CTRL_IT_PARAPET, F.RDG_STATUS_WRAP_E, F.RDG_STATUS_WRAP_W] ++
      flags [F.RDG_STICKY_ADDR_CONFLICT, F.BUT_STICKY_PARTNER_LOST]))
    (hp : φ.Parts [.lanes, .setNow, .ldg, .rdg, .phs, .sys, .crn]) (s : State) : Effs φ.ok (rdgCtrlWrite v s) := by
  have own := hf
  simp [upOwn, laneOwn, roleOwn] at own
  simp at hf hp
  unfold rdgCtrlWrite
  refine effs_ite.2 ⟨fun _ => by simp, fun _ => effs_inOrder ?_⟩
  simp +contextual [own, hf, hp]

@[simp] theorem keepalive_ok (n : Nat) (k : Keepalive) (hf : φ.Fields
    (guarFlds ++ upOwn ++ flags [F.RDG_STICKY_ADDR_CONFLICT])) (hp : φ.Parts [.lanes, .setNow, .ldg, .rdg, .phs, .sys, .crn])
    (s : State) : Effs φ.ok (keepalive n k s) := by
  have own := hf
  simp [upOwn] at own
  simp at hf hp
  simp [keepalive, effs_ite, own, hf, hp]

@[simp] theorem wrapSide_ok (n lost : Nat) (hf : φ.Fields
    (ledgerFlds ++ reqOwn ++ dropOwn ++ [F.RDG_STATUS_WRAP_E, F.RDG_STATUS_WRAP_W] ++ flags [F.RDG_STICKY_WRAP]))
    (hp : φ.Parts [.setNow, .ldg, .rdg, .lanes]) (s : State) : Effs φ.ok (wrapSide n lost s) := by
  have own := hf
  simp [reqOwn, dropOwn, raccOwn, bulkOwn, hopOwn, unreachOwn] at own
  simp at hf hp
  simp [wrapSide, own, hf, hp]

@[simp] theorem turnWaiting_ok (hf : φ.Fields (reqOwn ++ dropOwn)) (hp : φ.Parts [.lanes, .setNow, .rdg]) (n : Nat) (s : State) :
    Effs φ.ok (turnWaiting n s) := by
  simp at hf hp
  unfold turnWaiting
  refine effs_thenDo.2 ⟨by simp [hp], effs_inOrder (alls_map.2 fun f _ t => ?_)⟩
  simp [hf, hp]

@[simp] theorem neighbourLost_ok (hf : φ.Fields (guarFlds ++ reqOwn ++ dropOwn ++ upOwn ++ [F.RDG_STATUS_WRAP_E, F.RDG_STATUS_WRAP_W]
      ++ flags [F.RDG_STICKY_NEIGHBOUR_LOST, F.RDG_STICKY_WRAP])) (hp : φ.Parts [.setNow, .ldg, .lanes, .rdg, .phs, .sys, .crn])
    (n : Nat) (s : State) : Effs φ.ok (neighbourLost n s) := by
  simp at hf hp
  have wrap (k : Nat) (t : State) : Effs φ.ok (wrapSide n k t) := wrapSide_ok n k (by simp [hf]) (by simp [hp]) t
  have turn := turnWaiting_ok (φ := φ) (by simp [hf]) (by simp [hp]) n
  unfold neighbourLost
  dsimp only
  split
  · exact effs_nil
  · refine effs_ite.2 ⟨fun _ => effs_nil, fun _ => effs_inOrder ?_⟩
    simp [wrap, turn, hf, hp]

@[simp] theorem unwrap_ok (n : Nat) (hf : φ.Fields (guarFlds ++ upOwn ++ [F.RDG_STATUS_WRAP_E, F.RDG_STATUS_WRAP_W]))
    (hp : φ.Parts [.lanes, .ldg, .setNow, .rdg, .phs, .sys, .crn]) (s : State) : Effs φ.ok (unwrap n s) := by
  have own := hf
  simp [upOwn] at own
  simp at hf hp
  unfold unwrap
  (repeat' split) <;> simp +contextual [own, hf, hp]

@[simp] theorem deliver_ok (hf : φ.Fields (crcOwn ++ hopOwn)) (hp : φ.part .setNow) {p : Prog} (h : p.All φ.ok) (n cls type : Nat)
    (f : Frame) (s : State) : Effs φ.ok (deliver n cls type f p s) := by
  have hop := hf
  simp [crcOwn] at hf
  simp at h hop
  simp [deliver, effs_ite, hf, hp, h, hop]

@[simp] theorem firstCopy_ok (hp : φ.part .rdg) {p : Prog} (h : p.All φ.ok) (f : Frame) (s : State) : Effs φ.ok (firstCopy f p s) := by
  simp at h
  simp [firstCopy, effs_ite, hp, h]

@[simp] theorem intertrip_ok (hf : φ.Fields (tripFlds ++ crcOwn ++ flags [F.RDG_STICKY_IT_RX]))
    (hp : φ.Parts [.setNow, .rdg, .pwm, .fad, .ldg, .pairs, .cmps, .crn, .mpt, .lanes]) (n : Nat) (f : Frame) (s : State) :
    Effs φ.ok (intertrip n f s) := by
  simp at hf hp
  have pulse (k : Nat) := pulseSource_ok (φ := φ) (by simp [hf]) (by simp [hp]) (n := k)
  refine deliver_ok (by simp [hf]) hp.1 (fun t => firstCopy_ok hp.2.1 (fun u => ?_) f t) n 0 1 f s
  refine effs_ite.2 ⟨fun _ => effs_nil, fun _ => effs_inOrder ?_⟩
  simp [hf, hp, pulse]

@[simp] theorem itCmd_ok (groups : Nat) (hf : φ.Fields (reqOwn ++ dropOwn)) (hp : φ.Parts [.setNow, .rdg, .lanes])
    (s : State) : Effs φ.ok (itCmd groups s) := by
  simp at hf hp
  simp [itCmd, hf, hp]

@[simp] theorem nodeLost_ok (hf : φ.Fields (causeFlds ++ hopOwn ++ crcOwn ++ flags [F.RDG_STICKY_NODE_LOST_RX]))
    (hp : φ.Parts [.setNow, .rdg, .ldg, .crn]) (n : Nat) (f : Frame) (s : State) : Effs φ.ok (nodeLost n f s) := by
  simp at hf hp
  refine deliver_ok (by simp [hf]) hp.1 (fun t => firstCopy_ok hp.2.1 (fun u => ?_) f t) n 0 2 f s
  simp [hf, hp]

@[simp] theorem sendHop_ok (n type : Nat) (data : List Nat) (hf : φ.Fields hopOwn) (hp : φ.Parts [.setNow, .rdg, .lanes])
    (s : State) : Effs φ.ok (sendHop n type data s) := by
  simp at hf hp
  simp [sendHop, effs_ite, hf, hp]

@[simp] theorem exchangeStart_ok (phase : Nat) (hf : φ.Fields hopOwn) (hp : φ.Parts [.rdg, .setNow, .lanes])
    (s : State) : Effs φ.ok (exchangeStart phase s) := by
  simp at hf hp
  simp [exchangeStart, effs_ite, hf, hp]

@[simp] theorem delayReq_ok (n : Nat) (f : Frame) (phase turn : Nat) (hf : φ.Fields (hopOwn ++ crcOwn))
    (hp : φ.Parts [.setNow, .rdg, .lanes]) (s : State) : Effs φ.ok (delayReq n f phase turn s) := by
  simp at hf hp
  simp [delayReq, hf, hp]

@[simp] theorem moveTime_ok (d : Int) (hp : φ.Parts [.now]) : φ.ok (moveTime d) := by
  simp at hp
  simp [moveTime, hp, Part.forall_iff, Part.same]

@[simp] theorem slewTick_ok (hp : φ.Parts [.now, .rdg]) (s : State) : Effs φ.ok (slewTick s) := by
  simp at hp
  simp [slewTick, hp, Part.forall_iff, Part.same]

@[simp] theorem servo_ok (n : Nat) (theta : Int) (hf : φ.Fields (ledgerFlds ++ validOwn ++ flags [F.RDG_STICKY_TIME_STEP]))
    (hp : φ.Parts [.now, .rdg, .setNow, .ldg, .bed, .tim]) (s : State) : Effs φ.ok (servo n theta s) := by
  have own := hf
  simp [validOwn] at own
  simp at hf hp
  simp [servo, effs_ite, own, hf, hp]

@[simp] theorem converge_ok (theta : Int) (upValid : Bool) (hf : φ.Fields
    (ledgerFlds ++ validOwn ++ [F.RDG_STATUS_TIME_CONV])) (hp : φ.Parts [.rdg, .setNow, .ldg, .bed, .tim])
    (s : State) : Effs φ.ok (converge theta upValid s) := by
  have own := hf
  simp [validOwn] at own
  simp at hf hp
  simp [converge, own, hf, hp]

@[simp] theorem delayResp_ok (hf : φ.Fields (guarFlds ++ hopOwn ++ validOwn ++ crcOwn ++ [F.RDG_OFFSET_THETA, F.RDG_PATHDLY_DLY,
      F.RDG_STATUS_TIME_CONV] ++ flags [F.RDG_STICKY_TIME_STEP]))
    (hp : φ.Parts [.setNow, .lanes, .freeCtr, .rdg, .now, .ldg, .bed, .tim, .phs, .sys, .crn]) (n : Nat) (f : Frame) (phase : Nat)
    (s : State) : Effs φ.ok (delayResp n f phase s) := by
  simp at hf hp
  have step (d : Int) := servo_ok (φ := φ) n d (by simp [hf]) (by simp [hp])
  have follow (d : Int) (v : Bool) := converge_ok (φ := φ) d v (by simp [hf]) (by simp [hp])
  refine deliver_ok (by simp [hf]) hp.1 (fun t => ?_) n 1 0x11 f s
  dsimp only
  split
  · split <;> simp [hp]
  · split
    · exact effs_nil
    · refine effs_ite.2 ⟨fun _ => effs_nil, fun _ => effs_inOrder ?_⟩
      simp [hf, hp, step, follow]

@[simp] theorem exchangeTimeout_ok (hf : φ.Fields (guarFlds ++ validOwn ++ [F.RDG_STATUS_TIME_CONV]))
    (hp : φ.Parts [.rdg, .setNow, .ldg, .bed, .tim, .phs, .sys, .crn]) (s : State) : Effs φ.ok (exchangeTimeout s) := by
  have own := hf
  simp [validOwn] at own
  simp at hf hp
  simp [exchangeTimeout, effs_ite, own, hf, hp]

@[simp] theorem probes_ok (n : Nat) (ids : List Nat) (hp : φ.Parts [.rdg, .lanes]) (s : State) : Effs φ.ok
    (probes n ids s) := by
  simp at hp
  simp [probes, hp]

@[simp] theorem checkStart_ok (n : Nat) (hp : φ.Parts [.lanes, .rdg]) (s : State) : Effs φ.ok (checkStart n s) := by
  simp at hp
  simp [checkStart, hp]

@[simp] theorem echoCheck_ok (hp : φ.Parts [.lanes, .rdg]) (s : State) : Effs φ.ok (echoCheck s) := by
  simp at hp
  simp [echoCheck, hp]

@[simp] theorem recalStart_ok (n : Nat) (hp : φ.Parts [.lanes, .rdg]) (s : State) : Effs φ.ok (recalStart n s) := by
  simp at hp
  simp [recalStart, effs_ite, hp]

@[simp] theorem recal_ok (hp : φ.Parts [.lanes, .rdg]) (s : State) : Effs φ.ok (recal s) := by
  simp at hp
  simp [recal, hp]

@[simp] theorem echoJudge_ok (n : Nat) (hf : φ.Fields (guarFlds ++ [F.RDG_LANE_CAL_FAIL n] ++ flags [F.RDG_STICKY_CAL_FAIL]))
    (hp : φ.Parts [.setNow, .ldg, .lanes, .rdg, .phs, .sys, .crn]) (s : State) : Effs φ.ok (echoJudge n s) := by
  simp at hf hp
  simp [echoJudge, effs_ite, hf, hp]

@[simp] theorem echo_ok (n probe : Nat) (own : Bool) (rt : Nat) (hf : φ.Fields
    (guarFlds ++ [F.RDG_LANE_CAL_FAIL n] ++ flags [F.RDG_STICKY_CAL_FAIL]))
    (hp : φ.Parts [.lanes, .setNow, .ldg, .rdg, .phs, .sys, .crn]) (s : State) : Effs φ.ok (echo n probe own rt s) := by
  simp at hf hp
  simp [echo, effs_ite, hf, hp]

@[simp] theorem recalDone_ok (n : Nat) (passed : Bool) (corr : Nat) (hf : φ.Fields
    (guarFlds ++ calOwn n ++ [F.RDG_LANE_CAL_FAIL n])) (hp : φ.Parts [.lanes, .phs, .setNow, .sys, .ldg, .crn])
    (s : State) : Effs φ.ok (recalDone n passed corr s) := by
  simp [calOwn] at hf hp
  simp [recalDone, effs_ite, hf, hp]

@[simp] theorem rdgCntClr_ok (hf : φ.Fields [F.RDG_CNT_HOPDROP_N, F.RDG_CNT_UNREACH_N, F.RDG_CNT_CRC_N])
    (s : State) : Effs φ.ok (rdgCntClr s) := by
  simp at hf
  simp [rdgCntClr, hf]

@[simp] theorem slotCommit_ok {n : Nat} (hq : φ.ok (.commit (keyAt (0x10300 + 0x10 * n)) (keyAt (0x10310 + 0x10 * n))))
    (hf : φ.Fields ([F.RDG_SCHED_STAT_ARMED, F.RDG_SCHED_STAT_DONE] ++ flags [F.RDG_STICKY_SCHED_LATE]))
    (hp : φ.Parts [.setNow, .commitWas]) (s : State) : Effs φ.ok (slotCommit n s) := by
  simp at hf hp
  unfold slotCommit
  exact (effs_noted hp.2).2 (effs_ite.2 ⟨fun _ => by simp [hq, hf], fun _ => by simp [hf, hp]⟩)

@[simp] theorem schedCommit_ok (hq : ∀ n < 8, φ.ok (.commit (keyAt (0x10300 + 0x10 * n)) (keyAt (0x10310 + 0x10 * n))))
    (hf : φ.Fields ([F.RDG_SCHED_STAT_ARMED, F.RDG_SCHED_STAT_DONE] ++ flags [F.RDG_STICKY_SCHED_LATE]))
    (hp : φ.Parts [.setNow, .commitWas]) (mask : Nat) (s : State) : Effs φ.ok (schedCommit mask s) :=
  effs_inOrder (alls_map.2 fun n hn => slotCommit_ok (hq n (by simpa using (List.mem_filter.1 hn).1)) hf hp)

@[simp] theorem raccEnd_ok (err : Nat) (hf : φ.Fields raccOwn) (hp : φ.Parts [.rdg, .setNow]) (s : State) : Effs φ.ok
    (raccEnd err s) := by
  simp at hf hp
  simp [raccEnd, hf, hp]

@[simp] theorem raccCmd_ok (write : Bool) (count : Nat) (hf : φ.Fields (reqOwn ++ dropOwn))
    (hp : φ.Parts [.rdg, .setNow, .lanes]) (s : State) : Effs φ.ok (raccCmd write count s) := by
  have own := hf
  simp [reqOwn, dropOwn, raccOwn, bulkOwn, hopOwn, unreachOwn] at own
  simp at hf hp
  simp [raccCmd, effs_ite, own, hf, hp]

@[simp] theorem raccResponse_ok (hf : φ.Fields (raccOwn ++ crcOwn ++ hopOwn)) (hp : φ.Parts [.setNow, .rdg]) {p : Prog}
    (h : p.All φ.ok) (n : Nat) (write : Bool) (f : Frame) (s : State) : Effs φ.ok (raccResponse n write f p s) := by
  have own := hf
  simp [crcOwn] at own
  simp at hf hp h
  simp [raccResponse, effs_ite, hf, hp, h, own]

@[simp] theorem readResponse_ok (hf : φ.Fields (raccOwn ++ hopOwn ++ crcOwn ++ (List.range 8).map F.RDG_RACC_DATA_DATA))
    (hp : φ.Parts [.setNow, .rdg]) (n : Nat) (f : Frame) (s : State) : Effs φ.ok (readResponse n f s) := by
  simp at hf hp
  refine raccResponse_ok (by simp [hf]) (by simp [hp]) (fun t => effs_append.2 ⟨effs_map.2 fun p hm => ?_, by simp [hf, hp]⟩) n false f s
  have eight : p.2 < 8 := by
    have := (List.mem_zipIdx' hm).1
    simp [blockWords] at this
    omega
  simp [hf, eight]

@[simp] theorem writeResponse_ok (n : Nat) (f : Frame) (hf : φ.Fields (raccOwn ++ hopOwn ++ crcOwn))
    (hp : φ.Parts [.setNow, .rdg]) (s : State) : Effs φ.ok (writeResponse n f s) := by
  simp at hf hp
  simp [writeResponse, hf, hp]

@[simp] theorem raccTimeout_ok (hf : φ.Fields raccOwn) (hp : φ.Parts [.rdg, .setNow]) (s : State) : Effs φ.ok
    (raccTimeout s) := by
  simp at hf hp
  simp [raccTimeout, hf, hp]

@[simp] theorem bulkCmd_ok (queue count : Nat) (hf : φ.Fields (reqOwn ++ dropOwn)) (hp : φ.Parts [.rdg, .setNow, .lanes])
    (s : State) : Effs φ.ok (bulkCmd queue count s) := by
  have own := hf
  simp [reqOwn, dropOwn, raccOwn, bulkOwn, hopOwn, unreachOwn] at own
  simp at hf hp
  simp [bulkCmd, effs_ite, own, hf, hp]

/-- A queue of this footprint may take a record. -/
@[simp] theorem bulkTake_ok {m : Request} (hq : φ.Plain m.queue) (hf : φ.Fields bulkOwn) (hp : φ.Parts [.rdg, .setNow])
    (f : Frame) (s : State) : Effs φ.ok (bulkTake f m s) := by
  simp at hp
  simp [bulkTake, effs_ite, hq, hf, hp]

@[simp] theorem bulkFragment_ok (n : Nat) (f : Frame) (s : State) (hq : ∀ m ∈ s.b.rdg.bulk, φ.Plain m.queue)
    (hf : φ.Fields (bulkOwn ++ crcOwn ++ hopOwn)) (hp : φ.Parts [.rdg, .setNow]) : Effs φ.ok (bulkFragment n f s) := by
  have own := hf
  simp [crcOwn] at own
  simp at hf hp
  have fragment (m : Request) (hm : s.b.rdg.bulk = some m) := bulkTake_ok (φ := φ) (m := m) (hq m hm) hf.1 (by simp [hp]) f s
  unfold bulkFragment
  refine effs_ite.2 ⟨fun _ => effs_nil, fun _ => effs_ite.2 ⟨fun _ => by simp [own], fun _ => effs_ite.2 ⟨fun _ => by simp [hf, hp], fun _ => ?_⟩⟩⟩
  refine effs_append.2 ⟨by simp [own, hf, hp], ?_⟩
  split
  next m hm => exact effs_ite.2 ⟨fun _ => fragment m hm, fun _ => effs_nil⟩
  next => exact effs_nil

@[simp] theorem bulkTimeout_ok (hf : φ.Fields bulkOwn) (hp : φ.Parts [.rdg, .setNow]) (s : State) : Effs φ.ok
    (bulkTimeout s) := by
  simp at hf hp
  simp [bulkTimeout, hf, hp]

end

end Sys2Proof.Machine
end

section
/-! The footprints of the meanings of the references, of the local second boundary and of reading at the ring's other nodes. -/

namespace Sys2Proof.Machine

section
variable {φ : Foot}

@[simp] theorem summary_ok {s : State} (hq : φ.Records (s.get F.QUE_MET_QUEUE)) (hf : φ.Fields (reqOwn ++ dropOwn))
    (hp : φ.Parts [.setNow, .rdg, .lanes]) : Effs φ.ok (summary s) := by
  simp at hf hp
  simp [summary, effs_ite, hq, hq.toPlain, hf, hp]

@[simp] theorem freeze_ok {s : State} (hq : φ.Records (s.get F.QUE_MET_QUEUE)) (hf : φ.Fields (reqOwn ++ dropOwn ++
      [F.MET_FRZ_TS_W_W 0, F.MET_FRZ_TS_W_W 1, F.MET_FRZ_TS_W_W 2, F.MET_FRZ_CNT_N]))
    (hp : φ.Parts [.met, .setNow, .rdg, .lanes]) : Effs φ.ok (freeze s) := by
  simp at hf hp
  unfold freeze
  refine effs_ite.2 ⟨fun _ => effs_nil, fun _ => effs_thenDo.2 ⟨by simp [hf, hp], summary_ok ?_ (by simp [hf]) (by simp [hp])⟩⟩
  rwa [get_of_butKey (by simp)]

@[simp] theorem beginSearch_ok (mode : PlumbMode) (r cause : Nat) (hf : φ.Fields [F.CLK_STATUS_SEARCHING])
    (hp : φ.Parts [.plumb]) (s : State) : Effs φ.ok (beginSearch mode r cause s) := by
  simp at hf hp
  simp [beginSearch, hf, hp, Part.forall_iff, Part.same]

@[simp] theorem leaveOff_ok (hf : φ.Fields [F.CLK_STATUS_SEARCHING]) (hp : φ.Parts [.plumb]) (s : State) : Effs φ.ok
    (leaveOff s) := by
  simp at hf hp
  simp [leaveOff, effs_ite, hf, hp]

@[simp] theorem enterHoldover_ok (lost : Nat) (hf : φ.Fields (causeFlds ++ holdOwn))
    (hp : φ.Parts [.setNow, .plumb, .ldg, .bed, .crn]) (s : State) : Effs φ.ok (enterHoldover lost s) := by
  simp [holdOwn] at hf hp
  simp [enterHoldover, hf, hp, Part.forall_iff, Part.same]

@[simp] theorem relockTo_ok (r : Nat) (hf : φ.Fields [F.CLK_STATUS_SEARCHING]) (hp : φ.Parts [.plumb]) (s : State) : Effs φ.ok
    (relockTo r s) := by
  simp at hf hp
  simp [relockTo, hf, hp]

@[simp] theorem markQual_ok (hp : φ.Parts [.plumb]) (s : State) : Effs φ.ok (markQual s) := by
  simp at hp
  simp [markQual, hp, Part.forall_iff, Part.same]

@[simp] theorem tieTake_ok (r : Nat) (hf : φ.Fields [F.CLK_STATUS_SEARCHING]) (hp : φ.Parts [.plumb]) (s : State) : Effs φ.ok
    (tieTake r s) := by
  simp at hf hp
  simp [tieTake, effs_ite, hf, hp]

@[simp] theorem refQualified_ok {r : Nat} (hf : φ.Fields (guarFlds ++ holdOwn ++ [refQualFld r]))
    (hp : φ.Parts [.plumb, .setNow, .ldg, .bed, .crn, .phs, .sys]) (s : State) : Effs φ.ok (refQualified r s) := by
  have own := hf
  simp [holdOwn] at own
  simp at hf hp
  refine effs_inOrder (alls_cons.2 ⟨by simp [hf], alls_cons.2 ⟨fun t => effs_onlyIf.2 fun _ => ?_, by simp [onMain, hf, hp]⟩⟩)
  split <;> simp [effs_ite, own, hf, hp]

@[simp] theorem searchAbandon_ok (r : Nat) (hf : φ.Fields [F.CLK_STATUS_SEARCHING]) (hp : φ.Parts [.plumb])
    (s : State) : Effs φ.ok (searchAbandon r s) := by
  simp at hf hp
  simp [searchAbandon, effs_ite, hf, hp, Part.forall_iff, Part.same]

@[simp] theorem refLost_ok {r : Nat} (hf : φ.Fields (guarFlds ++ holdOwn ++ [refQualFld r] ++ flags [refLossFld r]))
    (hp : φ.Parts [.setNow, .ldg, .plumb, .bed, .crn, .phs, .sys]) (s : State) : Effs φ.ok (refLost r s) := by
  have own := hf
  simp [holdOwn] at own
  simp at hf hp
  exact effs_inOrder (by simp [onMain, effs_ite, own, hf, hp])

@[simp] theorem lockRawLost_ok (hf : φ.Fields (guarFlds ++ holdOwn ++ flags [F.CLK_STICKY_LOCK_LOST]))
    (hp : φ.Parts [.setNow, .plumb, .ldg, .bed, .crn, .phs, .sys]) (s : State) : Effs φ.ok (lockRawLost s) := by
  have own := hf
  simp [holdOwn] at own
  simp at hf hp
  simp [lockRawLost, effs_ite, own, hf, hp]

@[simp] theorem storeCode_ok (r code : Nat) (hf : φ.Fields codeOwn) : Effs φ.ok (storeCode r code) := by
  simp [codeOwn] at hf
  simp [storeCode, effs_ite, hf]

@[simp] theorem codeFlush_ok (hf : φ.Fields codeOwn) (hp : φ.Parts [.plumb]) (s : State) : Effs φ.ok (codeFlush s) := by
  simp at hf hp
  simp [codeFlush, hf, hp, Part.forall_iff, Part.same]

@[simp] theorem lineLock_ok (code phase : Nat) (hf : φ.Fields
    (guarFlds ++ codeOwn ++ [F.CLK_STATUS_SEARCHING, F.CLK_STATUS_LOCK_RAW, F.CLK_STATUS_ACTIVE_REF, F.CLK_STATUS_HOLDOVER,
      F.TIM_STATUS_HOLDOVER, F.CLK_HO_TIME_US, F.CLK_PHASE_NOW_PHASE] ++ flags [F.CLK_STICKY_SWITCHOVER]))
    (hp : φ.Parts [.plumb, .ldg, .setNow, .bed, .tim, .phs, .sys, .crn]) (s : State) : Effs φ.ok (lineLock code phase s) := by
  have own := hf
  simp [codeOwn] at own
  simp at hf hp
  simp [lineLock, effs_ite, own, hf, hp, Part.forall_iff, Part.same]

@[simp] theorem hopMiss_ok (hf : φ.Fields (flags [F.CLK_STICKY_STORED_MISS])) (hp : φ.Parts [.setNow, .plumb])
    (s : State) : Effs φ.ok (hopMiss s) := by
  simp at hf hp
  simp [hopMiss, effs_ite, hf, hp, Part.forall_iff, Part.same]

@[simp] theorem fullSearchFail_ok (hf : φ.Fields ([F.CLK_STATUS_SEARCHING] ++ flags [F.CLK_STICKY_STORED_MISS]))
    (hp : φ.Parts [.setNow, .plumb]) (s : State) : Effs φ.ok (fullSearchFail s) := by
  simp at hf hp
  simp [fullSearchFail, effs_ite, hf, hp, Part.forall_iff, Part.same]

@[simp] theorem phaseMoveStep_ok (hf : φ.Fields [F.CLK_PHASE_NOW_PHASE]) (hp : φ.Parts [.plumb, .now]) (s : State) : Effs φ.ok
    (phaseMoveStep s) := by
  simp at hf hp
  simp [phaseMoveStep, effs_ite, hf, hp, Part.forall_iff, Part.same]

@[simp] theorem lockDeclare_ok (hf : φ.Fields [F.CLK_STATUS_LOCK]) (hp : φ.Parts [.plumb]) (s : State) : Effs φ.ok
    (lockDeclare s) := by
  simp at hf hp
  simp [lockDeclare, hf, hp, Part.forall_iff, Part.same]

@[simp] theorem lockClear_ok (hf : φ.Fields [F.CLK_STATUS_LOCK, F.CLK_STATUS_SEARCHING]) (hp : φ.Parts [.plumb])
    (s : State) : Effs φ.ok (lockClear s) := by
  simp at hf hp
  simp [lockClear, hf, hp, Part.forall_iff, Part.same]

@[simp] theorem lockFiltFault_ok (hf : φ.Fields (ledgerFlds ++ flags [F.CLK_STICKY_LOCK_FILT_FAULT]))
    (hp : φ.Parts [.setNow, .ldg]) (s : State) : Effs φ.ok (lockFiltFault s) := by
  simp at hf hp
  simp [lockFiltFault, effs_ite, hf, hp]

@[simp] theorem hoTrained_ok (hf : φ.Fields [F.CLK_STATUS_HO_TRAINED]) (s : State) : Effs φ.ok (hoTrained s) := by
  simp at hf
  simp [hoTrained, hf]

@[simp] theorem holdoverLong_ok (hf : φ.Fields (guarFlds ++ [F.RDG_SCHED_STAT_ARMED] ++
      flags [F.CLK_STICKY_HOLDOVER_LONG, F.RDG_STICKY_SCHED_CANCEL])) (hp : φ.Parts [.setNow, .ldg, .plumb, .phs, .sys, .crn])
    (s : State) : Effs φ.ok (holdoverLong s) := by
  simp at hf hp
  simp [holdoverLong, effs_ite, hf, hp, Part.forall_iff, Part.same]

@[simp] theorem clkPhaseCommit_ok (hq : φ.Takes 0x1040 0x1044) (hp : φ.Parts [.commitWas, .waiting, .commitNow]) (s : State) :
    Effs φ.ok (clkPhaseCommit s) := by
  simp at hp
  simp [clkPhaseCommit, hq, hp]

@[simp] theorem clearStored_ok (hf : φ.Fields [F.CLK_SEARCH_VALID_A, F.CLK_SEARCH_VALID_B]) (s : State) : Effs φ.ok
    (clearStored s) := by
  simp at hf
  simp [clearStored, hf]

@[simp] theorem clkSwitch_ok (hf : φ.Fields (guarFlds ++ holdOwn))
    (hp : φ.Parts [.setNow, .plumb, .ldg, .bed, .crn, .phs, .sys]) (s : State) : Effs φ.ok (clkSwitch s) := by
  have own := hf
  simp [holdOwn] at own
  simp at hf hp
  unfold clkSwitch
  (repeat' split) <;> simp +contextual [effs_ite, own, hf, hp]

@[simp] theorem waitSearch_ok (cause : Nat) (hf : φ.Fields [F.CLK_STATUS_SEARCHING]) (hp : φ.Parts [.plumb])
    (s : State) : Effs φ.ok (waitSearch cause s) := by
  simp at hf hp
  simp [waitSearch, hf, hp, Part.forall_iff, Part.same]

@[simp] theorem relockFull_ok (hf : φ.Fields (guarFlds ++ [F.CLK_STATUS_LOCK_RAW, F.SYS_STATUS_DIV_SYNC, F.CLK_STATUS_SEARCHING]
      ++ flags [F.CLK_STICKY_LOCK_LOST])) (hp : φ.Parts [.setNow, .plumb, .phs, .sys, .ldg, .crn]) (s : State) :
    Effs φ.ok (relockFull s) := by
  simp at hf hp
  have start (r : Nat) : Prog.All φ.ok (if refQual s r then beginSearch .search r 2 else waitSearch 2) := by
    split <;> simp [hf, hp]
  unfold relockFull
  refine effs_ite.2 ⟨fun _ => effs_nil, fun _ => effs_inOrder (alls_cons.2 ⟨fun t => ?_, alls_cons.2 ⟨start _, ?_⟩⟩)⟩
  · simp [hf, hp]
  · simp [hf, hp]

@[simp] theorem runShow_ok (hf : φ.Fields (ledgerFlds ++ [F.PHS_STATUS_RUN])) (hp : φ.Parts [.phs, .ldg, .setNow])
    (s : State) : Effs φ.ok (runShow s) := by
  simp at hf hp
  simp [runShow, hf, hp]

@[simp] theorem frameTick_ok (hf : φ.Fields (ledgerFlds ++ [F.PHS_STATUS_RUN])) (hp : φ.Parts [.phs, .ldg, .setNow])
    (s : State) : Effs φ.ok (frameTick s) := by
  simp at hf hp
  simp [frameTick, effs_ite, hf, hp]

@[simp] theorem phsShow_ok (hf : φ.Fields (ledgerFlds ++ [F.PHS_STATUS_ACTIVE, F.PHS_STATUS_RUN]))
    (hp : φ.Parts [.ldg, .setNow]) (s : State) : Effs φ.ok (phsShow s) := by
  simp at hf hp
  simp [phsShow, hf, hp]

@[simp] theorem phsAdopt_ok (hq : φ.Adopts 0x70040 0x70280) (hf : φ.Fields (ledgerFlds ++ [F.PHS_STATUS_ACTIVE, F.PHS_STATUS_RUN]))
    (hp : φ.Parts [.waiting, .phs, .ldg, .setNow]) (s : State) : Effs φ.ok (phsAdopt s) := by
  simp at hf hp
  simp [phsAdopt, effs_ite, hq, hf, hp]

/-- What reads leave behind in the latches (R59, R100, R115, R313, R448). -/
def prbsOwn (n : Nat) : List Fld := [F.LNK_PRBS_BITS_LO_N n, F.LNK_PRBS_BITS_HI_N n, F.LNK_PRBS_ERR_N n]
def rawOwn (n : Nat) : List Fld := [F.LNK_RAW_RX_LO_W n, F.LNK_RAW_RX_HI_W n]
def accOwn (a : Nat) : List Fld := [F.MET_ACC_LO_A a, F.MET_ACC_HI_A a, F.MET_ACC_WRAP_W a]
def frzOwn (a : Nat) : List Fld := [F.MET_FRZ_LO_A a, F.MET_FRZ_HI_A a, F.MET_FRZ_WRAP_W a]
def latchOwn : List Fld :=
  [F.TIM_NOW_W0_SEC_LO, F.TIM_NOW_W1_W1, F.TIM_NOW_W2_W2, F.TIM_NOW_FRAC_FRAC, F.BED_OPSEC_LO_S, F.BED_OPSEC_HI_S, F.BED_SUBSEC_N]
  ++ (List.range 8).flatMap prbsOwn ++ (List.range 8).flatMap rawOwn ++ (List.range 32).flatMap accOwn ++ (List.range 32).flatMap frzOwn

@[simp] theorem readLatch_ok (hf : φ.Fields latchOwn) (hp : φ.part .freeCtr) (base o : Nat) (s : State) :
    Effs φ.ok (readLatch base o s) := by
  simp [latchOwn, prbsOwn, rawOwn, accOwn, frzOwn] at hf
  have time : Effs φ.ok (timNowRead s) := timNowRead_ok (by simp [hf]) s
  have lane (h : 0x8000 ≤ base ∧ base < 0x10000 ∧ (o = 0x58 ∨ o = 0x80)) : (base - 0x8000) / 0x1000 < 8 := by omega
  have bank (n : Nat) (h : n ≤ o ∧ o < n + 0x200) : (o - n) / 0x10 < 32 := by omega
  unfold readLatch
  simp only [effs_ite, effs_nil, implies_true, and_true]
  refine ⟨fun _ => time, fun _ => ⟨fun h => ?_, fun _ => ⟨fun h => ?_, fun _ => ⟨fun h => ?_, fun _ => ⟨fun h => ?_, fun _ _ => ?_⟩⟩⟩⟩⟩
  · simp [prbsBitsRead, hf, lane ⟨h.1, h.2.1, .inl h.2.2⟩]
  · simp [hf, hp, lane ⟨h.1, h.2.1, .inr h.2.2⟩]
  · simp [accRead, hf, bank 0x400 (by omega)]
  · simp [frzRead, hf, bank 0x600 (by omega)]
  · simp [opsecRead, hf, hp]

/-- What reading a register of a queue shows (R440, R444). -/
def popOwn (q : Nat) : List Fld := [F.QUE_Q_CONS_W q, F.QUE_Q_FILL_W q]
def showOwn : List Fld := [F.QUE_STATUS_NONEMPTY, F.QUE_WM_STAT_Q] ++ flags [F.QUE_STICKY_WM]
def eccOwn : List Fld := [F.KE0_ECC_CNT_N, F.KE1_ECC_CNT_N] ++ flags [F.KE0_STICKY_ECC_CORR, F.KE1_STICKY_ECC_CORR]
def errOwn : List Fld := [F.HST_ERR_ADDR_ADDR] ++ flags [F.HST_STICKY_UNMAPPED, F.HST_STICKY_BURST_END]
def readOwn : List Fld := latchOwn ++ (List.range 32).flatMap popOwn ++ showOwn ++ eccOwn ++ errOwn

theorem Foot.fields_read : φ.Fields readOwn ↔ φ.Fields latchOwn ∧ (∀ q < 32, φ.Fields (popOwn q)) ∧ φ.Fields showOwn ∧
    φ.Fields eccOwn ∧ φ.Fields errOwn := by
  simp [readOwn]

@[simp] theorem queShow_ok (q : Nat) (hf : φ.Fields ([F.QUE_Q_FILL_W q] ++ showOwn)) (hp : φ.part .setNow) (s : State) :
    Effs φ.ok (queShow q s) := by
  simp [showOwn] at hf
  simp [queShow, hf, hp]

@[simp] theorem popAdvance_ok (q : Nat) (hf : φ.Fields (popOwn q ++ showOwn)) (hp : φ.part .setNow) (s : State) :
    Effs φ.ok (popAdvance q s) := by
  have own := hf
  simp [popOwn] at own
  simp [popAdvance, effs_ite, own, hp]

@[simp] theorem eccCount_ok (hf : φ.Fields eccOwn) (hp : φ.Parts [.freeCtr, .setNow]) (eng : Nat) (s : State) :
    Effs φ.ok (eccCount eng s) := by
  simp [eccOwn] at hf hp
  simp [eccCount, effs_ite, hf, hp]

@[simp] theorem portErr_ok (hp : φ.part .setNow) {f : Fld} (hf : φ.Fields ([F.HST_ERR_ADDR_ADDR] ++ flags [f])) (src : Origin) :
    Effs φ.ok (portErr src f) := by
  simp at hf
  unfold portErr
  split <;> simp [hstErr, hf, hp]

theorem popPort_lt {a q : Nat} (h : popPort a = some q) : q < 32 := by
  unfold popPort at h
  split at h
  · rw [← Option.some.inj h]
    omega
  · cases h

@[simp] theorem busLatch_ok (hf : φ.Fields latchOwn) (hp : φ.part .freeCtr) (a : Nat) (s : State) : Effs φ.ok (busLatch a s) := by
  unfold busLatch
  split <;> simp [effs_ite, hf, hp]

@[simp] theorem busAfter_ok (hf : φ.Fields readOwn) (hp : φ.Parts [.freeCtr, .setNow]) (src : Origin) (a : Nat) (s : State) :
    Effs φ.ok (busAfter src a s) := by
  obtain ⟨-, pops, shown, ecc, err⟩ := Foot.fields_read.1 hf
  simp [errOwn] at err hp
  have pop {q : Nat} (h : popPort a = some q) : Effs φ.ok (popAdvance q s) :=
    popAdvance_ok q (Foot.fields_append.2 ⟨pops q (popPort_lt h), shown⟩) hp.2 s
  unfold busAfter
  split
  · simp [err, hp]
  · split
    · next h => exact pop h
    · simp [effs_ite, ecc, hp]
    · simp
  · simp [ecc, hp]
  · simp [ecc, hp]
  · simp

@[simp] theorem readWords_ok (hf : φ.Fields readOwn) (hp : φ.Parts [.freeCtr, .setNow]) (src : Origin) (l : List (Option Nat))
    (s : State) : Effs φ.ok (readWords src l s).2 := by
  obtain ⟨latch, -, -, -, err⟩ := Foot.fields_read.1 hf
  simp [errOwn] at err hp
  induction l generalizing s with
  | nil => exact effs_nil
  | cons a l ih =>
    cases a <;> simp [readWords, ih, latch, err, hf, hp]

@[simp] theorem boundaryFreeze_ok {s : State} (hq : φ.Records (s.get F.QUE_MET_QUEUE)) (hf : φ.Fields (reqOwn ++ dropOwn ++
      [F.MET_FRZ_TS_W_W 0, F.MET_FRZ_TS_W_W 1, F.MET_FRZ_TS_W_W 2, F.MET_FRZ_CNT_N]))
    (hp : φ.Parts [.met, .setNow, .rdg, .lanes]) : Effs φ.ok (boundaryFreeze s) :=
  effs_ite.2 ⟨fun _ => effs_nil, fun _ => effs_onlyIf.2 fun _ => freeze_ok hq hf hp⟩

@[simp] theorem boundarySync_ok (hf : φ.Fields [F.SYS_STATUS_DIV_SYNC]) (s : State) : Effs φ.ok (boundarySync s) := by
  simp at hf
  simp [boundarySync, hf]

@[simp] theorem secondBoundary_ok {s : State} (hq : φ.Records (s.get F.QUE_MET_QUEUE)) (ha : φ.Adopts 0x70040 0x70280)
    (hf : φ.Fields (guarFlds ++ reqOwn ++ dropOwn ++ [ppsEdgeFld, F.SYS_STATUS_DIV_SYNC, F.PHS_STATUS_ACTIVE, F.PHS_STATUS_RUN,
      F.MET_FRZ_TS_W_W 0, F.MET_FRZ_TS_W_W 1, F.MET_FRZ_TS_W_W 2, F.MET_FRZ_CNT_N]))
    (hp : φ.Parts [.setNow, .tim, .waiting, .phs, .ldg, .met, .rdg, .lanes, .sys, .crn]) : Effs φ.ok (secondBoundary s) := by
  simp at hf hp
  have queue (u : State) : (after phsAdopt (after boundarySync (after ppsOutRise (after (fun s => raise s ppsEdgeFld 1) u)))).get
      F.QUE_MET_QUEUE = u.get F.QUE_MET_QUEUE := by
    rw [get_after_butKey, get_after_butKey, get_after_butKey, get_after_butKey]
    · exact fun t => raise_ok (by simp [ppsEdgeFld, keyAt]) trivial
    · exact fun t => ppsOutRise_ok (by simp) t
    · exact fun t => boundarySync_ok (by simp) t
    · exact fun t => phsAdopt_ok ⟨fun _ _ _ => trivial, trivial⟩ (Foot.fields_butKey (by decide)) (by simp) t
  refine effs_onlyIf.2 fun _ => effs_inOrder_cons.2 ⟨raise_ok hf.2.2.2.1 hp.1, effs_inOrder_cons.2 ⟨?_, effs_inOrder_cons.2 ⟨?_, effs_inOrder_cons.2 ⟨?_, effs_inOrder_cons.2 ⟨?_, ?_⟩⟩⟩⟩⟩
  · simp [hp]
  · simp [hf]
  · simp [ha, hf, hp]
  · exact boundaryFreeze_ok (by rwa [queue]) (by simp [hf]) (by simp [hp])
  · simp [hf, hp]

@[simp] theorem schedDone_ok (hf : φ.Fields (tripFlds ++ [F.RDG_SCHED_STAT_ARMED, F.RDG_SCHED_STAT_DONE, F.PHS_RUN_SET, F.PWX_GEN_GRP]))
    (hp : φ.Parts [.schedNow, .ldg, .setNow, .pairs, .pwm, .cmps, .fad, .crn, .mpt, .rdg, .lanes]) (s : State) :
    Effs φ.ok (schedDone s) := by
  simp at hf hp
  have pins := applyAllPins_ok (φ := φ) (by simp [hf]) (by simp [hp])
  have cairn (t : State) : Effs φ.ok (crnTrigger 4 0 true t) := crnTrigger_ok (by simp [hf]) (by simp [hp]) t 4 0 true
  unfold schedDone
  refine effs_ite.2 ⟨fun _ => effs_nil, fun _ => effs_inOrder ?_⟩
  simp [genWrite, pins, cairn, hf, hp, Part.forall_iff, Part.same]

@[simp] theorem remoteRead_ok (hf : φ.Fields (readOwn ++ reqOwn ++ dropOwn ++ crcOwn)) (hp : φ.Parts [.freeCtr, .setNow, .rdg, .lanes])
    (n : Nat) (f : Frame) (s : State) : Effs φ.ok (remoteRead n f s) := by
  simp at hf hp
  have words := readWords_ok (φ := φ) (by simp [hf]) (by simp [hp])
  refine deliver_ok (by simp [hf]) hp.2.1 (fun t => ?_) n 3 0x30 f s
  simp [effs_ite, words, hf, hp]

@[simp] theorem bulkRequest_ok (hf : φ.Fields (reqOwn ++ dropOwn ++ crcOwn)) (hp : φ.Parts [.setNow, .rdg, .lanes])
    (n : Nat) (f : Frame) (s : State) : Effs φ.ok (bulkRequest n f s) := by
  simp at hf hp
  refine deliver_ok (by simp [hf]) hp.1 (fun t => ?_) n 4 0x40 f s
  simp [effs_ite, hf, hp]

@[simp] theorem bulkFragmentSend_ok (hf : φ.Fields (readOwn ++ reqOwn ++ dropOwn)) (hp : φ.Parts [.freeCtr, .setNow, .rdg, .lanes])
    (s : State) : Effs φ.ok (bulkFragmentSend s) := by
  simp at hf hp
  have words := readWords_ok (φ := φ) (by simp [hf]) (by simp [hp])
  unfold bulkFragmentSend
  split
  · exact effs_nil
  · simp [words, hf, hp]

end

end Sys2Proof.Machine
end

section
/-! Frames from footprints. -/

namespace Sys2Proof.Machine

/-- A footprint takes in a reach, parts of the blocks and queues. -/
structure Foot.Covers (φ : Foot) (r : Reach) (ps : List Part) (qu : Nat → Prop) : Prop where
  fld : φ.Fields r.fields
  page : ∀ k, pageOfKey k ∈ r.pages → φ.key k
  part : φ.Parts ps
  force : ∀ k, pageOfKey k ∈ r.force → φ.force k
  pend : ∀ k, pageOfKey k ∈ r.pend → φ.pend k
  word : ∀ a, r.words a → φ.word a
  queue : ∀ q, qu q → φ.queue q
  store : φ.store

theorem Foot.covers_ofReach (r : Reach) (ps : List Part) (qu : Nat → Prop) : (Foot.ofReach r ps qu).Covers r ps qu :=
  ⟨Foot.fields_ofReach r ps qu, fun _ h => .inl h, Foot.parts_ofReach r ps qu, fun _ h => h, fun _ h => h, fun _ h => h, fun _ h => h, trivial⟩

section
variable {r : Reach} {ps : List Part} {qu : Nat → Prop} {p : Prog} {s t : State}

/-- A meaning that keeps to a reach and to parts has the frame that they make. -/
theorem Foot.frame_run (ht : run p s = .next t) (hr : (Foot.ofReach r ps qu).QueuesAt s)
    (h : ∀ φ : Foot, φ.Covers r ps qu → Effs φ.ok (p s)) : Within r s t ∧ t.b = s.b.take ps t.b :=
  Foot.frame hr (h _ (Foot.covers_ofReach r ps qu)) ht

theorem Foot.frame_main (ht : run (onMain p) s = .next t) (hr : (Foot.ofReach r ps qu).QueuesAt s)
    (h : ∀ φ : Foot, φ.Covers r ps qu → Effs φ.ok (p s)) : Within r s t ∧ t.b = s.b.take ps t.b :=
  Foot.frame_run ht hr fun φ c => effs_onlyIf.2 fun _ => h φ c

end

section
variable {fs : List Fld} {ps : List Part} {p : Prog} {s t : State}

/-- The frame of a meaning that writes registers and blocks alone. -/
theorem Foot.frame_fields (ht : run p s = .next t) (h : ∀ φ : Foot, φ.Fields fs → φ.Parts ps → Effs φ.ok (p s)) :
    Within { fields := fs } s t ∧ t.b = s.b.take ps t.b :=
  Foot.frame_run (qu := fun _ => False) ht (Foot.queuesAt_of_none (fun _ h => h) s) fun φ c => h φ c.fld c.part

theorem Foot.frame_main_fields (ht : run (onMain p) s = .next t) (h : ∀ φ : Foot, φ.Fields fs → φ.Parts ps → Effs φ.ok (p s)) :
    Within { fields := fs } s t ∧ t.b = s.b.take ps t.b :=
  Foot.frame_fields ht fun φ hf hp => effs_onlyIf.2 fun _ => h φ hf hp

theorem Foot.frame_power_fields (ht : run (onPower p) s = .next t) (h : ∀ φ : Foot, φ.Fields fs → φ.Parts ps → Effs φ.ok (p s)) :
    Within { fields := fs } s t ∧ t.b = s.b.take ps t.b :=
  Foot.frame_fields ht fun φ hf hp => effs_onlyIf.2 fun _ => h φ hf hp

end

section
variable {φ : Foot} {r : Reach} {ps : List Part} {qu : Nat → Prop} (c : φ.Covers r ps qu)
include c

/-- A page of a reach holds the ranges of addresses on it. -/
theorem Foot.Covers.takes {lo hi : Nat} (hp : lo / 0x1000 ∈ r.pend) (hh : hi ≤ (lo / 0x1000 + 1) * 0x1000) : φ.Takes lo hi := by
  intro k h1 h2
  have page : pageOfKey k = lo / 0x1000 := by unfold keyAt pageOfKey at *; omega
  exact c.pend k (page ▸ hp)

theorem Foot.Covers.adopts {lo hi : Nat} (hp : lo / 0x1000 ∈ r.force) (hh : hi ≤ (lo / 0x1000 + 1) * 0x1000) : φ.Adopts lo hi := by
  refine ⟨fun k h1 h2 => ?_, c.store⟩
  have page : pageOfKey k = lo / 0x1000 := by unfold keyAt pageOfKey at *; omega
  exact c.force k (page ▸ hp)

theorem Foot.Covers.commits {lo hi : Nat} (hf : lo / 0x1000 ∈ r.force) (hp : lo / 0x1000 ∈ r.pend)
    (hh : hi ≤ (lo / 0x1000 + 1) * 0x1000) : φ.ok (.commit (keyAt lo) (keyAt hi)) := by
  refine ⟨fun k h1 h2 => ?_, c.store⟩
  have page : pageOfKey k = lo / 0x1000 := by unfold keyAt pageOfKey at *; omega
  exact ⟨c.force k (page ▸ hf), c.pend k (page ▸ hp)⟩

end

/-- The place of a queue in memory is as it was while its settings in force are (R440). -/
theorem Foot.queuesAt_ofReach {r : Reach} {ps : List Part} {q : Nat} {s : State}
    (hb : pageOfKey (F.QUE_Q_BASE_W q).key ∉ r.force) (hz : pageOfKey (F.QUE_Q_SIZE_W q).key ∉ r.force)
    (hw : ∀ a, queueWord s q a → r.words a) : (Foot.ofReach r ps (· = q)).QueuesAt s := by
  rintro t kept n rfl w
  have place : t.qAddr n w = s.qAddr n w := by
    unfold State.qAddr
    rw [kept.force _ hb, kept.force _ hz]
  exact hw _ ⟨w, place⟩

end Sys2Proof.Machine

namespace Sys2Proof

open Machine

/-- Settles O55: each command's effects are within the footprint that its reach and its parts make. -/
theorem frameTimeAndLinks : Obligations.FrameTimeAndLinks := by
  and_intros
  · refine fun r s t ht => Foot.frame_fields (ps := [.setNow, .sys, .inReset, .plumb, .bed, .ldg, .crn, .phs]) ht
      fun φ hf hp => ?_
    simp at hf hp
    have qual : φ.key (refQualFld r).key := by fin_cases r <;> simp [refQualFld, hf]
    apply refQualified_ok <;> simp [holdOwn, hf, hp, qual]
  · refine fun r s t ht => Foot.frame_fields (ps := [.setNow, .sys, .inReset, .plumb, .bed, .ldg, .crn, .phs]) ht
      fun φ hf hp => ?_
    simp at hf hp
    have qual : φ.key (refQualFld r).key ∧ φ.key (refLossFld r).key ∧ φ.key (refLossFld r).irq.key := by
      fin_cases r <;> simp [refQualFld, refLossFld, hf]
    apply refLost_ok <;> simp [holdOwn, hf, hp, qual]
  · exact fun s t ht => Foot.frame_main_fields (ps := [.setNow, .sys, .inReset, .plumb, .bed, .ldg, .crn, .phs]) ht
      fun φ hf hp => by
      simp at hf hp
      apply lockRawLost_ok <;> simp [holdOwn, hf, hp]
  · exact fun code phase s t ht => Foot.frame_main_fields (ps := [.setNow, .sys, .inReset, .plumb, .tim, .now, .bed, .ldg,
      .crn, .phs]) ht fun φ hf hp => by
      simp at hf hp
      apply lineLock_ok <;> simp [codeOwn, hf, hp]
  · exact fun s t ht => Foot.frame_main_fields (ps := [.setNow, .plumb]) ht fun φ hf hp => by
      simp at hf hp
      apply hopMiss_ok <;> simp [hf, hp]
  · exact fun s t ht => Foot.frame_main_fields (ps := [.plumb, .tim, .now]) ht fun φ hf hp => by
      simp at hf hp
      apply phaseMoveStep_ok <;> simp [hf, hp]
  · exact fun s t ht => Foot.frame_main_fields (ps := [.plumb]) ht fun φ hf hp => by
      simp at hf hp
      apply lockDeclare_ok <;> simp [hf, hp]
  · exact fun s t ht => Foot.frame_fields (ps := [.plumb]) ht fun φ hf hp => by
      simp at hf hp
      apply lockClear_ok <;> simp [hf, hp]
  · exact fun s t ht => Foot.frame_main_fields (ps := [.setNow, .ldg]) ht fun φ hf hp => by
      simp at hf hp
      apply lockFiltFault_ok <;> simp [hf, hp]
  · exact fun s t ht => Foot.frame_main_fields (ps := []) ht fun φ hf hp => by
      simp at hf
      apply hoTrained_ok
      simp [hf]
  · exact fun s t ht => Foot.frame_main_fields (ps := [.setNow, .sys, .inReset, .plumb, .ldg, .crn, .phs]) ht fun φ hf hp => by
      simp at hf hp
      apply holdoverLong_ok <;> simp [hf, hp]
  · refine fun s t ht => Foot.frame_main (ps := [.setNow, .commitNow, .commitWas, .waiting, .ldg]) ht
      (Foot.queuesAt_of_none (fun _ h => h) s) fun φ c => clkPhaseCommit_ok (c.takes (by simp) (by simp)) ?_ s
    have parts := c.part
    simp at parts
    simp [parts]
  · exact fun s t ht => Foot.frame_main_fields (ps := []) ht fun φ hf hp => by
      simp at hf
      apply clearStored_ok
      simp [hf]
  · exact fun s t ht => Foot.frame_main_fields (ps := [.setNow, .sys, .inReset, .plumb, .bed, .ldg, .crn, .phs]) ht
      fun φ hf hp => by
      simp at hf hp
      apply clkSwitch_ok <;> simp [holdOwn, hf, hp]
  · exact fun s t ht => Foot.frame_main_fields (ps := [.setNow, .sys, .inReset, .plumb, .ldg, .crn, .phs]) ht fun φ hf hp => by
      simp at hf hp
      apply relockFull_ok <;> simp [hf, hp]
  · exact fun phase settled s t ht => Foot.frame_main_fields (ps := [.freeCtr, .setNow, .sys, .inReset, .tim, .now, .bed,
      .ldg, .sec, .crn, .phs]) ht fun φ hf hp => by
      simp at hf hp
      apply ppsInEdge_ok <;> simp [hf, hp]
  · exact fun s t ht => Foot.frame_main_fields (ps := [.setNow, .sys, .inReset, .ldg, .crn, .phs]) ht fun φ hf hp => by
      simp at hf hp
      apply ppsMissing_ok <;> simp [hf, hp]
  · refine fun s t ht => Foot.frame_main (ps := [.setNow, .waiting, .sys, .inReset, .tim, .now, .ldg, .sec, .queSeq, .queNow,
      .crn, .lanes,
      .rdg, .phs, .met, .acc]) (qu := (· = s.get F.QUE_MET_QUEUE)) ht ?_ fun φ c => ?_
    · have few : s.get F.QUE_MET_QUEUE < 32 := s.get_lt F.QUE_MET_QUEUE
      exact Foot.queuesAt_ofReach (by simp [pageOfKey]; omega) (by simp [pageOfKey]; omega) fun _ h => h
    · obtain ⟨fields, parts⟩ := And.intro c.fld c.part
      simp at fields parts
      refine secondBoundary_ok ⟨⟨by simp [fields], by simp [parts]⟩, c.queue _ rfl,
          c.store⟩ (c.adopts (by simp) (by simp)) ?_ ?_ <;>
        simp [raccOwn, bulkOwn, hopOwn, unreachOwn, fields, parts]
  · exact fun s t ht => Foot.frame_main_fields (ps := [.tim, .now]) ht fun φ hf hp => by
      simp at hf hp
      apply ppsOutEnd_ok
      simp [hp]
  · refine fun s t ht => Foot.frame_main (ps := [.setNow, .commitWas, .tim, .now, .ldg, .sec]) ht
      (Foot.queuesAt_of_none (fun _ h => h) s) fun φ c => ?_
    obtain ⟨fields, parts⟩ := And.intro c.fld c.part
    simp at fields parts
    exact todCommit_ok (c.commits (by simp) (by simp) (by simp)) (by simp [fields]) (by simp [parts]) s
  · exact fun v s t ht => Foot.frame_main_fields (ps := [.setNow, .sys, .inReset, .tim, .now, .bed, .ldg, .crn, .phs]) ht
      fun φ hf hp => by
      simp at hf hp
      apply timCtrlWrite_ok <;> simp [validOwn, hf, hp]
  · exact fun s t ht => Foot.frame_main_fields (ps := [.setNow, .sys, .inReset, .tim, .now, .bed, .ldg, .crn, .phs]) ht
      fun φ hf hp => by
      simp at hf hp
      apply invalidate_ok <;> simp [validOwn, hf, hp]
  · exact fun s t ht => Foot.frame_main_fields (ps := []) ht fun φ hf hp => by
      simp at hf
      apply leapSet_ok
      simp [hf]
  · exact fun s t ht => Foot.frame_main_fields (ps := []) ht fun φ hf hp => by
      simp at hf
      apply leapClr_ok
      simp [hf]
  · exact fun s t ht => Foot.frame_main_fields (ps := []) ht fun φ hf hp => by
      simp at hf
      apply timNowRead_ok
      simp [hf]
  · exact fun v s t ht => Foot.frame_main_fields (ps := [.setNow, .sys, .inReset, .ldg, .crn, .lanes, .rdg, .phs]) ht
      fun φ hf hp => by
      simp at hf hp
      apply rdgCtrlWrite_ok <;> simp +contextual [upOwn, laneOwn, roleOwn, hf, hp]
  · exact fun s t ht => Foot.frame_main_fields (ps := [.setNow, .sys, .inReset, .ldg, .crn, .lanes, .rdg, .phs]) ht
      fun φ hf hp => by
      simp at hf hp
      apply keepaliveSend_ok
      simp [hp]
  · exact fun n k s t ht => Foot.frame_main_fields (ps := [.setNow, .sys, .inReset, .ldg, .crn, .lanes, .rdg, .phs]) ht
      fun φ hf hp => by
      simp at hf hp
      apply keepalive_ok <;> simp [upOwn, hf, hp]
  · exact fun lane f s t ht => Foot.frame_main_fields (ps := [.setNow, .lanes, .rdg]) ht fun φ hf hp => by
      simp at hf hp
      apply frameForward_ok <;> simp [crcOwn, raccOwn, bulkOwn, hopOwn, unreachOwn, hf, hp]
  · refine fun n f s t ht => Foot.frame_main_fields (ps := [.setNow, .ldg, .crn, .lanes, .rdg, .pairs, .pwm, .cmps, .mpt,
      .fad]) ht
      fun φ hf hp => ?_
    simp at hf hp
    apply intertrip_ok <;> simp [crcOwn, hf, hp]
  · exact fun groups s t ht => Foot.frame_main_fields (ps := [.setNow, .lanes, .rdg]) ht fun φ hf hp => by
      simp at hf hp
      apply itCmd_ok <;> simp [raccOwn, bulkOwn, hopOwn, unreachOwn, hf, hp]
  · exact fun n f s t ht => Foot.frame_main_fields (ps := [.setNow, .ldg, .crn, .rdg]) ht fun φ hf hp => by
      simp at hf hp
      apply nodeLost_ok <;> simp [crcOwn, hopOwn, hf, hp]
  · exact fun phase s t ht => Foot.frame_main_fields (ps := [.setNow, .lanes, .rdg]) ht fun φ hf hp => by
      simp at hf hp
      apply exchangeStart_ok <;> simp [hopOwn, hf, hp]
  · exact fun n f phase turn s t ht => Foot.frame_main_fields (ps := [.setNow, .lanes, .rdg]) ht fun φ hf hp => by
      simp at hf hp
      apply delayReq_ok <;> simp [crcOwn, hopOwn, hf, hp]
  · exact fun n f phase s t ht => Foot.frame_main_fields (ps := [.freeCtr, .setNow, .sys, .inReset, .tim, .now, .bed, .ldg,
      .crn, .lanes, .rdg, .phs]) ht fun φ hf hp => by
      simp at hf hp
      apply delayResp_ok <;> simp [validOwn, crcOwn, hopOwn, hf, hp]
  · exact fun s t ht => Foot.frame_main_fields (ps := [.setNow, .sys, .inReset, .tim, .now, .bed, .ldg, .crn, .rdg,
      .phs]) ht fun φ hf hp => by
      simp at hf hp
      apply exchangeTimeout_ok <;> simp [validOwn, hf, hp]
  · exact fun s t ht => Foot.frame_main_fields (ps := [.setNow, .sys, .inReset, .ldg, .crn, .lanes, .rdg, .phs]) ht
      fun φ hf hp => by
      simp at hf hp
      apply echoCheck_ok
      simp [hp]
  · exact fun n probe own rt s t ht => Foot.frame_main_fields (ps := [.setNow, .sys, .inReset, .ldg, .crn, .lanes, .rdg,
      .phs]) ht fun φ hf hp => by
      simp at hf hp
      apply echo_ok <;> simp [hf, hp]
  · exact fun s t ht => Foot.frame_main_fields (ps := [.setNow, .sys, .inReset, .ldg, .crn, .lanes, .rdg, .phs]) ht
      fun φ hf hp => by
      simp at hf hp
      apply recal_ok
      simp [hp]
  · exact fun n passed corr s t ht => Foot.frame_main_fields (ps := [.setNow, .sys, .inReset, .ldg, .crn, .lanes, .rdg,
      .phs]) ht fun φ hf hp => by
      simp at hf hp
      apply recalDone_ok <;> simp [calOwn, hf, hp]
  · exact fun s t ht => Foot.frame_main_fields (ps := []) ht fun φ hf hp => by
      simp at hf
      apply rdgCntClr_ok
      simp [hf]
  · exact fun n s t ht => Foot.frame_main_fields (ps := [.setNow, .waiting, .sys, .inReset, .ldg, .crn, .lanes, .rdg,
      .phs]) ht fun φ hf hp => by
      simp at hf hp
      apply neighbourLost_ok <;> simp [upOwn, raccOwn, bulkOwn, hopOwn, unreachOwn, hf, hp]
  · exact fun n s t ht => Foot.frame_main_fields (ps := [.setNow, .sys, .inReset, .ldg, .crn, .lanes, .rdg, .phs]) ht
      fun φ hf hp => by
      simp at hf hp
      apply unwrap_ok <;> simp [upOwn, hf, hp]
  · refine fun mask s t ht => Foot.frame_main (ps := [.setNow, .commitWas, .ldg]) ht
      (Foot.queuesAt_of_none (fun _ h => h) s) fun φ c => ?_
    obtain ⟨fields, parts⟩ := And.intro c.fld c.part
    simp at fields parts
    refine schedCommit_ok (fun n hn => ?_) (by simp [fields]) (by simp [parts]) _ s
    have page : (0x10300 + 0x10 * n) / 0x1000 = 0x10 := by omega
    exact c.commits (by simp [page]) (by simp [page]) (by omega)
  · refine fun s t ht => Foot.frame_main_fields (ps := [.setNow, .schedNow, .ldg, .crn, .lanes, .rdg, .pairs, .pwm, .cmps,
      .mpt, .fad]) ht
      fun φ hf hp => ?_
    simp at hf hp
    apply schedDone_ok <;> simp [hf, hp]
  · exact fun write count s t ht => Foot.frame_main_fields (ps := [.setNow, .lanes, .rdg]) ht fun φ hf hp => by
      simp at hf hp
      apply raccCmd_ok <;> simp [raccOwn, bulkOwn, hopOwn, unreachOwn, hf, hp]
  · exact fun n f s t ht => Foot.frame_main_fields (ps := [.freeCtr, .setNow, .lanes, .rdg]) ht fun φ hf hp => by
      simp at hf hp
      apply remoteRead_ok <;> simp +contextual [crcOwn, raccOwn, bulkOwn, hopOwn, unreachOwn, readOwn, latchOwn, prbsOwn, rawOwn, accOwn,
          frzOwn, popOwn, showOwn, eccOwn, errOwn, hf, hp]
  · exact fun n f s t ht => Foot.frame_main_fields (ps := [.setNow, .rdg]) ht fun φ hf hp => by
      simp at hf hp
      apply readResponse_ok <;> simp +contextual [crcOwn, raccOwn, hopOwn, hf, hp]
  · exact fun n f s t ht => Foot.frame_main_fields (ps := [.setNow, .rdg]) ht fun φ hf hp => by
      simp at hf hp
      apply writeResponse_ok <;> simp [crcOwn, raccOwn, hopOwn, hf, hp]
  · exact fun s t ht => Foot.frame_main_fields (ps := [.setNow, .rdg]) ht fun φ hf hp => by
      simp at hf hp
      apply raccTimeout_ok <;> simp [raccOwn, hf, hp]
  · exact fun queue count s t ht => Foot.frame_main_fields (ps := [.setNow, .lanes, .rdg]) ht fun φ hf hp => by
      simp at hf hp
      apply bulkCmd_ok <;> simp [raccOwn, bulkOwn, hopOwn, unreachOwn, hf, hp]
  · exact fun n f s t ht => Foot.frame_main_fields (ps := [.setNow, .lanes, .rdg]) ht fun φ hf hp => by
      simp at hf hp
      apply bulkRequest_ok <;> simp [crcOwn, raccOwn, bulkOwn, hopOwn, unreachOwn, hf, hp]
  · exact fun s t ht => Foot.frame_main_fields (ps := [.freeCtr, .setNow, .lanes, .rdg]) ht fun φ hf hp => by
      simp at hf hp
      apply bulkFragmentSend_ok <;> simp +contextual [raccOwn, bulkOwn, hopOwn, unreachOwn, readOwn, latchOwn, prbsOwn, rawOwn, accOwn,
          frzOwn, popOwn, showOwn, eccOwn, errOwn, hf, hp]
  · refine fun n f s t ht => Foot.frame_main (ps := [.setNow, .queSeq, .queNow,
      .rdg]) (qu := (· = s.b.rdg.bulk.elim 0 fun m => m.queue))
      ht (Foot.queuesAt_ofReach (by simp) (by simp) fun _ h => h) fun φ c => ?_
    obtain ⟨fields, parts⟩ := And.intro c.fld c.part
    simp at fields parts
    refine bulkFragment_ok n f s (fun m hm => ?_) ?_ ?_
    · have queue := c.queue m.queue (by simp [Option.mem_def.1 hm])
      simp [Option.mem_def.1 hm] at fields
      exact ⟨⟨by simp [fields], by simp [parts]⟩, queue, c.store⟩
    · simp [bulkOwn, crcOwn, hopOwn, fields]
    · simp [parts]
  · exact fun s t ht => Foot.frame_main_fields (ps := [.setNow, .rdg]) ht fun φ hf hp => by
      simp at hf hp
      apply bulkTimeout_ok <;> simp [bulkOwn, hf, hp]
  · exact fun n v s t ht => Foot.frame_main_fields (ps := [.setNow, .sys, .inReset, .ldg, .crn, .lanes, .phs]) ht
      fun φ hf hp => by
      simp at hf hp
      apply lnkCtrlWrite_ok <;> simp +contextual [laneOwn, roleOwn, hf, hp]
  · exact fun n s t ht => Foot.frame_main_fields (ps := [.lanes]) ht fun φ hf hp => by
      simp at hf hp
      apply signalDetect_ok <;> simp [hf, hp]
  · exact fun n phase freq s t ht => Foot.frame_main_fields (ps := [.lanes]) ht fun φ hf hp => by
      simp at hf hp
      apply bitLock_ok <;> simp [hf, hp]
  · exact fun n s t ht => Foot.frame_main_fields (ps := [.lanes]) ht fun φ hf hp => by
      simp at hf hp
      apply blockLock_ok <;> simp [hf, hp]
  · exact fun n inverted s t ht => Foot.frame_main_fields (ps := [.setNow, .ldg, .lanes]) ht fun φ hf hp => by
      simp at hf hp
      apply polarity_ok <;> simp [hf, hp]
  · refine fun n swapped partnerLane skew s t ht => Foot.frame_main_fields (ps := [.setNow, .ldg, .lanes]) ht fun φ hf hp => ?_
    simp at hf hp
    have stage (k : Nat) (few : k < 8) : φ.key (F.LNK_STATUS_STAGE k).key := by simp [hf, few]
    exact laneReversal_ok (by simp [hf]) (fun lower => stage _ (by omega)) (by simp [hp]) swapped _ skew s
  · exact fun n measured corr rt s t ht => Foot.frame_main_fields (ps := [.freeCtr, .setNow, .sys, .inReset, .ldg, .crn,
      .lanes, .phs]) ht fun φ hf hp => by
      simp at hf hp
      apply delayMeasurement_ok <;> simp [calOwn, hf, hp]
  · exact fun n s t ht => Foot.frame_main_fields (ps := [.setNow, .sys, .inReset, .ldg, .crn, .lanes, .but, .phs]) ht
      fun φ hf hp => by
      simp at hf hp
      apply laneReady_ok <;> simp [butOwn, hf, hp]
  · exact fun n w s t ht => Foot.frame_main_fields (ps := [.lanes]) ht fun φ hf hp => by
      simp at hf hp
      apply train_ok <;> simp [calOwn, hf, hp]
  · exact fun n s t ht => Foot.frame_main_fields (ps := [.setNow, .ldg, .lanes]) ht fun φ hf hp => by
      simp at hf hp
      apply stageTmo_ok <;> simp [laneOwn, hf, hp]
  · exact fun n cause s t ht => Foot.frame_main_fields (ps := [.freeCtr, .setNow, .sys, .inReset, .ldg, .crn, .lanes,
      .phs]) ht fun φ hf hp => by
      simp at hf hp
      apply linkDown_ok <;> simp [laneOwn, hf, hp]
  · exact fun n s t ht => Foot.frame_main_fields (ps := [.freeCtr, .setNow, .sys, .inReset, .ldg, .crn, .lanes, .phs]) ht
      fun φ hf hp => by
      simp at hf hp
      apply cdrRange_ok <;> simp [laneOwn, hf, hp]
  · exact fun n s t ht => Foot.frame_main_fields (ps := [.setNow, .lanes]) ht fun φ hf hp => by
      simp at hf hp
      apply bitslip_ok <;> simp [hf, hp]
  · exact fun n s t ht => Foot.frame_main_fields (ps := [.setNow, .sys, .inReset, .ldg, .crn, .lanes, .phs]) ht
      fun φ hf hp => by
      simp at hf hp
      apply retrain_ok <;> simp +contextual [laneOwn, hf, hp]
  · exact fun n s t ht => Foot.frame_main_fields (ps := [.lanes]) ht fun φ hf hp => by
      simp at hf hp
      apply prbsInject_ok
      simp [hp]
  · exact fun n s t ht => Foot.frame_main_fields (ps := [.lanes]) ht fun φ hf hp => by
      simp at hf hp
      apply prbsCntClr_ok <;> simp [hf, hp]
  · exact fun n v s t ht => Foot.frame_main_fields (ps := [.setNow, .lanes]) ht fun φ hf hp => by
      simp at hf hp
      apply lnkLoopWrite_ok <;> simp +contextual [laneOwn, hf, hp]
  · exact fun n v s t ht => Foot.frame_main_fields (ps := [.setNow, .sys, .inReset, .ldg, .crn, .lanes, .phs]) ht
      fun φ hf hp => by
      simp at hf hp
      apply lnkPrbsWrite_ok <;> simp [hf, hp]
  · exact fun n s t ht => Foot.frame_main_fields (ps := [.freeCtr, .lanes]) ht fun φ hf hp => by
      simp at hf hp
      apply prbsLock_ok <;> simp [hf, hp]
  · exact fun n s t ht => Foot.frame_main_fields (ps := [.setNow]) ht fun φ hf hp => by
      simp at hf hp
      apply prbsResync_ok <;> simp [hf, hp]
  · exact fun n errors s t ht => Foot.frame_main_fields (ps := [.setNow]) ht fun φ hf hp => by
      simp at hf hp
      apply prbsSat_ok <;> simp [hf, hp]
  · exact fun n s t ht => Foot.frame_main_fields (ps := []) ht fun φ hf hp => by
      simp at hf
      apply prbsBitsRead_ok
      simp [hf]
  · exact fun n w s t ht => Foot.frame_main_fields (ps := []) ht fun φ hf hp => by
      simp at hf
      apply rawRxRead_ok
      simp [hf]
  · exact fun s t ht => Foot.frame_main_fields (ps := [.setNow, .plumb]) ht fun φ hf hp => by
      simp at hf hp
      apply fullSearchFail_ok <;> simp [hf, hp]

end Sys2Proof
end

section
/-! The timebase: PPS, time of day, VALID, leap seconds and the latching read (R51 to R60). -/

namespace Sys2Proof.Machine

/-- A commit that is noted for its cycle: its own effects, then the note. -/
theorem after_noted (of : CommitOf) (p : Prog) (s : State) :
    after (noted of p) s = (after p s).updB fun b => { b with commitWas := b.commitWas ++ [commitWas of (0, []) (p s) s] } := by
  simp [after, noted, Eff.apply]

/-- What is noted of a commit depends on its effects alone. -/
theorem after_noted_congr {p q : Prog} {s : State} (h : p s = q s) (of : CommitOf) : after (noted of p) s = after (noted of q) s := by
  simp only [after, noted, h]

/-- A command of the main die out of reset runs its meaning. -/
theorem run_onMain {s : State} (hl : Live s) (p : Prog) : run (onMain p) s = .next (after p s) :=
  congrArg Host.Outcome.next (after_onMain hl p)

/-- What an effect shows in a register field stands until an effect touches its key. -/
theorem get_applyAll_set {es : List Eff} {f : Fld} (h : Effs (·.Off f.key) es) (v : Nat) (s : State) :
    (applyAll s (.set f v :: es)).get f = v % 2 ^ f.w := by
  rw [applyAll_cons, get_of_effs_off h, Eff.apply, State.get_put_self]

end Sys2Proof.Machine

namespace Sys2Proof

open Machine

/-- Settles O24: each command's effects are those of its meaning. -/
theorem timebaseCommands : Obligations.TimebaseCommands := by
  refine ⟨fun s hl shown => ?_, fun s hl past => ?_, fun s hl early => ?_, fun s hl gm => ?_, fun s hl gm => ?_, fun s hl => ?_,
    fun s hl => ?_, fun s hl => ?_, fun s hl => ?_⟩
  · exact (run_onMain hl _).trans (congrArg _ (by simp [after, ppsMissing, shown, inOrder, Prog.andThen]))
  · exact (run_onMain hl _).trans (congrArg _ (by simp [after, ppsOutEnd, past, effIf, ppsOutFall]))
  · exact (run_onMain hl _).trans (congrArg _ (by simp [after, ppsOutEnd, effIf, Int.not_lt.2 early]))
  · refine ⟨_, run_onMain hl _, after_noted_congr (if_pos gm) _, ?_⟩
    rw [todCommit, after_noted, after, if_pos gm]
    exact congrArg (· != 0) (State.get_put_self _ F.TIM_STATUS_TOD_ARMED 1)
  · have refuse : ¬ s.on F.TIM_STATUS_GM = true := by simp [gm]
    refine ⟨_, run_onMain hl _, after_noted_congr (if_neg refuse) _, ?_⟩
    rw [todCommit, after_noted, after, if_neg refuse]
    rfl
  · exact run_onMain hl _
  · exact run_onMain hl _
  · exact run_onMain hl _
  · refine ⟨_, run_onMain hl _, ?_⟩
    simp [after, timNowRead, stampWords, stampWordsAt, stampFrac, stampOf, Eff.apply, State.get_put, tuSec, tuNs]
    omega

end Sys2Proof
end

section
/-! The footprints of the meanings of the safety block, of the power die and of redundancy. -/

namespace Sys2Proof.Machine

/-- What a failed die of a redundant pair shows, and the inhibit (R386, R241). -/
def failOwn : List Fld := [F.BUT_FAULT_CAUSE] ++ flags [F.BUT_STICKY_FAILED]
def inhOwn : List Fld := [F.PWX_STATUS_INHIBIT] ++ flags [F.PWX_STICKY_INHIBIT]
/-- What the safety block shows of its state, of a fault, of its inputs, of a response (R359 to R372). -/
def parOwn : List Fld := [F.PAR_STATUS_STATE, F.SYS_STATUS_PAR_INIT_DONE, F.PAR_STATUS_OUT_ON, F.PAR_STATUS_INH]
def parFaultOwn : List Fld := [F.PAR_FAULT_CAUSE, F.PAR_FAULT_IN, F.PAR_FAULT_SW] ++ flags [F.PAR_STICKY_FAULT]
def pinsOwn : List Fld := [F.PAR_PINS_RAW, F.PAR_STATUS_PERMIT, F.PAR_STATUS_DISC]
def respOwn : List Fld :=
  [F.PAR_RESP_TIME_US, F.PAR_RESP_INH_US, F.PAR_RESP_IN_COMPAT, F.PAR_RESP_IN_VALID, F.PAR_RESP_IN_IN]
/-- What the plausibility monitor shows of its channels together (R192). -/
def fpmOwn : List Fld :=
  [F.FPM_STATUS_ACTIVE, F.FPM_STATUS_HOLD_ACTIVE, F.FPM_STATUS_TRIP_ASSERTED, F.FPM_STATUS_TAKEOVER_REQ, F.FPM_STATUS_IN_EVENT]
/-- What Bedrock shows of its store, of the harvester, of its source, and of a rail (R404 to R409, R486). -/
def storeOwn : List Fld := [F.BED_VSTORE_MV, F.BED_EAVAIL_NJ, F.BED_STATUS_RES_OK]
def harvOwn : List Fld := [F.BED_STATUS_HARV_RUN, F.BED_STATUS_COLD]
def srcOwn : List Fld := [F.BED_STATUS_SRC] ++ flags [F.BED_STICKY_SRC_CHANGE]
def railOwn : List Fld := [F.MON_STATUS_RAIL_OUT] ++ flags [F.MON_STICKY_RAIL_OUT]

section
variable {φ : Foot}

@[simp] theorem setInhibit_ok (on : Bool) (hf : φ.Fields (tripFlds ++ inhOwn))
    (hp : φ.Parts [.ldg, .setNow, .pairs, .pwm, .cmps, .fad, .crn, .mpt, .rdg, .lanes]) (s : State) : Effs φ.ok
    (setInhibit on s) := by
  simp [inhOwn] at hf hp
  simp [setInhibit, effs_ite, hf, hp]

@[simp] theorem butFaultUpdate_ok (hf : φ.Fields (tripFlds ++ butOwn ++ failOwn))
    (hp : φ.Parts [.setNow, .but, .ldg, .sys, .pairs, .pwm, .cmps, .fad, .crn, .mpt, .rdg, .lanes]) (s : State) : Effs φ.ok
    (butFaultUpdate s) := by
  have own := hf
  simp [butOwn, failOwn] at own
  simp at hf hp
  simp [butFaultUpdate, effs_ite, own, hf, hp]

@[simp] theorem fpmStatus_ok (hf : φ.Fields (tripFlds ++ butOwn ++ failOwn ++ fpmOwn))
    (hp : φ.Parts [.setNow, .but, .ldg, .sys, .pairs, .pwm, .cmps, .fad, .crn, .mpt, .rdg, .lanes]) (s : State) : Effs φ.ok
    (fpmStatus s) := by
  have own := hf
  simp [butOwn, failOwn, fpmOwn] at own
  simp at hf hp
  simp [fpmStatus, own, hf, hp]

@[simp] theorem fpmDiscard_ok (hf : φ.Fields (tripFlds ++ butOwn ++ failOwn ++ fpmOwn ++
    (List.range 64).map F.FPM_CH_HOLD_COUNT)) (hp : φ.Parts [.fpm, .setNow, .but, .ldg, .sys, .pairs, .pwm, .cmps, .fad,
      .crn, .mpt, .rdg, .lanes]) (s : State) : Effs φ.ok (fpmDiscard s) := by
  have own := hf
  simp [butOwn, failOwn, fpmOwn] at own
  simp at hf hp
  simp +contextual [fpmDiscard, own, hf, hp]

@[simp] theorem metRestore_ok (bad : Nat) (hf : φ.Fields
    (ledgerFlds ++ [F.MET_WATCH_WH_WH, F.MET_WATCH_SEC_S] ++ flags [F.MET_STICKY_RESTORED] ++
    (List.range 4).map F.MET_PULSE_PEND_N ++ (List.range 3).map F.MET_WATCH_AS_AS)) (hp : φ.Parts [.met, .acc, .setNow, .ldg])
    (s : State) : Effs φ.ok (metRestore bad s) := by
  simp at hf hp
  unfold metRestore
  (repeat' split) <;> simp +contextual [hf, hp]

@[simp] theorem watchStart_ok (hf : φ.Fields [F.MET_STATUS_WATCH, F.MET_WATCH_SEC_S]) (hp : φ.Parts [.met])
    (s : State) : Effs φ.ok (watchStart s) := by
  simp at hf hp
  simp [watchStart, hf, hp]

@[simp] theorem setFaultWord_ok (w : Nat) (hf : φ.Fields [F.PAR_FAULT_CAUSE, F.PAR_FAULT_IN, F.PAR_FAULT_SW]) : Effs φ.ok
    (setFaultWord w) := by
  simp at hf
  simp [setFaultWord, hf]

@[simp] theorem parTimers_ok (hp : φ.Parts [.par]) (s : State) : Effs φ.ok (parTimers s) := by
  simp at hp
  simp [parTimers, hp]

@[simp] theorem parShow_ok (hf : φ.Fields pinsOwn) (hp : φ.Parts [.par]) (s : State) : Effs φ.ok (parShow s) := by
  simp [pinsOwn] at hf hp
  simp [parShow, hf, hp]

@[simp] theorem leaveRun_ok (hf : φ.Fields (tripFlds ++ inhOwn ++ [F.PAR_STATUS_OUT_ON, F.PAR_STATUS_INH]))
    (hp : φ.Parts [.par, .ldg, .setNow, .pairs, .pwm, .cmps, .fad, .crn, .mpt, .rdg, .lanes]) (s : State) : Effs φ.ok
    (leaveRun s) := by
  have own := hf
  simp [inhOwn] at own
  simp at hf hp
  simp [leaveRun, own, hf, hp]

@[simp] theorem parEnter_ok (k : Nat) (hf : φ.Fields (tripFlds ++ butOwn ++ failOwn ++ inhOwn ++ parOwn))
    (hp : φ.Parts [.par, .ldg, .setNow, .pairs, .pwm, .cmps, .fad, .crn, .mpt, .rdg, .lanes, .but, .sys])
    (s : State) : Effs φ.ok (parEnter k s) := by
  have own := hf
  simp [butOwn, failOwn, inhOwn, parOwn] at own
  simp at hf hp
  unfold parEnter
  refine effs_inOrder ?_
  simp +contextual [own, hf, hp]

@[simp] theorem parFault_ok (cause ins sw : Nat) (hf : φ.Fields
    (tripFlds ++ butOwn ++ failOwn ++ inhOwn ++ parOwn ++ parFaultOwn))
    (hp : φ.Parts [.par, .setNow, .ldg, .pairs, .pwm, .cmps, .fad, .crn, .mpt, .rdg, .lanes, .but, .sys])
    (s : State) : Effs φ.ok (parFault cause ins sw s) := by
  have own := hf
  simp [butOwn, failOwn, inhOwn, parOwn, parFaultOwn] at own
  simp at hf hp
  unfold parFault
  refine effs_ite.2 ⟨fun _ => by simp [hp], fun _ => effs_inOrder ?_⟩
  simp +contextual [own, hf, hp]

@[simp] theorem parJudge_ok (hf : φ.Fields (tripFlds ++ butOwn ++ failOwn ++ inhOwn ++ parOwn ++ flags [F.PAR_STICKY_DEMAND]))
    (hp : φ.Parts [.par, .setNow, .ldg, .pairs, .pwm, .cmps, .fad, .crn, .mpt, .rdg, .lanes, .but, .sys])
    (s : State) : Effs φ.ok (parJudge s) := by
  have own := hf
  simp [butOwn, failOwn, inhOwn, parOwn] at own
  simp at hf hp
  simp [parJudge, effs_ite, own, hf, hp]

@[simp] theorem parEval_ok (hf : φ.Fields (tripFlds ++ butOwn ++ failOwn ++ inhOwn ++ parOwn ++ pinsOwn ++
      flags [F.PAR_STICKY_DEMAND])) (hp : φ.Parts [.par, .setNow, .ldg, .pairs, .pwm, .cmps, .fad, .crn, .mpt, .rdg, .lanes,
      .but, .sys]) (s : State) : Effs φ.ok (parEval s) := by
  have own := hf
  simp [butOwn, failOwn, inhOwn, parOwn, pinsOwn] at own
  simp at hf hp
  simp [parEval, own, hf, hp]

@[simp] theorem safetyInputChange_ok (ch pin : Nat) (high : Bool) (us : Nat) (hf : φ.Fields
    (tripFlds ++ butOwn ++ failOwn ++ inhOwn ++ parOwn ++ pinsOwn ++ flags [F.PAR_STICKY_DEMAND]))
    (hp : φ.Parts [.par, .setNow, .ldg, .pairs, .pwm, .cmps, .fad, .crn, .mpt, .rdg, .lanes, .but, .sys])
    (s : State) : Effs φ.ok (safetyInputChange ch pin high us s) := by
  have own := hf
  simp [butOwn, failOwn, inhOwn, parOwn, pinsOwn] at own
  simp at hf hp
  unfold safetyInputChange
  (repeat' split) <;> simp +contextual [own, hf, hp]

@[simp] theorem discTimeout_ok (x : Nat) (hf : φ.Fields (tripFlds ++ butOwn ++ failOwn ++ inhOwn ++ parOwn ++ parFaultOwn))
    (hp : φ.Parts [.par, .setNow, .ldg, .pairs, .pwm, .cmps, .fad, .crn, .mpt, .rdg, .lanes, .but, .sys])
    (s : State) : Effs φ.ok (discTimeout x s) := by
  have own := hf
  simp [butOwn, failOwn, inhOwn, parOwn, parFaultOwn] at own
  simp at hf hp
  simp [discTimeout, effs_ite, own, hf, hp]

@[simp] theorem tpsSample_ok (ch pin : Nat) (before : Bool) (inside : Bool) (after : Bool) (hf : φ.Fields
    (tripFlds ++ butOwn ++ failOwn ++ inhOwn ++ parOwn ++ parFaultOwn))
    (hp : φ.Parts [.par, .setNow, .ldg, .pairs, .pwm, .cmps, .fad, .crn, .mpt, .rdg, .lanes, .but, .sys])
    (s : State) : Effs φ.ok (tpsSample ch pin before inside after s) := by
  have own := hf
  simp [butOwn, failOwn, inhOwn, parOwn, parFaultOwn] at own
  simp at hf hp
  simp [tpsSample, effs_ite, own, hf, hp]

@[simp] theorem switchOverload_ok (sw : Nat) (hf : φ.Fields
    (tripFlds ++ butOwn ++ failOwn ++ inhOwn ++ parOwn ++ parFaultOwn))
    (hp : φ.Parts [.par, .setNow, .ldg, .pairs, .pwm, .cmps, .fad, .crn, .mpt, .rdg, .lanes, .but, .sys])
    (s : State) : Effs φ.ok (switchOverload sw s) := by
  have own := hf
  simp [butOwn, failOwn, inhOwn, parOwn, parFaultOwn] at own
  simp at hf hp
  simp [switchOverload, own, hf, hp]

@[simp] theorem vsafeShow_ok (mv : Nat) (hf : φ.Fields [F.PAR_VSAFE_V]) : φ.ok (vsafeShow mv) := by
  simp at hf
  simp [vsafeShow, hf]

@[simp] theorem vsafeOut_ok (mv : Nat) (hf : φ.Fields
    (tripFlds ++ butOwn ++ failOwn ++ inhOwn ++ parOwn ++ parFaultOwn ++ [F.PAR_VSAFE_V]))
    (hp : φ.Parts [.par, .setNow, .ldg, .pairs, .pwm, .cmps, .fad, .crn, .mpt, .rdg, .lanes, .but, .sys])
    (s : State) : Effs φ.ok (vsafeOut mv s) := by
  have own := hf
  simp [butOwn, failOwn, inhOwn, parOwn, parFaultOwn] at own
  simp at hf hp
  simp [vsafeOut, effs_ite, own, hf, hp]

@[simp] theorem vsafeReturn_ok (mv : Nat) (hf : φ.Fields [F.PAR_VSAFE_V]) (hp : φ.Parts [.par]) (s : State) : Effs φ.ok
    (vsafeReturn mv s) := by
  simp at hf hp
  simp [vsafeReturn, effs_ite, hf, hp]

@[simp] theorem darkTest_ok (hp : φ.Parts [.par]) (s : State) : Effs φ.ok (darkTest s) := by
  simp at hp
  simp [darkTest, hp]

@[simp] theorem darkTestEnd_ok (level vsafe : Nat) (hf : φ.Fields
    (tripFlds ++ butOwn ++ failOwn ++ inhOwn ++ parOwn ++ parFaultOwn ++ [F.PAR_VSAFE_V]))
    (hp : φ.Parts [.par, .setNow, .ldg, .pairs, .pwm, .cmps, .fad, .crn, .mpt, .rdg, .lanes, .but, .sys])
    (s : State) : Effs φ.ok (darkTestEnd level vsafe s) := by
  have own := hf
  simp [butOwn, failOwn, inhOwn, parOwn, parFaultOwn] at own
  simp at hf hp
  unfold darkTestEnd
  (repeat' split) <;> simp +contextual [own, hf, hp]

@[simp] theorem resetSafeEdge_ok (us1 us2 : Nat) (hf : φ.Fields
    (ledgerFlds ++ [F.PAR_RESET_LAST_MS, F.PAR_STATUS_RESET_HIGH] ++ flags [F.PAR_STICKY_RESET_REJECT]))
    (hp : φ.Parts [.setNow, .ldg, .par]) (s : State) : Effs φ.ok (resetSafeEdge us1 us2 s) := by
  simp at hf hp
  unfold resetSafeEdge
  (repeat' split) <;> simp +contextual [hf, hp]

@[simp] theorem resetStuck_ok (hf : φ.Fields (ledgerFlds ++ [F.PAR_STATUS_RESET_HIGH] ++ flags [F.PAR_STICKY_RESET_STUCK]))
    (hp : φ.Parts [.setNow, .ldg]) (s : State) : Effs φ.ok (resetStuck s) := by
  simp at hf hp
  simp [resetStuck, hf, hp]

@[simp] theorem resetState_ok (hf : φ.Fields (tripFlds ++ butOwn ++ failOwn ++ inhOwn ++ parOwn ++
      [F.PAR_FAULT_CAUSE, F.PAR_FAULT_IN, F.PAR_FAULT_SW]))
    (hp : φ.Parts [.par, .ldg, .setNow, .pairs, .pwm, .cmps, .fad, .crn, .mpt, .rdg, .lanes, .but, .sys])
    (s : State) : Effs φ.ok (resetState s) := by
  have own := hf
  simp [butOwn, failOwn, inhOwn, parOwn] at own
  simp at hf hp
  simp [resetState, effs_ite, own, hf, hp]

@[simp] theorem resetApply_ok (hf : φ.Fields (tripFlds ++ butOwn ++ failOwn ++ inhOwn ++ parOwn ++
      [F.PAR_FAULT_CAUSE, F.PAR_FAULT_IN, F.PAR_FAULT_SW] ++ flags [F.PAR_STICKY_RESET_DONE]))
    (hp : φ.Parts [.par, .setNow, .ldg, .pairs, .pwm, .cmps, .fad, .crn, .mpt, .rdg, .lanes, .but, .sys])
    (s : State) : Effs φ.ok (resetApply s) := by
  have own := hf
  simp [butOwn, failOwn, inhOwn, parOwn] at own
  simp at hf hp
  unfold resetApply
  (repeat' split) <;> simp +contextual [own, hf, hp]

@[simp] theorem respShow_ok (hf : φ.Fields respOwn) (s : State) : Effs φ.ok (respShow s) := by
  simp [respOwn] at hf
  unfold respShow
  (repeat' split) <;> simp +contextual [hf]

@[simp] theorem parCommit_ok (hq : φ.Takes 0x90044 0x90220) (hf : φ.Fields (ledgerFlds ++ flags [F.PAR_STICKY_CFG_REJECT]))
    (hp : φ.Parts [.commitWas, .setNow, .ldg, .freeCtr, .commitNow, .waiting]) (s : State) : Effs φ.ok (parCommit s) := by
  simp at hf hp
  unfold parCommit
  rw [effs_noted hp.1]
  split <;> simp [hq, hf, hp]

@[simp] theorem parAdopt_ok (hq : φ.Adopts 0x90044 0x90220) (hf : φ.Fields (tripFlds ++ butOwn ++ failOwn ++ inhOwn ++ parOwn
      ++ pinsOwn ++ respOwn ++ [F.PAR_CRC1_CRC, F.PAR_CRC2_CRC] ++ flags [F.PAR_STICKY_DEMAND]))
    (hp : φ.Parts [.waiting, .par, .ldg, .setNow, .pairs, .pwm, .cmps, .fad, .crn, .mpt, .rdg, .lanes, .but, .sys]) (s : State) :
    Effs φ.ok (parAdopt s) := by
  simp at hf hp
  simp [parAdopt, effs_ite, hq, hf, hp]

@[simp] theorem xcmpFrame_ok (hq : φ.Adopts 0x90044 0x90220) (hf : φ.Fields (tripFlds ++ butOwn ++ failOwn ++ inhOwn ++ parOwn
      ++ parFaultOwn ++ pinsOwn ++ respOwn ++ [F.PAR_CLK2_KHZ, F.PAR_CNT_XCMP_N, F.PAR_CRC1_CRC, F.PAR_CRC2_CRC]
      ++ flags [F.PAR_STICKY_DEMAND, F.PAR_STICKY_RESET_DONE]))
    (hp : φ.Parts [.waiting, .par, .ldg, .setNow, .pairs, .pwm, .cmps, .fad, .crn, .mpt, .rdg, .lanes, .but, .sys])
    (wire len1 len2 khz : Nat) (s : State) : Effs φ.ok (xcmpFrame wire len1 len2 khz s) := by
  have own := hf
  simp [parFaultOwn] at own
  simp at hf hp
  have reset := resetApply_ok (φ := φ) (by simp [own]) (by simp [hp])
  refine effs_ite.2 ⟨fun _ => effs_nil, fun _ => effs_inOrder ?_⟩
  simp [reset, hq, hf, hp]

@[simp] theorem xcmpTimeout_ok (hf : φ.Fields (tripFlds ++ butOwn ++ failOwn ++ inhOwn ++ parOwn ++ parFaultOwn))
    (hp : φ.Parts [.par, .setNow, .ldg, .pairs, .pwm, .cmps, .fad, .crn, .mpt, .rdg, .lanes, .but, .sys])
    (s : State) : Effs φ.ok (xcmpTimeout s) := by
  have own := hf
  simp [butOwn, failOwn, inhOwn, parOwn, parFaultOwn] at own
  simp at hf hp
  simp [xcmpTimeout, own, hf, hp]

@[simp] theorem joinFault_ok (hf : φ.Fields (tripFlds ++ butOwn ++ failOwn ++ inhOwn ++ parOwn ++ parFaultOwn))
    (hp : φ.Parts [.setNow, .ldg, .par, .pairs, .pwm, .cmps, .fad, .crn, .mpt, .rdg, .lanes, .but, .sys])
    (s : State) : Effs φ.ok (joinFault s) := by
  have own := hf
  simp [butOwn, failOwn, inhOwn, parOwn, parFaultOwn] at own
  simp at hf hp
  simp [joinFault, own, hf, hp]

@[simp] theorem parapetInitDone_ok (passed : Bool) (hf : φ.Fields
    (tripFlds ++ butOwn ++ failOwn ++ inhOwn ++ parOwn ++ parFaultOwn))
    (hp : φ.Parts [.par, .setNow, .ldg, .pairs, .pwm, .cmps, .fad, .crn, .mpt, .rdg, .lanes, .but, .sys])
    (s : State) : Effs φ.ok (parapetInitDone passed s) := by
  have own := hf
  simp [butOwn, failOwn, inhOwn, parOwn, parFaultOwn] at own
  simp at hf hp
  simp [parapetInitDone, effs_ite, own, hf, hp]

@[simp] theorem storeShow_ok (mv : Nat) (hf : φ.Fields storeOwn) (s : State) : Effs φ.ok (storeShow mv s) := by
  simp [storeOwn] at hf
  simp [storeShow, hf]

theorem recWords_length (r : LedgerRec) (seq : Nat) : (recWords r seq).length = 8 := by
  simp [recWords]

/-- The slot at the write index and the records of the Ledger's queue belong to a footprint. -/
structure Foot.LedgerAt (φ : Foot) (s : State) : Prop where
  queue : φ.Plain (s.get F.LDG_Q_QUEUE)
  word : ∀ i < 8, φ.word (slotAddr (s.get F.LDG_WR_IDX_SLOT) + i)

/-- The place of the Ledger's writes stands while neither its queue nor its write index changes. -/
theorem Foot.LedgerAt.after {s : State} (h : φ.LedgerAt s) {es : List Eff}
    (hq : Effs (Foot.butKey F.LDG_Q_QUEUE.key).ok es) (hw : Effs (Foot.butKey F.LDG_WR_IDX_SLOT.key).ok es) :
    φ.LedgerAt (applyAll s es) :=
  ⟨by rw [get_of_butKey hq]; exact h.queue, by rw [get_of_butKey hw]; exact h.word⟩

/-- What a record written shows (R415, R416). -/
def slotOwn : List Fld :=
  [F.LDG_WR_IDX_SLOT, F.LDG_SEQ_SEQ, F.LDG_COUNT_N, F.LDG_WRAPS_N] ++ flags [F.LDG_STICKY_RECORD, F.LDG_STICKY_WRAP]

@[simp] theorem ledgerWrite_ok {s : State} (hl : φ.LedgerAt s) (hf : φ.Fields slotOwn) (hp : φ.part .setNow) (r : LedgerRec) :
    Effs φ.ok (ledgerWrite r s) := by
  simp [slotOwn] at hf
  have words (seq : Nat) : φ.ok (.mems (slotAddr (s.get F.LDG_WR_IDX_SLOT)) (recWords r seq)) :=
    ⟨fun i hi => hl.word i (recWords_length r seq ▸ hi), hl.queue.store⟩
  simp [ledgerWrite, words, hl.queue, hf, hp]

/-- What the place of a record shows of a Ledger that stops when it is full (R414). -/
def fullOwn : List Fld := [F.LDG_STATUS_RESERVE_ONLY, F.LDG_STATUS_FULL] ++ flags [F.LDG_STICKY_FULL]

@[simp] theorem recordLost_ok (hf : φ.Fields ledgerFlds) (hp : φ.part .setNow) : Effs φ.ok recordLost := by
  simp [ledgerFlds] at hf
  simp [recordLost, hf, hp]

@[simp] theorem ledgerPlace_ok {s : State} (hl : φ.LedgerAt s) (hf : φ.Fields (ledgerFlds ++ slotOwn ++ fullOwn))
    (hp : φ.part .setNow) (r : LedgerRec) : Effs φ.ok (ledgerPlace r s) := by
  have own := hf
  simp [fullOwn] at own
  simp at hf
  have write {es : List Eff} (hq : Effs (Foot.butKey F.LDG_Q_QUEUE.key).ok es) (hw : Effs (Foot.butKey F.LDG_WR_IDX_SLOT.key).ok es)
      (r : LedgerRec) : Effs φ.ok (ledgerWrite r (applyAll s es)) := ledgerWrite_ok (hl.after hq hw) hf.2.1 hp r
  have last {ψ : Foot} (hf : ψ.Fields (ledgerFlds ++ fullOwn)) (hp : ψ.part .setNow) : Effs ψ.ok
      ([.set F.LDG_STATUS_RESERVE_ONLY (bit true), .set F.LDG_STATUS_FULL (bit true)] ++ [.sticky F.LDG_STICKY_FULL] ++ recordLost) := by
    have own := hf
    simp [fullOwn] at own
    simp [own, hp]
  unfold ledgerPlace
  refine effs_ite.2 ⟨fun _ => effs_thenDo.2 ⟨?_, write (by simp) (by simp) r⟩, fun _ => effs_ite.2 ⟨fun _ => ?_, fun _ =>
    effs_ite.2 ⟨fun _ => ?_, fun _ => effs_ite.2 ⟨fun _ => effs_thenDo.2
      ⟨last (by simp [hf]) hp, write (last (Foot.fields_butKey (by decide)) trivial) (last (Foot.fields_butKey (by decide)) trivial) _⟩,
    fun _ => effs_thenDo.2 ⟨?_, write (by simp) (by simp) r⟩⟩⟩⟩⟩
  · simp [own]
  · simp [own, hp]
  · simp [own, hp]
  · simp [own]

@[simp] theorem bufPop_ok (hp : φ.Parts [.ldg]) : φ.ok (bufPop) := by
  simp at hp
  simp [bufPop, hp]

@[simp] theorem deferHead_ok (r : LedgerRec) (hf : φ.Fields
    ([F.LDG_DEFER_DEFER, F.LDG_STATUS_DEFERRING] ++ flags [F.LDG_STICKY_DEFER])) (hp : φ.Parts [.ldg, .setNow]) : Effs φ.ok
    (deferHead r) := by
  simp at hf hp
  simp [deferHead, hf, hp]

/-- What a record put off shows (R415). -/
def deferOwn : List Fld := [F.LDG_DEFER_DEFER, F.LDG_STATUS_DEFERRING] ++ flags [F.LDG_STICKY_DEFER]

@[simp] theorem recordWrite_ok {s : State} (hl : φ.LedgerAt s)
    (hf : φ.Fields (ledgerFlds ++ storeOwn ++ slotOwn ++ fullOwn ++ deferOwn)) (hp : φ.Parts [.ldg, .setNow]) (mv : Nat) :
    Effs φ.ok (recordWrite mv s) := by
  have own := hf
  simp [deferOwn] at own
  simp at hf hp
  have place {es fs : List Eff} (hq : Effs (Foot.butKey F.LDG_Q_QUEUE.key).ok es) (hw : Effs (Foot.butKey F.LDG_WR_IDX_SLOT.key).ok es)
      (hr : Effs (Foot.butKey F.LDG_Q_QUEUE.key).ok fs) (hv : Effs (Foot.butKey F.LDG_WR_IDX_SLOT.key).ok fs)
      (r : LedgerRec) : Effs φ.ok (ledgerPlace r (applyAll (applyAll s es) fs)) :=
    ledgerPlace_ok ((hl.after hq hw).after hr hv) (by simp [hf]) hp.2 r
  have shown (k : Nat) (hk : k ∉ storeOwn.map Fld.key) (s : State) : Effs (Foot.butKey k).ok (storeShow mv s) :=
    storeShow_ok mv (Foot.fields_butKey hk) s
  unfold recordWrite
  split
  · simp [hf]
  · refine effs_ite.2 ⟨fun _ => effs_nil, fun _ => effs_ite.2 ⟨fun _ => by simp [hf], fun _ => effs_thenDo.2 ⟨by simp [hf], ?_⟩⟩⟩
    split
    · simp [effs_ite, own, hp]
    · split
      · simp [own, hp]
      · refine effs_thenDo.2 ⟨by simp [hp], place (shown _ (by decide) s) (shown _ (by decide) s) ?_ ?_ _⟩
        · simp
        · simp

@[simp] theorem deferSummary_ok {s : State} (hl : φ.LedgerAt s)
    (hf : φ.Fields (ledgerFlds ++ storeOwn ++ slotOwn ++ fullOwn ++ [F.LDG_DEFER_DEFER, F.LDG_STATUS_DEFERRING]))
    (hp : φ.Parts [.ldg, .setNow]) (mv : Nat) : Effs φ.ok (deferSummary mv s) := by
  simp at hf hp
  have cleared {ψ : Foot} (hf : ψ.Fields (ledgerFlds ++ storeOwn ++ [F.LDG_DEFER_DEFER, F.LDG_STATUS_DEFERRING])) (hp : ψ.part .ldg) :
      Effs ψ.ok (storeShow mv s ++ [.set F.LDG_DEFER_DEFER 0, .set F.LDG_DEFER_LOST 0, .set F.LDG_STATUS_DEFERRING 0,
        updLdg fun l => { l with defFirst := none, defLast := none }]) := by
    have own := hf
    simp [ledgerFlds] at own
    simp at hf
    simp [own, hp]
  refine effs_ite.2 ⟨fun _ => effs_nil, fun _ => effs_ite.2 ⟨fun _ => by simp [hf], fun _ => effs_thenDo.2
    ⟨cleared (by simp [hf]) hp.1, ledgerPlace_ok (hl.after ?_ ?_) (by simp [hf]) hp.2 _⟩⟩⟩
  · exact cleared (Foot.fields_butKey (by decide)) trivial
  · exact cleared (Foot.fields_butKey (by decide)) trivial

@[simp] theorem counterCheckpoint_ok (mv : Nat) (hf : φ.Fields storeOwn) (hp : φ.Parts [.bed]) (s : State) : Effs φ.ok
    (counterCheckpoint mv s) := by
  simp at hf hp
  simp [counterCheckpoint, effs_ite, hf, hp]

@[simp] theorem metrologySave_ok (mv : Nat) (hf : φ.Fields storeOwn) (hp : φ.Parts [.bed, .met]) (s : State) : Effs φ.ok
    (metrologySave mv s) := by
  simp at hf hp
  simp [metrologySave, effs_ite, hf, hp]

@[simp] theorem srcTo_ok (new : BedSrc) (hf : φ.Fields (ledgerFlds ++ srcOwn)) (hp : φ.Parts [.bed, .setNow, .ldg, .freeCtr])
    (s : State) : Effs φ.ok (srcTo new s) := by
  simp [srcOwn] at hf hp
  simp [srcTo, effs_ite, hf, hp]

@[simp] theorem toOff_ok (hf : φ.Fields [F.MET_STATUS_WATCH]) (hp : φ.Parts [.bed, .ldg, .met, .acc]) (s : State) : Effs φ.ok
    (toOff s) := by
  simp at hf hp
  simp [toOff, hf, hp, Part.forall_iff, Part.same]

@[simp] theorem harvShow_ok (mv : Nat) (hf : φ.Fields harvOwn) (s : State) : Effs φ.ok (harvShow mv s) := by
  simp [harvOwn] at hf
  simp [harvShow, hf]

/-- What the start of Bedrock shows outside its pages (R402, R306). -/
def restoreOwn : List Fld :=
  [F.MON_RO_NEXT_S, F.MET_WATCH_WH_WH, F.MET_WATCH_SEC_S] ++ flags [F.MET_STICKY_RESTORED]
  ++ (List.range 4).map F.MET_PULSE_PEND_N ++ (List.range 3).map F.MET_WATCH_AS_AS

/-- The pages of Bedrock and of the Ledger belong to a footprint. -/
structure Foot.BedPages (φ : Foot) : Prop where
  clear : φ.ok (.clear (keyAt 0xA0000) (keyAt 0xA2000))
  key : ∀ k, pageOfKey k ∈ [0xA0, 0xA1] → φ.key k

@[simp] theorem bedStart_ok (hb : φ.BedPages) (hf : φ.Fields restoreOwn) (hp : φ.Parts [.bed, .setNow, .ldg, .freeCtr, .met, .acc])
    (src : BedSrc) (mv vbat badCp badMet : Nat) (s : State) : Effs φ.ok (bedStart src mv vbat badCp badMet s) := by
  have own := hf
  simp [restoreOwn] at own
  simp at hp
  have page (fs : List Fld) (h : ∀ f ∈ fs, pageOfKey f.key ∈ [0xA0, 0xA1]) : φ.Fields fs := fun f hm => hb.key _ (h f hm)
  have led := page ledgerFlds (by decide)
  have store := page storeOwn (by decide)
  have harv := page harvOwn (by decide)
  have source := page srcOwn (by decide)
  have rest := page [F.BED_PWRCYC_N, F.LDG_WRAPS_N, F.LDG_CNT_LOST_N, F.BED_VBAT_MV, F.BED_STATUS_VBAT_PRESENT,
    F.BED_STATUS_VBAT_LOW, F.LDG_STATUS_SCANNING] (by decide)
  simp at rest
  have restore := metRestore_ok (φ := φ) badMet (by simp +contextual [led, own]) (by simp [hp])
  unfold bedStart
  refine effs_inOrder ?_
  simp [restore, hb.clear, led, store, harv, source, rest, own, hp]

@[simp] theorem bedrockStart_ok (hb : φ.BedPages) (hf : φ.Fields restoreOwn)
    (hp : φ.Parts [.bed, .setNow, .ldg, .freeCtr, .met, .acc]) (mv vbat badCp badMet : Nat) (s : State) :
    Effs φ.ok (bedrockStart mv vbat badCp badMet s) := by
  simp at hp
  simp [bedrockStart, effs_ite, hb, hf, hp]

@[simp] theorem railPwr_ok (hf : φ.Fields (tripFlds ++ guarOwn ++ butOwn ++ failOwn ++ railOwn))
    (hp : φ.Parts [.setNow, .ldg, .phs, .sys, .crn, .but, .pairs, .pwm, .cmps, .fad, .mpt, .rdg, .lanes])
    (s : State) : Effs φ.ok (railPwr s) := by
  have own := hf
  simp [guarOwn, butOwn, failOwn, railOwn] at own
  simp at hf hp
  simp [railPwr, effs_ite, own, hf, hp]

@[simp] theorem vddLoss_ok (mv : Nat) (hf : φ.Fields
    (tripFlds ++ guarOwn ++ butOwn ++ failOwn ++ storeOwn ++ harvOwn ++ srcOwn ++ railOwn ++
      [F.BED_STATUS_VDD_PRESENT, F.MET_STATUS_WATCH, F.MET_WATCH_SEC_S] ++ flags [F.BED_STICKY_VDD_LOSS]))
    (hp : φ.Parts [.setNow, .bed, .ldg, .freeCtr, .met, .phs, .sys, .crn, .but, .pairs, .pwm, .cmps, .fad, .mpt, .rdg,
      .lanes]) (s : State) : Effs φ.ok (vddLoss mv s) := by
  have own := hf
  simp [guarOwn, butOwn, failOwn, storeOwn, harvOwn, srcOwn, railOwn] at own
  simp at hf hp
  simp [vddLoss, effs_ite, own, hf, hp]

@[simp] theorem batIfLow_ok (hf : φ.Fields (ledgerFlds ++ srcOwn)) (hp : φ.Parts [.bed, .setNow, .ldg, .freeCtr])
    (s : State) : Effs φ.ok (batIfLow s) := by
  have own := hf
  simp [srcOwn] at own
  simp at hf hp
  simp [batIfLow, own, hf, hp]

@[simp] theorem vbatShow_ok (mv : Nat) (hf : φ.Fields
    (ledgerFlds ++ [F.BED_VBAT_MV, F.BED_STATUS_VBAT_LOW] ++ flags [F.BED_STICKY_VBAT_LOW]))
    (hp : φ.Parts [.bed, .setNow, .ldg]) (s : State) : Effs φ.ok (vbatShow mv s) := by
  simp at hf hp
  simp [vbatShow, hf, hp]

@[simp] theorem vbatLow_ok (mv : Nat) (hf : φ.Fields
    (ledgerFlds ++ [F.BED_VBAT_MV, F.BED_STATUS_VBAT_LOW] ++ flags [F.BED_STICKY_VBAT_LOW]))
    (hp : φ.Parts [.bed, .setNow, .ldg]) (s : State) : Effs φ.ok (vbatLow mv s) := by
  simp at hf hp
  simp [vbatLow, effs_ite, hf, hp]

@[simp] theorem vbatChange_ok (hb : φ.BedPages) (hf : φ.Fields restoreOwn)
    (hp : φ.Parts [.bed, .setNow, .ldg, .freeCtr, .met, .acc]) (mv : Nat) (s : State) : Effs φ.ok (vbatChange mv s) := by
  simp at hp
  have page (fs : List Fld) (h : ∀ f ∈ fs, pageOfKey f.key ∈ [0xA0, 0xA1]) : φ.Fields fs := fun f hm => hb.key _ (h f hm)
  have led := page ledgerFlds (by decide)
  have source := page srcOwn (by decide)
  have rest := page ([F.BED_VBAT_MV, F.BED_STATUS_VBAT_PRESENT, F.BED_STATUS_VBAT_LOW] ++ flags [F.BED_STICKY_VBAT_LOW]) (by decide)
  have own := rest
  simp at own
  refine effs_ite.2 ⟨fun _ => ?_, fun _ => effs_thenDo.2 ⟨by simp [own, led, hp], ?_⟩⟩
  · simp [effs_ite, hb, hf, hp]
  · split <;> simp [led, source, hp]

@[simp] theorem storeThreshold_ok (mv harv : Nat) (hf : φ.Fields
    (ledgerFlds ++ codeOwn ++ storeOwn ++ harvOwn ++ srcOwn ++ [F.MET_STATUS_WATCH]))
    (hp : φ.Parts [.bed, .plumb, .ldg, .met, .acc, .setNow, .freeCtr]) (s : State) : Effs φ.ok (storeThreshold mv harv s) := by
  have own := hf
  simp [codeOwn, storeOwn, harvOwn, srcOwn] at own
  simp at hf hp
  simp [storeThreshold, effs_ite, own, hf, hp]

@[simp] theorem harvestProbe_ok (mv : Nat) (hf : φ.Fields (ledgerFlds ++ storeOwn ++ srcOwn))
    (hp : φ.Parts [.bed, .setNow, .ldg, .freeCtr]) (s : State) : Effs φ.ok (harvestProbe mv s) := by
  have own := hf
  simp [storeOwn, srcOwn] at own
  simp at hf hp
  simp [harvestProbe, effs_ite, own, hf, hp]

@[simp] theorem harvestSample_ok (voc : Nat) (hf : φ.Fields [F.BED_HARV_VOC]) (hp : φ.Parts [.bed]) (s : State) : Effs φ.ok
    (harvestSample voc s) := by
  simp at hf hp
  simp [harvestSample, hf, hp]

@[simp] theorem coldStart_ok (secs mv : Nat) (hf : φ.Fields
    (ledgerFlds ++ storeOwn ++ harvOwn ++ flags [F.BED_STICKY_COLD_START])) (hp : φ.Parts [.bed, .setNow, .ldg])
    (s : State) : Effs φ.ok (coldStart secs mv s) := by
  have own := hf
  simp [storeOwn, harvOwn] at own
  simp at hf hp
  simp [coldStart, effs_ite, own, hf, hp]

@[simp] theorem xtalFail_ok (hf : φ.Fields (ledgerFlds ++ [F.BED_STATUS_XTAL_OK] ++ flags [F.BED_STICKY_XTAL_FAIL]))
    (hp : φ.Parts [.setNow, .bed, .ldg]) (s : State) : Effs φ.ok (xtalFail s) := by
  simp at hf hp
  simp [xtalFail, hf, hp]

@[simp] theorem xtalRestore_ok (hf : φ.Fields (ledgerFlds ++ [F.BED_STATUS_XTAL_OK])) (hp : φ.Parts [.ldg, .setNow])
    (s : State) : Effs φ.ok (xtalRestore s) := by
  simp at hf hp
  simp [xtalRestore, hf, hp]

@[simp] theorem timeAnchor_ok (hf : φ.Fields ledgerFlds) (hp : φ.Parts [.ldg, .setNow, .freeCtr, .bed])
    (s : State) : Effs φ.ok (timeAnchor s) := by
  simp at hf hp
  simp [timeAnchor, effs_ite, hf, hp]

@[simp] theorem opsecTick_ok (hf : φ.Fields (ledgerFlds ++ codeOwn)) (hp : φ.Parts [.bed, .ldg, .setNow, .freeCtr, .plumb])
    (s : State) : Effs φ.ok (opsecTick s) := by
  have own := hf
  simp [codeOwn] at own
  simp at hf hp
  simp [opsecTick, effs_ite, own, hf, hp]

@[simp] theorem opsecRead_ok (n : Nat) (hf : φ.Fields [F.BED_OPSEC_LO_S, F.BED_OPSEC_HI_S, F.BED_SUBSEC_N])
    (s : State) : Effs φ.ok (opsecRead n s) := by
  simp at hf
  simp [opsecRead, hf]

@[simp] theorem ledgerScanDone_ok (hf : φ.Fields (ledgerFlds ++
      [F.LDG_STATUS_SCANNING, F.LDG_COUNT_N, F.LDG_WR_IDX_SLOT, F.LDG_SEQ_SEQ] ++
      flags [F.LDG_STICKY_SCAN_CRC, F.BED_STICKY_RESTORED])) (hp : φ.Parts [.bed, .setNow, .ldg]) (s : State) : Effs φ.ok
    (ledgerScanDone s) := by
  simp at hf hp
  simp [ledgerScanDone, effs_ite, hf, hp]

@[simp] theorem erase_ok (hf : φ.Fields ([F.LDG_STATUS_BUSY] ++ flags [F.LDG_STICKY_CMD_REJECT]))
    (hp : φ.Parts [.ldg, .setNow]) (s : State) : Effs φ.ok (erase s) := by
  simp at hf hp
  simp [erase, effs_ite, hf, hp]

@[simp] theorem erasedRecord_ok {s : State} (hl : φ.LedgerAt s) (hf : φ.Fields (slotOwn ++ deferOwn)) (hp : φ.Parts [.ldg, .setNow])
    (n : Nat) : Effs φ.ok (erasedRecord n s) := by
  have own := hf
  simp [deferOwn, slotOwn] at own
  simp at hf hp
  refine effs_ite.2 ⟨fun _ => ?_, fun _ => effs_thenDo.2 ⟨ledgerWrite_ok hl hf.1 hp.2 _, ?_⟩⟩
  · simp [deferHead, own, hp]
  · simp [own]

/-- The last word of each slot of the Ledger loses its mark (R414). -/
def unmarked (s : State) : List Eff :=
  (s.mem.filter fun p => 0x100000 ≤ p.1 && p.1 < 0x120000 && p.1 % 8 == 7).map fun p => Eff.mem p.1 (p.2 % 2 ^ 24)

theorem unmarked_ok {s : State} (hs : φ.store) (hm : ∀ a, 0x100000 ≤ a → a < 0x120000 → a % 8 = 7 → φ.word a) :
    Effs φ.ok (unmarked s) := by
  intro e he
  obtain ⟨p, hp, rfl⟩ := List.mem_map.1 he
  have place := (List.mem_filter.1 hp).2
  simp at place
  exact ⟨hm p.1 place.1.1 place.1.2 place.2, hs⟩

/-- What an erase shows at its end (R414). -/
def erasedOwn : List Fld :=
  [F.LDG_STATUS_BUSY, F.LDG_WR_IDX_SLOT, F.LDG_COUNT_N, F.LDG_WRAPS_N, F.LDG_STATUS_FULL, F.LDG_STATUS_RESERVE_ONLY]

def erasedShow (s : State) : List Eff :=
  unmarked s ++ [.set F.LDG_STATUS_BUSY 0, .set F.LDG_WR_IDX_SLOT 0, .set F.LDG_COUNT_N 0, .set F.LDG_WRAPS_N 0,
    .set F.LDG_STATUS_FULL 0, .set F.LDG_STATUS_RESERVE_ONLY 0, updLdg fun l => { l with erasing := false }]

theorem get_erasedShow (s : State) : (applyAll s (erasedShow s)).get F.LDG_WR_IDX_SLOT = 0 ∧
    (applyAll s (erasedShow s)).get F.LDG_Q_QUEUE = s.get F.LDG_Q_QUEUE := by
  have marks : Effs (Foot.butKey F.LDG_Q_QUEUE.key).ok (unmarked s) := unmarked_ok trivial fun _ _ _ _ => trivial
  simp at marks
  constructor
  · rw [erasedShow, applyAll_append, applyAll_cons, applyAll_cons, get_of_butKey (by simp), Eff.apply, State.get_put_self]
    rfl
  · exact get_of_butKey (by simp [erasedShow, marks]) s

@[simp] theorem eraseDone_ok {s : State} (hq : φ.Plain (s.get F.LDG_Q_QUEUE)) (hw : ∀ i < 8, φ.word (slotAddr 0 + i))
    (hm : ∀ a, 0x100000 ≤ a → a < 0x120000 → a % 8 = 7 → φ.word a)
    (hf : φ.Fields (erasedOwn ++ slotOwn ++ deferOwn ++ codeOwn)) (hp : φ.Parts [.ldg, .setNow, .plumb]) :
    Effs φ.ok (eraseDone s) := by
  have own := hf
  simp [erasedOwn] at own
  simp at hf hp
  have marks := unmarked_ok hq.store hm (s := s)
  obtain ⟨place, queue⟩ := get_erasedShow s
  refine effs_ite.2 ⟨fun _ => effs_nil, fun _ => effs_inOrder_cons.2 ⟨?_, effs_inOrder_cons.2 ⟨?_, ?_⟩⟩⟩
  · exact effs_append.2 ⟨marks, by simp [own, hp]⟩
  · exact erasedRecord_ok (s := applyAll s (erasedShow s)) ⟨by rwa [queue], by rwa [place]⟩ (by simp [hf]) (by simp [hp]) _
  · simp [hf, hp]

@[simp] theorem bedConfig_ok (k v : Nat) (hf : φ.Fields
    ([F.BED_HARV_FRAC, F.BED_STORE_CAP_UF, F.BED_RES_WRITE, F.BED_RES_KEEP] ++ flags [F.BED_STICKY_CFG_REJECT]))
    (hp : φ.Parts [.setNow]) (s : State) : Effs φ.ok (bedConfig k v s) := by
  simp at hf hp
  simp [bedConfig, effs_ite, hf, hp]

@[simp] theorem sevqLookup_ok (code : Nat) (hf : φ.Fields [F.LDG_SEVQ_CODE, F.LDG_SEVQ_SEV]) (s : State) : Effs φ.ok
    (sevqLookup code s) := by
  simp at hf
  simp [sevqLookup, hf]

@[simp] theorem clampFlags_ok (st : Nat) (hf : φ.Fields (ledgerFlds ++ [F.KE1_CLAMPFLAGS_STAGE
    (st / 32)] ++ flags [F.KE1_STICKY_CLAMP])) (hp : φ.Parts [.setNow, .ldg]) (s : State) : Effs φ.ok (clampFlags st s) := by
  simp at hf hp
  simp [clampFlags, hf, hp]

/-- What a stage at its limit shows (R152, R155). -/
def stageOwn : List Fld :=
  [F.KE0_SATFLAGS0_STAGE, F.KE0_SATFLAGS1_STAGE, F.KE1_EXP_STAGE_STAGE]
  ++ flags [F.KE0_STICKY_SAT, F.KE1_STICKY_CLAMP, F.KE1_STICKY_EXP_OVF]

@[simp] theorem kFlags_ok {st : Nat} {clamped : Bool} (hf : φ.Fields (ledgerFlds ++ stageOwn))
    (hc : clamped = true → φ.key (F.KE1_CLAMPFLAGS_STAGE (st / 32)).key) (hp : φ.Parts [.ke0, .setNow, .ldg]) (eng : Nat)
    (limited : Bool) (s : State) : Effs φ.ok (kFlags eng st limited clamped s) := by
  have own := hf
  simp [stageOwn] at own
  simp at hf hp
  have sat : φ.key (if st < 32 then F.KE0_SATFLAGS0_STAGE else F.KE0_SATFLAGS1_STAGE).key := by split <;> simp [own]
  refine effs_ite.2 ⟨fun _ => ?_, fun _ => ?_⟩
  · simp [sat, own, hp]
  · cases clamped
    · simp [own, hp]
    · have clamp := hc rfl
      simp at clamp
      simp [clampFlags, clamp, own, hp]

@[simp] theorem pairCrcShow_ok (hf : φ.Fields [F.BUT_CRC_CRC]) (s : State) : Effs φ.ok (pairCrcShow s) := by
  simp at hf
  simp [pairCrcShow, hf]

@[simp] theorem butCommit_ok (hq : φ.Takes 0x11200 0x11280) (hf : φ.Fields (ledgerFlds ++ flags [F.BUT_STICKY_CFG_REJECT]))
    (hp : φ.Parts [.commitWas, .setNow, .ldg, .freeCtr, .commitNow, .waiting]) (s : State) : Effs φ.ok (butCommit s) := by
  simp at hf hp
  unfold butCommit
  rw [effs_noted hp.1]
  split <;> simp [effs_ite, hq, hf, hp]

@[simp] theorem mirNext_ok (hp : φ.Parts [.but, .lanes]) (s : State) : Effs φ.ok (mirNext s) := by
  simp at hp
  unfold mirNext
  (repeat' split) <;> simp +contextual [hp]

@[simp] theorem acknowledge_ok (f : Frame) (hf : φ.Fields butOwn) (hp : φ.Parts [.but, .lanes]) (s : State) : Effs φ.ok
    (acknowledge f s) := by
  simp at hf hp
  unfold acknowledge
  (repeat' split) <;> simp +contextual [hf, hp]

@[simp] theorem mirrorRetry_ok (hf : φ.Fields (ledgerFlds ++ butOwn ++ [F.BUT_CNT_RETRY_N, F.BUT_STATUS_LINK_FAULT] ++
      flags [F.BUT_STICKY_LINK_FAULT])) (hp : φ.Parts [.but, .lanes, .setNow, .ldg]) (s : State) : Effs φ.ok
    (mirrorRetry s) := by
  have own := hf
  simp [butOwn] at own
  simp at hf hp
  unfold mirrorRetry
  (repeat' split) <;> simp +contextual [own, hf, hp]

@[simp] theorem mirAck_ok (f : Frame) (hp : φ.Parts [.lanes]) (s : State) : Effs φ.ok (mirAck f s) := by
  simp at hp
  simp [mirAck, hp]

@[simp] theorem ageShow_ok (hf : φ.Fields [F.BUT_STATUS_AGE]) (s : State) : Effs φ.ok (ageShow s) := by
  simp at hf
  simp [ageShow, hf]

@[simp] theorem mirStore_ok (k : Nat) (f : Frame) (hf : φ.Fields (butOwn ++ [F.BUT_STATUS_MIRROR_LOST, F.BUT_STATUS_AGE]))
    (hp : φ.Parts [.but]) (s : State) : Effs φ.ok (mirStore k f s) := by
  have own := hf
  simp [butOwn] at own
  simp at hf hp
  simp [mirStore, effs_ite, own, hf, hp]

@[simp] theorem mirSet_ok (k : Nat) (f : Frame) (hf : φ.Fields (butOwn ++ [F.BUT_STATUS_MIRROR_LOST, F.BUT_STATUS_AGE]))
    (hp : φ.Parts [.but, .lanes]) (s : State) : Effs φ.ok (mirSet k f s) := by
  have own := hf
  simp [butOwn] at own
  simp at hf hp
  simp [mirSet, effs_ite, own, hf, hp]

@[simp] theorem statusRx_ok (f : Frame) (hf : φ.Fields (butOwn ++ [F.BUT_PCRC_CRC, F.BUT_ALIGN_NS]))
    (hp : φ.Parts [.but, .lanes]) (s : State) : Effs φ.ok (statusRx f s) := by
  have own := hf
  simp [butOwn] at own
  simp at hf hp
  simp [statusRx, effs_ite, own, hf, hp]

@[simp] theorem mirrorLost_ok (hf : φ.Fields (ledgerFlds ++ butOwn ++ [F.BUT_STATUS_MIRROR_LOST] ++
      flags [F.BUT_STICKY_MIRROR_LOST])) (hp : φ.Parts [.setNow, .ldg, .but]) (s : State) : Effs φ.ok (mirrorLost s) := by
  have own := hf
  simp [butOwn] at own
  simp at hf hp
  simp [mirrorLost, effs_ite, own, hf, hp]

@[simp] theorem takeSet_ok (hf : φ.Fields (ledgerFlds ++ stageOwn)) (hp : φ.Parts [.ke0, .ke1, .setNow, .ldg]) (eng : Nat) (rate : Bool)
    (ws : List Nat) (s : State) : Effs φ.ok (takeSet eng rate ws s) := by
  simp at hf hp
  simp [takeSet, hf, hp]

@[simp] theorem noteApplied_ok (k count : Nat) (hp : φ.Parts [.but]) : φ.ok (noteApplied k count) := by
  simp at hp
  simp [noteApplied, hp]

@[simp] theorem takeoverSet_ok (hf : φ.Fields (ledgerFlds ++ stageOwn ++ flags [F.BUT_STICKY_STALE]))
    (hp : φ.Parts [.but, .ke0, .ke1, .setNow, .ldg]) (k : Nat) (s : State) : Effs φ.ok (takeoverSet k s) := by
  simp at hf hp
  unfold takeoverSet
  split
  · exact effs_nil
  · simp [effs_ite, noteApplied, hf, hp]

@[simp] theorem butTakeover_ok (hf : φ.Fields (tripFlds ++ butOwn ++ failOwn ++ fpmOwn ++ stageOwn ++ [F.BUT_CNT_TAKEOVER_N]
      ++ flags [F.BUT_STICKY_STALE, F.BUT_STICKY_TAKEOVER] ++ (List.range 64).map F.FPM_CH_HOLD_COUNT))
    (hp : φ.Parts [.but, .ke0, .ke1, .setNow, .ldg, .freeCtr, .fpm, .sys, .pairs, .pwm, .cmps, .fad, .crn, .mpt, .rdg, .lanes])
    (s : State) : Effs φ.ok (butTakeover s) := by
  have own := hf
  simp [butOwn] at own
  simp at hf hp
  have discard := fpmDiscard_ok (φ := φ) (by simp +contextual [hf]) (by simp [hp])
  refine effs_ite.2 ⟨fun _ => effs_nil, fun _ => effs_inOrder ?_⟩
  simp [discard, own, hf, hp]

@[simp] theorem grantRemove_ok (hf : φ.Fields (tripFlds ++ butOwn ++ [F.BUT_STATUS_GRANT] ++ flags [F.BUT_STICKY_RELEASE]))
    (hp : φ.Parts [.sys, .pairs, .setNow, .pwm, .cmps, .ldg, .fad, .crn, .mpt, .rdg, .lanes, .but]) (s : State) : Effs φ.ok
    (grantRemove s) := by
  have own := hf
  simp [butOwn] at own
  simp at hf hp
  simp [grantRemove, effs_ite, own, hf, hp]

@[simp] theorem grantAccept_ok (level : Bool) (hf : φ.Fields
    (tripFlds ++ butOwn ++ [F.BUT_STATUS_GRANT] ++ flags [F.BUT_STICKY_RELEASE, F.BUT_STICKY_GRANT_NOT_READY]))
    (hp : φ.Parts [.sys, .pairs, .setNow, .pwm, .cmps, .ldg, .fad, .crn, .mpt, .rdg, .lanes, .but]) (s : State) : Effs φ.ok
    (grantAccept level s) := by
  have own := hf
  simp [butOwn] at own
  simp at hf hp
  simp [grantAccept, effs_ite, own, hf, hp]

@[simp] theorem butCtrlWrite_ok (hf : φ.Fields (tripFlds ++ guarOwn ++ butOwn ++ failOwn ++ (List.range 8).flatMap laneOwn
      ++ (List.range 8).flatMap roleOwn ++ [F.BUT_CTRL_AUTO_REVERT, F.BUT_CTRL_ROLE, F.BUT_CTRL_ENABLE, F.BUT_STATUS_GRANT,
        F.BUT_STATUS_MIRROR_LOST, F.BUT_STATUS_LINK_FAULT, F.BUT_STATUS_AGE, F.BUT_CRC_CRC]
      ++ flags [F.RDG_STICKY_ADDR_CONFLICT, F.BUT_STICKY_PARTNER_LOST]))
    (hp : φ.Parts [.but, .lanes, .setNow, .ldg, .sys, .pairs, .pwm, .cmps, .fad, .crn, .mpt, .rdg, .phs]) (v : Nat) (s : State) :
    Effs φ.ok (butCtrlWrite v s) := by
  have own := hf
  simp [butOwn] at own
  simp at hf hp
  have roles (t : State) : Effs φ.ok (rolesUpdate t) := rolesUpdate_ok (by simp +contextual [hf]) (by simp [hp]) t
  have drive (on : Bool) (t : State) : Effs φ.ok (setDrvEn on t) := setDrvEn_ok (by simp [hf]) (by simp [hp]) t hp.2.2.2.2.1 on
  refine effs_inOrder ?_
  simp [roles, drive, own, hf, hp]

@[simp] theorem butReadyEvent_ok (hf : φ.Fields (tripFlds ++ butOwn ++ failOwn))
    (hp : φ.Parts [.setNow, .but, .ldg, .sys, .pairs, .pwm, .cmps, .fad, .crn, .mpt, .rdg, .lanes]) (s : State) : Effs φ.ok
    (butReadyEvent s) := by
  have own := hf
  simp [butOwn, failOwn] at own
  simp at hf hp
  simp [butReadyEvent, own, hf, hp]

@[simp] theorem butRequest_ok (hf : φ.Fields (ledgerFlds ++ butOwn ++ flags [F.BUT_STICKY_CMD_REJECT]))
    (hp : φ.Parts [.but, .ldg, .setNow]) (s : State) : Effs φ.ok (butRequest s) := by
  have own := hf
  simp [butOwn] at own
  simp at hf hp
  simp [butRequest, effs_ite, own, hf, hp]

@[simp] theorem requestExpire_ok (hf : φ.Fields butOwn) (hp : φ.Parts [.but]) (s : State) : Effs φ.ok (requestExpire s) := by
  simp at hf hp
  simp [requestExpire, hf, hp]

@[simp] theorem revertHold_ok (hf : φ.Fields (ledgerFlds ++ butOwn)) (hp : φ.Parts [.but, .ldg, .setNow])
    (s : State) : Effs φ.ok (revertHold s) := by
  have own := hf
  simp [butOwn] at own
  simp at hf hp
  simp [revertHold, effs_ite, own, hf, hp]

@[simp] theorem arbLearn_ok (d : Nat) (p : ArbPeer)
    (hf : φ.Fields [if d = 0 then F.BUT_ARB_STATUS_CODE_P else F.BUT_ARB_STATUS_CODE_S]) (hp : φ.Parts [.but]) : Effs φ.ok
    (arbLearn d p) := by
  simp at hf hp
  simp [arbLearn, hf, hp]

@[simp] theorem arbWithdraw_ok (hf : φ.Fields [F.BUT_ARB_STATUS_GRANT]) (hp : φ.Parts [.but]) (s : State) : Effs φ.ok
    (arbWithdraw s) := by
  simp at hf hp
  simp [arbWithdraw, hf, hp]

@[simp] theorem arbEdge_ok (d ns : Nat) (inhPin : Bool)
    (hf : φ.Fields [if d = 0 then F.BUT_ARB_STATUS_CODE_P else F.BUT_ARB_STATUS_CODE_S, F.BUT_ARB_STATUS_GRANT])
    (hp : φ.Parts [.but]) (s : State) : Effs φ.ok (arbEdge d ns inhPin s) := by
  simp at hf hp
  simp [arbEdge, effs_ite, hf, hp]

@[simp] theorem arbTimeout_ok (d : Nat) (hf : φ.Fields [if d = 0 then F.BUT_ARB_STATUS_CODE_P else F.BUT_ARB_STATUS_CODE_S,
      F.BUT_ARB_STATUS_GRANT]) (hp : φ.Parts [.but]) (s : State) : Effs φ.ok (arbTimeout d s) := by
  simp at hf hp
  simp [arbTimeout, effs_ite, hf, hp]

@[simp] theorem arbIssue_ok (hf : φ.Fields [F.BUT_ARB_STATUS_GRANT]) (s : State) : Effs φ.ok (arbIssue s) := by
  simp at hf
  unfold arbIssue
  refine effs_ite.2 ⟨fun _ => effs_nil, fun _ => ?_⟩
  dsimp only
  split <;> simp [hf]

end

end Sys2Proof.Machine
end

section
/-! Frames of the safety block, of redundancy, of Bedrock and of the Ledger. -/

namespace Sys2Proof.Machine

theorem Foot.frame_pages_fields {fs : List Fld} {ps : List Part} {p : Prog} {s t : State} (ht : run (onPages p) s = .next t)
    (h : ∀ φ : Foot, φ.Fields fs → φ.Parts ps → Effs φ.ok (p s)) : Within { fields := fs } s t ∧ t.b = s.b.take ps t.b :=
  Foot.frame_fields ht fun φ hf hp => effs_onlyIf.2 fun _ => h φ hf hp

/-- A reach that holds the pages of Bedrock and of the Ledger. -/
theorem Foot.Covers.bedPages {φ : Foot} {r : Reach} {ps : List Part} {qu : Nat → Prop} (c : φ.Covers r ps qu)
    (hp : ∀ n ∈ [0xA0, 0xA1], n ∈ r.pages) (hf : ∀ n ∈ [0xA0, 0xA1], n ∈ r.force) (hw : ∀ n ∈ [0xA0, 0xA1], n ∈ r.pend) :
    φ.BedPages := by
  refine ⟨⟨fun k h1 h2 => ?_, c.store⟩, fun k hk => c.page k (hp _ hk)⟩
  have page : pageOfKey k ∈ [0xA0, 0xA1] := by
    simp only [List.mem_cons, List.not_mem_nil, or_false]
    unfold keyAt pageOfKey at *
    omega
  exact ⟨c.page k (hp _ page), c.force k (hf _ page), c.pend k (hw _ page)⟩

section
variable {φ : Foot}

@[simp] theorem readbackCheck_ok (hf : φ.Fields (tripFlds ++ butOwn ++ failOwn ++ inhOwn ++ parOwn ++ parFaultOwn
      ++ [F.PAR_VSAFE_V] ++ flags [F.PAR_STICKY_OPEN_LOAD]))
    (hp : φ.Parts [.par, .setNow, .ldg, .pairs, .pwm, .cmps, .fad, .crn, .mpt, .rdg, .lanes, .but, .sys])
    (ch out hs ls vsafe : Nat) (s : State) : Effs φ.ok (readbackCheck ch out hs ls vsafe s) := by
  simp at hf hp
  refine effs_ite.2 ⟨fun _ => effs_nil, fun _ => effs_inOrder ?_⟩
  simp [onMain, hf, hp]

/-- What a die shows of its code at the arbiter (R400). -/
theorem arbCode_ok {d : Nat} (hf : φ.Fields [F.BUT_ARB_STATUS_CODE_P, F.BUT_ARB_STATUS_CODE_S]) :
    φ.key (if d = 0 then F.BUT_ARB_STATUS_CODE_P else F.BUT_ARB_STATUS_CODE_S).key := by
  simp at hf
  split <;> simp [hf]

end

end Sys2Proof.Machine

namespace Sys2Proof

open Machine

/-- Settles O59: each command's effects are within the footprint that its reach and its parts make. -/
theorem frameSafetyAndLedger : Obligations.FrameSafetyAndLedger := by
  and_intros
  · exact fun mv s t ht => Foot.frame_fields (ps := [.bed, .met, .acc]) ht fun φ hf hp => by
      simp at hf hp
      apply metrologySave_ok <;> simp [storeOwn, hf, hp]
  · refine fun wire len1 len2 khz s t ht => Foot.frame_run (ps := [.setNow, .waiting, .sys, .inReset, .ldg, .crn, .lanes, .rdg,
      .pairs, .pwm, .cmps, .mpt, .fad, .but, .par]) ht (Foot.queuesAt_of_none (fun _ h => h) s) fun φ c => ?_
    obtain ⟨fields, parts⟩ := And.intro c.fld c.part
    simp at fields parts
    refine xcmpFrame_ok (c.adopts (by simp) (by simp)) ?_ ?_ _ _ _ _ s
    · simp [butOwn, failOwn, inhOwn, parOwn, parFaultOwn, pinsOwn, respOwn, fields]
    · simp [parts]
  · exact fun s t ht => Foot.frame_fields (ps := [.setNow, .sys, .inReset, .ldg, .crn, .lanes, .rdg, .pairs, .pwm, .cmps,
      .mpt, .fad, .but, .par]) ht fun φ hf hp => by
      simp at hf hp
      apply xcmpTimeout_ok <;> simp [butOwn, failOwn, inhOwn, parOwn, parFaultOwn, hf, hp]
  · exact fun ch pin level s t ht => Foot.frame_fields (ps := [.setNow, .sys, .inReset, .ldg, .crn, .lanes, .rdg, .pairs,
      .pwm, .cmps, .mpt, .fad, .but, .par]) ht fun φ hf hp => by
      simp at hf hp
      apply safetyInputChange_ok <;> simp [butOwn, failOwn, inhOwn, parOwn, pinsOwn, hf, hp]
  · exact fun x s t ht => Foot.frame_fields (ps := [.setNow, .sys, .inReset, .ldg, .crn, .lanes, .rdg, .pairs, .pwm, .cmps,
      .mpt, .fad, .but, .par]) ht fun φ hf hp => by
      simp at hf hp
      apply discTimeout_ok <;> simp [butOwn, failOwn, inhOwn, parOwn, parFaultOwn, hf, hp]
  · exact fun ch pin before inside after s t ht => Foot.frame_fields (ps := [.setNow, .sys, .inReset, .ldg, .crn, .lanes,
      .rdg, .pairs, .pwm, .cmps, .mpt, .fad, .but, .par]) ht fun φ hf hp => by
      simp at hf hp
      apply tpsSample_ok <;> simp [butOwn, failOwn, inhOwn, parOwn, parFaultOwn, hf, hp]
  · exact fun sw s t ht => Foot.frame_fields (ps := [.setNow, .sys, .inReset, .ldg, .crn, .lanes, .rdg, .pairs, .pwm, .cmps,
      .mpt, .fad, .but, .par]) ht fun φ hf hp => by
      simp at hf hp
      apply switchOverload_ok <;> simp [butOwn, failOwn, inhOwn, parOwn, parFaultOwn, hf, hp]
  · exact fun mv s t ht => Foot.frame_power_fields (ps := [.setNow, .sys, .inReset, .ldg, .crn, .lanes, .rdg, .pairs, .pwm,
      .cmps, .mpt, .fad, .but, .par]) ht fun φ hf hp => by
      simp at hf hp
      apply vsafeOut_ok <;> simp [butOwn, failOwn, inhOwn, parOwn, parFaultOwn, hf, hp]
  · exact fun ch out hs ls vsafe s t ht => Foot.frame_fields (ps := [.setNow, .sys, .inReset, .ldg, .crn, .lanes, .rdg,
      .pairs, .pwm, .cmps, .mpt, .fad, .but, .par]) ht fun φ hf hp => by
      simp at hf hp
      apply readbackCheck_ok <;> simp [butOwn, failOwn, inhOwn, parOwn, parFaultOwn, hf, hp]
  · exact fun s t ht => Foot.frame_main_fields (ps := [.par]) ht fun φ hf hp => by
      simp at hf hp
      apply darkTest_ok
      simp [hp]
  · exact fun level vsafe s t ht => Foot.frame_main_fields (ps := [.setNow, .sys, .inReset, .ldg, .crn, .lanes, .rdg, .pairs,
      .pwm, .cmps, .mpt, .fad, .but, .par]) ht fun φ hf hp => by
      simp at hf hp
      apply darkTestEnd_ok <;> simp [butOwn, failOwn, inhOwn, parOwn, parFaultOwn, hf, hp]
  · exact fun us1 us2 s t ht => Foot.frame_main_fields (ps := [.setNow, .ldg, .par]) ht fun φ hf hp => by
      simp at hf hp
      apply resetSafeEdge_ok <;> simp [hf, hp]
  · exact fun s t ht => Foot.frame_main_fields (ps := [.setNow, .ldg]) ht fun φ hf hp => by
      simp at hf hp
      apply resetStuck_ok <;> simp [hf, hp]
  · exact fun passed s t ht => Foot.frame_fields (ps := [.setNow, .sys, .inReset, .ldg, .crn, .lanes, .rdg, .pairs, .pwm,
      .cmps, .mpt, .fad, .but, .par]) ht fun φ hf hp => by
      simp at hf hp
      apply parapetInitDone_ok <;> simp [butOwn, failOwn, inhOwn, parOwn, parFaultOwn, hf, hp]
  · refine fun s t ht => Foot.frame_main (ps := [.freeCtr, .setNow, .commitNow, .commitWas, .waiting, .ldg]) ht
      (Foot.queuesAt_of_none (fun _ h => h) s) fun φ c => ?_
    obtain ⟨fields, parts⟩ := And.intro c.fld c.part
    simp at fields parts
    exact parCommit_ok (c.takes (by simp) (by simp)) (by simp [fields]) (by simp [parts]) s
  · exact fun v s t ht => Foot.frame_main_fields (ps := [.setNow, .sys, .inReset, .ldg, .crn, .lanes, .rdg, .pairs, .pwm,
      .cmps, .mpt, .fad, .but, .phs]) ht fun φ hf hp => by
      simp at hf hp
      apply butCtrlWrite_ok <;> simp +contextual [laneOwn, roleOwn, butOwn, failOwn, hf, hp]
  · exact fun s t ht => Foot.frame_main_fields (ps := [.setNow, .sys, .inReset, .ldg, .crn, .lanes, .rdg, .pairs, .pwm,
      .cmps, .mpt, .fad, .but]) ht fun φ hf hp => by
      simp at hf hp
      apply butReadyEvent_ok <;> simp [butOwn, failOwn, hf, hp]
  · exact fun level s t ht => Foot.frame_main_fields (ps := [.setNow, .sys, .inReset, .ldg, .crn, .lanes, .rdg, .pairs, .pwm,
      .cmps, .mpt, .fad, .but]) ht fun φ hf hp => by
      simp at hf hp
      apply grantAccept_ok <;> simp [butOwn, hf, hp]
  · exact fun s t ht => Foot.frame_main_fields (ps := [.freeCtr, .setNow, .sys, .inReset, .ldg, .crn, .lanes, .rdg, .pairs,
      .pwm, .cmps, .mpt, .fad, .ke0, .ke1, .fpm, .but]) ht fun φ hf hp => by
      simp at hf hp
      apply butTakeover_ok <;> simp +contextual [butOwn, failOwn, fpmOwn, stageOwn, hf, hp]
  · exact fun s t ht => Foot.frame_main_fields (ps := [.setNow, .sys, .inReset, .ldg, .crn, .lanes, .rdg, .pairs, .pwm,
      .cmps, .mpt, .fad, .but]) ht fun φ hf hp => by
      simp at hf hp
      apply grantRemove_ok <;> simp [butOwn, hf, hp]
  · exact fun s t ht => Foot.frame_main_fields (ps := [.setNow, .ldg, .but]) ht fun φ hf hp => by
      simp at hf hp
      apply butRequest_ok <;> simp [butOwn, hf, hp]
  · exact fun s t ht => Foot.frame_main_fields (ps := [.but]) ht fun φ hf hp => by
      simp at hf hp
      apply requestExpire_ok <;> simp [butOwn, hf, hp]
  · exact fun s t ht => Foot.frame_main_fields (ps := [.setNow, .ldg, .but]) ht fun φ hf hp => by
      simp at hf hp
      apply revertHold_ok <;> simp [butOwn, hf, hp]
  · exact fun f s t ht => Foot.frame_main_fields (ps := [.lanes, .but]) ht fun φ hf hp => by
      simp at hf hp
      apply mirSet_ok <;> simp [butOwn, hf, hp]
  · exact fun f s t ht => Foot.frame_main_fields (ps := [.lanes, .but]) ht fun φ hf hp => by
      simp at hf hp
      apply mirSet_ok <;> simp [butOwn, hf, hp]
  · exact fun f s t ht => Foot.frame_main_fields (ps := [.lanes, .but]) ht fun φ hf hp => by
      simp at hf hp
      apply mirSet_ok <;> simp [butOwn, hf, hp]
  · exact fun f s t ht => Foot.frame_main_fields (ps := [.lanes, .but]) ht fun φ hf hp => by
      simp at hf hp
      apply acknowledge_ok <;> simp [butOwn, hf, hp]
  · exact fun f s t ht => Foot.frame_main_fields (ps := [.lanes, .but]) ht fun φ hf hp => by
      simp at hf hp
      apply statusRx_ok <;> simp [butOwn, hf, hp]
  · exact fun s t ht => Foot.frame_main_fields (ps := [.setNow, .ldg, .lanes, .but]) ht fun φ hf hp => by
      simp at hf hp
      apply mirrorRetry_ok <;> simp [butOwn, hf, hp]
  · exact fun s t ht => Foot.frame_main_fields (ps := [.setNow, .ldg, .but]) ht fun φ hf hp => by
      simp at hf hp
      apply mirrorLost_ok <;> simp [butOwn, hf, hp]
  · refine fun s t ht => Foot.frame_main (ps := [.freeCtr, .setNow, .commitNow, .commitWas, .waiting, .ldg]) ht
      (Foot.queuesAt_of_none (fun _ h => h) s) fun φ c => ?_
    obtain ⟨fields, parts⟩ := And.intro c.fld c.part
    simp at fields parts
    exact butCommit_ok (c.takes (by simp) (by simp)) (by simp [fields]) (by simp [parts]) s
  · refine fun d ns inhPin s t ht => Foot.frame_main_fields (ps := [.but]) ht fun φ hf hp => ?_
    simp at hf hp
    have code := arbCode_ok (φ := φ) (d := d) (by simp [hf])
    simp at code
    apply arbEdge_ok <;> simp [code, hf, hp]
  · refine fun d s t ht => Foot.frame_main_fields (ps := [.but]) ht fun φ hf hp => ?_
    simp at hf hp
    have code := arbCode_ok (φ := φ) (d := d) (by simp [hf])
    simp at code
    apply arbTimeout_ok <;> simp [code, hf, hp]
  · exact fun s t ht => Foot.frame_main_fields (ps := []) ht fun φ hf hp => by
      simp at hf
      apply arbIssue_ok
      simp [hf]
  · exact fun mv s t ht => Foot.frame_fields (ps := [.freeCtr, .setNow, .sys, .inReset, .bed, .ldg, .crn, .lanes, .rdg,
      .pairs, .pwm, .cmps, .mpt, .fad, .but, .phs, .met, .acc]) ht fun φ hf hp => by
      simp at hf hp
      apply vddLoss_ok <;> simp [butOwn, failOwn, storeOwn, harvOwn, srcOwn, railOwn, hf, hp]
  · exact fun mv s t ht => Foot.frame_fields (ps := [.setNow, .bed, .ldg]) ht fun φ hf hp => by
      simp at hf hp
      apply vbatLow_ok <;> simp [hf, hp]
  · exact fun mv harv s t ht => Foot.frame_fields (ps := [.freeCtr, .setNow, .plumb, .bed, .ldg, .met, .acc]) ht
      fun φ hf hp => by
      simp at hf hp
      apply storeThreshold_ok <;> simp [storeOwn, harvOwn, srcOwn, codeOwn, hf, hp]
  · exact fun mv s t ht => Foot.frame_fields (ps := [.freeCtr, .setNow, .bed, .ldg]) ht fun φ hf hp => by
      simp at hf hp
      apply harvestProbe_ok <;> simp [storeOwn, srcOwn, hf, hp]
  · exact fun voc s t ht => Foot.frame_fields (ps := [.bed]) ht fun φ hf hp => by
      simp at hf hp
      apply harvestSample_ok <;> simp [hf, hp]
  · exact fun secs mv s t ht => Foot.frame_fields (ps := [.setNow, .bed, .ldg]) ht fun φ hf hp => by
      simp at hf hp
      apply coldStart_ok <;> simp [storeOwn, harvOwn, hf, hp]
  · refine fun mv s t ht => Foot.frame_run (ps := [.setNow, .ldg, .queSeq, .queNow]) (qu := (· = s.get F.LDG_Q_QUEUE)) ht
      (Foot.queuesAt_ofReach (by simp) (by simp) fun _ h => .inr h) fun φ c => ?_
    obtain ⟨fields, parts⟩ := And.intro c.fld c.part
    simp at fields parts
    refine recordWrite_ok ⟨⟨⟨?_, ?_⟩, c.queue _ rfl, c.store⟩, fun i hi => c.word _ (.inl (by omega))⟩ ?_ ?_ _
    · simp [fields]
    · simp [parts]
    · simp [storeOwn, slotOwn, fullOwn, deferOwn, fields]
    · simp [parts]
  · refine fun mv s t ht => Foot.frame_run (ps := [.setNow, .ldg, .queSeq, .queNow]) (qu := (· = s.get F.LDG_Q_QUEUE)) ht
      (Foot.queuesAt_ofReach (by simp) (by simp) fun _ h => .inr h) fun φ c => ?_
    obtain ⟨fields, parts⟩ := And.intro c.fld c.part
    simp at fields parts
    refine deferSummary_ok ⟨⟨⟨?_, ?_⟩, c.queue _ rfl, c.store⟩, fun i hi => c.word _ (.inl (by omega))⟩ ?_ ?_ _
    · simp [fields]
    · simp [parts]
    · simp [storeOwn, slotOwn, fullOwn, fields]
    · simp [parts]
  · exact fun mv s t ht => Foot.frame_fields (ps := [.bed]) ht fun φ hf hp => by
      simp at hf hp
      apply counterCheckpoint_ok <;> simp [storeOwn, hf, hp]
  · exact fun s t ht => Foot.frame_fields (ps := [.setNow, .bed, .ldg]) ht fun φ hf hp => by
      simp at hf hp
      apply xtalFail_ok <;> simp [hf, hp]
  · exact fun s t ht => Foot.frame_fields (ps := [.setNow, .ldg]) ht fun φ hf hp => by
      simp at hf hp
      apply xtalRestore_ok <;> simp [hf, hp]
  · exact fun s t ht => Foot.frame_fields (ps := [.freeCtr, .setNow, .plumb, .bed, .ldg]) ht fun φ hf hp => by
      simp at hf hp
      apply opsecTick_ok <;> simp [codeOwn, hf, hp]
  · refine fun mv vbat badCp badMet s t ht => Foot.frame_run (ps := [.freeCtr, .setNow, .bed, .ldg, .met, .acc]) ht
      (Foot.queuesAt_of_none (fun _ h => h) s) fun φ c => ?_
    obtain ⟨fields, parts⟩ := And.intro c.fld c.part
    simp at fields parts
    exact bedrockStart_ok (c.bedPages (by simp) (by simp) (by simp)) (by simp +contextual [restoreOwn,
        fields]) (by simp +contextual [parts]) _ _ _ _ s
  · exact fun s t ht => Foot.frame_fields (ps := [.setNow, .bed, .ldg]) ht fun φ hf hp => by
      simp at hf hp
      apply ledgerScanDone_ok <;> simp [hf, hp]
  · exact fun s t ht => Foot.frame_pages_fields (ps := [.setNow, .ldg]) ht fun φ hf hp => by
      simp at hf hp
      apply erase_ok <;> simp [hf, hp]
  · refine fun s t ht => Foot.frame_run (ps := [.setNow, .plumb, .ldg, .queSeq, .queNow]) (qu := (· = s.get F.LDG_Q_QUEUE)) ht
      (Foot.queuesAt_ofReach (by simp) (by simp) fun _ h => .inr (.inr h)) fun φ c => ?_
    obtain ⟨fields, parts⟩ := And.intro c.fld c.part
    simp at fields parts
    refine eraseDone_ok ⟨⟨?_, ?_⟩, c.queue _ rfl, c.store⟩ (fun i hi => c.word _ (.inl (by omega)))
      (fun a lo hi last => c.word a (.inr (.inl ⟨lo, hi, last⟩))) ?_ ?_
    · simp [fields]
    · simp [parts]
    · simp [erasedOwn, slotOwn, deferOwn, codeOwn, fields]
    · simp [parts]
  · exact fun n s t ht => Foot.frame_pages_fields (ps := []) ht fun φ hf hp => by
      simp at hf
      apply opsecRead_ok
      simp [hf]
  · exact fun k v s t ht => Foot.frame_pages_fields (ps := [.setNow]) ht fun φ hf hp => by
      simp at hf hp
      apply bedConfig_ok <;> simp [hf, hp]
  · exact fun code s t ht => Foot.frame_pages_fields (ps := []) ht fun φ hf hp => by
      simp at hf
      apply sevqLookup_ok
      simp [hf]
  · exact fun mv s t ht => Foot.frame_power_fields (ps := [.par]) ht fun φ hf hp => by
      simp at hf hp
      apply vsafeReturn_ok <;> simp [hf, hp]
  · refine fun mv s t ht => Foot.frame_run (ps := [.freeCtr, .setNow, .bed, .ldg, .met, .acc]) ht
      (Foot.queuesAt_of_none (fun _ h => h) s) fun φ c => ?_
    obtain ⟨fields, parts⟩ := And.intro c.fld c.part
    simp at fields parts
    exact vbatChange_ok (c.bedPages (by simp) (by simp) (by simp)) (by simp +contextual [restoreOwn,
        fields]) (by simp +contextual [parts]) _ s

end Sys2Proof
end

section
/-! What a meaning leaves as it is, read off its footprint; and the parts of the blocks that a meaning keeps. -/

namespace Sys2Proof.Machine

/-- What a meaning does to a state is what its effects there do. -/
theorem after_congr {p q : Prog} {s : State} (h : p s = q s) : after p s = after q s := congrArg (applyAll s) h

@[simp] theorem Foot.key_butPart (q : Part) (k : Nat) : (Foot.butPart q).key k := trivial
@[simp] theorem Foot.fields_butPart (q : Part) (fs : List Fld) : (Foot.butPart q).Fields fs := fun _ _ => trivial
@[simp] theorem Foot.part_butPart {p q : Part} : (Foot.butPart q).part p ↔ p ≠ q := Iff.rfl
@[simp] theorem Foot.records_butPart {q : Part} (h : q ∉ [.sec, .ldg, .queSeq, .queNow, .setNow]) (n : Nat) :
    (Foot.butPart q).Records n := ⟨⟨by simp, fun p hp e => h (e ▸ hp)⟩, trivial, trivial⟩
@[simp] theorem Foot.adopts_butPart (q : Part) (lo hi : Nat) : (Foot.butPart q).Adopts lo hi := ⟨fun _ _ _ => trivial, trivial⟩
@[simp] theorem Foot.takes_butPart (q : Part) (lo hi : Nat) : (Foot.butPart q).Takes lo hi := fun _ _ _ => trivial
@[simp] theorem Foot.adopts_butKey (k lo hi : Nat) : (Foot.butKey k).Adopts lo hi := ⟨fun _ _ _ => trivial, trivial⟩
@[simp] theorem Foot.takes_butKey (k lo hi : Nat) : (Foot.butKey k).Takes lo hi := fun _ _ _ => trivial

/-- A meaning within all but a part keeps it. -/
theorem same_after_butPart {p : Prog} {q : Part} (h : p.All (Foot.butPart q).ok) (s : State) : q.same s.b (after p s).b :=
  same_of_butPart (h s) s

/-- The timebase is its value and the rest. -/
theorem tim_of_same {b c : Blocks} (h : Part.same b c .tim) (hn : Part.same b c .now) : c.tim = b.tim :=
  calc c.tim = { { c.tim with t := 0 } with t := c.tim.t } := rfl
    _ = { { b.tim with t := 0 } with t := b.tim.t } := by rw [h, hn]

theorem tim_after_butPart {p : Prog} (h : p.All (Foot.butPart .tim).ok) (hn : p.All (Foot.butPart .now).ok) (s : State) :
    (after p s).b.tim = s.b.tim :=
  tim_of_same (same_after_butPart h s) (same_after_butPart hn s)

/-- A record leaves the timebase as it is. -/
@[simp] theorem State.tim_postRecord (s : State) (c i : Nat) (ps : List Nat) : (s.postRecord c i ps).b.tim = s.b.tim :=
  tim_of_same (same_of_butPart (es := [.led c i ps]) (by simp) s) (same_of_butPart (es := [.led c i ps]) (by simp) s)

/-- A record leaves the registers off the Ledger's page as they are; the page by its number, for `simp`. -/
@[simp] theorem State.get_postRecord_off {s : State} {c i : Nat} {ps : List Nat} {f : Fld} (h : f.key / 131072 ≠ 0xA1) :
    (s.postRecord c i ps).get f = s.get f := State.get_postRecord h

theorem on_put_of_ne {f g : Fld} (h : f.key ≠ g.key) (s : State) (v : Nat) : (s.put f v).on g = s.on g := by
  rw [State.on, State.get_put, if_neg h]
  rfl

/-- A field of one bit shows the bit that it was set to. -/
theorem on_put_self {f : Fld} (h : f.w = 1) (s : State) (b : Bool) : (s.put f (bit b)).on f = b := by
  rw [State.on, State.get_put_self, h]
  cases b <;> rfl

end Sys2Proof.Machine
end

section
/-! The edges of PPS_IN, the writes of TIM_CTRL and the local second boundary (R53 to R58, R451). -/

namespace Sys2Proof.Machine

theorem after_ppsInEdge {s : State} (hc : s.b.tim.counting = true) (phase : Nat) (settled : Bool) :
    after (ppsInEdge phase settled) s = after (inOrder [onlyIf (fun t => t.on F.TIM_STATUS_GM) (ppsOnGm phase settled), dividerSync,
      guarUpdate]) (s.put F.TIM_STATUS_PPS_IN_PRESENT 1) := by
  show applyAll s (if !s.b.tim.counting then [] else _) = _
  rw [hc]
  rfl

/-- After an edge the dividers and the guarantees follow; they move no time and show nothing of TIM. -/
theorem get_after_edgeEnd {f : Fld} (h : f.key ∉ (guarFlds ++ [F.SYS_STATUS_DIV_SYNC]).map Fld.key) (s : State) :
    (after (inOrder [dividerSync, guarUpdate]) s).get f = s.get f := by
  have fields := Foot.fields_butKey h
  rw [Foot.fields_append] at fields
  exact get_after_butKey (all_inOrder (by simp [guarUpdate_ok fields.1, dividerSync_ok fields.2])) s

theorem tim_after_edgeEnd (s : State) : (after (inOrder [dividerSync, guarUpdate]) s).b.tim = s.b.tim :=
  tim_after_butPart (all_inOrder (by simp)) (all_inOrder (by simp)) s

/-- With the time of day armed, an edge on the grandmaster is that second's beginning (R54). -/
theorem after_ppsOnGm_armed {s : State} {n : Nat} (h : s.b.tim.armed = some n) (phase : Nat) :
    after (ppsOnGm phase true) s = after (inOrder [fun _ => [.set F.TIM_PPS_ERR_ERR 0, alignTo n phase, .set F.TIM_STATUS_TOD_ARMED 0,
        .upd (fun b => { b with tim := { b.tim with
          armed := none, ppsBad := 0, validNext := !s.on F.CLK_STATUS_LOCK && !s.on F.TIM_STATUS_VALID } }),
        .led 0x0812 0 [n, n / 2 ^ 32]], onlyIf (fun t => t.on F.CLK_STATUS_LOCK) (validSet n)]) s := by
  have armed : (s.b.tim.armed.isSome && true) = true := by simp [h]
  show applyAll s (if (s.b.tim.armed.isSome && true) = true then _ else _) = _
  rw [if_pos armed, h]
  rfl

theorem get_after_validIfLocked {f : Fld} (h : f.key ∉ (ledgerFlds ++ [F.TIM_STATUS_VALID]).map Fld.key) (n : Nat) (s : State) :
    (after (onlyIf (fun t => t.on F.CLK_STATUS_LOCK) (validSet n)) s).get f = s.get f :=
  get_after_butKey (all_onlyIf (validSet_ok n (Foot.fields_butKey h) (by simp))) s

/-- PPS_OUT at the boundary: what it does stands, and so does the edge's own bit. -/
theorem after_secondBoundary {s : State} (hc : s.b.tim.counting = true) : after secondBoundary s =
    after (inOrder [ppsOutRise, boundarySync, phsAdopt, boundaryFreeze, guarUpdate]) (after (fun s => raise s ppsEdgeFld 1) s) := by
  rw [secondBoundary, after_onlyIf, if_pos hc]
  rfl

theorem tim_after_boundaryEnd (s : State) :
    (after (inOrder [boundarySync, phsAdopt, boundaryFreeze, guarUpdate]) s).b.tim = s.b.tim :=
  tim_after_butPart (all_inOrder (by simp)) (all_inOrder (by simp)) s

theorem records_edge (q : Nat) : (Foot.butKey ppsEdgeFld.key).Records q :=
  ⟨⟨Foot.fields_append.2 ⟨Foot.fields_butKey (by decide), by
    simp [queueFlds, ppsEdgeFld, keyAt, Fld.key_irq]
    omega⟩, by simp⟩, trivial, trivial⟩

theorem get_after_boundaryEnd (s : State) :
    (after (inOrder [ppsOutRise, boundarySync, phsAdopt, boundaryFreeze, guarUpdate]) s).get ppsEdgeFld = s.get ppsEdgeFld := by
  refine get_after_butKey (all_inOrder ?_) s
  simp only [alls_cons, alls_nil, and_true]
  exact ⟨ppsOutRise_ok (by simp), boundarySync_ok (Foot.fields_butKey (by decide)),
    phsAdopt_ok (by simp) (Foot.fields_butKey (by decide)) (by simp),
    fun t => boundaryFreeze_ok (records_edge _) (Foot.fields_butKey (by decide)) (by simp),
    guarUpdate_ok (Foot.fields_butKey (by decide)) (by simp)⟩

theorem bit_mod_two (b : Bool) : (bit b % 2 == 1) = b := by cases b <;> rfl

theorem get_after_raise_of_ne {f g : Fld} (h : f.key ≠ g.key) (m : Nat) (s : State) : (after (fun s => raise s f m) s).get g = s.get g :=
  (State.get_put s f g _).trans (if_neg h)

theorem ppsInstant_after_raise (s : State) (b : Nat) : ppsInstant (after (fun s => raise s ppsEdgeFld 1) s) b = ppsInstant s b := by
  rw [ppsInstant, State.int, get_after_raise_of_ne (by decide)]
  rfl

theorem on_after_raise {g : Fld} (h : ppsEdgeFld.key ≠ g.key) (s : State) : (after (fun s => raise s ppsEdgeFld 1) s).on g = s.on g := by
  rw [State.on, get_after_raise_of_ne h]
  rfl

theorem int_after_raise {g : Fld} (h : ppsEdgeFld.key ≠ g.key) (s : State) :
    (after (fun s => raise s ppsEdgeFld 1) s).int g = s.int g := by
  rw [State.int, get_after_raise_of_ne h]
  rfl

/-- The instant of PPS_OUT has come at the boundary (R58). -/
theorem tim_after_ppsOutRise_now {s : State} (en : s.on F.TIM_CTRL_PPS_OUT_EN = true) (gate : s.on F.TIM_CTRL_PPS_OUT_GATE = false)
    (ofs : 0 ≤ s.int F.TIM_PPS_OUT_OFS_OFS) (now : ppsInstant s (nearestSec s.b.tim.t * tuSec) < (s.b.tim.t + tuFab : Nat)) :
    (after ppsOutRise s).b.tim.ppsOut = true ∧
      (after ppsOutRise s).b.tim.ppsRise = ppsInstant s (nearestSec s.b.tim.t * tuSec) := by
  rw [after, ppsOutRise, if_neg (Int.not_lt.2 ofs), if_pos now, ppsStart, en, gate]
  exact ⟨rfl, rfl⟩

theorem tim_after_ppsOutRise_later {s : State} (ofs : 0 ≤ s.int F.TIM_PPS_OUT_OFS_OFS)
    (later : ¬ ppsInstant s (nearestSec s.b.tim.t * tuSec) < (s.b.tim.t + tuFab : Nat)) :
    (after ppsOutRise s).b.tim.ppsDue = some (nearestSec s.b.tim.t * tuSec) := by
  rw [after, ppsOutRise, if_neg (Int.not_lt.2 ofs), if_neg later]
  rfl

/-- VALID is clear after it clears. -/
theorem get_after_validClear (cause : Nat) (s : State) : (after (validClear cause) s).get F.TIM_STATUS_VALID = 0 := by
  by_cases valid : s.on F.TIM_STATUS_VALID = true
  · have cancel : Effs (Foot.butKey F.TIM_STATUS_VALID.key).ok (schedCancel s) :=
      schedCancel_ok (Foot.fields_butKey (by decide)) (by simp) s
    have led : (Foot.butKey F.TIM_STATUS_VALID.key).Fields ledgerFlds := Foot.fields_butKey (by decide)
    simp only at cancel led
    rw [after, validClear, if_neg (by simp [valid]), List.cons_append, List.cons_append, List.cons_append, applyAll_cons,
      get_of_butKey (by simp [cancel, led]; decide), Eff.apply, State.get_put_self]
    rfl
  · have clear : (!s.on F.TIM_STATUS_VALID) = true := by simpa using valid
    rw [after, validClear, if_pos clear]
    simpa [State.on] using clear

/-- A write of TIM_CTRL sets its fields; what follows it shows none of them (R55, R57, R58). -/
theorem get_after_timCtrlWrite {f : Fld} (h : f.key ∉ (guarFlds ++ (ledgerFlds ++ validOwn) ++ [F.TIM_STATUS_TOD_ARMED,
      F.RDG_STATUS_UP_VALID, F.RDG_STATUS_GM_HOPS]).map Fld.key) (v : Nat) (s : State) :
    (after (timCtrlWrite v) s).get f = (applyAll s [.set F.TIM_CTRL_GM (bit (v.testBit 1)), .set F.TIM_STATUS_GM (bit (v.testBit 1)),
      .set F.TIM_CTRL_PPS_IN_POL (bit (v.testBit 2)), .set F.TIM_CTRL_PPS_OUT_EN (bit (v.testBit 3)),
      .set F.TIM_CTRL_PPS_OUT_GATE (bit (v.testBit 4)), .set F.TIM_CTRL_PPS_W (bitsOf v 9 8)]).get f := by
  have fields := Foot.fields_butKey h
  rw [Foot.fields_append, Foot.fields_append] at fields
  obtain ⟨⟨guar, valid⟩, rest⟩ := fields
  simp only [Foot.fields_cons] at rest
  rw [after_congr (show timCtrlWrite v s = inOrder [_, _, _] s from rfl), after_inOrder_cons, after_inOrder_cons, after_inOrder_cons, after_inOrder_nil,
    get_after_butKey (guarUpdate_ok guar (by simp)), get_after_butKey (all_onlyIf (validClear_ok 1 valid (by simp))), after,
    applyAll_append, applyAll_append, get_of_butKey, get_of_butKey]
  · simp
  · simp at rest
    simpa [todDiscard] using fun _ => rest

end Sys2Proof.Machine

namespace Sys2Proof

open Machine

/-- Settles O25: the meanings, step by step, and what the later steps leave as the earlier ones made it. -/
theorem timebaseEdges : Obligations.TimebaseEdges := by
  refine ⟨fun phase settled s hl hc => ?_, fun phase settled s hl hc slave => ?_, fun phase n s hl hc gm armed => ?_,
    fun v s hl => ?_, fun v s hl change => ?_, fun s hl hc => ?_, fun s hl hc en gate ofs now => ?_, fun s hl hc en gate ofs later => ?_⟩
  · refine ⟨_, run_onMain hl _, ?_⟩
    rw [after_ppsInEdge hc, after_inOrder_cons, State.on, get_after_edgeEnd (by decide),
      get_after_butKey (all_onlyIf (ppsOnGm_ok (Foot.fields_butKey (by decide)) (by simp) _ _)), State.get_put_self]
    rfl
  · refine ⟨_, run_onMain hl _, ?_⟩
    rw [after_ppsInEdge hc, after_inOrder_cons, tim_after_edgeEnd, after_onlyIf, on_put_of_ne (by decide), slave]
    rfl
  · refine ⟨_, run_onMain hl _, ?_⟩
    have held : (s.put F.TIM_STATUS_PPS_IN_PRESENT 1).b.tim.armed = some n := armed
    have tim (t : State) : (after (onlyIf (fun t => t.on F.CLK_STATUS_LOCK) (validSet n)) t).b.tim = t.b.tim :=
      tim_after_butPart (all_onlyIf (by simp)) (all_onlyIf (by simp)) t
    rw [after_ppsInEdge hc, after_inOrder_cons, tim_after_edgeEnd, State.on, get_after_edgeEnd (by decide),
      get_after_edgeEnd (by decide), after_onlyIf, on_put_of_ne (by decide), gm, if_pos rfl, after_ppsOnGm_armed held,
      after_inOrder_cons, after_inOrder_cons, after_inOrder_nil, tim, get_after_validIfLocked (by decide),
      get_after_validIfLocked (by decide)]
    simp [after, Eff.apply, alignTo, State.get_put]
  · refine ⟨_, run_onMain hl _, ?_⟩
    simp only [State.on]
    rw [get_after_timCtrlWrite (by decide), get_after_timCtrlWrite (by decide), get_after_timCtrlWrite (by decide),
      get_after_timCtrlWrite (by decide)]
    simp [Eff.apply, State.get_put, bit_mod_two]
  · refine ⟨_, run_onMain hl _, ?_⟩
    have turn : (v.toNat.testBit 1 != s.on F.TIM_CTRL_GM) = true := by simpa using change
    rw [after_congr (show timCtrlWrite v.toNat s = inOrder [_, _, _] s from rfl), after_inOrder_cons, after_inOrder_cons, after_inOrder_cons, after_inOrder_nil, State.on,
      get_after_butKey (guarUpdate_ok (Foot.fields_butKey (by decide)) (by simp)), after_onlyIf, if_pos turn, get_after_validClear]
    rfl
  · refine ⟨_, run_onMain hl _, ?_⟩
    rw [after_secondBoundary hc]
    show ((after _ _).get ppsEdgeFld != 0) = true
    rw [get_after_boundaryEnd]
    show ((s.put ppsEdgeFld (s.get ppsEdgeFld ||| 1)).get ppsEdgeFld != 0) = true
    rw [State.get_put_self, Nat.or_mod_two_pow]
    simp [ppsEdgeFld]
  · refine ⟨_, run_onMain hl _, ?_⟩
    rw [after_secondBoundary hc, after_inOrder_cons, tim_after_boundaryEnd]
    rw [← ppsInstant_after_raise] at now ⊢
    exact tim_after_ppsOutRise_now (by rwa [on_after_raise (by decide)]) (by rwa [on_after_raise (by decide)])
      (by rwa [int_after_raise (by decide)]) now
  · refine ⟨_, run_onMain hl _, ?_⟩
    rw [after_secondBoundary hc, after_inOrder_cons, tim_after_boundaryEnd]
    rw [← ppsInstant_after_raise] at later
    exact tim_after_ppsOutRise_later (by rwa [int_after_raise (by decide)]) later

end Sys2Proof
end

section
/-! A mail frame with which a control block of an unknown type came: the block is counted (R67), which the statement of the
mail frames leaves out. -/

namespace Sys2Proof.Machine

open Sys2Proof.Tests

/-- Lane 0 serves a ring role, is ready, and mail is enabled. -/
def mailNode : State :=
  wReg [(F.RDG_CTRL_ENABLE, 1), (F.LNK_STATUS_ROLE 0, 1), (F.LNK_STATUS_READY 0, 1), (F.QUE_MAIL_EN, 1), (F.RDG_ADDR_ADDR, 5)]

/-- A mail frame of one word, with a stray control block. -/
def strayedMail : Frame := { sealed { cls := 3, dest := 5, type := 0x38, hops := 1, data := [1, 0] } with stray := 1 }

theorem crcOk_strayedMail : strayedMail.crcOk = true := by decide +kernel

theorem cnt_mailReceive_strayed : (after (onMain (mailReceive 0 strayedMail)) mailNode).get F.RDG_CNT_CRC_N = 1 := by
  decide +kernel

theorem cnt_qAppend_mailNode : (mailNode.qAppend (mailNode.get F.QUE_MAIL_QUEUE) 6 false ((strayedMail.src + 2 ^ 16 * mailCount strayedMail)
    :: blockWords strayedMail.data (mailCount strayedMail))).get F.RDG_CNT_CRC_N = 0 := by
  decide +kernel

end Sys2Proof.Machine

namespace Sys2Proof

open Machine

/-- Refutes O45: the stray control block of a mail frame is counted beside the record (R67). -/
theorem not_queueCommands : ¬ Obligations.QueueCommands := by
  rintro ⟨-, -, -, -, -, -, -, -, mail⟩
  have record := mail 0 strayedMail mailNode rfl (by decide) rfl rfl (by decide) (by decide) (by decide) crcOk_strayedMail
    (by decide) (by decide)
  have counted : (after (onMain (mailReceive 0 strayedMail)) mailNode).get F.RDG_CNT_CRC_N = 0 := by
    rw [← cnt_qAppend_mailNode]
    exact congrArg (·.get F.RDG_CNT_CRC_N) (Host.Outcome.next.inj record)
  exact absurd (cnt_mailReceive_strayed.symm.trans counted) (by decide)

end Sys2Proof
end

section
/-! The first yearly multiple: with an operating time of 0 no drift record is due (R475). -/

namespace Sys2Proof.Machine

/-- Both dies work and no operating time has passed. -/
def unworn : State := { State.reset with b := { ({} : Blocks) with sys := { inReset := false, pwrReset := false } } }

theorem roRecord_roDrift_unworn : (after (roDrift []) unworn).on F.MON_STICKY_RO_RECORD = false := by decide

end Sys2Proof.Machine

namespace Sys2Proof

open Machine

/-- Refutes O47: at an operating time of 0, and with it MON_RO_NEXT, no multiple of a year has passed, and RO_DRIFT writes
nothing (R475). -/
theorem not_healthCommands : ¬ Obligations.HealthCommands := by
  rintro ⟨-, -, -, -, -, -, -, -, drift, -⟩
  obtain ⟨t, ht, -, recorded, -⟩ := drift [] unworn rfl (by decide) rfl (.inr (by decide))
  have ran : after (roDrift []) unworn = t := Host.Outcome.next.inj ht
  rw [← ran, roRecord_roDrift_unworn] at recorded
  exact absurd recorded (by decide)

end Sys2Proof
end

section
/-! A request frame on the host link that ends in END_ABORT: its check passes, and it is discarded all the same (R70, R437). -/

namespace Sys2Proof.Machine

open Sys2Proof.Tests

/-- The host link is served on L5. -/
def linkNode : State :=
  wReg [(F.SYS_STATUS_READY, 1), (F.HST_CTRL_LINK_EN, 1), (F.LNK_STATUS_ROLE 5, 6), (F.LNK_STATUS_READY 5, 1)]

/-- A read request that ends in END_ABORT. -/
def abortedRequest : Frame := { sealed { cls := 3, type := 0x30, hops := 1 } with abort := true }

theorem link_linkRow_aborted : (after (onMain (linkRow 3 0x30 linkRead (some abortedRequest))) linkNode).b.hst.link = [] := by
  decide +kernel

end Sys2Proof.Machine

namespace Sys2Proof

open Machine

/-- Refutes O52: a request frame that ends in END_ABORT does not enter the queue, whatever its check (R70). -/
theorem not_hostPortCommands : ¬ Obligations.HostPortCommands := by
  rintro ⟨-, -, -, -, -, -, -, -, -, -, -, request, -⟩
  obtain ⟨t, ht, entered, -⟩ := request abortedRequest linkNode rfl (by decide) rfl rfl (by decide) (by decide) (by decide +kernel)
    (by decide)
  have ran : after (onMain (linkRow 3 0x30 linkRead (some abortedRequest))) linkNode = t := Host.Outcome.next.inj ht
  rw [← ran, link_linkRow_aborted] at entered
  exact absurd entered (by simp)

end Sys2Proof
end

section
/-! A safety input change whose filter time has not passed: the pin is not taken, but the inputs are judged all the same, and
a channel that stands in RUN with no enabled input leaves it (R367). -/

namespace Sys2Proof.Machine

open Sys2Proof.Tests

/-- RUN with no input enabled, and a filter time of 100 µs on input 0. -/
def runWithoutInputs : State := wCur [(F.PAR_SIN_CFG_FILT 0, 1)] (wReg [(F.PAR_STATUS_STATE, 2)])

theorem state_runWithoutInputs : runWithoutInputs.get F.PAR_STATUS_STATE = 2 := by decide

theorem state_safetyInputChange_runWithoutInputs :
    (after (safetyInputChange 0 0 true 0) runWithoutInputs).get F.PAR_STATUS_STATE = 1 := by
  decide +kernel

end Sys2Proof.Machine

namespace Sys2Proof

open Machine

/-- Refutes O41: a change that its filter has not let through leaves no state alone; the judgement that comes with it ends RUN
where no input is enabled (R367, R370). -/
theorem not_parapetCommands : ¬ Obligations.ParapetCommands := by
  rintro ⟨-, -, -, unfiltered, -⟩
  obtain ⟨t, ht, -, -, kept⟩ := unfiltered 0 true 0 runWithoutInputs rfl (by decide) (by decide) (by decide)
  have ran : after (safetyInputChange 0 0 true 0) runWithoutInputs = t := Host.Outcome.next.inj ht
  rw [← ran, state_safetyInputChange_runWithoutInputs, state_runWithoutInputs] at kept
  exact absurd kept (by decide)

end Sys2Proof
end

section
/-! A scan whose start trips its own pair: it writes ISLOT 0x9C, a plausibility channel that watches that slot trips the pair,
and the trip aborts the scan (R171, R176, R216, R218). -/

namespace Sys2Proof.Machine

open Sys2Proof.Tests

/-- A scan of input 0 is about to start. Channel 0 of the plausibility monitor watches ISLOT 0x9C with a prediction of 1.0, and its
trip line, source 96, acts on the pair of input 0. -/
def watchedScan : State :=
  wCur [(F.MPT_SCAN_CFG_POINTS, 2), (F.FPM_CH_CFG_N 0, 1), (F.FPM_CH_CFG_SRC 0, 0x9C), (F.FPM_CH_CFG_ACT 0, 3),
      (F.FPM_CH_THR_THR 0, 0x100), (F.TRP_SRC_EN 96, 1), (F.TRP_SRC_GROUPS 96, 1), (F.TRP_PMASK_GROUPS 36, 1)]
    (wB (fun b => { b with
        fad := { b.fad with trigAt := some b.cyc }
        mpt := { b.mpt with todo := [0] }
        fpm := { b.fpm with ch := [{ waits := some 0x40000001, seen := true }] } })
      (wReg [(F.MPT_STATUS_ROUND, 1), (F.FPM_CTRL_ENABLE, 1), (F.KE0_STATUS_STATE, 2)]))

theorem scan_scanStart_watchedScan : (after (onMain scanStart) watchedScan).b.mpt.scan = none := by decide +kernel

end Sys2Proof.Machine

namespace Sys2Proof

open Machine

/-- Refutes O36: SCAN_START leaves no scan in progress where its write of ISLOT 0x9C trips the pair that it takes (R218). -/
theorem not_maximumPowerAndIslandCommands : ¬ Obligations.MaximumPowerAndIslandCommands := by
  rintro ⟨-, -, scans, -⟩
  obtain ⟨t, ht, -, -, -, started, -⟩ := scans 0 [] watchedScan rfl rfl (by decide) (by decide) rfl rfl (by decide) (by decide)
    (by decide) (by decide) (by decide)
  have ran : after (onMain scanStart) watchedScan = t := Host.Outcome.next.inj ht
  rw [← ran, scan_scanStart_watchedScan] at started
  exact absurd started (by simp)

end Sys2Proof
end

section
/-! The references and the line: what search, lock, holdover and a switch leave behind them (R32 to R49, R522). -/

namespace Sys2Proof.Machine

/-! ### What a meaning keeps of the line -/

theorem after_sticky (f : Fld) (s : State) : after (fun _ => [.sticky f]) s = s.stick f := rfl

theorem plumb_after_butPart {p : Prog} (h : p.All (Foot.butPart .plumb).ok) (s : State) : (after p s).b.plumb = s.b.plumb :=
  same_after_butPart h s

@[simp] theorem plumb_after_guarUpdate (s : State) : (after guarUpdate s).b.plumb = s.b.plumb := plumb_after_butPart (by simp) s

theorem get_after_guarUpdate {f : Fld} (h : f.key ∉ guarFlds.map Fld.key) (s : State) : (after guarUpdate s).get f = s.get f :=
  get_after_butKey (guarUpdate_ok (Foot.fields_butKey h) (by simp)) s

theorem on_after_guarUpdate {f : Fld} (h : f.key ∉ guarFlds.map Fld.key) (s : State) : (after guarUpdate s).on f = s.on f := by
  rw [State.on, get_after_guarUpdate h]
  rfl

/-! ### The start of an attempt -/

theorem on_after_beginSearch (mode : PlumbMode) (r cause : Nat) (s : State) (f : Fld) :
    (after (beginSearch mode r cause) s).on f = (s.put F.CLK_STATUS_SEARCHING 1).on f := rfl

theorem mode_after_beginSearch (mode : PlumbMode) (r cause : Nat) (s : State) :
    (after (beginSearch mode r cause) s).b.plumb.mode = mode := rfl

theorem searchRef_after_beginSearch (mode : PlumbMode) (r cause : Nat) (s : State) :
    (after (beginSearch mode r cause) s).b.plumb.searchRef = r := rfl

/-- RELOCK_FULL never hops (R40). -/
theorem hop_after_beginSearch_two (mode : PlumbMode) (r : Nat) (s : State) :
    (after (beginSearch mode r 2) s).b.plumb.hop = false := rfl

/-- With a qualified reference the one that is taken is qualified. -/
theorem refQual_preferredRef {s : State} (h : (refQual s 0 || refQual s 1) = true) : refQual s (preferredRef s) = true := by
  unfold preferredRef
  dsimp only
  split
  · assumption
  next other =>
    cases p : s.get F.CLK_CTRL_REF_PREF with
    | zero =>
      rw [p] at other
      simpa [other] using h
    | succ n =>
      rw [p] at other
      have second : refQual s 1 = false := by simpa [refQual] using other
      rw [show 1 - (n + 1) = 0 by omega]
      simpa [second] using h

/-! ### Holdover -/

/-- What entering holdover shows of the line, and what comes after it. -/
theorem after_enterHoldover (lost : Nat) (s : State) : ∃ es, after (enterHoldover lost) s = applyAll (applyAll s
      [.set F.CLK_STATUS_LOCK_RAW 0, .set F.CLK_STATUS_HOLDOVER 1, .set F.TIM_STATUS_HOLDOVER 1, .set F.CLK_STATUS_SEARCHING 0,
       .set F.CLK_HO_TIME_US 0]) es ∧
    ∀ k, k ∉ (causeFlds ++ flags [F.CLK_STICKY_HOLDOVER_UNTRAINED]).map Fld.key → Effs (Foot.butKey k).ok es := by
  refine ⟨_, by rw [← applyAll_append, after, enterHoldover, List.append_assoc, List.append_assoc, List.append_assoc], fun k hk => ?_⟩
  have fields := Foot.fields_butKey hk
  simp at fields
  simp [fields]

theorem on_holdover_after_enterHoldover (lost : Nat) (s : State) :
    (after (enterHoldover lost) s).on F.CLK_STATUS_HOLDOVER = true ∧ (after (enterHoldover lost) s).on F.CLK_STATUS_LOCK_RAW = false := by
  obtain ⟨es, ran, rest⟩ := after_enterHoldover lost s
  rw [ran, State.on, State.on, get_of_butKey (rest _ (by decide)), get_of_butKey (rest _ (by decide))]
  simp [Eff.apply, State.get_put]

theorem get_after_enterHoldover {f : Fld} (h : f.key ∉ (causeFlds ++ holdOwn).map Fld.key) (lost : Nat) (s : State) :
    (after (enterHoldover lost) s).get f = s.get f :=
  get_after_butKey (enterHoldover_ok lost (Foot.fields_butKey h) (by simp)) s

theorem refQual_after_enterHoldover (lost r : Nat) (s : State) : refQual (after (enterHoldover lost) s) r = refQual s r := by
  unfold refQual State.on
  rw [get_after_enterHoldover (by decide), get_after_enterHoldover (by decide)]

/-- The reference that a line which lost its lock relocks to, if any (R33, R34). -/
def relockChoice (r : Nat) : Prog := fun s =>
  if refQual s r then relockTo r s else if otherReady s r then relockTo (1 - r) s else []

theorem relockChoice_of_refQual {s : State} {r : Nat} (h : refQual s r = true) : relockChoice r s = relockTo r s := if_pos h

theorem refQual_stick_lockLost (s : State) (r : Nat) : refQual (s.stick F.CLK_STICKY_LOCK_LOST) r = refQual s r := by
  simp [refQual, State.on, State.get_stick, Fld.key_irq]

theorem relockChoice_ok {φ : Foot} (hf : φ.Fields [F.CLK_STATUS_SEARCHING]) (hp : φ.Parts [.plumb]) (r : Nat) : (relockChoice r).All φ.ok := by
  intro s
  unfold relockChoice
  (repeat' split) <;> simp [relockTo_ok, hf, hp]

/-- An attempt, and the guarantees after it, show of the line what stood. -/
theorem on_after_relock {f : Fld} {p : Prog} (hp : p.All (Foot.butKey f.key).ok) (h : f.key ∉ guarFlds.map Fld.key) (s : State) :
    (after (inOrder [p, guarUpdate]) s).on f = s.on f := by
  rw [after_inOrder_cons, after_inOrder_cons, after_inOrder_nil, on_after_guarUpdate h, State.on, get_after_butKey hp]
  rfl

theorem plumb_after_relock (p : Prog) (s : State) : (after (inOrder [p, guarUpdate]) s).b.plumb = (after p s).b.plumb := by
  rw [after_inOrder_cons, after_inOrder_cons, after_inOrder_nil, plumb_after_guarUpdate]

/-! ### The commands -/

theorem lockRawLost_of_locked {s : State} (h : s.b.plumb.mode = .locked) : lockRawLost s =
    inOrder [fun _ => [.sticky F.CLK_STICKY_LOCK_LOST], enterHoldover (s.get F.CLK_STATUS_ACTIVE_REF),
      relockChoice (s.get F.CLK_STATUS_ACTIVE_REF), guarUpdate] s :=
  if_pos (by simp [h])

theorem clkSwitch_of_locked {s : State} (h : s.b.plumb.mode = .locked) (hq : refQual s (1 - s.get F.CLK_STATUS_ACTIVE_REF) = true) :
    clkSwitch s = inOrder [enterHoldover (s.get F.CLK_STATUS_ACTIVE_REF), relockTo (1 - s.get F.CLK_STATUS_ACTIVE_REF), guarUpdate] s := by
  simp [clkSwitch, h, hq]

/-- The reference that RELOCK_FULL takes. -/
def relockRef (s : State) : Nat :=
  if refQual s (s.get F.CLK_STATUS_ACTIVE_REF) then s.get F.CLK_STATUS_ACTIVE_REF else preferredRef s

/-- RELOCK_FULL gives up the lock and the synchronisation of the dividers (R40). -/
def relockClears : Prog := fun s => effIf (s.on F.CLK_STATUS_LOCK_RAW) [.sticky F.CLK_STICKY_LOCK_LOST]
  ++ [.set F.CLK_STATUS_LOCK_RAW 0, .set F.SYS_STATUS_DIV_SYNC 0]

theorem on_after_relockClears (s : State) : (after relockClears s).on F.CLK_STATUS_LOCK_RAW = false ∧
    (after relockClears s).on F.SYS_STATUS_DIV_SYNC = false := by
  rw [after, relockClears, applyAll_append]
  simp [State.on, Eff.apply, State.get_put]

theorem relockFull_of_stopped {s : State} (hp : s.on F.SYS_STATUS_PERMIT = false) (hm : s.b.plumb.mode ≠ .off) : relockFull s =
    inOrder [relockClears, if refQual s (relockRef s) then beginSearch .search (relockRef s) 2 else waitSearch 2, guarUpdate] s :=
  if_neg (by simp [hp, hm])

theorem refQual_relockRef {s : State} (h : (refQual s 0 || refQual s 1) = true) : refQual s (relockRef s) = true := by
  unfold relockRef
  split
  · assumption
  · exact refQual_preferredRef h

theorem refQual_eq_false {s : State} (h0 : refQual s 0 = false) (h1 : refQual s 1 = false) : ∀ r, refQual s r = false
  | 0 => h0
  | _ + 1 => h1

/-! ### A reference is qualified, or lost -/

theorem refQualFld_w (r : Nat) : (refQualFld r).w = 1 := by
  unfold refQualFld
  split <;> rfl

theorem refLossFld_w (r : Nat) : (refLossFld r).w = 1 := by
  unfold refLossFld
  split <;> rfl

theorem refQualFld_fields (r : Nat) : (Foot.butKey (refQualFld r).key).Fields (guarFlds ++ holdOwn) := by
  unfold refQualFld
  split <;> exact Foot.fields_butKey (by decide)

theorem refLossFld_fields (r : Nat) : (Foot.butKey (refLossFld r).key).Fields (guarFlds ++ holdOwn) := by
  unfold refLossFld
  split <;> exact Foot.fields_butKey (by decide)

theorem on_after_refQualified (r : Nat) (s : State) : (after (refQualified r) s).on (refQualFld r) = true := by
  have fields := refQualFld_fields r
  have own := fields
  simp [holdOwn] at own
  simp at fields
  rw [refQualified, after_inOrder_cons, State.on, get_after_butKey]
  · exact on_put_self (refQualFld_w r) s true
  · refine all_inOrder (alls_cons.2 ⟨fun t => effs_onlyIf.2 fun _ => ?_, by simp [onMain, fields]⟩)
    split <;> simp [effs_ite, own, fields]

/-- What follows the loss of a reference shows nothing of the flags of the references. -/
theorem get_after_refLost {f : Fld} (h : (Foot.butKey f.key).Fields (guarFlds ++ holdOwn)) (r : Nat) {s : State} (hl : Live s) :
    (after (refLost r) s).get f =
      (applyAll s [.set (refQualFld r) 0, .sticky (refLossFld r), .led 0x0801 0 [r, clkStatusWord s]]).get f := by
  have own := h
  simp [holdOwn] at own
  simp at h
  rw [refLost, after_inOrder_cons, get_after_butKey (all_inOrder (by simp [onMain, effs_ite, own, h]))]
  simp [after, effIf, show s.b.sys.inReset = false from hl]

theorem on_after_refLost (r : Nat) {s : State} (hl : Live s) :
    (after (refLost r) s).on (refQualFld r) = false ∧ (after (refLost r) s).on (refLossFld r) = true := by
  have apart : (refLossFld r).key ≠ (refQualFld r).key ∧ (refLossFld r).irq.key ≠ (refQualFld r).key ∧
      (refLossFld r).irq.key ≠ (refLossFld r).key := by
    unfold refLossFld refQualFld
    split <;> decide
  have off : (refQualFld r).key / 131072 ≠ 0xA1 ∧ (refLossFld r).key / 131072 ≠ 0xA1 := by
    unfold refLossFld refQualFld
    split <;> decide
  rw [State.on, State.on, get_after_refLost (refQualFld_fields r) r hl, get_after_refLost (refLossFld_fields r) r hl]
  simp [Eff.apply, off, State.get_stick, apart, refLossFld_w]

/-! ### The lock of the line -/

/-- The effects of a lock before its stored code and the guarantees (R37, R41, R42). -/
def lockEffs (code phase : Nat) (s : State) : List Eff :=
  let p := s.b.plumb
  let held := s.on F.CLK_STATUS_HOLDOVER
  let us := min (cycUs (s.b.cyc - p.holdAt)) (2 ^ 32 - 1)
  [.set F.CLK_STATUS_SEARCHING 0, .set F.CLK_STATUS_LOCK_RAW 1, .set F.CLK_STATUS_ACTIVE_REF p.searchRef]
  ++ ([.upd fun b => { b with plumb := { b.plumb with codes := b.plumb.codes ++ [(p.searchRef, code)] } }]
    ++ effIf held ([.set F.CLK_STATUS_HOLDOVER 0, .set F.TIM_STATUS_HOLDOVER 0,
        .set F.CLK_HO_TIME_US us, .led 0x0803 0 [p.searchRef, us]] ++ anchorDue)
    ++ effIf (held && s.get F.CLK_STATUS_ACTIVE_REF != p.searchRef) [.sticky F.CLK_STICKY_SWITCHOVER]
    ++ effIf (!p.hop) [.led 0x0804 0 [p.cause, cycUs (s.b.cyc - p.searchAt)]]
    ++ [.set F.CLK_PHASE_NOW_PHASE (if p.everLocked then phase else 0)])
  ++ [.upd fun b => { b with
        plumb := { b.plumb with
          mode := .locked, everLocked := true, holdLong := false, filtRise := true,
          target := s.cur F.CLK_PHASE_OFS_OFS,
          left := if p.everLocked then stepsTo phase (s.cur F.CLK_PHASE_OFS_OFS) else s.cur F.CLK_PHASE_OFS_OFS },
        tim := { b.tim with counting := true } }]

theorem lineLock_of_searching {s : State} (hs : s.on F.CLK_STATUS_SEARCHING = true) (hm : s.b.plumb.mode = .search)
    (code phase : Nat) : lineLock code phase s = inOrder [fun _ => lockEffs code phase s, codeFlush, guarUpdate] s := by
  simp only [lineLock, hs, hm, lockEffs, List.append_assoc]
  rfl

/-- What a lock shows stands while the stored code and the guarantees follow. -/
theorem get_after_lineLock {f : Fld} (h : f.key ∉ (guarFlds ++ codeOwn ++ [F.CLK_STATUS_HOLDOVER, F.TIM_STATUS_HOLDOVER,
      F.CLK_HO_TIME_US, F.CLK_PHASE_NOW_PHASE] ++ flags [F.CLK_STICKY_SWITCHOVER]).map Fld.key) (code phase : Nat) (s : State) :
    (after (inOrder [fun _ => lockEffs code phase s, codeFlush, guarUpdate]) s).get f =
      (applyAll s [.set F.CLK_STATUS_SEARCHING 0, .set F.CLK_STATUS_LOCK_RAW 1,
        .set F.CLK_STATUS_ACTIVE_REF s.b.plumb.searchRef]).get f := by
  have fields := Foot.fields_butKey h
  simp at fields
  rw [after_inOrder_cons, get_after_butKey (all_inOrder (by simp [fields])), after, lockEffs, applyAll_append, applyAll_append,
    get_of_butKey (by simp), get_of_butKey (by simp [anchorDue, fields])]

theorem mode_after_codeFlush (s : State) : (after codeFlush s).b.plumb.mode = s.b.plumb.mode := by
  unfold after codeFlush effIf
  split
  · rw [applyAll_append]
    have stored : Effs (Foot.butPart .plumb).ok (s.b.plumb.codes.flatMap fun c => storeCode c.1 c.2) := by simp
    have kept := congrArg Plumb.mode (same_of_butPart stored s)
    exact kept
  · rfl

/-- After a lock the line is locked and the timebase counts. -/
theorem locked_after_lockEffs (code phase : Nat) (s : State) :
    (after (inOrder [fun _ => lockEffs code phase s, codeFlush, guarUpdate]) s).b.plumb.mode = .locked ∧
    (after (inOrder [fun _ => lockEffs code phase s, codeFlush, guarUpdate]) s).b.tim.counting = true := by
  rw [after_inOrder_cons]
  constructor
  · rw [after_inOrder_cons, after_inOrder_cons, after_inOrder_nil, plumb_after_guarUpdate, mode_after_codeFlush, after, lockEffs,
      applyAll_append]
    rfl
  · rw [tim_after_butPart (all_inOrder (by simp)) (all_inOrder (by simp)), after, lockEffs, applyAll_append]
    rfl

end Sys2Proof.Machine

namespace Sys2Proof

open Machine

/-- Settles O23: the meanings step by step, and what the later steps leave as the earlier ones made it. -/
theorem plumbCommands : Obligations.PlumbCommands := by
  refine ⟨fun s hl hs hop => ?_, fun s hl hs hop hm => ?_, fun s hl hm left => ?_, fun s hl hm left => ?_, fun s hl hd => ?_,
    fun s hl hd => ?_, fun s hl raw lock => ?_, fun s hl hm => ?_, fun s hl held => ?_, fun s hl => ?_, fun s hl => ?_,
    fun r s => ⟨_, rfl, on_after_refQualified r s⟩, fun r s hl => ⟨_, rfl, on_after_refLost r hl⟩, fun s => ?_,
    fun code phase s hl hs hm => ?_, fun s hl hm => ?_, fun s hl hm hq => ?_, fun s hl hm hq => ?_,
    fun s hl hp hq hm => ?_, fun s hl hp h0 h1 hm => ?_⟩
  · exact (run_onMain hl _).trans (congrArg _ (by simp [after, hopMiss, hs, hop]))
  · exact (run_onMain hl _).trans (congrArg _ (by simp [after, fullSearchFail, hs, hop, hm]))
  · exact (run_onMain hl _).trans (congrArg _ (by simp [after, phaseMoveStep, hm, left, left.ne', tuStep]))
  · exact (run_onMain hl _).trans (congrArg _ (by simp [after, phaseMoveStep, hm, left.not_gt, left.ne, tuStep]))
  · exact (run_onMain hl _).trans (congrArg _ (by simp [after, lockDeclare, hd, effIf]))
  · exact (run_onMain hl _).trans (congrArg _ (by simp [after, lockDeclare, hd, effIf]))
  · exact (run_onMain hl _).trans (congrArg _ (by simp [after, lockFiltFault, raw, lock]))
  · exact (run_onMain hl _).trans (congrArg _ (by simp [after, hoTrained, hm, effIf]))
  · refine (run_onMain hl _).trans (congrArg _ ?_)
    rw [after_congr (show holdoverLong s = inOrder [_, _, _] s from if_pos held), after_inOrder_cons]
    rfl
  · refine ⟨_, run_onMain hl _, rfl, ?_⟩
    rw [clkPhaseCommit, after_noted]
    show (s.b.waiting.filter (· != Group.clkPhase) ++ [Group.clkPhase]).contains Group.clkPhase = true
    simp
  · exact run_onMain hl _
  · refine ⟨_, rfl, ?_, ?_⟩
    · show (after lockClear s).on _ = false
      rw [lockClear, after_inOrder_cons, State.on, get_after_butKey]
      · exact on_put_self (f := F.CLK_STATUS_LOCK) rfl s false
      · exact all_inOrder (by simp [leaveOff_ok (φ := Foot.butKey F.CLK_STATUS_LOCK.key) (Foot.fields_butKey (by decide))])
    · show (after lockClear s).b.plumb.filtHigh = false
      rw [lockClear, after_inOrder_cons, after_inOrder_cons, after_inOrder_nil]
      unfold after leaveOff
      split <;> rfl
  · refine ⟨_, run_onMain hl _, ?_⟩
    rw [after_congr (lineLock_of_searching hs hm code phase), State.on, State.on, get_after_lineLock (by decide),
      get_after_lineLock (by decide), get_after_lineLock (by decide)]
    have lock := locked_after_lockEffs code phase s
    refine ⟨?_, ?_, lock.1, lock.2, ?_⟩ <;> simp [Eff.apply, State.get_put]
  · refine ⟨_, run_onMain hl _, ?_⟩
    have held := on_holdover_after_enterHoldover (s.get F.CLK_STATUS_ACTIVE_REF) (s.stick F.CLK_STICKY_LOCK_LOST)
    rw [after_congr (lockRawLost_of_locked hm), after_inOrder_cons, after_inOrder_cons,
      on_after_relock (relockChoice_ok (Foot.fields_butKey (by decide)) (by simp) _) (by decide),
      on_after_relock (relockChoice_ok (Foot.fields_butKey (by decide)) (by simp) _) (by decide),
      on_after_relock (relockChoice_ok (Foot.fields_butKey (by decide)) (by simp) _) (by decide), State.on,
      get_after_enterHoldover (by decide)]
    exact ⟨by simp [after, Eff.apply, State.get_stick, Fld.key_irq], held.2, held.1⟩
  · refine ⟨_, run_onMain hl _, ?_⟩
    rw [after_congr (lockRawLost_of_locked hm), after_inOrder_cons, after_inOrder_cons, plumb_after_relock, after_sticky,
      after_congr (relockChoice_of_refQual ((refQual_after_enterHoldover ..).trans ((refQual_stick_lockLost s _).trans hq)))]
    exact ⟨rfl, rfl⟩
  · refine ⟨_, run_onMain hl _, ?_⟩
    rw [after_congr (clkSwitch_of_locked hm hq), after_inOrder_cons, plumb_after_relock,
      on_after_relock (relockTo_ok _ (Foot.fields_butKey (by decide)) (by simp)) (by decide)]
    exact ⟨(on_holdover_after_enterHoldover _ s).1, rfl, rfl⟩
  · refine ⟨_, run_onMain hl _, ?_⟩
    obtain ⟨raw, sync⟩ := on_after_relockClears s
    have off {f : Fld} (h : f.key ∉ [F.CLK_STATUS_SEARCHING].map Fld.key) : (beginSearch .search (relockRef s) 2).All (Foot.butKey f.key).ok :=
      beginSearch_ok _ _ _ (Foot.fields_butKey h) (by simp)
    rw [after_congr (relockFull_of_stopped hp hm), refQual_relockRef hq, if_pos rfl, after_inOrder_cons, plumb_after_relock,
      on_after_relock (f := F.CLK_STATUS_LOCK_RAW) (off (by decide)) (by decide),
      on_after_relock (f := F.SYS_STATUS_DIV_SYNC) (off (by decide)) (by decide), raw, sync]
    refine ⟨?_, rfl, rfl, rfl, rfl⟩
    rw [after_inOrder_cons, after_inOrder_cons, after_inOrder_nil, on_after_guarUpdate (by decide)]
    exact on_put_self (f := F.CLK_STATUS_SEARCHING) rfl _ true
  · refine ⟨_, run_onMain hl _, ?_⟩
    obtain ⟨raw, sync⟩ := on_after_relockClears s
    have off {f : Fld} (h : f.key ∉ [F.CLK_STATUS_SEARCHING].map Fld.key) : (waitSearch 2).All (Foot.butKey f.key).ok :=
      waitSearch_ok _ (Foot.fields_butKey h) (by simp)
    rw [after_congr (relockFull_of_stopped hp hm), refQual_eq_false h0 h1, if_neg (by simp), after_inOrder_cons, plumb_after_relock,
      on_after_relock (f := F.CLK_STATUS_LOCK_RAW) (off (by decide)) (by decide),
      on_after_relock (f := F.SYS_STATUS_DIV_SYNC) (off (by decide)) (by decide), raw, sync]
    refine ⟨?_, rfl, rfl, rfl⟩
    rw [after_inOrder_cons, after_inOrder_cons, after_inOrder_nil, on_after_guarUpdate (by decide)]
    exact on_put_self (f := F.CLK_STATUS_SEARCHING) rfl _ false

end Sys2Proof
end

section
/-! An idle cycle in which a comparator's ramp ends a period: the new period brings the pair's pending values into force
(R233, R237, R264). -/

namespace Sys2Proof.Machine

open Sys2Proof.Tests

/-- Comparator 0 is ramped and its input stands far above its threshold, which it has not noticed yet; the rise of its HIGH ends
the constant-off-time period of pair 0, whose CFG is pending. -/
def rampedPair : State :=
  wCur [(F.WIN_CFG_EN 0, 1), (F.WIN_RAMP_SLOPE 0, 1), (F.WIN_RAMP_PAIR 0, 0), (F.PAIR_CFG_MODE 0, 3), (F.PAIR_CFG_TERM_TYPE 0, 1)]
    (wB (fun b => { b with
        cyc := 1
        cmps := [{ volt := 1000000000 }]
        pairs := [{ pend := 1, started := true }] })
      (wReg [(F.CMP_CTRL_ENABLE 0, 1)]))

theorem mode_rampedPair : rampedPair.cur (F.PAIR_CFG_MODE 0) = 3 := by decide

/-- The ramp's tick adopts the pair's CFG. -/
theorem mode_idle_rampedPair : (idle rampedPair).cur (F.PAIR_CFG_MODE 0) = 0 := by decide +kernel

end Sys2Proof.Machine

namespace Sys2Proof

open Machine

/-- Refutes O2: values come into force in an idle cycle, where a ramp ends a period of a pair (R237, R264). -/
theorem not_idleStep : ¬ Obligations.IdleStep := by
  intro h
  obtain ⟨t, ht, -, -, -, kept, -⟩ := h rampedPair rfl
  have ran : idle rampedPair = t := Host.Outcome.next.inj ht
  have moved := mode_idle_rampedPair
  rw [ran, State.cur, kept, ← State.cur, mode_rampedPair] at moved
  exact absurd moved (by decide)

end Sys2Proof
end

section
/-! The footprint of all but three things: the permission, whether the main die is in reset, and the energy accumulators. -/

namespace Sys2Proof.Machine

/-- All may be written but SYS_STATUS.PERMIT, whether the main die is in reset, and the energy accumulators. -/
def spare : Foot where
  key := (· ≠ F.SYS_STATUS_PERMIT.key)
  part p := p ≠ .inReset ∧ p ≠ .acc
  force _ := True
  pend _ := True
  word _ := True
  queue _ := True

/-! ### Keys -/

theorem spare_key_eq : F.SYS_STATUS_PERMIT.key = 391 := rfl
theorem spare_key {k : Nat} : spare.key k ↔ k ≠ 391 := Iff.rfl
@[simp] theorem spare_key_of_lt {k : Nat} (h : 391 < k) : spare.key k := Nat.ne_of_gt h
@[simp] theorem spare_key_of_gt {k : Nat} (h : k < 391) : spare.key k := Nat.ne_of_lt h

/-- The key of a field that is numbered by one index or by two lies above, since its page does. -/
@[simp] theorem spare_key_word {b c : Nat} (h : 13 ≤ b) : spare.key ((b + c) * 32) := spare_key_of_lt (by omega)
@[simp] theorem spare_key_field {b c l : Nat} (h : 13 ≤ b) : spare.key ((b + c) * 32 + l) := spare_key_of_lt (by omega)
@[simp] theorem spare_key_word₂ {b c d : Nat} (h : 13 ≤ b) : spare.key ((b + c + d) * 32) := spare_key_of_lt (by omega)
@[simp] theorem spare_key_field₂ {b c d l : Nat} (h : 13 ≤ b) : spare.key ((b + c + d) * 32 + l) := spare_key_of_lt (by omega)

/-- So does the interrupt bit of a flag. -/
@[simp] theorem spare_key_irq {b c m : Nat} (h : 21 ≤ b) (hm : m ≤ 256) : spare.key ((b + c) * 32 - m) := spare_key_of_lt (by omega)

@[simp] theorem spare_part {p : Part} : spare.part p ↔ p ≠ .inReset ∧ p ≠ .acc := Iff.rfl
@[simp] theorem spare_word (a : Nat) : spare.word a := trivial
@[simp] theorem spare_takes (lo hi : Nat) : spare.Takes lo hi := fun _ _ _ => trivial
@[simp] theorem spare_adopts (lo hi : Nat) : spare.Adopts lo hi := ⟨fun _ _ _ => trivial, trivial⟩
@[simp] theorem spare_take (lo hi : Nat) : spare.ok (.take lo hi) := fun _ _ _ => trivial
@[simp] theorem spare_adopt (lo hi : Nat) : spare.ok (.adopt lo hi) := ⟨fun _ _ _ => trivial, trivial⟩
@[simp] theorem spare_commit (lo hi : Nat) : spare.ok (.commit lo hi) := ⟨fun _ _ _ => ⟨trivial, trivial⟩, trivial⟩
@[simp] theorem spare_mem (a v : Nat) : spare.ok (.mem a v) := ⟨trivial, trivial⟩
@[simp] theorem spare_mems (a : Nat) (vs : List Nat) : spare.ok (.mems a vs) := ⟨fun _ _ => trivial, trivial⟩
@[simp] theorem spare_force_ok (f : Fld) (v : Nat) : spare.ok (.force f v) := ⟨trivial, trivial⟩
@[simp] theorem spare_pend_ok (f : Fld) (v : Nat) : spare.ok (.pend f v) := trivial
/-- A range above the permission may be cleared. -/
@[simp] theorem spare_clear {lo hi : Nat} (h : 391 < lo) : spare.ok (.clear lo hi) :=
  ⟨fun k hk _ => ⟨spare_key_of_lt (by omega), trivial, trivial⟩, trivial⟩

/-! ### Effects -/

@[simp] theorem spare_irq (f : Fld) : spare.key f.irq.key ↔ spare.key (f.key - 256) := Iff.rfl
@[simp] theorem spare_key_ite {c : Prop} [Decidable c] {f g : Fld} :
    spare.key (if c then f else g).key ↔ (c → spare.key f.key) ∧ (¬ c → spare.key g.key) := by
  split <;> simp_all
@[simp] theorem spare_ite {c : Prop} [Decidable c] {as bs : List Eff} :
    Effs spare.ok (if c then as else bs) ↔ (c → Effs spare.ok as) ∧ (¬ c → Effs spare.ok bs) := effs_ite
@[simp] theorem spare_ite_prog {c : Prop} [Decidable c] {p q : Prog} {s : State} :
    Effs spare.ok ((if c then p else q) s) ↔ (c → Effs spare.ok (p s)) ∧ (¬ c → Effs spare.ok (q s)) := by
  rw [ite_apply, effs_ite]
@[simp] theorem spare_andThen {p q : Prog} {s : State} :
    Effs spare.ok (p.andThen q s) ↔ Effs spare.ok (p s) ∧ Effs spare.ok (q (after p s)) := effs_append
@[simp] theorem spare_inOrder_cons {p : Prog} {ps : List Prog} {s : State} :
    Effs spare.ok (inOrder (p :: ps) s) ↔ Effs spare.ok (p s) ∧ Effs spare.ok (inOrder ps (after p s)) := effs_inOrder_cons
@[simp] theorem spare_onMain {p : Prog} {s : State} :
    Effs spare.ok (onMain p s) ↔ (s.b.sys.inReset = false → Effs spare.ok (p s)) := by simp [onMain]
@[simp] theorem spare_onPower {p : Prog} {s : State} :
    Effs spare.ok (onPower p s) ↔ (s.b.sys.pwrReset = false → Effs spare.ok (p s)) := by simp [onPower]

/-- A change of the blocks is within the footprint when it leaves whether the main die is in reset, and the accumulators. -/
@[simp] theorem spare_upd {g : Blocks → Blocks} :
    spare.ok (.upd g) ↔ ∀ b, (g b).sys.inReset = b.sys.inReset ∧ (g b).met.keep.acc = b.met.keep.acc := by
  constructor
  · exact fun h b => ⟨h .inReset (fun k => k.1 rfl) b, h .acc (fun k => k.2 rfl) b⟩
  · intro h p hp b
    rcases Decidable.em (p = .inReset) with rfl | hr
    · exact (h b).1
    rcases Decidable.em (p = .acc) with rfl | ha
    · exact (h b).2
    · exact absurd ⟨hr, ha⟩ hp

@[simp] theorem spare_updSys {g : Sys → Sys} : spare.ok (updSys g) ↔ ∀ b : Blocks, (g b.sys).inReset = b.sys.inReset := by
  simp [updSys, -Foot.ok_upd_iff]

/-! ### Registers as the table gives them -/

/-- The permission's row of the table gives it no write access. -/
theorem permit_readOnly : ∀ r ∈ RegTable.rowsOf 0, r.lo < 32 ∧
    (r.covers 12 = true → r.lo = 7 → r.acc = .ro) := by decide

/-- A field that a register write can change is not the permission. -/
theorem spare_rowFld {addr : Nat} {r : Row} (h : r ∈ fieldsAt addr) (w : r.acc ≠ .ro) : spare.key (rowFld addr r).key := by
  intro hk
  replace hk : addr * 32 + r.lo = 391 := hk
  have page : addr / 0x1000 = 0 := by omega
  obtain ⟨hr, hc⟩ := List.mem_filter.1 h
  rw [page] at hr
  obtain ⟨low, ro⟩ := permit_readOnly r hr
  have word : addr % 0x1000 = 12 := by omega
  exact w (ro (word ▸ hc) (by omega))

/-! ### Groups of fields -/

/-- Fields above the permission, as their list shows. -/
theorem spare_fields {fs : List Fld} (h : F.SYS_STATUS_PERMIT.key ∉ fs.map Fld.key) : spare.Fields fs :=
  fun f hf e => h (List.mem_map.2 ⟨f, hf, e⟩)

@[simp] theorem spare_ledgerFlds : spare.Fields ledgerFlds := spare_fields (by decide)
@[simp] theorem spare_crnOwn : spare.Fields crnOwn := spare_fields (by decide)
@[simp] theorem spare_guarOwn : spare.Fields guarOwn := spare_fields (by decide)
@[simp] theorem spare_pinOwn : spare.Fields pinOwn := spare_fields (by decide)
@[simp] theorem spare_trpOwn : spare.Fields trpOwn := spare_fields (by decide)
@[simp] theorem spare_raccOwn : spare.Fields raccOwn := spare_fields (by decide)
@[simp] theorem spare_bulkOwn : spare.Fields bulkOwn := spare_fields (by decide)
@[simp] theorem spare_hopOwn : spare.Fields hopOwn := spare_fields (by decide)
@[simp] theorem spare_unreachOwn : spare.Fields unreachOwn := spare_fields (by decide)
@[simp] theorem spare_scanOwn : spare.Fields scanOwn := spare_fields (by decide)
@[simp] theorem spare_urgOwn : spare.Fields urgOwn := spare_fields (by decide)
@[simp] theorem spare_validOwn : spare.Fields validOwn := spare_fields (by decide)
@[simp] theorem spare_crcOwn : spare.Fields crcOwn := spare_fields (by decide)
@[simp] theorem spare_upOwn : spare.Fields upOwn := spare_fields (by decide)
@[simp] theorem spare_butOwn : spare.Fields butOwn := spare_fields (by decide)
@[simp] theorem spare_holdOwn : spare.Fields holdOwn := spare_fields (by decide)
@[simp] theorem spare_codeOwn : spare.Fields codeOwn := spare_fields (by decide)
@[simp] theorem spare_showOwn : spare.Fields showOwn := spare_fields (by decide)
@[simp] theorem spare_eccOwn : spare.Fields eccOwn := spare_fields (by decide)
@[simp] theorem spare_errOwn : spare.Fields errOwn := spare_fields (by decide)
@[simp] theorem spare_failOwn : spare.Fields failOwn := spare_fields (by decide)
@[simp] theorem spare_inhOwn : spare.Fields inhOwn := spare_fields (by decide)
@[simp] theorem spare_parOwn : spare.Fields parOwn := spare_fields (by decide)
@[simp] theorem spare_parFaultOwn : spare.Fields parFaultOwn := spare_fields (by decide)
@[simp] theorem spare_pinsOwn : spare.Fields pinsOwn := spare_fields (by decide)
@[simp] theorem spare_respOwn : spare.Fields respOwn := spare_fields (by decide)
@[simp] theorem spare_fpmOwn : spare.Fields fpmOwn := spare_fields (by decide)
@[simp] theorem spare_storeOwn : spare.Fields storeOwn := spare_fields (by decide)
@[simp] theorem spare_harvOwn : spare.Fields harvOwn := spare_fields (by decide)
@[simp] theorem spare_srcOwn : spare.Fields srcOwn := spare_fields (by decide)
@[simp] theorem spare_railOwn : spare.Fields railOwn := spare_fields (by decide)
@[simp] theorem spare_slotOwn : spare.Fields slotOwn := spare_fields (by decide)
@[simp] theorem spare_fullOwn : spare.Fields fullOwn := spare_fields (by decide)
@[simp] theorem spare_deferOwn : spare.Fields deferOwn := spare_fields (by decide)
@[simp] theorem spare_erasedOwn : spare.Fields erasedOwn := spare_fields (by decide)
@[simp] theorem spare_stageOwn : spare.Fields stageOwn := spare_fields (by decide)
@[simp] theorem spare_latchOwn : spare.Fields latchOwn := spare_fields (by decide)
@[simp] theorem spare_laneOwn (n : Nat) : spare.Fields (laneOwn n) := by simp [laneOwn]
@[simp] theorem spare_roleOwn (n : Nat) : spare.Fields (roleOwn n) := by simp [roleOwn, Fld.key_irq]
@[simp] theorem spare_calOwn (n : Nat) : spare.Fields (calOwn n) := by simp [calOwn]
@[simp] theorem spare_popOwn (n : Nat) : spare.Fields (popOwn n) := by simp [popOwn]
@[simp] theorem spare_readOwn : spare.Fields readOwn := by simp [readOwn]
@[simp] theorem spare_queueFlds (q : Nat) : spare.Fields (queueFlds q) := by simp [queueFlds, Fld.key_irq]
@[simp] theorem spare_signFlds : spare.Fields signFlds := spare_fields (by decide)
@[simp] theorem spare_records (q : Nat) : spare.Records q :=
  ⟨⟨Foot.fields_append.2 ⟨spare_signFlds, spare_queueFlds q⟩, by simp⟩, trivial, trivial⟩
@[simp] theorem spare_plain (q : Nat) : spare.Plain q := (spare_records q).toPlain

/-- The fields that a reference picks, and the queue and the slots that a record picks. -/
@[simp] theorem spare_refQualFld (r : Nat) : spare.key (refQualFld r).key := by simp [refQualFld]
@[simp] theorem spare_refLossFld (r : Nat) : spare.key (refLossFld r).key := by simp [refLossFld]
@[simp] theorem spare_refLossFld_irq (r : Nat) : spare.key ((refLossFld r).key - 256) := by
  by_cases h : r = 0 <;> simp [refLossFld, h]
@[simp] theorem spare_ledgerAt (s : State) : spare.LedgerAt s := ⟨spare_plain _, fun _ _ => trivial⟩

end Sys2Proof.Machine
end

section
/-! The footprint of the shared meanings, metrology, Parapet, the pump, PWM and the comparators. -/

namespace Sys2Proof.Machine

/-! ### Fields that an engine or a copy of the configuration picks -/

@[simp] theorem spare_kPcopy (eng : Nat) : spare.key (kPcopy eng).key := by simp [kPcopy]
@[simp] theorem spare_kPbank (eng : Nat) : spare.key (kPbank eng).key := by simp [kPbank]
@[simp] theorem spare_kBusy (eng : Nat) : spare.key (kBusy eng).key := by simp [kBusy]
@[simp] theorem spare_kParamReject (eng : Nat) : spare.key (kParamReject eng).key := by simp [kParamReject]
@[simp] theorem spare_kParamReject_irq (eng : Nat) : spare.key ((kParamReject eng).key - 256) := by
  by_cases h : eng = 0 <;> simp [kParamReject, h]
@[simp] theorem spare_kProgWrReject (eng : Nat) : spare.key (kProgWrReject eng).key := by simp [kProgWrReject]
@[simp] theorem spare_kProgWrReject_irq (eng : Nat) : spare.key ((kProgWrReject eng).key - 256) := by
  by_cases h : eng = 0 <;> simp [kProgWrReject, h]
@[simp] theorem spare_validFld (copy : Nat) : spare.key (validFld copy).key := by simp [validFld]
@[simp] theorem spare_genFld (copy : Nat) : spare.key (genFld copy).key := by simp [genFld]
@[simp] theorem spare_failFld (copy : Nat) : spare.key (failFld copy).key := by simp [failFld]
@[simp] theorem spare_failFld_irq (copy : Nat) : spare.key ((failFld copy).key - 256) := by
  by_cases h : copy = 0 <;> simp [failFld, h]

/-! ### Pins -/

@[simp] theorem pinEdge_spare (p rank : Nat) (isH rising : Bool) (s : State) : Effs spare.ok (pinEdge p rank isH rising s) := by
  cases isH <;> simp [pinEdge]

@[simp] theorem shootBlock_spare (p : Nat) (s : State) : Effs spare.ok (shootBlock p s) := by
  by_cases last : p = 48 <;> simp [shootBlock, last]

@[simp] theorem applyPins_spare (p : Nat) (s : State) : Effs spare.ok (applyPins p s) :=
  effs_inOrder (by simp)

@[simp] theorem drivePairs_spare (ps : List Nat) (s : State) : Effs spare.ok (drivePairs ps s) :=
  effs_inOrder (by simp)

@[simp] theorem drivePair_spare (p : Nat) (s : State) : Effs spare.ok (drivePair p s) := by
  simp [drivePair]

/-! ### Operands and flags -/

@[simp] theorem writeRow_spare {addr : Nat} {r : Row} (h : r ∈ fieldsAt addr) (s : State) (v : Nat) :
    Effs spare.ok (writeRow s addr v r) := by
  unfold writeRow
  dsimp only
  split <;> simp_all [spare_rowFld h]

@[simp] theorem writeFields_spare (addr v : Nat) (s : State) : Effs spare.ok (writeFields addr v s) := by
  simp +contextual [writeFields]

theorem undoCommit_spare {own : CommitScope} (h : ∀ k, own.fields k = true → spare.key k) (w : CommitWas)
    (names : Group → Bool) (s : State) : Effs spare.ok (undoCommit own w names s) := by
  simp +contextual [undoCommit, h, -Foot.ok_upd_iff]

/-- The flags that a commit's check may raise, when they lie above the permission with their interrupt bits. -/
theorem flagScope_spare {fs : List Fld} (h : ∀ f ∈ fs, 391 + 256 < f.key) {lo hi k : Nat}
    (hk : (flagScope fs lo hi).fields k = true) : spare.key k := by
  obtain ⟨f, hf, e⟩ := List.any_eq_true.1 hk
  have above := h f hf
  simp only [Bool.or_eq_true, beq_iff_eq, Fld.key_irq] at e
  exact spare_key_of_lt (by omega)

theorem pairScope_spare (p : Nat) {k : Nat} (hk : (pairScope p).fields k = true) : spare.key k := by
  simp only [pairScope, Bool.or_eq_true, Bool.and_eq_true, beq_iff_eq] at hk
  rcases hk with (hk | rfl) | ⟨-, rfl⟩
  · refine flagScope_spare (fun f hf => ?_) hk
    rcases List.mem_cons.1 hf with rfl | hf
    · split
      · decide
      · show 647 < (262168 + 4096 * (p / 16)) * 32 + 2
        omega
    · obtain ⟨c, -, rfl⟩ := List.mem_map.1 hf
      show 647 < (327704 + 4096 * c) * 32 + 3
      omega
  · simp
  · simp

/-! ### Pairs -/

@[simp] theorem setCessation_spare (on : Bool) (s : State) : Effs spare.ok (setCessation on s) := by simp [setCessation]

/-! ### The plausibility monitor -/

@[simp] theorem fpmLines_spare (s : State) : Effs spare.ok (fpmLines s) := by simp [fpmLines]
@[simp] theorem fpmEvent_spare (c : Nat) (s : State) : Effs spare.ok (fpmEvent c s) := by simp [fpmEvent]
@[simp] theorem fpmCompare_spare (c w pred : Nat) (s : State) : Effs spare.ok (fpmCompare c w pred s) := by simp [fpmCompare]

@[simp] theorem fpmSource_spare (c w : Nat) (late : Bool) (s : State) : Effs spare.ok (fpmSource c w late s) := by
  unfold fpmSource
  dsimp only
  (repeat' split) <;> simp

@[simp] theorem writeSlot_spare (n w : Nat) (late : Bool) (s : State) : Effs spare.ok (writeSlot n w late s) := by
  simp [writeSlot]

@[simp] theorem writeSlots_spare (l : List (Nat × Nat)) (s : State) : Effs spare.ok (writeSlots l s) := by simp [writeSlots]
@[simp] theorem fpmOff_spare (s : State) : Effs spare.ok (fpmOff s) := by simp [fpmOff]
@[simp] theorem fpmSlots_spare (s : State) : Effs spare.ok (fpmSlots s) := by simp [fpmSlots]
@[simp] theorem fpmRunEnd_spare : Effs spare.ok fpmRunEnd := by simp [fpmRunEnd]
@[simp] theorem fpmSatEvent_spare (sat : Nat) (s : State) : Effs spare.ok (fpmSatEvent sat s) := by simp [fpmSatEvent]
@[simp] theorem satCleared_spare (s : State) : Effs spare.ok (satCleared s) := by simp [satCleared]
@[simp] theorem fpmRelease1_spare (c : Nat) (s : State) : Effs spare.ok (fpmRelease1 c s) := by simp [fpmRelease1]
@[simp] theorem fpmRelease_spare (k mask : Nat) (s : State) : Effs spare.ok (fpmRelease k mask s) := by simp [fpmRelease]
@[simp] theorem satRel_spare (s : State) : Effs spare.ok (satRel s) := by simp [satRel]

@[simp] theorem fpmCommit_spare (s : State) : Effs spare.ok (fpmCommit s) := by
  refine (effs_noted (by simp)).2 ?_
  split <;> simp

@[simp] theorem fpmAdopt_spare (s : State) : Effs spare.ok (fpmAdopt s) := by simp [fpmAdopt]

/-! ### Phasors: what the references need -/

@[simp] theorem updGrd_spare (g : Grd → Grd) : spare.ok (updGrd g) := by simp [updGrd, -Foot.ok_upd_iff]
@[simp] theorem updTwv_spare (g : Twv → Twv) : spare.ok (updTwv g) := by simp [updTwv, -Foot.ok_upd_iff]

/-! ### Streams -/

@[simp] theorem phsTake_spare (n : Nat) (v : Rat) (bad : Bool) (t : Nat) (s : State) : Effs spare.ok (phsTake n v bad t s) := by
  simp [phsTake]

@[simp] theorem streamGap_spare (n : Nat) (s : State) : Effs spare.ok (streamGap n s) := by simp [streamGap]
@[simp] theorem captureStart_spare (det : Nat) (s : State) : Effs spare.ok (captureStart det s) := by simp [captureStart]

@[simp] theorem detTake_spare (det : Nat) (code : Int) (late : Bool) (t : Nat) (s : State) :
    Effs spare.ok (detTake det code late t s) := by
  simp [detTake]

@[simp] theorem twvTake_spare (n : Nat) (code : Int) (late : Bool) (t : Nat) (s : State) :
    Effs spare.ok (twvTake n code late t s) := by
  simp [twvTake]

/-! ### Metrology -/

@[simp] theorem spare_onPages {p : Prog} {s : State} :
    Effs spare.ok (onPages p s) ↔ (dieLinkOk s = true → Effs spare.ok (p s)) := by simp [onPages]

@[simp] theorem pulseAdd_spare (p gained : Nat) (s : State) : Effs spare.ok (pulseAdd p gained s) := by simp [pulseAdd]
@[simp] theorem pulseAdopt_spare (s : State) : Effs spare.ok (pulseAdopt s) := by simp [pulseAdopt]
@[simp] theorem pulseStart_spare (p : Nat) (s : State) : Effs spare.ok (pulseStart p s) := by simp [pulseStart]
@[simp] theorem pulseEnd_spare (p : Nat) (s : State) : Effs spare.ok (pulseEnd p s) := by simp [pulseEnd]

@[simp] theorem track_spare (meas : Nat) (s : State) : Effs spare.ok (track meas s) := by
  unfold track
  split <;> simp

@[simp] theorem detections_spare (s : State) : Effs spare.ok (detections s) := by simp [detections]
@[simp] theorem visitClear_spare (s : State) : Effs spare.ok (visitClear s) := by simp [visitClear]
@[simp] theorem mcxCycle_spare (s : State) : Effs spare.ok (mcxCycle s) := by simp [mcxCycle]
@[simp] theorem mcxUnpark_spare (s : State) : Effs spare.ok (mcxUnpark s) := by simp [mcxUnpark]
@[simp] theorem cycleAdopt_spare (s : State) : Effs spare.ok (cycleAdopt s) := by simp [cycleAdopt]
@[simp] theorem metCycleEnd_spare (meas : Nat) (s : State) : Effs spare.ok (metCycleEnd meas s) := by simp [metCycleEnd]

@[simp] theorem metSample_spare (s : State) : Effs spare.ok (metSample s) := by
  unfold metSample
  split <;> simp

@[simp] theorem mclkLoss_spare (s : State) : Effs spare.ok (mclkLoss s) := by
  simp [mclkLoss, Met.low]

@[simp] theorem mclkGap_spare (ms : Nat) (s : State) : Effs spare.ok (mclkGap ms s) := by simp [mclkGap]
@[simp] theorem mtcRefuse_spare (off : Nat) : Effs spare.ok (mtcRefuse off) := by simp [mtcRefuse]
@[simp] theorem preset_spare (a : Nat) (s : State) : Effs spare.ok (preset a s) := by simp [preset]
@[simp] theorem metCtrlWrite_spare (v : Nat) (s : State) : Effs spare.ok (metCtrlWrite v s) := by simp [metCtrlWrite]
@[simp] theorem accRead_spare (a : Nat) (s : State) : Effs spare.ok (accRead a s) := by simp [accRead]
@[simp] theorem frzRead_spare (a : Nat) (s : State) : Effs spare.ok (frzRead a s) := by simp [frzRead]

@[simp] theorem metReject_spare (page off : Nat) : Effs spare.ok (metReject page off) := by
  unfold metReject
  split <;> simp

@[simp] theorem metMeasureCommit_spare (s : State) : Effs spare.ok (metMeasureCommit s) := by simp [metMeasureCommit]

@[simp] theorem metPulseCommit_spare (s : State) : Effs spare.ok (metPulseCommit s) := by
  refine (effs_noted (by simp)).2 ?_
  split <;> simp

@[simp] theorem metFreezeCommit_spare (s : State) : Effs spare.ok (metFreezeCommit s) := by simp [metFreezeCommit]
@[simp] theorem metFreezeAdopt_spare (s : State) : Effs spare.ok (metFreezeAdopt s) := by simp [metFreezeAdopt]

@[simp] theorem mtcCommit_spare (s : State) : Effs spare.ok (mtcCommit s) := by
  refine (effs_noted (by simp)).2 (effs_ite.2 ⟨fun _ => by simp, fun _ => ?_⟩)
  split <;> simp

@[simp] theorem calRecord_spare (s : State) : Effs spare.ok (calRecord s) := by simp [calRecord]
@[simp] theorem textWrite_spare (v : Nat) (s : State) : Effs spare.ok (textWrite v s) := by simp [textWrite]
@[simp] theorem textStale_spare (s : State) : Effs spare.ok (textStale s) := by simp [textStale]
@[simp] theorem watchPhase_spare (x rms : Nat) (s : State) : Effs spare.ok (watchPhase x rms s) := by simp [watchPhase]
@[simp] theorem watchTick_spare (rms : List Nat) (s : State) : Effs spare.ok (watchTick rms s) := by simp [watchTick]
@[simp] theorem watchStop_spare (s : State) : Effs spare.ok (watchStop s) := by simp [watchStop]

/-! ### Parapet -/

@[simp] theorem parDieLink_spare (failed : Bool) : Effs spare.ok (parDieLink failed) := by simp [parDieLink]

@[simp] theorem parPowerReset_spare (s : State) : Effs spare.ok (parPowerReset s) :=
  effs_inOrder (by simp [keyAt])

/-! ### Clocks -/

@[simp] theorem clkPhaseAdopt_spare (s : State) : Effs spare.ok (clkPhaseAdopt s) := by simp [clkPhaseAdopt, -Foot.ok_upd_iff]

/-! ### Bedrock -/

@[simp] theorem pwrRelease_spare (s : State) : Effs spare.ok (pwrRelease s) := by simp [pwrRelease, -Foot.ok_upd_iff]
@[simp] theorem bedCtrl_spare (s : State) : Effs spare.ok (bedCtrl s) := by simp [bedCtrl]
@[simp] theorem holdForward_spare (s : State) : Effs spare.ok (holdForward s) := by simp [holdForward]

/-! ### The pump -/

@[simp] theorem pmpDrive_spare (s : State) : Effs spare.ok (pmpDrive s) := by simp [pmpDrive]
@[simp] theorem pmpHalt_spare (state : Nat) : Effs spare.ok (pmpHalt state) := by simp [pmpHalt, -Foot.ok_upd_iff]

@[simp] theorem causeFlag_spare (c : Nat) : Effs spare.ok (causeFlag c) := by
  unfold causeFlag
  split <;> simp

@[simp] theorem pmpFailEff_spare (cause : Nat) (s : State) : Effs spare.ok (pmpFailEff cause s) := by simp [pmpFailEff]
@[simp] theorem pmpFail_spare (cause : Nat) (s : State) : Effs spare.ok (pmpFail cause s) := by simp [pmpFail]
@[simp] theorem pmpUnfault_spare (auto : Nat) (s : State) : Effs spare.ok (pmpUnfault auto s) := by simp [pmpUnfault]
@[simp] theorem pmpHighSet_spare (c : Nat) (s : State) : Effs spare.ok (pmpHighSet c s) := by simp [pmpHighSet]
@[simp] theorem pmpUnprot_spare (s : State) : Effs spare.ok (pmpUnprot s) := by simp [pmpUnprot]
@[simp] theorem pmpDieLink_spare (failed : Bool) (s : State) : Effs spare.ok (pmpDieLink failed s) := by simp [pmpDieLink]

@[simp] theorem zcSample_spare (above : Bool) (s : State) : Effs spare.ok (zcSample above s) := by
  unfold zcSample
  dsimp only
  (repeat' split) <;> simp

@[simp] theorem speedWrite_spare (s : State) : Effs spare.ok (speedWrite s) := by simp [speedWrite]

@[simp] theorem pwmPeriod_spare (above : Bool) (crossed : Nat) (s : State) : Effs spare.ok (pwmPeriod above crossed s) := by
  simp [pwmPeriod]

@[simp] theorem commutate_spare (s : State) : Effs spare.ok (commutate s) := by simp [commutate]
@[simp] theorem rampStart_spare (s : State) : Effs spare.ok (rampStart s) := by simp [rampStart]
@[simp] theorem pumpStart_spare (s : State) : Effs spare.ok (pumpStart s) := by simp [pumpStart]
@[simp] theorem alignEnd_spare (s : State) : Effs spare.ok (alignEnd s) := by simp [alignEnd]
@[simp] theorem rampStep_spare (s : State) : Effs spare.ok (rampStep s) := by simp [rampStep]
@[simp] theorem pumpCommutation_spare (s : State) : Effs spare.ok (pumpCommutation s) := by simp [pumpCommutation]
@[simp] theorem pmpDeliver_spare (w : Nat) (s : State) : Effs spare.ok (pmpDeliver w s) := by simp [pmpDeliver]
@[simp] theorem pmpSlots_spare (mv : Nat) (s : State) : Effs spare.ok (pmpSlots mv s) := by simp [pmpSlots]
@[simp] theorem crossEnds_spare (s : State) : Effs spare.ok (crossEnds s) := by simp [crossEnds]
@[simp] theorem pmpCtrlWrite_spare (v : Nat) (s : State) : Effs spare.ok (pmpCtrlWrite v s) := by simp [pmpCtrlWrite]
@[simp] theorem pumpBrakeEnd_spare (s : State) : Effs spare.ok (pumpBrakeEnd s) := by simp [pumpBrakeEnd]
@[simp] theorem pumpStall_spare (s : State) : Effs spare.ok (pumpStall s) := by simp [pumpStall]
@[simp] theorem pumpWdog_spare (s : State) : Effs spare.ok (pumpWdog s) := by simp [pumpWdog]

@[simp] theorem vmOv_spare (mv : Nat) (s : State) : Effs spare.ok (vmOv mv s) := by
  refine effs_inOrder ?_
  simp

@[simp] theorem vmUv_spare (under : Bool) (s : State) : Effs spare.ok (vmUv under s) := by
  refine effs_inOrder ?_
  simp

@[simp] theorem bootUv_spare (ph : Nat) (under : Bool) (s : State) : Effs spare.ok (bootUv ph under s) := by simp [bootUv]
@[simp] theorem bootTimeout_spare (ph : Nat) (s : State) : Effs spare.ok (bootTimeout ph s) := by simp [bootTimeout]
@[simp] theorem faultAutoClear_spare (s : State) : Effs spare.ok (faultAutoClear s) := by simp [faultAutoClear]
@[simp] theorem pmpClear_spare (s : State) : Effs spare.ok (pmpClear s) := by simp [pmpClear]
@[simp] theorem attemptReset_spare (s : State) : Effs spare.ok (attemptReset s) := by simp [attemptReset]

@[simp] theorem pmpCommit_spare (s : State) : Effs spare.ok (pmpCommit s) := by
  refine (effs_noted (by simp)).2 ?_
  split <;> simp

@[simp] theorem pmpAdopt_spare (s : State) : Effs spare.ok (pmpAdopt s) := by simp [pmpAdopt]

/-! ### PWM and trips -/

@[simp] theorem setCmd_spare (p : Nat) (h l : Bool) (s : State) : Effs spare.ok (setCmd p h l s) := by simp [setCmd]
@[simp] theorem clearCmd_spare (p : Nat) (s : State) : Effs spare.ok (clearCmd p s) := by simp [clearCmd]
@[simp] theorem clampMark_spare (p : Nat) (s : State) : Effs spare.ok (clampMark p s) := by simp [clampMark]
@[simp] theorem rampUpdate_spare (p n : Nat) (s : State) : Effs spare.ok (rampUpdate p n s) := by simp [rampUpdate]
@[simp] theorem commandAt_spare (p t : Nat) (s : State) : Effs spare.ok (commandAt p t s) := by simp [commandAt]
@[simp] theorem adoptPair_spare (p m : Nat) (s : State) : Effs spare.ok (adoptPair p m s) := by simp [adoptPair]
@[simp] theorem cycleRelease_spare (p : Nat) (s : State) : Effs spare.ok (cycleRelease p s) := by simp [cycleRelease]

@[simp] theorem beginPeriod_spare (p t : Nat) (s : State) : Effs spare.ok (beginPeriod p t s) := by
  refine atInstant_ok (by simp) (fun s => effs_inOrder ?_) t s
  simp

@[simp] theorem periodBoundary_spare (p : Nat) (s : State) : Effs spare.ok (periodBoundary p s) := by
  unfold periodBoundary
  split <;> simp

@[simp] theorem midPeriod_spare (p : Nat) (s : State) : Effs spare.ok (midPeriod p s) := by
  refine effs_ite.2 ⟨fun _ => effs_nil, fun _ => atInstant_ok (by simp) (fun s => effs_inOrder ?_) _ s⟩
  simp

@[simp] theorem pairEdge_spare (p t : Nat) (s : State) : Effs spare.ok (pairEdge p t s) := by
  refine effs_ite.2 ⟨fun _ => effs_nil, fun _ => atInstant_ok (by simp) (fun s => effs_inOrder ?_) _ s⟩
  simp

@[simp] theorem deadTimeEnd_spare (p : Nat) (isH : Bool) (s : State) : Effs spare.ok (deadTimeEnd p isH s) := by
  simp [deadTimeEnd]

@[simp] theorem cftMaxOn_spare (p : Nat) (s : State) : Effs spare.ok (cftMaxOn p s) := by simp [cftMaxOn]
@[simp] theorem startPair_spare (s : State) (p : Nat) : Effs spare.ok (startPair s p) := by simp [startPair]
@[simp] theorem stopPair_spare (p : Nat) (s : State) : Effs spare.ok (stopPair p s) := by simp [stopPair]
@[simp] theorem auxStop_spare : Effs spare.ok auxStop := by simp [auxStop]
@[simp] theorem pwmCtrlWrite_spare (n v : Nat) (s : State) : Effs spare.ok (pwmCtrlWrite n v s) := by simp [pwmCtrlWrite]
@[simp] theorem startDuePairs_spare (s : State) : Effs spare.ok (startDuePairs s) := by simp [startDuePairs]
@[simp] theorem modeConflict_spare (c user : Nat) (s : State) : Effs spare.ok (modeConflict c user s) := by simp [modeConflict]
@[simp] theorem pairTake_spare (mask p : Nat) (s : State) : Effs spare.ok (pairTake mask p s) := by simp [pairTake]

@[simp] theorem commitPair_spare (mask p : Nat) (s : State) : Effs spare.ok (commitPair mask p s) := by
  refine effs_inOrder fun q hq => ?_
  rcases List.mem_append.1 hq with hq | hq
  · obtain ⟨w, -, rfl⟩ := List.mem_map.1 hq
    exact fun s => undoCommit_spare (fun k => pairScope_spare p) w _ s
  · rw [List.mem_singleton.1 hq]
    exact fun s => by simp [-Foot.ok_upd_iff]

@[simp] theorem pwmCommit_spare (n : Nat) (s : State) : Effs spare.ok (pwmCommit n s) := by simp [pwmCommit]
@[simp] theorem shadowWritten_spare (p r : Nat) (s : State) : Effs spare.ok (shadowWritten p r s) := by simp [shadowWritten]
@[simp] theorem pairWrite_spare (p r v : Nat) (s : State) : Effs spare.ok (pairWrite p r v s) := by simp [pairWrite]

@[simp] theorem autoCommitWrite_spare (p r v : Nat) (s : State) : Effs spare.ok (autoCommitWrite p r v s) := by
  simp [autoCommitWrite]

@[simp] theorem auxWindowEnd_spare (k : Nat) (s : State) : Effs spare.ok (auxWindowEnd k s) := by simp [auxWindowEnd]
@[simp] theorem unlatchPair_spare (p : Nat) (s : State) : Effs spare.ok (unlatchPair p s) := by simp [unlatchPair]
@[simp] theorem tripClear_spare (k mask : Nat) (s : State) : Effs spare.ok (tripClear k mask s) := by simp [tripClear]

@[simp] theorem trpCommit_spare (s : State) : Effs spare.ok (trpCommit s) := by
  refine (effs_noted (by simp)).2 ?_
  split <;> simp

@[simp] theorem trpAdopt_spare (s : State) : Effs spare.ok (trpAdopt s) := by simp [trpAdopt]
@[simp] theorem auxCommit_spare (s : State) : Effs spare.ok (auxCommit s) := by simp [auxCommit]
@[simp] theorem auxAdopt_spare (s : State) : Effs spare.ok (auxAdopt s) := by simp [auxAdopt]
@[simp] theorem brkSrcWrite_spare (v : Nat) (s : State) : Effs spare.ok (brkSrcWrite v s) := by simp [brkSrcWrite]
@[simp] theorem genWrite_spare (v : Nat) (s : State) : Effs spare.ok (genWrite v s) := by simp [genWrite]
@[simp] theorem genHostWrite_spare (v : Nat) (s : State) : Effs spare.ok (genHostWrite v s) := by simp [genHostWrite]

/-! ### The comparators and the gate protection -/

@[simp] theorem brakeSet_spare (on : Bool) (min : Nat) (s : State) : Effs spare.ok (brakeSet on min s) := by simp [brakeSet]
@[simp] theorem brakeFollow_spare (hi lo : Bool) (s : State) : Effs spare.ok (brakeFollow hi lo s) := by simp [brakeFollow]
@[simp] theorem brakeEval_spare (s : State) : Effs spare.ok (brakeEval s) := by simp [brakeEval]
@[simp] theorem brakeMinTimer_spare (s : State) : Effs spare.ok (brakeMinTimer s) := by simp [brakeMinTimer]
@[simp] theorem brkLong_spare (s : State) : Effs spare.ok (brkLong s) := by simp [brkLong]

@[simp] theorem terminate_spare (c : Nat) (hiRise loRise loFall : Bool) (s : State) :
    Effs spare.ok (terminate c hiRise loRise loFall s) := by
  simp [terminate]

@[simp] theorem cmpShow_spare (c : Nat) (hi lo : Bool) (s : State) : Effs spare.ok (cmpShow c hi lo s) := by simp [cmpShow]
@[simp] theorem cmpPublish_spare (c : Nat) (s : State) : Effs spare.ok (cmpPublish c s) := by simp [cmpPublish]
@[simp] theorem decideNow_spare (c : Nat) (s : State) : Effs spare.ok (decideNow c s) := by simp [decideNow]
@[simp] theorem crossing_spare (c v : Nat) (s : State) : Effs spare.ok (crossing c v s) := by simp [crossing]
@[simp] theorem cmpSample_spare (c v : Nat) (s : State) : Effs spare.ok (cmpSample c v s) := by simp [cmpSample]
@[simp] theorem cmpRefresh_spare (c : Nat) (s : State) : Effs spare.ok (cmpRefresh c s) := by simp [cmpRefresh]
@[simp] theorem cmpCommit_spare (n : Nat) (s : State) : Effs spare.ok (cmpCommit n s) := by simp [cmpCommit]
@[simp] theorem cmpConflicts_spare (c : Nat) (s : State) : Effs spare.ok (cmpConflicts c s) := by simp [cmpConflicts]
@[simp] theorem cmpAdopt_spare (c : Nat) (s : State) : Effs spare.ok (cmpAdopt c s) := by simp [cmpAdopt]
@[simp] theorem cmpCtrlWrite_spare (n v : Nat) (s : State) : Effs spare.ok (cmpCtrlWrite n v s) := by simp [cmpCtrlWrite]
@[simp] theorem gdpProfileCommit_spare (s : State) : Effs spare.ok (gdpProfileCommit s) := by simp [gdpProfileCommit]
@[simp] theorem gdpProfileAdopt_spare (s : State) : Effs spare.ok (gdpProfileAdopt s) := by simp [gdpProfileAdopt]
@[simp] theorem gdpBrakeCommit_spare (s : State) : Effs spare.ok (gdpBrakeCommit s) := by simp [gdpBrakeCommit]
@[simp] theorem gdpBrakeAdopt_spare (s : State) : Effs spare.ok (gdpBrakeAdopt s) := by simp [gdpBrakeAdopt]
@[simp] theorem brakeThresholds_spare (s : State) : Effs spare.ok (brakeThresholds s) := by simp [brakeThresholds]
@[simp] theorem cmpCntClr_spare (n : Nat) (s : State) : Effs spare.ok (cmpCntClr n s) := by simp [cmpCntClr]
@[simp] theorem selfTest_spare (c : Nat) (s : State) : Effs spare.ok (selfTest c s) := by simp [selfTest]

@[simp] theorem selfTestEnd_spare (c : Nat) (hi lo : Bool) (s : State) : Effs spare.ok (selfTestEnd c hi lo s) := by
  simp [selfTestEnd]

@[simp] theorem stfailClear_spare (n mask : Nat) (s : State) : Effs spare.ok (stfailClear n mask s) := by simp [stfailClear]
@[simp] theorem setSlew_spare (p : Nat) (isH : Bool) (q : Slew) : spare.ok (setSlew p isH q) := by simp [setSlew]

@[simp] theorem gdpCtrlWrite_spare (v : Nat) (s : State) : Effs spare.ok (gdpCtrlWrite v s) := by
  simp [gdpCtrlWrite, -Foot.ok_upd_iff]

@[simp] theorem slewPhaseEnd_spare (p : Nat) (isH : Bool) (s : State) : Effs spare.ok (slewPhaseEnd p isH s) := by
  simp [slewPhaseEnd]

@[simp] theorem softOffEnd_spare (p : Nat) (isH : Bool) (s : State) : Effs spare.ok (softOffEnd p isH s) := by simp [softOffEnd]

@[simp] theorem inThisCycle_spare (phase : Nat) {p : Prog} (h : p.All spare.ok) (s : State) :
    Effs spare.ok (inThisCycle phase p s) := by
  simp [inThisCycle, all_iff.1 h]

end Sys2Proof.Machine
end

section
/-! The footprint of the engines, MPT, GRD, Buttress, Cairn, health, queues, security, the travelling waves and the resets. -/

namespace Sys2Proof.Machine

/-! ### The engines -/

@[simp] theorem setChecked_spare (eng : Nat) (l : List (Nat × Nat × Nat)) : spare.ok (setChecked eng l) := by simp [setChecked]
@[simp] theorem setCheck_spare (eng : Nat) (c : Option CheckJob) : spare.ok (setCheck eng c) := by simp [setCheck]
@[simp] theorem kCheckStart_spare (eng : Nat) (s : State) : Effs spare.ok (kCheckStart eng s) := by simp [kCheckStart]
@[simp] theorem kCheckShow_spare (eng err at_ len : Nat) : Effs spare.ok (kCheckShow eng err at_ len) := by simp [kCheckShow]

@[simp] theorem programWrite_spare (eng k : Nat) (hi : Bool) (v : Nat) (s : State) : Effs spare.ok (programWrite eng k hi v s) := by
  refine effs_ite.2 ⟨fun _ => effs_nil, fun _ => effs_ite.2 ⟨fun _ => by simp, fun _ => effs_append.2 ⟨?_, by simp⟩⟩⟩
  split <;> simp

@[simp] theorem parameterWrite_spare (eng i v : Nat) (s : State) : Effs spare.ok (parameterWrite eng i v s) := by
  simp [parameterWrite]

@[simp] theorem paramSwapCommit_spare (eng : Nat) (s : State) : Effs spare.ok (paramSwapCommit eng s) := by
  simp [paramSwapCommit]

@[simp] theorem kSwap_spare (eng : Nat) (s : State) : Effs spare.ok (kSwap eng s) := by
  by_cases h : eng = 0 <;> simp [kSwap, h]

@[simp] theorem paramCopyDone_spare (eng : Nat) (s : State) : Effs spare.ok (paramCopyDone eng s) := by simp [paramCopyDone]
@[simp] theorem safeValues_spare (eng : Nat) (s : State) : Effs spare.ok (safeValues eng s) := by simp [safeValues]

@[simp] theorem ke0Set_spare (k : Nat) (s : State) : Effs spare.ok (ke0Set k s) := by
  refine effs_ite.2 ⟨fun _ => effs_nil, fun _ => effs_inOrder ?_⟩
  simp +contextual

@[simp] theorem ke1Set_spare (k : Nat) (s : State) : Effs spare.ok (ke1Set k s) := by simp [ke1Set]

@[simp] theorem engineFault_spare (eng mem addr : Nat) (s : State) : Effs spare.ok (engineFault eng mem addr s) := by
  simp [engineFault]

@[simp] theorem kCheckDone_spare (eng : Nat) (ecc : Option Nat) (s : State) : Effs spare.ok (kCheckDone eng ecc s) := by
  unfold kCheckDone
  split <;> simp

@[simp] theorem timerStart_spare : Effs spare.ok timerStart := by simp [timerStart]
@[simp] theorem ke0CtrlWrite_spare (v : Nat) (s : State) : Effs spare.ok (ke0CtrlWrite v s) := by simp [ke0CtrlWrite]
@[simp] theorem heldRelease_spare (s : State) : Effs spare.ok (heldRelease s) := by simp [heldRelease]
@[simp] theorem ke1CtrlWrite_spare (v : Nat) (s : State) : Effs spare.ok (ke1CtrlWrite v s) := by simp [ke1CtrlWrite]
@[simp] theorem ke0TimingCommit_spare (s : State) : Effs spare.ok (ke0TimingCommit s) := by simp [ke0TimingCommit]
@[simp] theorem ke0Adopt_spare (s : State) : Effs spare.ok (ke0Adopt s) := by simp [ke0Adopt]
@[simp] theorem ke1EntryCommit_spare (s : State) : Effs spare.ok (ke1EntryCommit s) := by simp [ke1EntryCommit]
@[simp] theorem slotShow_spare (s : State) : Effs spare.ok (slotShow s) := by simp [slotShow]
@[simp] theorem entryAdopt_spare (k : Nat) (s : State) : Effs spare.ok (entryAdopt k s) := by simp [entryAdopt]
@[simp] theorem c2Run_spare (k : Nat) (s : State) : Effs spare.ok (c2Run k s) := by simp [c2Run]

@[simp] theorem c2First_spare (l : List Nat) (s : State) : Effs spare.ok (c2First l s) := by
  induction l generalizing s with
  | nil => simp [c2First]
  | cons k ks ih => simp [c2First, ih]

@[simp] theorem c2Start_spare (s : State) : Effs spare.ok (c2Start s) := by simp [c2Start]

@[simp] theorem roundDone_spare (s : State) : Effs spare.ok (roundDone s) := by
  unfold roundDone
  split <;> simp

@[simp] theorem c2Next_spare (k : Nat) (s : State) : Effs spare.ok (c2Next k s) := by simp [c2Next]
@[simp] theorem slotOpen_spare (s : State) : Effs spare.ok (slotOpen s) := by simp [slotOpen]

@[simp] theorem ke1Sample_spare {p : Prog} (h : p.All spare.ok) (s : State) : Effs spare.ok (ke1Sample p s) :=
  effs_inOrder (by simp [all_iff.1 h])

@[simp] theorem setpoints_spare (s : State) : Effs spare.ok (setpoints s) := by simp [setpoints]
@[simp] theorem ke0Sample_spare (s : State) : Effs spare.ok (ke0Sample s) := by simp [ke0Sample]
@[simp] theorem ke0Start_spare (s : State) : Effs spare.ok (ke0Start s) := by simp [ke0Start]
@[simp] theorem ke0End_spare (s : State) : Effs spare.ok (ke0End s) := by simp [ke0End]

@[simp] theorem ke1AfterC1_spare (saved : Option (List (Nat × Int × Int) × List Nat)) (s : State) :
    Effs spare.ok (ke1AfterC1 saved s) := by
  unfold ke1AfterC1
  split <;> simp

@[simp] theorem ke1End_spare {p : Nat → Nat → Prog} (h : ∀ i j, (p i j).All spare.ok) (s : State) : Effs spare.ok (ke1End p s) := by
  simp only [all_iff] at h
  refine effs_ite.2 ⟨fun _ => effs_nil, fun _ => effs_inOrder ?_⟩
  simp [h]

@[simp] theorem rmaxClr_spare (s : State) : Effs spare.ok (rmaxClr s) := by simp [rmaxClr]
@[simp] theorem roundAdd_spare (eng cycles : Nat) (s : State) : Effs spare.ok (roundAdd eng cycles s) := by simp [roundAdd]
@[simp] theorem kSpend_spare (eng : Nat) (k : KWord) (s : State) : Effs spare.ok (kSpend eng k s) := by simp [kSpend]
@[simp] theorem kOn_spare (eng : Nat) (s : State) : Effs spare.ok (kOn eng s) := by simp [kOn]

@[simp] theorem kInstr_spare (op eng w : Nat) {p : KWord → Prog} (h : ∀ k, (p k).All spare.ok) (s : State) :
    Effs spare.ok (kInstr op eng w p s) := by
  simp only [all_iff] at h
  simp [kInstr, h]

@[simp] theorem kStage_spare (op eng w : Nat) (f : State → Nat → KWord → KRes) (s : State) : Effs spare.ok (kStage op eng w f s) :=
  kInstr_spare op eng w (fun k s => by simp) s

@[simp] theorem storeSlot_spare (eng : Nat) (osl : Bool) (n w : Nat) (s : State) : Effs spare.ok (storeSlot eng osl n w s) := by
  simp [storeSlot]

@[simp] theorem kSts_spare (eng w : Nat) (s : State) : Effs spare.ok (kSts eng w s) := by simp [kSts]

@[simp] theorem kFlag_spare (eng w : Nat) (s : State) : Effs spare.ok (kFlag eng w s) := by
  refine kInstr_spare 0x02 eng w (fun k s => effs_ite.2 ⟨fun _ => effs_nil, fun _ => effs_ite.2 ⟨fun _ => ?_, fun _ => ?_⟩⟩) s
  · simp
  · by_cases h : eng = 0 <;> simp [h]

@[simp] theorem kExpect_spare (eng w : Nat) (s : State) : Effs spare.ok (kExpect eng w s) := by simp [kExpect]
@[simp] theorem kSheStep_spare (eng w : Nat) (s : State) : Effs spare.ok (kSheStep eng w s) := by simp [kSheStep]
@[simp] theorem convert_spare (s : State) : Effs spare.ok (convert s) := by simp [convert]
@[simp] theorem outputConversion_spare (s : State) : Effs spare.ok (outputConversion s) := by simp [outputConversion]
@[simp] theorem copyOne_spare (n v : Nat) (s : State) : Effs spare.ok (copyOne n v s) := by simp [copyOne]
@[simp] theorem shadowCopy_spare (own : Nat → Bool) (s : State) : Effs spare.ok (shadowCopy own s) := by simp [shadowCopy]
@[simp] theorem shadowWrite_spare (own : Nat → Bool) (s : State) : Effs spare.ok (shadowWrite own s) := by simp [shadowWrite]

/-! ### The maximum-power sequencer and the islanding decision -/

@[simp] theorem roundEnd_spare (s : State) : Effs spare.ok (roundEnd s) := by simp [roundEnd]
@[simp] theorem roundStart_spare (s : State) : Effs spare.ok (roundStart s) := by simp [roundStart]
@[simp] theorem periodicRound_spare (s : State) : Effs spare.ok (periodicRound s) := by simp [periodicRound]

@[simp] theorem writeBeforeLatch_spare (l : List (Nat × Nat)) (s : State) : Effs spare.ok (writeBeforeLatch l s) := by
  simp [writeBeforeLatch]

@[simp] theorem scanStart_spare (s : State) : Effs spare.ok (scanStart s) := by
  refine effs_onlyIf.2 fun _ => effs_inOrder ?_
  refine List.forall_mem_cons.2 ⟨fun s => by simp, List.forall_mem_cons.2 ⟨fun s => ?_, by simp⟩⟩
  dsimp only
  split <;> simp

@[simp] theorem scanTick_spare (s : State) : Effs spare.ok (scanTick s) := by
  unfold scanTick
  split <;> simp

@[simp] theorem scanPoint_spare (s : State) : Effs spare.ok (scanPoint s) := by
  unfold scanPoint
  split <;> simp

@[simp] theorem scanDone_spare (s : State) : Effs spare.ok (scanDone s) := by
  unfold scanDone
  split <;> simp

@[simp] theorem mptAtW_spare (s : State) : Effs spare.ok (mptAtW s) := by
  refine effs_inOrder (List.forall_mem_cons.2 ⟨fun s => ?_, List.forall_mem_cons.2 ⟨fun s => ?_, by simp⟩⟩)
  · dsimp only
    split <;> simp
  · dsimp only
    split <;> simp

@[simp] theorem mptBack_spare (s : State) : Effs spare.ok (mptBack s) := by
  unfold mptBack
  split <;> simp

@[simp] theorem mptAbortCmd_spare (s : State) : Effs spare.ok (mptAbortCmd s) := by simp [mptAbortCmd]
@[simp] theorem indicate_spare (m : Nat) (s : State) : Effs spare.ok (indicate m s) := by simp [indicate, -Foot.ok_upd_iff]

@[simp] theorem indicates_spare (bitNo : Nat) (on : Bool) (s : State) : Effs spare.ok (indicates bitNo on s) := by
  simp [indicates]

@[simp] theorem mptCompare_spare (s : State) : Effs spare.ok (mptCompare s) := by
  unfold mptCompare
  split <;> simp

@[simp] theorem mptRocof_spare (e : PhasorEst) (s : State) : Effs spare.ok (mptRocof e s) := by simp [mptRocof]
@[simp] theorem mptJudge_spare (phasor rocof : Bool) (s : State) : Effs spare.ok (mptJudge phasor rocof s) := by simp [mptJudge]
@[simp] theorem mptPrune_spare (t : Option Nat) (s : State) : Effs spare.ok (mptPrune t s) := by simp [mptPrune]

@[simp] theorem mptArrived_spare (e : Option PhasorEst) (s : State) : Effs spare.ok (mptArrived e s) := by
  unfold mptArrived
  split <;> simp

@[simp] theorem mptFrame_spare (t : Nat) (e : PhasorEst) (s : State) : Effs spare.ok (mptFrame t e s) := by simp [mptFrame]
@[simp] theorem mptRef_spare (r : PhasorRef) (s : State) : Effs spare.ok (mptRef r s) := by simp [mptRef]
@[simp] theorem mptVector_spare (jump : Int) (s : State) : Effs spare.ok (mptVector jump s) := by simp [mptVector]
@[simp] theorem pcValid_spare (s : State) : Effs spare.ok (pcValid s) := by simp [pcValid]

@[simp] theorem pcTick_spare (s : State) : Effs spare.ok (pcTick s) := by
  unfold pcTick
  split <;> simp

@[simp] theorem activeFrequency_spare (s : State) : Effs spare.ok (activeFrequency s) := by simp [activeFrequency]

@[simp] theorem injectionPulse_spare (start : Bool) (s : State) : Effs spare.ok (injectionPulse start s) := by
  simp [injectionPulse]

@[simp] theorem mptTimes_spare (s : State) : Effs spare.ok (mptTimes s) := by simp [mptTimes]
@[simp] theorem mptSample_spare (s : State) : Effs spare.ok (mptSample s) := by simp [mptSample]
@[simp] theorem mptDeliver_spare (n w : Nat) (s : State) : Effs spare.ok (mptDeliver n w s) := by simp [mptDeliver]
@[simp] theorem islClear_spare (s : State) : Effs spare.ok (islClear s) := by simp [islClear]
@[simp] theorem mptCtrlWrite_spare (v : Nat) (s : State) : Effs spare.ok (mptCtrlWrite v s) := by simp [mptCtrlWrite]
@[simp] theorem mptReject_spare (off : Nat) : Effs spare.ok (mptReject off) := by simp [mptReject]

@[simp] theorem scanCommit_spare (s : State) : Effs spare.ok (scanCommit s) := by
  refine (effs_noted (by simp)).2 ?_
  split <;> simp

@[simp] theorem islandCommit_spare (s : State) : Effs spare.ok (islandCommit s) := by
  refine (effs_noted (by simp)).2 ?_
  split <;> simp

/-! ### The grid block -/

@[simp] theorem enterRecords_spare (st old cause : Nat) (s : State) : Effs spare.ok (enterRecords st old cause s) := by
  simp [enterRecords]

@[simp] theorem grdEnter_spare (st cause : Nat) (s : State) : Effs spare.ok (grdEnter st cause s) := by simp [grdEnter]

@[simp] theorem grdEval_spare (s : State) : Effs spare.ok (grdEval s) := by
  unfold grdEval
  dsimp only
  split <;> simp

@[simp] theorem entryTimer_spare (k : Nat) (s : State) : Effs spare.ok (entryTimer k s) := by simp [entryTimer]
@[simp] theorem cessationResume_spare (s : State) : Effs spare.ok (cessationResume s) := by simp [cessationResume]
@[simp] theorem grdClear_spare (s : State) : Effs spare.ok (grdClear s) := by simp [grdClear]

@[simp] theorem setSourceTimed_spare (timed : Bool) (s : State) : Effs spare.ok (setSourceTimed timed s) := by
  simp [setSourceTimed]

@[simp] theorem learnTick_spare (s : State) : Effs spare.ok (learnTick s) := by simp [learnTick]
@[simp] theorem setOfs_spare (a : Int) : Effs spare.ok (setOfs a) := by simp [setOfs]
@[simp] theorem timedReturn_spare (s : State) : Effs spare.ok (timedReturn s) := by simp [timedReturn]
@[simp] theorem relearn_spare (s : State) : Effs spare.ok (relearn s) := by simp [relearn]
@[simp] theorem trimTick_spare (s : State) : Effs spare.ok (trimTick s) := by simp [trimTick]
@[simp] theorem angleTick_spare (s : State) : Effs spare.ok (angleTick s) := by simp [angleTick]
@[simp] theorem measTick_spare (s : State) : Effs spare.ok (measTick s) := by simp [measTick]
@[simp] theorem phaseJump_spare (j : Int) (s : State) : Effs spare.ok (phaseJump j s) := by simp [phaseJump]

@[simp] theorem jumpTick_spare (s : State) : Effs spare.ok (jumpTick s) := by
  unfold jumpTick
  dsimp only
  split <;> simp

@[simp] theorem entryTick_spare (s : State) : Effs spare.ok (entryTick s) := by simp [entryTick]
@[simp] theorem grdSlots_spare (s : State) : Effs spare.ok (grdSlots s) := by simp [grdSlots]

@[simp] theorem profileRanges_spare {g : Nat → Nat → Eff} (h : ∀ lo hi, spare.ok (g lo hi)) : Effs spare.ok (profileRanges g) := by
  simp [profileRanges, h]

@[simp] theorem grdSample_spare (s : State) : Effs spare.ok (grdSample s) := by simp [grdSample, -Foot.ok_upd_iff]
@[simp] theorem grdDeliver_spare (n w : Nat) (s : State) : Effs spare.ok (grdDeliver n w s) := by simp [grdDeliver]
@[simp] theorem grdReject_spare (off : Nat) : Effs spare.ok (grdReject off) := by simp [grdReject]
@[simp] theorem grdCtrlWrite_spare (v : Nat) (s : State) : Effs spare.ok (grdCtrlWrite v s) := by simp [grdCtrlWrite]
@[simp] theorem nominalWrite_spare (k v : Nat) (s : State) : Effs spare.ok (nominalWrite k v s) := by simp [nominalWrite]

@[simp] theorem profileCommit_spare (s : State) : Effs spare.ok (profileCommit s) := by
  refine (effs_noted (by simp)).2 ?_
  split <;> simp [-Foot.ok_upd_iff]

@[simp] theorem settingsCommit_spare (s : State) : Effs spare.ok (settingsCommit s) := by simp [settingsCommit]

/-! ### Redundancy -/

@[simp] theorem mirSend_spare (fs : List Frame) (s : State) : Effs spare.ok (mirSend fs s) := by simp [mirSend]
@[simp] theorem butAtW_spare (s : State) : Effs spare.ok (butAtW s) := by simp [butAtW]
@[simp] theorem butAtEnd1_spare (s : State) : Effs spare.ok (butAtEnd1 s) := by simp [butAtEnd1]
@[simp] theorem takeGrd_spare (ws : List Nat) (s : State) : Effs spare.ok (takeGrd ws s) := by simp [takeGrd]
@[simp] theorem takeMpt_spare (ws : List Nat) (s : State) : Effs spare.ok (takeMpt ws s) := by simp [takeMpt]
@[simp] theorem takeLatches_spare (ws : List Nat) (s : State) : Effs spare.ok (takeLatches ws s) := by simp [takeLatches]

@[simp] theorem applyNewest_spare (k : Nat) {p : List Nat → Prog} (h : ∀ w, (p w).All spare.ok) (s : State) :
    Effs spare.ok (applyNewest k p s) := by
  simp only [all_iff] at h
  unfold applyNewest
  split <;> simp [h]

@[simp] theorem takeHw_spare (ws : List Nat) (s : State) : Effs spare.ok (takeHw ws s) := by simp [takeHw]
@[simp] theorem ageSets_spare (ks : List Nat) : spare.ok (ageSets ks) := by simp [ageSets]
@[simp] theorem butSample_spare (s : State) : Effs spare.ok (butSample s) := by simp [butSample]
@[simp] theorem butSlot_spare (s : State) : Effs spare.ok (butSlot s) := by simp [butSlot]

@[simp] theorem arbCtrlWrite_spare (v : Nat) (s : State) : Effs spare.ok (arbCtrlWrite v s) := by
  simp [arbCtrlWrite, -Foot.ok_upd_iff]

/-! ### Cairn -/

@[simp] theorem snapPage_spare (s : State) (seq : Nat) (p : PageInfo) : Effs spare.ok (snapPage s seq p) := by
  simp only [snapPage, effs_append, effs_map, effs_cons, effs_nil, Foot.ok_set, and_true, spare_key]
  simp only [snapSeqFld, keyAt]
  exact ⟨fun _ _ => by omega, by omega⟩

@[simp] theorem updCrn_spare (g : Crn → Crn) : spare.ok (updCrn g) := by simp [updCrn, -Foot.ok_upd_iff]

@[simp] theorem cairnSnapshot_spare (s : State) : Effs spare.ok (cairnSnapshot s) := by
  unfold cairnSnapshot
  split
  · simp
  · simp

@[simp] theorem crnTrig_spare (s : State) : Effs spare.ok (crnTrig s) := by simp [crnTrig]
@[simp] theorem crnPin_spare (s : State) : Effs spare.ok (crnPin s) := by simp [crnPin]
@[simp] theorem crnRelease_spare (s : State) : Effs spare.ok (crnRelease s) := by simp [crnRelease]
@[simp] theorem crnPulseEnd_spare (s : State) : Effs spare.ok (crnPulseEnd s) := by simp [crnPulseEnd]

/-! ### Health -/

@[simp] theorem updMon_spare (g : Mon → Mon) : spare.ok (updMon g) := by simp [updMon, -Foot.ok_upd_iff]
@[simp] theorem tempHigh_spare (n : Nat) (t : Int) (s : State) : Effs spare.ok (tempHigh n t s) := by simp [tempHigh]
@[simp] theorem tempLow_spare (n : Nat) (t : Int) (s : State) : Effs spare.ok (tempLow n t s) := by simp [tempLow]
@[simp] theorem tempSample_spare (n : Nat) (t : Int) (s : State) : Effs spare.ok (tempSample n t s) := by simp [tempSample]
@[simp] theorem railChange_spare (n mv ns : Nat) (s : State) : Effs spare.ok (railChange n mv ns s) := by simp [railChange]
@[simp] theorem monCommit_spare (s : State) : Effs spare.ok (monCommit s) := by simp [monCommit]
@[simp] theorem monAdopt_spare (s : State) : Effs spare.ok (monAdopt s) := by simp [monAdopt]
@[simp] theorem railFilt_spare (v : Nat) (s : State) : Effs spare.ok (railFilt v s) := by simp [railFilt]

@[simp] theorem driftRecords_spare (counts : List Nat) (s : State) : Effs spare.ok (driftRecords counts s) := by
  simp [driftRecords]

@[simp] theorem driftNow_spare (counts : List Nat) (s : State) : Effs spare.ok (driftNow counts s) := by simp [driftNow]
@[simp] theorem roDrift_spare (counts : List Nat) (s : State) : Effs spare.ok (roDrift counts s) := by simp [roDrift]

@[simp] theorem dieSensor_spare (n : Nat) (t : Int) (s : State) : Effs spare.ok (dieSensor n t s) := by
  simp [dieSensor, -Foot.ok_upd_iff]

/-! ### Queues -/

@[simp] theorem quePop_spare (q : Nat) (s : State) : Effs spare.ok (quePop q s) := by simp [quePop, -Foot.ok_upd_iff]
@[simp] theorem queCons_spare (q c : Nat) (s : State) : Effs spare.ok (queCons q c s) := by simp [queCons]
@[simp] theorem queCommit_spare (s : State) : Effs spare.ok (queCommit s) := by simp [queCommit]

@[simp] theorem queAdopt_spare (s : State) : Effs spare.ok (queAdopt s) := by
  refine effs_ite.2 ⟨fun _ => effs_nil, fun _ => effs_thenDo.2 ⟨by simp [-Foot.ok_upd_iff], effs_inOrder ?_⟩⟩
  simp

@[simp] theorem wmAgain_spare (s : State) : Effs spare.ok (wmAgain s) := by simp [wmAgain]
@[simp] theorem mailTx_spare (dest count : Nat) (s : State) : Effs spare.ok (mailTx dest count s) := by simp [mailTx]
@[simp] theorem mailReceive_spare (n : Nat) (f : Frame) (s : State) : Effs spare.ok (mailReceive n f s) := by simp [mailReceive]

/-! ### Security -/

@[simp] theorem updSec_spare (g : Sec → Sec) : spare.ok (updSec g) := by simp [updSec, -Foot.ok_upd_iff]

@[simp] theorem lockShow_spare (s : State) : Effs spare.ok (lockShow s) := by
  unfold lockShow
  dsimp only
  split <;> simp

@[simp] theorem chalDone_spare (ws : List Nat) (s : State) : Effs spare.ok (chalDone ws s) := by simp [chalDone]

@[simp] theorem signatureDone_spare (s : State) : Effs spare.ok (signatureDone s) := by
  unfold signatureDone
  (repeat' split) <;> simp

@[simp] theorem challenge_spare (s : State) : Effs spare.ok (challenge s) := by simp [challenge]

@[simp] theorem fuseStart_spare (cmd key : Nat) (s : State) : Effs spare.ok (fuseStart cmd key s) := by
  unfold fuseStart
  split <;> simp

@[simp] theorem fuseDone_spare (s : State) : Effs spare.ok (fuseDone s) := by
  unfold fuseDone
  split <;> simp

@[simp] theorem metLock_spare (s : State) : Effs spare.ok (metLock s) := by
  refine effs_ite.2 ⟨fun _ => effs_nil, fun _ => effs_inOrder fun q hq => ?_⟩
  simp only [List.mem_append, List.mem_cons, List.not_mem_nil, or_false] at hq
  rcases hq with (rfl | hq) | rfl | rfl
  · exact fun s => by simp
  · obtain ⟨w, -, rfl⟩ := List.mem_map.1 hq
    exact fun s => undoCommit_spare (fun k => flagScope_spare (by decide)) w _ s
  · exact fun s => by simp
  · exact fun s => by simp

@[simp] theorem metUnlock_spare (s : State) : Effs spare.ok (metUnlock s) := by simp [metUnlock]

/-! ### Travelling waves -/

@[simp] theorem twvShow_spare (s : State) : Effs spare.ok (twvShow s) := by simp [twvShow]

@[simp] theorem pairUp_spare (s : State) : Effs spare.ok (pairUp s) := by
  unfold pairUp
  split
  · exact effs_nil
  · split <;> simp

theorem pairUps_spare {α : Type} (l : List α) : Alls spare.ok (l.map fun _ => pairUp) := by
  intro p hp
  obtain ⟨_, -, rfl⟩ := List.mem_map.1 hp
  exact pairUp_spare

@[simp] theorem twArrival_spare (det peak : Nat) (neg : Bool) (ago : Nat) (gap : Bool) (s : State) :
    Effs spare.ok (twArrival det peak neg ago gap s) := by
  unfold twArrival
  dsimp only
  split
  · exact effs_nil
  · refine effs_ite.2 ⟨fun _ => effs_nil, fun _ => effs_inOrder ?_⟩
    refine List.forall_mem_cons.2 ⟨fun s => by simp, List.forall_mem_cons.2 ⟨fun s => by simp, List.forall_mem_singleton.2 ?_⟩⟩
    exact fun s => effs_inOrder (pairUps_spare _)

@[simp] theorem captureDone_spare (det : Nat) (codes : List Nat) (gaps ago : Nat) (s : State) :
    Effs spare.ok (captureDone det codes gaps ago s) := by
  unfold captureDone
  split <;> simp

@[simp] theorem arrivalRecord_spare (n : Nat) (f : Frame) (s : State) : Effs spare.ok (arrivalRecord n f s) :=
  deliver_ok (by simp) (by simp) (fun s => effs_thenDo.2 ⟨by simp, effs_inOrder (pairUps_spare _)⟩) n 2 0x22 f s

@[simp] theorem pairWrite1_spare (p : Fin 8 × Int × Bool) (s : State) : Effs spare.ok (pairWrite1 p s) := by simp [pairWrite1]
@[simp] theorem twvSample_spare (s : State) : Effs spare.ok (twvSample s) := by simp [twvSample]

@[simp] theorem twvCommit_spare (s : State) : Effs spare.ok (twvCommit s) := by
  refine (effs_noted (by simp)).2 ?_
  split <;> simp

@[simp] theorem twvAdopt_spare (s : State) : Effs spare.ok (twvAdopt s) := by simp [twvAdopt]
@[simp] theorem twvCntClr_spare (s : State) : Effs spare.ok (twvCntClr s) := by simp [twvCntClr]

/-! ### Resets and the die-to-die path -/

@[simp] theorem dieLinkFail_spare (s : State) : Effs spare.ok (dieLinkFail s) := by simp [dieLinkFail]
@[simp] theorem dieLinkRestore_spare (s : State) : Effs spare.ok (dieLinkRestore s) := by simp [dieLinkRestore]

/-- No field of page 0 that a clear of the page's configuration returns to reset is the permission. -/
theorem clearConfig_permit : ∀ r ∈ RegTable.rowsOf 0, (r.acc == .rw || r.acc == .rws) = true →
    ∀ a ∈ rowAddrs 0 r, keyAt a + r.lo ≠ 391 := by decide

theorem clearConfig_spare {base : Nat} (h : base = 0 ∨ 0x1000 ≤ base) : Effs spare.ok (clearConfig base) := by
  refine effs_flatMap.2 fun r hr => effs_map.2 fun a ha => ?_
  obtain ⟨hr, hacc⟩ := List.mem_filter.1 hr
  have apart : keyAt a + r.lo ≠ 391 := by
    rcases h with rfl | h
    · exact clearConfig_permit r hr hacc a ha
    · obtain ⟨i, -, ha⟩ := List.mem_flatMap.1 ha
      obtain ⟨j, -, rfl⟩ := List.mem_map.1 ha
      simp only [keyAt]
      omega
  exact ⟨fun k lo hi => ⟨fun e => apart (by rw [spare_key_eq] at e; omega), trivial, trivial⟩, trivial⟩

@[simp] theorem clearLock_spare (base : Nat) : Effs spare.ok (clearLock base) := by
  simp only [clearLock, lockedFld, permFld, effs_cons, effs_nil, Foot.ok_set, and_true, spare_key, keyAt]
  omega

@[simp] theorem powerReset_spare (s : State) : Effs spare.ok (powerReset s) := by
  refine effs_ite.2 ⟨fun _ => effs_nil, fun _ => effs_inOrder ?_⟩
  simp [clearConfig_spare, Met.low, metShown, -Foot.ok_upd_iff]

@[simp] theorem waitTimeout_spare (s : State) : Effs spare.ok (waitTimeout s) := by simp [waitTimeout]
@[simp] theorem sysPermit_spare (s : State) : Effs spare.ok (sysPermit s) := by simp [sysPermit]
@[simp] theorem startWrite_spare (v : Nat) (s : State) : Effs spare.ok (startWrite v s) := by simp [startWrite]

/-! ### The configuration store -/

@[simp] theorem updCfg_spare (g : Cfg → Cfg) : spare.ok (updCfg g) := by simp [updCfg, -Foot.ok_upd_iff]
@[simp] theorem showCheck_spare (copy : Nat) (s : State) : Effs spare.ok (showCheck copy s) := by simp [showCheck]
@[simp] theorem verify_spare (a b : Bool) (s : State) : Effs spare.ok (verify a b s) := by simp [verify]
@[simp] theorem verifyDone_spare (s : State) : Effs spare.ok (verifyDone s) := by simp [verifyDone]
@[simp] theorem imageWrite_spare (copy k v : Nat) (s : State) : Effs spare.ok (imageWrite copy k v s) := by simp [imageWrite]

@[simp] theorem showInvalid_spare (copy : Nat) (s : State) : Effs spare.ok (showInvalid copy s) := by
  unfold showInvalid
  split <;> simp

@[simp] theorem configLoad_spare (s : State) : Effs spare.ok (configLoad s) := by simp [configLoad]

end Sys2Proof.Machine
end

section
/-! The footprint of the fast converters, phasors, register writes, the loader, the host port and the engine programs. -/

namespace Sys2Proof.Machine

/-! ### The fast converters -/

@[simp] theorem updFac_spare (g : Fac → Fac) : spare.ok (updFac g) := by simp [updFac, -Foot.ok_upd_iff]

@[simp] theorem writeChannel_spare (n : Nat) (c : Int) (late : Bool) (s : State) : Effs spare.ok (writeChannel n c late s) := by
  simp [writeChannel]

@[simp] theorem lateRecord_spare (k input cause ago : Nat) (s : State) : Effs spare.ok (lateRecord k input cause ago s) := by
  simp [lateRecord]

@[simp] theorem overlapPair_spare (k : Nat) (a b : Int) (s : State) : Effs spare.ok (overlapPair k a b s) := by
  simp [overlapPair]

@[simp] theorem deliverResult_spare (k : Nat) (q : Sample) (nv other : Int) (s : State) :
    Effs spare.ok (deliverResult k q nv other s) := by
  refine effs_inOrder (alls_cons.2 ⟨fun s => effs_append.2 ⟨?_, ?_⟩, by simp⟩)
  · by_cases low : 4 * k + q.input < 32 <;> simp [low]
  · split <;> simp

@[simp] theorem fadResult_spare (k input kind : Nat) (nv other : Int) (ago : Nat) (s : State) :
    Effs spare.ok (fadResult k input kind nv other ago s) := by
  unfold fadResult
  (repeat' split) <;> simp

@[simp] theorem takeSample_spare (k input kind : Nat) (scan : Bool) (s : State) :
    Effs spare.ok (takeSample k input kind scan s) := by
  simp [takeSample]

@[simp] theorem extraStep_spare (k : Nat) (s : State) : Effs spare.ok (extraStep k s) := by simp [extraStep]
@[simp] theorem abortSample_spare (k : Nat) : spare.ok (abortSample k) := by simp [abortSample]

@[simp] theorem urgentStart_spare (k : Nat) (s : State) : Effs spare.ok (urgentStart k s) := by
  unfold urgentStart
  dsimp only
  (repeat' split) <;> simp

@[simp] theorem scanDrop_spare (k input : Nat) (s : State) : Effs spare.ok (scanDrop k input s) := by simp [scanDrop]

@[simp] theorem triggerEnds_spare (k : Nat) (s : State) : Effs spare.ok (triggerEnds k s) := by
  unfold triggerEnds
  dsimp only
  split <;> simp

@[simp] theorem triggerStarts_spare (k : Nat) (s : State) : Effs spare.ok (triggerStarts k s) := by
  unfold triggerStarts
  split <;> simp

@[simp] theorem fadEnds_spare (s : State) : Effs spare.ok (fadEnds s) := by simp [fadEnds]
@[simp] theorem fadTrigger_spare (s : State) : Effs spare.ok (fadTrigger s) := by simp [fadTrigger]
@[simp] theorem fadCommit_spare (s : State) : Effs spare.ok (fadCommit s) := by simp [fadCommit]
@[simp] theorem fadCntClr_spare (s : State) : Effs spare.ok (fadCntClr s) := by simp [fadCntClr]
@[simp] theorem facEnd_spare (st : Nat) : Effs spare.ok (facEnd st) := by simp [facEnd]

@[simp] theorem visitStart_spare (s : State) : Effs spare.ok (visitStart s) := by
  refine effs_inOrder (List.forall_mem_cons.2 ⟨fun s => by simp, List.forall_mem_cons.2 ⟨fun s => ?_, by simp⟩⟩)
  dsimp only
  split <;> simp

@[simp] theorem facVisitStart_spare (s : State) : Effs spare.ok (facVisitStart s) := by simp [facVisitStart]
@[simp] theorem fcsFails_spare (cause : Nat) (s : State) : Effs spare.ok (fcsFails cause s) := by simp [fcsFails]
@[simp] theorem checkDone_spare (gnd calP : Int) (s : State) : Effs spare.ok (checkDone gnd calP s) := by simp [checkDone]
@[simp] theorem ovlLast_spare (s : State) : Effs spare.ok (ovlLast s) := by simp [ovlLast]
@[simp] theorem ovlDone_spare (s : State) : Effs spare.ok (ovlDone s) := by simp [ovlDone]
@[simp] theorem parkIn_spare (k cause : Nat) (s : State) : Effs spare.ok (parkIn k cause s) := by simp [parkIn]
@[simp] theorem suspect_spare (s : State) (k : Nat) : spare.ok (suspect s k) := by simp [suspect]
@[simp] theorem ovlMismatch_spare (s : State) : Effs spare.ok (ovlMismatch s) := by simp [ovlMismatch]
@[simp] theorem visitDone_spare (k : Nat) (s : State) : Effs spare.ok (visitDone k s) := by simp [visitDone]

@[simp] theorem setCoefs_spare (s : State) (k : Nat) (c : Int × Int × Int) : Effs spare.ok (setCoefs s k c) := by
  simp [setCoefs]

@[simp] theorem calDone_spare (ofs dev dac skew gnd calP : Int) (s : State) :
    Effs spare.ok (calDone ofs dev dac skew gnd calP s) := by
  unfold calDone
  (repeat' split) <;> simp

@[simp] theorem facTrigger_spare (s : State) : Effs spare.ok (facTrigger s) := by simp [facTrigger]
@[simp] theorem facRefuse_spare : Effs spare.ok facRefuse := by simp [facRefuse]
@[simp] theorem facResume_spare (s : State) : Effs spare.ok (facResume s) := by simp [facResume]
@[simp] theorem facUnpark_spare (s : State) : Effs spare.ok (facUnpark s) := by simp [facUnpark]
@[simp] theorem clrFcs_spare (s : State) : Effs spare.ok (clrFcs s) := by simp [clrFcs]
@[simp] theorem facPark_spare (k : Nat) (s : State) : Effs spare.ok (facPark k s) := by simp [facPark]
@[simp] theorem facCtrlWrite_spare (v : Nat) (s : State) : Effs spare.ok (facCtrlWrite v s) := by simp [facCtrlWrite]

@[simp] theorem facCommit_spare (s : State) : Effs spare.ok (facCommit s) := by
  refine (effs_noted (by simp)).2 ?_
  dsimp only
  split <;> simp

/-! ### Phasors -/

@[simp] theorem refShow_spare (s : State) : Effs spare.ok (refShow s) := by
  unfold refShow
  split <;> simp

@[simp] theorem takeRef_spare (r : PhasorRef) (s : State) : Effs spare.ok (takeRef r s) := by simp [takeRef]
@[simp] theorem refPhasor_spare (n : Nat) (f : Frame) (s : State) : Effs spare.ok (refPhasor n f s) := by simp [refPhasor]
@[simp] theorem refPhasorLost_spare (s : State) : Effs spare.ok (refPhasorLost s) := by simp [refPhasorLost]
@[simp] theorem storeEst_spare (t : Nat) (e : PhasorEst) : Effs spare.ok (storeEst t e) := by simp [storeEst]

@[simp] theorem ownRef_spare (t : Nat) (es : List PhasorEst) (s : State) : Effs spare.ok (ownRef t es s) := by
  unfold ownRef
  split <;> simp

@[simp] theorem report_spare (t frame run : Nat) (es : List PhasorEst) (s : State) :
    Effs spare.ok (report t frame run es s) := by
  simp [report]

@[simp] theorem reportDue_spare (t frame : Nat) (new : List (Fin 4)) (s : State) : Effs spare.ok (reportDue t frame new s) := by
  simp [reportDue]

@[simp] theorem phasorFrame_spare (sec frame sets : Nat) (s : State) : Effs spare.ok (phasorFrame sec frame sets s) := by
  simp [phasorFrame]

@[simp] theorem phsSample_spare (s : State) : Effs spare.ok (phsSample s) := by simp [phsSample]
@[simp] theorem phsReject_spare (off : Nat) : Effs spare.ok (phsReject off) := by simp [phsReject]

@[simp] theorem phsCommit_spare (s : State) : Effs spare.ok (phsCommit s) := by
  refine (effs_noted (by simp)).2 ?_
  dsimp only
  (repeat' split) <;> simp

@[simp] theorem phsCtrlWrite_spare (v : Nat) (s : State) : Effs spare.ok (phsCtrlWrite v s) := by simp [phsCtrlWrite]

/-! ### Register writes -/

@[simp] theorem lockPage_spare (base : Nat) (perm : Bool) (s : State) : Effs spare.ok (lockPage base perm s) := by
  have locked : spare.key (lockedFld base).key := by
    simp only [spare_key, lockedFld, keyAt]
    omega
  have perm : spare.key (permFld base).key := by
    simp only [spare_key, permFld, keyAt]
    omega
  simp [lockPage, locked, perm]

@[simp] theorem unlockPage_spare (base : Nat) (s : State) : Effs spare.ok (unlockPage base s) := by
  have apart : spare.key (lockedFld base).key := by
    simp only [spare_key, lockedFld, keyAt]
    omega
  simp [unlockPage, apart]

@[simp] theorem keyBad_spare (base key : Nat) (s : State) : Effs spare.ok (keyBad base key s) := by simp [keyBad]
@[simp] theorem lockWrite_spare (base v : Nat) (s : State) : Effs spare.ok (lockWrite base v s) := by simp [lockWrite]

theorem commitsOf_spare (base v : Nat) : ∀ p ∈ commitsOf base v, p.All spare.ok := by
  unfold commitsOf
  split <;> simp

@[simp] theorem commitWrite_spare (base v : Nat) (s : State) : Effs spare.ok (commitWrite base v s) := by
  unfold commitWrite
  split
  · simp
  · refine effs_inOrder fun p hp => ?_
    obtain ⟨q, hq, rfl⟩ := List.mem_map.1 hp
    have own : q.1.All spare.ok := commitsOf_spare base v q.1 (List.fst_mem_of_mem_zipIdx hq)
    simp [all_iff.1 own]

theorem rejudge_spare {base : Nat} (h : 0x1000 ≤ base) (s : State) : Effs spare.ok (rejudge base s) := by
  refine effs_inOrder fun p hp => ?_
  rcases List.mem_append.1 hp with hp | hp
  · obtain ⟨q, -, rfl⟩ := List.mem_map.1 hp
    refine fun s => undoCommit_spare (fun k hk => ?_) q.1 _ s
    simp only [pageScope, beq_iff_eq] at hk
    exact spare_key_of_lt (by omega)
  · obtain ⟨q, -, rfl⟩ := List.mem_map.1 hp
    have own : ((commitsOf base 0).getD q.2 fun _ => []).All spare.ok := by
      rw [List.getD_eq_getElem?_getD]
      rcases h : (commitsOf base 0)[q.2]? with - | p
      · exact fun _ => effs_nil
      · exact commitsOf_spare base 0 p (List.mem_of_getElem? h)
    exact fun s => spare_ite_prog.2 ⟨fun _ => by simp, fun _ => own s⟩

@[simp] theorem cmdBits_spare (v : Nat) {ps : List (Nat × Prog)} (h : ∀ q ∈ ps, q.2.All spare.ok) (s : State) :
    Effs spare.ok (cmdBits v ps s) := by
  refine effs_inOrder fun q hq => ?_
  obtain ⟨r, hr, rfl⟩ := List.mem_map.1 hq
  simp [all_iff.1 (h r hr)]

@[simp] theorem plainWrite_spare (base o v : Nat) (s : State) : Effs spare.ok (plainWrite base o v s) := by simp [plainWrite]

@[simp] theorem ctrlWrite_spare (base v : Nat) (s : State) : Effs spare.ok (ctrlWrite base v s) := by
  unfold ctrlWrite
  dsimp only
  split <;> simp [-Foot.ok_upd_iff]

theorem writeLane_spare {n : Nat} (hn : n < 8) (o v : Nat) (s : State) : Effs spare.ok (writeLane n o v s) := by
  have again (s : State) : Effs spare.ok (retrain n s) := retrain_ok hn (by simp) (by simp) s
  have loop (s : State) : Effs spare.ok (lnkLoopWrite n v s) := lnkLoopWrite_ok hn (by simp) (by simp) v s
  unfold writeLane
  split
  case h_3 => exact cmdBits_spare v (by simp [again]) s
  case h_4 => exact loop s
  all_goals simp

@[simp] theorem writeRing_spare (base o v : Nat) (s : State) : Effs spare.ok (writeRing base o v s) := by
  have cmds {ps : List (Nat × Prog)} (h : ∀ q ∈ ps, q.2.All spare.ok) := cmdBits_spare v h s
  unfold writeRing
  split
  case h_2 => exact cmds (by simp)
  case h_6 => exact cmds (by simp)
  case h_11 =>
    refine spare_ite_prog.2 ⟨fun _ => spare_andThen.2 ⟨by simp, effs_inOrder (by simp)⟩, fun _ => ?_⟩
    simp
  all_goals simp

@[simp] theorem writeEngine_spare (base o v : Nat) (s : State) : Effs spare.ok (writeEngine base o v s) := by
  unfold writeEngine
  split <;> simp

@[simp] theorem writePower_spare (base o v : Nat) (s : State) : Effs spare.ok (writePower base o v s) := by
  unfold writePower
  split <;> simp

@[simp] theorem writeOther_spare (base o v : Nat) (s : State) : Effs spare.ok (writeOther base o v s) := by
  have cmds {ps : List (Nat × Prog)} (h : ∀ q ∈ ps, q.2.All spare.ok) := cmdBits_spare v h s
  unfold writeOther
  split
  case h_1 => exact cmds (by simp)
  case h_3 => exact cmds (by simp)
  case h_4 => exact cmds (by simp)
  case h_8 => exact cmds (by simp)
  all_goals simp

@[simp] theorem hstErr_spare {f : Fld} (h : spare.key f.key) (hi : spare.key (f.key - 256)) (start : Nat) :
    Effs spare.ok (hstErr f start) := by
  simp [hstErr, h, hi]

@[simp] theorem noteWrite_spare (src : Origin) (addr before : Nat) : Effs spare.ok (noteWrite src addr before) := by
  unfold noteWrite
  split <;> simp [-Foot.ok_upd_iff]

@[simp] theorem onPage_spare (n : Nat) {p : Nat → Prog} (h : (p (pageBase n)).All spare.ok) (s : State) :
    Effs spare.ok (onPage n p s) := by
  simp [onPage, all_iff.1 h]

@[simp] theorem lockCmd_spare {p : Nat → Prog} (base : Nat) (h : (p base).All spare.ok) (s : State) :
    Effs spare.ok (lockCmd p base s) := by
  simp [lockCmd, all_iff.1 h]

/-! ### The loader -/

@[simp] theorem adoptOf_spare (g : Group) (s : State) : Effs spare.ok (adoptOf g s) := by
  cases g <;> simp [adoptOf]

@[simp] theorem commitAdopt_spare (g : Group) (s : State) : Effs spare.ok (commitAdopt g s) := by simp [commitAdopt]

@[simp] theorem adoptNext_spare (s : State) : Effs spare.ok (adoptNext s) := by
  refine effs_inOrder ?_
  simp [-Foot.ok_upd_iff]

@[simp] theorem configReset_spare (s : State) : Effs spare.ok (configReset s) := by
  have pages (s : State) (b : Nat) (hb : b ∈ configPages s) : Effs spare.ok (clearConfig b) := by
    have all : ∀ b ∈ RegTable.pages.map PageInfo.base, b = 0 ∨ 0x1000 ≤ b := by decide
    exact clearConfig_spare (all b (List.mem_filter.1 hb).1)
  have queues (s : State) : Effs spare.ok (inOrder ((List.range 32).map queShow) s) := effs_inOrder (by simp)
  refine effs_inOrder ?_
  simp only [Alls, List.forall_mem_cons]
  simp [queues, -Foot.ok_upd_iff]
  exact pages

@[simp] theorem applyDefaults_spare (s : State) : Effs spare.ok (applyDefaults s) := by simp [applyDefaults]
@[simp] theorem resetRecord_spare (s : State) : Effs spare.ok (resetRecord s) := by simp [resetRecord]
@[simp] theorem configEnd_spare (s : State) : Effs spare.ok (configEnd s) := by simp [configEnd]

/-! ### The host port and the host link -/

@[simp] theorem updHst_spare (g : Hst → Hst) : spare.ok (updHst g) := by simp [updHst, -Foot.ok_upd_iff]
@[simp] theorem partialEnd_spare (a : Nat) (cut : Bool) : Effs spare.ok (partialEnd a cut) := by simp [partialEnd]

@[simp] theorem readPhase_spare (a n : Nat) (cut : Bool) (s : State) : Effs spare.ok (readPhase a n cut s) := by
  simp [readPhase]

@[simp] theorem bufferWord_spare (a i v : Nat) (s : State) : Effs spare.ok (bufferWord a i v s) := by
  unfold bufferWord
  split <;> simp

@[simp] theorem hostWrite_spare (a first : Nat) (words : List Nat) (cut : Bool) (s : State) :
    Effs spare.ok (hostWrite a first words cut s) := by
  simp [hostWrite]

@[simp] theorem hostStatus_spare (s : State) : Effs spare.ok (hostStatus s) := by simp [hostStatus]

@[simp] theorem unknownCommand_spare (code : Nat) (s : State) : Effs spare.ok (unknownCommand code s) := by
  simp [unknownCommand]

@[simp] theorem readTmo_spare (a : Nat) (s : State) : Effs spare.ok (readTmo a s) := by simp [readTmo]

@[simp] theorem linkArrive_spare (cls type : Nat) (f : Frame) (s : State) : Effs spare.ok (linkArrive cls type f s) := by
  simp [linkArrive]

@[simp] theorem linkSend_spare (cls type dest : Nat) (data : List Nat) (s : State) :
    Effs spare.ok (linkSend cls type dest data s) := by
  simp [linkSend]

@[simp] theorem linkRead_spare (q : LinkReq) (s : State) : Effs spare.ok (linkRead q s) := by
  unfold linkRead
  split <;> simp

@[simp] theorem linkFragment_spare (q : LinkReq) (i : Nat) (s : State) : Effs spare.ok (linkFragment q i s) := by
  simp [linkFragment]

@[simp] theorem linkBulk_spare (q : LinkReq) (s : State) : Effs spare.ok (linkBulk q s) := by simp [linkBulk]

@[simp] theorem linkServe_spare (type : Nat) {p : LinkReq → Prog} (h : ∀ q, (p q).All spare.ok) (s : State) :
    Effs spare.ok (linkServe type p s) := by
  simp only [all_iff] at h
  unfold linkServe
  split <;> simp [h]

@[simp] theorem linkRow_spare (cls type : Nat) {p : LinkReq → Prog} (h : ∀ q, (p q).All spare.ok) (f : Option Frame) (s : State) :
    Effs spare.ok (linkRow cls type p f s) := by
  cases f with
  | none => exact linkServe_spare type h s
  | some f => simp [linkRow]

/-! ### The engine programs -/

@[simp] theorem freeSlot_spare (osl : Bool) (n : Nat) (s : State) : Effs spare.ok (freeSlot osl n s) := by simp [freeSlot]
@[simp] theorem romTouch_spare (eng id : Nat) (s : State) : Effs spare.ok (romTouch eng id s) := by simp [romTouch]
@[simp] theorem updRom0_spare (g : Rom0 → Rom0) : spare.ok (updRom0 g) := by simp [updRom0]
@[simp] theorem updKept_spare (g : Kept → Kept) : spare.ok (updKept g) := by simp [updKept]
@[simp] theorem pairOut_spare (p w : Nat) : Effs spare.ok (pairOut p w) := by simp [pairOut]
@[simp] theorem slotSafe_spare (s : State) (n : Nat) : spare.ok (slotSafe s n) := by simp [slotSafe]
@[simp] theorem pairSafe_spare (s : State) (p : Nat) : Effs spare.ok (pairSafe s p) := by simp [pairSafe]
@[simp] theorem romExpect_spare (n : Nat) (x : Rat) : spare.ok (romExpect n x) := by simp [romExpect]
@[simp] theorem romLeg_spare (b p : Nat) (r : Rat) (s : State) : Effs spare.ok (romLeg b p r s) := by simp [romLeg]

@[simp] theorem romPhase_spare (b : Nat) (u : Rat × Rat) (u0 : Rat) (x : Nat) (s : State) :
    Effs spare.ok (romPhase b u u0 x s) := by
  simp [romPhase]

@[simp] theorem romBridge_spare (gfm : Bool) (b : Nat) (s : State) : Effs spare.ok (romBridge gfm b s) := by simp [romBridge]
@[simp] theorem romInput_spare (j : Nat) (s : State) : Effs spare.ok (romInput j s) := by simp [romInput]
@[simp] theorem romLink_spare (s : State) : Effs spare.ok (romLink s) := by simp [romLink]
@[simp] theorem romClass0_spare (gfm : Bool) (s : State) : Effs spare.ok (romClass0 gfm s) := by simp [romClass0]
@[simp] theorem updRom_spare (g : RomState → RomState) : spare.ok (updRom g) := by simp [updRom]
@[simp] theorem updPo_spare (j : Nat) (g : PerturbObserve → PerturbObserve) : spare.ok (updPo j g) := by simp [updPo]
@[simp] theorem poRun_spare (j : Nat) (s : State) : Effs spare.ok (poRun j s) := by simp [poRun]
@[simp] theorem clampAny_spare (hit : Bool) (s : State) : Effs spare.ok (clampAny hit s) := by simp [clampAny]
@[simp] theorem dcSetpoints_spare (s : State) : Effs spare.ok (dcSetpoints s) := by simp [dcSetpoints]
@[simp] theorem vsmRun_spare (s : State) : Effs spare.ok (vsmRun s) := by simp [vsmRun]
@[simp] theorem pllRun_spare (s : State) : Effs spare.ok (pllRun s) := by simp [pllRun]
@[simp] theorem linkLoop_spare (s : State) : Effs spare.ok (linkLoop s) := by simp [linkLoop]
@[simp] theorem romClass1_spare (gfm : Bool) (s : State) : Effs spare.ok (romClass1 gfm s) := by simp [romClass1]

@[simp] theorem romPump_spare (s : State) : Effs spare.ok (romPump s) := by
  unfold romPump
  (repeat' split) <;> simp

@[simp] theorem romTherm_spare (s : State) : Effs spare.ok (romTherm s) := by simp [romTherm]
@[simp] theorem romIsland_spare (s : State) : Effs spare.ok (romIsland s) := by simp [romIsland]
@[simp] theorem romLocate_spare (s : State) : Effs spare.ok (romLocate s) := by simp [romLocate]

@[simp] theorem romLaw_spare (id : Nat) (s : State) : Effs spare.ok (romLaw id s) := by
  unfold romLaw
  split <;> simp

@[simp] theorem romFlags_spare (eng id : Nat) (s : State) : Effs spare.ok (romFlags eng id s) := by
  refine effs_thenDo.2 ⟨by simp, effs_inOrder ?_⟩
  simp

@[simp] theorem romEnd_spare (eng : Nat) (s : State) : Effs spare.ok (romEnd eng s) := by
  unfold romEnd
  dsimp only
  split <;> simp

/-! ### The remaining commands -/

@[simp] theorem sampleInstant_spare (mv : Nat) (s : State) : Effs spare.ok (sampleInstant mv s) := by simp [sampleInstant]
@[simp] theorem shadowPhase_spare (s : State) : Effs spare.ok (shadowPhase s) := by simp [shadowPhase]
@[simp] theorem slotDeliver_spare (n w : Nat) (s : State) : Effs spare.ok (slotDeliver n w s) := by simp [slotDeliver]
@[simp] theorem engineEnd_spare (eng : Nat) (s : State) : Effs spare.ok (engineEnd eng s) := by simp [engineEnd]
@[simp] theorem tripAssert_spare (n : Nat) (s : State) : Effs spare.ok (tripAssert n s) := by simp [tripAssert]

end Sys2Proof.Machine
end

section
/-! What every command keeps: the permission, once the main die has it, until the main die is in reset, and the energy
accumulators. A command whose effects lie in the footprint `spare` keeps both; what is left are the main-die reset, its
release, the permission itself, and the meanings that hold a register write, which may be a soft reset. -/

namespace Sys2Proof.Machine

/-! ### The relation -/

/-- The main die is held in reset, or has its permission. -/
def Permitted (s : State) : Prop := s.b.sys.inReset = true ∨ s.on F.SYS_STATUS_PERMIT = true

/-- From `s` to `t` the permission and the accumulators are kept. -/
structure Calm (s t : State) : Prop where
  permit : Permitted s → Permitted t
  acc : t.b.met.keep.acc = s.b.met.keep.acc

theorem Calm.refl (s : State) : Calm s s := ⟨id, rfl⟩

theorem Calm.trans {s t u : State} (h : Calm s t) (g : Calm t u) : Calm s u :=
  ⟨g.permit ∘ h.permit, g.acc.trans h.acc⟩

/-- Effects that keep both, from `s`. -/
def Calms (s : State) (es : List Eff) : Prop := Calm s (applyAll s es)

section
variable {s : State} {es fs : List Eff} {p q : Prog}

theorem calms_nil : Calms s [] := Calm.refl s

theorem calms_append (h : Calms s es) (g : Calms (applyAll s es) fs) : Calms s (es ++ fs) := by
  rw [Calms, applyAll_append]
  exact h.trans g

theorem calms_ite {c : Prop} [Decidable c] (h : c → Calms s es) (g : ¬ c → Calms s fs) : Calms s (if c then es else fs) := by
  split
  · exact h ‹_›
  · exact g ‹_›

theorem spare_queuesAt (s : State) : spare.QueuesAt s := fun _ _ _ _ _ => trivial

theorem Foot.Kept.calm {t : State} (h : spare.Kept s t) : Calm s t := by
  have reset : t.b.sys.inReset = s.b.sys.inReset := h.part .inReset (by simp)
  have permit : t.on F.SYS_STATUS_PERMIT = s.on F.SYS_STATUS_PERMIT := congrArg (· != 0) (h.regs F.SYS_STATUS_PERMIT fun k => k rfl)
  exact ⟨fun hs => by rwa [Permitted, reset, permit], h.part .acc (by simp)⟩

theorem calms_of_spare (h : Effs spare.ok es) : Calms s es :=
  ((Foot.Kept.refl spare s).effects (spare_queuesAt s) h).calm

theorem calms_thenDo (h : Effs spare.ok es) (g : ∀ t, Calms t (p t)) : Calms s (thenDo es p s) :=
  calms_append (calms_of_spare h) (g _)

theorem calms_andThen (h : Calms s (p s)) (g : ∀ t, Calms t (q t)) : Calms s (p.andThen q s) := calms_append h (g _)

theorem calms_inOrder {ps : List Prog} (h : ∀ p ∈ ps, ∀ t, Calms t (p t)) : Calms s (inOrder ps s) := by
  induction ps generalizing s with
  | nil => exact calms_nil
  | cons p ps ih => exact calms_andThen (h p (.head _) s) fun t => ih fun q hq => h q (.tail _ hq)

theorem calms_onlyIf {c : State → Bool} (h : c s = true → Calms s (p s)) : Calms s (onlyIf c p s) :=
  calms_ite h fun _ => calms_nil

theorem calms_onMain (h : Calms s (p s)) : Calms s (onMain p s) := calms_onlyIf fun _ => h

theorem calms_cmdBits (v : Nat) {ps : List (Nat × Prog)} (h : ∀ q ∈ ps, ∀ t, Calms t (q.2 t)) : Calms s (cmdBits v ps s) := by
  refine calms_inOrder fun p hp t => ?_
  obtain ⟨q, hq, rfl⟩ := List.mem_map.1 hp
  split
  · exact h q hq t
  · exact calms_nil

/-- A command keeps what its meaning keeps. -/
theorem calm_of_run {t : State} (h : Calms s (p s)) (ht : run p s = .next t) : Calm s t := by
  cases ht
  exact h

end

/-! ### The resets -/

@[simp] theorem spare_causeFld (cause : Nat) : spare.key (causeFld cause).key := by
  unfold causeFld
  split <;> simp

theorem applyAll_acc {s : State} {es : List Eff} (h : Effs (Foot.butPart .acc).ok es) :
    (applyAll s es).b.met.keep.acc = s.b.met.keep.acc := same_of_butPart h s

theorem clearPages_acc (s : State) : Effs (Foot.butPart .acc).ok (clearPages s) := by
  simp [clearPages, Foot.ok, Foot.butPart]

/-- A change that puts the main die in reset, after effects that leave the accumulators and before effects that leave both. -/
theorem calms_of_reset {s : State} {es fs : List Eff} {g : Blocks → Blocks} (he : Effs (Foot.butPart .acc).ok es)
    (hr : ∀ b, (g b).sys.inReset = true) (ha : ∀ b, (g b).met.keep.acc = b.met.keep.acc) (hf : Effs spare.ok fs) :
    Calms s (es ++ .upd g :: fs) := by
  rw [Calms, applyAll_append]
  have held : (applyAll s es).b.met.keep.acc = s.b.met.keep.acc := applyAll_acc he
  have after : Calm ((applyAll s es).updB g) (applyAll ((applyAll s es).updB g) fs) := calms_of_spare hf
  exact ⟨fun _ => after.permit (.inl (hr _)), after.acc.trans ((ha _).trans held)⟩

theorem mainReset_calm (cause : Nat) (s : State) : Calms s (mainReset cause s) := by
  refine calms_ite (fun _ => calms_of_spare (by simp)) fun _ => ?_
  have first : Effs (Foot.butPart .acc).ok (clearPages s ++ [.memClear 0x80000 0xC0000]) :=
    effs_append.2 ⟨clearPages_acc s, by simp [Foot.ok, Foot.butPart]⟩
  have reset {fs : List Eff} (h : Effs spare.ok fs) := calms_of_reset (s := s) (g := mainBlocks) first (fun _ => rfl) (fun _ => rfl) h
  simp only [List.append_assoc, List.cons_append, List.nil_append] at reset ⊢
  exact reset (by simp [Met.low, anchorDue, -Foot.ok_upd_iff])

theorem softReset_calm (key : Nat) (s : State) : Calms s (softReset key s) :=
  calms_ite (fun _ => mainReset_calm 3 s) fun _ => calms_of_spare (by simp)

theorem jtagSet_calm (i : JtagInstr) (dr : Nat) (hold : Bool) (s : State) : Calms s (jtagSet i dr hold s) :=
  calms_append (calms_of_spare (by simp [-Foot.ok_upd_iff])) (calms_ite (fun _ => mainReset_calm 4 _) fun _ => calms_nil)

theorem samplePreload_calm (pins : List Bool) (guarded free : List (Option Bool)) (s : State) :
    Calms s (samplePreload pins guarded free s) :=
  calms_andThen (jtagSet_calm _ _ _ s) fun t => calms_of_spare (by simp [-Foot.ok_upd_iff])

/-- A main die that is out of reset is not released. -/
theorem mainRelease_of_live {s : State} (h : s.b.sys.inReset = false) : mainRelease s = [] := by
  simp [mainRelease, h]

theorem mainRelease_acc (s : State) : (applyAll s (mainRelease s)).b.met.keep.acc = s.b.met.keep.acc := by
  unfold mainRelease
  split
  · rfl
  · rw [inOrder, Prog.andThen, applyAll_append]
    refine (calms_of_spare (effs_inOrder ?_)).acc.trans (applyAll_acc ?_)
    · simp
    · simp [updSys, Foot.butPart, Part.forall_iff, Part.same]

/-- The permission is set, and what follows keeps it. -/
theorem permissionGrant_calm (s : State) : Calms s (permissionGrant s) := by
  refine calms_ite (fun _ => calms_nil) fun _ => calms_andThen ?_ fun t => calms_of_spare (by simp)
  have permit : Calm s ((Eff.set F.SYS_STATUS_PERMIT 1).apply s) :=
    ⟨fun _ => .inr (by simp [Eff.apply, State.on]), rfl⟩
  exact permit.trans (calms_of_spare (by simp))

/-! ### Register writes -/

theorem writeSystem_calm (base o v : Nat) (s : State) : Calms s (writeSystem base o v s) := by
  unfold writeSystem
  split
  case h_2 => exact calms_cmdBits v (by simp [softReset_calm, calms_of_spare])
  case h_3 => exact calms_of_spare (cmdBits_spare v (by simp) s)
  case h_4 => exact calms_of_spare (cmdBits_spare v (by simp) s)
  all_goals exact calms_of_spare (by simp)

theorem regWrite_calm (base o v : Nat) (s : State) : Calms s (regWrite base o v s) := by
  unfold regWrite
  split_ifs
  · exact calms_of_spare (by simp)
  · exact calms_of_spare (by simp)
  · exact calms_of_spare (by simp)
  · exact writeSystem_calm base o v s
  · exact calms_of_spare (writeLane_spare (by omega) o v s)
  · exact calms_of_spare (by simp)
  · exact calms_of_spare (by simp)
  · exact calms_of_spare (by simp)
  · exact calms_of_spare (by simp)

/-- Page 0 has no configuration field that a commit is judged by again. -/
theorem page_zero_not_rws : ∀ r ∈ RegTable.rowsOf 0, r.acc ≠ .rws := by decide

theorem regionOf_page {addr base o : Nat} (h : regionOf addr = .page base o) :
    (base = 0 ∨ 0x1000 ≤ base) ∧ o < 0x1000 := by
  have bases : ∀ p ∈ RegTable.pages, p.base = 0 ∨ 0x1000 ≤ p.base := by decide
  unfold regionOf at h
  split_ifs at h
  split at h
  · cases h
    exact ⟨bases _ (List.mem_of_find?_eq_some ‹_›), Nat.mod_lt _ (by decide)⟩
  · cases h

theorem portErr_spare {f : Fld} (h : spare.key f.key) (hi : spare.key (f.key - 256)) (src : Origin) : Effs spare.ok (portErr src f) := by
  cases src <;> simp [portErr, h, hi]

theorem regionWrite_calm (src : Origin) (addr v : Nat) (s : State) : Calms s (regionWrite src addr v s) := by
  have readOnly := portErr_spare (f := F.HST_STICKY_RO_WRITE) (by simp) (by simp) src
  unfold regionWrite
  split
  case h_7 base o h =>
    refine calms_ite (fun _ => calms_of_spare (by simp)) fun _ => calms_ite (fun _ => calms_of_spare readOnly) fun _ => ?_
    refine calms_andThen (regWrite_calm base o v s) fun t => calms_onlyIf fun judged => ?_
    obtain ⟨rfl | above, low⟩ := regionOf_page h
    · obtain ⟨r, hr, hacc⟩ := List.any_eq_true.1 (Bool.and_eq_true_iff.1 judged).2
      have page : (0 + o) / 0x1000 = 0 := by omega
      have row : r ∈ RegTable.rowsOf 0 := page ▸ (List.mem_filter.1 hr).1
      exact absurd (by simpa using hacc) (page_zero_not_rws r row)
    · exact calms_of_spare (rejudge_spare above t)
  case h_2 | h_3 => exact calms_of_spare readOnly
  all_goals exact calms_of_spare (by simp)

theorem busWrite_calm (src : Origin) (addr v : Nat) (s : State) : Calms s (busWrite src addr v s) := by
  have unmapped := portErr_spare (f := F.HST_STICKY_UNMAPPED) (by simp) (by simp) src
  unfold busWrite
  dsimp only
  split_ifs
  · exact calms_of_spare unmapped
  · exact calms_nil
  · exact calms_nil
  · exact calms_of_spare (by simp)
  · exact calms_nil
  · exact calms_thenDo (by simp) fun t => regionWrite_calm src addr v t

/-! ### The host port -/

theorem hostWritePerform_calm (s : State) : Calms s (hostWritePerform s) := by
  unfold hostWritePerform
  split
  · exact calms_nil
  · exact calms_thenDo (by simp) fun t => busWrite_calm _ _ _ t

theorem flushWrites_calm (s : State) : Calms s (flushWrites s) := by
  refine calms_inOrder fun p hp t => ?_
  obtain ⟨_, -, rfl⟩ := List.mem_map.1 hp
  exact calms_onMain (hostWritePerform_calm t)

theorem hostRead_calm (a n : Nat) (cut : Bool) (s : State) : Calms s (hostRead a n cut s) := by
  refine calms_ite (fun _ => calms_nil) fun _ => calms_thenDo (by simp) fun t => ?_
  split_ifs
  · exact calms_nil
  · exact calms_andThen (flushWrites_calm t) fun u => calms_of_spare (by simp)
  · exact calms_of_spare (by simp)

theorem writeWords_calm (src : Origin) (l : List (Nat × Nat)) (s : State) : Calms s (writeWords src l s).2 := by
  induction l generalizing s with
  | nil => exact calms_nil
  | cons w l ih => exact calms_append (busWrite_calm src w.1 w.2 s) (ih _)

theorem linkWrite_calm (q : LinkReq) (s : State) : Calms s (linkWrite q s) := by
  unfold linkWrite
  split
  · exact calms_append (writeWords_calm _ _ s) (calms_of_spare (by simp))
  · exact calms_of_spare (by simp)

theorem linkWriteRow_calm (f : Option Frame) (s : State) : Calms s (linkRow 3 0x32 linkWrite f s) := by
  cases f with
  | some f => exact calms_of_spare (by simp [linkRow])
  | none =>
    unfold linkRow linkServe
    dsimp only
    split
    · exact calms_ite (fun _ => calms_thenDo (by simp) fun t => linkWrite_calm _ t) fun _ => calms_nil
    · exact calms_nil

theorem deliver_calm (n cls type : Nat) (f : Frame) {p : Prog} (h : ∀ t, Calms t (p t)) (s : State) :
    Calms s (deliver n cls type f p s) := by
  unfold deliver
  dsimp only
  split_ifs
  · exact calms_nil
  · exact calms_of_spare (by simp)
  · exact calms_of_spare (by simp)
  · exact calms_of_spare (by simp)
  · exact calms_thenDo (by simp) h

theorem remoteWrite_calm (n : Nat) (f : Frame) (s : State) : Calms s (remoteWrite n f s) := by
  refine deliver_calm n 3 0x32 f (fun t => ?_) s
  have answer (err : Nat) (me : Bool) (t : State) :
      Calms t (onlyIf (fun _ => me) (onMain (originate 3 f.src 0x33 [accessBlock (frameTag f) (accessCount f) err 0 (accessAddr f)])) t) :=
    calms_of_spare (by simp)
  refine calms_ite (fun _ => answer _ _ t) fun _ => calms_ite (fun _ => ?_) fun _ => answer _ _ t
  exact calms_append (writeWords_calm _ _ t) (answer _ _ _)

/-! ### The loader -/

theorem mtcForce_calm (o v : Nat) (s : State) : Calms s (mtcForce o v s) :=
  calms_thenDo (by simp) fun t => calms_andThen (regWrite_calm _ o v t) fun u => calms_of_spare (by simp)

theorem loadWrite_calm (signed : Bool) (addr v : Nat) (s : State) : Calms s (loadWrite signed addr v s) := by
  have write (t : State) : Calms t (busWrite .loader addr v t) := busWrite_calm .loader addr v t
  have check (eng : Nat) (t : State) : Calms t (kCheckDone eng none t) := calms_of_spare (by simp)
  have next (t : State) : Calms t (adoptNext t) := calms_of_spare (by simp)
  unfold loadWrite
  split
  · exact calms_ite (fun _ => write s) fun _ => calms_of_spare (by simp)
  · refine calms_ite (fun _ => calms_ite (fun _ => calms_nil) fun _ => calms_ite (fun _ => mtcForce_calm _ v s) fun _ => write s)
      fun _ => ?_
    split
    · exact calms_inOrder (by simp [write, check, next])
    · exact calms_inOrder (by simp [write, next])
  · exact calms_inOrder (by simp [write, next])

theorem loadAll_calm (signed : Bool) (l : List (Nat × Nat)) (s : State) : Calms s (loadAll signed l s).1 := by
  induction l generalizing s with
  | nil => exact calms_nil
  | cons w l ih =>
    unfold loadAll
    dsimp only
    split
    · exact loadWrite_calm signed w.1 w.2 s
    · exact calms_append (loadWrite_calm signed w.1 w.2 s) (ih _)

theorem applyCopy_calm (copy : Nat) {next : Prog} (h : ∀ t, Calms t (next t)) (s : State) : Calms s (applyCopy copy next s) := by
  unfold applyCopy
  split
  · exact h s
  · dsimp only
    split
    · exact calms_append (loadAll_calm _ _ s) (calms_of_spare (by simp))
    · refine calms_append (calms_append (loadAll_calm _ _ s) (calms_of_spare (by simp))) ?_
      exact calms_andThen (calms_of_spare (by simp)) h

theorem configApply_calm (s : State) : Calms s (configApply s) := by
  have defaults (t : State) : Calms t (applyDefaults t) := calms_of_spare (by simp)
  refine calms_ite (fun _ => calms_nil) fun _ => calms_inOrder fun p hp t => ?_
  simp only [List.mem_cons, List.not_mem_nil, or_false] at hp
  obtain rfl | rfl | rfl := hp
  · exact calms_of_spare (by simp)
  · cases s.b.cfg.chosen with
    | none => exact defaults t
    | some c =>
      refine applyCopy_calm c (fun u => ?_) t
      split
      · exact applyCopy_calm _ defaults u
      · exact defaults u
  · exact calms_of_spare (by simp)

end Sys2Proof.Machine
end

section
/-! The commands that meter energy keep the permission; then O7 and O8. -/

namespace Sys2Proof.Machine

/-! ### The footprint with the accumulators -/

/-- All may be written but SYS_STATUS.PERMIT and whether the main die is in reset. -/
def steady : Foot := { spare with part := (· ≠ .inReset) }

theorem ok_steady {e : Eff} (h : spare.ok e) : steady.ok e := by
  have parts {fs : List Fld} {ps : List Part} (h : spare.Has fs ps) : steady.Has fs ps := ⟨h.fld, fun p hp => (h.part p hp).1⟩
  cases e with
  | sticky f => exact parts h
  | upd g => exact fun p hp => h p fun k => hp k.1
  | led c i ps => exact parts h
  | que q t ws => exact ⟨parts h.1, h.2⟩
  | queSign q t ws => exact ⟨parts h.1, h.2⟩
  | queDone q t ws => exact ⟨parts h.1, h.2⟩
  | _ => exact h

theorem effs_steady {es : List Eff} (h : Effs spare.ok es) : Effs steady.ok es := fun e he => ok_steady (h e he)

theorem updKeep_steady (g : MetKeep → MetKeep) : steady.ok (updKeep g) := Foot.ok_updKeep (fun h => by cases h) (.inl fun h => by cases h)

theorem alls_steady {ps : List Prog} (h : Alls spare.ok ps) : Alls steady.ok ps := fun p hp s => effs_steady (h p hp s)

theorem steady_cons {e : Eff} {es : List Eff} (he : steady.ok e) (h : Effs spare.ok es) : Effs steady.ok (e :: es) :=
  effs_cons.2 ⟨he, effs_steady h⟩

/-- Effects of this footprint keep the permission. -/
theorem permitted_of_steady {s : State} {es : List Eff} (h : Effs steady.ok es) (hs : Permitted s) : Permitted (applyAll s es) := by
  have kept := (Foot.Kept.refl steady s).effects (fun _ _ _ _ _ => trivial) h
  have reset : (applyAll s es).b.sys.inReset = s.b.sys.inReset := kept.part .inReset fun k => k rfl
  have permit : (applyAll s es).on F.SYS_STATUS_PERMIT = s.on F.SYS_STATUS_PERMIT :=
    congrArg (· != 0) (kept.regs F.SYS_STATUS_PERMIT fun k => k rfl)
  rwa [Permitted, reset, permit]

/-! ### The commands that meter energy -/

theorem accAdd_steady (a : Nat) (e : Rat) (s : State) : Effs steady.ok (accAdd a e s) :=
  steady_cons (updKeep_steady _) (by simp)

theorem presetLoad_steady (s : State) : Effs steady.ok (presetLoad s) := by
  refine effs_cons.2 ⟨ok_steady (by simp), effs_flatMap.2 fun p _ => steady_cons (updKeep_steady _) (by simp)⟩

theorem setAdd_steady (x : Nat) (p q v t : Rat) (s : State) : Effs steady.ok (setAdd x p q v t s) :=
  effs_inOrder (by simp [accAdd_steady])

theorem subInterval_steady (nv : List Int) (s : State) : Effs steady.ok (subInterval nv s) := by
  refine effs_ite.2 ⟨fun _ => effs_nil, fun _ => effs_inOrder ?_⟩
  simp only [alls_cons, alls_nil, and_true]
  refine ⟨fun s => effs_steady (by simp), fun s => effs_steady (by simp), presetLoad_steady, fun s₁ => effs_inOrder ?_⟩
  refine alls_cons.2 ⟨fun s => effs_inOrder ?_, ?_⟩
  · exact alls_map.2 fun x _ t => setAdd_steady _ _ _ _ _ t
  · exact alls_map.2 fun p _ t => effs_steady (by simp)

theorem metRestore_steady (bad : Nat) (s : State) : Effs steady.ok (metRestore bad s) := by
  unfold metRestore
  split
  · exact steady_cons (updKeep_steady _) (by simp)
  · exact steady_cons (updKeep_steady _) (by simp)

theorem bedStart_steady (src : BedSrc) (mv vbat badCp badMet : Nat) (s : State) :
    Effs steady.ok (bedStart src mv vbat badCp badMet s) := by
  refine effs_inOrder ?_
  simp only [alls_cons, alls_nil, and_true]
  exact ⟨fun s => effs_steady (by simp [keyAt]), fun s => effs_steady (by simp), fun s => effs_steady (by simp),
    fun s => effs_steady (by simp), metRestore_steady badMet⟩

theorem bedrockStart_steady (mv vbat badCp badMet : Nat) (s : State) : Effs steady.ok (bedrockStart mv vbat badCp badMet s) := by
  unfold bedrockStart
  split_ifs
  · exact effs_nil
  · exact effs_steady (by simp)
  · exact bedStart_steady _ _ _ _ _ s
  · exact effs_thenDo.2 ⟨effs_steady (by simp), bedStart_steady _ _ _ _ _ _⟩

theorem toOff_steady (s : State) : Effs steady.ok (toOff s) := by
  have off : steady.ok (.upd fun b =>
      { b with ldg := { hold := b.ldg.hold, holdLost := b.ldg.holdLost }, met := { b.met with keep := {}, watch := false } }) :=
    Foot.ok_upd (ps := [.ldg, .met, .acc]) (fun p hp h => by subst h; simp at hp) fun _ => rfl
  exact effs_cons.2 ⟨ok_steady (by simp), effs_cons.2 ⟨ok_steady (by simp), effs_cons.2 ⟨off, effs_nil⟩⟩⟩

theorem vbatChange_steady (mv : Nat) (s : State) : Effs steady.ok (vbatChange mv s) := by
  unfold vbatChange
  dsimp only
  split_ifs
  · exact bedStart_steady _ _ _ _ _ s
  · exact effs_steady (by simp)
  · exact effs_steady (by simp)
  · exact effs_steady (by simp)

theorem storeThreshold_steady (mv harv : Nat) (s : State) : Effs steady.ok (storeThreshold mv harv s) := by
  refine effs_thenDo.2 ⟨effs_steady (by simp), effs_onlyIf.2 fun _ => effs_inOrder ?_⟩
  simp only [alls_cons, alls_nil, and_true]
  refine ⟨fun s => effs_steady (by simp), fun s => effs_steady (by simp), fun s => effs_steady (by simp), fun s => ?_⟩
  exact effs_ite.2 ⟨fun _ => toOff_steady s, fun _ => effs_steady (by simp)⟩

theorem vddPresent_steady (mv : Nat) (s : State) : Effs steady.ok (vddPresent mv s) := by
  refine effs_ite.2 ⟨fun _ => effs_nil, fun _ => effs_inOrder (alls_cons.2 ⟨fun t => ?_, ?_⟩)⟩
  · split
    · exact bedStart_steady _ _ _ _ _ t
    · exact effs_nil
  · exact alls_steady (by simp)

theorem vddPresentLock_steady (mv us : Nat) (s : State) : Effs steady.ok (vddPresentLock mv us s) := by
  refine effs_ite.2 ⟨fun _ => effs_nil, fun _ => effs_inOrder ?_⟩
  simp only [alls_cons, alls_nil, and_true]
  exact ⟨vddPresent_steady mv, fun s => effs_steady (by simp)⟩

/-! ### Every command -/

theorem exec_calm {c : Instr} {s t : State} (ht : exec c s = .next t) (hm : metersEnergy c = false)
    (hr : c ≠ .mainResetRelease) : Calm s t := by
  cases c
  case metrologySubinterval => cases hm
  case vbatPresentChange => cases hm
  case storeThreshold => cases hm
  case bedrockStart => cases hm
  case vddPwrPresent => cases hm
  case mainResetRelease => exact absurd rfl hr
  case permissionGrant => exact calm_of_run (calms_onMain (permissionGrant_calm s)) ht
  case powerOnReset => exact calm_of_run (mainReset_calm _ s) ht
  case brownout => exact calm_of_run (mainReset_calm _ s) ht
  case rstNReset => exact calm_of_run (mainReset_calm _ s) ht
  case softReset => exact calm_of_run (calms_onMain (softReset_calm _ s)) ht
  case bypass => exact calm_of_run (jtagSet_calm _ _ _ s) ht
  case idcode => exact calm_of_run (jtagSet_calm _ _ _ s) ht
  case extest => exact calm_of_run (jtagSet_calm _ _ _ s) ht
  case highz => exact calm_of_run (jtagSet_calm _ _ _ s) ht
  case samplePreload => exact calm_of_run (samplePreload_calm _ _ _ s) ht
  case registerWrite => exact calm_of_run (calms_onMain (busWrite_calm _ _ _ s)) ht
  case remoteWriteRequest => exact calm_of_run (calms_onMain (remoteWrite_calm _ _ s)) ht
  case hostWritePerform => exact calm_of_run (calms_onMain (hostWritePerform_calm s)) ht
  case hostLinkWriteRequest => exact calm_of_run (calms_onMain (linkWriteRow_calm _ s)) ht
  case read => exact calm_of_run (calms_onMain (hostRead_calm _ _ _ s)) ht
  case read4 => exact calm_of_run (calms_onMain (hostRead_calm _ _ _ s)) ht
  case configApplyDone => exact calm_of_run (calms_onMain (configApply_calm s)) ht
  case localSecondBoundary =>
    exact calm_of_run (calms_onMain (calms_of_spare (secondBoundary_ok (by simp) (by simp) (by simp [ppsEdgeFld, keyAt]) (by simp)))) ht
  all_goals
    refine calm_of_run (calms_of_spare ?_) ht
    simp

/-- The commands that meter energy keep the permission. -/
theorem exec_meters_permitted {c : Instr} {s t : State} (ht : exec c s = .next t) (hm : metersEnergy c = true)
    (hs : Permitted s) : Permitted t := by
  have keep {p : Prog} (h : Effs steady.ok (p s)) (ht : run p s = .next t) : Permitted t := by
    cases ht
    exact permitted_of_steady h hs
  cases c
  case metrologySubinterval => exact keep (effs_onlyIf.2 fun _ => subInterval_steady _ s) ht
  case vbatPresentChange => exact keep (vbatChange_steady _ s) ht
  case storeThreshold => exact keep (storeThreshold_steady _ _ s) ht
  case bedrockStart => exact keep (bedrockStart_steady _ _ _ _ s) ht
  case vddPwrPresent => exact keep (vddPresentLock_steady _ _ s) ht
  all_goals cases hm

end Sys2Proof.Machine

namespace Sys2Proof

open Machine

/-- Settles O7: no command writes SYS_STATUS.PERMIT but its grant, and a register write that resets leaves the main die in
reset; a main die that is out of reset is not released. -/
theorem permissionHolds : Obligations.PermissionHolds := by
  intro c s t ht live permit
  have granted : Permitted s := .inr permit
  by_cases release : c = .mainResetRelease
  · subst release
    have same : applyAll s (mainRelease s) = s := by
      rw [mainRelease_of_live live]
      rfl
    cases ht
    exact same.symm ▸ granted
  · cases hm : metersEnergy c with
    | true => exact exec_meters_permitted ht hm granted
    | false => exact (exec_calm ht hm release).permit granted

/-- Settles O8: every other command's effects leave the accumulators, those of a reset, of a register write from any side, of
an image and of a freeze among them. -/
theorem energyIsolated : Obligations.EnergyIsolated := by
  intro c s t ht hm
  by_cases release : c = .mainResetRelease
  · subst release
    cases ht
    exact mainRelease_acc s
  · exact (exec_calm ht hm release).acc

end Sys2Proof
end

section
/-! FAC_CTRL.ENABLE under a scheduled action of the running cycle: the action's bit prevails over the write (R92), whatever
field it names. -/

namespace Sys2Proof.Machine

open Sys2Proof.Tests

/-- The rotation is enabled and idle, and the running cycle's list of scheduled actions has its ENABLE bit as set. -/
def enableFixed : State := (wReg [(F.FAC_CTRL_ENABLE, 1)]).updB fun b => { b with schedNow := [(F.FAC_CTRL_ENABLE.key, true)] }

theorem enable_facCtrlWrite_enableFixed : (after (onMain (facCtrlWrite 0)) enableFixed).on F.FAC_CTRL_ENABLE = true := by
  decide +kernel

end Sys2Proof.Machine

namespace Sys2Proof

open Machine

/-- Refutes O39: a write of 0 to FAC_CTRL.ENABLE leaves it set where the cycle's scheduled actions fix that bit as set (R92).
The statement holds of every state and has no premise on those actions; `dueBits` itself fixes bits of PWX_GEN.GRP and
PHS_RUN.SET alone, so the machine by itself does not come to this state. -/
theorem not_fastConverterCommands : ¬ Obligations.FastConverterCommands := by
  rintro ⟨-, -, -, -, -, -, -, -, -, -, -, -, -, -, -, -, -, -, -, -, -, -, disable, -⟩
  obtain ⟨t, ht, off, -⟩ := disable 0 enableFixed rfl (by decide) (by decide) (by decide)
  have ran : after (onMain (facCtrlWrite 0)) enableFixed = t := Host.Outcome.next.inj ht
  rw [← ran, enable_facCtrlWrite_enableFixed] at off
  exact absurd off (by decide)

end Sys2Proof
end
